-- ==== Sys2Proof/Word.lean ====
section
/-! DEFINITION. The register word of R14, the exact fraction, and their plainest arithmetic. -/

namespace Sys2Proof

/-- A register word: 32 bits, bit 0 least significant (R14). -/
abbrev Word := BitVec 32

/-- One byte of model memory. -/
abbrev Byte := BitVec 8

/-- Bits [hi:lo] of a word, as a number. -/
def Word.field (w : Word) (hi lo : Nat) : Nat := (w.toNat >>> lo) % 2 ^ (hi + 1 - lo)

/-- One bit of a word. -/
def Word.bit (w : Word) (i : Nat) : Bool := (w.toNat >>> i) % 2 == 1

/-- `w` with bits [hi:lo] replaced by `v` (taken modulo the field). -/
def Word.put (w : Word) (hi lo v : Nat) : Word :=
  BitVec.ofNat 32 (w.toNat - w.field hi lo * 2 ^ lo + (v % 2 ^ (hi + 1 - lo)) * 2 ^ lo)

/-- A number of `n` bits read as two's complement. -/
def signed (n v : Nat) : Int := if v % 2 ^ n < 2 ^ (n - 1) then (v % 2 ^ n : Nat) else (v % 2 ^ n : Nat) - (2 : Int) ^ n

/-- The two's complement pattern of `v` in `n` bits. -/
def unsigned (n : Nat) (v : Int) : Nat := (v % (2 : Int) ^ n).toNat

/-- An exact quotient. Quantities that the spec says are held exactly and that no fixed scale
makes whole (a cell's stress under R434, Blanket's powers under R383) are held so. -/
structure Frac where
  num : Int
  den : Nat
  deriving DecidableEq, Repr

end Sys2Proof
end

