-- ==== Sys2Proof/Config.lean ====
section
/-! DEFINITION. The integration parameters, which no command changes, and the free values: what the
spec leaves open has a name here and no body, so that no statement can rest on a value of it. -/

namespace Sys2Proof

/-- The four configurations of R1. -/
inductive Build where
  | f16 | f32 | f48 | f64
  deriving DecidableEq, Repr

/-- `SECTORS` of a configuration (R1). -/
def Build.sectors : Build → Nat
  | .f16 => 16 | .f32 => 32 | .f48 => 48 | .f64 => 64

/-- `REGION_MAP` (R27): the reference's formulas (R29), or an integrator's table, whose entry i is the
global cluster that feeds unit i of the kind. -/
inductive RegionMap where
  | reference
  | table (tiles groups lanes slices : List Nat)
  deriving DecidableEq, Repr

/-- The parameters that the integrator fixes: `SECTORS` (R1), `SECURE_HOST` (R564), `REGION_MAP` (R27),
`SECTOR_ADJ` (R198), `TILE_SPARES` and `BANK_SPARES` (R405), `I3C_SADDR`, `I3C_MFGID` and `I3C_DCR` (R565),
`FJ_TILE` (R561), the fabric's chip number (R561), `LOOKUP_PORTS` (R556) and `BRG_FLIGHT` of each link (R568). -/
structure Params where
  build       : Build
  secureHost  : Bool
  regionMap   : RegionMap
  sectorAdj   : List (Nat × List Nat)
  tileSpares  : Nat
  bankSpares  : Nat
  i3cSaddr    : BitVec 7
  i3cMfgid    : BitVec 15
  i3cDcr      : Byte
  fjTile      : BitVec 10
  chip        : BitVec 17
  lookupPorts : Nat
  brgFlight   : List Nat
  deriving DecidableEq, Repr

/-- The reference: one Fjollany-64 with the map of R29 and the spares of R405. The parameters that the
spec gives no reference value are 0 (DESIGN CHOICE, log entry 2). -/
def Params.reference : Params :=
  { build := .f64, secureHost := false, regionMap := .reference, sectorAdj := [], tileSpares := 1,
    bankSpares := 3, i3cSaddr := 0, i3cMfgid := 0, i3cDcr := 0, fjTile := 0, chip := 0,
    lookupPorts := 1, brgFlight := [0, 0, 0] }

/-- FREE VALUE (log entry 3): the result of a quotient of the spec whose divisor is 0 where the spec
states none (R149 with a zero mean trim, R256 with ΣE = 0, R282 with a zero mean, R302 with rh = rl,
R441 with a zero trim). -/
opaque Config.divByZero : Int → Int

/-- FREE VALUE (log entry 9): the page number that a raise of `CFG_SEAL_BAD` carries (R475); a set's seal belongs to no one
page, and the spec states none. It may differ from raise to raise, which are told apart by their ticks. -/
opaque Config.sealPage : Nat → BitVec 8

/-- FREE VALUE (log entry 10): the length that the I3C target holds after a SETMWL or SETMRL outside the range of R565;
the spec states none but keeps the lengths within their range. -/
opaque Config.i3cLength : Nat → Nat

end Sys2Proof
end

