-- ==== Sys2Proof/Syntax.lean ====
section
/-! DEFINITION. The commands of the block: one constructor per row of spec/opcode_table.json, in the
table's order, with the row's operands. What the surroundings supply at an event (a sensor code, a raw
converter code, what a flash scan found) is an operand. -/

namespace Sys2Proof

/-- The two host ports (R61, R566). -/
inductive Port where
  | fabric | i3c
  deriving DecidableEq, Repr

/-- Who makes an access: the port, the fabric's security attribute, and the source fields of R560. -/
structure Access where
  port : Port
  attr : Bool
  chip : BitVec 17 := 0
  tile : BitVec 10 := 0
  deriving DecidableEq, Repr

/-- The form of an access: its block offset, its width in bits, whether every byte enable is set (R61). -/
structure Form where
  off   : BitVec 24
  width : Nat
  full  : Bool
  deriving DecidableEq, Repr

/-- The references a PLL can run on (R34, R55). -/
inductive Ref where
  | a | b | bridge
  deriving DecidableEq, Repr

/-- What R35 measures of a reference: its edges in a window of 65,536 ticks, and the longest run of ticks in it without
an edge. -/
structure RefWindow where
  edges : Nat
  gap   : Nat
  deriving DecidableEq, Repr

/-- A reference with the window that shows its loss, and one with the windows that show it good again (R35, R37). -/
structure RefLoss where
  ref    : Ref
  window : RefWindow
  deriving DecidableEq, Repr
structure RefReturn where
  ref     : Ref
  windows : List RefWindow
  deriving DecidableEq, Repr

/-- The self-timed engines of R49. -/
inductive EngineId where
  | sector (s : Nat) | compensator (d : Nat) | tally | capLoop | thermal | arbiter (q : Nat) | faultMgr
  deriving DecidableEq, Repr

/-- On which side of its band a cell finds the sense node (R105). -/
inductive Side where
  | below | above
  deriving DecidableEq, Repr

/-- What the window comparator reports (R108, R117, R124). -/
inductive Window where
  | below | inside | above
  deriving DecidableEq, Repr

/-- One cluster's sensors A and B and its window comparator, at tick 0 (R115, R108). -/
structure ClusterSense where
  codeA  : BitVec 7
  codeB  : BitVec 7
  window : Window
  deriving DecidableEq, Repr

/-- What a sector engine finds at its start: its clusters' sensors, and whether the parity of what it holds fails (R115,
R167). -/
structure SectorSense where
  clusters : List ClusterSense
  bad      : Bool
  deriving DecidableEq, Repr

/-- The next samples of a converter, each with its correction overflow (R316). -/
structure CorrSamples where
  conv : Nat
  bad  : List Bool
  deriving DecidableEq, Repr

/-- The two kinds of unit that the seating plan places (R401). -/
inductive UnitKind where
  | tile | bank
  deriving DecidableEq, Repr

/-- A model or plan or register entry of a sealed list: canonical block offset and value (R513). -/
abbrev SealEntry := Nat × Word

/-- The payload of a journal record (R512), as the values that its bytes encode. -/
inductive Payload where
  | sealed  (entries : List SealEntry)
  | trims   (values : List Nat)
  | wear    (cells : List (Nat × Nat × Nat × Nat)) (ages : List Nat)
  | wearAll (powered : Nat) (chans : List (Nat × Nat × Nat)) (adcs diodes engines : List Nat)
  | retire  (cells legs sensors engines converters diodes channels tiles banks sectors : List Nat)
  | plan    (tiles banks : List Word)
  | model   (bytes : List Byte)
  | empty
  deriving DecidableEq, Repr

/-- One record of the journal (R510): where it lies, its header's fields, its payload, and whether it passes the checks of
R511. -/
structure Record where
  sector  : Nat
  block   : Nat
  typ     : Nat
  key     : Nat
  len     : Nat
  seq     : Nat
  written : Nat
  sealCrc : Word
  payload : Payload
  valid   : Bool
  deriving DecidableEq, Repr

/-- A flash sector's 64 header bytes as the part gives them on a read (R507). -/
structure SectorHeader where
  index : Nat
  bytes : List Byte
  deriving DecidableEq, Repr

/-- A flash sector's data as the part gives it on a read: the 528 bytes of each block that is not blank, at the block's byte
offset in the sector (R506). -/
structure SectorImage where
  index : Nat
  data  : List (Nat × List Byte)
  deriving DecidableEq, Repr

/-- What the store learns of a record's programming (R517, R525): one of its page programs but the last is complete; the part
reports an error; or every page is programmed, and the blocks read back as given. -/
inductive ProgramReport where
  | page
  | failed
  | readBack (blocks : List (List Byte))
  deriving DecidableEq, Repr

/-- What a scan makes of a sector (R507, R515): its header's bytes and fields, whether it counts as erased, and where its write
pointer would stand. -/
structure SectorInfo where
  index    : Nat
  head     : List Byte
  erases   : Nat
  openSeq  : Nat
  erased   : Bool
  nextFree : Nat
  deriving DecidableEq, Repr

/-- The SFDP read (R504, R505): the header's signature and major revision, the DWORDs of the basic flash parameter table, and
those of the 4-byte address instruction table, where it is listed. -/
structure SfdpInfo where
  signature : Word
  major     : Byte
  bfpt      : List Word
  four      : List Word
  deriving DecidableEq, Repr

/-- What the I3C target finds wrong in a transfer (R565 to R567): a target error TE0 to TE6, a form error, or a common
command code that it does not list, direct or broadcast. -/
inductive I3cFault where
  | te (n : Nat)
  | form
  | unlisted (direct : Bool)
  deriving DecidableEq, Repr

/-- The commands: one per row of the table. -/
inductive Instr where
  -- time base
  | coldStart
  | powerLoss
  | pllFirstLock (aGood bGood : Bool)
  | tbPllUnlock
  | tbRefLost (loss : RefLoss)
  | refGoodAgain (back : RefReturn)
  | tbHoldoverExpired
  | tbTickLoRead (a : Access) (wide : Bool)
  | tbTickHiRead (a : Access)
  | tbSlackRead (a : Access) (other : Bool)
  | engineCompletion (e : EngineId)
  -- bridge
  | bridgeSyncFrame (payload : BitVec 64) (crc : Byte)
  | bridgeStrobeFrame (applyTick : BitVec 64) (crc : Byte)
  | bridgeCapFrame (cap : BitVec 13) (crc : Byte)
  | bridgeEnergyFrame (inst : Nat) (inc : BitVec 48) (k : BitVec 16) (crc : Byte)
  | brgSyncLost
  | secondaryLockTimeout
  -- registers
  | registerWrite (a : Access) (f : Form) (data : BitVec 64)
  | atomicAdd (a : Access) (f : Form) (data : BitVec 64)
  | bitAliasWrite (a : Access) (f : Form) (data : Word)
  | rcRegisterRead (a : Access) (f : Form)
  | resultRegisterRead (a : Access) (f : Form)
  | genUpdateGo (a : Access)
  | updStrobeEdge
  | strobeApplyTick
  | boundaryApply
  | lcTakeEffect
  | parityWalk
  | genParinjWrite (a : Access) (page : BitVec 8) (go : Bool)
  | genSnapGo (a : Access)
  -- cells and clusters
  | legStuckOff (cell pos : Nat)
  | cellLegSpared (cell : Nat)
  | cellLegStuckOn (cell : Nat)
  | cellStep (cell : Nat) (side : Side)
  | cellStartDone (cell : Nat)
  | cellOvercurrent (cell : Nat)
  | cellCmpConflict (cell : Nat)
  | cluSpareTimeout (clu : Nat)
  | cluSensorDisagree (clu : Nat)
  | cluSensorLost (clu : Nat)
  | droopTrip (clu : Nat)
  | schussForceEnd (clu : Nat) (inside : Bool)
  | schussRelease (clu : Nat)
  | schussLong (clu : Nat)
  | cluCellcmdIsolate (a : Access) (sec : Nat) (cell : BitVec 6)
  | cluCellcmdRetest (a : Access) (sec : Nat) (cell : BitVec 6)
  | cluCellcmdPass (a : Access) (sec : Nat) (cell : BitVec 6)
  | cluCellcmdFail (a : Access) (sec : Nat) (cell : BitVec 6)
  | cluCellcmdRotate (a : Access) (sec : Nat) (cell : BitVec 6)
  | cluTrimWrite (cell : Nat)
  -- sector engine
  | sectorEngineStart (sec : Nat) (sense : SectorSense)
  | sectorEngineLatch (sec : Nat)
  | secBandReadback (sec : Nat) (bad : Bool)
  | secTrimLimit (clu : Nat)
  | secCmdPlausClear (a : Access) (sec : Nat)
  | secCmdToSpare (a : Access) (sec : Nat)
  | secCmdHandback (a : Access) (sec : Nat)
  | spareEngineSwitch (sec : Nat)
  -- Chairlift
  | chairliftSectorStep (sec : Nat)
  | chairliftRailStep (dom : Nat)
  | chlIlkTimeout (sec : Nat)
  | chlSettleTimeout (sec : Nat)
  | inrushGrant (quad : Nat)
  | inrushReservationEnd (quad : Nat)
  | neighbourCheck (sec unit : Nat)
  | clusterEnable (clu : Nat)
  | switchOffComplete (sec : Nat)
  -- Trail
  | trailPush (a : Access) (f : Form) (rec : BitVec 128)
  | trailCancel (a : Access) (f : Form) (rec : BitVec 128)
  | trailHeldPushAccept (quad : Nat)
  | trailPushTimeout (quad : Nat)
  | trailArm (quad slot : Nat)
  | trailPresent (quad slot : Nat)
  | trailExpire (quad slot : Nat)
  | trailMiss (quad slot : Nat)
  | trailHoldEnd (quad slot : Nat)
  | trailCmdFlush (a : Access) (mask : BitVec 4)
  -- Tally
  | activityMessage (lane : Nat) (msg : Word)
  | tallyStart (speed : BitVec 10)
  | tallyLatch
  | modelStagingWrite (a : Access) (f : Form) (data : BitVec 128)
  | talLoadInstall (a : Access) (unit : BitVec 4)
  | talLoadAbort (a : Access)
  | tallyInstallCheckDone
  | tallyInstallActivate
  -- board stages
  | stgCmdStart (a : Access) (dom : Nat)
  | stgCmdStop (a : Access) (dom : Nat)
  | stgCmdRetire (a : Access) (dom : Nat) (ch : BitVec 6)
  | stgCmdReturn (a : Access) (dom : Nat) (ch : BitVec 6)
  | stgSoftEntry (dom : Nat)
  | compensatorStart (dom : Nat)
  | compensatorLatch (dom : Nat)
  | stgConfirmDone (dom : Nat)
  | stgPgTimeout (dom : Nat)
  | stgSsShort (dom : Nat)
  | switchingPeriodStart (dom : Nat)
  | switchingCycleStart (ch : Nat)
  | fastLimitTrip (ch : Nat)
  | zeroCrossing (ch : Nat)
  | stgBUpdate (dom : Nat)
  | stgChOverload (ch : Nat)
  | stgUv (dom : Nat)
  | stgOv (dom : Nat)
  | stgSenseLost (dom : Nat)
  | railTargetUpdate (dom : Nat)
  -- telemetry
  | adcCalPair (conv : Nat) (rl8 rh8 : Nat)
  | telemetryResult (quad : Nat) (raws : List Nat)
  | sequencePassEnd (quad : Nat)
  | urgentRequest (quad : Nat) (who : Nat) (chan : BitVec 8)
  | qdUrgreqGo (a : Access) (quad : Nat) (chan : BitVec 8)
  | urgentConversionStart (quad : Nat)
  | urgentResult (quad : Nat) (raws : List Nat)
  | adcCorrErr (samples : CorrSamples)
  | adcXchkArbitration (dom quad : Nat)
  | adcXchkResult (dom : Nat) (raws : List Nat)
  | adcReplaceConnect (role : Nat)
  | adcCmdRetire (a : Access) (conv : Nat)
  | adcCmdRetest (a : Access) (conv : Nat)
  | adcRetestDone (conv : Nat)
  -- thermal
  | thermalStart
  | thermalLatch
  | thermalGraceExpiry
  | enforceStep
  | thmCmdRetire (a : Access) (diode : BitVec 7)
  | thmCmdReturn (a : Access) (diode : BitVec 7)
  | thmCmdTreturn (a : Access) (therm : BitVec 3)
  -- capping and energy
  | capLoopStart
  | capLoopLatch
  | energyAccumulate
  | jobEnergyAdd
  | hostJobstart (a : Access) (id : Word)
  | hostJobend (a : Access) (id : Word)
  -- Blanket
  | blanketEvaluation
  | blanketLevelDrive
  | blkMsgEnter (a : Access)
  | blkMsgExit (a : Access)
  -- seating plan
  | lookupQuery (port : Nat) (kind : UnitKind) (index : BitVec 13) (epoch : BitVec 8)
  | lookupAnswer (port : Nat)
  | seatEntryWrite (a : Access) (f : Form) (data : BitVec 64)
  | placementDecision
  | migrationDestReady
  | migrationPowerTimeout
  | migrationCopyTimeout
  | seatMigack (a : Access) (seq : BitVec 8) (status : BitVec 2)
  | seatFlip
  | seatGraceEnd
  | seatCmdMove (a : Access) (kind : UnitKind) (index : BitVec 13)
  | seatCmdRetire (a : Access) (kind : UnitKind) (index : BitVec 13)
  | seatCmdReturn (a : Access) (kind : UnitKind) (index : BitVec 13)
  | seatCmdScrub (a : Access) (tag : BitVec 8)
  | seatCmdAbort (a : Access)
  | scrubHoldEnd
  | seatWake (a : Access) (group : BitVec 7)
  | bankGroupIdle (group : Nat)
  | migRecordResponse (ok : Bool)
  -- wear and sparing
  | poweredSecond
  | wearSaveDue
  | rotationStart
  | retestStepDone (clu : Nat) (ok : Bool)
  | calCmdSelftestSector (a : Access) (index : BitVec 6)
  | calCmdSelftestSpare (a : Access) (index : BitVec 6)
  | selfTestDone (pass : Bool)
  -- command ring
  | ringPresent (quad req stop reg : Nat) (write : Bool) (data : Word) (opn cls : Bool)
  | arbiterDrawStart (quad : Nat)
  | arbiterDrawLatch (quad : Nat)
  | ringTransactionComplete (quad : Nat) (rdata : Word)
  | lockLimitExpiry (quad : Nat)
  | dbgCmd (a : Access) (cmd : BitVec 20)
  -- faults
  | faultLatch
  | fltInject (a : Access) (src : BitVec 7) (detail : BitVec 16)
  | aliveToggle
  | alertWriteResponse (ok : Bool)
  | ibiComplete
  | quietPeriodEnd (dom : Nat)
  | chipQuietEnd
  | fltCmdRearm (a : Access)
  | fltCmdClear (a : Access) (mask : BitVec 4)
  | fltCmdClearChip (a : Access)
  -- calibration store
  | flashResetWaitEnd
  | flashJedecId (id : BitVec 24)
  | flashSfdpRead (info : SfdpInfo)
  | flashScanDone (headers : List SectorHeader) (images : List SectorImage)
  | calWriteRequest (typ key : Nat)
  | flashProgramDone (report : ProgramReport)
  | flashEraseDone (ok : Bool)
  | calOpTimeout
  | calReclaim
  | calScrubDue (reads : List SectorImage)
  | calStcmdSave (a : Access) (scope : BitVec 3) (key : BitVec 4)
  | calStcmdScrub (a : Access) (reads : List SectorImage)
  | calStcmdTombstone (a : Access) (typ : BitVec 4) (key : BitVec 4)
  -- start-up and shut-down
  | bootLoadDone
  | genBootcmdSafeProfile (a : Access)
  | genBootcmdShutdown (a : Access)
  | genBootcmdRestart (a : Access)
  | genBootcmdWarmReset (a : Access) (key : Byte)
  | bootSenseDone
  | bootSlotStart
  | shutdownDomainStop (dom : Nat)
  | shutdownTimeout
  -- link lane groups
  | lnkDiscPresent (a : Access) (group : BitVec 4) (cls : BitVec 2)
  | lnkDiscDone (a : Access)
  | lnkDiscTimeout
  | lnkUnplannedOff (group : Nat)
  | lnkReqOn (a : Access) (group : BitVec 4)
  | lnkReqOff (a : Access) (group : BitVec 4)
  -- I3C
  | i3cEnec (direct : Bool) (events : Byte)
  | i3cDisec (direct : Bool) (events : Byte)
  | i3cRstdaa
  | i3cEntdaa (addr : BitVec 7)
  | i3cSetdasa (static addr : BitVec 7)
  | i3cSetnewda (addr : BitVec 7)
  | i3cSetmwl (len : BitVec 16)
  | i3cGetmwl
  | i3cSetmrl (len : BitVec 16)
  | i3cGetmrl
  | i3cGetpid
  | i3cGetbcr
  | i3cGetdcr
  | i3cGetstatus
  | i3cEnthdr
  | i3cHdrExit
  | i3cPrivateWrite (bytes : List Byte)
  | i3cReadHeader (bytes : List Byte)
  | i3cPrivateRead
  | i3cError (kind : I3cFault)
  -- the rest of the table
  | testLogicReset
  | railConverterResult (conv : Nat) (raw : BitVec 12)
  | sequenceEntryStart (quad : Nat)
  deriving DecidableEq, Repr

end Sys2Proof
end

