-- ==== Sys2Proof/Machine/Arith.lean ====
section
/-! DEFINITION. Rounding and saturation (R10, R11), square roots to 32 fractional bits (R582), exact fractions,
and the sparse tables that hold the block's numbered units. -/

namespace Sys2Proof

/-- `n / d` rounded to the nearest integer, ties away from zero (R11). A divisor of 0 never reaches it. -/
def roundDiv (n : Int) (d : Nat) : Int :=
  if 0 ≤ n then (2 * n + d) / (2 * (d : Int)) else -((2 * (-n) + d) / (2 * (d : Int)))

/-! Exact fractions, in lowest terms with a positive denominator. -/

def Frac.make (n : Int) (d : Nat) : Frac :=
  let g := Nat.gcd n.natAbs d
  if g = 0 then ⟨0, 1⟩ else ⟨n / (g : Int), d / g⟩

def Frac.ofInt (n : Int) : Frac := ⟨n, 1⟩
def Frac.zero : Frac := ⟨0, 1⟩
def Frac.add (a b : Frac) : Frac := Frac.make (a.num * b.den + b.num * a.den) (a.den * b.den)
def Frac.mul (a b : Frac) : Frac := Frac.make (a.num * b.num) (a.den * b.den)
def Frac.scale (a : Frac) (n : Int) : Frac := Frac.make (a.num * n) a.den
def Frac.sub (a b : Frac) : Frac := a.add (b.scale (-1))
def Frac.overBy (a : Frac) (d : Nat) : Frac := Frac.make a.num (a.den * d)
def Frac.le (a b : Frac) : Bool := decide (a.num * b.den ≤ b.num * a.den)
def Frac.lt (a b : Frac) : Bool := decide (a.num * b.den < b.num * a.den)
def Frac.round (a : Frac) : Int := roundDiv a.num a.den
def Frac.max (a b : Frac) : Frac := if a.le b then b else a
def Frac.min (a b : Frac) : Frac := if a.le b then a else b

end Sys2Proof

namespace Sys2Proof.Machine

/-- `n / d` rounded up. -/
def ceilDiv (n : Int) (d : Nat) : Int := -((-n) / (d : Int))

/-- `x` saturated to `lo` .. `hi`. -/
def clamp (x lo hi : Int) : Int := if x < lo then lo else if hi < x then hi else x

/-- `x` saturated to an unsigned field of `n` bits (R11). -/
def satN (n : Nat) (x : Int) : Nat := (clamp x 0 ((2 : Int) ^ n - 1)).toNat

/-- The quotient of a rule, rounded by R11; where the divisor is 0 the spec states no result, and the value is
free (log entry 3). -/
def quot (n : Int) (d : Int) : Int :=
  if d = 0 then Config.divByZero n
  else if 0 < d then roundDiv n d.toNat else roundDiv (-n) (-d).toNat

/-- One bit of the square root: the bits of `r` above bit `i` are settled. -/
def sqrtBits (n : Nat) : Nat → Nat → Nat
  | 0, r => r
  | i + 1, r => if (r + 2 ^ i) * (r + 2 ^ i) ≤ n then sqrtBits n i (r + 2 ^ i) else sqrtBits n i r

/-- The square root rounded down, for radicands below 2^256. -/
def sqrtDown (n : Nat) : Nat := sqrtBits n 128 0

/-- The square root rounded up. -/
def sqrtUp (n : Nat) : Nat := if sqrtDown n * sqrtDown n = n then sqrtDown n else sqrtDown n + 1

/-- A table of numbered things: pairs in strictly rising number, none equal to what an unlisted number holds. -/
abbrev Store (α : Type) := List (Nat × α)

def Store.find {α : Type} : Store α → Nat → Option α
  | [], _ => none
  | (k, v) :: m, n => if n = k then some v else Store.find m n

/-- What number `n` holds, `d` where the table does not list it. -/
def Store.get {α : Type} (m : Store α) (d : α) (n : Nat) : α := (m.find n).getD d

def Store.put {α : Type} : Store α → Nat → α → Store α
  | [], n, v => [(n, v)]
  | (k, w) :: m, n, v =>
    if n = k then (n, v) :: m else if n < k then (n, v) :: (k, w) :: m else (k, w) :: Store.put m n v

def Store.del {α : Type} (m : Store α) (n : Nat) : Store α := m.filter (fun e => e.1 != n)

/-- `m` with number `n` holding `v`, where an unlisted `n` holds `d`. -/
def Store.set {α : Type} [DecidableEq α] (m : Store α) (d : α) (n : Nat) (v : α) : Store α :=
  if v = d then m.del n else m.put n v

/-- The numbers of a table rise strictly, from `lo` on. -/
def Store.rises {α : Type} : Store α → Nat → Bool
  | [], _ => true
  | (k, _) :: m, lo => decide (lo ≤ k) && Store.rises m (k + 1)

/-- A table in its one canonical form, where an unlisted number holds `d`. -/
def Store.wf {α : Type} [DecidableEq α] (m : Store α) (d : α) : Bool := m.rises 0 && m.all (fun e => e.2 != d)

/-- The numbers 0 to n − 1 in rising order. -/
def upto (n : Nat) : List Nat := List.range n

/-- `f` run over a list of numbers in order. -/
def forEach {σ : Type} (l : List Nat) (f : Nat → σ → σ) (s : σ) : σ := l.foldl (fun s i => f i s) s

/-- `f` run where `c` holds. -/
def when {σ : Type} (c : Bool) (f : σ → σ) (s : σ) : σ := if c then f s else s

/-- The sum of `f` over a list of numbers. -/
def sumOver (l : List Nat) (f : Nat → Int) : Int := l.foldl (fun t i => t + f i) 0

/-- Entry `i` of a list of integers, 0 beyond its end. -/
def nth (l : List Int) (i : Nat) : Int := l.getD i 0

/-- Bits `xs` (bit 0 first) as a number. -/
def packBits : List Bool → Nat
  | [] => 0
  | b :: r => (if b then 1 else 0) + 2 * packBits r

/-- The greatest of a list of naturals, 0 when it is empty. -/
def maxNat (l : List Nat) : Nat := l.foldl Nat.max 0

def b2n (b : Bool) : Nat := if b then 1 else 0

/-- One bit of the reflected CRC-32 of R79. -/
def crcBits : Nat → BitVec 32 → BitVec 32
  | 0, c => c
  | n + 1, c => crcBits n (if c.toNat % 2 = 1 then (c >>> 1) ^^^ 0xEDB88320 else c >>> 1)

/-- The CRC register after one more byte; it starts at all ones (R79). -/
def crcByte (c : BitVec 32) (b : Byte) : BitVec 32 := crcBits 8 (c ^^^ b.setWidth 32)

def crcBytes (c : BitVec 32) (l : List Byte) : BitVec 32 := l.foldl crcByte c

/-- The CRC-32 of R79. -/
def crc32 (l : List Byte) : BitVec 32 := (crcBytes 0xFFFFFFFF l) ^^^ 0xFFFFFFFF

/-- A little-endian number of bytes. -/
def leNat : List Byte → Nat
  | [] => 0
  | b :: r => b.toNat + 256 * leNat r

/-- The four bytes of a word, least significant first. -/
def wordBytes (w : Word) : List Byte :=
  [w.setWidth 8, (w >>> 8).setWidth 8, (w >>> 16).setWidth 8, (w >>> 24).setWidth 8]

end Sys2Proof.Machine
end

