-- ==== Sys2Proof/Machine/Bch.lean ====
section
/-! DEFINITION. The ECC of a flash block (R508): GF(2^13), the generator, the encoder and the decoder of the binary BCH
code that corrects 8 bits. Polynomials over the field are lists of coefficients, that of degree 0 first. -/

namespace Sys2Proof.Machine

/-! ### GF(2^13) with x^13 + x^4 + x^3 + x + 1 -/

/-- α times an element, and an element divided by α. -/
def gfDouble (a : Nat) : Nat := if a < 4096 then 2 * a else (2 * a) ^^^ 0x201B
def gfHalf (a : Nat) : Nat := if a % 2 = 0 then a / 2 else (a ^^^ 0x201B) / 2

def gfMul (a b : Nat) : Nat :=
  (upto 13).foldr (fun i r => if b.testBit i then gfDouble r ^^^ a else gfDouble r) 0

/-- α^n. -/
def gfExp : Nat → Nat
  | 0 => 1
  | n + 1 => gfDouble (gfExp n)

/-- The inverse, a^(2^13 − 2): the product of a^2, a^4, … a^4096. -/
def gfInv (a : Nat) : Nat :=
  ((upto 12).foldl (fun (x : Nat × Nat) _ => let sq := gfMul x.1 x.1; (sq, gfMul x.2 sq)) (a, 1)).2

/-! ### Polynomials -/

def polyAdd : List Nat → List Nat → List Nat
  | a :: as, b :: bs => (a ^^^ b) :: polyAdd as bs
  | [], bs => bs
  | as, [] => as

/-- (x + r) times a polynomial. -/
def polyTimesRoot (p : List Nat) (r : Nat) : List Nat := polyAdd (0 :: p) (p.map (gfMul r))

def polyEval (p : List Nat) (x : Nat) : Nat := p.foldr (fun c t => gfMul t x ^^^ c) 0

/-! ### The code -/

/-- An element with its 12 other conjugates, the roots of its minimal polynomial. -/
def conjugates : Nat → Nat → List Nat
  | 0, _ => []
  | n + 1, a => a :: conjugates n (gfMul a a)

/-- The generator: the product of the minimal polynomials of α, α^3, … α^15, of degree 104. -/
def bchGenerator : List Nat :=
  ((upto 8).flatMap (fun i => conjugates 13 (gfExp (2 * i + 1)))).foldl polyTimesRoot [1]

/-- Its coefficients below degree 104, as a number. -/
def bchFeedback : Nat := packBits ((bchGenerator.take 104).map (· == 1))

/-- A byte's bits, most significant first, and back. -/
def byteBits (b : Byte) : List Bool := (upto 8).map (fun i => b.getLsbD (7 - i))
def bitsByte (l : List Bool) : Byte := BitVec.ofNat 8 (l.foldl (fun t b => 2 * t + b2n b) 0)

/-- The remainder register after one more data bit. -/
def parityStep (r : Nat) (b : Bool) : Nat :=
  let s := (2 * r) % 2 ^ 104
  if r.testBit 103 != b then s ^^^ bchFeedback else s

/-- The ECC bytes of a block's data: the parity, most significant bit first, and three zero bytes. -/
def bchEcc (data : List Byte) : List Byte :=
  let p := (data.flatMap byteBits).foldl parityStep 0
  (upto 13).map (fun i => BitVec.ofNat 8 (p / 256 ^ (12 - i))) ++ [0, 0, 0]

/-- A block as it is programmed. -/
def bchBlock (data : List Byte) : List Byte := data ++ bchEcc data

/-! ### Decoding -/

/-- The bits of a code word: 512 data bytes and 13 of parity, the coefficient of x^4199 first. -/
abbrev codeLen : Nat := 4200
def codeBits (block : List Byte) : List Bool := (block.take 525).flatMap byteBits

/-- The word received, at an element of the field. -/
def syndrome (bits : List Bool) (x : Nat) : Nat := bits.foldl (fun t b => gfMul t x ^^^ b2n b) 0

def syndromes (bits : List Bool) : List Nat := (upto 16).map (fun i => syndrome bits (gfExp (i + 1)))

/-- The Berlekamp–Massey iteration: the error locator, the one before its last change of length with the discrepancy
and the steps since, and the length. -/
structure Locator where
  c    : List Nat
  b    : List Nat
  d    : Nat
  m    : Nat
  len  : Nat
  deriving DecidableEq, Repr

/-- The discrepancy of syndrome `n`. -/
def discrepancy (syn : List Nat) (n : Nat) (c : List Nat) : Nat :=
  (upto (n + 1)).foldl (fun t i => t ^^^ gfMul (c.getD i 0) (syn.getD (n - i) 0)) 0

def locatorStep (syn : List Nat) (l : Locator) (n : Nat) : Locator :=
  let e := discrepancy syn n l.c
  if e = 0 then { l with m := l.m + 1 }
  else
    let k := gfMul e (gfInv l.d)
    let c := polyAdd l.c (List.replicate l.m 0 ++ l.b.map (gfMul k))
    if 2 * l.len ≤ n then { c := c, b := l.c, d := e, m := 1, len := n + 1 - l.len }
    else { l with c := c, m := l.m + 1 }

def locator (syn : List Nat) : Locator := (upto 16).foldl (locatorStep syn) { c := [1], b := [1], d := 1, m := 1, len := 0 }

/-- The degrees from `p` on whose coefficients are in error: p where the locator has the root α^(−p), given as `x`. -/
def errorDegrees (c : List Nat) : Nat → Nat → Nat → List Nat
  | 0, _, _ => []
  | n + 1, p, x =>
    let rest := errorDegrees c n (p + 1) (gfHalf x)
    if polyEval c x = 0 then p :: rest else rest

/-- The bytes of a list of bits. -/
def packBytes : Nat → List Bool → List Byte
  | 0, _ => []
  | n + 1, l => bitsByte (l.take 8) :: packBytes n (l.drop 8)

/-- A block decodes to its data with the bits corrected, at most 8; beyond that it is uncorrectable. -/
def bchDecode (block : List Byte) : Option (List Byte × Nat) :=
  let bits := codeBits block
  let syn := syndromes bits
  if syn.all (· == 0) then some (block.take 512, 0)
  else
    let l := locator syn
    let errs := errorDegrees l.c codeLen 0 1
    if decide (l.len ≤ 8) && errs.length == l.len then
      let fixed := bits.zipIdx.map (fun (b, i) => b != errs.contains (codeLen - 1 - i))
      some (packBytes 512 fixed, l.len)
    else none

end Sys2Proof.Machine
end

