-- ==== Sys2Proof/Machine/State.lean ====
section
/-! DEFINITION. The state of the block: every register, counter, mode and queue that the spec gives it, and the
commands that wait. Register words live in `Regs` under their canonical block offsets (R94); what the spec
describes as a state machine, a queue or a table is held as such, and the status words that show it are formed
from it when they are read. -/

namespace Sys2Proof.Machine

/-- Model memory (R247): the bytes that differ from what an unlisted address reads as, 0, at strictly rising offsets. -/
abbrev Memory := List Host.Cell

/-- The canonical form of memory. -/
def Memory.wf (m : Memory) : Bool := Store.wf m 0

/-- The reasons for which a step could stop the block: there are none. Every command of the table has its effect
or, where its event cannot happen, none. -/
inductive Fault where
  deriving DecidableEq, Repr

/-- Why a command has no meaning here. -/
inductive Refusal where
  /-- Raised by `exec` for a command whose meaning is not modelled, by its mnemonic. Safe: no claim can be
  proved of that command's effect. -/
  | notModelled (mnemonic : String)
  deriving DecidableEq, Repr

/-! ## Time base and bridge (R34 to R60) -/

/-- The tick counter and the references. `tick` is `TB_TICK`; `elapsed` counts ticks since cold start for every
timer (R46); `loaded` is the counter value that a secondary loaded, before whose next boundary no period runs (R55);
the `Lost` ticks are those at which each reference was last lost (R37); `held` is the captured upper half of each
port (R41). -/
structure TimeBase where
  tick     : BitVec 64
  elapsed  : Nat
  running  : Bool
  aOk      : Bool
  bOk      : Bool
  bridgeOk : Bool
  aLost    : Nat
  bLost    : Nat
  brLost   : Nat
  loaded   : Option Nat
  sel      : Nat
  lock     : Bool
  hold     : Bool
  expired  : Bool
  holdAt   : Nat
  goodAt   : Nat
  heldFab  : Option Word
  heldI3c  : Option Word
  deriving DecidableEq, Repr

/-- A bridge frame under way on a link (R569): its `TYPE`, its payload, the tick of its first four bits. -/
structure Sending where
  typ     : Nat
  payload : BitVec 64
  from0   : Nat
  deriving DecidableEq, Repr

/-- This instance's outgoing lane of one link (R568, R569): the frame under way, and the types of the frames that follow it,
in their order. -/
structure BrgLink where
  cur  : Option Sending
  wait : List Nat
  deriving DecidableEq, Repr

/-- The bridge as this instance sees it: the role, instance and peers in effect (R60), whether a secondary has
joined and whether it has lost the bridge (R55, R57), the tick of the last sync word, the offset it showed, the tick at
which the next SYNC frame is due (R60),
what this instance sends (R569): the apply tick of a strobe, each secondary's cap, and a secondary's period energy with its
period; and its outgoing lanes, by link. -/
structure Bridge where
  role     : Nat
  inst     : Nat
  peers    : Nat
  joined   : Bool
  lost     : Bool
  lastSync : Nat
  offset   : Int
  syncDue  : Nat
  capRecv  : Nat
  sent     : Option (BitVec 64)
  capSent  : Store Nat
  enSent   : Option (Nat × Nat)
  links    : Store BrgLink
  deriving DecidableEq, Repr

/-- One self-timed engine (R49): the tick it started at, the stamp of its completion, its own period number, and
the periods of the overruns that still count (R52). -/
structure EngRun where
  start  : Option Nat
  done   : Option Nat
  period : Nat
  ovr    : List Nat
  deriving DecidableEq, Repr

/-! ## The register model (R61 to R98, R580) -/

/-- One word of a frozen set: its offset, the value frozen, and whether its parity was bad (R72, R85). -/
structure FrozenWord where
  off : Nat
  val : Word
  bad : Bool
  deriving DecidableEq, Repr

/-- A frozen set awaiting its apply tick (R72): its words, its CRC, and the tick at which it applies. -/
structure Frozen where
  words : List FrozenWord
  crc   : Word
  due   : Nat
  deriving DecidableEq, Repr

/-- A write of a cell's trim under R103 that waits for its control-period boundary: the cell and the value. -/
structure TrimWrite where
  cell  : Nat
  value : Nat
  deriving DecidableEq, Repr

/-- The register model. `shadow` and `active` hold a Shadow register's two copies, an LC register's last written
value and value in effect, and an At-next-start register's holding copy and value in effect (R66, R67); `live`
holds every other word. A list of offsets names the copies whose hidden parity bit is wrong (R83). `pend` lists
the pending writes by register, in their order (R68), `crc` is the running CRC's register (R78), `lc` the LC
words written and not yet in effect (R81), `walker` the background walker's place (R84), `strobe` the stamp and the
apply tick of the last strobe taken (R74), `drove` the tick at which the block last drove `UPD_STROBE` (R73),
`snapAt` that of the last snapshot (R88); `startSet` is the start set awaiting its tick, which no strobe touches (R535);
`seen` names the RC words, or the bits of them, read in this tick with what the times that run out in it bring (R90). -/
structure Regs where
  shadow    : Store Word
  active    : Store Word
  live      : Store Word
  badShadow : List Nat
  badActive : List Nat
  pend      : List Nat
  crc       : Word
  frozen    : Option Frozen
  startSet  : Option Frozen
  seen      : List (Nat × Option Nat)
  lc        : List Nat
  walker    : Nat
  sealWord  : Word
  trims     : List TrimWrite
  strobe    : Option (Nat × Nat)
  drove     : Option Nat
  snapAt    : Option Nat
  deriving DecidableEq, Repr

/-- How an access was answered (R61, R560, R566). -/
inductive Response where
  | none
  | ok (data : BitVec 128)
  | error
  | retry
  | nack
  deriving DecidableEq, Repr

/-! ## Cells and clusters (R99 to R138, R581) -/

/-- The states of R109, in the order of their codes. -/
inductive CellState where
  | off | standby | start | regulate | isolated | retest
  deriving DecidableEq, Repr

/-- One cell: its state and leg count, the tick it entered START, the logical positions its spare legs replaced
(R100), the stuck positions whose spare leg is still to come with their detection ticks, the cause of its last
isolation, its spare designation (R111), and a pass that waits for the re-trim (R138). -/
structure Cell where
  state    : CellState
  legs     : Nat
  startAt  : Nat
  map      : List Nat
  waiting  : List (Nat × Nat)
  cause    : Nat
  spdes    : Bool
  passWait : Bool
  trimmed  : Bool
  deriving DecidableEq, Repr

/-- The phases of Schuss (R122, R124). -/
inductive Schuss where
  | idle | force | hold
  deriving DecidableEq, Repr

/-- Why a spare cell is brought in: for a faulted cell (R129), for wear (R439), or into an empty place (R430). -/
inductive TakeKind where
  | takeover | rotation | duty
  deriving DecidableEq, Repr

/-- A takeover, rotation or bring-into-duty in progress: the incoming cell, the cell it stands in for, the tick t
it counts from (R129, R130). -/
structure Takeover where
  spare    : Nat
  outgoing : Nat
  at0      : Nat
  kind     : TakeKind
  deriving DecidableEq, Repr

/-- A retest or re-trim in progress (R441, R442): the cell, the step it is at and the tick that step began, and
whether it is a re-trim; at step 3 whether the legs have settled and the tap result is awaited; whether step 1 has found
more legs stuck off than the cell has spares. -/
structure Retest where
  cell   : Nat
  step   : Nat
  from0  : Nat
  tap    : Bool
  retrim : Bool
  bad    : Bool
  deriving DecidableEq, Repr

/-- The sum of a cluster's M over the control periods of one estimate period, 32 times their mean, their count, whether a
saturated sensor code marks it (R120), and whether the sensor was lost in one (R117). -/
structure MeanM where
  per  : Nat
  sum  : Nat
  n    : Nat
  mark : Bool
  lost : Bool
  deriving DecidableEq, Repr

/-- One cluster: its Schuss event (trip stamp, the first tick at which its in-band count can reach 16, last tick it was active, whether the
clock-stretch request is driven); what it sampled at the last tick 0 (R108, R115); its sensors' health and runs;
the band in force (R106); its current correction K and recent raw measurements with the period that took each
(R118, R119); the sums of R120 for the latest estimate periods, newest first; the integrator, the limit it sits at (−1 the
lower, 1 the upper, 0 none) and its limit run (R143, R145); its last feed-forward; and the
maintenance in progress, with the cells being brought in; `rotAt` is the powered second its rotation age counts from
(R438). -/
structure Cluster where
  enabled   : Bool
  schuss    : Schuss
  tripAt    : Nat
  lastTrip  : Option Nat
  holdFrom  : Nat
  activeAt  : Option Nat
  stretch   : Bool
  longSaid  : Bool
  releaseAt : Option Nat
  droopPrev : Bool
  satHi     : Bool
  satLo     : Bool
  legMed    : Nat
  codeA     : Nat
  codeB     : Nat
  sensB     : Bool
  aFail     : Bool
  bFail     : Bool
  disRun    : Nat
  lostRun   : Nat
  tapWait   : Bool
  vclu      : Nat
  centre    : Nat
  half      : Nat
  k         : Nat
  raws      : List (Nat × Nat)
  mNow      : Nat
  means     : List MeanM
  integ     : Int
  held      : Bool
  limAt     : Int
  limRun    : Nat
  ff        : Int
  beyond    : Bool
  takes     : List Takeover
  retest    : Option Retest
  rotAt     : Int
  deriving DecidableEq, Repr

/-! ## The sector engine and Chairlift (R139 to R206, R582) -/

/-- Engine modes of R161, in the order of their codes. -/
inductive EngMode where
  | off | wake | run | coast | retain | dark
  deriving DecidableEq, Repr

/-- An open pre-position (R150): the forecast slot it came from, the cluster it names, its ΔI_fc. -/
structure PrePos where
  slot : Nat
  clu  : Nat
  di   : Int
  deriving DecidableEq, Repr

/-- What the engine holds from its start tick to its latch tick (R49, R141), per cluster where a list; with the reports of
Trail that it took at its start. -/
structure EngRes where
  taken  : List (Nat × Bool)
  m      : List Nat
  integ  : List Int
  held   : List Bool
  centre : List Nat
  half   : Nat
  ff     : List Int
  sat    : List Bool
  nosens : List Bool
  lim    : List Int
  eRef   : Int
  prepos : List PrePos
  took   : Bool
  est    : Option Nat
  msum   : Nat
  msMark : Bool
  busy   : Bool
  dis    : Nat
  agr    : Nat
  enter  : Bool
  leave  : Bool
  sp     : Nat
  deriving DecidableEq, Repr

/-- A profile channel (R173): position, velocity and acceleration in units of 2^-32 codes (R178), the target and
the admitted target in codes, whether it is at rest at its target, and the tick since which a command waits. -/
structure Chan where
  pos   : Int
  vel   : Int
  acc   : Int
  tgt   : Int
  adm   : Int
  there : Bool
  wait  : Option Nat
  said  : Bool
  deriving DecidableEq, Repr

/-- Base command states of R183, in the order of their codes. -/
inductive ProfState where
  | idle | waiting | slewing | held | settling | done
  deriving DecidableEq, Repr

/-- Switch-on states of R196, in the order of their codes. -/
inductive SwState where
  | off | cells | ramp | gates | on
  deriving DecidableEq, Repr

/-- A unit that a sector has been asked to power (R196, R197): its number, the stamp of the request, the tick of
its first neighbour check, and the rate it may be granted at: 0 none yet, 1 full, 2 half. -/
structure UnitReq where
  unit  : Nat
  stamp : Nat
  first : Option Nat
  rate  : Nat
  deriving DecidableEq, Repr

/-- One sector: its engine (R161 to R167) with the SUSPECT guardband as the engine's last start tick sampled it (R69), its
three profile channels and base command (R173 to R195), and its switch-on state with the requests and grants of its units, and
whether the end of a retention waits for its base command, or for the engine it has woken (R196 to R200). -/
structure Sector where
  mode       : EngMode
  suspect    : Bool
  coefBad    : Bool
  onSpare    : Bool
  ownFailed  : Bool
  serveFrom  : Nat
  res        : Option EngRes
  eRef       : Int
  estDue     : Bool
  prepos     : List PrePos
  asked      : List PrePos
  reports    : List (Nat × Bool)
  busy       : Bool
  disRun     : Nat
  agrRun     : Nat
  gbCfg      : Nat
  badPers    : List Nat
  lastE      : Option Nat
  stored     : Option (Word × List Int)
  base       : Chan
  gb         : Chan
  pre        : Chan
  prof       : ProfState
  prev       : Nat
  seq        : Nat
  rise       : Option Nat
  fcap       : Nat
  hold       : Bool
  settleN    : Nat
  settleAt   : Nat
  settleSaid : Bool
  cmdBase    : Option (Int × Nat)
  fallDue    : Option (Int × Nat)
  cmdGb      : Option (Int × Nat)
  cmdPre     : Option (Int × List Nat)
  sp         : Nat
  spNext     : Nat
  spDue      : Nat
  wakeRan    : Bool
  rbAt       : Option Nat
  engSw      : Option (Nat × Bool)
  offSince   : Nat
  offs       : List (Nat × Nat)
  sw         : SwState
  swAt       : Nat
  halfRate   : Bool
  reqs       : List UnitReq
  granted    : List (Nat × Bool × Nat)
  retained   : List Nat
  wants      : List Nat
  offAt      : Option Nat
  wakeDue    : Bool
  waking     : Bool
  vacated    : Bool
  deriving DecidableEq, Repr

/-- An inrush reservation (R197), in half amperes, with the tick it ends and the sector it serves. -/
structure Reservation where
  halfA  : Nat
  ends   : Nat
  sector : Nat
  deriving DecidableEq, Repr

/-- A quadrant's inrush budget (R197): its open reservations and the tick of its last grant. -/
structure Inrush where
  resv : List Reservation
  last : Option Nat
  deriving DecidableEq, Repr

/-! ## The fault manager (R474 to R500) -/

/-- A registration not yet latched (R478): source, detail, stamp, the tick its outcome is latched, and whether
the fault manager has completed it. -/
structure Reg where
  src   : Nat
  det   : Nat
  stamp : BitVec 64
  at0   : Nat
  due   : Nat
  done  : Bool
  deriving DecidableEq, Repr

/-- Recovery states of R488, in the order of their codes. -/
inductive RcvState where
  | normal | quiet | held
  deriving DecidableEq, Repr

/-- One domain's recovery (R488 to R490): its state, the tick its quiet period counts from, the ticks at which
its recoveries began, the source of its last domain-off action and the severity that acted, whether it waits for a good
reference (R38), and its recoveries since cold start. -/
structure Recovery where
  state   : RcvState
  from0   : Nat
  history : List Nat
  src     : Nat
  sev     : Nat
  ref     : Bool
  count   : Nat
  deriving DecidableEq, Repr

/-- An alert record that waits (R485, R486). -/
structure AlertRec where
  words : List Word
  seq   : Nat
  deriving DecidableEq, Repr

/-- A write on the fabric initiator (R561): its address; whether it is board-shared, a global fabric address, or
message-only, where bits [63:47] name the chip, [41:32] the tile and [31:4] the offset in it (R562); the chip and the tile
that it carries as its source; whether it is secure; and its four words. -/
structure InitWrite where
  addr   : Nat
  shared : Bool
  chip   : BitVec 17
  tile   : BitVec 10
  secure : Bool
  words  : List Word
  deriving DecidableEq, Repr

/-- The fault manager: registrations, sources present (R484), heartbeat, chip-off with its quiet period and whether it waits
for a good reference, the alert queue and the write in flight, and the in-band interrupt outstanding (R487). -/
structure Faults where
  regq     : List Reg
  present  : List (Nat × Nat)
  alive    : Bool
  chipOff  : Bool
  chipFrom : Nat
  chipRef  : Bool
  alerts   : List AlertRec
  inflight : Option InitWrite
  dropped  : Bool
  ibi      : Option (List Byte)
  ibiNext  : Option (List Byte)
  lastSrc  : Nat
  discAt   : Option Nat
  deriving DecidableEq, Repr

/-! ## Host ports (R560 to R567) -/

/-- The words of a read header on their way (R566): the next block offset, the words left, the header's tick, the bytes read
so far, and whether a word was answered with an error. -/
structure Fetch where
  off   : Nat
  left  : Nat
  from0 : Nat
  bytes : List Byte
  bad   : Bool
  deriving DecidableEq, Repr

/-- The data of a private write still on the bus (R566): the next word's block offset, the bytes left, and the tick at which
the next word's last byte arrives. -/
structure Arriving where
  off   : Nat
  bytes : List Byte
  due   : Nat
  deriving DecidableEq, Repr

/-- The I3C target port (R565, R566): its addresses, maximum lengths, protocol flags, a read header's words on their way
and the reply that waits for a private read, the data of a private write still on the bus, and the answer of the last
transfer. -/
structure I3c where
  da       : BitVec 7
  daValid  : Bool
  enint    : Bool
  mwl      : Nat
  mrl      : Nat
  protErr  : Bool
  hdr      : Bool
  reply    : Option (List Byte)
  fetch    : Option Fetch
  data     : Option Arriving
  answer   : List Byte
  deriving DecidableEq, Repr

/-- The two host ports: the response to the last access of each, the secure master in effect (R564), the I3C
target, and the writes that the fabric initiator sends in this tick, in their order (R561). -/
structure HostPorts where
  fab     : Response
  i3c     : Response
  sel     : Bool
  target  : I3c
  out     : List InitWrite
  deriving DecidableEq, Repr

/-- The debug port (R577). -/
structure Debug where
  busy      : Bool
  done      : Bool
  refused   : Bool
  withdrawn : Bool
  seq       : Nat
  deriving DecidableEq, Repr


/-! ## The command ring (R453 to R473) -/

/-- What a ring transaction is for: a raw transaction, one of the debug port, the two of a takeover (R129), the
one that ends a rotation (R439), a trim to be written (R103), a feature-shift write of an install (R248), a
recalibrated K (R255), a cell command (R135). -/
inductive Job where
  | raw
  | debug
  | markFailed (cell : Nat)
  | startSpare (clu : Nat) (cell : Nat)
  | toStandby (clu : Nat) (cell : Nat)
  | trim (cell : Nat) (value : Nat)
  | shift (unit : Nat) (index : Nat)
  | calib (clu k : Nat)
  | cellCmd (op cell : Nat)
  deriving DecidableEq, Repr

/-- A ring transaction (R453), with the tick it was presented. -/
structure Txn where
  req   : Nat
  stop  : Nat
  reg   : Nat
  write : Bool
  data  : Word
  opn   : Bool
  cls   : Bool
  stamp : Nat
  job   : Job
  deriving DecidableEq, Repr

/-- An open locked sequence (R463): its owner, how many transactions it has made, the tick it opened, the writes
staged, whether its owner was reset or faulted (R466), and whether its closing transaction has run, too late to close it
(R465). -/
structure Lock where
  owner  : Nat
  count  : Nat
  from0  : Nat
  staged : List Txn
  reset  : Bool
  closed : Bool
  deriving DecidableEq, Repr

/-- A draw under way, from its tick 0 to its tick 6 (R457, R458): the requester drawn, the losers, the LFSR after
its step, whether the requester holds no tickets, whether a discard voided it (R468), its ring cycle, and `ARB_BACKOFF.BASE`
as its start tick samples it (R69). -/
structure Draw where
  won    : Option Nat
  losers : List Nat
  lfsr   : Word
  zero   : Bool
  void   : Bool
  cycle  : Nat
  base   : Nat
  deriving DecidableEq, Repr

/-- What the last draw that latched changed, for a discard of its own tick to undo (R468): the tick, the backoffs and the
zero-ticket requester last served before it. -/
structure Latched where
  at0   : Nat
  wait  : Store Nat
  last0 : Nat
  deriving DecidableEq, Repr

/-- Counters of one requester (R471). -/
structure ReqCount where
  grants : Nat
  wait   : Nat
  max    : Nat
  deriving DecidableEq, Repr

/-- One quadrant's ring and arbiter: transactions presented and those queued behind them (R455), the fault
isolator's run, the LFSR, loss counts and the cycle from which each requester is eligible again (R462), the
zero-ticket requester last served, the lock, grants not yet used, the transaction in progress with whether its
write is discarded, the draw, what the last one that latched changed, and the counters. -/
structure Ring where
  pres    : List Txn
  queue   : List Txn
  iso     : List Txn
  lfsr    : Word
  loss    : Store Nat
  wait    : Store Nat
  last0   : Nat
  lock    : Option Lock
  grants  : List Nat
  current : Option Txn
  voidWr  : Bool
  draw    : Option Draw
  latched : Option Latched
  counts  : Store ReqCount
  opened  : Nat
  broken  : Nat
  deriving DecidableEq, Repr

/-! ## Wear (R430 to R452) -/

/-- One cell's wear: stress in units of 10 mA for one control period, duty time in control periods, thermal
cycles, isolations (R432, R434, R435). -/
structure Wear where
  stress : Frac
  duty   : Nat
  cycles : Nat
  isol   : Nat
  deriving DecidableEq, Repr

/-- The kinds of unit whose isolations are counted beside cells (R432). -/
inductive CountKind where
  | engine | spareEngine | converter | diode | channel
  deriving DecidableEq, Repr

/-- A sector-engine self-test (R445): the engine's index, whether it is a spare engine, the tick it began. -/
structure SelfTest where
  index : Nat
  spare : Bool
  from0 : Nat
  deriving DecidableEq, Repr

/-- The sparing engine: isolation counts of engines, spare engines, converters, diodes and channels, the quadrants
whose spare engine is failed, a wear or
retirement record owed to the store after a discard (R437), the tick of the last rotation start (R438), and the self-test
running. -/
structure Sparing where
  engIsol   : Store Nat
  spareIsol : Store Nat
  adcIsol   : Store Nat
  dioIsol   : Store Nat
  chIsol    : Store Nat
  spareFail : List Nat
  wearOwed  : Bool
  secTicks  : Nat
  rotTick   : Option Nat
  selfTest  : Option SelfTest
  deriving DecidableEq, Repr

/-! ## Trail (R207 to R231) -/

/-- States of a full slot (R225). -/
inductive SlotState where
  | pending | armed | opened | held
  deriving DecidableEq, Repr

/-- A full slot: its record as accepted, arrival, step and pre-position ticks, sector, cluster and physical tile (R214); whether
Tally has taken it and the predicted step it latched (R217); the tick it was presented, its baseline, threshold
and deadline (R222); its pre-raise amount, the limit active at presentation, and whether the amount was issued
and admitted (R220); whether the last latch qualified, and its tick; the end of its hold (R223). -/
structure Slot where
  state   : SlotState
  w0      : Word
  w1      : Word
  w2      : Word
  arrive  : Nat
  stepAt  : Nat
  preAt   : Nat
  sector  : Nat
  clu     : Nat
  phys    : Nat
  taken   : Option Nat
  pred    : Option Int
  present : Nat
  base    : Nat
  need    : Nat
  dead    : Nat
  amount  : Int
  limit   : Nat
  issued  : Bool
  admitted   : Bool
  qual    : Bool
  judged  : Option Nat
  holdEnd : Nat
  deriving DecidableEq, Repr

/-- A push with what R214 and R215 take at its arrival: the tick, `PREPOS`, and the physical tile that the plan of that tick
gives (none where the epoch is not usable; the inner none where the tile is unmapped). One is held while it waits for its
slot (R210). -/
structure HeldPush where
  word   : BitVec 128
  arrive : Nat
  prepos : Nat
  tile   : Option (Option Nat)
  deriving DecidableEq, Repr

/-- A quadrant's window (R209 to R211). -/
structure TrailWin where
  slots : Store Slot
  tail  : Nat
  held  : List HeldPush
  deriving DecidableEq, Repr

/-! ## Tally (R232 to R261) -/

/-- An install in progress (R248): the unit, its stage (1 check, 2 shifts, 3 boundary), the tick it began, the
quadrants whose shifts are still to be written, and the cause of a refusal whose shifts are being restored. -/
structure Load where
  unit    : Nat
  stage   : Nat
  from0   : Nat
  quads   : List Nat
  restore : Option Nat
  deriving DecidableEq, Repr

/-- One sector of a Tally period: its code, whether it is valid, whether it was evaluated, and the predicted steps of
its records. -/
structure TallySec where
  sector : Nat
  e      : Nat
  ok     : Bool
  ran    : Bool
  recs   : List (Nat × Int)
  deriving DecidableEq, Repr

/-- A Tally period in hand: its start tick, the number of the period its features describe, its sectors, and the words of
`TAL_ARB` and `TAL_ARB2` that its start tick samples (R69). -/
structure TallyRun where
  at0    : Nat
  period : Nat
  secs   : List TallySec
  arb    : Word
  arb2   : Word
  deriving DecidableEq, Repr

/-- One estimate period of a domain's arbitration (R251): usable, B valid, ΣE and ΣM in sector codes, B in domain
codes. -/
structure ArbPer where
  ok  : Bool
  bOk : Bool
  e   : Nat
  m   : Nat
  b   : Frac
  deriving DecidableEq, Repr

/-- Tally: the feature counters of the present period and the frozen ones, with the quadrants a parity error marked
(R232 to R234); the period in hand; the latched estimates and the sectors whose estimate is valid; the period in
which each unit's install took effect (R243); the install in progress; the feature scalers' shifts; arbitration's
entries, NONE's hold, a different verdict formed in it (R253), the domain guardbands requested (R254) and the capping
periods of the last recalibrations; the figures of R256, and the units whose images from the calibration store still wait
for their install (R250). -/
structure Tally where
  feat      : Store Nat
  featBad   : List Nat
  featPer   : Nat
  frozen    : Store Nat
  frozenBad : List Nat
  run       : Option TallyRun
  est       : Store Nat
  good      : List Nat
  ovr       : Bool
  since     : Store Nat
  load      : Option Load
  scaler    : Store Nat
  arb       : Store (List ArbPer)
  holdN     : Store Nat
  kept      : Store Nat
  dgb       : Store Nat
  recal     : Store Nat
  fig       : Store Nat
  owed      : List Nat
  deriving DecidableEq, Repr

/-! ## Board stages (R262 to R298) -/

/-- Domain states of R265, in the order of their codes. -/
inductive DomState where
  | off | armed | soft | confirm | run | stop | tripped
  deriving DecidableEq, Repr

/-- What the compensator holds from tick 0 to tick 90 (R272, R273). -/
structure CompRes where
  integ : Int
  y1    : Int
  y2    : Int
  e     : Int
  duty  : Nat
  hi    : Bool
  lo    : Bool
  hold  : Bool
  deriving DecidableEq, Repr

/-- What the pulse generator of a domain's channels reads at the start of a switching period (R69): `TONMIN`, `ZC_BLANK`,
`DE_EN` and `FAST_N`. -/
structure PulseCfg where
  tonMin  : Nat
  zcBlank : Nat
  deEn    : Bool
  fastN   : Nat
  deriving DecidableEq, Repr

/-- A domain's stage controller: its state, with the tick of a START that a host clear has set for the next tick (R492); the
active set, the spares and the channels populated at the last entry to ARMED (R264). Reference in SOFT, CONFIRM and STOP in units of 2^-32 code with the tick of its last
step; the rail's latest result and the recent samples with their edge ticks; the runs of R270, R271, R288 to R290;
the compensator's states and flags; the channel offsets in use and the tick from which new ones are due; diode
emulation; B, imbalance; the rail channel with its command, its state and outcome (R206). -/
structure Stage where
  state   : DomState
  startDue : Option Nat
  pop     : List Nat
  pulse   : PulseCfg
  armedAt : Nat
  downAt  : Nat
  softAt  : Nat
  confAt  : Nat
  active  : List Nat
  spares  : List Nat
  follow  : Nat
  trkErr  : Bool
  ref     : Int
  refAt   : Nat
  rail    : Option Nat
  hist    : List (Nat × Nat)
  pgRun   : Nat
  lagRun  : Nat
  gapRun  : Nat
  ovRun   : Nat
  uvFrom  : Option Nat
  uvSaid  : Bool
  integ   : Int
  y1      : Int
  y2      : Int
  ePrev   : Int
  duty    : Nat
  hi      : Bool
  lo      : Bool
  fast    : Bool
  comp    : Option CompRes
  latched : Option Nat
  fsw     : Nat
  phbase  : Nat
  offs    : List (Nat × Nat)
  offDue  : Option Nat
  ovLow   : Bool
  de      : Bool
  deRun   : Nat
  bCode   : Nat
  bFail   : Bool
  bGood   : Nat
  v0      : Option Nat
  imb     : Option (Frac × Nat)
  imbSaid : Option Nat
  target  : Nat
  chan    : Chan
  before  : Int
  stepAt  : Nat
  cmd     : Option Int
  prof    : ProfState
  prev    : Nat
  deriving DecidableEq, Repr

/-- A pin's level (R263). -/
inductive Level where
  | high | low | mid
  deriving DecidableEq, Repr

/-- One stage channel: failed, its recent results (tick, current in 10 mA), the runs of R285 and R286, its
consecutive fast trips, the cycle it is in (in 1/32 tick: its start, on-time and end, and the latest edge from HIGH to LOW;
the level before its start; whether it has tripped, emulates a diode, and has met its zero crossing), and its wear in 10 mA
ticks and ticks (R436). -/
structure StgCh where
  failed  : Bool
  res     : List (Nat × Int)
  imonBad : Nat
  highAt  : Option Nat
  trips   : Nat
  tripped : Bool
  cycAt   : Option Nat
  tOn     : Nat
  end32   : Nat
  was     : Level
  lowAt   : Nat
  de      : Bool
  cut     : Bool
  stress  : Nat
  time    : Nat
  deriving DecidableEq, Repr

/-! ## Converters and telemetry (R299 to R325) -/

/-- Converter states of R315, in the order of their codes. -/
inductive AdcState where
  | cal | spare | rail | telem | failed | retest
  deriving DecidableEq, Repr

/-- A converter: its role (0 to 3 rail, 4 to 7 telemetry, 15 none), gain and offset, the role it is being connected
to with the tick from which it is (R317, R318), the first edge whose sample is kept, and the pairs of a retest:
count, least and greatest gain and offset, and whether all were in range; the tick from which the calibration pair in
hand can run (R303), and the run of samples with a correction overflow (R316). -/
structure Adc where
  state  : AdcState
  role   : Nat
  cause  : Nat
  gain   : Nat
  offs   : Int
  taking : Option (Nat × Nat)
  keep   : Nat
  pairs  : Nat
  gMin   : Nat
  gMax   : Nat
  oMin   : Int
  oMax   : Int
  pairOk : Bool
  calAt  : Nat
  corrRun : Nat
  deriving DecidableEq, Repr

/-- An urgent request (R311): its channel, who asks (0 cluster, 1 recalibration, 2 thermal manager, 3 secure master,
4 retest or re-trim), its stamp. -/
structure UrgReq where
  chan  : Nat
  who   : Nat
  stamp : Nat
  deriving DecidableEq, Repr

/-- A conversion whose result is due: channel, first kept edge, samples, due tick; the requester of an urgent one. -/
structure Conv where
  chan  : Nat
  first : Nat
  avg   : Nat
  due   : Nat
  who   : Option Nat
  deriving DecidableEq, Repr

/-- A quadrant's sequencer: the entry in progress with its start edge and end edge, the entry that runs next, whether
a new table waits (R309) and the old one's `QD_SEQCTL` and profiles, the urgent conversion in progress (its end edge),
one that a replacement cut short and the queue, results due, the tick the pass began and whether it converted both
references, its end still to be taken with its clocks and whether it calibrates, the latest raw sums of the references
with their sample counts (R303), and the cross-check runs and last differences of each domain (R316). -/
structure Quad where
  cur     : Option (Nat × Nat × Nat)
  next    : Nat
  newTab  : Bool
  old     : Option (Word × List Word)
  urgent  : Option (Nat × UrgReq)
  redo    : Option UrgReq
  queue   : List UrgReq
  due     : List Conv
  passAt  : Nat
  passLo  : Bool
  passHi  : Bool
  passEnd : Option (Nat × Bool)
  refLo   : Option (Nat × Nat)
  refHi   : Option (Nat × Nat)
  xrun    : Store Nat
  xlast   : Store (Frac × Nat)
  deriving DecidableEq, Repr

/-- A cross-check arbitration in progress (R316): the quadrant, the spare, its start, the rail mean and the telemetry
code that differed. -/
structure Xchk where
  quad : Nat
  conv : Nat
  from0 : Nat
  rail : Frac
  tele : Nat
  deriving DecidableEq, Repr

/-! ## Thermal manager (R326 to R347) -/

/-- What the thermal manager samples at tick 0 (R330): readings of diodes (temperature) and thermistors (code,
temperature), and the words 0x040 to 0x0B4 of its page. -/
structure ThermIn where
  diodes : Store Int
  therms : Store (Nat × Int)
  words  : List Word
  deriving DecidableEq, Repr

/-- The thermal manager: the latest results of diodes and thermistors (tick, code), the sample in hand, the failed
diodes and thermistors with the runs of R332, sites that use the higher diode and sites lost, the groups' states
(0 NORMAL to 3 SHUTDOWN), temperatures and blindness, the lowest group at or above its throttle level, the mode in effect
and the floor point sampled with it, the request, the tick at which the grace expires and whether enforcement waits for a
latch, enforcement, the ceiling, the factor, whether the thermistor table was not loaded at the start tick, whether
`THM_PEAK` holds a reading, the latch at which the last group left SHUTDOWN, and the cycle detectors of R435 (in RISE,
extreme). -/
structure Therm where
  dRes   : Store (Nat × Nat)
  tRes   : Store (Nat × Nat)
  run    : Option ThermIn
  dFail  : List Nat
  dRun   : Store Nat
  disRun : Store Nat
  maxed  : List Nat
  lost   : List Nat
  tFail  : List Nat
  tRun   : Store Nat
  gstate : List Nat
  gtemp  : List Int
  blind  : List Bool
  above  : Option Nat
  mode   : Nat
  opMin  : Nat
  req    : Bool
  grace  : Option Nat
  await  : Bool
  enf    : Bool
  ceil   : Option Nat
  factor : Nat
  ntcBad : Bool
  valid  : Bool
  peaked : Bool
  shutAt : Nat
  cyc    : Store (Bool × Int)
  deriving DecidableEq, Repr

/-! ## The seating plan (R401 to R428) -/

/-- The plan: its epoch, the logical and physical entries of R403 that differ from the built-in default plan
(R405), the previous plan with its epoch while it is kept (R410), and whether the last change was a revert. -/
structure Plan where
  epoch    : Nat
  tiles    : Store Word
  banks    : Store Word
  ptiles   : Store Word
  pbanks   : Store Word
  prevT    : Store Word
  prevB    : Store Word
  kept     : Bool
  prev     : Nat
  reverted : Bool
  ready    : Bool
  deriving DecidableEq, Repr

/-- Migration states of R412, in the order of their codes. -/
inductive MigState where
  | idle | power | copy | flip | grace
  deriving DecidableEq, Repr

/-- What a flip changed, kept through its tick: a discard stamped in that tick abandons without flipping (R414). -/
structure Flipped where
  plan    : Plan
  lastMov : Option Nat
  beyond  : Store (Nat × Nat)
  wearAt  : Store Int
  turn    : Nat
  migs    : Word
  deriving DecidableEq, Repr

/-- The migration (R412): what moves and why, its sequence number, the tick it entered its state, whether the source
is retired or the unit unmapped, whether a revert is due, and what the flip changed. -/
structure Mig where
  state   : MigState
  kind    : UnitKind
  logical : Nat
  src     : Nat
  dst     : Nat
  cause   : Nat
  seq     : Nat
  from0   : Nat
  retire  : Bool
  unmap   : Bool
  revert  : Bool
  before  : Option Flipped
  deriving DecidableEq, Repr

/-- A placement command that waits (R415): a move of a logical unit or a retire of a physical unit. -/
structure SeatCmd where
  retire : Bool
  kind   : UnitKind
  index  : Nat
  deriving DecidableEq, Repr

/-- A lookup port's answer (R558). -/
structure LookupAns where
  phys  : Nat
  valid : Bool
  epoch : Nat
  rev   : Bool
  deriving DecidableEq, Repr

/-- A query at a lookup port (R558), the tick of its answer, and the answer, which the end of the query's tick forms. -/
structure Lookup where
  port   : Nat
  due    : Nat
  kind   : UnitKind
  index  : Nat
  epoch  : Nat
  answer : Option LookupAns
  deriving DecidableEq, Repr

/-- The placement engine: the migration and its commands, the estimate period of the last flip or revert, sources
not to be tried again before a capping period (R414), clusters beyond their spare with their units served and moved
(R417), recent means of M per cluster and recent evaluated records, each with its estimate period, the hot sites' runs (R415), wear moves, bank
groups not idle with the tick of their last stamp (R419), scrub holds, the request records, and the lookup ports. -/
structure Seat where
  mig     : Mig
  cmds    : List SeatCmd
  lastMov : Option Nat
  retry   : List (UnitKind × Nat × Nat)
  beyond  : Store (Nat × Nat)
  peaks   : Store (List (Nat × Nat))
  evals   : List (Nat × Nat)
  hotRun  : Store Nat
  wearAt  : Store Int
  turn    : Nat
  awake   : Store Nat
  holds   : Store Nat
  tag     : Nat
  scrubN  : Nat
  scrubOk : Bool
  recNow  : Option InitWrite
  recs    : List InitWrite
  pend    : List Lookup
  answers : Store LookupAns
  deriving DecidableEq, Repr

/-! ## Capping, energy and jobs (R348 to R380) -/

/-- What the cap loop holds from tick 0 to tick 20,000 (R360): the selection and its status, C in W, powers in
units of 5 µW. -/
structure CapRes where
  point    : Nat
  pref     : Nat
  phase    : Nat
  upper    : Nat
  limited  : Bool
  boosting : Bool
  ceil     : Bool
  fixed    : Bool
  capEn    : Bool
  unmet    : Bool
  fallback : Bool
  cause    : Nat
  cap      : Frac
  chip     : Frac
  doms     : List Frac
  quads    : List Frac
  deriving DecidableEq, Repr

/-- What one estimate period adds to the chip energy (R365, R366): its number modulo 65,536, the energy, and whether an
estimate or a held B stands in. -/
structure Increment where
  per  : Nat
  e    : Nat
  est  : Bool
  hold : Bool
  deriving DecidableEq, Repr

/-- The cap loop and the energy accumulators: the point in effect, the computation in hand, the status latched last,
the sums of the figures latched in a capping period, the run that raises a source once,
the accumulators of R365 and R368 in 1/6,250,000 µJ, and the increments received for a period. -/
structure CapLoop where
  point  : Nat
  run    : Option CapRes
  last   : Option CapRes
  figPer : Nat
  figSum : Store Nat
  breach : Bool
  acc    : Nat
  grp    : Nat
  subst  : Bool
  inc    : Option Increment
  recv   : Store (Nat × Nat)
  deriving DecidableEq, Repr

/-- Job slot states of R372, in the order of their codes. -/
inductive JobState where
  | free | active | ending | ended
  deriving DecidableEq, Repr

/-- A job slot (R369 to R372): its ID, energy, flags and starts, and the ticks of its start, end and entry to ENDED. -/
structure JobSlot where
  state  : JobState
  id     : Word
  acc    : Nat
  shared : Bool
  est    : Bool
  hold   : Bool
  part   : Bool
  seq    : Nat
  start  : Nat
  stop   : Nat
  ended  : Nat
  deriving DecidableEq, Repr

/-! ## Blanket (R381 to R400) -/

/-- Blanket states of R385, in the order of their codes. -/
inductive BlkState where
  | wait | idle | cover
  deriving DecidableEq, Repr

/-- Blanket: state and causes, the window and the 15 latest periods (none where one counts for no fall), F0 and j,
the resumption run, messages not yet counted (ENTER with its stamp), levels by group on the bus, driven at this and
the previous period's tick 0, and formed for the next; BLK_LEVEL's quadrant levels; the filler accumulator. Powers
in units of 5 µW. -/
structure Blanket where
  state   : BlkState
  cause   : Nat
  ended   : Nat
  fresh   : Bool
  capLim  : Bool
  window  : List Frac
  recent  : List (Option Frac)
  f0      : Frac
  j       : Nat
  resume  : Nat
  limSaid : Bool
  msgs    : List (Bool × Nat)
  bus     : Store Nat
  drv     : Store Nat
  drvOld  : Store Nat
  next    : Option (Store Nat × List Nat)
  quad    : List Nat
  acc     : Nat
  deriving DecidableEq, Repr

/-! ## Link lane groups (R542 to R544) -/

/-- Link discovery: its state (0 idle, 1 running, 2 late reports accepted, 3 ended) and start, whether the result came
at the timeout, the groups reported with their classes, group states (0 OFF, 1 STANDBY, 2 ON), ticks at which a group
in STANDBY goes OFF, the mismatches, and the requests written in this tick, which follow its outcomes (R544). -/
structure Links where
  disc    : Nat
  from0   : Nat
  timeout : Bool
  found   : Store Nat
  group   : Store Nat
  offAt   : Store Nat
  unpl    : List Nat
  absent  : List Nat
  reqs    : List Word
  deriving DecidableEq, Repr

/-- A time that ran out in this tick: what it brings comes at the end of the tick, since an event stamped in the tick of
the expiry wins (R45, R47). -/
inductive Late where
  | joinWait | bridge | holdover | discovery | storeOp | copy | grace | shutdown
  | push (quad : Nat)
  | idle (group : Nat)
  | uv (dom : Nat)
  | pg (dom : Nat)
  | overload (ch : Nat)
  | spare (clu : Nat)
  | quiet (dom : Nat)
  | chipQuiet
  deriving DecidableEq, Repr

/-! ## Start and shut-down (R530 to R552) -/

/-- Start states of R532, in the order of their codes. -/
inductive BootState where
  | lock | load | check | await | sense | power | up | stopping | stopped
  deriving DecidableEq, Repr

/-- The start sequence: its state, the words of GEN_BOOT, the tick of the PLL's first lock, the sequence-pass counts
at entry to SENSE and whether the thermal manager may run (R539), the slots still to be started with the tick at
which the next falls due (R540), the tick of the shut-down command and whether its time still runs, whether the outputs are
still held at the states of R530, and the tick of the last warm reset (R548). -/
structure Boot where
  state   : BootState
  safe    : Bool
  cold    : Bool
  forced  : Bool
  cause   : Nat
  page    : Nat
  lockAt  : Option Nat
  passes  : List Nat
  thermOn : Bool
  slots   : List Nat
  slotAt  : Nat
  shutAt  : Nat
  shutOn  : Bool
  held    : Bool
  resetAt : Option Nat
  deriving DecidableEq, Repr

/-! ## The calibration store (R501 to R529) -/

/-- Store states of R528, in the order of their codes. -/
inductive StoreState where
  | absent | discover | scan | ready | full
  deriving DecidableEq, Repr

/-- A flash sector as the store knows it: the 64 header bytes last read or written (R507), erase count, opening order, whether
it counts as erased, whether a block of it is not erased all the same (R509), retired. -/
structure FlashSec where
  head    : List Byte
  erases  : Nat
  openSeq : Nat
  erased  : Bool
  dirty   : Bool
  retired : Bool
  deriving DecidableEq, Repr

/-- How the store drives the part that it found (R505): the instructions that read, program and erase it, the dummy cycles of a
read, its lanes, the code of its quad enable, the bytes of a page, 4-byte addresses, and whether they need the 4-byte mode. -/
structure FlashDrive where
  read    : Byte
  program : Byte
  erase   : Byte
  dummies : Nat
  lanes   : Nat
  quadBy  : Nat
  page    : Nat
  wide    : Bool
  enter   : Bool
  deriving DecidableEq, Repr

/-- A queued write (R516): type, key, whether it is a copy, its payload with its seal where one is fixed, whether it
holds the capture buffer, and whether it is the last store command's. -/
structure CalReq where
  typ     : Nat
  key     : Nat
  copy    : Bool
  payload : Option Payload
  sealCrc : Word
  capt    : Bool
  last    : Bool
  deriving DecidableEq, Repr

/-- A write being programmed: the request, the record, the page program of it that is under way, the tick that one began. -/
structure Program where
  req    : CalReq
  record : Record
  page   : Nat
  from0  : Nat
  deriving DecidableEq, Repr

/-- The calibration store: its state and discovery step (0 reset wait, 1 JEDEC, 2 SFDP, 9 an operation to end first),
the part and how it is driven, its sectors and records, the journal's place, the queue, what is being programmed or erased, the sectors to
be emptied (with whether they are retired after it, else erased), the record to be written again, the last store
command's outcome, writes that mechanisms are to request, requests that a full queue refused, when a scrub was last
made, powered seconds and those of the last wear record. -/
structure CalStore where
  state   : StoreState
  step    : Nat
  from0   : Nat
  tries   : Nat
  density : Nat
  quad    : Bool
  drive   : FlashDrive
  found   : Nat
  secs    : Store FlashSec
  recs    : List Record
  active  : Option Nat
  ptr     : Nat
  seq     : Nat
  openSeq : Nat
  queue   : List CalReq
  capture : Bool
  prog    : Option Program
  erase   : Option (Nat × Nat)
  drain   : List (Nat × Bool)
  redo    : Option (CalReq × Record)
  cmdStat : Nat
  cmdOp   : Nat
  owed    : List (Nat × Nat)
  late    : List CalReq
  scrubAt : Nat
  powered : Nat
  saved   : Nat
  deriving DecidableEq, Repr

/-! ## What holds at reset -/

def timeBase0 : TimeBase :=
  { tick := 0, elapsed := 0, running := false, aOk := false, bOk := false, bridgeOk := false, aLost := 0, bLost := 0,
    brLost := 0, loaded := none, sel := 0, lock := false,
    hold := false, expired := false, holdAt := 0, goodAt := 0, heldFab := none, heldI3c := none }

def bridge0 : Bridge :=
  { role := 0, inst := 0, peers := 0, joined := false, lost := false, lastSync := 0, offset := 0, syncDue := 0, capRecv := 0,
    sent := none, capSent := [], enSent := none, links := [] }

/-- The register model at reset. `GEN_SEAL` holds 0 until it is first written (DESIGN CHOICE, log entry 17: R98 gives it no
reset value). -/
def regs0 : Regs :=
  { shadow := [], active := [], live := [], badShadow := [], badActive := [], pend := [], crc := 0xFFFFFFFF, frozen := none,
    startSet := none, seen := [], lc := [], walker := 0, sealWord := 0, trims := [], strobe := none, drove := none, snapAt := none }

def faults0 : Faults :=
  { regq := [], present := [], alive := false, chipOff := false, chipFrom := 0, chipRef := false, alerts := [], inflight := none,
    dropped := false, ibi := none, ibiNext := none, lastSrc := 0, discAt := none }

def i3c0 : I3c :=
  { da := 0, daValid := false, enint := false, mwl := 69, mrl := 65, protErr := false, hdr := false, reply := none,
    fetch := none, data := none, answer := [] }

def hostPorts0 (p : Params) : HostPorts := { fab := .none, i3c := .none, sel := p.secureHost, target := i3c0, out := [] }

def debug0 : Debug := { busy := false, done := false, refused := false, withdrawn := false, seq := 0 }

def sparing0 : Sparing :=
  { engIsol := [], spareIsol := [], adcIsol := [], dioIsol := [], chIsol := [], spareFail := [], wearOwed := false,
    secTicks := 0, rotTick := none, selfTest := none }

def tally0 : Tally :=
  { feat := [], featBad := [], featPer := 0, frozen := [], frozenBad := [], run := none, est := [], good := [], ovr := false,
    since := [], load := none, scaler := [], arb := [], holdN := [], kept := [], dgb := [], recal := [], fig := [], owed := [] }

def therm0 : Therm :=
  { dRes := [], tRes := [], run := none, dFail := [], dRun := [], disRun := [], maxed := [], lost := [], tFail := [],
    tRun := [], gstate := [0, 0, 0], gtemp := [0, 0, 0], blind := [false, false, false], above := none, mode := 0, opMin := 0,
    req := false, grace := none, await := false, enf := false, ceil := none, factor := 32768, ntcBad := false, valid := false, peaked := false,
    shutAt := 0, cyc := [] }

def plan0 : Plan :=
  { epoch := 0, tiles := [], banks := [], ptiles := [], pbanks := [], prevT := [], prevB := [], kept := false, prev := 0,
    reverted := false, ready := false }

def mig0 : Mig :=
  { state := .idle, kind := .tile, logical := 0, src := 0, dst := 0, cause := 0, seq := 0, from0 := 0,
    retire := false, unmap := false, revert := false, before := none }

def seat0 : Seat :=
  { mig := mig0, cmds := [], lastMov := none, retry := [], beyond := [], peaks := [], evals := [], hotRun := [],
    wearAt := [], turn := 0, awake := [], holds := [], tag := 0, scrubN := 0, scrubOk := false, recNow := none, recs := [],
    pend := [], answers := [] }

def capLoop0 : CapLoop :=
  { point := 0, run := none, last := none, figPer := 0, figSum := [], breach := false,
    acc := 0, grp := 0, subst := false, inc := none, recv := [] }

def blanket0 : Blanket :=
  { state := .wait, cause := 0, ended := 0, fresh := false, capLim := false, window := [], recent := [], f0 := Frac.zero,
    j := 0, resume := 0, limSaid := false, msgs := [], bus := [], drv := [], drvOld := [], next := none,
    quad := [0, 0, 0, 0], acc := 0 }

def links0 : Links :=
  { disc := 0, from0 := 0, timeout := false, found := [], group := [], offAt := [], unpl := [], absent := [], reqs := [] }

def boot0 : Boot :=
  { state := .lock, safe := false, cold := true, forced := false, cause := 0, page := 0, lockAt := none, passes := [],
    thermOn := false, slots := [], slotAt := 0, shutAt := 0, shutOn := false, held := true, resetAt := none }

/-- A part of which nothing is known yet is read by `0x0B` on one lane, in pages of 256 bytes (R505). -/
def drive0 : FlashDrive :=
  { read := 0x0B, program := 0x02, erase := 0, dummies := 8, lanes := 1, quadBy := 0, page := 256, wide := false, enter := false }

def calStore0 : CalStore :=
  { state := .absent, step := 0, from0 := 0, tries := 0, density := 0, quad := false, drive := drive0, found := 0, secs := [], recs := [],
    active := none, ptr := 0, seq := 0, openSeq := 0, queue := [], capture := false, prog := none, erase := none,
    drain := [], redo := none, cmdStat := 0, cmdOp := 0, owed := [], late := [], scrubAt := 0, powered := 0, saved := 0 }

/-! ## The whole state -/

/-- The state of the block (plain data). -/
structure State where
  /-- The parameters of the build, which no command changes. -/
  params : Params
  /-- The block has power (R32). -/
  powered : Bool
  /-- The time base (R34 to R47). -/
  tb : TimeBase
  /-- The bridge (R54 to R57). -/
  bridge : Bridge
  /-- The self-timed engines (R49 to R53), under their class and number. -/
  eng : Store EngRun
  /-- The register model (R61 to R98). -/
  regs : Regs
  /-- The host ports (R560 to R567). -/
  ports : HostPorts
  /-- The debug port (R577). -/
  dbg : Debug
  /-- The cells (R99 to R138), by global number. -/
  cells : Store Cell
  /-- The clusters, by global number. -/
  clus : Store Cluster
  /-- The sectors with their engines and profiles (R139 to R206). -/
  secs : Store Sector
  /-- Inrush budgets by quadrant (R197). -/
  inrush : Store Inrush
  /-- The forecast windows (R207 to R231), by quadrant. -/
  trail : Store TrailWin
  /-- The fault manager (R474 to R500). -/
  flt : Faults
  /-- Recovery by domain (R488). -/
  recov : Store Recovery
  /-- The command rings (R453 to R473), by quadrant. -/
  rings : Store Ring
  /-- The wear of cells (R430 to R437). -/
  wears : Store Wear
  /-- The sparing engine (R429 to R452). -/
  sparing : Sparing
  /-- Tally (R232 to R261). -/
  tally : Tally
  /-- Model memory (R247), by offset: canonical, unlisted bytes read 0. -/
  mem : Memory
  /-- The board stage controllers (R262 to R298), by domain. -/
  stages : Store Stage
  /-- The stage channels, by global number. -/
  chans : Store StgCh
  /-- The converters (R299 to R319). -/
  adcs : Store Adc
  /-- Roles lost and not yet passed on, each with the converter that lost it, rail roles first (R317, R318). -/
  adcOwed : List (Nat × Nat)
  /-- The times that ran out in this tick (R45). -/
  late : List Late
  /-- The telemetry sequencers (R307 to R314), by quadrant. -/
  quads : Store Quad
  /-- Cross-check arbitrations under way (R316), by domain. -/
  xchks : Store Xchk
  /-- The thermal manager (R326 to R347). -/
  therm : Therm
  /-- The cap loop and the energy accumulators (R348 to R368). -/
  cap : CapLoop
  /-- The job slots (R369 to R373). -/
  jobs : Store JobSlot
  /-- Blanket (R381 to R395). -/
  blk : Blanket
  /-- The seating plan (R401 to R411). -/
  plan : Plan
  /-- The placement engine and the bank groups (R412 to R427). -/
  seat : Seat
  /-- Link discovery (R542 to R544). -/
  lnk : Links
  /-- The start sequence (R530 to R548). -/
  boot : Boot
  /-- The calibration store (R501 to R529). -/
  cal : CalStore
  /-- The commands that wait, first in first out. -/
  pending : List Instr
  deriving DecidableEq, Repr

def State.setPower (s : State) (x : Bool) : State := { s with powered := x }
def State.setTb (s : State) (x : TimeBase) : State := { s with tb := x }
def State.setBridge (s : State) (x : Bridge) : State := { s with bridge := x }
def State.setEngs (s : State) (x : Store EngRun) : State := { s with eng := x }
def State.setRegs (s : State) (x : Regs) : State := { s with regs := x }
def State.setPorts (s : State) (x : HostPorts) : State := { s with ports := x }
def State.setDbg (s : State) (x : Debug) : State := { s with dbg := x }
def State.setCells (s : State) (x : Store Cell) : State := { s with cells := x }
def State.setClus (s : State) (x : Store Cluster) : State := { s with clus := x }
def State.setSecs (s : State) (x : Store Sector) : State := { s with secs := x }
def State.setInrush (s : State) (x : Store Inrush) : State := { s with inrush := x }
def State.setTrail (s : State) (x : Store TrailWin) : State := { s with trail := x }
def State.setFlt (s : State) (x : Faults) : State := { s with flt := x }
def State.setRecov (s : State) (x : Store Recovery) : State := { s with recov := x }
def State.setRings (s : State) (x : Store Ring) : State := { s with rings := x }
def State.setWears (s : State) (x : Store Wear) : State := { s with wears := x }
def State.setSparing (s : State) (x : Sparing) : State := { s with sparing := x }
def State.setTally (s : State) (x : Tally) : State := { s with tally := x }
def State.setMem (s : State) (x : Memory) : State := { s with mem := x }
def State.setStages (s : State) (x : Store Stage) : State := { s with stages := x }
def State.setChans (s : State) (x : Store StgCh) : State := { s with chans := x }
def State.setAdcs (s : State) (x : Store Adc) : State := { s with adcs := x }
def State.setAdcOwed (s : State) (x : List (Nat × Nat)) : State := { s with adcOwed := x }
def State.setLate (s : State) (x : List Late) : State := { s with late := x }
def State.setQuads (s : State) (x : Store Quad) : State := { s with quads := x }
def State.setXchks (s : State) (x : Store Xchk) : State := { s with xchks := x }
def State.setTherm (s : State) (x : Therm) : State := { s with therm := x }
def State.setCap (s : State) (x : CapLoop) : State := { s with cap := x }
def State.setJobs (s : State) (x : Store JobSlot) : State := { s with jobs := x }
def State.setBlk (s : State) (x : Blanket) : State := { s with blk := x }
def State.setPlan (s : State) (x : Plan) : State := { s with plan := x }
def State.setSeat (s : State) (x : Seat) : State := { s with seat := x }
def State.setLnk (s : State) (x : Links) : State := { s with lnk := x }
def State.setBoot (s : State) (x : Boot) : State := { s with boot := x }
def State.setCal (s : State) (x : CalStore) : State := { s with cal := x }
def State.setPending (s : State) (x : List Instr) : State := { s with pending := x }

/-- The block as `COLD_START` leaves it (R531, R41, R109), with nothing pending. -/
def State.resetWith (p : Params) : State :=
  { params := p,
    powered := true,
    tb := timeBase0,
    bridge := bridge0,
    eng := [],
    regs := regs0,
    ports := hostPorts0 p,
    dbg := debug0,
    cells := [],
    clus := [],
    secs := [],
    inrush := [],
    trail := [],
    flt := faults0,
    recov := [],
    rings := [],
    wears := [],
    sparing := sparing0,
    tally := tally0,
    mem := [],
    stages := [],
    chans := [],
    adcs := [],
    adcOwed := [],
    late := [],
    quads := [],
    xchks := [],
    therm := therm0,
    cap := capLoop0,
    jobs := [],
    blk := blanket0,
    plan := plan0,
    seat := seat0,
    lnk := links0,
    boot := boot0,
    cal := calStore0,
    pending := [] }

/-- The block right after reset, with the parameters of the reference (log entry 2). -/
def State.reset : State := State.resetWith Params.reference

end Sys2Proof.Machine
end

