-- ==== Sys2Proof/Machine/Flash.lean ====
section
/-! DEFINITION. The bytes of the flash part: sector headers (R507), records (R510) and their payloads (R512, R513), the
reading of a record's blocks (R508, R509, R511) and of a sector (R514), and what the SFDP table shows (R505). -/

namespace Sys2Proof.Machine

/-! ### Numbers and bitmaps -/

/-- The `n` bytes of a number, little-endian. -/
def leBytes (n v : Nat) : List Byte := (upto n).map (fun i => BitVec.ofNat 8 (v / 256 ^ i))

/-- `k` fields of `n` bytes each. -/
def leFields (n : Nat) : Nat → List Byte → List Nat
  | 0, _ => []
  | k + 1, l => leNat (l.take n) :: leFields n k (l.drop n)

/-- The units whose bits are set in a bitmap, and a bitmap of `n` bytes. -/
def bitmapUnits (l : List Byte) : List Nat :=
  l.zipIdx.flatMap (fun (b, i) => ((upto 8).filter (fun j => b.getLsbD j)).map (fun j => 8 * i + j))
def bitmapBytes (n : Nat) (l : List Nat) : List Byte :=
  (upto n).map (fun i => BitVec.ofNat 8 (packBits ((upto 8).map (fun j => l.contains (8 * i + j)))))

/-! ### Payloads (R512, R513) -/

/-- The kind of payload that a type and key take; a record of no payload is a tombstone of any type. -/
def payloadFits (p : Payload) (typ key : Nat) : Bool :=
  match p with
  | .sealed _ => (typ == 1 || typ == 2) && key == 0
  | .trims _ => typ == 3 && decide (key < 4)
  | .wear _ _ => typ == 4 && decide (key < 4)
  | .wearAll _ _ _ _ _ => typ == 4 && key == 4
  | .retire _ _ _ _ _ _ _ _ _ _ => typ == 5 && key == 0
  | .plan _ _ => typ == 6 && key == 0
  | .model b => typ == 7 && decide (key < 9) && b.length == (if key < 8 then 2304 else 32804)
  | .empty => decide (1 ≤ typ) && decide (typ ≤ 7) &&
      decide (key < (if typ = 3 then 4 else if typ = 4 then 5 else if typ = 7 then 9 else 1))

/-- `LEN` of a payload. -/
def payloadLen : Payload → Nat
  | .sealed l => 8 * l.length
  | .trims _ => 2048
  | .wear _ _ => 12544
  | .wearAll _ _ _ _ _ => 1384
  | .retire _ _ _ _ _ _ _ _ _ _ => 18420
  | .plan _ _ => 36864
  | .model b => b.length
  | .empty => 0

/-- The bytes of a payload. -/
def payloadBytes : Payload → List Byte
  | .sealed l => l.flatMap (fun e => leBytes 4 e.1 ++ wordBytes e.2)
  | .trims l => l.flatMap (leBytes 2)
  | .wear cells ages => cells.flatMap (fun c => leBytes 4 c.1 ++ leBytes 4 c.2.1 ++ leBytes 2 c.2.2.1 ++ leBytes 2 c.2.2.2) ++
      ages.flatMap (leBytes 4)
  | .wearAll pow chans adcs dios engs => leBytes 8 pow ++
      chans.flatMap (fun c => leBytes 4 c.1 ++ leBytes 4 c.2.1 ++ leBytes 2 c.2.2 ++ [0, 0]) ++
      (adcs ++ dios ++ engs).flatMap (leBytes 2)
  | .retire cells legs sensors engines convs dios chans tiles banks secs => bitmapBytes 512 cells ++ legs.flatMap (leBytes 4) ++
      bitmapBytes 64 sensors ++ bitmapBytes 16 engines ++ bitmapBytes 4 convs ++ bitmapBytes 16 dios ++ bitmapBytes 16 chans ++
      bitmapBytes 128 tiles ++ bitmapBytes 1024 banks ++ bitmapBytes 256 secs
  | .plan tiles banks => (tiles ++ banks).flatMap wordBytes
  | .model b => b
  | .empty => []

/-- The next `n` bytes of a payload from `at0`. -/
def cut (l : List Byte) (at0 n : Nat) : List Byte := (l.drop at0).take n

def readSealed : Nat → List Byte → List SealEntry
  | 0, _ => []
  | n + 1, l => (leNat (l.take 4), BitVec.ofNat 32 (leNat (cut l 4 4))) :: readSealed n (l.drop 8)

def readCells : Nat → List Byte → List (Nat × Nat × Nat × Nat)
  | 0, _ => []
  | n + 1, l => (leNat (l.take 4), leNat (cut l 4 4), leNat (cut l 8 2), leNat (cut l 10 2)) :: readCells n (l.drop 12)

def readChans : Nat → List Byte → List (Nat × Nat × Nat)
  | 0, _ => []
  | n + 1, l => (leNat (l.take 4), leNat (cut l 4 4), leNat (cut l 8 2)) :: readChans n (l.drop 12)

def leWords (n : Nat) (l : List Byte) : List Word := (leFields 4 n l).map (BitVec.ofNat 32)

/-- The payload of a type and key from its `LEN` bytes; none where R512 does not allow the three. -/
def readPayload (typ key : Nat) (l : List Byte) : Option Payload :=
  let n := l.length
  let p : Payload :=
    if n = 0 then .empty
    else if typ = 1 || typ = 2 then .sealed (readSealed (n / 8) l)
    else if typ = 3 then .trims (leFields 2 1024 l)
    else if typ = 4 && key = 4 then .wearAll (leNat (l.take 8)) (readChans 80 (l.drop 8)) (leFields 2 12 (l.drop 968))
      (leFields 2 128 (l.drop 992)) (leFields 2 68 (l.drop 1248))
    else if typ = 4 then .wear (readCells 1024 l) (leFields 4 64 (l.drop 12288))
    else if typ = 5 then .retire (bitmapUnits (cut l 0 512)) (leFields 4 4096 (l.drop 512)) (bitmapUnits (cut l 16896 64))
      (bitmapUnits (cut l 16960 16)) (bitmapUnits (cut l 16976 4)) (bitmapUnits (cut l 16980 16)) (bitmapUnits (cut l 16996 16))
      (bitmapUnits (cut l 17012 128)) (bitmapUnits (cut l 17140 1024)) (bitmapUnits (cut l 18164 256))
    else if typ = 6 then .plan (leWords 1024 l) (leWords 8192 (l.drop 4096))
    else .model l
  if payloadFits p typ key && n == payloadLen p then some p else none

/-! ### Records (R510) -/

/-- A record takes whole blocks. -/
def recBlocks (len : Nat) : Nat := (36 + len + 511) / 512

/-- A record's 32-byte header. -/
def recordHead (r : Record) : List Byte :=
  let l := leBytes 4 0x31524A43 ++ [BitVec.ofNat 8 r.typ, BitVec.ofNat 8 r.key, 1, 0] ++ leBytes 4 r.len ++ leBytes 4 r.seq ++
    leBytes 8 r.written ++ wordBytes r.sealCrc
  l ++ wordBytes (crc32 l)

/-- Header, payload, CRC, and zeros to the end of the last block. -/
def recordBytes (r : Record) : List Byte :=
  let l := recordHead r ++ payloadBytes r.payload
  let b := l ++ wordBytes (crc32 l)
  b ++ List.replicate (512 * recBlocks r.len - b.length) 0

/-- The blocks of a record as they are programmed. -/
def dataBlocks : Nat → List Byte → List (List Byte)
  | 0, _ => []
  | n + 1, l => bchBlock (l.take 512) :: dataBlocks n (l.drop 512)

def recordImage (r : Record) : List (List Byte) := dataBlocks (recBlocks r.len) (recordBytes r)

/-- What a header whose `HCRC` passes says: a record without its payload. -/
def readHead (sector block : Nat) (l : List Byte) : Option Record :=
  if leNat (cut l 0 4) == 0x31524A43 && leNat (cut l 6 1) == 1 && wordBytes (crc32 (l.take 28)) == cut l 28 4 then
    some { sector := sector, block := block, typ := leNat (cut l 4 1), key := leNat (cut l 5 1), len := leNat (cut l 8 4),
           seq := leNat (cut l 12 4), written := leNat (cut l 16 8), sealCrc := BitVec.ofNat 32 (leNat (cut l 24 4)),
           payload := .empty, valid := false }
  else none

/-! ### Reading -/

/-- Where a block of a sector, and a sector of the part, begin (R506). -/
def blockAt (b : Nat) : Nat := 64 + 528 * b
def sectorAt (i : Nat) : Nat := 65536 * i

/-- A block of a sector as the part gives it; one that is not listed is blank. -/
def imageBlock (x : SectorImage) (b : Nat) : List Byte :=
  ((x.data.find? (fun e => e.1 == blockAt b)).map (·.2)).getD (List.replicate 528 0xFF)

/-- A block is erased when at most 8 of its bits are 0 (R509). -/
def blankBlock (l : List Byte) : Bool :=
  decide ((l.flatMap byteBits).foldl (fun t b => if b then t else t + 1) 0 ≤ 8)

/-- A record as it was read, with the corrections that its worst block needed and the bits corrected in all (R521). -/
structure RecordRead where
  record : Record
  corr   : Nat
  fixed  : Nat
  deriving DecidableEq, Repr

/-- The record whose header `h` stands in its first block: valid where every block decodes, the CRC matches, and type, key
and length are those of R512 (R511). -/
def readRecord (x : SectorImage) (h : Record) : RecordRead :=
  let n := recBlocks h.len
  let got := if h.block + n ≤ 124 then (upto n).map (fun i => bchDecode (imageBlock x (h.block + i))) else [none]
  let counts := got.filterMap (fun g => g.map (·.2))
  let bytes := got.flatMap (fun g => (g.map (·.1)).getD [])
  let body := bytes.take (32 + h.len)
  let good := got.all (·.isSome) && wordBytes (crc32 body) == cut bytes (32 + h.len) 4
  let r := match readPayload h.typ h.key (body.drop 32) with
    | some p => if good then { h with payload := p, valid := true } else h
    | none => h
  ⟨r, maxNat counts, counts.foldl (· + ·) 0⟩

/-- The header in a block that is not erased, where one passes. -/
def headAt (x : SectorImage) (b : Nat) : Option Record :=
  if blankBlock (imageBlock x b) then none
  else match bchDecode (imageBlock x b) with
    | some (l, _) => readHead x.index b l
    | none => none

/-- The records of a sector, block by block; a block that begins none is skipped singly (R514). -/
def scanBlocks (x : SectorImage) : Nat → Nat → List RecordRead
  | 0, _ => []
  | n + 1, b =>
    if 124 ≤ b then []
    else match headAt x b with
      | some h => readRecord x h :: scanBlocks x n (b + recBlocks h.len)
      | none => scanBlocks x n (b + 1)

def sectorRecords (x : SectorImage) : List RecordRead := scanBlocks x 124 0

/-- A sector header's copy: erases and opening order (R507). -/
def readSectorHead (l : List Byte) : Option (Nat × Nat) :=
  if leNat (cut l 0 4) == 0x31534A43 && leNat (cut l 4 1) == 1 && wordBytes (crc32 (l.take 28)) == cut l 28 4 then
    some (leNat (cut l 8 4), leNat (cut l 12 4))
  else none

def sectorHead (l : List Byte) : Option (Nat × Nat) :=
  match readSectorHead (l.take 32) with
  | some h => some h
  | none => readSectorHead ((l.drop 32).take 32)

/-- The two copies of a sector header, as they are written (R507). -/
def headBytes (erases openSeq : Nat) : List Byte :=
  let l := leBytes 4 0x31534A43 ++ [1, 0, 0, 0] ++ leBytes 4 erases ++ leBytes 4 openSeq ++ List.replicate 12 0
  let c := l ++ wordBytes (crc32 l)
  c ++ c

/-- A sector's blocks; one that no image gives is blank. -/
def imageOf (images : List SectorImage) (i : Nat) : SectorImage := (images.find? (fun x => x.index == i)).getD ⟨i, []⟩

/-- A sector as a scan finds it (R507, R515): without a valid header it counts as erased. A header whose `OPENSEQ` is 0 is
that of a sector erased and not opened since (DESIGN CHOICE, log entry 25: the spec states no value for it). -/
def sectorInfo (images : List SectorImage) (k : SectorHeader) : SectorInfo :=
  let x := imageOf images k.index
  let h := sectorHead k.bytes
  let last := ((upto 124).filter (fun b => !blankBlock (imageBlock x b))).foldl (fun _ b => some b) none
  let ends := fun (b : Nat) => (sectorRecords x).any (fun r => r.record.valid && r.record.block + recBlocks r.record.len == b + 1)
  { index := k.index, head := k.bytes, erases := (h.map (·.1)).getD 0, openSeq := (h.map (·.2)).getD 0, erased := (h.map (·.2)).getD 0 == 0
    nextFree := match last with
      | some b => if ends b then b + 1 else b + 2
      | none => 0 }

/-! ### Discovery (R505) -/

/-- DWORD n of the basic flash parameter table; 0 where it has none. -/
def dword (x : SfdpInfo) (n : Nat) : Word := x.bfpt.getD (n - 1) 0

/-- log2 of the density in Mbit, 6 to 10: DWORD 2 gives the bits less 1, or with bit 31 their power of two. -/
def sfdpDensity (x : SfdpInfo) : Option Nat :=
  let w := dword x 2
  ([6, 7, 8, 9, 10] : List Nat).find? (fun n =>
    if w.bit 31 then w.field 30 0 == 20 + n else w.toNat + 1 == 2 ^ (20 + n))

/-- A 64 KiB erase type: a size exponent of 16 in DWORD 8 or 9. -/
def sfdpErases (x : SfdpInfo) : Bool :=
  [8, 9].any (fun n => (dword x n).field 7 0 == 16 || (dword x n).field 23 16 == 16)

/-- The erase type of 64 KiB: its place among the four, and its instruction. -/
def sfdpEraseType (x : SfdpInfo) : Option (Nat × Byte) :=
  (([0, 1, 2, 3] : List Nat).find? (fun t => (dword x (8 + t / 2)).field (16 * (t % 2) + 7) (16 * (t % 2)) == 16)).map
    (fun t => (t, BitVec.ofNat 8 ((dword x (8 + t / 2)).field (16 * (t % 2) + 15) (16 * (t % 2) + 8))))

/-- Every condition that R505 requires. -/
def sfdpUsable (x : SfdpInfo) : Bool :=
  x.signature == 0x50444653 && x.major == 1 && (sfdpDensity x).isSome && sfdpErases x

/-- Reads on four lanes: 1-1-4 fast read (DWORD 1 bit 22) with a quad-enable code of 0 to 5 in DWORD 15. The places of the
fields in the DWORDs are those of JESD216 (PRESUMED, log entry 26). -/
def sfdpQuad (x : SfdpInfo) : Bool :=
  (dword x 1).bit 22 && decide (15 ≤ x.bfpt.length) && decide ((dword x 15).field 22 20 ≤ 5)

/-- The 4-byte table lists the read, the page program and the erase that the store uses of a part (R505; its bits are those of
JESD216, PRESUMED, log entry 26). -/
def sfdpFour (x : SfdpInfo) : Bool :=
  let w := x.four.getD 0 0
  let t := ((sfdpEraseType x).map (·.1)).getD 0
  decide (2 ≤ x.four.length) && w.bit (if sfdpQuad x then 4 else 1) && w.bit 6 && w.bit (9 + t)

/-- How the part is driven (R505): reads by its own 1-1-4 instruction, else by `0x0B` on one lane; above 128 Mbit 4-byte
instructions where the 4-byte table lists them, else the 4-byte mode. -/
def sfdpDrive (x : SfdpInfo) : FlashDrive :=
  let quad := sfdpQuad x
  let wide := decide (7 < (sfdpDensity x).getD 0)
  let four := wide && sfdpFour x
  let (t, e) := (sfdpEraseType x).getD (0, 0)
  let d3 := dword x 3
  { read := if four then (if quad then 0x6C else 0x0C) else if quad then BitVec.ofNat 8 (d3.field 31 24) else 0x0B
    program := if four then 0x12 else 0x02
    erase := if four then BitVec.ofNat 8 ((x.four.getD 1 0).field (8 * t + 7) (8 * t)) else e
    dummies := if quad then d3.field 20 16 + d3.field 23 21 else 8
    lanes := if quad then 4 else 1
    quadBy := if quad then (dword x 15).field 22 20 else 0
    page := if 11 ≤ x.bfpt.length then 2 ^ (dword x 11).field 7 4 else 256
    wide := wide
    enter := wide && !four }

/-! ### Instructions to the part (R504, R505) -/

/-- An instruction on the flash port: its code, its address in 3 or 4 bytes, its dummy cycles, the lanes of its data, the bytes
that it writes. -/
structure FlashOp where
  instr   : Byte
  addr    : Option Nat
  wide    : Bool
  dummies : Nat
  lanes   : Nat
  data    : List Byte
  deriving DecidableEq, Repr

def flashOp (instr : Byte) : FlashOp := ⟨instr, none, false, 0, 1, []⟩
def writeEnable : FlashOp := flashOp 0x06
def readStatus : FlashOp := flashOp 0x05

/-- Quad enable by its code, before any read on four lanes: none for code 0, else the bit of a status register that the code
names (the registers and bits are those of JESD216, PRESUMED, log entry 26). -/
def quadEnable (code : Nat) : List FlashOp :=
  if code = 0 then []
  else if code = 2 then [writeEnable, { flashOp 0x01 with data := [0x40] }]
  else if code = 3 then [writeEnable, { flashOp 0x3E with data := [0x80] }]
  else [writeEnable, { flashOp 0x01 with data := [0, 2] }]

/-- What makes a part found ready to be read: quad enable, and entry to the 4-byte mode where it is needed. -/
def prepareOps (d : FlashDrive) : List FlashOp :=
  (if d.lanes = 4 then quadEnable d.quadBy else []) ++ (if d.enter then [flashOp 0xB7] else [])

def readOp (d : FlashDrive) (addr : Nat) : FlashOp := ⟨d.read, some addr, d.wide, d.dummies, d.lanes, []⟩
/-- A page program and an erase, each after write enable and polled for its end. -/
def programOps (d : FlashDrive) (addr : Nat) (l : List Byte) : List FlashOp :=
  [writeEnable, ⟨d.program, some addr, d.wide, 0, 1, l⟩, readStatus]
def eraseOps (d : FlashDrive) (addr : Nat) : List FlashOp := [writeEnable, ⟨d.erase, some addr, d.wide, 0, 1, []⟩, readStatus]

/-- The page programs of a record, in ascending address order: none crosses a page (R505, R517). -/
def pagesFrom (page : Nat) : Nat → Nat → List Byte → List (Nat × List Byte)
  | 0, _, _ => []
  | n + 1, at0, l =>
    let k := page - at0 % page
    if l.isEmpty then [] else (at0, l.take k) :: pagesFrom page n (at0 + k) (l.drop k)

/-- Where a record begins in the part, and how many page programs it takes. -/
def recordAt (r : Record) : Nat := sectorAt r.sector + blockAt r.block
def pageCount (page : Nat) (r : Record) : Nat :=
  (recordAt r + 528 * recBlocks r.len - 1) / page - recordAt r / page + 1

def recordPages (page : Nat) (r : Record) : List (Nat × List Byte) :=
  pagesFrom page (pageCount page r) (recordAt r) ((recordImage r).foldr (· ++ ·) [])

end Sys2Proof.Machine
end

