-- ==== Sys2Proof/Machine/RegTable.lean ====
section
/-! DEFINITION. The register index (R574, R579) as data: for every page type its registers beyond the common
layout, with offset, access code (R16), apply class (R66), reset value, and the fields a write can change with
the range each field reads in (R580). Offsets are those of R579; the other columns those of the rule cited. -/

namespace Sys2Proof

/-- Access codes of R16 (LC is an apply class here, R66). -/
inductive Acc where
  | rw | ro | rc | wo | w1p | rws | ros
  deriving DecidableEq, Repr

/-- Apply classes of R66. -/
inductive Cls where
  | shadow | lc | nextStart | imm | none
  deriving DecidableEq, Repr

/-- How a field of a stored word reads (R580). -/
inductive Range where
  | full
  /-- values outside read as the nearest end -/
  | between (lo hi : Nat)
  /-- a two's complement field; values outside read as the nearest end -/
  | signedBetween (lo : Int) (hi : Int)
  /-- one reserved code reads as 0 -/
  | zeroAt (code : Nat)
  /-- from `lo` up to another field of the word, as that field reads -/
  | upTo (hi2 lo2 lo : Nat)
  /-- from another field of the word plus 1, as that field reads within its own range, up to `hi` -/
  | above (hi2 lo2 min2 max2 hi : Nat)
  /-- 1 to the channel count of the page's domain (R295, R20) -/
  | channels
  deriving DecidableEq, Repr

/-- A field: bits [hi:lo] and how they read. -/
structure Fld where
  hi : Nat
  lo : Nat
  rng : Range
  deriving DecidableEq, Repr

/-- A register, or `count` registers `stride` bytes apart. -/
structure Row where
  off    : Nat
  stride : Nat
  count  : Nat
  acc    : Acc
  cls    : Cls
  reset  : Nat
  flds   : List Fld
  result : Bool
  deriving DecidableEq, Repr

/-- Page types, in the order of their `TYPE` codes (R574). -/
inductive PageType where
  | gen | tb | flt | arb | pwr | thm | cal | tal | trail | seat | blk | lnk | host | dbg | bridge | test | qd | adc | stg | sec | clu
  deriving DecidableEq, Repr

namespace RegTable

def f (hi lo : Nat) : Fld := ⟨hi, lo, .full⟩
def g (hi lo a b : Nat) : Fld := ⟨hi, lo, .between a b⟩
def sg (hi lo : Nat) (a b : Int) : Fld := ⟨hi, lo, .signedBetween a b⟩
def z (hi lo c : Nat) : Fld := ⟨hi, lo, .zeroAt c⟩
def upTo (hi lo h2 l2 a : Nat) : Fld := ⟨hi, lo, .upTo h2 l2 a⟩
def above (hi lo h2 l2 c e b : Nat) : Fld := ⟨hi, lo, .above h2 l2 c e b⟩
def chan (hi lo : Nat) : Fld := ⟨hi, lo, .channels⟩
def r (off stride count : Nat) (acc : Acc) (cls : Cls) (reset : Nat) (flds : List Fld) : Row :=
  ⟨off, stride, count, acc, cls, reset, flds, false⟩
def res (off stride count : Nat) (acc : Acc) : Row := ⟨off, stride, count, acc, .none, 0, [], true⟩

/-- Registers of the GEN page type (R98, R550, R579). -/
def gen : List Row :=
  [
   r 0x040 4 1 .rw .imm 0x0 [f 0 0, f 1 1],
   r 0x044 4 1 .rws .imm 0x0 [f 7 0, f 8 8],
   r 0x048 4 1 .rws .shadow 0xFE4 [f 7 0, f 11 8, f 23 16],
   r 0x04C 4 1 .rws .shadow 0x64 [g 9 0 1 1000],
   r 0x200 4 1 .ro .none 0x0 [],
   r 0x204 4 1 .w1p .imm 0x0 [],
   r 0x208 4 1 .w1p .imm 0x0 [],
   r 0x20C 4 1 .wo .imm 0x0 [],
   r 0x210 4 1 .ro .none 0x0 [],
   r 0x214 4 1 .rc .none 0x0 [],
   r 0x218 4 1 .ro .none 0x0 [],
   r 0x21C 4 1 .ro .none 0x0 [],
   r 0x220 4 1 .ro .none 0x0 [],
   r 0x224 4 1 .rc .none 0x0 [],
   r 0x228 4 1 .ro .none 0x20 [],
   r 0x22C 4 1 .ro .none 0x0 [],
   r 0x230 4 1 .ro .none 0x0 [],
   r 0x284 4 1 .w1p .imm 0x0 []
  ]

/-- Registers of the TB page type (R58, R579). -/
def tb : List Row :=
  [
   r 0x020 4 1 .ro .none 0x0 [],
   r 0x024 4 1 .ro .none 0x0 [],
   r 0x028 4 1 .ro .none 0x0 [],
   r 0x040 4 1 .rws .shadow 0x0 [f 0 0, f 1 1],
   r 0x044 4 1 .rws .shadow 0xA [g 9 0 1 1000],
   r 0x048 4 1 .rw .shadow 0x0 [g 2 0 0 4, g 5 3 0 4, g 8 6 0 4, g 11 9 0 4, g 14 12 0 4, g 17 15 0 4, g 20 18 0 4, g 23 21 0 4],
   r 0x04C 4 1 .rw .shadow 0x0 [g 2 0 0 4, g 5 3 0 4, g 8 6 0 4, g 11 9 0 4],
   r 0x050 4 1 .rw .shadow 0x400004 [g 7 0 1 255, g 23 16 1 255],
   r 0x200 4 1 .ro .none 0x0 [],
   r 0x204 4 1 .ro .none 0x0 [],
   r 0x208 4 1 .ro .none 0x0 [],
   r 0x20C 4 1 .ro .none 0x0 [],
   r 0x210 4 1 .ro .none 0x100 [],
   r 0x214 4 1 .rc .none 0xFF [],
   r 0x218 4 1 .rc .none 0xFF [],
   r 0x21C 4 1 .ro .none 0x0 []
  ]

/-- Registers of the FLT page type (R498, R579). -/
def flt : List Row :=
  [
   r 0x008 4 1 .rws .shadow 0x4 [g 2 0 1 5],
   r 0x020 4 1 .ro .none 0x0 [],
   r 0x024 4 1 .ro .none 0x0 [],
   r 0x040 4 16 .rws .shadow 0x0 [g 2 0 0 5, g 6 4 0 5, g 10 8 0 5, g 14 12 0 5, g 18 16 0 5, g 22 20 0 5, g 26 24 0 5, g 30 28 0 5],
   r 0x080 4 1 .rws .shadow 0xA3064 [g 9 0 1 1000, g 15 12 1 15, g 23 16 1 255],
   r 0x200 4 1 .ro .none 0x0 [],
   r 0x204 4 1 .ro .none 0x0 [],
   r 0x208 4 1 .ro .none 0x0 [],
   r 0x20C 4 1 .rc .none 0x0 [],
   r 0x210 4 4 .rc .none 0x0 [],
   r 0x220 4 1 .ro .none 0x0 [],
   r 0x224 4 1 .ro .none 0x0 [],
   r 0x228 4 1 .ro .none 0x0 [],
   r 0x240 4 4 .ro .none 0x0 [],
   r 0x280 4 1 .w1p .imm 0x0 [],
   r 0x284 4 1 .w1p .imm 0x0 []
  ]

/-- Registers of the ARB page type (R471, R579). -/
def arb : List Row :=
  [
   r 0x020 4 7 .ro .none 0x0 [],
   r 0x040 4 1 .rws .shadow 0x20101020 [f 7 0, f 15 8, f 23 16, f 31 24],
   r 0x044 4 1 .rws .shadow 0x4010 [f 7 0, f 15 8, f 23 16],
   r 0x048 4 1 .rws .shadow 0x1 [g 31 0 1 4294967295],
   r 0x04C 4 1 .rw .shadow 0x4 [g 5 0 1 63],
   r 0x050 4 1 .rw .shadow 0x32 [g 8 0 10 500],
   r 0x054 4 1 .rw .imm 0x0 [f 1 0],
   r 0x200 4 4 .ro .none 0x0 [],
   r 0x210 4 4 .ros .none 0x0 [],
   r 0x230 4 1 .ro .none 0x0 [],
   r 0x234 4 1 .ro .none 0x0 [],
   r 0x300 16 8 .ro .none 0x0 [],
   r 0x304 16 8 .ro .none 0x0 [],
   r 0x308 16 8 .ro .none 0x0 [],
   r 0x30C 16 8 .ro .none 0x0 []
  ]

/-- Registers of the PWR page type (R376, R579). -/
def pwr : List Row :=
  [
   r 0x008 4 1 .rws .shadow 0x301F4 [f 0 0, f 1 1, f 2 2, f 7 4, g 11 8 1 15, f 20 16],
   r 0x020 4 1 .ros .none 0x0 [],
   r 0x024 4 1 .ros .none 0x0 [],
   r 0x028 4 1 .ro .none 0x0 [],
   r 0x040 4 1 .rw .imm 0x2 [f 2 0],
   r 0x044 4 1 .rws .shadow 0x1FFF [g 12 0 1 8191],
   r 0x048 4 1 .rws .shadow 0x40404040 [f 7 0, f 15 8, f 23 16, f 31 24],
   r 0x04C 4 1 .rws .shadow 0x40404040 [f 7 0, f 15 8, f 23 16, f 31 24],
   r 0x050 4 1 .rws .shadow 0x40404040 [f 7 0, f 15 8, f 23 16, f 31 24],
   r 0x054 4 1 .rws .shadow 0x0 [f 12 0],
   r 0x058 4 4 .rws .shadow 0xFFFF [f 15 0],
   r 0x068 4 1 .rws .shadow 0x0 [f 31 0],
   r 0x080 8 16 .rws .shadow 0x80640578 [g 11 0 1000 2100, g 23 12 1000 2100, f 31 24],
   r 0x084 8 16 .rws .shadow 0x807086A4 [g 11 0 1000 2100, g 23 12 1000 2100, g 31 24 1 255],
   r 0x200 4 1 .ro .none 0x0 [],
   r 0x204 4 1 .rc .none 0x0 [],
   r 0x208 4 1 .ro .none 0x0 [],
   res 0x20C 4 1 .ros,
   res 0x210 4 4 .ros,
   res 0x220 4 4 .ros,
   r 0x230 4 1 .ros .none 0x0 [],
   r 0x234 4 1 .ros .none 0x0 [],
   r 0x238 4 1 .rc .none 0x0 [],
   r 0x23C 4 1 .ro .none 0x0 []
  ] ++
  [
   r 0x240 4 1 .ros .none 0x0 [],
   r 0x244 4 1 .ros .none 0x0 [],
   r 0x248 4 1 .ro .none 0x0 []
  ]

/-- Registers of the THM page type (R345, R579). -/
def thm : List Row :=
  [
   r 0x020 4 1 .ro .none 0x0 [],
   r 0x024 4 1 .ro .none 0x0 [],
   r 0x040 4 1 .rws .shadow 0x140000 [f 0 0, f 7 4, g 25 16 1 1000],
   r 0x044 12 3 .rws .shadow 0xC17C0 [f 15 0, f 23 16],
   r 0x048 12 3 .rws .shadow 0x141A40 [f 15 0, f 23 16],
   r 0x04C 12 3 .rws .shadow 0x3C1F40 [f 15 0, f 23 16],
   r 0x068 4 1 .rw .shadow 0xA555 [z 1 0 3, z 3 2 3, z 5 4 3, z 7 6 3, z 9 8 3, z 11 10 3, z 13 12 3, z 15 14 3],
   r 0x06C 4 1 .rw .shadow 0x40C [g 7 0 1 255, g 11 8 1 15],
   r 0x070 4 16 .rw .shadow 0x0 [f 11 0, f 31 16],
   r 0x0B0 4 1 .rw .shadow 0xB296 [g 15 0 40000 52000],
   r 0x0B4 4 1 .rws .shadow 0x1914 [g 7 0 1 255, g 14 8 10 100],
   r 0x100 4 32 .rw .shadow 0x0 [f 31 0],
   r 0x200 4 1 .ro .none 0x0 [],
   res 0x204 4 3 .ro,
   r 0x210 4 1 .ro .none 0x8000 [],
   r 0x214 4 1 .ro .none 0x0 [],
   r 0x218 4 1 .ro .none 0x0 [],
   r 0x21C 4 1 .ro .none 0x0 [],
   r 0x220 4 4 .ro .none 0x0 [],
   r 0x230 4 1 .ro .none 0x0 [],
   r 0x240 4 64 .ros .none 0x0 [],
   r 0x340 4 8 .ro .none 0x0 [],
   r 0x380 4 1 .w1p .imm 0x0 []
  ]

/-- Registers of the CAL page type (R451, R527, R579). -/
def cal : List Row :=
  [
   r 0x020 4 1 .ro .none 0x0 [],
   r 0x040 4 1 .rws .shadow 0x19 [g 7 0 25 255],
   r 0x044 4 1 .rws .shadow 0xBB81388 [g 15 0 100 65535, g 31 16 100 65535],
   r 0x048 4 1 .rws .shadow 0x3E81804 [g 3 0 2 15, g 15 8 1 168, g 31 16 100 65535],
   r 0x04C 4 1 .rws .shadow 0x402DA [g 9 0 30 730, g 19 16 1 8],
   r 0x050 4 1 .rw .imm 0x0 [f 3 0, f 11 8],
   r 0x140 4 1 .rws .shadow 0x14505007 [f 7 0, g 14 8 50 100, g 22 16 50 100, g 31 24 5 100],
   r 0x144 4 1 .rws .shadow 0x18 [g 7 0 1 168],
   r 0x148 4 1 .rw .shadow 0x3C2801 [f 0 0, g 14 8 10 99, above 22 16 14 8 10 99 99],
   r 0x200 4 1 .ro .none 0x0 [],
   r 0x204 4 1 .ro .none 0x0 [],
   r 0x208 4 1 .ro .none 0x0 [],
   r 0x20C 4 1 .ro .none 0x0 [],
   r 0x210 4 1 .ro .none 0x0 [],
   r 0x214 4 1 .ro .none 0x0 [],
   r 0x218 4 1 .ro .none 0x0 [],
   r 0x21C 4 1 .ro .none 0x0 [],
   r 0x220 4 1 .ro .none 0x0 [],
   r 0x224 4 1 .ro .none 0x0 [],
   r 0x228 4 1 .ro .none 0x0 [],
   r 0x22C 4 1 .ro .none 0x0 [],
   r 0x230 4 1 .ro .none 0x0 [],
   r 0x234 4 1 .ro .none 0x0 [],
   r 0x238 4 1 .ro .none 0x0 []
  ] ++
  [
   r 0x23C 4 1 .ro .none 0x0 [],
   r 0x240 4 1 .ro .none 0x0 [],
   r 0x300 4 1 .ro .none 0x0 [],
   r 0x304 4 1 .ro .none 0x0 [],
   r 0x308 4 1 .ro .none 0x0 [],
   r 0x30C 4 1 .ro .none 0x0 [],
   r 0x310 4 1 .ro .none 0x0 [],
   r 0x314 4 1 .ro .none 0x0 [],
   r 0x318 4 1 .ro .none 0x0 [],
   r 0x31C 4 1 .ro .none 0x0 [],
   r 0x320 4 1 .ro .none 0x0 [],
   r 0x380 4 1 .w1p .imm 0x0 [],
   r 0x384 4 1 .ro .none 0x0 [],
   r 0x388 4 1 .w1p .imm 0x0 [],
   r 0x38C 4 1 .ro .none 0x0 []
  ]

/-- Registers of the TAL page type (R258, R579). -/
def tal : List Row :=
  [
   r 0x020 4 1 .ro .none 0x0 [],
   r 0x024 4 1 .ro .none 0x0 [],
   r 0x028 4 1 .ro .none 0x0 [],
   r 0x040 4 8 .rw .shadow 0x88888888 [f 31 0],
   r 0x060 4 1 .rw .shadow 0x1800C806 [g 7 0 1 50, f 23 8, g 27 24 1 15, f 28 28],
   r 0x064 4 1 .rw .shadow 0x5 [f 0 0, g 2 1 0 2],
   r 0x068 4 1 .rws .shadow 0x4032 [g 6 0 0 80, g 15 8 1 255],
   r 0x200 4 1 .ro .none 0x0 [],
   r 0x204 4 1 .ro .none 0x0 [],
   r 0x208 4 1 .ro .none 0x0 [],
   r 0x20C 4 1 .ro .none 0x0 [],
   r 0x210 4 1 .ro .none 0x0 [],
   r 0x214 4 1 .ro .none 0x0 [],
   r 0x218 4 1 .ro .none 0x0 [],
   res 0x220 16 4 .ros,
   res 0x224 16 4 .ros,
   res 0x228 16 4 .ros,
   r 0x22C 16 4 .ro .none 0x0 [],
   r 0x260 4 1 .ros .none 0x0 [],
   r 0x264 4 1 .ros .none 0x0 [],
   r 0x268 4 4 .ros .none 0x0 [],
   r 0x2C0 4 1 .w1p .imm 0x0 [],
   r 0x2C4 4 1 .ro .none 0x0 [],
   r 0x2C8 4 1 .ro .none 0x0 []
  ] ++
  [
   r 0x2E0 4 9 .ro .none 0x0 []
  ]

/-- Registers of the TRAIL page type (R228, R579). -/
def trail : List Row :=
  [
   r 0x020 4 4 .ro .none 0x0 [],
   r 0x040 4 1 .rw .shadow 0x643220 [g 7 0 1 255, g 15 8 10 100, g 27 16 1 4095],
   r 0x044 4 1 .rw .shadow 0x96 [g 11 0 40 4095],
   r 0x048 4 1 .rw .shadow 0x202864 [f 7 0, g 14 8 0 80, g 31 16 1 65535],
   r 0x04C 4 1 .rw .shadow 0xF [f 3 0],
   r 0x200 64 4 .ro .none 0x0 [],
   r 0x204 64 4 .ro .none 0x0 [],
   r 0x208 64 4 .ro .none 0x0 [],
   r 0x20C 64 4 .ro .none 0x0 [],
   r 0x210 64 4 .ro .none 0x0 [],
   r 0x214 64 4 .ro .none 0x0 [],
   r 0x218 64 4 .ro .none 0x0 [],
   r 0x21C 64 4 .ro .none 0x0 [],
   r 0x220 64 4 .ro .none 0x0 [],
   r 0x224 64 4 .ro .none 0x0 [],
   r 0x228 64 4 .ro .none 0x0 [],
   r 0x22C 64 4 .ro .none 0x0 [],
   r 0x230 64 4 .ro .none 0x0 [],
   r 0x300 4 1 .w1p .imm 0x0 []
  ]

/-- Registers of the SEAT page type (R425, R579). -/
def seat : List Row :=
  [
   r 0x008 4 1 .rws .shadow 0x1F [f 0 0, f 1 1, f 2 2, f 3 3, f 4 4],
   r 0x020 4 1 .ro .none 0x0 [],
   r 0x024 4 1 .ro .none 0x0 [],
   r 0x040 4 1 .rws .shadow 0x40140064 [g 11 0 1 4095, g 23 16 1 255, g 31 24 1 255],
   r 0x044 4 1 .rws .shadow 0x0 [f 31 4],
   r 0x048 4 1 .rws .shadow 0x0 [f 31 0],
   r 0x04C 4 1 .rw .shadow 0xA081900 [f 15 0, g 19 16 1 15, g 31 24 1 255],
   r 0x050 4 1 .rw .shadow 0x7 [g 9 0 1 1023],
   r 0x054 4 1 .rw .shadow 0x400 [g 15 0 1 65535],
   r 0x058 4 1 .rw .shadow 0x3E8 [g 11 0 10 4095],
   r 0x05C 4 1 .rws .shadow 0x32 [g 9 0 50 1000],
   r 0x060 4 8 .rw .shadow 0xFFFFFFFF [f 31 0],
   r 0x200 4 1 .ro .none 0x0 [],
   r 0x204 4 1 .ros .none 0x0 [],
   r 0x208 4 1 .ros .none 0x0 [],
   r 0x20C 4 1 .ro .none 0x0 [],
   r 0x210 4 1 .ro .none 0x0 [],
   r 0x214 4 1 .ro .none 0x0 [],
   r 0x218 4 1 .ro .none 0x0 [],
   r 0x21C 4 1 .ro .none 0x0 [],
   r 0x220 4 8 .ros .none 0x0 [],
   r 0x240 4 1 .ro .none 0x0 [],
   r 0x280 4 1 .wo .imm 0x0 [],
   r 0x284 4 1 .w1p .imm 0x0 []
  ] ++
  [
   r 0x288 4 1 .w1p .imm 0x0 []
  ]

/-- Registers of the BLK page type (R397, R579). -/
def blk : List Row :=
  [
   r 0x008 4 1 .rw .shadow 0x7 [f 0 0, f 1 1, f 2 2],
   r 0x020 4 1 .ro .none 0x0 [],
   r 0x024 4 1 .ros .none 0x0 [],
   r 0x028 4 1 .ros .none 0x0 [],
   r 0x040 4 1 .rw .shadow 0x14004B [g 6 0 10 100, g 24 16 1 500],
   r 0x044 4 1 .rw .shadow 0x2041E [g 6 0 5 90, g 11 8 1 15, g 19 16 1 15],
   r 0x048 4 1 .rw .shadow 0x304 [g 7 0 1 255, f 12 8],
   r 0x050 4 6 .rw .shadow 0xFFFFFFFF [f 31 0],
   r 0x200 4 1 .ro .none 0x0 [],
   res 0x204 4 1 .ros,
   r 0x208 4 1 .ros .none 0x0 [],
   r 0x20C 4 1 .ros .none 0x0 [],
   r 0x210 4 1 .ros .none 0x0 [],
   r 0x214 4 1 .ros .none 0x0 [],
   r 0x218 4 1 .ro .none 0x0 [],
   r 0x21C 4 1 .ro .none 0x0 [],
   r 0x220 4 1 .ro .none 0x0 [],
   r 0x224 4 1 .ro .none 0x0 [],
   r 0x280 4 1 .w1p .imm 0x0 []
  ]

/-- Registers of the LNK page type (R552, R579). -/
def lnk : List Row :=
  [
   r 0x040 4 1 .rw .shadow 0xFFFF [f 15 0],
   r 0x044 4 1 .rw .shadow 0x0 [f 31 0],
   r 0x048 4 1 .rw .shadow 0x640320F [f 3 0, g 17 8 1 1000, g 31 20 1 4095],
   r 0x200 4 1 .ro .none 0x0 [],
   r 0x204 4 1 .ro .none 0x0 [],
   r 0x208 4 1 .ro .none 0x0 [],
   r 0x20C 4 1 .ro .none 0x0 [],
   r 0x280 4 1 .w1p .imm 0x0 [],
   r 0x284 4 1 .w1p .imm 0x0 []
  ]

/-- Registers of the HOST page type (R379, R500, R571, R579). -/
def host : List Row :=
  [
   r 0x040 4 1 .rws .nextStart 0x0 [f 0 0],
   r 0x044 4 1 .rws .shadow 0x0 [f 0 0, f 1 1],
   r 0x048 4 1 .rws .shadow 0x1 [f 0 0],
   r 0x140 4 1 .rws .shadow 0x0 [f 31 4],
   r 0x144 4 1 .rws .shadow 0x0 [f 31 0],
   r 0x148 4 1 .rws .shadow 0x603 [f 0 0, f 1 1, g 11 8 0 8],
   r 0x180 4 1 .wo .imm 0x0 [],
   r 0x184 4 1 .wo .imm 0x0 [],
   r 0x200 4 1 .ro .none 0x0 [],
   r 0x204 4 1 .ro .none 0x0 [],
   r 0x208 4 1 .ro .none 0x0 [],
   r 0x20C 4 1 .ro .none 0x0 [],
   r 0x2E0 4 1 .ro .none 0x0 [],
   r 0x2E4 4 1 .ro .none 0x0 [],
   r 0x2E8 4 1 .ro .none 0x0 [],
   r 0x2F0 4 1 .ro .none 0x0 [],
   r 0x300 16 16 .ro .none 0x0 [],
   r 0x304 16 16 .ro .none 0x0 [],
   r 0x308 16 16 .ros .none 0x0 [],
   r 0x30C 16 16 .ros .none 0x0 []
  ]

/-- Registers of the DBG page type (R577, R579). -/
def dbg : List Row :=
  [
   r 0x040 4 1 .rws .shadow 0x0 [f 0 0],
   r 0x044 4 1 .rws .imm 0x0 [f 31 0],
   r 0x200 4 1 .ro .none 0x0 [],
   r 0x204 4 1 .ros .none 0x0 [],
   r 0x280 4 1 .w1p .imm 0x0 []
  ]

/-- Registers of the BRIDGE page type (R60, R579). -/
def bridge : List Row :=
  [
   r 0x040 4 1 .rws .nextStart 0x0 [z 1 0 3, f 3 2, f 7 4],
   r 0x044 4 1 .rws .shadow 0x40 [g 7 0 48 255],
   r 0x200 4 1 .ro .none 0x0 [],
   r 0x204 4 1 .rc .none 0x0 []
  ]

/-- Registers of the QD page type (R205, R321, R579). -/
def qd : List Row :=
  [
   r 0x020 4 1 .ro .none 0x0 [],
   r 0x024 4 1 .ro .none 0x0 [],
   r 0x040 4 1 .rw .shadow 0x300 [g 8 0 0 256, f 9 9],
   r 0x044 4 4 .rw .shadow 0x4 [g 3 0 1 15, f 5 4],
   r 0x054 4 1 .rw .shadow 0x1 [f 1 0],
   r 0x058 4 1 .rw .shadow 0xDAC01F4 [g 11 0 400 600, g 27 16 3400 3600],
   r 0x05C 4 1 .rw .shadow 0x1410 [g 7 0 1 255, g 11 8 1 15, f 12 12],
   r 0x060 4 40 .rw .shadow 0x0 [f 29 0],
   r 0x100 4 1 .rw .shadow 0x55140020 [g 11 0 1 4095, g 23 16 1 255, g 30 24 50 100],
   r 0x104 4 1 .rw .shadow 0x4040208 [f 7 0, f 15 8, f 23 16, f 31 24],
   r 0x108 4 1 .rw .shadow 0x64 [g 7 0 1 255],
   r 0x10C 4 46 .rw .shadow 0x0 [f 29 0],
   r 0x200 4 1 .ro .none 0x4 [],
   r 0x204 4 1 .ro .none 0x0 [],
   r 0x208 4 1 .ro .none 0x0 [],
   r 0x20C 4 1 .ro .none 0x0 [],
   r 0x210 4 1 .ro .none 0x0 [],
   r 0x214 4 1 .ro .none 0x0 [],
   r 0x218 4 1 .ro .none 0x0 [],
   res 0x220 4 4 .ros,
   res 0x230 4 1 .ro,
   res 0x234 4 1 .ro,
   res 0x238 4 1 .ro,
   res 0x23C 4 1 .ro
  ] ++
  [
   r 0x280 4 1 .w1p .imm 0x0 [],
   res 0x284 4 1 .ros,
   r 0x300 4 1 .ro .none 0x0 [],
   r 0x304 4 1 .ro .none 0x0 [],
   r 0x308 4 1 .ro .none 0x0 []
  ]

/-- Registers of the ADC page type (R324, R579). -/
def adc : List Row :=
  [
   r 0x020 4 1 .ro .none 0x0 [],
   r 0x200 4 1 .ro .none 0x0 [],
   r 0x204 4 1 .ro .none 0x4000 [],
   r 0x208 4 1 .ro .none 0x0 [],
   r 0x20C 4 1 .ro .none 0x0 [],
   r 0x210 4 1 .ro .none 0x0 [],
   r 0x280 4 1 .w1p .imm 0x0 []
  ]

/-- Registers of the STG page type (R206, R295, R450, R579). -/
def stg : List Row :=
  [
   r 0x020 4 1 .ro .none 0x0 [],
   r 0x024 4 1 .ro .none 0x0 [],
   r 0x040 4 1 .rw .shadow 0x1012C00 [z 1 0 3, chan 14 8, upTo 22 16 14 8 1, f 24 24],
   r 0x044 4 1 .rw .shadow 0xFFFFFFFF [f 31 0],
   r 0x048 4 1 .rw .shadow 0xFFFF [f 15 0],
   r 0x04C 4 1 .rw .shadow 0x0 [f 16 0],
   r 0x050 4 1 .rw .shadow 0xC00 [f 15 0],
   r 0x054 4 1 .rw .shadow 0x400 [f 15 0],
   r 0x058 4 1 .rw .shadow 0x3000 [f 15 0],
   r 0x05C 4 1 .rw .shadow 0x80004000 [g 15 0 1 32768, g 31 16 1 32768],
   r 0x060 4 1 .rw .shadow 0x30000000 [f 15 0, f 31 16],
   r 0x064 4 1 .rw .shadow 0x2000 [f 15 0],
   r 0x068 4 1 .rw .shadow 0x1004B0 [g 11 0 800 1400, f 23 16],
   r 0x06C 4 1 .rw .shadow 0x1478 [f 7 0, f 15 8, f 16 16],
   r 0x070 4 1 .rw .shadow 0x64004B0 [g 11 0 1100 2400, g 27 16 1100 2400],
   r 0x074 4 1 .rw .shadow 0x643200C8 [g 11 0 10 4095, g 23 16 1 255, g 31 24 20 255],
   r 0x078 4 1 .rw .shadow 0x3E83200 [z 1 0 3, f 5 4, g 15 8 1 255, g 31 16 10 65535],
   r 0x07C 4 1 .rw .shadow 0x28 [g 7 0 4 255],
   r 0x080 4 1 .rw .shadow 0x10088C [g 7 0 20 200, g 11 8 1 15, g 23 16 4 255],
   r 0x084 4 1 .rw .shadow 0x3E80050 [g 7 0 10 200, g 27 16 100 4095],
   r 0x088 4 1 .rw .shadow 0x64145C [g 7 0 50 99, g 15 8 1 255, g 23 16 20 255],
   r 0x08C 4 1 .rw .shadow 0xA28 [f 11 0],
   r 0x090 4 1 .rw .shadow 0x40804 [f 7 0, above 15 8 7 0 0 255 255, g 19 16 1 15],
   r 0x094 4 1 .rw .shadow 0x3200258 [g 11 0 0 1800, g 27 16 100 4095]
  ] ++
  [
   r 0x098 4 1 .rw .shadow 0x100A1408 [g 7 0 1 255, g 15 8 1 100, f 23 16, g 31 24 1 255],
   r 0x09C 4 1 .rw .imm 0x0 [f 5 0],
   r 0x1E0 4 1 .rw .shadow 0x80A [g 7 0 1 160, g 23 8 1 65535],
   r 0x1E4 4 1 .rw .shadow 0x8 [g 23 0 1 16777215],
   r 0x200 4 1 .ro .none 0x0 [],
   res 0x204 4 1 .ros,
   r 0x208 4 1 .ros .none 0x0 [],
   r 0x20C 4 1 .ros .none 0x0 [],
   res 0x210 4 1 .ros,
   r 0x214 4 1 .ros .none 0x0 [],
   r 0x218 4 1 .ro .none 0x0 [],
   r 0x21C 4 1 .ro .none 0x0 [],
   r 0x220 4 1 .ro .none 0x0 [],
   r 0x224 4 1 .ro .none 0x0 [],
   r 0x228 4 1 .ro .none 0x0 [],
   r 0x22C 4 1 .ro .none 0x0 [],
   r 0x230 4 1 .ro .none 0x0 [],
   r 0x234 4 1 .ro .none 0x0 [],
   r 0x238 4 1 .ro .none 0x0 [],
   r 0x23C 4 1 .ros .none 0x0 [],
   r 0x240 4 1 .ro .none 0x0 [],
   r 0x244 4 1 .ro .none 0x0 [],
   r 0x280 4 1 .w1p .imm 0x0 [],
   res 0x300 4 48 .ros
  ] ++
  [
   r 0x3E0 4 1 .ro .none 0x0 []
  ]

/-- Registers of the SEC page type (R169, R203, R231, R579). -/
def sec : List Row :=
  [
   r 0x008 4 1 .rw .lc 0x0 [f 0 0],
   r 0x020 4 1 .ro .none 0x0 [],
   r 0x024 4 1 .ro .none 0x0 [],
   r 0x040 4 1 .rw .lc 0x80 [sg 15 0 (0) 4096],
   r 0x044 4 1 .rw .lc 0xC00 [sg 15 0 (0) 8192],
   r 0x048 4 4 .rw .lc 0x0 [f 11 0],
   r 0x058 4 1 .rw .shadow 0x10F0 [sg 7 0 (-64) 0, g 15 8 0 64],
   r 0x05C 4 1 .rw .shadow 0x7D0180C [g 5 0 4 32, g 13 8 4 32, f 31 16],
   r 0x060 4 1 .rw .shadow 0x320 [g 6 0 1 64, f 8 8, f 9 9],
   r 0x064 4 1 .rw .shadow 0x2001F40F [g 7 0 1 100, f 23 8, g 31 24 1 255],
   r 0x068 4 1 .rws .shadow 0x1E0400 [g 15 0 1 65535, g 22 16 0 80],
   r 0x06C 4 1 .rw .shadow 0x1014 [g 7 0 1 160, g 23 8 1 65535],
   r 0x070 4 1 .rw .shadow 0x10 [g 23 0 1 16777215],
   r 0x074 4 1 .rw .shadow 0x800A0 [g 7 0 1 160, g 23 8 1 65535],
   r 0x078 4 1 .rw .shadow 0x10000 [g 23 0 1 16777215],
   r 0x07C 4 1 .rw .shadow 0x642808 [g 3 0 1 15, f 15 8, g 27 16 1 4095],
   r 0x080 4 1 .rw .shadow 0x1F4 [g 11 0 10 4095],
   r 0x084 4 1 .rw .shadow 0x1 [g 6 0 0 64],
   r 0x088 4 1 .rw .shadow 0x4B0 [g 11 0 1000 2100],
   r 0x200 4 1 .ro .none 0x40 [],
   r 0x204 4 4 .ros .none 0x0 [],
   res 0x214 4 1 .ros,
   res 0x218 4 1 .ros,
   r 0x21C 4 1 .ros .none 0x0 []
  ] ++
  [
   r 0x220 4 1 .ros .none 0x0 [],
   r 0x224 4 1 .ros .none 0x0 [],
   r 0x228 4 1 .ro .none 0x0 [],
   r 0x22C 4 1 .ro .none 0x0 [],
   r 0x230 4 1 .ro .none 0x0 [],
   r 0x234 4 1 .ro .none 0x0 [],
   r 0x238 4 1 .ro .none 0x0 [],
   r 0x23C 4 1 .ro .none 0x0 [],
   r 0x240 4 1 .ros .none 0x0 [],
   r 0x244 4 1 .ro .none 0x0 [],
   r 0x248 4 1 .ro .none 0x0 [],
   r 0x24C 4 1 .ro .none 0x0 [],
   r 0x250 4 1 .ro .none 0x0 [],
   r 0x254 4 1 .ro .none 0x0 [],
   r 0x258 4 1 .ro .none 0x0 [],
   r 0x280 4 1 .w1p .imm 0x0 []
  ]

/-- Registers of the CLU page type (R133, R323, R449, R579). -/
def clu : List Row :=
  [
   r 0x020 4 4 .ros .none 0x0 [],
   r 0x030 4 1 .ro .none 0x0 [],
   r 0x040 16 4 .rw .shadow 0xA0328 [g 6 0 20 60, f 8 8, f 9 9, g 22 16 1 100],
   r 0x044 16 4 .rw .shadow 0x403 [g 3 0 1 15, g 11 8 1 15],
   r 0x048 16 4 .rw .shadow 0x4000 [g 15 0 12288 20480, f 16 16],
   r 0x04C 16 4 .rw .shadow 0x4000 [g 15 0 8192 32768],
   r 0x080 4 1 .rw .imm 0x0 [f 5 0],
   r 0x0FC 4 1 .rw .imm 0x0 [f 5 0],
   r 0x100 4 64 .rw .shadow 0x4000 [f 15 0],
   r 0x200 32 4 .ros .none 0xF002F00 [],
   res 0x204 32 4 .ros,
   res 0x208 32 4 .ros,
   r 0x20C 32 4 .ro .none 0x4000 [],
   r 0x210 32 4 .ros .none 0x0 [],
   r 0x214 32 4 .ros .none 0x0 [],
   r 0x218 32 4 .ros .none 0x0 [],
   r 0x21C 32 4 .ros .none 0x0 [],
   r 0x280 4 1 .w1p .imm 0x0 [],
   r 0x284 4 1 .ro .none 0x0 [],
   r 0x288 4 1 .ro .none 0x0 [],
   r 0x28C 4 1 .ro .none 0x0 [],
   res 0x290 8 4 .ros,
   res 0x294 8 4 .ros,
   r 0x2B0 4 1 .ro .none 0x0 []
  ] ++
  [
   r 0x2B4 4 1 .ro .none 0x0 [],
   r 0x2B8 4 1 .ro .none 0x0 [],
   r 0x2BC 4 1 .ro .none 0x0 [],
   r 0x2C0 4 16 .ros .none 0x0 [],
   r 0x300 4 64 .ro .none 0x0 []
  ]

/-- The registers of a page type beyond the common layout; TEST has none (R578). -/
def rows : PageType → List Row
  | .gen => gen
  | .tb => tb
  | .flt => flt
  | .arb => arb
  | .pwr => pwr
  | .thm => thm
  | .cal => cal
  | .tal => tal
  | .trail => trail
  | .seat => seat
  | .blk => blk
  | .lnk => lnk
  | .host => host
  | .dbg => dbg
  | .bridge => bridge
  | .test => []
  | .qd => qd
  | .adc => adc
  | .stg => stg
  | .sec => sec
  | .clu => clu

end RegTable

/-! Offsets within a page, under the registers' own names; an indexed register takes its index. -/
namespace Reg

abbrev TB_SNAP_LO : Nat := 0x020
abbrev TB_SNAP_HI : Nat := 0x024
abbrev TB_SNAP_OVR : Nat := 0x028
abbrev TB_REFCTL : Nat := 0x040
abbrev TB_HOLDOVER : Nat := 0x044
abbrev TB_ADCPH0 : Nat := 0x048
abbrev TB_ADCPH1 : Nat := 0x04C
abbrev TB_OVRCTL : Nat := 0x050
abbrev TB_TICK_LO : Nat := 0x200
abbrev TB_TICK_HI : Nat := 0x204
abbrev TB_REFSTAT : Nat := 0x208
abbrev TB_FAILOVERS : Nat := 0x20C
abbrev TB_SPEED : Nat := 0x210
abbrev TB_SLACK_SEC : Nat := 0x214
abbrev TB_SLACK_OTH : Nat := 0x218
abbrev TB_OVR_CNT : Nat := 0x21C
abbrev BRIDGE_CTL : Nat := 0x040
abbrev BRIDGE_STRB : Nat := 0x044
abbrev BRIDGE_STAT : Nat := 0x200
abbrev BRIDGE_ERR : Nat := 0x204
abbrev GEN_RDSEL : Nat := 0x040
abbrev GEN_PARINJ : Nat := 0x044
abbrev GEN_BUILD : Nat := 0x200
abbrev GEN_UPDATE : Nat := 0x204
abbrev GEN_SNAP : Nat := 0x208
abbrev GEN_SEAL : Nat := 0x20C
abbrev GEN_PEND : Nat := 0x210
abbrev GEN_APPLYSTAT : Nat := 0x214
abbrev GEN_EPOCH : Nat := 0x218
abbrev GEN_SNAPSEQ : Nat := 0x21C
abbrev GEN_APPLYTICK_LO : Nat := 0x220
abbrev GEN_ACCERR : Nat := 0x224
abbrev CLU_SNAP_SCHUSS (i : Nat) : Nat := 0x020 + 4 * i
abbrev CLU_SNAP_TAKEOVERS : Nat := 0x030
abbrev CLU_DROOP (i : Nat) : Nat := 0x040 + 16 * i
abbrev CLU_SENS (i : Nat) : Nat := 0x044 + 16 * i
abbrev CLU_KINIT (i : Nat) : Nat := 0x048 + 16 * i
abbrev CLU_LEGSEL : Nat := 0x0FC
abbrev CLU_GTRIM (i : Nat) : Nat := 0x100 + 4 * i
abbrev CLU_STAT (i : Nat) : Nat := 0x200 + 32 * i
abbrev CLU_VSEN (i : Nat) : Nat := 0x204 + 32 * i
abbrev CLU_MEAS (i : Nat) : Nat := 0x208 + 32 * i
abbrev CLU_K (i : Nat) : Nat := 0x20C + 32 * i
abbrev CLU_BAND (i : Nat) : Nat := 0x210 + 32 * i
abbrev CLU_SCHUSS_CNT (i : Nat) : Nat := 0x214 + 32 * i
abbrev CLU_SCHUSS_LAST (i : Nat) : Nat := 0x218 + 32 * i
abbrev CLU_SCHUSS_MAX (i : Nat) : Nat := 0x21C + 32 * i
abbrev CLU_CELLCMD : Nat := 0x280
abbrev CLU_LEGMAP : Nat := 0x284
abbrev CLU_TAKEOVERS : Nat := 0x288
abbrev CLU_LEGS (i : Nat) : Nat := 0x2C0 + 4 * i
abbrev CLU_CELL (i : Nat) : Nat := 0x300 + 4 * i
abbrev SEC_CTL : Nat := 0x008
abbrev SEC_SNAP_SUSPECTS : Nat := 0x020
abbrev SEC_SNAP_COASTS : Nat := 0x024
abbrev SEC_KI : Nat := 0x040
abbrev SEC_KF : Nat := 0x044
abbrev SEC_RDIST (i : Nat) : Nat := 0x048 + 4 * i
abbrev SEC_TRIM : Nat := 0x058
abbrev SEC_HW : Nat := 0x05C
abbrev SEC_FF : Nat := 0x060
abbrev SEC_PLAUS : Nat := 0x064
abbrev SEC_PLAUS2 : Nat := 0x068
abbrev SEC_STAT : Nat := 0x200
abbrev SEC_INT (i : Nat) : Nat := 0x204 + 4 * i
abbrev SEC_EST : Nat := 0x214
abbrev SEC_MSUM : Nat := 0x218
abbrev SEC_EREF : Nat := 0x21C
abbrev SEC_DEMAND : Nat := 0x220
abbrev SEC_FFLAST : Nat := 0x224
abbrev SEC_PLAUSRUN : Nat := 0x228
abbrev SEC_SUSPECTS : Nat := 0x22C
abbrev SEC_COASTS : Nat := 0x230
abbrev SEC_HOLDS : Nat := 0x234
abbrev SEC_FCSKIP : Nat := 0x238
abbrev SEC_CMD : Nat := 0x280
abbrev SEC_LIMV : Nat := 0x06C
abbrev SEC_LIMJ : Nat := 0x070
abbrev SEC_PLIMV : Nat := 0x074
abbrev SEC_PLIMJ : Nat := 0x078
abbrev SEC_FSEQ : Nat := 0x07C
abbrev SEC_ILK : Nat := 0x080
abbrev SEC_SWON : Nat := 0x084
abbrev SEC_RET : Nat := 0x088
abbrev SEC_PROF : Nat := 0x23C
abbrev SEC_SP : Nat := 0x240
abbrev SEC_SWST : Nat := 0x244
abbrev SEC_ILKWAIT : Nat := 0x248
abbrev SEC_PREBLK : Nat := 0x24C
abbrev QD_INRUSH : Nat := 0x100
abbrev QD_ICOST : Nat := 0x104
abbrev QD_NBRMAX : Nat := 0x108
abbrev QD_INRUSH_USE : Nat := 0x300
abbrev QD_GRANTS : Nat := 0x304
abbrev QD_HALFRATE : Nat := 0x308
abbrev STG_RLIMV : Nat := 0x1E0
abbrev STG_RLIMJ : Nat := 0x1E4
abbrev STG_RPROF : Nat := 0x3E0
abbrev TRAIL_SNAP_ARR (i : Nat) : Nat := 0x020 + 4 * i
abbrev TRAIL_CFG : Nat := 0x040
abbrev TRAIL_PREPOS : Nat := 0x044
abbrev TRAIL_PRE : Nat := 0x048
abbrev TRAIL_EN : Nat := 0x04C
abbrev TRAIL_HT (i : Nat) : Nat := 0x200 + 64 * i
abbrev TRAIL_ARR (i : Nat) : Nat := 0x204 + 64 * i
abbrev TRAIL_REFUSED (i : Nat) : Nat := 0x208 + 64 * i
abbrev TRAIL_DFORM (i : Nat) : Nat := 0x20C + 64 * i
abbrev TRAIL_DSTALE (i : Nat) : Nat := 0x210 + 64 * i
abbrev TRAIL_DSPARE (i : Nat) : Nat := 0x214 + 64 * i
abbrev TRAIL_DOTHER (i : Nat) : Nat := 0x218 + 64 * i
abbrev TRAIL_CANCEL (i : Nat) : Nat := 0x21C + 64 * i
abbrev TRAIL_NOSTEP (i : Nat) : Nat := 0x220 + 64 * i
abbrev TRAIL_LATE (i : Nat) : Nat := 0x224 + 64 * i
abbrev TRAIL_EXPIRED (i : Nat) : Nat := 0x228 + 64 * i
abbrev TRAIL_FLUSH (i : Nat) : Nat := 0x22C + 64 * i
abbrev TRAIL_EVAL (i : Nat) : Nat := 0x230 + 64 * i
abbrev TRAIL_CMD : Nat := 0x300
abbrev SEC_FCHIT : Nat := 0x250
abbrev SEC_FCMISS : Nat := 0x254
abbrev SEC_FCEXP : Nat := 0x258
abbrev TAL_SNAP_FCEVAL : Nat := 0x020
abbrev TAL_SNAP_INVALID : Nat := 0x024
abbrev TAL_SNAP_ARBSKIP : Nat := 0x028
abbrev TAL_WSEL (i : Nat) : Nat := 0x040 + 4 * i
abbrev TAL_ARB : Nat := 0x060
abbrev TAL_FCTL : Nat := 0x064
abbrev TAL_ARB2 : Nat := 0x068
abbrev TAL_STAT : Nat := 0x200
abbrev TAL_PERIOD : Nat := 0x204
abbrev TAL_MACS : Nat := 0x208
abbrev TAL_FCEVAL : Nat := 0x20C
abbrev TAL_INVALID : Nat := 0x210
abbrev TAL_FEATERR : Nat := 0x214
abbrev TAL_ARBSKIP : Nat := 0x218
abbrev TAL_ESUM (i : Nat) : Nat := 0x220 + 16 * i
abbrev TAL_MSUM (i : Nat) : Nat := 0x224 + 16 * i
abbrev TAL_BSUM (i : Nat) : Nat := 0x228 + 16 * i
abbrev TAL_VERD (i : Nat) : Nat := 0x22C + 16 * i
abbrev TAL_INVAL_LO : Nat := 0x260
abbrev TAL_INVAL_HI : Nat := 0x264
abbrev TAL_CAPSRC (i : Nat) : Nat := 0x268 + 4 * i
abbrev TAL_LOAD : Nat := 0x2C0
abbrev TAL_LOADSTAT : Nat := 0x2C4
abbrev TAL_SETSTAT : Nat := 0x2C8
abbrev TAL_SETID (i : Nat) : Nat := 0x2E0 + 4 * i
abbrev STG_SNAP_TRIPS : Nat := 0x020
abbrev STG_SNAP_DECYC : Nat := 0x024
abbrev STG_CFG : Nat := 0x040
abbrev STG_POP0 : Nat := 0x044
abbrev STG_POP1 : Nat := 0x048
abbrev STG_PHBASE : Nat := 0x04C
abbrev STG_KP : Nat := 0x050
abbrev STG_KI : Nat := 0x054
abbrev STG_KD : Nat := 0x058
abbrev STG_POLE : Nat := 0x05C
abbrev STG_DLIM : Nat := 0x060
abbrev STG_ILIM : Nat := 0x064
abbrev STG_VIN : Nat := 0x068
abbrev STG_TRACK : Nat := 0x06C
abbrev STG_VRAIL : Nat := 0x070
abbrev STG_SS : Nat := 0x074
abbrev STG_TRK : Nat := 0x078
abbrev STG_PG : Nat := 0x07C
abbrev STG_FAST : Nat := 0x080
abbrev STG_SLOW : Nat := 0x084
abbrev STG_UVOV : Nat := 0x088
abbrev STG_OVABS : Nat := 0x08C
abbrev STG_DE : Nat := 0x090
abbrev STG_IMONCAL : Nat := 0x094
abbrev STG_BCFG : Nat := 0x098
abbrev STG_STAT : Nat := 0x200
abbrev STG_RAIL : Nat := 0x204
abbrev STG_REF : Nat := 0x208
abbrev STG_DUTY : Nat := 0x20C
abbrev STG_BCUR : Nat := 0x210
abbrev STG_INTEG : Nat := 0x214
abbrev STG_CHACT0 : Nat := 0x218
abbrev STG_CHACT1 : Nat := 0x21C
abbrev STG_CHFAIL0 : Nat := 0x220
abbrev STG_CHFAIL1 : Nat := 0x224
abbrev STG_LASTRET : Nat := 0x228
abbrev STG_TRIPS : Nat := 0x22C
abbrev STG_DECYC : Nat := 0x230
abbrev STG_SSCOUNT : Nat := 0x234
abbrev STG_RAILGAPS : Nat := 0x238
abbrev STG_IMBAL : Nat := 0x23C
abbrev STG_CMD : Nat := 0x280
abbrev STG_CH (i : Nat) : Nat := 0x300 + 4 * i
abbrev QD_SNAP_PASSES : Nat := 0x020
abbrev QD_SNAP_ABORTS : Nat := 0x024
abbrev QD_SEQCTL : Nat := 0x040
abbrev QD_PROF (i : Nat) : Nat := 0x044 + 4 * i
abbrev QD_URG : Nat := 0x054
abbrev QD_REFVAL : Nat := 0x058
abbrev QD_RAILCHK : Nat := 0x05C
def QD_SEQ (w : Nat) : Nat := if w < 40 then 0x060 + 4 * w else 0x10C + 4 * (w - 40)
abbrev QD_STAT : Nat := 0x200
abbrev QD_PASSES : Nat := 0x204
abbrev QD_PASSTIME : Nat := 0x208
abbrev QD_ABORTS : Nat := 0x20C
abbrev QD_URGDONE : Nat := 0x210
abbrev QD_URGREFUSED : Nat := 0x214
abbrev QD_XCHK : Nat := 0x218
abbrev QD_RAILTAP (i : Nat) : Nat := 0x220 + 4 * i
abbrev QD_GND : Nat := 0x230
abbrev QD_VAON : Nat := 0x234
abbrev QD_REFLO : Nat := 0x238
abbrev QD_REFHI : Nat := 0x23C
abbrev QD_URGREQ : Nat := 0x280
abbrev QD_URGRES : Nat := 0x284
abbrev CLU_VTAP (i : Nat) : Nat := 0x290 + 8 * i
abbrev CLU_ITAP (i : Nat) : Nat := 0x294 + 8 * i
abbrev ADC_SNAP_CALS : Nat := 0x020
abbrev ADC_STAT : Nat := 0x200
abbrev ADC_CAL : Nat := 0x204
abbrev ADC_REFRAW : Nat := 0x208
abbrev ADC_CALS : Nat := 0x20C
abbrev ADC_CORRERR : Nat := 0x210
abbrev ADC_CMD : Nat := 0x280
abbrev THM_SNAP_THROTTLES : Nat := 0x020
abbrev THM_SNAP_STEPS : Nat := 0x024
abbrev THM_CFG : Nat := 0x040
abbrev THM_WARN (i : Nat) : Nat := 0x044 + 12 * i
abbrev THM_THROT (i : Nat) : Nat := 0x048 + 12 * i
abbrev THM_SHDN (i : Nat) : Nat := 0x04C + 12 * i
abbrev THM_TGRP : Nat := 0x068
abbrev THM_DISAG : Nat := 0x06C
abbrev THM_NTC (i : Nat) : Nat := 0x070 + 4 * i
abbrev THM_DSLOPE : Nat := 0x0B0
abbrev THM_STV : Nat := 0x0B4
abbrev THM_DOFF (i : Nat) : Nat := 0x100 + 4 * i
abbrev THM_STAT : Nat := 0x200
abbrev THM_GTEMP (i : Nat) : Nat := 0x204 + 4 * i
abbrev THM_STVFACT : Nat := 0x210
abbrev THM_THROTTLES : Nat := 0x214
abbrev THM_STEPS : Nat := 0x218
abbrev THM_PEAK : Nat := 0x21C
abbrev THM_DFAIL (i : Nat) : Nat := 0x220 + 4 * i
abbrev THM_TFAIL : Nat := 0x230
abbrev THM_SITE (i : Nat) : Nat := 0x240 + 4 * i
abbrev THM_THERM (i : Nat) : Nat := 0x340 + 4 * i
abbrev THM_CMD : Nat := 0x380
abbrev PWR_CTL : Nat := 0x008
abbrev PWR_SNAP_ELO : Nat := 0x020
abbrev PWR_SNAP_EHI : Nat := 0x024
abbrev PWR_SNAP_PTCHG : Nat := 0x028
abbrev PWR_PHASE : Nat := 0x040
abbrev PWR_CAP : Nat := 0x044
abbrev PWR_DSHARE : Nat := 0x048
abbrev PWR_QSHARE : Nat := 0x04C
abbrev PWR_ISHARE : Nat := 0x050
abbrev PWR_FBCAP : Nat := 0x054
abbrev PWR_ILIM (i : Nat) : Nat := 0x058 + 4 * i
abbrev PWR_PREF : Nat := 0x068
abbrev PWR_OPA (i : Nat) : Nat := 0x080 + 8 * i
abbrev PWR_OPB (i : Nat) : Nat := 0x084 + 8 * i
abbrev PWR_STAT : Nat := 0x200
abbrev PWR_BREACH : Nat := 0x204
abbrev PWR_CAPEFF : Nat := 0x208
abbrev PWR_CHIP : Nat := 0x20C
abbrev PWR_DOM (i : Nat) : Nat := 0x210 + 4 * i
abbrev PWR_QLOG (i : Nat) : Nat := 0x220 + 4 * i
abbrev PWR_ENERGY_LO : Nat := 0x230
abbrev PWR_ENERGY_HI : Nat := 0x234
abbrev PWR_EFLAGS : Nat := 0x238
abbrev PWR_PTCHG : Nat := 0x23C
abbrev PWR_GRP_LO : Nat := 0x240
abbrev PWR_GRP_HI : Nat := 0x244
abbrev PWR_ICAP : Nat := 0x248
abbrev HOST_JOBSTART : Nat := 0x180
abbrev HOST_JOBEND : Nat := 0x184
abbrev HOST_JOBERR : Nat := 0x2F0
abbrev HOST_JOBID (i : Nat) : Nat := 0x300 + 16 * i
abbrev HOST_JOBST (i : Nat) : Nat := 0x304 + 16 * i
abbrev HOST_JOBE_LO (i : Nat) : Nat := 0x308 + 16 * i
abbrev HOST_JOBE_HI (i : Nat) : Nat := 0x30C + 16 * i
abbrev BLK_CTL : Nat := 0x008
abbrev BLK_SNAP_COVERS : Nat := 0x020
abbrev BLK_SNAP_FELO : Nat := 0x024
abbrev BLK_SNAP_FEHI : Nat := 0x028
abbrev BLK_FLOOR : Nat := 0x040
abbrev BLK_DET : Nat := 0x044
abbrev BLK_LVL : Nat := 0x048
abbrev BLK_GMASK (i : Nat) : Nat := 0x050 + 4 * i
abbrev BLK_STAT : Nat := 0x200
abbrev BLK_FLOORNOW : Nat := 0x204
abbrev BLK_AVG : Nat := 0x208
abbrev BLK_LEVEL : Nat := 0x20C
abbrev BLK_FENERGY_LO : Nat := 0x210
abbrev BLK_FENERGY_HI : Nat := 0x214
abbrev BLK_COVERS : Nat := 0x218
abbrev BLK_ENDS : Nat := 0x21C
abbrev BLK_MSGERR : Nat := 0x220
abbrev BLK_CAPLIM : Nat := 0x224
abbrev BLK_MSG : Nat := 0x280
abbrev SEAT_CTL : Nat := 0x008
abbrev SEAT_SNAP_MIGS : Nat := 0x020
abbrev SEAT_SNAP_SCRUBS : Nat := 0x024
abbrev SEAT_MIGCFG : Nat := 0x040
abbrev SEAT_MIGADDR_LO : Nat := 0x044
abbrev SEAT_MIGADDR_HI : Nat := 0x048
abbrev SEAT_HOT : Nat := 0x04C
abbrev SEAT_WEAR : Nat := 0x050
abbrev SEAT_PEAK : Nat := 0x054
abbrev SEAT_IDLE : Nat := 0x058
abbrev SEAT_SCRUBT : Nat := 0x05C
abbrev SEAT_GREQ (i : Nat) : Nat := 0x060 + 4 * i
abbrev SEAT_EPOCH : Nat := 0x200
abbrev SEAT_MIGSTAT : Nat := 0x204
abbrev SEAT_MIGSRC : Nat := 0x208
abbrev SEAT_MIGS : Nat := 0x20C
abbrev SEAT_MIGABORT : Nat := 0x210
abbrev SEAT_SKIP : Nat := 0x214
abbrev SEAT_SCRUBSTAT : Nat := 0x218
abbrev SEAT_SCRUBS : Nat := 0x21C
abbrev SEAT_GSTATE (i : Nat) : Nat := 0x220 + 4 * i
abbrev SEAT_MIGERR : Nat := 0x240
abbrev SEAT_MIGACK : Nat := 0x280
abbrev SEAT_CMD : Nat := 0x284
abbrev SEAT_WAKE : Nat := 0x288
abbrev CLU_RCAL (i : Nat) : Nat := 0x04C + 16 * i
abbrev CLU_WEARSEL : Nat := 0x080
abbrev CLU_RETESTRES : Nat := 0x28C
abbrev CLU_WEARAH : Nat := 0x2B0
abbrev CLU_WEARTC : Nat := 0x2B4
abbrev CLU_WEARDUTY : Nat := 0x2B8
abbrev CLU_ROTAGE : Nat := 0x2BC
abbrev STG_WEARSEL : Nat := 0x09C
abbrev STG_WEARAH : Nat := 0x240
abbrev STG_WEARRUN : Nat := 0x244
abbrev CAL_WEARCFG : Nat := 0x140
abbrev CAL_WEARSAVE : Nat := 0x144
abbrev CAL_RETRIM : Nat := 0x148
abbrev CAL_POWERED_LO : Nat := 0x300
abbrev CAL_POWERED_HI : Nat := 0x304
abbrev CAL_ROTATIONS : Nat := 0x308
abbrev CAL_RETRIMS : Nat := 0x30C
abbrev CAL_HAMPER_CELL : Nat := 0x310
abbrev CAL_HAMPER_ENG : Nat := 0x314
abbrev CAL_HAMPER_STG : Nat := 0x318
abbrev CAL_HAMPER_MISC : Nat := 0x31C
abbrev CAL_HAMPER_TB : Nat := 0x320
abbrev CAL_CMD : Nat := 0x380
abbrev CAL_CMDSTAT : Nat := 0x384
abbrev ARB_SNAP_GRANTS (i : Nat) : Nat := 0x020 + 4 * i
abbrev ARB_TICKETS0 : Nat := 0x040
abbrev ARB_TICKETS1 : Nat := 0x044
abbrev ARB_SEED : Nat := 0x048
abbrev ARB_BACKOFF : Nat := 0x04C
abbrev ARB_LOCK : Nat := 0x050
abbrev ARB_QSEL : Nat := 0x054
abbrev ARB_QSTAT (i : Nat) : Nat := 0x200 + 4 * i
abbrev ARB_LFSR (i : Nat) : Nat := 0x210 + 4 * i
abbrev ARB_BKOFF : Nat := 0x230
abbrev ARB_LOCKS : Nat := 0x234
abbrev ARB_GRANTS (i : Nat) : Nat := 0x300 + 16 * i
abbrev ARB_WAITLO (i : Nat) : Nat := 0x304 + 16 * i
abbrev ARB_WAITHI (i : Nat) : Nat := 0x308 + 16 * i
abbrev ARB_WAITMAX (i : Nat) : Nat := 0x30C + 16 * i
abbrev FLT_CTL : Nat := 0x008
abbrev FLT_SNAP_RAISED : Nat := 0x020
abbrev FLT_SNAP_DISCARDS : Nat := 0x024
abbrev FLT_SEV (i : Nat) : Nat := 0x040 + 4 * i
abbrev FLT_RCV : Nat := 0x080
abbrev FLT_FIRST : Nat := 0x200
abbrev FLT_FIRST_TLO : Nat := 0x204
abbrev FLT_FIRST_THI : Nat := 0x208
abbrev FLT_OVERFLOW : Nat := 0x20C
abbrev FLT_PEND (i : Nat) : Nat := 0x210 + 4 * i
abbrev FLT_STAT : Nat := 0x220
abbrev FLT_RAISED : Nat := 0x224
abbrev FLT_DISCARDS : Nat := 0x228
abbrev FLT_DOM (i : Nat) : Nat := 0x240 + 4 * i
abbrev FLT_CMD : Nat := 0x280
abbrev FLT_INJECT : Nat := 0x284
abbrev HOST_ALERTADDR_LO : Nat := 0x140
abbrev HOST_ALERTADDR_HI : Nat := 0x144
abbrev HOST_ALERTCTL : Nat := 0x148
abbrev HOST_ALERTSEQ : Nat := 0x2E0
abbrev HOST_ALERTDROP : Nat := 0x2E4
abbrev HOST_IBISTAT : Nat := 0x2E8
abbrev CAL_SNAP_WRITES : Nat := 0x020
abbrev CAL_FCLK : Nat := 0x040
abbrev CAL_FTMO : Nat := 0x044
abbrev CAL_JCFG : Nat := 0x048
abbrev CAL_REFRESH : Nat := 0x04C
abbrev CAL_DIRSEL : Nat := 0x050
abbrev CAL_STAT : Nat := 0x200
abbrev CAL_JEDECID : Nat := 0x204
abbrev CAL_SECTORS : Nat := 0x208
abbrev CAL_FREE : Nat := 0x20C
abbrev CAL_WRPTR : Nat := 0x210
abbrev CAL_NEXTSEQ : Nat := 0x214
abbrev CAL_ERASEMIN : Nat := 0x218
abbrev CAL_ERASEMAX : Nat := 0x21C
abbrev CAL_DIRSEQ : Nat := 0x220
abbrev CAL_DIRLOC : Nat := 0x224
abbrev CAL_DIRAGE : Nat := 0x228
abbrev CAL_QUEUE : Nat := 0x22C
abbrev CAL_WRITES : Nat := 0x230
abbrev CAL_REWRITES : Nat := 0x234
abbrev CAL_ECCFIX : Nat := 0x238
abbrev CAL_BADREC : Nat := 0x23C
abbrev CAL_QFULL : Nat := 0x240
abbrev CAL_STCMD : Nat := 0x388
abbrev CAL_STCMDSTAT : Nat := 0x38C
abbrev GEN_STARTSEQ : Nat := 0x048
abbrev GEN_SHUTTMO : Nat := 0x04C
abbrev GEN_BOOT : Nat := 0x228
abbrev GEN_UPTICK_LO : Nat := 0x22C
abbrev GEN_WRESETS : Nat := 0x230
abbrev GEN_BOOTCMD : Nat := 0x284
abbrev LNK_PLAN : Nat := 0x040
abbrev LNK_PCLS : Nat := 0x044
abbrev LNK_CFG : Nat := 0x048
abbrev LNK_STAT : Nat := 0x200
abbrev LNK_GSTATE : Nat := 0x204
abbrev LNK_DCLS : Nat := 0x208
abbrev LNK_MISMATCH : Nat := 0x20C
abbrev LNK_DISC : Nat := 0x280
abbrev LNK_REQ : Nat := 0x284
abbrev HOST_SECCFG : Nat := 0x040
abbrev HOST_INITCFG : Nat := 0x044
abbrev HOST_I3CCFG : Nat := 0x048
abbrev HOST_SECSTAT : Nat := 0x200
abbrev HOST_I3CSTAT : Nat := 0x204
abbrev HOST_I3CERR : Nat := 0x208
abbrev HOST_LASTNS : Nat := 0x20C
abbrev DBG_CTL : Nat := 0x040
abbrev DBG_WDATA : Nat := 0x044
abbrev DBG_STAT : Nat := 0x200
abbrev DBG_RDATA : Nat := 0x204
abbrev DBG_CMD : Nat := 0x280

end Reg

end Sys2Proof
end

