-- ==== Sys2Proof/Machine/Ops.lean ====
section
/-! DEFINITION. The named operations that every mechanism shares: time, register words and their fields,
counters and results, raising a fault source, and who may do what. -/

namespace Sys2Proof.Machine

/-- The block has power, and no warm reset has taken this tick, which drops everything else of it (R548). -/
def awake (s : State) : Bool := s.powered && s.boot.resetAt != some s.tb.elapsed

/-- The effect of a command, where its event can happen (`ok`); where it cannot, and while the block is not awake, the
command changes nothing (DESIGN CHOICE, log entry 1). -/
@[inline] def act (s : State) (ok : Bool) (t : State) : Host.Outcome State Fault Refusal :=
  .next (if awake s && ok then t else s)

/-! ### Time (R40 to R47) -/

/-- The present tick as the timers count it (R46). -/
def now (s : State) : Nat := s.tb.elapsed

/-- Periods have begun that end past tick `n` of the present one: a secondary's begin only at the first boundary after
its counter is loaded (R55). -/
def begun (s : State) (n : Nat) : Bool :=
  match s.tb.loaded with
  | some t => decide (t + n < s.tb.tick.toNat)
  | none => true

/-- The counter runs and stands at tick `n` of a period of `p` ticks (R42) that has begun. -/
def atTick (s : State) (p n : Nat) : Bool := s.tb.running && (s.tb.tick.toNat % p == n) && begun s n

/-- Named periods of R12, in ticks. -/
abbrev controlP : Nat := 40
abbrev compP : Nat := 100
abbrev estP : Nat := 1280
abbrev capP : Nat := 20480
abbrev thermP : Nat := 1280000

/-- Ticks of microseconds and milliseconds (R43). -/
abbrev usTicks (n : Nat) : Nat := 1250 * n
abbrev msTicks (n : Nat) : Nat := 1250000 * n

/-- The numbers of the present estimate and capping periods. -/
def estNo (s : State) : Nat := s.tb.tick.toNat / estP
def capNo (s : State) : Nat := s.tb.tick.toNat / capP

/-- A time has run out in this tick (R45). -/
def expire (l : Late) (s : State) : State := s.setLate (if s.late.contains l then s.late else s.late ++ [l])

/-! ### Pages and offsets (R574) -/

abbrev pg (page off : Nat) : Nat := page * 0x1000 + off
abbrev genO (o : Nat) : Nat := o
abbrev tbO (o : Nat) : Nat := pg 0x01 o
abbrev fltO (o : Nat) : Nat := pg 0x02 o
abbrev arbO (o : Nat) : Nat := pg 0x03 o
abbrev pwrO (o : Nat) : Nat := pg 0x04 o
abbrev thmO (o : Nat) : Nat := pg 0x05 o
abbrev calO (o : Nat) : Nat := pg 0x06 o
abbrev talO (o : Nat) : Nat := pg 0x07 o
abbrev trailO (o : Nat) : Nat := pg 0x08 o
abbrev seatO (o : Nat) : Nat := pg 0x09 o
abbrev blkO (o : Nat) : Nat := pg 0x0A o
abbrev lnkO (o : Nat) : Nat := pg 0x0B o
abbrev hostO (o : Nat) : Nat := pg 0x0C o
abbrev dbgO (o : Nat) : Nat := pg 0x0D o
abbrev bridgeO (o : Nat) : Nat := pg 0x0E o
abbrev qdO (q o : Nat) : Nat := pg (0x10 + q) o
abbrev adcO (n o : Nat) : Nat := pg (0x14 + n) o
abbrev stgO (d o : Nat) : Nat := pg (0x20 + d) o
abbrev secO (s o : Nat) : Nat := pg (0x40 + s) o
abbrev cluO (s o : Nat) : Nat := pg (0x80 + s) o

abbrev PAGE_STAT : Nat := 0x00C
abbrev PAGE_FLT : Nat := 0x010
abbrev PAGE_FLTMASK : Nat := 0x014
abbrev PAGE_PARITY : Nat := 0x018
abbrev PAGE_EPOCH : Nat := 0x01C
abbrev PAGE_SNAPSEQ : Nat := 0x03C

/-- Sectors and quadrants of the build (R1, R2). -/
def sectors (s : State) : Nat := s.params.build.sectors
def quads (s : State) : Nat := sectors s / 16

/-- The type and instance of a canonical page number; none where the page is absent or an alias (R574, R6). -/
def pageType (p : Params) (page : Nat) : Option (PageType × Nat) :=
  if page < 0x10 then
    ([PageType.gen, .tb, .flt, .arb, .pwr, .thm, .cal, .tal, .trail, .seat, .blk, .lnk, .host, .dbg, .bridge,
      .test][page]?).map (·, 0)
  else if page < 0x14 then if page - 0x10 < p.build.sectors / 16 then some (.qd, page - 0x10) else none
  else if page < 0x20 then some (.adc, page - 0x14)
  else if page < 0x24 then some (.stg, page - 0x20)
  else if page < 0x40 then none
  else if page < 0x80 then if page - 0x40 < p.build.sectors then some (.sec, page - 0x40) else none
  else if page < 0xC0 then if page - 0x80 < p.build.sectors then some (.clu, page - 0x80) else none
  else none

/-- The row that places a register at word offset `o`, and its index there. -/
def findRow : List Row → Nat → Option (Row × Nat)
  | [], _ => none
  | r :: rs, o =>
    if r.off ≤ o && (o - r.off) % r.stride == 0 && (o - r.off) / r.stride < r.count
    then some (r, (o - r.off) / r.stride) else findRow rs o

/-- `PAGE_FLTMASK`, the one configuration word of the common layout (R65). -/
def fltMaskRow : Row := ⟨PAGE_FLTMASK, 4, 1, .rw, .shadow, 0, [⟨31, 0, .full⟩], false⟩

/-- The register at a canonical block offset, with its page's type and instance and its index. -/
def regAt (p : Params) (off : Nat) : Option (Row × Nat × PageType × Nat) :=
  match pageType p (off / 0x1000) with
  | none => none
  | some (t, i) =>
    if off % 0x1000 = PAGE_FLTMASK then some (fltMaskRow, 0, t, i)
    else (findRow (RegTable.rows t) (off % 0x1000)).map fun (r, k) => (r, k, t, i)

/-- The reset values of `FLT_SEV0` to `FLT_SEV15` (R475). -/
def fltSevReset : List Nat :=
  [0x02315522, 0x00021222, 0x31233331, 0x02012212, 0x12221312, 0x02222111, 0x34444444, 0x00011233,
   0x02212333, 0x22115222, 0x00000005, 0x01111221, 0x00001121, 0x02211122, 0x00000121, 0x00000000]

/-- The reset value of a register: its row's, or where the value depends on the instance or index the table of
its chapter (R133, R205, R295, R321, R345, R475, R571). -/
def resetAt (p : Params) (off : Nat) : Word :=
  match regAt p off with
  | none => 0
  | some (r, k, t, i) =>
    let dflt : Word := BitVec.ofNat 32 r.reset
    match t with
    | .flt => if r.off = 0x040 then BitVec.ofNat 32 (fltSevReset.getD k 0) else dflt
    | .host => if r.off = 0x040 then (if p.secureHost then 1 else 0) else dflt
    | .stg =>
      if r.off = 0x040 then BitVec.ofNat 32 ([0x01012C00, 0x01010B00, 0x01010900, 0x01010900].getD i 0)
      else if r.off = 0x044 then BitVec.ofNat 32 ([0xFFFFFFFF, 0xFFF, 0x3FF, 0x3FF].getD i 0)
      else if r.off = 0x048 then (if i = 0 then 0xFFFF else 0)
      else dflt
    | .qd =>
      if r.off = 0x044 then BitVec.ofNat 32 ([0x04, 0x12, 0x3F, 0x28].getD k 0)
      else if r.off = 0x060 || r.off = 0x10C then
        let w := if r.off = 0x060 then k else 40 + k
        if w = 85 then 0xFF else BitVec.ofNat 32 (3 * w + (3 * w + 1) * 0x400 + (3 * w + 2) * 0x100000)
      else dflt
    | .thm =>
      if r.off = 0x044 then BitVec.ofNat 32 ([0x000C17C0, 0x000C1A40, 0x000C1680].getD k 0)
      else if r.off = 0x048 then BitVec.ofNat 32 ([0x00141A40, 0x00141CC0, 0x00141900].getD k 0)
      else if r.off = 0x04C then BitVec.ofNat 32 ([0x003C1F40, 0x003C2080, 0x003C1CC0].getD k 0)
      else dflt
    | _ => dflt

/-- Channels of each domain (R20). -/
def domCh (d : Nat) : Nat := [48, 12, 10, 10].getD d 0
/-- First channel of each domain (R20). -/
def domBase (d : Nat) : Nat := [0, 48, 60, 70].getD d 0

/-- One field of a stored word, as it reads (R580). `inst` is the page's instance. -/
def fieldAsRead (inst : Nat) (w : Word) (fd : Fld) : Nat :=
  let v := w.field fd.hi fd.lo
  let n := fd.hi + 1 - fd.lo
  match fd.rng with
  | .full => v
  | .between a b => if v < a then a else if b < v then b else v
  | .signedBetween a b => unsigned n (clamp (signed n v) a b)
  | .zeroAt c => if v = c then 0 else v
  | .channels => if v < 1 then 1 else if domCh inst < v then domCh inst else v
  | .upTo h2 l2 a =>
    let top0 := w.field h2 l2
    let top := if top0 < 1 then 1 else if domCh inst < top0 then domCh inst else top0
    if v < a then a else if top < v then top else v
  | .above h2 l2 c e b =>
    let bot0 := w.field h2 l2
    let bot1 := if bot0 < c then c else if e < bot0 then e else bot0
    let bot := if b < bot1 + 1 then b else bot1 + 1
    if v < bot then bot else if b < v then b else v

/-- Source IDs with a meaning (R475, R476); the others are reserved. -/
def faultId (i : Nat) : Bool :=
  decide (i < 128) && !([7, 13, 14, 15, 31, 47, 61, 62, 63, 71, 81, 82, 83, 84, 85, 86, 87, 95, 100, 101, 102, 103,
    111].contains i) && decide (i ≤ 114)

/-- The severity fields of reserved IDs read 0 (R475). -/
def sevMask (k : Nat) (w : Word) : Word :=
  (List.range 8).foldl (fun a i => if faultId (8 * k + i) then a else Word.put a (4 * i + 3) (4 * i) 0) w

/-- Bits of groups that the build lacks, in `BLK_GMASKw` and `SEAT_GREQw`, read 0 (R397, R425). -/
def absentMask (p : Params) (t : PageType) (r : Row) (k : Nat) (w : Word) : Word :=
  match t with
  | .blk => if r.off = 0x050 then
      let n := p.build.sectors * 3
      BitVec.ofNat 32 (w.toNat % 2 ^ (if 32 * k + 32 ≤ n then 32 else n - 32 * k)) else w
  | .seat => if r.off = 0x060 then
      let n := p.build.sectors * 2
      BitVec.ofNat 32 (w.toNat % 2 ^ (if 16 * k + 16 ≤ n then 32 else 2 * (n - 16 * k))) else w
  | .flt => if r.off = 0x040 then sevMask k w else w
  | _ => w

/-- A stored configuration word as it reads and as the device uses it (R580, R15). -/
def asRead (p : Params) (off : Nat) (w : Word) : Word :=
  match regAt p off with
  | none => 0
  | some (r, k, t, i) =>
    absentMask p t r k (r.flds.foldl (fun a fd => Word.put a fd.hi fd.lo (fieldAsRead i w fd)) 0)

/-- The bits of a register that a write stores; its reserved bits are ignored (R15). -/
def storedBits (p : Params) (off : Nat) (w : Word) : Word :=
  match regAt p off with
  | none => 0
  | some (r, k, t, _) =>
    let m := r.flds.foldl (fun a fd => Word.put a fd.hi fd.lo (w.field fd.hi fd.lo)) (0 : Word)
    if t = .qd && r.off = 0x10C && k = 45 then m.put 29 10 0
    else if t = .flt && r.off = 0x040 then sevMask k m else m

/-! ### Register words -/

def shadowOf (s : State) (off : Nat) : Word := Store.get s.regs.shadow (resetAt s.params off) off
def activeOf (s : State) (off : Nat) : Word := Store.get s.regs.active (resetAt s.params off) off
def live (s : State) (off : Nat) : Word := Store.get s.regs.live (resetAt s.params off) off

def setShadow (off : Nat) (w : Word) (s : State) : State :=
  s.setRegs { s.regs with shadow := Store.set s.regs.shadow (resetAt s.params off) off w }
def setActive (off : Nat) (w : Word) (s : State) : State :=
  s.setRegs { s.regs with active := Store.set s.regs.active (resetAt s.params off) off w }
def setLive (off : Nat) (w : Word) (s : State) : State :=
  s.setRegs { s.regs with live := Store.set s.regs.live (resetAt s.params off) off w }

/-- A configuration word in effect, as it reads (R69, R580). -/
def cfg (s : State) (off : Nat) : Word := asRead s.params off (activeOf s off)
/-- A field of a configuration word in effect. -/
def cfgF (s : State) (off hi lo : Nat) : Nat := (cfg s off).field hi lo
def cfgB (s : State) (off i : Nat) : Bool := (cfg s off).bit i

/-- A live word's bit set. -/
def setBit (off i : Nat) (s : State) : State := setLive off ((live s off).put i i 1) s
/-- A field of a live word replaced. -/
def setField (off hi lo v : Nat) (s : State) : State := setLive off ((live s off).put hi lo v) s

/-- A 32-bit counter incremented by `n`, saturating (R91). -/
def bumpBy (off n : Nat) (s : State) : State :=
  setLive off (BitVec.ofNat 32 (Nat.min ((live s off).toNat + n) 0xFFFFFFFF)) s
def bump (off : Nat) (s : State) : State := bumpBy off 1 s

/-- A counter in bits [hi:lo] incremented, saturating. -/
def bumpF (off hi lo : Nat) (s : State) : State :=
  setField off hi lo (Nat.min ((live s off).field hi lo + 1) (2 ^ (hi + 1 - lo) - 1)) s

/-- A new result in a result register (R92): the data, `SEQ` + 1, `VALID`. -/
def result (off data : Nat) (s : State) : State :=
  setLive off (Word.put (Word.put (BitVec.ofNat 32 data) 23 16 ((live s off).field 23 16 + 1)) 31 31 1) s

/-- A 64-bit counter held in two words, increased by `n` modulo 2^64. -/
def add64 (lo hi : Nat) (n : Nat) (s : State) : State :=
  let v := ((live s hi).toNat * 0x100000000 + (live s lo).toNat + n) % 2 ^ 64
  setLive hi (BitVec.ofNat 32 (v / 0x100000000)) (setLive lo (BitVec.ofNat 32 v) s)

/-! ### Refusals, fault bits and sources -/

/-- A refusal counted in `PAGE_STAT` [8] of a page (R65). -/
def refuse (page : Nat) (s : State) : State := bumpF (pg page PAGE_STAT) 15 8 s

/-- A bit of `PAGE_FLT` set, unless `PAGE_FLTMASK` keeps it from setting (R65). -/
def pageFlt (page bit : Nat) (s : State) : State :=
  when (!cfgB s (pg page PAGE_FLTMASK) bit) (setBit (pg page PAGE_FLT) bit) s

/-- A fault source raised with its detail: registered in this tick, its outcome due 8 ticks later (R478). -/
def raise (src det : Nat) (s : State) : State :=
  s.setFlt { s.flt with regq := s.flt.regq ++ [⟨src, det, s.tb.tick, now s, now s + 8, false⟩] }

/-- A source raised together with its bit of a page's `PAGE_FLT`. -/
def raiseOn (src det page bit : Nat) (s : State) : State := pageFlt page bit (raise src det s)

/-! Source IDs of R475 and R476. -/
namespace Src
abbrev TB_REF_LOST : Nat := 0
abbrev TB_HOLDOVER : Nat := 1
abbrev TB_HOLDOVER_EXPIRED : Nat := 2
abbrev TB_PLL_UNLOCK : Nat := 3
abbrev ENG_OVERRUN : Nat := 4
abbrev ENG_OVERRUN_RPT : Nat := 5
abbrev BRG_SYNC_LOST : Nat := 6
abbrev CFG_PARITY : Nat := 8
abbrev CFG_SEAL_BAD : Nat := 9
abbrev CFG_START_BAD : Nat := 10
abbrev FLT_ALERT_WRITE : Nat := 11
abbrev FLT_RECOVERY_HELD : Nat := 12
abbrev CELL_LEG_SPARED : Nat := 16
abbrev CELL_LEGS_EXHAUSTED : Nat := 17
abbrev CELL_LEG_STUCK_ON : Nat := 18
abbrev CELL_OVERCURRENT : Nat := 19
abbrev CELL_CMP_CONFLICT : Nat := 20
abbrev CELL_RETRIM_FAIL : Nat := 21
abbrev CLU_SPARE_TAKEOVER : Nat := 22
abbrev CLU_SPARE_TIMEOUT : Nat := 23
abbrev CLU_BEYOND_SPARE : Nat := 24
abbrev CLU_SENSOR_DISAGREE : Nat := 25
abbrev CLU_SENSOR_LOST : Nat := 26
abbrev CLU_ITRIM_LIMIT : Nat := 27
abbrev CLU_ROTATE_ABORT : Nat := 28
abbrev SCHUSS_TRIP : Nat := 29
abbrev SCHUSS_LONG : Nat := 30
abbrev TALLY_DISAGREE : Nat := 32
abbrev SEC_TRIM_LIMIT : Nat := 33
abbrev SEC_ENG_FAULT : Nat := 34
abbrev SEC_SPARE_TAKEOVER : Nat := 35
abbrev SEC_DARK : Nat := 36
abbrev CHL_ILK_TIMEOUT : Nat := 37
abbrev CHL_SETTLE_TIMEOUT : Nat := 38
abbrev CHL_INRUSH_DEFER : Nat := 39
abbrev TRAIL_OVERFLOW : Nat := 40
abbrev TRAIL_FORM : Nat := 41
abbrev TALLY_FEAT_ERR : Nat := 42
abbrev TALLY_IMAGE_BAD : Nat := 43
abbrev TALLY_MODEL_WRONG : Nat := 44
abbrev TALLY_SENSE_WRONG : Nat := 45
abbrev TALLY_NO_AGREE : Nat := 46
abbrev STG_UV : Nat := 48
abbrev STG_OV : Nat := 49
abbrev STG_SS_SHORT : Nat := 50
abbrev STG_PG_TIMEOUT : Nat := 51
abbrev STG_RAIL_SHORT : Nat := 52
abbrev STG_SENSE_LOST : Nat := 53
abbrev STG_TOO_FEW : Nat := 54
abbrev STG_CH_SHORT : Nat := 55
abbrev STG_CH_OVERLOAD : Nat := 56
abbrev STG_CH_IMON : Nat := 57
abbrev STG_SPARE_EXHAUSTED : Nat := 58
abbrev STG_IMBALANCE : Nat := 59
abbrev STG_TRK_ERR : Nat := 60
abbrev ADC_CAL_RANGE : Nat := 64
abbrev ADC_CORR_ERR : Nat := 65
abbrev ADC_XCHK_FAIL : Nat := 66
abbrev ADC_XCHK_UNRESOLVED : Nat := 67
abbrev ADC_REPLACED : Nat := 68
abbrev ADC_SPARE_EXHAUSTED : Nat := 69
abbrev ADC_TELEM_LOST : Nat := 70
abbrev THM_WARN : Nat := 72
abbrev THM_THROTTLE : Nat := 73
abbrev THM_ENFORCE : Nat := 74
abbrev THM_SHUTDOWN : Nat := 75
abbrev THM_DIODE_FAIL : Nat := 76
abbrev THM_DIODE_DISAGREE : Nat := 77
abbrev THM_SITE_LOST : Nat := 78
abbrev THM_THERM_FAIL : Nat := 79
abbrev THM_GROUP_BLIND : Nat := 80
abbrev CAP_BREACH_FIXED : Nat := 88
abbrev PWR_CAP_UNMET : Nat := 89
abbrev PWR_SHARE_BAD : Nat := 90
abbrev PWR_ENERGY_EST : Nat := 91
abbrev PWR_GROUP_PARTIAL : Nat := 92
abbrev JOB_SLOTS_FULL : Nat := 93
abbrev BLK_CAP_LIMIT : Nat := 94
abbrev SEAT_MIG_ABORT : Nat := 96
abbrev SEAT_NO_SPARE : Nat := 97
abbrev SEAT_SCRUB_DONE : Nat := 98
abbrev ARB_LOCK_BROKEN : Nat := 99
abbrev CAL_FLASH_ABSENT : Nat := 104
abbrev CAL_SFDP_BAD : Nat := 105
abbrev CAL_ECC_CORRECTED : Nat := 106
abbrev CAL_RECORD_BAD : Nat := 107
abbrev CAL_SECTOR_RETIRED : Nat := 108
abbrev CAL_STORE_FULL : Nat := 109
abbrev CAL_OP_TIMEOUT : Nat := 110
abbrev LNK_UNPLANNED : Nat := 112
abbrev LNK_ABSENT : Nat := 113
abbrev HOST_I3C_ERR : Nat := 114
end Src

/-! ### Accesses (R61, R93, R560, R564) -/

/-- The access comes from the secure master (R564). -/
def secure (s : State) (a : Access) : Bool :=
  match a.port with
  | .fabric => !s.ports.sel && a.attr
  | .i3c => s.ports.sel

/-- The access reaches the block: the I3C target answers no address while `HOST_I3CCFG.EN` = 0 (R571). -/
def reaches (s : State) (a : Access) : Bool :=
  match a.port with
  | .fabric => true
  | .i3c => cfgB s (hostO Reg.HOST_I3CCFG) 0

def respond (a : Access) (r : Response) (s : State) : State :=
  match a.port with
  | .fabric => s.setPorts { s.ports with fab := r }
  | .i3c => s.setPorts { s.ports with i3c := r }

/-- A non-secure access to a secure-only word: counted in `GEN_ACCERR.NONSEC`, its source recorded (R93, R560). -/
def countNonsec (a : Access) (s : State) : State :=
  let rec' : Nat := match a.port with
    | .fabric => a.chip.toNat + a.tile.toNat * 0x20000
    | .i3c => 0x80000000
  setLive (hostO Reg.HOST_LASTNS) (BitVec.ofNat 32 rec') (bumpF (genO Reg.GEN_ACCERR) 15 8 s)

/-- An access of bad form: an error response, counted in `GEN_ACCERR.FORM`, no effect (R61, R573). -/
def formError (a : Access) (s : State) : State :=
  respond a .error (bumpF (genO Reg.GEN_ACCERR) 7 0 s)

/-- The fabric initiator sends a write: of those of one tick the migration records go first (R561). -/
def initSend (mig : Bool) (w : InitWrite) (s : State) : State :=
  s.setPorts { s.ports with out := if mig then w :: s.ports.out else s.ports.out ++ [w] }

/-- A command given by a host write that every master may make. -/
def hostCmd (a : Access) (f : State → State) (s : State) : State := respond a (.ok 0) (f s)

/-- A command that acts only on a secure write; any other is ignored and counted (R93). -/
def secureCmd (a : Access) (f : State → State) (s : State) : State :=
  hostCmd a (fun s => if secure s a then f s else countNonsec a s) s

/-! ### Numbered units -/

/-- The reset record of a cell: cell 15 of each cluster is the spare, in STANDBY at reset (R8, R109, R111). -/
def cell0 (n : Nat) : Cell :=
  { state := if n % 16 = 15 then .standby else .off, legs := 0, startAt := 0, map := [], waiting := [], cause := 0,
    spdes := n % 16 == 15, passWait := false, trimmed := false }

def cell (s : State) (n : Nat) : Cell := Store.get s.cells (cell0 n) n
def setCell (n : Nat) (c : Cell) (s : State) : State := s.setCells (Store.set s.cells (cell0 n) n c)
def modCell (n : Nat) (f : Cell → Cell) (s : State) : State := setCell n (f (cell s n)) s

def clu0 : Cluster :=
  { enabled := false, schuss := .idle, tripAt := 0, lastTrip := none, holdFrom := 0, activeAt := none, stretch := false,
    longSaid := false, releaseAt := none, droopPrev := false, satHi := false, satLo := false, legMed := 0,
    codeA := 0, codeB := 0, sensB := false, aFail := false, bFail := false, disRun := 0, lostRun := 0,
    tapWait := false, vclu := 0, centre := 0, half := 0, k := 0x4000, raws := [], mNow := 0, means := [],
    integ := 0, held := false, limAt := 0, limRun := 0, ff := 0,
    beyond := false, takes := [], retest := none, rotAt := 0 }

def clu (s : State) (g : Nat) : Cluster := Store.get s.clus clu0 g
def setClu (g : Nat) (c : Cluster) (s : State) : State := s.setClus (Store.set s.clus clu0 g c)
def modClu (g : Nat) (f : Cluster → Cluster) (s : State) : State := setClu g (f (clu s g)) s

def chan0 : Chan := { pos := 0, vel := 0, acc := 0, tgt := 0, adm := 0, there := true, wait := none, said := false }

def sec0 : Sector :=
  { mode := .off, suspect := false, coefBad := false, onSpare := false, ownFailed := false, serveFrom := 0,
    res := none, eRef := 0, estDue := false, prepos := [], asked := [], reports := [], busy := false, disRun := 0, agrRun := 0,
    gbCfg := 0, badPers := [], lastE := none, stored := none, base := chan0,
    gb := chan0, pre := chan0, prof := .idle, prev := 0, seq := 0, rise := none, fcap := 0, hold := false,
    settleN := 0, settleAt := 0, settleSaid := false, cmdBase := none, fallDue := none, cmdGb := none, cmdPre := none, sp := 0,
    spNext := 0, spDue := 0, wakeRan := false, rbAt := none, engSw := none, offSince := 0, offs := [],
    sw := .off, swAt := 0, halfRate := false, reqs := [], granted := [], retained := [], wants := [], offAt := none,
    wakeDue := false, waking := false, vacated := false }

def sec (s : State) (n : Nat) : Sector := Store.get s.secs sec0 n
def setSec (n : Nat) (x : Sector) (s : State) : State := s.setSecs (Store.set s.secs sec0 n x)
def modSec (n : Nat) (f : Sector → Sector) (s : State) : State := setSec n (f (sec s n)) s

/-- The domain of a sector, from its place in its quadrant (R18, R8): 0 LOGIC, 1 ARRAY, 2 LINK, 3 MIF. -/
def domOf (sector : Nat) : Nat :=
  if sector % 16 < 12 then 0 else if sector % 16 < 14 then 1 else if sector % 16 = 14 then 2 else 3

/-- The sectors of a domain present in the build. -/
def domSectors (s : State) (d : Nat) : List Nat := (upto (sectors s)).filter (fun i => domOf i == d)

/-! ### Domains, stages and channels -/

def stage0 : Stage :=
  { state := .off, startDue := none, pop := [], pulse := ⟨0, 0, false, 0⟩, armedAt := 0, downAt := 0, softAt := 0, confAt := 0, active := [], spares := [], follow := 0, trkErr := false,
    ref := 0, refAt := 0, rail := none, hist := [], pgRun := 0, lagRun := 0, gapRun := 0, ovRun := 0, uvFrom := none,
    uvSaid := false, integ := 0, y1 := 0, y2 := 0, ePrev := 0, duty := 0, hi := false, lo := false, fast := false,
    comp := none, latched := none, fsw := 0, phbase := 0, offs := [], offDue := none, ovLow := false, de := false,
    deRun := 0, bCode := 0, bFail := false, bGood := 0, v0 := none, imb := none, imbSaid := none, target := 0,
    chan := chan0, before := 0, stepAt := 0, cmd := none, prof := .idle, prev := 0 }

def stage (s : State) (d : Nat) : Stage := Store.get s.stages stage0 d
def setStage (d : Nat) (x : Stage) (s : State) : State := s.setStages (Store.set s.stages stage0 d x)
def modStage (d : Nat) (f : Stage → Stage) (s : State) : State := setStage d (f (stage s d)) s

def stgCh0 : StgCh :=
  { failed := false, res := [], imonBad := 0, highAt := none, trips := 0, tripped := false, cycAt := none, tOn := 0,
    end32 := 0, was := .mid, lowAt := 0, de := false, cut := false, stress := 0, time := 0 }

def stgCh (s : State) (ch : Nat) : StgCh := Store.get s.chans stgCh0 ch
def setCh (ch : Nat) (x : StgCh) (s : State) : State := s.setChans (Store.set s.chans stgCh0 ch x)
def modCh (ch : Nat) (f : StgCh → StgCh) (s : State) : State := setCh ch (f (stgCh s ch)) s

/-- A domain is in RUN. -/
def domainRun (s : State) (d : Nat) : Bool := (stage s d).state == .run
/-- A domain's latest rail result. -/
def railCode (s : State) (d : Nat) : Option Nat := (stage s d).rail

/-! ### Converters and sequencers -/

/-- A converter at reset: in CAL, with the role of R4 where its quadrant is present. -/
def adc0 (q n : Nat) : Adc :=
  { state := .cal, role := if n < 4 + q && n < 8 then n else 15, cause := 0, gain := 0x4000, offs := 0, taking := none,
    keep := 0, pairs := 0, gMin := 0, gMax := 0, oMin := 0, oMax := 0, pairOk := true, calAt := 0, corrRun := 0 }

def adc (s : State) (n : Nat) : Adc := Store.get s.adcs (adc0 (quads s) n) n
def setAdc (n : Nat) (x : Adc) (s : State) : State := s.setAdcs (Store.set s.adcs (adc0 (quads s) n) n x)
def modAdc (n : Nat) (f : Adc → Adc) (s : State) : State := setAdc n (f (adc s n)) s

/-- The converter that serves a role: a domain, or 4 + a quadrant (R4, R317 to R319). -/
def convOf (s : State) (role : Nat) : Option Nat :=
  (upto 12).find? (fun n => (adc s n).role == role && (adc s n).taking == none &&
    ((adc s n).state == .rail || (adc s n).state == .telem))
def quadConv (s : State) (q : Nat) : Option Nat := convOf s (4 + q)
def railConv (s : State) (d : Nat) : Option Nat := convOf s d

def quad0 : Quad :=
  { cur := none, next := 0, newTab := false, old := none, urgent := none, redo := none, queue := [], due := [], passAt := 0,
    passLo := false, passHi := false, passEnd := none, refLo := none, refHi := none, xrun := [], xlast := [] }

def quad (s : State) (q : Nat) : Quad := Store.get s.quads quad0 q
def setQuad (q : Nat) (x : Quad) (s : State) : State := s.setQuads (Store.set s.quads quad0 q x)
def modQuad (q : Nat) (f : Quad → Quad) (s : State) : State := setQuad q (f (quad s q)) s

def xchk (s : State) (d : Nat) : Option Xchk := s.xchks.find d

/-- The order of urgent requests of one tick (R311): clusters in ascending order, calibration, thermal manager, secure
master. -/
def urgRank (u : UrgReq) : Nat := if u.who = 0 then u.chan else if u.who = 4 then 257 else 256 + u.who

def urgBefore (a b : UrgReq) : Bool :=
  decide (a.stamp < b.stamp) || (a.stamp == b.stamp && decide (urgRank a < urgRank b))

def insertUrg (x : UrgReq) : List UrgReq → List UrgReq
  | [] => [x]
  | y :: r => if urgBefore x y then x :: y :: r else y :: insertUrg x r

/-- A quadrant can take an urgent request: its queue holds fewer than 8 and a converter serves it (R311). -/
def urgentFits (s : State) (q : Nat) : Bool := decide ((quad s q).queue.length < 8) && (quadConv s q).isSome

/-- An urgent request is queued, or refused and counted (R311). -/
def urgentPush (q chan who : Nat) (s : State) : State :=
  if urgentFits s q then modQuad q (fun x => { x with queue := insertUrg ⟨chan, who, now s⟩ x.queue }) s
  else bump (qdO q Reg.QD_URGREFUSED) s

/-! ### Recovery, rings, wear -/

def recov0 : Recovery := { state := .normal, from0 := 0, history := [], src := 0, sev := 0, ref := false, count := 0 }
def recov (s : State) (d : Nat) : Recovery := Store.get s.recov recov0 d
def modRecov (d : Nat) (f : Recovery → Recovery) (s : State) : State :=
  s.setRecov (Store.set s.recov recov0 d (f (recov s d)))

/-- A word rotated left. -/
def rotl (w : Word) (n : Nat) : Word := (w <<< (n % 32)) ||| (w >>> ((32 - n % 32) % 32 + if n % 32 = 0 then 32 else 0))

/-- A quadrant's arbiter at reset: its LFSR is `ARB_SEED` at its reset value of 1, rotated (R460). -/
def ring0 (q : Nat) : Ring :=
  { pres := [], queue := [], iso := [], lfsr := rotl 1 (8 * q), loss := [], wait := [], last0 := 6, lock := none,
    grants := [], current := none, voidWr := false, draw := none, latched := none, counts := [], opened := 0, broken := 0 }

def ring (s : State) (q : Nat) : Ring := Store.get s.rings (ring0 q) q
def setRing (q : Nat) (x : Ring) (s : State) : State := s.setRings (Store.set s.rings (ring0 q) q x)
def modRing (q : Nat) (f : Ring → Ring) (s : State) : State := setRing q (f (ring s q)) s

def wear0 : Wear := { stress := Frac.zero, duty := 0, cycles := 0, isol := 0 }
def wear (s : State) (n : Nat) : Wear := Store.get s.wears wear0 n
def setWear (n : Nat) (w : Wear) (s : State) : State := s.setWears (Store.set s.wears wear0 n w)

/-- `CAL_POWERED`: powered operation in seconds (R433). -/
def powered (s : State) : Int := (s.cal.powered : Int)

/-! ### What other mechanisms read -/

/-- The domain guardband is on (R254). -/
def domGb (s : State) (d : Nat) : Bool := (live s (talO (Reg.TAL_VERD d))).bit 3

/-- A sector's latched estimate: whether it is valid, and its code (R240). -/
def talEst (s : State) (sc : Nat) : Bool × Nat := (s.tally.good.contains sc, Store.get s.tally.est 0 sc)

/-- A thermal group is in SHUTDOWN. -/
def thmShutdown (s : State) : Bool := s.therm.gstate.any (· == 3)

/-- The operating point in effect: its index and its fields (R348, R350). -/
def opIndex (s : State) : Nat := s.cap.point
def pointVolt (s : State) (k d : Nat) : Nat :=
  if d = 0 then cfgF s (pwrO (Reg.PWR_OPA k)) 11 0 else if d = 1 then cfgF s (pwrO (Reg.PWR_OPA k)) 23 12
  else if d = 2 then cfgF s (pwrO (Reg.PWR_OPB k)) 11 0 else cfgF s (pwrO (Reg.PWR_OPB k)) 23 12
def pointFcap (s : State) (k : Nat) : Nat := cfgF s (pwrO (Reg.PWR_OPA k)) 31 24
def pointIdx (s : State) (k : Nat) : Nat := cfgF s (pwrO (Reg.PWR_OPB k)) 31 24
def opVolt (s : State) (d : Nat) : Nat := pointVolt s (opIndex s) d
def opFcap (s : State) : Nat := pointFcap s (opIndex s)

/-- The fault isolator presents a run of transactions, taken in the order of their stamps (R455, R467). Those of a takeover
are stamped 8 ticks after the fault (R129). -/
def presentIso (q : Nat) (txns : List Txn) (s : State) : State :=
  modRing q (fun r => { r with iso := txns.foldl (fun l t =>
    l.filter (fun x => decide (x.stamp ≤ t.stamp)) ++ t :: l.filter (fun x => decide (t.stamp < x.stamp))) r.iso }) s

def jobTxn (req stop : Nat) (job : Job) (stamp : Nat) : Txn :=
  { req := req, stop := stop, reg := 0, write := true, data := 0, opn := false, cls := false, stamp := stamp,
    job := job }

/-- A requester is reset, or its work in a quadrant abandoned: a locked sequence of its own is broken (R466). -/
def ownerResetIn (q r : Nat) (s : State) : State :=
  modRing q (fun x => { x with lock := x.lock.map (fun l => if l.owner = r then { l with reset := true } else l) }) s

def ownerReset (r : Nat) (s : State) : State := forEach (upto (quads s)) (fun q => ownerResetIn q r) s

/-- A fault of a requester, stamped `at0`: the locked sequences that it had open then are broken (R466). -/
def ownerFault (r at0 : Nat) (s : State) : State :=
  forEach (upto (quads s)) (fun q => modRing q (fun x =>
    { x with lock := x.lock.map (fun l => if l.owner = r && decide (l.from0 ≤ at0) then { l with reset := true } else l) })) s

/-- The transactions that a requester presents or holds back are withdrawn; what a withdrawn one leaves presented
is the next of its requester (R455, R468). -/
def ringWithdrawIn (q r : Nat) (s : State) : State :=
  modRing q (fun x =>
    { x with pres := x.pres.filter (fun t => t.req != r), queue := x.queue.filter (fun t => t.req != r) }) s

def ringWithdraw (r : Nat) (s : State) : State := forEach (upto (quads s)) (fun q => ringWithdrawIn q r) s

/-- The next transaction that a requester held back is presented (R455). -/
def promote (r t0 : Nat) (x : Ring) : Ring :=
  match x.queue.find? (fun t => t.req == r) with
  | some t => { x with pres := x.pres ++ [{ t with stamp := t0 }], queue := x.queue.erase t }
  | none => x

/-- What the rings hold of some of a requester's work is given up: presented or held back it is withdrawn, in progress its
write is discarded. -/
def dropJobs (r : Nat) (p : Job → Bool) (s : State) : State :=
  forEach (upto (quads s)) (fun q s => modRing q (fun x =>
    let y := { x with pres := x.pres.filter (fun t => !p t.job), queue := x.queue.filter (fun t => !p t.job),
                      voidWr := x.voidWr || (x.current.map (fun t => p t.job)).getD false }
    if y.pres.length = x.pres.length then y else promote r (now s) y) s) s

/-- A requester from 0 to 6 presents a transaction, or keeps it behind the one it presents (R455). -/
def ringAsk (q : Nat) (t : Txn) (s : State) : State :=
  modRing q (fun r =>
    if r.pres.any (fun x => x.req == t.req) then { r with queue := r.queue ++ [t] }
    else { r with pres := r.pres ++ [{ t with stamp := now s }] }) s

end Sys2Proof.Machine
end

