-- ==== Sys2Proof/Machine/TimeBase.lean ====
section
/-! DEFINITION. The time base (R34 to R60): references and PLL, reads of the tick, self-timed engines with their
completions, overruns and slack. -/

namespace Sys2Proof.Machine

/-! ### Self-timed engines (R49 to R53) -/

/-- Engine classes of R477. -/
abbrev clsSector : Nat := 0
abbrev clsComp : Nat := 1
abbrev clsTally : Nat := 2
abbrev clsCap : Nat := 3
abbrev clsTherm : Nat := 4
abbrev clsArb : Nat := 5
abbrev clsFault : Nat := 6

def engKey (cls i : Nat) : Nat := cls * 4096 + i

/-- Ticks from start to latch (R49). -/
def latchTick (cls : Nat) : Nat := [30, 90, 1200, 20000, 1200000, 6, 8].getD cls 0

/-- The page that hosts an engine (R51); the fault manager's page has no such bit. -/
def engPage (cls i : Nat) : Option Nat :=
  [some (0x40 + i), some (0x20 + i), some 0x07, some 0x04, some 0x05, some 0x03, none].getD cls none

def eng0 : EngRun := { start := none, done := none, period := 0, ovr := [] }
def eng (s : State) (cls i : Nat) : EngRun := Store.get s.eng eng0 (engKey cls i)
def setEng (cls i : Nat) (e : EngRun) (s : State) : State := s.setEngs (Store.set s.eng eng0 (engKey cls i) e)

/-- The engine starts in this tick. -/
def engStart (cls i : Nat) (s : State) : State :=
  let e := eng s cls i
  setEng cls i { e with start := some (now s), done := none, period := e.period + 1 } s

/-- The engine reaches its latch tick in this tick. -/
def engDue (s : State) (cls i : Nat) : Bool := (eng s cls i).start.map (· + latchTick cls) == some (now s)

/-- The least slack recorded (R53): `TB_SLACK_SEC` for sector engines, `TB_SLACK_OTH` with the class for others. A slack
of 255 or more reads as none recorded, with class 0 (DESIGN CHOICE, log entry 18: R53 and R58 leave its class open). -/
def recordSlack (cls slack : Nat) (s : State) : State :=
  let v := Nat.min slack 255
  if cls = clsSector then
    when (decide (v < (live s (tbO Reg.TB_SLACK_SEC)).field 7 0)) (setField (tbO Reg.TB_SLACK_SEC) 7 0 v) s
  else
    when (decide (v < (live s (tbO Reg.TB_SLACK_OTH)).field 7 0))
      (setLive (tbO Reg.TB_SLACK_OTH) (BitVec.ofNat 32 (v + cls * 256))) s

/-- An overrun at the latch tick (R51, R52): the computation is abandoned, the sources are raised. -/
def overrun (cls i : Nat) (s : State) : State :=
  let e := eng s cls i
  let w := cfg s (tbO Reg.TB_OVRCTL)
  let kept := (e.period :: e.ovr).filter (fun p => e.period < p + w.field 23 16)
  let rpt := decide (w.field 7 0 ≤ kept.length)
  let s1 := setEng cls i { e with start := none, done := none, ovr := if rpt then [] else kept } s
  let s2 := raise Src.ENG_OVERRUN (engKey cls i) (recordSlack cls 0 (bump (tbO Reg.TB_OVR_CNT) s1))
  let s3 := match engPage cls i with
    | some p => pageFlt p 0 s2
    | none => s2
  when rpt (raise Src.ENG_OVERRUN_RPT (engKey cls i)) s3

/-- The latch of an engine: `commit` where its completion is stamped, overrun where it is not (R51). -/
def latch (cls i : Nat) (commit missed : State → State) (s : State) : State :=
  let e := eng s cls i
  if e.done.isSome then commit (setEng cls i { e with start := none, done := none } s)
  else missed (overrun cls i s)

/-- A completion is stamped (R44); one after the latch tick finds its computation abandoned. -/
def complete (cls i : Nat) (s : State) : State :=
  let e := eng s cls i
  match e.start with
  | some t0 =>
    if e.done.isNone && decide (now s ≤ t0 + latchTick cls) then
      recordSlack cls (t0 + latchTick cls - now s) (setEng cls i { e with done := some (now s) } s)
    else s
  | none => s

/-- The fault manager completes what is registered (R49, R497). -/
def completeFaults (s : State) : State :=
  let open' := s.flt.regq.filter (fun r => !r.done && decide (now s ≤ r.due))
  let s1 := s.setFlt { s.flt with regq := s.flt.regq.map (fun r => { r with done := r.done || decide (now s ≤ r.due) }) }
  open'.foldl (fun s r => recordSlack clsFault (r.due - now s) s) s1

def execEngineCompletion (e : EngineId) (s : State) :=
  act s true (match e with
    | .sector i => complete clsSector i s
    | .compensator d => complete clsComp d s
    | .tally => complete clsTally 0 s
    | .capLoop => complete clsCap 0 s
    | .thermal => complete clsTherm 0 s
    | .arbiter q => complete clsArb q s
    | .faultMgr => completeFaults s)

/-! ### References and PLL (R34 to R39) -/

/-- A window that meets R35. -/
def refMeets (w : RefWindow) : Bool := decide (w.gap < 32) && decide (8190 ≤ w.edges) && decide (w.edges ≤ 8194)

/-- The ticks of R37's 16 consecutive windows. -/
abbrev regainTicks : Nat := 16 * 65536

/-- Whether a reference is good under R35. -/
def refOk (s : State) (r : Ref) : Bool :=
  match r with
  | .a => s.tb.aOk
  | .b => s.tb.bOk
  | .bridge => s.tb.bridgeOk

def refSel (r : Ref) : Nat :=
  match r with
  | .a => 0
  | .b => 1
  | .bridge => 2

def setRef (r : Ref) (v : Bool) (s : State) : State :=
  match r with
  | .a => s.setTb { s.tb with aOk := v }
  | .b => s.setTb { s.tb with bOk := v }
  | .bridge => s.setTb { s.tb with bridgeOk := v }

/-- The reference named by `TB_REFCTL.PREF`. -/
def prefRef (s : State) : Ref := if cfgB s (tbO Reg.TB_REFCTL) 0 then .b else .a

/-- The tick at which a reference was last lost. -/
def refLostAt (s : State) (r : Ref) : Nat :=
  match r with
  | .a => s.tb.aLost
  | .b => s.tb.bLost
  | .bridge => s.tb.brLost

def setLostAt (r : Ref) (t : Nat) (s : State) : State :=
  match r with
  | .a => s.setTb { s.tb with aLost := t }
  | .b => s.setTb { s.tb with bLost := t }
  | .bridge => s.setTb { s.tb with brLost := t }

/-- A secondary that has not lost the bridge: it takes strobes from the bridge alone and may run on the forwarded
reference (R55 to R57). -/
def bridged (s : State) : Bool := s.bridge.role == 2 && !s.bridge.lost

/-- A good reference to switch to: the preferred one of A and B first, then at a secondary the forwarded one. -/
def goodRef (s : State) : Option Ref :=
  if refOk s (prefRef s) then some (prefRef s)
  else if s.tb.aOk then some .a else if s.tb.bOk then some .b
  else if bridged s && s.tb.bridgeOk then some .bridge else none

/-- The PLL switches to a reference and locks to it; the switch is counted. A lock that ends holdover counts too, also on
the reference used before (DESIGN CHOICE, log entry 18: R58 does not say). -/
def switchRef (r : Ref) (s : State) : State :=
  bump (tbO Reg.TB_FAILOVERS) (s.setTb { s.tb with sel := refSel r, lock := true })

/-- No reference is left (R38). `LOCK` stays as it was (DESIGN CHOICE, log entry 18: R59 does not say what it reads in
holdover). -/
def holdOver (s : State) : State :=
  raise Src.TB_HOLDOVER 0 (s.setTb { s.tb with hold := true, holdAt := now s, sel := 3 })

/-- A reference is lost (R36, R38, R39). -/
def loseRef (r : Ref) (s : State) : State :=
  let s1 := setLostAt r (now s) (setRef r false s)
  if s.tb.sel = refSel r then
    match goodRef s1 with
    | some o => raise Src.TB_REF_LOST 0 (switchRef o s1)
    | none => holdOver s1
  else raise Src.TB_REF_LOST 0 s1

/-- A good reference shows what R35 calls a loss: 32 ticks without an edge, or a window outside its count. -/
def execTbRefLost (x : RefLoss) (s : State) := act s (refOk s x.ref && !refMeets x.window) (loseRef x.ref s)

/-- A reference is good again (R37, R38): holdover ends on it, or the PLL reverts to the preferred one. The forwarded
reference serves only a secondary that holds the bridge (R57). -/
def regainRef (r : Ref) (s : State) : State :=
  let s1 := setRef r true s
  if s.tb.hold && (r != .bridge || bridged s) then
    switchRef r (s1.setTb { s1.tb with hold := false, expired := false, goodAt := now s })
  else if cfgB s (tbO Reg.TB_REFCTL) 1 && prefRef s == r && s.tb.sel != 2 && s.tb.sel != refSel r && s.boot.lockAt.isSome then
    switchRef r s1
  else s1

/-- Sixteen windows that meet R35 have passed since the loss. -/
def execRefGoodAgain (x : RefReturn) (s : State) :=
  act s (!refOk s x.ref && x.windows.length == 16 && x.windows.all refMeets &&
    decide (refLostAt s x.ref + regainTicks ≤ now s)) (regainRef x.ref s)

/-- Holdover has lasted its time. -/
def holdoverDue (s : State) : Bool :=
  s.tb.hold && !s.tb.expired && decide (s.tb.holdAt + msTicks (cfgF s (tbO Reg.TB_HOLDOVER) 9 0) ≤ now s)

/-- A reference good again in the tick of the expiry is in time (R45). -/
def execTbHoldoverExpired (s : State) := act s (holdoverDue s) (expire .holdover s)

def holdoverOver (s : State) : State :=
  when (holdoverDue s) (fun s => raise Src.TB_HOLDOVER_EXPIRED 0 (s.setTb { s.tb with expired := true })) s

/-- The PLL loses lock while its reference is good (R39). The counter and the timers run on (log entry 6). -/
def execTbPllUnlock (s : State) :=
  act s (s.tb.lock && !s.tb.hold) (raise Src.TB_PLL_UNLOCK 0 (s.setTb { s.tb with lock := false }))

/-- `TB_REFSTAT` (R59). -/
def refStat (s : State) : Word :=
  BitVec.ofNat 32 (b2n s.tb.aOk + 2 * b2n s.tb.bOk + 4 * s.tb.sel + 16 * b2n s.tb.lock + 32 * b2n s.tb.hold +
    64 * b2n s.tb.expired)

/-! ### Reads of the tick and of the slack (R41, R53) -/

def tickLo (s : State) : Word := s.tb.tick.setWidth 32
def tickHi (s : State) : Word := (s.tb.tick >>> 32).setWidth 32

/-- A 32-bit read of `TB_TICK_LO` captures the upper half for its port. -/
def capture (p : Port) (s : State) : State :=
  match p with
  | .fabric => s.setTb { s.tb with heldFab := some (tickHi s) }
  | .i3c => s.setTb { s.tb with heldI3c := some (tickHi s) }

/-- What a read of `TB_TICK_HI` returns, and the state after it. -/
def readTickHi (p : Port) (s : State) : Word × State :=
  match p with
  | .fabric => (s.tb.heldFab.getD (tickHi s), s.setTb { s.tb with heldFab := none })
  | .i3c => (s.tb.heldI3c.getD (tickHi s), s.setTb { s.tb with heldI3c := none })

def okWord (a : Access) (w : Word) (s : State) : State := respond a (.ok (w.setWidth 128)) s

def execTbTickLoRead (a : Access) (wide : Bool) (s : State) :=
  act s (reaches s a)
    (if wide then respond a (.ok (s.tb.tick.setWidth 128)) s else okWord a (tickLo s) (capture a.port s))

def execTbTickHiRead (a : Access) (s : State) :=
  act s (reaches s a) (okWord a (readTickHi a.port s).1 (readTickHi a.port s).2)

def execTbSlackRead (a : Access) (other : Bool) (s : State) :=
  let off := if other then tbO Reg.TB_SLACK_OTH else tbO Reg.TB_SLACK_SEC
  act s (reaches s a) (okWord a (live s off) (setLive off 0xFF s))

end Sys2Proof.Machine
end

