-- ==== Sys2Proof/Machine/Sources.lean ====
section
/-! DEFINITION. How a fault source acts (R475 to R480): its severity, whether its chapter gives a containment, the ring
requester that it belongs to. -/

namespace Sys2Proof.Machine

/-- The severity set for a source; two sources act at most at 2 (R476). -/
def sevOf (s : State) (src : Nat) : Nat :=
  let v := cfgF s (fltO (Reg.FLT_SEV (src / 8))) (4 * (src % 8) + 2) (4 * (src % 8))
  if src = Src.FLT_ALERT_WRITE || src = Src.FLT_RECOVERY_HELD then Nat.min v 2 else v

/-- The sources whose chapter gives a containment, the isolation or replacement of a unit of R429: references (R36), sector
engines (R163), legs (R100), cells (R113, R130, R441), cluster sensors (R116), stage channels (R287), converters (R316),
diodes (R332), flash sectors (R523). Any other acts at severity 3 as alert (R480, R52). -/
def contains3 (src det : Nat) : Bool :=
  src == Src.TB_REF_LOST || (src == Src.ENG_OVERRUN_RPT && det / 4096 == clsSector) || (16 ≤ src && src ≤ 21) ||
  src == Src.CLU_SPARE_TIMEOUT || src == Src.CLU_SENSOR_DISAGREE || src == Src.SEC_ENG_FAULT || (55 ≤ src && src ≤ 57) ||
  (64 ≤ src && src ≤ 66) || src == Src.THM_DIODE_FAIL || src == Src.CAL_SECTOR_RETIRED

/-- The severity that acts (R480). -/
def acting (s : State) (src det : Nat) : Nat :=
  let v := sevOf s src
  if v = 3 && !contains3 src det then 2 else v

/-- The ring requester that a source belongs to (R456, R466). -/
def sourceOwner (src det : Nat) : Option Nat :=
  if src = Src.CELL_RETRIM_FAIL then some 1
  else if 96 ≤ src && src ≤ 98 then some 2
  else if 42 ≤ src && src ≤ 46 then some 3
  else if 72 ≤ src && src ≤ 80 then some 4
  else if src = Src.CLU_ROTATE_ABORT then some 5
  else if src = Src.ENG_OVERRUN || src = Src.ENG_OVERRUN_RPT then
    if det / 4096 = clsTally then some 3 else if det / 4096 = clsTherm then some 4 else none
  else none

/-- A fault of a ring requester that acts at severity 3 or above is registered and not yet latched, from `from0` on (R466). -/
def faultComing (s : State) (owner from0 : Nat) : Bool :=
  s.flt.regq.any (fun r => sourceOwner r.src r.det == some owner && decide (3 ≤ acting s r.src r.det) && decide (from0 ≤ r.at0))

end Sys2Proof.Machine
end

