-- ==== Sys2Proof/Machine/Plan.lean ====
section
/-! DEFINITION. `REGION_MAP` (R27, R29) and the seating plan's tables (R401 to R411): the built-in default plan,
entries, translation, and the lookup port's answers. -/

namespace Sys2Proof.Machine

/-! ### `REGION_MAP` (R27 to R29) -/

/-- The sector of each domain's ordinal (R29): LOGIC `j`, ARRAY `a`, LINK `l`, MIF `m`. -/
def logicSec (j : Nat) : Nat := 16 * (j / 12) + j % 12
def arraySec (a : Nat) : Nat := 16 * (a / 2) + 12 + a % 2

/-- Units of each kind in the build (R29): 0 tiles, 1 bank groups, 2 lane groups, 3 memory-interface slices. -/
def unitCount (p : Params) (kind : Nat) : Nat :=
  let q := p.build.sectors / 16
  match p.regionMap with
  | .reference => [252 * q, 32 * q, 4 * q, 4 * q].getD kind 0
  | .table t g l m => ([t, g, l, m].getD kind []).length

/-- The global cluster that feeds a unit; none beyond `REGION_MAP`. -/
def unitCluster (p : Params) (kind index : Nat) : Option Nat :=
  if unitCount p kind ≤ index then none
  else match p.regionMap with
    | .reference =>
      if kind = 0 then some (4 * logicSec (index / 21) + Nat.min ((index % 21) / 5) 3)
      else if kind = 1 then some (4 * arraySec (index / 16) + (index % 16) / 4)
      else if kind = 2 then some (4 * (16 * (index / 4) + 14) + index % 4)
      else some (4 * (16 * (index / 4) + 15) + index % 4)
    | .table t g l m => ([t, g, l, m].getD kind [])[index]?

/-- The units of a kind that a sector feeds, in ascending order. -/
def sectorUnits (p : Params) (kind sc : Nat) : List Nat :=
  match p.regionMap with
  | .reference =>
    if kind = 0 then
      if domOf sc = 0 then (upto 21).map (fun i => 21 * (12 * (sc / 16) + sc % 16) + i) else []
    else if kind = 1 then
      if domOf sc = 1 then (upto 16).map (fun k => 16 * (2 * (sc / 16) + (sc % 16 - 12)) + k) else []
    else if kind = 2 then (if domOf sc = 2 then (upto 4).map (fun c => 4 * (sc / 16) + c) else [])
    else (if domOf sc = 3 then (upto 4).map (fun c => 4 * (sc / 16) + c) else [])
  | .table _ _ _ _ => (upto (unitCount p kind)).filter (fun i => (unitCluster p kind i).map (· / 4) == some sc)

/-- The cluster of a physical tile; the global cluster 0 for one beyond the map, which no plan names. -/
def tileCluster (p : Params) (t : Nat) : Nat := (unitCluster p 0 t).getD 0

/-- Physical banks of a group (R405): 51. -/
abbrev groupBanks : Nat := 51
/-- The bank group of a physical bank, and a group's physical banks. -/
def bankGroup (b : Nat) : Nat := b / groupBanks
def banksOf (g : Nat) : List Nat := (upto groupBanks).map (fun i => groupBanks * g + i)
def groupCount (p : Params) : Nat := unitCount p 1

/-- Physical units of a placed kind. -/
def physCount (p : Params) (k : UnitKind) : Nat :=
  match k with
  | .tile => unitCount p 0
  | .bank => groupBanks * groupCount p

/-- The cluster that feeds a physical unit of the plan. -/
def physCluster (p : Params) (k : UnitKind) (i : Nat) : Option Nat :=
  match k with
  | .tile => unitCluster p 0 i
  | .bank => unitCluster p 1 (bankGroup i)

/-! ### The built-in default plan (R405) -/

/-- Tiles that serve by default, in the order of their logical tiles. -/
def servingTiles (p : Params) : List Nat :=
  (upto (p.build.sectors / 16 * 12)).foldl (fun l j =>
    let ts := sectorUnits p 0 (logicSec j)
    l ++ ts.take (ts.length - p.tileSpares)) []

/-- The physical tile of a logical tile by default, and the other way. In the reference map both are arithmetic. -/
def defTilePhys (p : Params) (t : Nat) : Option Nat :=
  match p.regionMap with
  | .reference =>
    let n := 21 - p.tileSpares
    if n = 0 then none
    else if t / n < p.build.sectors / 16 * 12 then some (21 * (t / n) + t % n) else none
  | .table _ _ _ _ => (servingTiles p)[t]?

def defTileLog (p : Params) (i : Nat) : Option Nat :=
  match p.regionMap with
  | .reference =>
    let n := 21 - p.tileSpares
    if i % 21 < n && decide (i < unitCount p 0) then some (n * (i / 21) + i % 21) else none
  | .table _ _ _ _ => (servingTiles p).idxOf? i

def defBankPhys (p : Params) (b : Nat) : Option Nat :=
  let n := groupBanks - p.bankSpares
  if n = 0 then none else if b / n < groupCount p then some (groupBanks * (b / n) + b % n) else none

def defBankLog (p : Params) (i : Nat) : Option Nat :=
  let n := groupBanks - p.bankSpares
  if i % groupBanks < n && decide (bankGroup i < groupCount p) then some (n * bankGroup i + i % groupBanks) else none

/-- Logical units of a kind that an entry exists for. -/
def logCount (k : UnitKind) : Nat := match k with | .tile => 1024 | .bank => 8192

/-- `VALID` with `PHYS`. -/
def mapped (phys : Nat) : Word := BitVec.ofNat 32 (phys + 0x8000)

/-- The default logical and physical entries (R403). -/
def defLog (p : Params) (k : UnitKind) (i : Nat) : Word :=
  if logCount k ≤ i then 0
  else match (match k with | .tile => defTilePhys p i | .bank => defBankPhys p i) with
    | some x => mapped x
    | none => 0

def physEntry (role logical : Nat) : Word := BitVec.ofNat 32 (role + 0x10000 * logical)

def defPhys (p : Params) (k : UnitKind) (i : Nat) : Word :=
  if physCount p k ≤ i then 0
  else match (match k with | .tile => defTileLog p i | .bank => defBankLog p i) with
    | some l => if l < logCount k then physEntry 1 l else physEntry 2 0
    | none => physEntry 2 0

/-! ### Entries -/

def modPlan (f : Plan → Plan) (s : State) : State := s.setPlan (f s.plan)

def logEntry (s : State) (k : UnitKind) (i : Nat) : Word :=
  Store.get (match k with | .tile => s.plan.tiles | .bank => s.plan.banks) (defLog s.params k i) i

def setLog (k : UnitKind) (i : Nat) (w : Word) (s : State) : State :=
  match k with
  | .tile => modPlan (fun p => { p with tiles := Store.set p.tiles (defLog s.params k i) i w }) s
  | .bank => modPlan (fun p => { p with banks := Store.set p.banks (defLog s.params k i) i w }) s

def physWord (s : State) (k : UnitKind) (i : Nat) : Word :=
  Store.get (match k with | .tile => s.plan.ptiles | .bank => s.plan.pbanks) (defPhys s.params k i) i

def setPhys (k : UnitKind) (i : Nat) (w : Word) (s : State) : State :=
  match k with
  | .tile => modPlan (fun p => { p with ptiles := Store.set p.ptiles (defPhys s.params k i) i w }) s
  | .bank => modPlan (fun p => { p with pbanks := Store.set p.pbanks (defPhys s.params k i) i w }) s

/-- An entry of the previous plan; zero while none is kept (R402). -/
def prevEntry (s : State) (k : UnitKind) (i : Nat) : Word :=
  if s.plan.kept then Store.get (match k with | .tile => s.plan.prevT | .bank => s.plan.prevB) (defLog s.params k i) i
  else 0

/-- `ROLE` and `LOGICAL` of a physical unit (R403). -/
def role (s : State) (k : UnitKind) (i : Nat) : Nat := (physWord s k i).field 2 0
def roleLog (s : State) (k : UnitKind) (i : Nat) : Nat := (physWord s k i).field 28 16
def setRole (k : UnitKind) (i r logical : Nat) (s : State) : State := setPhys k i (physEntry r logical) s

/-- Fields of a logical entry. -/
def entryPhys (w : Word) : Nat := w.field 12 0
def entryValid (w : Word) : Bool := w.bit 15
def entryPin (w : Word) : Bool := w.bit 16
def entryRes (w : Word) : Bool := w.bit 17
def entryOwner (w : Word) : Nat := w.field 31 24

/-! ### Translation (R215, R411, R558) -/

def planEpoch (s : State) : Nat := s.plan.epoch
def prevKept (s : State) : Bool := s.plan.kept

/-- The physical tile a logical tile sits on, in the current and in the previous plan. -/
def planTile (s : State) (t : Nat) : Option Nat :=
  let w := logEntry s .tile t
  if entryValid w then some (entryPhys w) else none
def prevTile (s : State) (t : Nat) : Option Nat :=
  let w := prevEntry s .tile t
  if entryValid w then some (entryPhys w) else none

/-- A tile serves (check 5 of R214, R418). -/
def tileServes (s : State) (t : Nat) : Bool := role s .tile t == 1

/-- The placed kind whose units a cluster feeds: banks for ARRAY, tiles otherwise. -/
def cluKind (g : Nat) : UnitKind := if domOf (g / 4) = 1 then .bank else .tile

/-- The physical units of its kind that a cluster feeds. -/
def cluUnits (p : Params) (g : Nat) : List Nat :=
  match cluKind g with
  | .tile => (sectorUnits p 0 (g / 4)).filter (fun i => unitCluster p 0 i == some g)
  | .bank => ((sectorUnits p 1 (g / 4)).filter (fun i => unitCluster p 1 i == some g)).foldl (fun l k => l ++ banksOf k) []

/-- The units that a cluster serves (R417). -/
def cluServing (s : State) (g : Nat) : List Nat := (cluUnits s.params g).filter (fun i => role s (cluKind g) i == 1)

/-- The answer that the current plan gives (R411, R558). Until the first LOAD ends there is no plan. -/
def lookup (s : State) (k : UnitKind) (index epoch : Nat) : LookupAns :=
  if !s.plan.ready then ⟨0, false, 0, false⟩
  else
    let old := s.plan.kept && epoch == s.plan.prev && epoch != s.plan.epoch
    let w := if old then prevEntry s k index else logEntry s k index
    ⟨entryPhys w, entryValid w, if old then s.plan.prev else s.plan.epoch, s.plan.reverted⟩

/-- A port takes one query per tick (R558); the reference fixes the number of ports. -/
def execLookupQuery (port : Nat) (k : UnitKind) (index : BitVec 13) (epoch : BitVec 8) (s : State) :=
  act s (decide (port < s.params.lookupPorts) && !s.seat.pend.any (fun l => l.port == port && l.due == now s + 3))
    (s.setSeat { s.seat with pend := s.seat.pend ++ [⟨port, now s + 3, k, index.toNat, epoch.toNat, none⟩] })

/-- At the end of a tick its queries have their answers, from the plan that any flip of the tick has left current (R408,
R558). -/
def formAnswers (s : State) : State :=
  if s.seat.pend.isEmpty then s
  else s.setSeat { s.seat with pend := s.seat.pend.map (fun l =>
    if l.answer.isSome then l else { l with answer := some (lookup s l.kind l.index l.epoch) }) }

def execLookupAnswer (port : Nat) (s : State) :=
  match s.seat.pend.find? (fun l => l.port == port) with
  | some l =>
    act s (l.due == now s)
      (s.setSeat { s.seat with pend := s.seat.pend.filter (fun x => !(x.port == port && x.due == l.due)),
                               answers := match l.answer with
                                 | some a => s.seat.answers.put port a
                                 | none => s.seat.answers })
  | none => act s false s

end Sys2Proof.Machine
end

