-- ==== Sys2Proof/Machine/Cells.lean ====
section
/-! DEFINITION. Cells and clusters (R99 to R138, R581): leg sparing, cell faults and isolation, the takeover of
R129, cell commands, and the trim writes of R103. -/

namespace Sys2Proof.Machine

/-! ### A cluster and its cells -/

def cluCells (g : Nat) : List Nat := (upto 16).map (fun k => 16 * g + k)
/-- The sector, page, quadrant and domain of a cluster (R8, R18). -/
def cluSec (g : Nat) : Nat := g / 4
def cluPage (g : Nat) : Nat := 0x80 + g / 4
def cluQuad (g : Nat) : Nat := g / 64
def cluDom (g : Nat) : Nat := domOf (g / 4)
/-- A cluster's words: `o` is the offset of cluster 0's word and `st` the step between clusters (R133). -/
def cluReg (g o st : Nat) : Nat := cluO (g / 4) (o + st * (g % 4))

def inState (s : State) (g : Nat) (p : CellState → Bool) : List Nat :=
  (cluCells g).filter (fun n => p (cell s n).state)
def regulating (s : State) (g : Nat) : List Nat := inState s g (· == .regulate)
def inDuty (s : State) (g : Nat) : List Nat := inState s g (fun x => x == .start || x == .regulate)
def standbys (s : State) (g : Nat) : List Nat := inState s g (· == .standby)
/-- Cells not in ISOLATED or RETEST (R581). -/
def sound (s : State) (g : Nat) : List Nat := inState s g (fun x => x != .isolated && x != .retest)

/-- `CLU_STATc.ACTIVE`, as R581 gives it: `CAP` follows it, so that a spare counts from its START, and not only from the
REGULATE that R129 names (DESIGN CHOICE, log entry 21: R581 and R134 count START, R129 says when the spare enters
REGULATE). -/
def cluActive (s : State) (g : Nat) : Nat :=
  if (clu s g).enabled then (inDuty s g).length else Nat.min (sound s g).length 15

/-- `CLU_STATc.SPARE_AVAIL`, as R581 gives it. -/
def cluSpare (s : State) (g : Nat) : Bool :=
  if (clu s g).enabled then !(standbys s g).isEmpty
  else
    let des := (cluCells g).filter (fun n => (cell s n).spdes)
    !des.isEmpty && decide (15 ≤ ((sound s g).filter (fun n => !(cell s n).spdes)).length)

/-- Insertion of a number into a rising list. -/
def insertNat (x : Nat) : List Nat → List Nat
  | [] => [x]
  | y :: r => if x ≤ y then x :: y :: r else y :: insertNat x r

def sortNat (l : List Nat) : List Nat := l.foldr insertNat []

/-- The value at position ⌊(n − 1) / 2⌋ of the sorted list (R108); 0 where there is none. -/
def median (l : List Nat) : Nat := (sortNat l).getD ((l.length - 1) / 2) 0

/-- The per-leg conductance of a cell in use, UQ1.15 S (R118). -/
def trimOf (s : State) (n : Nat) : Nat := cfgF s (cluO (n / 64) (Reg.CLU_GTRIM (n % 64))) 15 0

/-- G of R118: the sum over cells in START or REGULATE of leg count times trim, in units of 2^-15 S. -/
def conductance (s : State) (g : Nat) : Nat :=
  (inDuty s g).foldl (fun t n => t + (cell s n).legs * trimOf s n) 0

/-! ### Schuss (R121 to R128) -/

/-- Schuss releases: the event's duration is loaded and `CLKSTR` drops (R124, R128). The tick of the release is not one of
Schuss's own: the last one is the tick before it (DESIGN CHOICE, log entry 50: R107 does not say). -/
def releaseSchuss (g : Nat) (s : State) : State :=
  let c := clu s g
  if c.schuss = .idle then s
  else
    let dur := now s - c.tripAt
    let s1 := setLive (cluReg g 0x218 32) (BitVec.ofNat 32 dur) s
    let s2 := when (decide ((live s1 (cluReg g 0x21C 32)).toNat < dur))
      (setLive (cluReg g 0x21C 32) (BitVec.ofNat 32 dur)) s1
    setClu g { c with schuss := .idle, stretch := false, releaseAt := some (now s),
                      activeAt := some (Nat.max c.tripAt (now s - 1)) } s2

/-- A cluster with no cell left in REGULATE releases Schuss in that tick (R124). -/
def schussCheck (g : Nat) (s : State) : State :=
  if (regulating s g).isEmpty then releaseSchuss g s else s

/-- A droop trip (R122, R123, R125): FORCE, all legs of the regulating cells on; a new event from idle. `STR_EN` is taken at
the event's first trip and holds to its release (DESIGN CHOICE, log entry 50: R123 does not say what a change of it does
during an event). -/
def droopEffect (g : Nat) (s : State) : State :=
  let c := clu s g
  let s1 := (regulating s g).foldl (fun s n => modCell n (fun x => { x with legs := 64 }) s) s
  match c.schuss with
  | .force => s
  | .hold => modClu g (fun c => { c with schuss := .force, lastTrip := some (now s) }) s1
  | .idle =>
    raise Src.SCHUSS_TRIP g (bump (cluReg g 0x214 32)
      (setClu g { c with schuss := .force, tripAt := now s, lastTrip := some (now s), longSaid := false,
                         stretch := cfgB s (cluReg g 0x040 16) 9 } s1))

/-- The droop comparator of a cluster is active (R121). -/
def droopActive (s : State) (g : Nat) : Bool :=
  cfgB s (cluReg g 0x040 16) 8 && !(regulating s g).isEmpty && decide (g < 4 * sectors s)

def execDroopTrip (g : Nat) (s : State) := act s (droopActive s g) (droopEffect g s)

def execSchussForceEnd (g : Nat) (inside : Bool) (s : State) :=
  act s ((clu s g).schuss == .force)
    (modClu g (fun c => { c with schuss := .hold, holdFrom := now s + if inside then 15 else 16 }) s)

def execSchussRelease (g : Nat) (s : State) :=
  act s ((clu s g).schuss == .hold && decide ((clu s g).holdFrom ≤ now s)) (releaseSchuss g s)

def execSchussLong (g : Nat) (s : State) :=
  act s ((clu s g).schuss != .idle && !(clu s g).longSaid &&
      decide ((clu s g).tripAt + usTicks (cfgF s (cluReg g 0x040 16) 22 16) < now s))
    (raiseOn Src.SCHUSS_LONG g (cluPage g) (1 + g % 4) (modClu g (fun c => { c with longSaid := true }) s))

/-! ### Beyond its spare, takeover, isolation -/

/-- The units a cluster serves when it goes beyond its spare are counted for R417. -/
def noteBeyond (g : Nat) (bad : Bool) (s : State) : State :=
  let b := s.seat.beyond
  if bad then (if (b.find g).isSome then s else s.setSeat { s.seat with beyond := b.put g ((cluServing s g).length, 0) })
  else s.setSeat { s.seat with beyond := b.del g }

/-- The condition of R131 judged afresh, raising `CLU_BEYOND_SPARE` on entering it. -/
def judgeBeyond (g : Nat) (s : State) : State :=
  let c := clu s g
  let bad := c.enabled && decide ((inDuty s g).length < 15) && (standbys s g).isEmpty
  let s1 := noteBeyond g bad (setClu g { c with beyond := bad } s)
  when (bad && !c.beyond) (raiseOn Src.CLU_BEYOND_SPARE g (cluPage g) (5 + g % 4)) s1

/-! #### Cells being brought in -/

/-- What a cell is being brought in for; what is in progress in the cluster of one kind. -/
def takeFor (c : Cluster) (n : Nat) : Option Takeover := c.takes.find? (fun t => t.spare == n)
def takeKind (c : Cluster) (k : TakeKind) : Option Takeover := c.takes.find? (fun t => t.kind == k)

/-- A cell begins to be brought in, in place of what it was being brought in for; or no longer is. -/
def putTake (t : Takeover) (g : Nat) (s : State) : State :=
  modClu g (fun c => { c with takes := c.takes.filter (fun x => x.spare != t.spare) ++ [t] }) s
def dropTake (g n : Nat) (s : State) : State :=
  modClu g (fun c => { c with takes := c.takes.filter (fun x => x.spare != n) }) s

/-- Cells in STANDBY that no takeover has yet called. -/
def callable (s : State) (g : Nat) : List Nat :=
  (standbys s g).filter (fun n => (takeFor (clu s g) n).map (·.kind) != some .takeover)

/-- The places of a cluster that are filled: its cells in START or REGULATE, and those in STANDBY on their way there. -/
def filled (s : State) (g : Nat) : Nat :=
  (inDuty s g).length + ((standbys s g).filter (fun n => (takeFor (clu s g) n).isSome)).length

/-- A takeover begins for a cell that left REGULATE, where a spare stands by (R129). -/
def beginTakeover (g n : Nat) (s : State) : State :=
  match (callable s g).head? with
  | none => s
  | some sp =>
    presentIso (cluQuad g) [jobTxn 7 (g % 64) (.markFailed n) (now s + 8),
                            jobTxn 7 (g % 64) (.startSpare g sp) (now s + 8)] (putTake ⟨sp, n, now s, .takeover⟩ g s)

/-- A bring-in completes as a takeover: the counters and the source of R129. -/
def takeoverDone (g n : Nat) (s : State) : State :=
  raise Src.CLU_SPARE_TAKEOVER g (bump (cluO (cluSec g) Reg.CLU_TAKEOVERS) (dropTake g n s))

/-- The sparing engine brings a cell in STANDBY into duty by the steps of R129 (R430). -/
def beginDuty (g n : Nat) (s : State) : State :=
  ringAsk (cluQuad g) (jobTxn 5 (g % 64) (.startSpare g n) (now s)) (putTake ⟨n, n, now s, .duty⟩ g s)

/-- A place of an enabled cluster is free, and a cell in STANDBY that nothing has called fills it (R430). -/
def fillDuty (g : Nat) (s : State) : State :=
  if (clu s g).enabled && decide (filled s g < 15) then
    match (standbys s g).filter (fun n => (takeFor (clu s g) n).isNone) with
    | n :: _ => beginDuty g n s
    | [] => s
  else s

/-- A trim on its way to a cell is not written: its ring transaction is withdrawn, or its write discarded. -/
def dropTrim (n : Nat) (s : State) : State :=
  dropJobs 1 (fun j => match j with
    | .trim m _ => m == n
    | _ => false) (s.setRegs { s.regs with trims := s.regs.trims.filter (fun t => t.cell != n) })

/-- A re-trim is abandoned when a regulating cell of its cluster faults: the cell trimmed stands by again with
its trim unchanged (R443). -/
def abandonRetrim (g : Nat) (s : State) : State :=
  match (clu s g).retest with
  | some r =>
    if r.retrim then
      modClu g (fun c => { c with retest := none })
        (modCell r.cell (fun x => { x with state := .standby, legs := 0, passWait := false, trimmed := false })
          (dropTrim r.cell s))
    else s
  | none => s

/-- What follows when cell `n` leaves REGULATE for ISOLATED: takeover by the spare (R129, R114), a rotation that
turns into a takeover (R440), a re-trim abandoned (R443). The takeover presents the run of R129: requester 7 marks the faulted
cell failed and, where the incoming cell still stands by, starts it. The 2,500 ticks of R130 go on from the rotation's start
(DESIGN CHOICE, log entry 21: R440 does not say whether t is then the tick of the fault). -/
def cellLost (g n : Nat) (s : State) : State :=
  let s1 := abandonRetrim g s
  match takeKind (clu s1 g) .rotation with
  | none => beginTakeover g n s1
  | some t =>
    let s2 := modClu g (fun c => { c with rotAt := powered s1 })
      (modCell t.spare (fun c => { c with spdes := false }) (putTake { t with kind := .takeover, outgoing := n } g s1))
    let run := jobTxn 7 (g % 64) (.markFailed n) (now s + 8) ::
      (if (cell s2 t.spare).state = .standby then [jobTxn 7 (g % 64) (.startSpare g t.spare) (now s + 8)] else [])
    let s3 := presentIso (cluQuad g) run (ownerResetIn (cluQuad g) 5 s2)
    if (cell s3 t.spare).state = .regulate then takeoverDone g t.spare s3 else s3

/-- A cell being brought in is lost to its cluster: the takeover or rotation ends in that tick (R130, R440). -/
def incomingLost (g n : Nat) (s : State) : State :=
  match takeFor (clu s g) n with
  | some t => fillDuty g (when (t.kind == .rotation)
      (fun s => ownerResetIn (cluQuad g) 5 (raise Src.CLU_ROTATE_ABORT g s)) (dropTake g n s))
  | none => s

/-- A rotation ends before its outgoing cell `n` has left REGULATE: that cell stays, and the incoming one stands by again,
for a cluster has no more than 15 cells in duty (R111, R440; DEDUCED, log entry 21). -/
def rotationDropped (g n : Nat) (s : State) : State :=
  match takeKind (clu s g) .rotation with
  | some t =>
    if t.outgoing = n then
      incomingLost g t.spare (when ((cell s t.spare).state == .regulate) (modCell t.spare (fun c => { c with state := .standby, legs := 0 })) s)
    else s
  | none => s

/-- An isolation counted in the cell's wear (R432). -/
def countIsolation (n : Nat) (s : State) : State :=
  setWear n { wear s n with isol := (wear s n).isol + 1 } s

/-- A cell enters ISOLATED (R113): legs off, header open, designation lost (R111). -/
def isolate (n cause : Nat) (s : State) : State :=
  let c := cell s n
  let g := n / 16
  let s1 := countIsolation n
    (setCell n { c with state := .isolated, legs := 0, cause := cause, spdes := false, passWait := false,
                        trimmed := false } s)
  let s2 := when (c.state == .start || c.state == .standby || c.state == .regulate) (incomingLost g n) s1
  let s3 := when (c.state == .regulate) (cellLost g n) s2
  schussCheck g (judgeBeyond g s3)

/-- The states in which a cell detects its faults, and those in which its header is closed (R112). -/
def detects (c : Cell) : Bool := c.state == .standby || c.state == .start || c.state == .regulate
def headerClosed (c : Cell) : Bool := c.state == .start || c.state == .regulate
def cellOk (s : State) (n : Nat) : Bool := decide (n < 64 * sectors s)

/-- A cell fault of R112: the source, the page's bit, isolation. -/
def cellFault (src n cause : Nat) (s : State) : State :=
  isolate n cause (raiseOn src n (0x80 + n / 64) 17 s)

/-- Step 1 of a retest runs on the cell, and its 64 legs are on: they come on 4 ticks after the step began (R441). -/
def retestLegs (s : State) (n : Nat) : Bool :=
  (cell s n).state == .retest && (match (clu s (n / 16)).retest with
    | some r => r.cell == n && r.step == 1 && decide (r.from0 + 4 ≤ now s)
    | none => false)

/-- The leg count of a cell: its own, or in step 1 of a retest that of the step. -/
def legCount (s : State) (n : Nat) : Nat := if retestLegs s n then 64 else (cell s n).legs

/-- A fifth leg is stuck off: a cell in duty faults (R100, R112), the procedure on a cell in RETEST fails in step 1
(R441). -/
def legsExhausted (n : Nat) (s : State) : State :=
  if headerClosed (cell s n) then cellFault Src.CELL_LEGS_EXHAUSTED n 2 s
  else modClu (n / 16) (fun c => { c with retest := c.retest.map (fun r => { r with bad := true }) }) s

/-- A leg found stuck off is spared (R100, R441); a fifth one is not. -/
def execLegStuckOff (n pos : Nat) (s : State) :=
  let c := cell s n
  act s (cellOk s n && ((headerClosed c && decide (pos < c.legs)) || (retestLegs s n && decide (pos < 64))))
    (if c.map.length + c.waiting.length < 4
     then setCell n { c with waiting := c.waiting ++ [(pos, now s)] } s
     else legsExhausted n s)

/-- Eight ticks after the detection the lowest unused spare leg takes the position (R100). -/
def execCellLegSpared (n : Nat) (s : State) :=
  let c := cell s n
  match c.waiting with
  | (pos, t) :: rest =>
    act s (cellOk s n && decide (t + 8 ≤ now s))
      (raise Src.CELL_LEG_SPARED n (setCell n { c with map := c.map ++ [pos], waiting := rest } s))
  | [] => act s false s

def execCellLegStuckOn (n : Nat) (s : State) :=
  act s (cellOk s n && headerClosed (cell s n)) (cellFault Src.CELL_LEG_STUCK_ON n 1 s)

def execCellOvercurrent (n : Nat) (s : State) :=
  act s (cellOk s n && headerClosed (cell s n)) (cellFault Src.CELL_OVERCURRENT n 3 s)

def execCellCmpConflict (n : Nat) (s : State) :=
  act s (cellOk s n && detects (cell s n)) (cellFault Src.CELL_CMP_CONFLICT n 4 s)

/-- One leg per step, up to 64 and down to 0 (R105); while Schuss forces the legs on, none (R122, R124). -/
def execCellStep (n : Nat) (side : Side) (s : State) :=
  act s (cellOk s n && (cell s n).state == .regulate && (clu s (n / 16)).schuss != .force)
    (modCell n (fun c => { c with legs := match side with
      | .below => if c.legs < 64 then c.legs + 1 else c.legs
      | .above => c.legs - 1 }) s)

/-- A cell in START enters REGULATE after 1,200 ticks; during FORCE at 64 legs (R109, R122). A takeover that
brought it in completes; a rotation moves the outgoing cell next (R129, R439). -/
def execCellStartDone (n : Nat) (s : State) :=
  let c := cell s n
  let g := n / 16
  let s1 := setCell n { c with state := .regulate, legs := if (clu s g).schuss = .force then 64 else c.legs } s
  let s2 := match takeFor (clu s g) n with
    | some t => match t.kind with
      | .takeover => takeoverDone g n s1
      | .duty => dropTake g n s1
      | .rotation => ringAsk (cluQuad g) (jobTxn 5 (g % 64) (.toStandby g t.outgoing) (now s)) s1
    | none => s1
  act s (cellOk s n && c.state == .start && decide (c.startAt + 1200 ≤ now s)) (judgeBeyond g s2)

/-- The spares of a cluster that are not in REGULATE by t + 2,500 (R130). -/
def lateSpares (s : State) (g : Nat) : List Nat :=
  ((clu s g).takes.filter (fun t => (cell s t.spare).state != .regulate && decide (t.at0 + 2500 ≤ now s))).map (·.spare)

/-- A spare that enters REGULATE in the tick of the limit is in time (R45). -/
def execCluSpareTimeout (g : Nat) (s : State) := act s (!(lateSpares s g).isEmpty) (expire (.spare g) s)

/-- A spare late at the end of the tick is isolated with cause 5. -/
def spareOver (g : Nat) (s : State) : State :=
  (lateSpares s g).foldl (fun s n =>
    when ((lateSpares s g).contains n) (fun s => isolate n 5 (raise Src.CLU_SPARE_TIMEOUT g s)) s) s

/-- The incoming cell enters START with the median of the last tick 0 and loses its designation (R129, R111). -/
def startSpare (g n : Nat) (s : State) : State :=
  match takeFor (clu s g) n with
  | some t =>
    if (cell s n).state = .standby then
      judgeBeyond g (setCell n { cell s n with state := .start, legs := (clu s g).legMed, startAt := now s,
                                               spdes := t.kind == .rotation && (cell s n).spdes } s)
    else s
  | none => s

/-- A cell enters STANDBY; in an enabled cluster with a place free it is brought into duty at once (R430). It
takes the designation as R111 gives for a retest pass. -/
def enterStandby (g n : Nat) (s : State) : State :=
  let others := (inDuty s g).filter (· != n)
  let none' := !(cluCells g).any (fun m => (cell s m).spdes)
  let s1 := setCell n { cell s n with state := .standby, legs := 0, passWait := false, trimmed := false,
                                      spdes := (cell s n).spdes || (none' && decide (15 ≤ others.length)) } s
  judgeBeyond g (fillDuty g s1)

/-- Chairlift enables a cluster (R111, R196): its cells go to START, from OFF with the preset leg count and from STANDBY with
the median of the last tick 0 (R109), the designated one to STANDBY where 15 others are in START. A cell in STANDBY without
the designation starts like those in OFF, after them. A sixteenth cell of a cluster that has no designation goes to STANDBY without it (DESIGN CHOICE, log entry 21: R111
lets no more than 15 start and does not say what becomes of it). -/
def enableCluster (g preset : Nat) (s : State) : State :=
  let toStart := fun (s : State) (n : Nat) =>
    setCell n { cell s n with state := .start, legs := if (cell s n).state = .standby then (clu s g).legMed else preset,
                              startAt := now s, spdes := false } s
  let toStandby := fun (s : State) (n : Nat) => setCell n { cell s n with state := .standby, legs := 0 } s
  let plain := inState s g (· == .off) ++ inState s g (· == .standby)
  let free := plain.filter (fun n => !(cell s n).spdes)
  let s1 := (free.drop 15).foldl toStandby ((free.take 15).foldl toStart s)
  let s2 := (plain.filter (fun n => (cell s n).spdes)).foldl (fun s n =>
    if 15 ≤ (inDuty s g).length then toStandby s n else toStart s n) s1
  judgeBeyond g (modClu g (fun c => { c with enabled := true, takes := [] }) s2)

/-- Every cell in START, REGULATE or STANDBY goes to OFF, with its designation (R110, R200). A rotation then ends without
completing (R448). -/
def cellsOff (g : Nat) (s : State) : State :=
  let s1 := (cluCells g).foldl (fun s n =>
    if detects (cell s n) then setCell n { cell s n with state := .off, legs := 0 } s else s)
    (when (takeKind (clu s g) .rotation).isSome
      (fun s => ownerResetIn (cluQuad g) 5 (raise Src.CLU_ROTATE_ABORT g s)) s)
  let s2 := judgeBeyond g (modClu g (fun c => { c with enabled := false, takes := [], ff := 0 }) s1)
  schussCheck g s2

/-! ### Sensors (R115 to R117) -/

/-- Sensor retirement by the voltage tap (R116): the sensor farther from it goes, on a tie B. -/
def retireSensor (g tap : Nat) (s : State) : State :=
  let c := clu s g
  if c.tapWait then
    let sp := (sec s (cluSec g)).sp
    let dist := fun (code : Nat) => ((sp : Int) + 4 * ((code : Int) - 64) - tap).natAbs
    let dropA := decide (dist c.codeB < dist c.codeA)
    raise Src.CLU_SENSOR_DISAGREE g (setClu g { c with
      tapWait := false, disRun := 0, aFail := c.aFail || dropA, bFail := c.bFail || !dropA, sensB := dropA } s)
  else s

/-- The sensors of a cluster disagree, and it asks for its tap: at tick 0, and again at each tick 0 where the request was
refused (R116, R311). -/
def sensorsDiffer (s : State) (g : Nat) : Bool :=
  let c := clu s g
  decide (g < 4 * sectors s) && atTick s controlP 0 && !c.aFail && !c.bFail && !c.tapWait &&
    decide (cfgF s (cluReg g 0x044 16) 11 8 ≤ c.disRun)

def askTap (g : Nat) (s : State) : State :=
  urgentPush (cluQuad g) (g % 64) 0
    (when (urgentFits s (cluQuad g)) (modClu g (fun c => { c with tapWait := true })) s)

def execCluSensorDisagree (g : Nat) (s : State) := act s (sensorsDiffer s g) (askTap g s)

def execCluSensorLost (g : Nat) (s : State) :=
  let c := clu s g
  act s ((c.aFail != c.bFail) && decide (4 ≤ c.lostRun))
    (raiseOn Src.CLU_SENSOR_LOST g (cluPage g) (9 + g % 4)
      (setClu g { c with aFail := true, bFail := true } s))

/-- K from a current tap in 10 mA codes, with the M_raw of the control period that took the sample (R119).
`raw` is G × ΔV; M_raw is `raw` / 655,360 in 10 mA codes. -/
def updateK (g tap at0 : Nat) (s : State) : State :=
  let c := clu s g
  match c.raws.find? (fun r => decide (r.1 ≤ at0 && at0 < r.1 + controlP)) with
  | none => s
  | some (_, raw) =>
    if raw < 65536000 || cfgB s (cluReg g 0x048 16) 16 then s
    else
      let k := roundDiv (15 * (c.k : Int) * raw + (tap : Int) * 655360 * 16384) (16 * raw)
      let held := (clamp k 12288 20480).toNat
      when (decide (k < 12288 || 20480 < k)) (raiseOn Src.CLU_ITRIM_LIMIT g (cluPage g) (13 + g % 4))
        (setClu g { c with k := held } s)

/-! ### Trim writes (R103) -/

/-- Write a word of configuration to both copies with good parity, or inverted parity where an injection is
armed for the page (R83, R86). -/
def storeBoth (off : Nat) (w : Word) (s : State) : State :=
  let armed := (live s (genO Reg.GEN_PARINJ)).bit 8 && (live s (genO Reg.GEN_PARINJ)).field 7 0 == off / 0x1000
  let r := (setActive off w (setShadow off w s)).regs
  let clean := fun (l : List Nat) => l.filter (· != off)
  let s1 := s.setRegs { r with
    badShadow := if armed then off :: clean r.badShadow else clean r.badShadow
    badActive := if armed then off :: clean r.badActive else clean r.badActive }
  when armed (setField (genO Reg.GEN_PARINJ) 8 8 0) s1

/-- The TRIM record of a quadrant is to be written (R512). -/
def owedTrim (q : Nat) (s : State) : State :=
  if s.cal.owed.contains (3, q) then s else s.setCal { s.cal with owed := s.cal.owed ++ [(3, q)] }

/-- A trim write waits until its word has no pending host write, and takes effect at a control-period boundary.
A cell whose pass or re-trim waits for it then enters STANDBY (R103, R138, R441). -/
def execCluTrimWrite (n : Nat) (s : State) :=
  let off := cluO (n / 64) (Reg.CLU_GTRIM (n % 64))
  match s.regs.trims.find? (fun t => t.cell == n) with
  | none => act s false s
  | some t =>
    let s1 := s.setRegs { s.regs with trims := s.regs.trims.filter (fun t => t.cell != n) }
    let s2 := storeBoth off (BitVec.ofNat 32 t.value) s1
    let g := n / 16
    let retrim := match (clu s g).retest with
      | some r => r.retrim && r.cell == n
      | none => false
    let s3 := when retrim (fun s => bump (calO Reg.CAL_RETRIMS)
      (modClu g (fun c => { c with retest := none }) s)) s2
    let own := (cell s n).passWait || retrim
    let s4 := when own (fun s => owedTrim (n / 1024) (enterStandby g n s)) s3
    act s (atTick s controlP 0 && !(s.regs.pend.contains off)) s4

/-! ### Cell commands (R135, R444) -/

/-- The cell that an operand names on the CLU page of sector `sc`. -/
def cmdCell (sc : Nat) (k : BitVec 6) : Nat := 64 * sc + k.toNat

/-- Isolation by command: a cell in REGULATE goes through R113 and R129 without a source, a cell in STANDBY
leaves its cluster without a spare; no other state is left by it (R109, R135). -/
def cellIsolateCmd (n : Nat) (s : State) : State :=
  if (cell s n).state = .regulate || (cell s n).state = .standby then isolate n 6 s else s

/-- A retest begins on an ISOLATED cell (R444); another procedure on the cluster's load keeps it from beginning. It is
judged at its write and again when its transaction completes, so that of two accepted while the first is still on the ring
the second begins nothing and counts nothing (DESIGN CHOICE, log entry 50: R135 does not say). -/
def retestFits (s : State) (n : Nat) : Bool := (cell s n).state == .isolated && (clu s (n / 16)).retest == none

def cellRetestCmd (n : Nat) (s : State) : State :=
  when (retestFits s n) (fun s => setLive (cluO (n / 64) Reg.CLU_RETESTRES) (BitVec.ofNat 32 (n % 64))
    (modClu (n / 16) (fun c => { c with retest := some ⟨n, 1, now s, false, false, false⟩ })
      (modCell n (fun c => { c with state := .retest, passWait := false, trimmed := false }) s))) s

/-- The ended procedure's result shown for this cell: done, and passed. -/
def retestDone (s : State) (n : Nat) : Bool :=
  (cell s n).state == .retest && (match (clu s (n / 16)).retest with
    | some r => r.cell != n
    | none => true)
def retestPassed (s : State) (n : Nat) : Bool :=
  let w := live s (cluO (n / 64) Reg.CLU_RETESTRES)
  w.field 5 0 == n % 64 && w.bit 8 && w.bit 9

/-- A pass is accepted for a cell whose procedure passed: its measured trim is written through the ring by the
calibration sequencer, and the cell enters STANDBY after that write (R138, R444). While an accepted pass waits for that write a
second one is refused and counted; and a pass is judged again when its transaction completes, where it does nothing and counts
nothing if `CLU_RETESTRES` has come to name another cell (DESIGN CHOICE, log entry 50: R138 says neither). -/
def passFits (s : State) (n : Nat) : Bool := retestDone s n && retestPassed s n && !(cell s n).passWait

def cellPassCmd (n : Nat) (s : State) : State :=
  when (passFits s n) (fun s => ringAsk (cluQuad (n / 16)) (jobTxn 1 (n / 16 % 64)
      (.trim n ((live s (cluO (n / 64) Reg.CLU_RETESTRES)).field 31 16)) (now s))
    (modCell n (fun c => { c with passWait := true }) s)) s

/-- A fail command takes the cell back whatever the result, an accepted pass that still waits for its trim included. -/
def failFits (s : State) (n : Nat) : Bool := retestDone s n

def cellFailCmd (n : Nat) (s : State) : State := when (failFits s n) (fun s => isolate n 7 (dropTrim n s)) s

/-- Rotate into duty: a cell in STANDBY comes in by the steps of R129, for the most stressed regulating cell
where all 15 places are filled (R131, R430, R439). -/
def mostStressed (s : State) (g : Nat) : Option Nat :=
  (regulating s g).foldl (fun b n => match b with
    | none => some n
    | some m => if (wear s m).stress.lt (wear s n).stress then some n else some m) none

def beginRotation (g sp out : Nat) (s : State) : State :=
  ringAsk (cluQuad g) (jobTxn 5 (g % 64) (.startSpare g sp) (now s)) (putTake ⟨sp, out, now s, .rotation⟩ g s)

/-- While a cell of the cluster is being brought in the command does nothing (DESIGN CHOICE, log entry 50: R133 does not say
what it does then). -/
def cellRotateCmd (n : Nat) (s : State) : State :=
  let g := n / 16
  if (cell s n).state = .standby && (clu s g).enabled && (clu s g).takes.isEmpty then
    if (inDuty s g).length < 15 then beginDuty g n s
    else match mostStressed s g with
      | some out => beginRotation g n out s
      | none => s
  else s

/-- What a cell command does when its ring transaction completes (R133, R135). -/
def cellCmdEffect (op n : Nat) (s : State) : State :=
  if op = 1 then cellIsolateCmd n s else if op = 2 then cellRetestCmd n s else if op = 3 then cellPassCmd n s
  else if op = 4 then cellFailCmd n s else if op = 5 then cellRotateCmd n s else s

/-- `CLU_CELLCMD` (R135): refused outside the state that R109 requires, else carried by requester 0. -/
def cellCommand (sc op : Nat) (k : BitVec 6) (s : State) : State :=
  let n := cmdCell sc k
  let ok := if op = 2 then retestFits s n else if op = 3 then passFits s n else if op = 4 then failFits s n else true
  if op = 0 || decide (5 < op) then s
  else if ok then ringAsk (sc / 16) (jobTxn 0 (n / 16 % 64) (.cellCmd op n) (now s)) s
  else refuse (0x80 + sc) s

def cellCmdOk (s : State) (a : Access) (sc : Nat) : Bool := reaches s a && decide (sc < sectors s)

def execCluCellcmdIsolate (a : Access) (sc : Nat) (k : BitVec 6) (s : State) :=
  act s (cellCmdOk s a sc) (secureCmd a (cellCommand sc 1 k) s)
def execCluCellcmdRetest (a : Access) (sc : Nat) (k : BitVec 6) (s : State) :=
  act s (cellCmdOk s a sc) (secureCmd a (cellCommand sc 2 k) s)
def execCluCellcmdPass (a : Access) (sc : Nat) (k : BitVec 6) (s : State) :=
  act s (cellCmdOk s a sc) (secureCmd a (cellCommand sc 3 k) s)
def execCluCellcmdFail (a : Access) (sc : Nat) (k : BitVec 6) (s : State) :=
  act s (cellCmdOk s a sc) (secureCmd a (cellCommand sc 4 k) s)
def execCluCellcmdRotate (a : Access) (sc : Nat) (k : BitVec 6) (s : State) :=
  act s (cellCmdOk s a sc) (secureCmd a (cellCommand sc 5 k) s)

end Sys2Proof.Machine
end

