-- ==== Sys2Proof/Machine/Trail.lean ====
section
/-! DEFINITION. Trail (R207 to R231): forecast windows, acceptance, presentation, hits, misses, holds, flushes. -/

namespace Sys2Proof.Machine

def win0 : TrailWin := { slots := [], tail := 0, held := [] }
def win (s : State) (q : Nat) : TrailWin := Store.get s.trail win0 q
def setWin (q : Nat) (w : TrailWin) (s : State) : State := s.setTrail (Store.set s.trail win0 q w)
def modWin (q : Nat) (f : TrailWin → TrailWin) (s : State) : State := setWin q (f (win s q)) s

def slot (s : State) (q i : Nat) : Option Slot := (win s q).slots.find i
def setSlot (q i : Nat) (x : Slot) (s : State) : State := modWin q (fun w => { w with slots := w.slots.put i x }) s
def dropSlot (q i : Nat) (s : State) : State := modWin q (fun w => { w with slots := w.slots.del i }) s

/-- The number under which an engine knows a record: its quadrant and slot. -/
def slotKey (q i : Nat) : Nat := 256 * q + i

/-- The head: the oldest full slot, the tail when none is full (R211). -/
def trailHead (w : TrailWin) : Nat :=
  (((upto 256).map (fun k => (w.tail + k) % 256)).find? (fun i => (w.slots.find i).isSome)).getD w.tail

/-! ### The record (R207, R208) -/

structure Rec where
  w0 : Word
  w1 : Word
  w2 : Word
  w3 : Word
  deriving DecidableEq, Repr

def recOf (b : BitVec 128) : Rec :=
  ⟨b.setWidth 32, (b >>> 32).setWidth 32, (b >>> 64).setWidth 32, (b >>> 96).setWidth 32⟩
def Rec.tile (r : Rec) : Nat := r.w0.field 9 0
def Rec.kind (r : Rec) : Nat := r.w2.field 9 8
def Rec.malformed (r : Rec) : Bool :=
  r.w3.field 31 28 != 1 || r.w0.field 15 10 != 0 || r.w2.field 15 10 != 0 || r.w3.field 27 0 != 0 ||
  r.kind == 0 || r.kind == 3 || (r.kind == 1 && (decide (r.w1.field 15 0 < 250) || r.w1.field 31 16 == 0))

/-! ### The pre-raise (R220) -/

/-- The slots of a window that serve a sector. -/
def sectorSlots (s : State) (sc : Nat) : List (Nat × Slot) :=
  (win s (sc / 16)).slots.filter (fun x => x.2.sector == sc)

/-- The pre-raise target: the admitted amounts of the sector's OPEN and HELD records, limited by the `MAX` active
at the latest presentation among them. -/
def preTarget (s : State) (sc : Nat) : Int :=
  let on := (sectorSlots s sc).filter (fun x => x.2.admitted && (x.2.state == .opened || x.2.state == .held))
  let sum := on.foldl (fun t x => t + x.2.amount) 0
  let lim := (on.foldl (fun b x => if b.1 ≤ x.2.present then (x.2.present, x.2.limit) else b) (0, 80)).2
  if (lim : Int) < sum then lim else sum

/-- A new pre-raise target issued to Chairlift, which takes it at its next step, with the records whose amounts wait in it for
admission (R182, R220): those of `keys` join the ones of a target not yet taken. -/
def issuePre (sc : Nat) (keys : List Nat) (s : State) : State :=
  modSec sc (fun x => { x with cmdPre := some (preTarget s sc, (match x.cmdPre with
    | some (_, l) => l
    | none => []) ++ keys) }) s

/-- A removed amount lowers the target. -/
def retarget (sc : Nat) (s : State) : State := issuePre sc [] s

/-- Chairlift refused a rise: the record stays OPEN with no amount (R188, R220). -/
def preRefused (key : Nat) (s : State) : State :=
  match slot s (key / 256) (key % 256) with
  | some x => setSlot (key / 256) (key % 256) { x with admitted := false, amount := 0 } s
  | none => s

/-! ### Closing records -/

/-- A report to the engine at its next tick 0 (R222): a hit, or a miss or flush (`true`). -/
def report (sc key : Nat) (missed : Bool) (s : State) : State :=
  modSec sc (fun x => { x with reports := x.reports ++ [(key, missed)] }) s

/-- A record flushed: an OPEN one is reported to the engine; its amount is removed unless the cause leaves the
pre-raise channel to R201 (R222, R226). -/
def flushSlot (keepPre : Bool) (q i : Nat) (s : State) : State :=
  match slot s q i with
  | none => s
  | some x =>
    let s1 := bump (trailO (Reg.TRAIL_FLUSH q)) (dropSlot q i s)
    let s2 := when (x.state == .opened) (report x.sector (slotKey q i) true) s1
    when (!keepPre && (x.state == .opened || x.state == .held)) (retarget x.sector) s2

def flushWhere (keepPre : Bool) (q : Nat) (p : Slot → Bool) (s : State) : State :=
  ((win s q).slots.filter (fun x => p x.2)).foldl (fun s x => flushSlot keepPre q x.1 s) s

/-- Every record of a window, and every record of a sector (R226). -/
def flushWindow (keepPre : Bool) (q : Nat) (s : State) : State := flushWhere keepPre q (fun _ => true) s
def flushSector (sc : Nat) (s : State) : State := flushWhere false (sc / 16) (fun x => x.sector == sc) s

/-- A cancel closes every live record of its window with the same `TILE` and `SEQ` (R216). -/
def cancelRec (q : Nat) (r : Rec) (s : State) : State :=
  let hit := (win s q).slots.filter (fun x => x.2.w0.field 9 0 == r.tile && x.2.w2.field 31 16 == r.w2.field 31 16)
  let s1 := hit.foldl (fun s x => match x.2.state with
    | .opened => flushSlot false q x.1 s
    | .held => retarget x.2.sector (dropSlot q x.1 s)
    | _ => dropSlot q x.1 s) s
  if hit.isEmpty then bumpF (trailO (Reg.TRAIL_CANCEL q)) 31 16 s1
  else bumpF (trailO (Reg.TRAIL_CANCEL q)) 15 0 s1

/-! ### Acceptance (R213 to R216) -/

/-- The physical tile a record's logical tile names, through the plan its epoch calls for (R215); none where the
epoch is not usable. The inner option is none where the tile is unmapped. -/
def recTile (s : State) (r : Rec) : Option (Option Nat) :=
  let e := r.w0.field 23 16
  if e = planEpoch s then some (planTile s r.tile)
  else if (e + 1) % 256 = planEpoch s && prevKept s then some (prevTile s r.tile)
  else none

/-- A push as it reaches the block in this tick. -/
def arrived (s : State) (b : BitVec 128) : HeldPush :=
  ⟨b, now s, cfgF s (trailO Reg.TRAIL_PREPOS) 11 0, recTile s (recOf b)⟩

def dropForm (q : Nat) (s : State) : State :=
  raiseOn Src.TRAIL_FORM q 0x08 (5 + q) (bump (trailO (Reg.TRAIL_DFORM q)) s)

/-- A push accepted in this tick: counted, checked in the order of R214, and PENDING in the tail slot where every
check passes. -/
def acceptRec (q : Nat) (h : HeldPush) (s0 : State) : State :=
  let r := recOf h.word
  let s1 := bump (trailO (Reg.TRAIL_ARR q)) s0
  let s := when (r.kind != 2) (modWin q (fun w => { w with tail := (w.tail + 1) % 256 })) s1
  let at0 := (win s0 q).tail
  if !cfgB s (trailO Reg.TRAIL_EN) q then bump (trailO (Reg.TRAIL_DOTHER q)) s
  else if r.malformed then dropForm q s
  else if r.kind = 2 then cancelRec q r s
  else match h.tile with
  | none => bump (trailO (Reg.TRAIL_DSTALE q)) s
  | some none => bump (trailO (Reg.TRAIL_DSPARE q)) s
  | some (some p) =>
    if !tileServes s p then bump (trailO (Reg.TRAIL_DSPARE q)) s
    else
      let g := tileCluster s.params p
      let m := (sec s (g / 4)).mode
      if g / 64 != q || m == .off || m == .retain || m == .dark then bump (trailO (Reg.TRAIL_DOTHER q)) s
      else
        let step := h.arrive + r.w1.field 15 0
        setSlot q at0 {
          state := .pending, w0 := r.w0, w1 := r.w1, w2 := r.w2, arrive := h.arrive, stepAt := step,
          preAt := step - h.prepos, sector := g / 4, clu := g, phys := p, taken := none,
          pred := none, present := 0, base := 0, need := 0, dead := 0, amount := 0, limit := 0, issued := false,
          admitted := false, qual := false, judged := none, holdEnd := 0 } s

/-- A push that gets the retry response (R210). -/
def retryPush (q : Nat) (s : State) : State :=
  let s1 := raiseOn Src.TRAIL_OVERFLOW q 0x08 (1 + q) (bump (trailO (Reg.TRAIL_REFUSED q)) s)
  s1.setPorts { s1.ports with fab := .retry }

/-- A push at a window (R210): accepted, held, or answered with a retry. -/
def pushRec (a : Access) (q : Nat) (b : BitVec 128) (s : State) : State :=
  let h := arrived s b
  let w := win s q
  if (recOf b).kind = 2 || (w.held.isEmpty && (w.slots.find w.tail).isNone) then respond a (.ok 0) (acceptRec q h s)
  else if w.held.length < 4 then respond a .none (setWin q { w with held := w.held ++ [h] } s)
  else retryPush q s

/-- A write anywhere in a Trail window (R209): 128 bits with every byte enabled push a record; any other form gets
an error response and is counted. -/
def trailWrite (a : Access) (f : Form) (b : BitVec 128) (s : State) : State :=
  let q := (f.off.toNat - 0x100000) / 0x1000
  if quads s ≤ q then respond a (.ok 0) s
  else if f.width = 128 && f.full && a.port == .fabric then pushRec a q b s
  else dropForm q (formError a s)

def inTrail (f : Form) : Bool := decide (0x100000 ≤ f.off.toNat && f.off.toNat < 0x104000)

def execTrailPush (a : Access) (f : Form) (b : BitVec 128) (s : State) :=
  act s (reaches s a && inTrail f) (trailWrite a f b s)

def execTrailCancel (a : Access) (f : Form) (b : BitVec 128) (s : State) :=
  act s (reaches s a && inTrail f && (recOf b).kind == 2) (trailWrite a f b s)

/-- The push held longest enters its tail slot. -/
def takeHeld (q : Nat) (s : State) : State :=
  match (win s q).held with
  | [] => s
  | h :: rest => respond ⟨.fabric, false, 0, 0⟩ (.ok 0) (acceptRec q h (modWin q (fun w => { w with held := rest }) s))

/-- The tail slot of a window is empty. -/
def tailEmpty (s : State) (q : Nat) : Bool := ((win s q).slots.find (win s q).tail).isNone

/-- A held push is accepted when its tail slot empties, in time (R210, R45). -/
def execTrailHeldPushAccept (q : Nat) (s : State) :=
  match (win s q).held with
  | [] => act s false s
  | h :: _ => act s (tailEmpty s q && decide (now s ≤ h.arrive + 1250)) (takeHeld q s)

/-- The hold of the push held longest has run its 1,250 ticks. -/
def holdDue (s : State) (q : Nat) : Bool :=
  match (win s q).held with
  | [] => false
  | h :: _ => decide (h.arrive + 1250 ≤ now s)

/-- A slot emptied in the tick the hold expires accepts the push (R45, R210). -/
def execTrailPushTimeout (q : Nat) (s : State) := act s (holdDue s q) (expire (.push q) s)

/-- At the tick's end a push whose hold has run takes its slot, where the tick has emptied it, and is refused otherwise. -/
def endHold (q : Nat) (s : State) : State :=
  if !holdDue s q then s
  else if tailEmpty s q then takeHeld q s
  else retryPush q (modWin q (fun w => { w with held := w.held.drop 1 }) s)

def pushOver (q : Nat) (s : State) : State := forEach (upto 4) (fun _ => endHold q) s

/-! ### Arming, presentation, expiry (R217 to R220) -/

/-- At tick 1,240 an evaluated record becomes ARMED with its predicted step, or closes as no-step. -/
def execTrailArm (q i : Nat) (s : State) :=
  match slot s q i with
  | some x =>
    match x.state, x.pred with
    | .pending, some di =>
      act s (atTick s estP 1240)
        (if di < (cfgF s (trailO Reg.TRAIL_CFG) 27 16 : Int) then bump (trailO (Reg.TRAIL_NOSTEP q)) (dropSlot q i s)
         else setSlot q i { x with state := .armed } s)
    | _, _ => act s false s
  | none => act s false s

/-- COAST is in effect, by command or by a bad coefficient (R159, R160). -/
def coasting (s : State) (sc : Nat) : Bool := cfgB s (secO sc Reg.SEC_CTL) 0 || (sec s sc).coefBad

/-- The mode of the period that begins (R161). -/
def nextMode (s : State) (sc : Nat) : EngMode :=
  let x := sec s sc
  let on := if coasting s sc then EngMode.coast else .run
  match x.mode with
  | .wake => if x.wakeRan then on else .wake
  | .run => on
  | .coast => on
  | m => m

/-- The mode of the period whose tick 0 this is, before and after the engine's start. -/
def modeAt0 (s : State) (sc : Nat) : EngMode :=
  if (eng s clsSector sc).start = some (now s) then (sec s sc).mode else nextMode s sc

/-- The engine takes a request, or refuses it (R150, R159); while a change of engine is under way none takes it. -/
def preposOpen (s : State) (sc : Nat) : Bool :=
  let x := sec s sc
  let open' := fun (l : List PrePos) => (l.filter (fun p => !x.reports.any (fun r => r.1 == p.slot))).length
  cfgB s (secO sc Reg.SEC_FF) 9 && !x.suspect && modeAt0 s sc == .run && x.engSw.isNone && decide (open' x.prepos + open' x.asked < 4)

/-- Presentation (R219): taken, the record opens with baseline, threshold and deadline (R222); refused, it closes
as skipped. The request stands in `asked` with ΔĨ: presented with E_ref + ΔĨ, it gets ΔI_fc = ΔĨ by R148. -/
def presentSlot (q i : Nat) (x : Slot) (di : Int) (s0 : State) : State :=
  let s := when (decide (x.preAt + controlP ≤ now s0)) (bump (trailO (Reg.TRAIL_LATE q))) s0
  let y := sec s x.sector
  if preposOpen s x.sector then
    let c := cfg s (trailO Reg.TRAIL_CFG)
    let pre := cfg s (trailO Reg.TRAIL_PRE)
    let h := roundDiv ((c.field 15 8 : Int) * di) 100
    setSlot q i { x with
        state := .opened, present := now s, base := (clu s x.clu).mNow,
        need := Nat.max h.toNat (c.field 27 16), dead := x.stepAt + 40 * c.field 7 0,
        amount := roundDiv ((pre.field 7 0 : Int) * di) 5000, limit := pre.field 14 8 }
      (setSec x.sector { y with asked := y.asked ++ [⟨slotKey q i, x.clu % 4, di⟩] } s)
  else bump (secO x.sector Reg.SEC_FCSKIP) (dropSlot q i s)

/-- The step tick is not past, or this arming tick is the first tick 0 after it (R219, R45). -/
def inTime (s : State) (x : Slot) : Bool :=
  decide (now s ≤ x.stepAt) || (atTick s estP 1240 && decide (now s ≤ x.stepAt + controlP))

def execTrailPresent (q i : Nat) (s : State) :=
  match slot s q i with
  | some x =>
    match x.state, x.pred with
    | .armed, some di =>
      act s (atTick s controlP 0 && decide (x.preAt ≤ now s) && inTime s x) (presentSlot q i x di s)
    | _, _ => act s false s
  | none => act s false s

/-- A record not presented by its step tick expires; one that arms in this tick is presented instead (R219, R45). -/
def execTrailExpire (q i : Nat) (s : State) :=
  match slot s q i with
  | some x =>
    act s ((x.state == SlotState.pending || x.state == SlotState.armed) && atTick s controlP 0 && decide (x.stepAt < now s) &&
        !(x.pred.isSome && inTime s x))
      (bump (trailO (Reg.TRAIL_EXPIRED q)) (bump (secO x.sector Reg.SEC_FCEXP) (dropSlot q i s)))
  | none => act s false s

/-! ### Hit, miss and hold (R222, R223) -/

/-- What a tick-30 latch does for one OPEN record: the pre-raise amount is issued at the latch of its presentation
period, and the record hits on two qualifying latches or a Schuss trip of its cluster. -/
def latchSlot (q i : Nat) (s : State) : State :=
  match slot s q i with
  | none => s
  | some x =>
    if x.state != .opened then s
    else
      let m := (clu s x.clu).mNow
      let ok := decide (x.base + x.need ≤ m)
      let trip := match (clu s x.clu).lastTrip with
        | some t => decide (x.present ≤ t)
        | none => false
      if decide (now s ≤ x.dead) && ((ok && x.qual) || trip) then
        let hold := Nat.min (x.w1.field 31 16) (cfgF s (trailO Reg.TRAIL_PRE) 31 16)
        report x.sector (slotKey q i) false (bump (secO x.sector Reg.SEC_FCHIT)
          (setSlot q i { x with state := .held, admitted := x.admitted || !x.issued, issued := true, judged := some (now s),
                                holdEnd := now s + controlP * hold } s))
      else setSlot q i { x with qual := ok, judged := some (now s) } s

/-- A record just presented gets its amount issued (R220). -/
def issueSlot (q i : Nat) (s : State) : State :=
  match slot s q i with
  | none => s
  | some x =>
    if x.state = .opened && !x.issued then
      issuePre x.sector [slotKey q i] (setSlot q i { x with issued := true, admitted := true } s)
    else s

/-- Trail at the tick-30 latch of a sector. -/
def trailLatch (sc : Nat) (s : State) : State :=
  let ks := (sectorSlots s sc).map (·.1)
  ks.foldl (fun s i => latchSlot (sc / 16) i s) (ks.foldl (fun s i => issueSlot (sc / 16) i s) s)

/-- A miss (R222); at the deadline itself the latch of that tick is looked at first, since a hit wins (R45). -/
def execTrailMiss (q i : Nat) (s : State) :=
  match slot s q i with
  | some x =>
    act s (x.state == SlotState.opened && atTick s controlP 30 &&
        (decide (x.dead < now s) || (x.dead == now s && x.judged == some (now s))))
      (retarget x.sector (report x.sector (slotKey q i) true
        (bump (secO x.sector Reg.SEC_FCMISS) (dropSlot q i s))))
  | none => act s false s

def execTrailHoldEnd (q i : Nat) (s : State) :=
  match slot s q i with
  | some x =>
    act s (x.state == SlotState.held && decide (x.holdEnd ≤ now s)) (retarget x.sector (dropSlot q i s))
  | none => act s false s

/-- `TRAIL_CMD.FLUSH` (R226). -/
def flushCmd (mask : Nat) (s : State) : State :=
  forEach (upto (quads s)) (fun q s => when ((mask >>> q) % 2 == 1) (flushWindow false q) s) s

def execTrailCmdFlush (a : Access) (mask : BitVec 4) (s : State) :=
  act s (reaches s a) (secureCmd a (flushCmd mask.toNat) s)

/-- A slot as a secure read shows it (R212). -/
def slotWords (s : State) (q i : Nat) : List Word :=
  match slot s q i with
  | none => [0, 0, 0, 0]
  | some x =>
    let st := match x.state with
      | .pending => 1
      | .armed => 2
      | .opened => 3
      | .held => 4
    [x.w0, x.w1, x.w2, BitVec.ofNat 32 (st + x.sector * 256 + (x.clu % 4) * 0x10000 + 0x10000000)]

/-- `TRAIL_HTq` (R228). -/
def trailHt (s : State) (q : Nat) : Word :=
  let w := win s q
  BitVec.ofNat 32 (trailHead w + 256 * w.tail + 0x10000 * w.slots.length + 0x2000000 * w.held.length)

end Sys2Proof.Machine
end

