-- ==== Sys2Proof/Machine/Engine.lean ====
section
/-! DEFINITION. The sector engine (R139 to R172): what it samples at tick 0, what it latches at tick 30, the
plausibility supervisor, engine modes, and the spare engine. -/

namespace Sys2Proof.Machine

/-- The clusters of a sector. -/
def secClus (sc : Nat) : List Nat := (upto 4).map (fun c => 4 * sc + c)
def secPage (sc : Nat) : Nat := 0x40 + sc

/-- The SP that Chairlift presents in this tick (R174); 0 where it is absent. -/
def presented (s : State) (sc : Nat) : Nat :=
  let x := sec s sc
  if x.spDue ≤ now s then x.spNext else x.sp

/-- The cluster has lost its last sensor (R117). -/
def noSens (c : Cluster) : Bool := c.aFail && c.bFail
/-- The code of the sensor in use, and whether it is saturated (R115). -/
def useCode (c : Cluster) : Nat := if c.sensB then c.codeB else c.codeA
def satCode (c : Cluster) : Bool := useCode c == 0 || useCode c == 127

/-- `DROOP_PREV` at tick 0 (R128): Schuss was active at a tick of the previous control period. -/
def droopBefore (s : State) (g : Nat) : Bool :=
  let c := clu s g
  (c.schuss != .idle && decide (c.tripAt < now s)) || (match c.activeAt with
    | some t => decide (now s ≤ t + controlP)
    | none => false)

/-! ### Sampling at tick 0 (R108, R115 to R117, R434) -/

/-- The cells' leg counts of a cluster, shown in its `CLU_LEGSj` words. -/
def sampleLegs (g : Nat) (s : State) : State :=
  forEach (upto 4) (fun j s =>
    setLive (cluReg g (Reg.CLU_LEGS 0 + 4 * j) 16)
      (BitVec.ofNat 32 ((upto 4).foldr (fun i t => legCount s (16 * g + 4 * j + i) + 256 * t) 0)) s) s

/-- One cell charged with its share of the cluster M (R434), in units of 10 mA for one control period. -/
def chargeCell (m total frac : Nat) (n : Nat) (s : State) : State :=
  let w := wear s n
  let i := if total = 0 then Frac.zero else Frac.make (m * (cell s n).legs) total
  setWear n { w with stress := w.stress.add (Frac.max Frac.zero (i.sub (Frac.ofInt frac))), duty := w.duty + 1 } s

def chargeWear (g : Nat) (s : State) : State :=
  let on := inDuty s g
  let total := on.foldl (fun t n => t + (cell s n).legs) 0
  on.foldl (fun s n => chargeCell (clu s g).mNow total (cfgF s (calO Reg.CAL_WEARCFG) 14 8) n s) s

/-- One cluster's sample. -/
def sampleClu (g : Nat) (x : ClusterSense) (s0 : State) : State :=
  let s := chargeWear g (sampleLegs g s0)
  let reg := (regulating s g).map (fun n => (cell s n).legs)
  let med := median reg
  let c0 := clu s g
  let c := { c0 with codeA := x.codeA.toNat, codeB := x.codeB.toNat }
  let code := useCode c
  let other := if c.aFail || c.bFail then 0 else if c.sensB then c.codeA else c.codeB
  let sp := presented s (cluSec g)
  let both := !c.aFail && !c.bFail
  let dif := (c.codeA - c.codeB) + (c.codeB - c.codeA)
  let w := cfg s (cluReg g 0x044 16)
  result (cluReg g 0x204 32) (code + 128 * b2n (satCode c) + 256 * other)
    (setClu g { c with
      droopPrev := droopBefore s g
      legMed := med
      satHi := !reg.isEmpty && med == 64 && x.window == .below
      satLo := !reg.isEmpty && med == 0 && x.window == .above
      vclu := if noSens c then c.centre else ((sp : Int) + 4 * ((code : Int) - 64)).toNat
      disRun := if c.tapWait then c.disRun else if both && decide (w.field 3 0 < dif) then c.disRun + 1 else 0
      lostRun := if (c.aFail != c.bFail) && satCode c && x.window == .inside then c.lostRun + 1 else 0 } s)

/-! ### Modes (R161, R162) -/


/-- The integrators stored with the epoch, on entry to OFF or RETAIN. -/
def storeInteg (sc : Nat) (s : State) : State :=
  modSec sc (fun x => { x with stored := some (live s (genO Reg.GEN_EPOCH), (secClus sc).map (fun g => (clu s g).integ)) }) s

/-- The guardband of a sector: its SUSPECT guardband, as the engine's last start tick sampled it (R69), plus the domain
guardband (R156, R254). -/
def gbTarget (s : State) (sc : Nat) : Int :=
  (if (sec s sc).suspect then ((sec s sc).gbCfg : Int) else 0) +
  ((Store.get s.tally.dgb 0 (domOf sc) : Nat) : Int)

/-- A guardband change given to Chairlift (R156, R173); an IDLE sector's channel takes none. -/
def issueGb (sc : Nat) (s : State) : State :=
  when ((sec s sc).prof != .idle) (modSec sc (fun x => { x with cmdGb := some (gbTarget s sc, now s) })) s

/-- The engine stops serving: its period in hand is dropped. -/
def dropPeriod (sc : Nat) (s : State) : State :=
  setEng clsSector sc { eng s clsSector sc with start := none, done := none }
    (modSec sc (fun x => { x with res := none, asked := [], rbAt := none }) s)

/-- An estimate period with a control period in a mode other than RUN or COAST (R154); the latest are kept. -/
def noteBad (p : Nat) (l : List Nat) : List Nat := if l.contains p then l else (p :: l).take 4

/-- The estimate period that Tally's latest latched estimate describes: one latched at tick 1,200 describes the period
before (R140, R240). -/
def estPeriod (s : State) : Nat := if s.tb.tick.toNat % estP < 1200 then estNo s - 2 else estNo s - 1

/-- A cluster's mean M over an estimate period, 32 times, and its mark; 0 where no M was latched in it (R120). -/
def meanAt (c : Cluster) (p : Nat) : MeanM := (c.means.find? (fun m => m.per == p)).getD ⟨p, 0, 0, false, false⟩

/-- The sum of the four mean M of an estimate period, 32 times (R120, R140), and whether a saturated code marks it. -/
def msum32 (s : State) (sc p : Nat) : Nat := (secClus sc).foldl (fun t g => t + (meanAt (clu s g) p).sum) 0
def sumMark (s : State) (sc p : Nat) : Bool := (secClus sc).any (fun g => (meanAt (clu s g) p).mark)

/-- E_ref on exit from SUSPECT: the latest E, or the sector M where that is invalid (R155). -/
def exitRef (s : State) (sc : Nat) : Int :=
  let est := talEst s sc
  if est.1 then est.2 else roundDiv (msum32 s sc (estPeriod s)) 32

/-- The engine enters OFF, from any mode but DARK; SUSPECT ends there (R155, R161, R162). The switch-off of a DARK sector
leaves its mode, and so SUSPECT, as they are (DESIGN CHOICE, log entry 50: R155 does not say whether the sector then enters
OFF). -/
def engineOff (sc : Nat) (s : State) : State :=
  let x := sec s sc
  if x.mode = .dark || x.mode = .off then s
  else
    forEach (secClus sc) (fun g s => modClu g (fun c => { c with mNow := 0, limAt := 0, limRun := 0 }) s)
      (modSec sc (fun x => { x with mode := .off, offSince := now s, suspect := false, disRun := 0, agrRun := 0, prepos := [], reports := [],
                                    eRef := if x.suspect then exitRef s sc else x.eRef,
                                    badPers := noteBad (estNo s) x.badPers, wakeRan := false, estDue := false })
        (dropPeriod sc (storeInteg sc (flushSector sc s))))

/-- The engine enters RETAIN (R161, R162). -/
def engineRetain (sc : Nat) (s : State) : State :=
  let x := sec s sc
  if x.mode = .run || x.mode = .coast then
    modSec sc (fun x => { x with mode := .retain, badPers := noteBad (estNo s) x.badPers, prepos := [], asked := [], reports := [],
                                 res := x.res.map (fun r => { r with prepos := [], taken := [] }) })
      (storeInteg sc (flushSector sc s))
  else s

/-- The intervals that the engine has spent in OFF, once it leaves OFF in this tick; those ended long ago are dropped. -/
def offEnds (s : State) (x : Sector) : List (Nat × Nat) :=
  if x.mode = .off then (x.offSince, now s) :: x.offs.filter (fun p => decide (now s ≤ p.2 + 4 * estP)) else x.offs

/-- The engine enters WAKE; from OFF, the estimate period before this one counts as spent in OFF where the engine was off
at its end (R154). -/
def engineWake (sc : Nat) (s : State) : State :=
  let before := (sec s sc).mode == .off && decide ((sec s sc).offSince + s.tb.tick.toNat % estP ≤ now s)
  if (sec s sc).mode = .dark then s
  else modSec sc (fun x => { x with mode := .wake, wakeRan := false,
                                    badPers := noteBad (estNo s) (if before then noteBad (estNo s - 1) x.badPers else x.badPers)
                                    offs := offEnds s x }) s

/-- The stored integrators of a sector are void (R162). -/
def voidStore (sc : Nat) (s : State) : State := modSec sc (fun x => { x with stored := none }) s

/-! ### The computation (R141 to R154) -/

/-- What the engine uses of one cluster: M, its saturation and lost-sensor marks, D, and the sum of the trims of
its regulating cells with ΔV, for R149. -/
structure CluIn where
  m    : Nat
  raw  : Nat
  sat  : Bool
  lost : Bool
  d    : Int
  trim : Nat
  dv   : Int
  n    : Nat
  deriving DecidableEq, Repr

/-- What the engine computes of one cluster at tick 0. A cluster without a sensor is marked by its lost sensor alone, whatever
code the dead one shows (DESIGN CHOICE, log entry 50: R134 does not say whether `SAT` is set then). -/
def cluIn (s : State) (sc c : Nat) : CluIn :=
  let g := 4 * sc + c
  let x := clu s g
  let dv : Int := ((railCode s (domOf sc)).getD 0 : Nat) - (x.vclu : Int)
  let raw := conductance s g * dv.toNat
  let regs := regulating s g
  { m := satN 16 (roundDiv (raw * x.k) (655360 * 16384)), raw := raw, sat := satCode x && !noSens x, lost := noSens x,
    d := roundDiv (x.mNow * cfgF s (secO sc (Reg.SEC_RDIST c)) 11 0) 50000,
    trim := regs.foldl (fun t n => t + trimOf s n) 0, dv := dv, n := regs.length }

/-- Limits of the integrators, Q8.16 mV (R143). -/
def trimLo (s : State) (sc : Nat) : Int := signed 8 (cfgF s (secO sc Reg.SEC_TRIM) 7 0) * 32768
def trimHi (s : State) (sc : Nat) : Int := (cfgF s (secO sc Reg.SEC_TRIM) 15 8 : Int) * 32768

/-- Integration of a cluster holds in this period (R144). -/
def integHeld (x : Cluster) (mode : EngMode) (n : Nat) : Bool :=
  x.droopPrev || x.satHi || x.satLo || satCode x || noSens x || n == 0 ||
  mode == .wake || mode == .coast || mode == .retain

/-- The integrator of a waking engine (R162). -/
def seed (s : State) (sc c : Nat) (n : Nat) : Int :=
  let x := clu s (4 * sc + c)
  let fresh : Int := if satCode x || noSens x || n = 0 then 0
    else clamp (((x.vclu : Int) - (presented s sc : Int)) * 32768) (trimLo s sc) (trimHi s sc)
  match (sec s sc).stored with
  | some (ep, l) => if ep = live s (genO Reg.GEN_EPOCH) then nth l c else fresh
  | none => fresh

/-- The integrator after this period (R143). -/
def integStep (s : State) (sc c : Nat) (mode : EngMode) (i : CluIn) : Int :=
  let x := clu s (4 * sc + c)
  if mode = .wake then seed s sc c i.n
  else if integHeld x mode i.n then x.integ
  else
    let e := (presented s sc : Int) - (x.vclu : Int) + i.d
    clamp (x.integ + (cfgF s (secO sc Reg.SEC_KI) 15 0 : Int) * e * 8) (trimLo s sc) (trimHi s sc)

/-- The band centre (R143). -/
def centreOf (sp : Nat) (integ : Int) : Nat := (clamp ((sp : Int) + roundDiv integ 32768) 1000 2100).toNat

/-- The feed-forward leg count of one cluster (R149): `di` is ΔI_est, `fc` the cluster's ΔI_fc, `m32` and `sum32`
the cluster's and the sector's mean M of the estimate period, 32 times, `kf` and `fmax` the fields. -/
def legsOf (kf fmax : Nat) (di fc : Int) (m32 sum32 : Nat) (i : CluIn) : Int :=
  if i.n = 0 || decide (i.dv ≤ 0) then 0
  else
    let (num, den) : Int × Int := if sum32 < 3200 then (di + 4 * fc, 4) else (di * m32 + fc * sum32, sum32)
    clamp (quot (160 * kf * num) (den * (i.trim * i.dv))) (-(fmax : Int)) fmax

/-- What the estimate of this period gives: ΔI_est and E_ref after it (R148, R151). -/
def estStep (eRef : Int) (est : Option (Bool × Nat)) (sum32 : Nat) : Int × Int :=
  match est with
  | none => (0, eRef)
  | some (true, e) => ((e : Int) - eRef, e)
  | some (false, _) => (0, roundDiv sum32 32)

/-- The requests of this period taken in turn: E_ref after them and the open pre-positions (R148). -/
def takeAsked (eRef : Int) (asked : List PrePos) : Int × List PrePos :=
  asked.foldl (fun (e, l) p =>
    let di : Int := Max.max 0 p.di
    (e + di, l ++ [{ p with di := di }])) (eRef, [])

/-- The comparison of R153 and R154 with the M of the estimate's own period: none where it is skipped, else whether E and M
disagree. -/
def compareEM (s : State) (sc : Nat) (est : Option (Bool × Nat)) : Option Bool :=
  match est with
  | some (true, e) =>
    let p := estPeriod s
    if (sec s sc).badPers.contains p || sumMark s sc p || (secClus sc).any (fun g => noSens (clu s g)) then none
    else
      let m := msum32 s sc p
      let dif := ((32 * e : Int) - m).natAbs
      let w := cfg s (secO sc Reg.SEC_PLAUS)
      some (decide (w.field 7 0 * m < 100 * dif) && decide (32 * w.field 23 8 < dif))
  | _ => none

/-- Everything the engine computes in one period. A WAKE period that takes the estimate keeps the sector QUIET: the next one
decides BUSY (DESIGN CHOICE, log entry 50: R147 and R162 leave it open). -/
def computePeriod (s : State) (sc : Nat) (mode : EngMode) (takes : Bool) : EngRes :=
  let x := sec s sc
  let sp := presented s sc
  let ins := (upto 4).map (cluIn s sc)
  let est := if takes then some (talEst s sc) else none
  let p := estPeriod s
  let sum32 := msum32 s sc p
  let wake := mode == .wake
  let (di, eRef1) : Int × Int :=
    if wake then (0, sumOver (upto 4) (fun c => ((ins[c]?).map (fun (i : CluIn) => (i.m : Int))).getD 0))
    else estStep x.eRef est sum32
  let (eRef2, opened) := takeAsked eRef1 (if wake then [] else x.asked)
  let w := cfg s (secO sc Reg.SEC_FF)
  let quiet := !w.bit 8 || mode != .run || x.suspect
  let fcOf := fun (c : Nat) => opened.foldl (fun t p => if p.clu = c then t + p.di else t) 0
  let integ := (ins.zip (upto 4)).map (fun (i, c) => integStep s sc c mode i)
  let open' := (if wake then [] else x.prepos) ++ opened
  let th := cfgF s (secO sc Reg.SEC_HW) 31 16
  let fig32 : Nat := match est with
    | some (true, e) => if x.suspect then sum32 else 32 * e
    | _ => sum32
  let busy := if wake then false else if !takes then x.busy
    else if 32 * th < fig32 then true
    else if fig32 + 32 * 400 < 32 * th && open'.isEmpty then false else x.busy
  let cmp := compareEM s sc est
  let dis := match cmp with
    | none => x.disRun
    | some true => Nat.min (x.disRun + 1) 255
    | some false => 0
  let agr := match cmp with
    | none => x.agrRun
    | some true => 0
    | some false => Nat.min (x.agrRun + 1) 65535
  { taken := []
    m := ins.map (·.m)
    integ := integ
    held := (ins.zip (upto 4)).map (fun (i, c) => integHeld (clu s (4 * sc + c)) mode i.n)
    centre := integ.map (centreOf sp)
    half := if busy then cfgF s (secO sc Reg.SEC_HW) 5 0 else cfgF s (secO sc Reg.SEC_HW) 13 8
    ff := (ins.zip (upto 4)).map (fun (i, c) =>
      if quiet then 0
      else legsOf (cfgF s (secO sc Reg.SEC_KF) 15 0) (w.field 6 0) di (fcOf c) (meanAt (clu s (4 * sc + c)) p).sum sum32 i)
    sat := ins.map (·.sat)
    nosens := ins.map (·.lost)
    lim := integ.map (fun i => if i = trimLo s sc then -1 else if i = trimHi s sc then 1 else 0)
    eRef := eRef2
    prepos := opened
    took := takes
    est := match est with
      | some (true, e) => some e
      | _ => none
    msum := satN 16 (roundDiv sum32 32)
    msMark := sumMark s sc p || (secClus sc).any (fun g => noSens (clu s g))
    busy := busy
    dis := dis
    agr := agr
    enter := !x.suspect && cmp.isSome && decide (cfgF s (secO sc Reg.SEC_PLAUS) 31 24 ≤ dis)
    leave := x.suspect && cmp.isSome && decide (cfgF s (secO sc Reg.SEC_PLAUS2) 15 0 ≤ agr)
    sp := sp }

/-- Trail's reports taken (R150): a hit closes its pre-position, a miss or flush gives its ΔI_fc back. A request that no
completed period has taken yet is no longer presented. -/
def takeReports (x : Sector) : Sector :=
  x.reports.foldl (fun x (key, missed) =>
    match x.prepos.find? (fun p => p.slot == key) with
    | none => { x with asked := x.asked.filter (fun p => p.slot != key) }
    | some p => { x with prepos := x.prepos.filter (fun p => p.slot != key)
                         eRef := if missed then (if x.eRef < p.di then 0 else x.eRef - p.di) else x.eRef })
    { x with reports := [] }


/-- M_raw kept with its period's tick 0, for the taps of R119: the last 64 periods. -/
def keepRaw (at0 raw : Nat) (l : List (Nat × Nat)) : List (Nat × Nat) := (at0, raw) :: l.take 63

/-- The engine's start tick: mode, and the computation from what it samples, with the reports that it takes. What these change
is committed at the latch (R141). -/
def engineStart (sc : Nat) (s0 : State) : State :=
  let mode := nextMode s0 sc
  let gb := cfgF s0 (secO sc Reg.SEC_PLAUS2) 22 16
  let s1 := modSec sc (fun x => { x with
    mode := mode, wakeRan := mode == .wake, gbCfg := gb,
    badPers := if mode == .run || mode == .coast then x.badPers else noteBad (estNo s0) x.badPers }) s0
  let takes := atTick s1 estP 1240 || (sec s1 sc).estDue
  let r := { computePeriod (modSec sc takeReports s1) sc mode takes with taken := (sec s1 sc).reports }
  let s2 := forEach (upto 4) (fun c s =>
    modClu (4 * sc + c) (fun x => { x with raws := keepRaw (now s) (cluIn s1 sc c).raw x.raws }) s) s1
  let s3 := when (mode == .wake || mode == .coast || mode == .retain) (bump (secO sc Reg.SEC_COASTS)) s2
  let s4 := when (mode == .run && r.held.any id) (bump (secO sc Reg.SEC_HOLDS)) s3
  engStart clsSector sc (modSec sc (fun x => { x with res := some r }) s4)

/-- The engine of a sector is at work. -/
def engineServes (s : State) (sc : Nat) : Bool :=
  let x := sec s sc
  x.mode != .off && x.mode != .dark && x.engSw == none && decide (x.serveFrom ≤ now s)

/-- Tick 0 of a control period. `bad` is the engine's parity check of what it holds: its stored integrators, E_ref or open
pre-positions (R167). -/
def execSectorEngineStart (sc : Nat) (i : SectorSense) (s : State) :=
  let s1 := (i.clusters.zip (upto 4)).foldl (fun s (x, c) => sampleClu (4 * sc + c) x s) s
  act s (atTick s controlP 0 && decide (sc < sectors s) && i.clusters.length == 4)
    (when (engineServes s1 sc) (fun s => engineStart sc (when i.bad (raiseOn Src.SEC_ENG_FAULT sc (secPage sc) 9) s)) s1)

/-! ### The latch (R106, R107, R141) -/

/-- Schuss was active in a cluster from tick 0 to tick 30 of this period. -/
def droopSince (s : State) (g : Nat) : Bool :=
  let c := clu s g
  c.schuss != .idle || (match c.activeAt with
    | some t => decide (now s ≤ t + 30)
    | none => false)

/-- F added once to every regulating cell of a cluster (R106). -/
def addLegs (g : Nat) (f : Int) (s : State) : State :=
  (regulating s g).foldl (fun s n => modCell n (fun x => { x with legs := (clamp ((x.legs : Int) + f) 0 64).toNat }) s) s

/-- M of one control period joins the sum of its estimate period, with the marks of a saturated code and a lost sensor
(R117, R120). -/
def addMean (p m : Nat) (mark lost : Bool) (l : List MeanM) : List MeanM :=
  match l with
  | x :: r => if x.per = p then ⟨p, x.sum + m, x.n + 1, x.mark || mark, x.lost || lost⟩ :: r
    else ⟨p, m, 1, mark, lost⟩ :: (x :: r).take 2
  | [] => [⟨p, m, 1, mark, lost⟩]

/-- The run at a limit after one more control period at `lim` (R145): a run of 256 waits for its source to be raised, a
longer one has raised it; another limit begins a run of its own. -/
def limitRun (x : Cluster) (lim : Int) : Nat :=
  if lim = 0 then 0 else if lim = x.limAt then Nat.min (x.limRun + 1) (if x.limRun = 256 then 256 else 257) else 1

/-- One cluster's part of the latch. -/
def latchClu (sc c : Nat) (r : EngRes) (s : State) : State :=
  let g := 4 * sc + c
  let m := r.m.getD c 0
  let sat := r.sat.getD c false
  let lost := r.nosens.getD c false
  let s1 := modClu g (fun x => { x with
    centre := r.centre.getD c 0, half := r.half, ff := nth r.ff c, integ := nth r.integ c, held := r.held.getD c false,
    mNow := m, means := addMean (estNo s) m sat lost x.means, limAt := nth r.lim c, limRun := limitRun x (nth r.lim c) }) s
  let s2 := when (!droopSince s1 g) (addLegs g (nth r.ff c)) s1
  result (cluReg g 0x208 32) (m + 0x1000000 * b2n sat + 0x2000000 * b2n lost) s2

/-- The estimate periods that `SEAT_PEAK.WIN` can reach (R417). -/
def reachable (s : State) (p : Nat) : Bool := decide (estNo s ≤ p + 65535)

/-- The mean of a cluster's M over the estimate period that ends, 32 times, is kept for as long as `SEAT_PEAK.WIN` can reach it
(R417). -/
def keepPeak (g m : Nat) (s : State) : State :=
  s.setSeat { s.seat with
    peaks := s.seat.peaks.put g ((estNo s, m) :: (Store.get s.seat.peaks [] g).filter (fun e => reachable s e.1)) }

/-- The end of the estimate period at its last latch (R120): the means are kept for R417. -/
def closeMeans (sc : Nat) (s : State) : State :=
  when (atTick s estP 1270) (forEach (secClus sc) (fun g s => keepPeak g (meanAt (clu s g) (estNo s)).sum s)) s

def enterSuspect (sc : Nat) (s : State) : State :=
  issueGb sc (raiseOn Src.TALLY_DISAGREE sc (secPage sc) 1 (bump (secO sc Reg.SEC_SUSPECTS)
    (modSec sc (fun x => { x with suspect := true, disRun := 0, agrRun := 0 }) s)))

/-- The sector leaves SUSPECT: E_ref takes the latest E, or the sector M where that is invalid (R155). A period in
hand at a `PLAUS_CLEAR` leaves both runs and E_ref as the command set them. -/
def leaveSuspect (sc : Nat) (s : State) : State :=
  let e := exitRef s sc
  let keep := fun (r : EngRes) => { r with eRef := e, dis := 0, agr := 0, enter := false, leave := false }
  issueGb sc (modSec sc (fun x => { x with suspect := false, disRun := 0, agrRun := 0, eRef := e, res := x.res.map keep }) s)

/-- The sector's part of the latch. -/
def latchSec (sc : Nat) (r : EngRes) (s : State) : State :=
  let s1 := modSec sc (fun x0 =>
   let x := { takeReports { x0 with reports := r.taken } with reports := x0.reports.drop r.taken.length }
   { x with
    res := none, eRef := r.eRef, prepos := x.prepos ++ r.prepos,
    asked := x.asked.filter (fun p => !r.prepos.any (fun q => q.slot == p.slot)),
    busy := r.busy, disRun := r.dis, agrRun := r.agr, estDue := if r.took then false else x.estDue,
    lastE := if r.est.isSome then r.est else x.lastE, rbAt := some (now s + 1) }) s
  let s2 := match r.est with
    | some e => result (secO sc Reg.SEC_EST) e s1
    | none => s1
  let s3 := when r.took (result (secO sc Reg.SEC_MSUM) (r.msum + 0x1000000 * b2n r.msMark)) s2
  let s4 := setLive (secO sc Reg.SEC_DEMAND) (BitVec.ofNat 32 (r.sp + 0x10000 * b2n r.busy)) s3
  let s5 := setLive (secO sc Reg.SEC_FFLAST)
    (BitVec.ofNat 32 ((upto 4).foldr (fun c t => unsigned 8 (nth r.ff c) + 256 * t) 0)) s4
  let s6 := when r.enter (enterSuspect sc) s5
  when r.leave (leaveSuspect sc) s6

def engineCommit (sc : Nat) (s : State) : State :=
  match (sec s sc).res with
  | none => s
  | some r =>
    let s1 := forEach (upto 4) (fun c s => latchClu sc c r s) s
    trailLatch sc (closeMeans sc (latchSec sc r s1))

/-- A latch tick with nothing latched: each cluster keeps its M for the period's mean, its integrator with the limit it sits
at, and its band with no feed-forward (R51, R107, R120, R145); no F is issued (R169). Trail judges its records by the M
held. -/
def heldLatch (sc : Nat) (s : State) : State :=
  trailLatch sc (closeMeans sc (setLive (secO sc Reg.SEC_FFLAST) 0 (forEach (secClus sc) (fun g s => modClu g (fun x => { x with
    means := addMean (estNo s) x.mNow (satCode x && !noSens x) (noSens x) x.means, ff := 0, limRun := limitRun x x.limAt }) s) s)))

/-- An overrun leaves bands, integrators and the reference; a missed estimate stays unconsumed (R141). The period that
WAKE lasts is one that completes (R51, R161). -/
def engineMissed (sc : Nat) (s : State) : State :=
  let took := match (sec s sc).res with
    | some r => r.took
    | none => false
  heldLatch sc (modSec sc (fun x => { x with res := none, estDue := x.estDue || took, wakeRan := false }) s)

/-- The engine latches; while a change of engine leaves the period without one, the outputs hold as in overrun
(R164). -/
def execSectorEngineLatch (sc : Nat) (s : State) :=
  act s (decide (sc < sectors s) && (engDue s clsSector sc ||
      (atTick s controlP 30 && ((sec s sc).mode == .wake || (sec s sc).engSw.isSome))))
    (if engDue s clsSector sc then latch clsSector sc (engineCommit sc) (engineMissed sc) s else heldLatch sc s)

def execSecTrimLimit (g : Nat) (s : State) :=
  act s ((clu s g).limRun == 256)
    (raiseOn Src.SEC_TRIM_LIMIT g (secPage (cluSec g)) (5 + g % 4) (modClu g (fun c => { c with limRun := 257 }) s))

/-! ### The spare engine (R163 to R167) -/

/-- The quadrant's spare engine is free and not failed. A dark sector holds no engine. -/
def spareFree (s : State) (q : Nat) : Bool :=
  !s.sparing.spareFail.contains q &&
  (upto 16).all (fun i => !(sec s (16 * q + i)).onSpare && (match (sec s (16 * q + i)).engSw with
    | some (_, toSpare) => !toSpare
    | none => true))

/-- A change of engine begins (R164): the redundant path is switched 16 ticks from now. -/
def beginSwitch (toSpare : Bool) (sc : Nat) (s : State) : State :=
  modSec sc (fun x => { x with engSw := some (now s + 16, toSpare) }) (dropPeriod sc s)

/-- Where the periods and overruns of an engine out of service are kept: a sector's own engine, or the spare engine
of its quadrant. -/
def idleEngine (spare : Bool) (sc : Nat) : Nat := if spare then 128 + sc / 16 else 64 + sc

/-- Overruns repeat within consecutive periods of one engine's own (R52), so each engine keeps its own count. -/
def swapHistory (toSpare : Bool) (sc : Nat) (s : State) : State :=
  setEng clsSector sc (eng s clsSector (idleEngine toSpare sc))
    (setEng clsSector (idleEngine (!toSpare) sc) (eng s clsSector sc) s)

/-- The engine in service changes: it starts in WAKE and seeds from the present measurement. In a sector that is OFF it waits
there, and what was stored at the entry to OFF stands (R162). -/
def engineSwitch (toSpare : Bool) (sc : Nat) (s0 : State) : State :=
  let s := swapHistory toSpare sc s0
  let s1 := modSec sc (fun x => { x with engSw := none, onSpare := toSpare, serveFrom := now s, prepos := [], reports := [],
                                         stored := if x.mode = .off then x.stored else none }) s
  let s2 := when ((sec s1 sc).mode != .off) (engineWake sc) s1
  when toSpare (raiseOn Src.SEC_SPARE_TAKEOVER sc (secPage sc) 3) s2

def execSpareEngineSwitch (sc : Nat) (s : State) :=
  match (sec s sc).engSw with
  | some (t, toSpare) => act s (decide (t ≤ now s)) (engineSwitch toSpare sc s)
  | none => act s false s

/-- The sector goes dark (R166): its clusters keep their last band with F = 0 (R161, R169). -/
def goDark (sc : Nat) (s0 : State) : State :=
  let s := flushSector sc s0
  raiseOn Src.SEC_DARK sc (secPage sc) 4 <| setLive (secO sc Reg.SEC_FFLAST) 0
    (forEach (secClus sc) (fun g s => modClu g (fun x => { x with ff := 0 }) s)
      (modSec sc (fun x => { x with mode := .dark, offs := offEnds s x, onSpare := false, engSw := none, prepos := [], reports := [] }) (dropPeriod sc s)))

/-- The engine in service is marked failed and its isolation counted (R431, R432). -/
def markEngine (sc : Nat) (s : State) : State :=
  let q := sc / 16
  if (sec s sc).onSpare then
    if s.sparing.spareFail.contains q then s
    else s.setSparing { s.sparing with
      spareFail := q :: s.sparing.spareFail
      spareIsol := s.sparing.spareIsol.put q (Store.get s.sparing.spareIsol 0 q + 1) }
  else if (sec s sc).ownFailed then s
  else modSec sc (fun x => { x with ownFailed := true }) (s.setSparing { s.sparing with
    engIsol := s.sparing.engIsol.put sc (Store.get s.sparing.engIsol 0 sc + 1) })

/-- The engine serving a sector is lost to a fault, registered at `at0`, that acts at severity 3 or above (R163, R166).
While a change of engine is under way it goes on; a fault of the engine that served before one does nothing. -/
def engineLost (sc at0 : Nat) (s : State) : State :=
  let x := sec s sc
  if x.mode = .dark || decide (at0 < x.serveFrom) then s
  else if x.engSw.isSome then markEngine sc s
  else
    let s1 := markEngine sc s
    if x.onSpare then (if x.ownFailed then goDark sc s1 else beginSwitch false sc s1)
    else if spareFree s (sc / 16) then beginSwitch true sc s1 else goDark sc s1

def execSecBandReadback (sc : Nat) (bad : Bool) (s : State) :=
  act s (decide (sc < sectors s) && (sec s sc).rbAt == some (now s))
    (when bad (raiseOn Src.SEC_ENG_FAULT sc (secPage sc) 9) (modSec sc (fun x => { x with rbAt := none }) s))

/-- `SEC_CMD` (R155, R163, R165). -/
def plausClear (sc : Nat) (s : State) : State := when (sec s sc).suspect (leaveSuspect sc) s

def toSpareCmd (sc : Nat) (s : State) : State :=
  let x := sec s sc
  if spareFree s (sc / 16) && !x.onSpare && x.engSw == none && x.mode != .dark then beginSwitch true sc s
  else refuse (secPage sc) s

/-- A HANDBACK during the 16 ticks of a change of engine is refused too (DESIGN CHOICE, log entry 50: R165 names the failed and
the serving engine). -/
def handbackCmd (sc : Nat) (s : State) : State :=
  let x := sec s sc
  if x.onSpare && !x.ownFailed && x.engSw == none && x.mode != .dark then beginSwitch false sc s
  else refuse (secPage sc) s

def secCommand (sc : Nat) (w : Word) (s : State) : State :=
  let s1 := when (w.bit 0) (plausClear sc) s
  let s2 := when (w.bit 1) (toSpareCmd sc) s1
  when (w.bit 2) (handbackCmd sc) s2

def secCmdOk (s : State) (a : Access) (sc : Nat) : Bool := reaches s a && decide (sc < sectors s)

def execSecCmdPlausClear (a : Access) (sc : Nat) (s : State) :=
  act s (secCmdOk s a sc) (secureCmd a (secCommand sc 1) s)
def execSecCmdToSpare (a : Access) (sc : Nat) (s : State) :=
  act s (secCmdOk s a sc) (secureCmd a (secCommand sc 2) s)
def execSecCmdHandback (a : Access) (sc : Nat) (s : State) :=
  act s (secCmdOk s a sc) (secureCmd a (secCommand sc 4) s)

/-! ### Status words -/

/-- `SEC_STAT` (R170). -/
def secStat (s : State) (sc : Nat) : Word :=
  let x := sec s sc
  let code := match x.mode with
    | .off => 0
    | .wake => 1
    | .run => 2
    | .coast => 3
    | .retain => 4
    | .dark => 5
  let bits := fun (p : Cluster → Bool) => packBits ((secClus sc).map (fun g => p (clu s g)))
  BitVec.ofNat 32 (code + 8 * b2n x.suspect + 16 * b2n x.coefBad + 32 * b2n x.onSpare +
    64 * b2n (spareFree s (sc / 16)) + 128 * b2n ((secClus sc).any (fun g => noSens (clu s g))) +
    256 * bits (·.held) +
    4096 * bits (fun c => c.limAt != 0) +
    0x10000 * b2n (domGb s (domOf sc)))

/-- `CLU_STATc` (R134). -/
def cluStat (s : State) (g : Nat) : Word :=
  let c := clu s g
  let ph := match c.schuss with
    | .idle => 0
    | .force => 1
    | .hold => 2
  BitVec.ofNat 32 (ph + 4 * b2n c.droopPrev + 8 * b2n c.satHi + 16 * b2n c.satLo + 32 * b2n c.sensB +
    64 * b2n c.aFail + 128 * b2n c.bFail + 256 * cluActive s g + 0x2000 * b2n (cluSpare s g) +
    0x10000 * c.legMed + 0x1000000 * cluActive s g)

/-- `CLU_CELLn` (R134). -/
def cellWord (s : State) (n : Nat) : Word :=
  let c := cell s n
  let st := match c.state with
    | .off => 0
    | .standby => 1
    | .start => 2
    | .regulate => 3
    | .isolated => 4
    | .retest => 5
  BitVec.ofNat 32 (256 * st + 4096 * c.map.length + 0x10000 * c.cause + 0x100000 * b2n c.spdes)

/-- `CLU_LEGMAP` (R133). -/
def legMap (s : State) (n : Nat) : Word :=
  BitVec.ofNat 32 ((upto 4).foldr (fun e t => (match (cell s n).map[e]? with
    | some p => 64 + p
    | none => 0) + 128 * t) 0)

end Sys2Proof.Machine
end

