-- ==== Sys2Proof/Machine/Chairlift.lean ====
section
/-! DEFINITION. Chairlift (R173 to R206, R582): profile channels, base commands and their admission, frequency
ordering, settling, switch-on, inrush, retention, switch-off and discard. -/

namespace Sys2Proof.Machine

/-! ### The step of a channel (R177 to R180, R582) -/

/-- A limit set in step units, in units of 2^-32 code. -/
structure StepLim where
  v : Int
  a : Int
  j : Int
  deriving DecidableEq, Repr

abbrev q32 : Nat := 0x100000000

/-- A limit set converted (R178): the fields, and the step interval as `p`/`q` microseconds. -/
def stepLim (limv limj : Word) (p q : Nat) : StepLim :=
  { v := roundDiv (limv.field 7 0 * p * q32) (2 * q)
    a := roundDiv (limv.field 23 8 * p * p * q32) (4 * q * q)
    j := roundDiv (limj.field 23 0 * p * p * p * q32) (8 * q * q * q) }

/-- The base and guardband set, and the pre-raise set, of a sector: 0.032 µs is 4/125 µs. -/
def baseLim (s : State) (sc : Nat) : StepLim := stepLim (cfg s (secO sc Reg.SEC_LIMV)) (cfg s (secO sc Reg.SEC_LIMJ)) 4 125
def preLim (s : State) (sc : Nat) : StepLim := stepLim (cfg s (secO sc Reg.SEC_PLIMV)) (cfg s (secO sc Reg.SEC_PLIMJ)) 4 125

/-- A quotient of two Q.32 numbers to 32 fractional bits, rounded up; the divisor is never 0 (R177). -/
def upQuot (n d : Int) : Int := ceilDiv (n * q32) d.toNat

/-- `brake_dist` (R180) under the roundings of R582: all values in units of 2^-32. The sum is formed in units of
2^-128 / 6 and rounded up to 32 fractional bits. -/
def brakeDist (l : StepLim) (v a : Int) : Int :=
  let t1 := if 0 < a then upQuot a l.j else 0
  let d1 : Int := if 0 < a then 6 * v * t1 * q32 * q32 + 3 * a * t1 * t1 * q32 - l.j * t1 * t1 * t1 else 0
  let v1 := if 0 < a then v + ceilDiv (a * a) (2 * l.j).toNat else v
  let d2 : Int :=
    if ceilDiv (l.a * l.a) l.j.toNat ≤ v1 then 3 * v1 * (upQuot v1 l.a + upQuot l.a l.j) * q32 * q32
    else 6 * v1 * (sqrtUp ((upQuot v1 l.j).toNat * q32)) * q32 * q32
  ceilDiv (d1 + d2) (6 * q32 * q32 * q32)

/-- The channel rests at its admitted target. -/
def Chan.rests (c : Chan) : Bool := c.pos == c.adm * q32 && c.vel == 0 && c.acc == 0

/-- One step of R179 toward the admitted target. -/
def Chan.step (l : StepLim) (c : Chan) : Chan :=
  let d0 := c.adm * q32 - c.pos
  let sg : Int := if 0 < d0 then 1 else if d0 < 0 then -1 else if 0 < c.vel then -1 else 1
  let d := sg * d0
  let v := sg * c.vel
  let a := sg * c.acc
  if d ≤ 0x80000000 && decide (-0x4000000 ≤ v) && decide (v ≤ 0x4000000) then
    { c with pos := c.adm * q32, vel := 0, acc := 0, there := c.tgt == c.adm }
  else
    let up := if 0 < a then ceilDiv (a * a) (2 * l.j).toNat else 0
    let want : Int :=
      if decide (0 < v) && decide (d ≤ brakeDist l v a) then
        let b : Int := sqrtDown (2 * l.j * v).toNat
        Int.neg (if l.a < b then l.a else b)
      else if l.v ≤ v + up then 0 else l.a
    let a2 := a + clamp (want - a) (-l.j) l.j
    let v2 := clamp (v + a2) (-l.v) l.v
    { c with pos := c.pos + sg * v2, vel := sg * v2, acc := sg * a2, there := false }

/-- A held channel keeps its position (R194). -/
def Chan.halt (c : Chan) : Chan := { c with vel := 0, acc := 0 }

/-- A channel at rest at a place. -/
def Chan.place (pos : Int) (c : Chan) : Chan := { c with pos := pos, vel := 0, acc := 0, there := c.tgt == c.adm && pos == c.adm * q32 }

/-! ### Base commands (R182 to R188) -/

/-- The sum of a sector's three channel targets, waiting ones included (R186). -/
def targetSum (x : Sector) : Int :=
  let base := match x.cmdBase with
    | some (t, _) => t
    | none => x.base.tgt
  base + x.gb.tgt + x.pre.tgt

/-- The outcome that a base command leaves when a new one arrives, and when it is discarded (R183, R204). -/
def outcome (x : Sector) (ended : Nat) : Nat :=
  match x.prof with
  | .idle => x.prev
  | .done => 5
  | _ => ended

/-- A base command of a sector: a new sequence, taken at the first step from now on (R183). -/
def baseCmd (sc : Nat) (tgt : Int) (s : State) : State :=
  modSec sc (fun x => { x with
    prev := outcome x 6, seq := (x.seq + 1) % 256, prof := if x.base.adm < tgt then .waiting else .slewing,
    cmdBase := some (tgt, now s), fallDue := none, settleN := 0 }) s

/-- A fall that waits for its sector's `FCAP` to have fallen becomes a base command when it is due (R190). -/
def takeFall (sc : Nat) (s : State) : State :=
  match (sec s sc).fallDue with
  | some (t, at0) => when (decide (at0 ≤ now s)) (baseCmd sc t) s
  | none => s

/-- The rail of a sector's domain stands high enough for its target sum (R185). -/
def railFits (s : State) (sc : Nat) (sum : Int) : Bool :=
  match railCode s (domOf sc) with
  | some r => decide (sum + (cfgF s (stgO (domOf sc) Reg.STG_TRACK) 7 0 : Int) ≤ (r : Int))
  | none => false

/-- Commands stamped at or before this tick are taken (R182). A base or guardband command that does not raise is
admitted at once; one that raises waits (R184). -/
def takeCmds (s : State) (x : Sector) : Sector :=
  let x1 := match x.cmdBase with
    | some (t, at0) =>
      if at0 ≤ now s then
        let up := decide (x.base.adm < t)
        { x with cmdBase := none, settleN := 0,
                 base := { x.base with tgt := t, adm := if up then x.base.adm else t, wait := if up then some at0 else none,
                                       said := false, there := false } }
      else x
    | none => x
  match x1.cmdGb with
  | some (t, at0) =>
    let up := decide (x1.gb.adm < t)
    { x1 with cmdGb := none, settleN := 0,
              gb := { x1.gb with tgt := t, adm := if up then x1.gb.adm else t, wait := if up then some at0 else none,
                                 said := false, there := false } }
  | none => x1

def Chan.admits (c : Chan) : Chan := { c with adm := c.tgt, wait := none }

def givePre (sc : Nat) (t : Int) (s : State) : State :=
  modSec sc (fun x => { x with pre := { x.pre with tgt := t, adm := t, there := false } }) s

/-- A pre-raise command: admitted at once, or refused, counted and reported to Trail (R188). After a refusal what the sector's
other records leave of the target is taken where it does not rise. -/
def takePre (sc : Nat) (s : State) : State :=
  let x := sec s sc
  match x.cmdPre with
  | none => s
  | some (t, keys) =>
    let s1 := setSec sc { x with cmdPre := none } s
    if t ≤ x.pre.adm || railFits s sc (x.base.tgt + x.gb.tgt + t) then givePre sc t s1
    else
      let s2 := keys.foldl (fun s k => preRefused k s) (bump (secO sc Reg.SEC_PREBLK) s1)
      when (decide (preTarget s2 sc ≤ x.pre.adm)) (givePre sc (preTarget s2 sc)) s2

/-- Waiting commands admitted, or their wait counted (R185). -/
def admitCmds (sc : Nat) (s : State) : State :=
  let x := sec s sc
  if x.base.wait.isSome || x.gb.wait.isSome then
    if railFits s sc (x.base.tgt + x.gb.tgt + x.pre.tgt) then
      setSec sc { x with
        prof := if x.base.wait.isSome && x.prof = .waiting then .slewing else x.prof
        base := if x.base.wait.isSome then x.base.admits else x.base
        gb := if x.gb.wait.isSome then x.gb.admits else x.gb } s
    else bump (secO sc Reg.SEC_ILKWAIT) s
  else s

/-! ### Frequency ordering (R189 to R193) -/

/-- A LOGIC sector's `FCAP` follows operating points; the other domains drive 255 (R189). -/
def driveFcap (sc code : Nat) (s : State) : State := modSec sc (fun x => { x with fcap := code }) s

/-- The base target that the operating point, or retention, asks for (R199). -/
def wantBase (s : State) (sc : Nat) : Int :=
  let op : Int := opVolt s (domOf sc)
  let ret : Int := cfgF s (secO sc Reg.SEC_RET) 11 0
  if (sec s sc).mode = .retain && !(sec s sc).wakeDue && decide (ret < op) then ret else op

/-- The base target commanded last. -/
def lastBase (x : Sector) : Int :=
  match x.fallDue, x.cmdBase with
  | some (t, _), _ => t
  | none, some (t, _) => t
  | none, none => x.base.tgt

/-- An operating point takes effect for a sector (R190, R191). -/
def opTakesEffect (sc : Nat) (s : State) : State :=
  let x := sec s sc
  if x.prof = .idle then s
  else
    let t := wantBase s sc
    let logic := domOf sc == 0
    let f := opFcap s
    let fall := logic && decide (f < x.fcap)
    let rise := logic && decide (x.fcap < f)
    let s1 := when logic (modSec sc (fun x => { x with rise := if rise then some f else none,
                                                       fcap := if fall then f else x.fcap })) s
    if fall && decide (t < lastBase x) then
      modSec sc (fun x => { x with fallDue := some (t, now s + cfgF s (secO sc Reg.SEC_FSEQ) 15 8) }) s1
    else when (t != lastBase x || rise) (baseCmd sc t) s1

/-- Settling (R192, R195): a qualifying period counts, any other ends the count. `settleN` is one more than the
periods counted, 0 while counting has not begun. -/
def settleQualifies (s : State) (sc : Nat) : Bool :=
  (secClus sc).all (fun g =>
    let c := clu s g
    !droopBefore s g && (noSens c || (decide (c.centre ≤ c.vclu + c.half) && decide (c.vclu ≤ c.centre + c.half))))

def settleMayBegin (s : State) (sc : Nat) : Bool :=
  (secClus sc).all (fun g => match (clu s g).releaseAt with
    | some t => decide (t + 16 ≤ now s)
    | none => true)

/-- The sector is settled: DONE, the pending rise is driven, RAMP ends, a wake that waits for it begins (R192,
R196, R199). -/
def settled (sc : Nat) (s : State) : State :=
  let x := sec s sc
  let s1 := setSec sc { x with prof := .done, settleN := 0, rise := none, fcap := x.rise.getD x.fcap,
                               sw := if x.sw = .ramp then .gates else x.sw, wakeDue := false, waking := x.wakeDue } s
  when x.wakeDue (engineWake sc) s1

def settleStep (sc : Nat) (s : State) : State :=
  let x := sec s sc
  let atRest := x.base.rests && x.gb.rests && x.base.wait == none && x.gb.wait == none && x.cmdBase == none
  if x.prof != .settling then s
  else if !atRest then setSec sc { x with settleN := 0 } s
  else if x.settleN = 0 then
    if settleMayBegin s sc then setSec sc { x with settleN := 1 } s else s
  else if settleQualifies s sc then
    if cfgF s (secO sc Reg.SEC_FSEQ) 3 0 ≤ x.settleN then settled sc s
    else setSec sc { x with settleN := x.settleN + 1 } s
  else setSec sc { x with settleN := 1 } s

/-! ### Switch-on (R196, R197) -/

/-- A sector with units requested starts its switch-on: the operating-point voltage is commanded (R196). -/
def trySwitchOn (sc : Nat) (s : State) : State :=
  let x := sec s sc
  if x.sw = .off && x.prof = .idle && !x.reqs.isEmpty && domainRun s (domOf sc) && x.mode != .dark && x.offAt == none then
    let s1 := setSec sc { x with base := chan0, gb := chan0, pre := chan0, cmdGb := none, cmdPre := none } s
    let s2 := baseCmd sc (opVolt s (domOf sc)) s1
    when (gbTarget s2 sc != 0) (issueGb sc) s2
  else s

/-- The first admission after OFF: CELLS, at rest at 0.50 V (R196); a LOGIC sector's code becomes a pending rise
from 0, the others drive 255 (R189). `HALFRATE` is of one switch-on: it begins clear and is cleared at the switch-off (DESIGN
CHOICE, log entry 50: R198 says only when it is set). -/
def enterCells (sc : Nat) (s : State) : State :=
  let x := sec s sc
  if x.sw = .off && x.prof = .slewing && x.cmdBase == none then
    setSec sc { x with sw := .cells, swAt := now s, base := x.base.place (1000 * q32), halfRate := false,
                       rise := if domOf sc = 0 then some (opFcap s) else none, fcap := if domOf sc = 0 then 0 else 255,
                       retained := x.retained ++ x.wants, wants := [] } s
  else s

/-- Every cluster is enabled and its cells regulate: RAMP, from the mean sensed cluster voltage (R196). -/
def enterRamp (sc : Nat) (s : State) : State :=
  let x := sec s sc
  let ready := (secClus sc).all (fun g => (clu s g).enabled && (inState s g (· == .start)).isEmpty)
  if x.sw = .cells && ready then
    let sum := (secClus sc).foldl (fun t g => t + (clu s g).vclu) 0
    let p := clamp ((sum : Int) * 0x40000000) (1000 * q32) (2100 * q32)
    setSec sc { x with sw := .ramp, base := x.base.place p } s
  else s

/-- A sector in GATES or ON is in GATES while a requested unit awaits its grant (R196). -/
def gatesOrOn (x : Sector) : Sector :=
  { x with sw := if x.sw = .gates || x.sw = .on then (if x.reqs.isEmpty then .on else .gates) else x.sw }

/-- Retention begins when no unit is on or requested and one at least is retained; or goes on, where it was about to end and
every request was withdrawn (R199). -/
def beginRetention (sc : Nat) (s : State) : State :=
  let x := sec s sc
  if x.reqs.isEmpty && x.granted.isEmpty && !x.retained.isEmpty &&
      (x.mode == .run || x.mode == .coast || (x.mode == .retain && x.wakeDue)) then
    let s1 := engineRetain sc (setSec sc (gatesOrOn { x with wakeDue := false }) s)
    when (wantBase s1 sc != lastBase x) (baseCmd sc (wantBase s1 sc)) s1
  else s

/-- Units that left RETAIN are granted once the engine has woken, and ON ends or begins GATES (R196, R199). -/
def gateStep (sc : Nat) (s : State) : State :=
  let x := sec s sc
  if (x.sw = .gates || x.sw = .on) && !x.wakeDue && (x.mode == .run || x.mode == .coast) && x.offAt == none then
    let back := x.reqs.filter (fun r => x.retained.contains r.unit)
    let left := x.reqs.filter (fun r => !x.retained.contains r.unit)
    beginRetention sc
      (setSec sc (gatesOrOn { x with
        reqs := left, granted := x.granted ++ back.map (fun r => (r.unit, false, now s)),
        retained := x.retained.filter (fun u => !back.any (fun r => r.unit == u)), waking := false }) s)
  else s

/-! ### The sector's step (R174, R194) -/

/-- Motion: each channel steps, or holds; arrival of a base command begins SETTLING. -/
def moveStep (sc : Nat) (s : State) : State :=
  let x := sec s sc
  let held := (secClus sc).any (fun g => (clu s g).schuss != .idle || droopBefore s g)
  if held then
    setSec sc { x with hold := true, base := x.base.halt, gb := x.gb.halt, pre := x.pre.halt, settleN := 0,
                       prof := if x.prof = .slewing then .held else x.prof } s
  else
    let prof := if x.prof = .held then ProfState.slewing else x.prof
    let base := if x.sw = .cells || x.sw = .off || x.base.rests then x.base else x.base.step (baseLim s sc)
    let gb := if x.gb.rests then x.gb else x.gb.step (baseLim s sc)
    let pre := if x.pre.rests then x.pre else x.pre.step (preLim s sc)
    let arrived := prof == .slewing && x.sw != .cells && x.sw != .off && base.rests && base.wait == none && x.cmdBase == none
    setSec sc { x with hold := false, base := base, gb := gb, pre := pre,
                       prof := if arrived then .settling else prof,
                       settleAt := if arrived then now s else x.settleAt,
                       settleSaid := if arrived then false else x.settleSaid,
                       settleN := if arrived then 0 else x.settleN } s

/-- The SP of this step, presented one control period later (R174). -/
def presentStep (sc : Nat) (s : State) : State :=
  let x := sec s sc
  let sp := if x.sw = .off || x.prof = .idle then 0
    else (clamp (roundDiv (x.base.pos + x.gb.pos + x.pre.pos) q32) 1000 2100).toNat
  setSec sc { x with sp := presented s sc, spNext := sp, spDue := now s + controlP } s

def sectorStep (sc : Nat) (s : State) : State :=
  let s0 := takeFall sc (trySwitchOn sc s)
  if (sec s0 sc).prof = .idle then presentStep sc s0
  else
    let s1 := takePre sc (setSec sc (takeCmds s0 (sec s0 sc)) s0)
    let s2 := enterRamp sc (enterCells sc (admitCmds sc s1))
    presentStep sc (gateStep sc (settleStep sc (moveStep sc s2)))

/-- Chairlift holds the SP of a sector in DARK (R161). -/
def execChairliftSectorStep (sc : Nat) (s : State) :=
  act s (atTick s controlP 0 && decide (sc < sectors s))
    (if (sec s sc).mode = .dark then setSec sc { sec s sc with sp := presented s sc } s else sectorStep sc s)

def execClusterEnable (g : Nat) (s : State) :=
  let sc := g / 4
  let x := sec s sc
  act s (decide (sc < sectors s) && x.sw == .cells && !(clu s g).enabled && atTick s controlP 0 &&
      decide (x.swAt + controlP * (g % 4 + 1) ≤ now s))
    (enableCluster g (cfgF s (secO sc Reg.SEC_SWON) 6 0) (when (x.mode == .off) (engineWake sc) s))

/-- A timeout is judged after the step of its own tick, whose admission or settling wins over it (R187, R193, R45). -/
def stepTaken (s : State) (sc : Nat) : Bool :=
  !atTick s controlP 0 || (sec s sc).mode == .dark || (sec s sc).spDue == now s + controlP

def execChlIlkTimeout (sc : Nat) (s : State) :=
  let lim := usTicks (cfgF s (secO sc Reg.SEC_ILK) 11 0)
  let late := fun (c : Chan) => !c.said && (match c.wait with
    | some t => decide (t + lim ≤ now s)
    | none => false)
  let x := sec s sc
  let mark := fun (c : Chan) => if late c then { c with said := true } else c
  act s (stepTaken s sc && (late x.base || late x.gb))
    (raise Src.CHL_ILK_TIMEOUT sc (setSec sc { x with base := mark x.base, gb := mark x.gb } s))

def execChlSettleTimeout (sc : Nat) (s : State) :=
  let x := sec s sc
  act s (stepTaken s sc && x.prof == .settling && !x.settleSaid &&
      decide (x.settleAt + usTicks (cfgF s (secO sc Reg.SEC_FSEQ) 27 16) ≤ now s))
    (raise Src.CHL_SETTLE_TIMEOUT sc (setSec sc { x with settleSaid := true } s))

/-! ### Inrush (R197, R198) -/

def inrush0 : Inrush := { resv := [], last := none }
def inrush (s : State) (q : Nat) : Inrush := Store.get s.inrush inrush0 q
def setInr (q : Nat) (x : Inrush) (s : State) : State := s.setInrush (Store.set s.inrush inrush0 q x)

/-- A request that waits, with its sector. -/
abbrev Waiting := Nat × UnitReq

def earlier (a b : Waiting) : Bool :=
  decide (a.2.stamp < b.2.stamp) || (a.2.stamp == b.2.stamp && (decide (a.1 < b.1) || (a.1 == b.1 && decide (a.2.unit < b.2.unit))))

/-- A sector's requests may be granted: it is in GATES, and not in a retention or waking from one (R197, R199). -/
def mayGrant (x : Sector) : Bool := x.sw == .gates && x.offAt == none && x.mode != .retain && !x.wakeDue && !x.waking

/-- Requests of a quadrant's sectors in GATES, retained units apart. -/
def gateReqs (s : State) (q : Nat) : List Waiting :=
  (upto 16).foldl (fun l i =>
    let sc := 16 * q + i
    let x := sec s sc
    if mayGrant x then
      l ++ (x.reqs.filter (fun r => !x.retained.contains r.unit)).map (fun r => (sc, r)) else l) []

/-- A grant's reservation in half amperes, and its time. -/
def inrushCost (s : State) (q sc rate : Nat) : Nat × Nat :=
  let full := (cfg s (qdO q Reg.QD_ICOST)).field (8 * domOf sc + 7) (8 * domOf sc)
  let t := cfgF s (qdO q Reg.QD_INRUSH) 23 16 * 125
  if rate = 2 then (full, 2 * t) else (2 * full, t)

def inrushFits (s : State) (q sc rate : Nat) : Bool :=
  let c := (inrushCost s q sc rate).1
  let budget := 2 * cfgF s (qdO q Reg.QD_INRUSH) 11 0
  let used := (inrush s q).resv.foldl (fun t r => t + r.halfA) 0
  decide (used + c ≤ budget) || (decide (budget < c) && (inrush s q).resv.isEmpty)

/-- The oldest request that may be granted. -/
def nextGrant (s : State) (q : Nat) : Option Waiting :=
  ((gateReqs s q).filter (fun r => r.2.rate != 0 && inrushFits s q r.1 r.2.rate)).foldl
    (fun b r => match b with
      | none => some r
      | some x => if earlier r x then some r else b) none

def grantUnit (q : Nat) (r : Waiting) (s : State) : State :=
  let (c, t) := inrushCost s q r.1 r.2.rate
  let i := inrush s q
  let s1 := setInr q { resv := i.resv ++ [⟨c, now s + t, r.1⟩], last := some (now s) } s
  let s2 := modSec r.1 (fun x =>
    let left := x.reqs.filter (fun y => y.unit != r.2.unit)
    gatesOrOn { x with reqs := left, granted := x.granted ++ [(r.2.unit, r.2.rate == 2, now s)] }) s1
  when (r.2.rate == 2) (bump (qdO q Reg.QD_HALFRATE)) (bump (qdO q Reg.QD_GRANTS) s2)

def execInrushGrant (q : Nat) (s : State) :=
  match nextGrant s q with
  | some r => act s (atTick s controlP 0 && (inrush s q).last != some (now s)) (grantUnit q r s)
  | none => act s false s

def execInrushReservationEnd (q : Nat) (s : State) :=
  let i := inrush s q
  act s (i.resv.any (fun r => decide (r.ends ≤ now s)))
    (setInr q { i with resv := i.resv.filter (fun r => decide (now s < r.ends)) } s)

/-- A sector's latest M exceeds `pct` % of its continuous capacity, 1.0 A per active cell. -/
def neighbourBusy (s : State) (pct n : Nat) : Bool :=
  let cap := (secClus n).foldl (fun t g => t + cluActive s g) 0
  decide (pct * cap < (live s (secO n Reg.SEC_MSUM)).field 15 0)

def neighbours (s : State) (sc : Nat) : List Nat :=
  ((s.params.sectorAdj.find? (fun p => p.1 == sc)).map (·.2)).getD []

def checkUnit (sc : Nat) (r : UnitReq) (s : State) : State :=
  let q := sc / 16
  let busy := (neighbours s sc).any (neighbourBusy s (cfgF s (qdO q Reg.QD_INRUSH) 30 24))
  let t0 := r.first.getD (now s)
  let last := decide (t0 + usTicks (cfgF s (qdO q Reg.QD_NBRMAX) 7 0) ≤ now s)
  let rate := if !busy then 1 else if last then 2 else 0
  let s1 := modSec sc (fun x => { x with
    reqs := x.reqs.map (fun y => if y.unit = r.unit then { y with first := some t0, rate := rate } else y)
    halfRate := x.halfRate || rate == 2 }) s
  when (rate == 2) (raise Src.CHL_INRUSH_DEFER sc) s1

def execNeighbourCheck (sc unit : Nat) (s : State) :=
  match (gateReqs s (sc / 16)).find? (fun r => r.1 == sc && r.2.unit == unit) with
  | some (_, r) =>
    act s (r.rate == 0 && (match r.first with
      | none => true
      | some t => (now s - t) % 1250 == 0 && decide (t < now s))) (checkUnit sc r s)
  | none => act s false s

/-! ### Units requested, retained and released (R196, R199, R200) -/

/-- The seating plan requests a unit ON. A sector in retention profiles back to its operating target first. -/
def requestUnit (sc unit : Nat) (s : State) : State :=
  let x := sec s sc
  if x.reqs.any (fun r => r.unit == unit) || x.granted.any (fun g => g.1 == unit) then s
  else
    let s1 := setSec sc (gatesOrOn { x with reqs := x.reqs ++ [⟨unit, now s, none, 0⟩], wants := x.wants.filter (· != unit) }) s
    if x.mode = .retain && !x.wakeDue then
      baseCmd sc (opVolt s (domOf sc)) (modSec sc (fun x => { x with wakeDue := true }) s1)
    else trySwitchOn sc s1

/-- Switch-off begins: every grant is withdrawn (R200). A command not yet admitted from OFF is discarded. -/
def beginSwitchOff (sc : Nat) (s : State) : State :=
  let x := sec s sc
  if x.sw = .off then
    setSec sc { x with reqs := [], granted := [], retained := [], prev := outcome x 7, prof := .idle, cmdBase := none, fallDue := none,
                       cmdGb := none, cmdPre := none, rise := none, base := chan0, gb := chan0, pre := chan0 } s
  else
    setSec sc { x with reqs := [], granted := [], retained := [],
                       offAt := some (now s + cfgF s (qdO (sc / 16) Reg.QD_INRUSH) 23 16 * 125) } s

/-- The seating plan puts a unit to RETAIN; one whose sector is OFF stays OFF until the sector leaves it (R419). -/
def retainUnit (sc unit : Nat) (s : State) : State :=
  let x := sec s sc
  if x.sw = .off || x.offAt.isSome then
    setSec sc { x with reqs := x.reqs.filter (fun r => r.unit != unit),
                       wants := if x.wants.contains unit then x.wants else x.wants ++ [unit] } s
  else
    beginRetention sc (setSec sc (gatesOrOn { x with
      granted := x.granted.filter (fun g => g.1 != unit), reqs := x.reqs.filter (fun r => r.unit != unit)
      retained := if x.retained.contains unit then x.retained else x.retained ++ [unit] }) s)

/-- The seating plan puts a unit OFF. -/
def releaseUnit (sc unit : Nat) (s : State) : State :=
  let x := sec s sc
  let held := x.granted.any (fun g => g.1 == unit) || x.retained.contains unit || x.reqs.any (fun r => r.unit == unit)
  let y := gatesOrOn { x with granted := x.granted.filter (fun g => g.1 != unit), retained := x.retained.filter (· != unit),
                              wants := x.wants.filter (· != unit), reqs := x.reqs.filter (fun r => r.unit != unit) }
  if !held then setSec sc y s
  else if y.granted.isEmpty && y.retained.isEmpty && y.reqs.isEmpty then beginSwitchOff sc (setSec sc y s)
  else beginRetention sc (setSec sc y s)

/-- The channels of a sector go IDLE with SP absent, and `FCAP` 0 (R200, R201). -/
def sectorIdle (sc : Nat) (s : State) : State :=
  modSec sc (fun x => { x with
    prev := outcome x 7, prof := .idle, cmdBase := none, fallDue := none, cmdGb := none, cmdPre := none, rise := none, fcap := 0,
    base := chan0, gb := chan0, pre := chan0, sw := .off, hold := false, settleN := 0, offAt := none, wakeDue := false, waking := false,
    sp := 0, spNext := 0, halfRate := false }) s

/-- The end of a switch-off (R200): cells OFF, engine OFF but for DARK, channels IDLE. -/
def switchOffDone (sc : Nat) (s : State) : State :=
  let s1 := forEach (secClus sc) cellsOff s
  let s2 := sectorIdle sc (engineOff sc (setLive (secO sc Reg.SEC_DEMAND) 0 s1))
  s2

def execSwitchOffComplete (sc : Nat) (s : State) :=
  match (sec s sc).offAt with
  | some t => act s (decide (t ≤ now s)) (switchOffDone sc s)
  | none => act s false s

/-- What a domain taken to TRIPPED does to a sector of it (R201, R110, R161, R162): the profile is discarded, its
reservations are released, the cells and the engine go OFF, the stored integrators are void. Units that were on
are requested again, so that the sector switches on afresh after recovery. -/
def sectorDiscard (sc : Nat) (s : State) : State :=
  let q := sc / 16
  let i := inrush s q
  let s1 := setInr q { i with resv := i.resv.filter (fun r => r.sector != sc) } s
  let s2 := modSec sc (fun x => { x with
    reqs := x.reqs.map (fun r => { r with first := none, rate := 0 }) ++ x.granted.map (fun g => ⟨g.1, now s, none, 0⟩),
    granted := [], retained := [], wants := x.wants ++ x.retained.filter (fun u => !x.reqs.any (fun r => r.unit == u)) }) s1
  voidStore sc (switchOffDone sc s2)

/-! ### Status words -/

/-- The power state that the block drives for a unit of a sector: 0 OFF, 1 RETAIN, 2 ON (R419, R543); OFF while the outputs are
held (R530). -/
def unitState (s : State) (sc unit : Nat) : Nat :=
  let x := sec s sc
  if s.boot.held || x.sw == .off || !domainRun s (domOf sc) then 0
  else if x.granted.any (fun u => u.1 == unit) then 2
  else if x.retained.contains unit then 1 else 0

/-- `SEC_PROF` (R204). -/
def secProf (s : State) (sc : Nat) : Word :=
  let x := sec s sc
  let code := match x.prof with
    | .idle => 0
    | .waiting => 1
    | .slewing => 2
    | .held => 3
    | .settling => 4
    | .done => 5
  BitVec.ofNat 32 (code + 16 * x.prev + 256 * x.seq + 0x10000 * b2n x.rise.isSome + 0x20000 * b2n x.hold +
    0x1000000 * x.fcap)

/-- `SEC_SP` (R203). -/
def secSp (s : State) (sc : Nat) : Word :=
  BitVec.ofNat 32 (presented s sc + 0x10000 * (satN 12 (targetSum (sec s sc))))

/-- `SEC_SWST` (R203). -/
def secSwst (s : State) (sc : Nat) : Word :=
  let x := sec s sc
  let code := match x.sw with
    | .off => 0
    | .cells => 1
    | .ramp => 2
    | .gates => 3
    | .on => 4
  BitVec.ofNat 32 (code + 8 * b2n x.halfRate + 256 * Nat.min x.granted.length 255)

/-- `QD_INRUSH_USE` (R205), the amperes reserved rounded by R11. -/
def inrushUse (s : State) (q : Nat) : Word :=
  let used : Nat := (inrush s q).resv.foldl (fun t r => t + r.halfA) 0
  BitVec.ofNat 32 ((satN 12 (roundDiv used 2)) + 0x10000 * Nat.min (gateReqs s q).length 255)

end Sys2Proof.Machine
end

