-- ==== Sys2Proof/Machine/Seating.lean ====
section
/-! DEFINITION. The seating plan at work (R401 to R428): power states of tiles and bank groups, the placement
engine, migrations, flips and reverts, power scrubs. -/

namespace Sys2Proof.Machine

def modSeat (f : Seat → Seat) (s : State) : State := s.setSeat (f s.seat)
def modMig (f : Mig → Mig) (s : State) : State := modSeat (fun x => { x with mig := f x.mig }) s

/-- A shut-down is in progress or over: every unit is off (R547). -/
def shutting (s : State) : Bool := s.boot.state == .stopping || s.boot.state == .stopped

/-- STOPPED is reached once every domain is in OFF or TRIPPED, nothing is queued for the store, and nothing is being
programmed or erased (R532, R546). -/
def stopCheck (s : State) : State :=
  when (s.boot.state == .stopping && (upto 4).all (fun d => (stage s d).state == .off || (stage s d).state == .tripped) &&
      s.cal.queue.isEmpty && s.cal.redo.isNone && s.cal.prog.isNone && s.cal.erase.isNone)
    (fun s => s.setBoot { s.boot with state := .stopped, shutOn := false }) s

/-! ### Bank groups (R419) -/

/-- The sector that feeds a bank group. -/
def groupSec (s : State) (g : Nat) : Nat := ((unitCluster s.params 1 g).getD 0) / 4

/-- The request of a group: 0 OFF, 1 RETAIN, 2 ON, 3 AUTO. -/
def groupReq (s : State) (g : Nat) : Nat := cfgF s (seatO (Reg.SEAT_GREQ (g / 16))) (2 * (g % 16) + 1) (2 * (g % 16))

/-- The logical entries of a group's serving banks, with their logical numbers. -/
def groupServing (s : State) (g : Nat) : List (Nat × Word) :=
  ((banksOf g).filter (fun b => role s .bank b == 1)).map (fun b => (roleLog s .bank b, logEntry s .bank (roleLog s .bank b)))

/-- A migration keeps the group ON: its source or destination lies in it, or its source drains from it. -/
def migHolds (s : State) (g : Nat) : Bool :=
  let m := s.seat.mig
  m.kind == .bank && (match m.state with
    | .idle => false
    | .grace => bankGroup m.src == g
    | _ => bankGroup m.src == g || (!m.unmap && bankGroup m.dst == g))

/-- The output sought for a group: 0 OFF, 1 RETAIN, 2 ON. -/
def groupSeek (s : State) (g : Nat) : Nat :=
  if (s.seat.holds.find g).isSome || (sec s (groupSec s g)).vacated || shutting s then 0
  else if migHolds s g then 2
  else
    let r := groupReq s g
    if r != 3 then r
    else if !cfgB s (seatO Reg.SEAT_CTL) 4 || (s.seat.awake.find g).isSome then 2
    else if (groupServing s g).any (fun e => entryRes e.2 || entryOwner e.2 != 0) then 1
    else 0

/-- The output of a group (R419). -/
def groupOut (s : State) (g : Nat) : Nat := unitState s (groupSec s g) g

/-- A group is asked for what it seeks; outside RUN its sector is off, and entry to RUN asks afresh. -/
def syncGroup (g : Nat) (s : State) : State :=
  if !domainRun s 1 then s
  else
    let sc := groupSec s g
    let k := groupSeek s g
    if k = 2 then requestUnit sc g s else if k = 1 then retainUnit sc g s else releaseUnit sc g s

def syncGroups (s : State) : State := forEach (upto (groupCount s.params)) syncGroup s

/-- At entry of ARRAY to RUN every group counts as idle. -/
def arrayRun (s : State) : State := syncGroups (modSeat (fun x => { x with awake := [] }) s)

/-- A stamp of a group ends its idleness and restarts its timer. -/
def wakeGroup (g : Nat) (s : State) : State :=
  if g < groupCount s.params then syncGroup g (modSeat (fun x => { x with awake := x.awake.put g (now s) }) s) else s

/-- `SEAT_WAKE` (R419). -/
def seatWake (w : Word) (s : State) : State := when (w.bit 8) (wakeGroup (w.field 6 0)) s

def execSeatWake (a : Access) (g : BitVec 7) (s : State) :=
  act s (reaches s a) (hostCmd a (seatWake (BitVec.ofNat 32 (0x100 + g.toNat))) s)

/-- A bank group has had no wake for `SEAT_IDLE` (R419). -/
def idleDue (s : State) (g : Nat) : Bool :=
  match s.seat.awake.find g with
  | some t => decide (t + usTicks (cfgF s (seatO Reg.SEAT_IDLE) 11 0) ≤ now s)
  | none => false

/-- A wake stamped in the tick of the expiry is in time (R45). -/
def execBankGroupIdle (g : Nat) (s : State) := act s (idleDue s g) (expire (.idle g) s)

def idleOver (g : Nat) (s : State) : State :=
  when (idleDue s g) (fun s => syncGroup g (modSeat (fun x => { x with awake := x.awake.del g }) s)) s

/-! ### Tiles (R418) -/

def tileSec (s : State) (t : Nat) : Nat := tileCluster s.params t / 4

def syncTile (t : Nat) (s : State) : State :=
  let r := role s .tile t
  if (r = 1 || r = 3 || r = 5) && !(sec s (tileSec s t)).vacated && !shutting s then requestUnit (tileSec s t) t s
  else releaseUnit (tileSec s t) t s

/-- At entry of LOGIC to RUN the plan asks for its tiles. -/
def logicRun (s : State) : State := forEach (upto (unitCount s.params 0)) syncTile s

def syncUnit (k : UnitKind) (i : Nat) (s : State) : State :=
  match k with
  | .tile => syncTile i s
  | .bank => syncGroup (bankGroup i) s

/-! ### Request records (R413, R561, R562) -/

/-- A stream's address in the mode of its bit of `HOST_INITCFG`, with a ring offset (R486, R562). -/
def initAddr (message : Bool) (hi lo : Word) (off : Nat) : Nat :=
  if message then (hi.field 31 15 * 0x8000 + hi.field 9 0) * 0x100000000 + (lo.field 31 4 * 16 + off) % 0x100000000
  else (hi.toNat * 0x100000000 + lo.toNat + off) % 0x10000000000000000

/-- A secure write of a stream under its mode, with the source that every one carries (R561, R562). -/
def initWrite (message : Bool) (hi lo : Word) (off : Nat) (words : List Word) (s : State) : InitWrite :=
  { addr := initAddr message hi lo off, shared := !message, chip := s.params.chip, tile := s.params.fjTile, secure := true,
    words := words }

/-- A record of `KIND` `kind` for the migration in hand, under the mode in effect. -/
def migRecord (kind : Nat) (s : State) : InitWrite :=
  let m := s.seat.mig
  initWrite (cfgB s (hostO Reg.HOST_INITCFG) 1) (cfg s (seatO Reg.SEAT_MIGADDR_HI)) (cfg s (seatO Reg.SEAT_MIGADDR_LO)) 0 [
    BitVec.ofNat 32 (kind + 0x100 * m.seq + 0x10000 * ((planEpoch s + 1) % 256) + 0x1000000 * planEpoch s),
    BitVec.ofNat 32 m.logical, BitVec.ofNat 32 (m.src + 0x10000 * m.dst), 0x10000000] s

/-- A record is written, behind one still outstanding. -/
def sendMig (kind : Nat) (s : State) : State :=
  let w := migRecord kind s
  match s.seat.recNow with
  | none => initSend true w (modSeat (fun x => { x with recNow := some w }) s)
  | some _ => modSeat (fun x => { x with recs := x.recs ++ [w] }) s

/-- The response to a request record; an error is not retried (R561). The next one is written. -/
def execMigRecordResponse (_ok : Bool) (s : State) :=
  act s s.seat.recNow.isSome
    (let s1 := modSeat (fun x => { x with recNow := x.recs.head?, recs := x.recs.drop 1 }) s
     match s1.seat.recNow with
     | some w => initSend true w s1
     | none => s1)

/-! ### Migration (R412 to R414) -/

def kindNat (k : UnitKind) : Nat := match k with | .tile => 0 | .bank => 1
def migDetail (k : UnitKind) (logical : Nat) : Nat := logical + 0x8000 * kindNat k

/-- A counter of `SEAT_MIGABORT`. -/
def abortCount (hi lo : Nat) (s : State) : State := bumpF (seatO Reg.SEAT_MIGABORT) hi lo s

/-- R407 allows a flip in the present estimate period. -/
def flipAllowed (s : State) : Bool :=
  match s.seat.lastMov with
  | some k => decide (k + 4 ≤ estNo s)
  | none => true

/-- A DARK sector of the plan's domains whose units are all vacated is switched off (R415, R200). A LINK or MIF sector
feeds no unit that the plan places, and is left on (DEDUCED, log entry 24). -/
def checkDark (sc : Nat) (s : State) : State :=
  let idle := fun (u : UnitKind × Nat) => let r := role s u.1 u.2; r != 1 && r != 3 && r != 5
  let units := (secClus sc).foldl (fun l g => l ++ (cluUnits s.params g).map (fun i => (cluKind g, i))) []
  if (sec s sc).mode = .dark && decide (domOf sc < 2) && units.all idle then
    let s1 := modSec sc (fun x => { x with vacated := true }) s
    if (sec s1 sc).sw = .off || (sec s1 sc).offAt.isSome then s1 else beginSwitchOff sc s1
  else s

/-- A unit has left service: its power follows the plan, and its sector's may end. -/
def leaveUnit (k : UnitKind) (i : Nat) (s : State) : State :=
  checkDark (((physCluster s.params k i).getD 0) / 4) (syncUnit k i s)

/-- An abandon before the flip (R414): the destination is a spare again, the source is left for a while; a
migration in COPY is cancelled by a record. -/
def abandonMig (s : State) : State :=
  let m := s.seat.mig
  if m.state = .power || m.state = .copy || m.state = .flip then
    let s1 := when (m.state == .copy) (sendMig 3) s
    let gap := cfgF s (seatO Reg.SEAT_MIGCFG) 31 24
    let s2 := modSeat (fun x => { x with
      mig := { m with state := .idle, from0 := now s }
      retry := (m.kind, m.src, capNo s + gap) :: x.retry.filter (fun r => decide (capNo s < r.2.2)) }) s1
    let s3 := when (!m.unmap) (fun s => leaveUnit m.kind m.dst (setRole m.kind m.dst 2 0 s)) s2
    raiseOn Src.SEAT_MIG_ABORT (migDetail m.kind m.logical) 0x09 1 (ownerReset 2 (syncUnit m.kind m.src s3))
  else s

/-- A destination is prepared and POWER begins; a unit to be unmapped only waits for its flip (R415). -/
def beginMig (cause : Nat) (k : UnitKind) (logical src : Nat) (dst : Option Nat) (retire : Bool) (s : State) : State :=
  let m := s.seat.mig
  let m' : Mig := { m with
    state := if dst.isSome then .power else .flip, kind := k, logical := logical, src := src, dst := dst.getD 0,
    cause := cause, seq := (m.seq + 1) % 256, from0 := now s, retire := retire, unmap := dst.isNone, revert := false }
  let s1 := modMig (fun _ => m') s
  syncUnit k src (match dst with
    | some d => syncUnit k d (setRole k d 5 logical s1)
    | none => s1)

/-- The tick at which a unit was granted its power, with whether at half rate. -/
def unitGrant (s : State) (k : UnitKind) (i : Nat) : Option (Bool × Nat) :=
  let (sc, u) := match k with
    | .tile => (tileSec s i, i)
    | .bank => (groupSec s (bankGroup i), bankGroup i)
  ((sec s sc).granted.find? (fun g => g.1 == u)).map (·.2)

/-- The destination is ready (R412): its grant has lasted its grant time. -/
def destReady (s : State) : Bool :=
  let m := s.seat.mig
  match unitGrant s m.kind m.dst, physCluster s.params m.kind m.dst with
  | some (half, t), some g =>
    decide (t + (if half then 250 else 125) * cfgF s (qdO (g / 64) Reg.QD_INRUSH) 23 16 ≤ now s)
  | _, _ => false

def execMigrationDestReady (s : State) :=
  act s (s.seat.mig.state == .power && atTick s controlP 0 && destReady s)
    (sendMig (1 + kindNat s.seat.mig.kind) (modMig (fun m => { m with state := .copy, from0 := now s }) s))

/-- The destination's readiness in the tick of the timeout wins (R45). -/
def execMigrationPowerTimeout (s : State) :=
  act s (s.seat.mig.state == .power && !(atTick s controlP 0 && destReady s) &&
      decide (s.seat.mig.from0 + usTicks (10 * cfgF s (seatO Reg.SEAT_MIGCFG) 23 16) ≤ now s))
    (abandonMig (abortCount 23 16 s))

/-- COPY has lasted its time with no acknowledgement. -/
def copyDue (s : State) : Bool :=
  s.seat.mig.state == .copy && decide (s.seat.mig.from0 + usTicks (10 * cfgF s (seatO Reg.SEAT_MIGCFG) 11 0) ≤ now s)

/-- An acknowledgement stamped in the tick of the timeout wins (R45, R412). -/
def execMigrationCopyTimeout (s : State) := act s (copyDue s) (expire .copy s)

/-- The migration is abandoned in the tick in which the time of COPY ran out. -/
def copyOver (s : State) : State := when (copyDue s) (fun s => abandonMig (abortCount 7 0 s)) s

/-- `SEAT_MIGACK` (R414, R426). -/
def seatAck (w : Word) (s : State) : State :=
  let m := s.seat.mig
  let st := w.field 9 8
  if m.state != .copy then bumpF (seatO Reg.SEAT_MIGERR) 31 16 s
  else if w.field 7 0 != m.seq || st == 0 || st == 3 then bumpF (seatO Reg.SEAT_MIGERR) 15 0 s
  else if st = 1 then modMig (fun m => { m with state := .flip, from0 := now s }) s
  else abandonMig (abortCount 15 8 s)

def execSeatMigack (a : Access) (seq : BitVec 8) (st : BitVec 2) (s : State) :=
  act s (reaches s a) (hostCmd a (seatAck (BitVec.ofNat 32 (seq.toNat + 0x100 * st.toNat))) s)

/-! ### Flip, grace and revert (R407 to R410) -/

/-- Trail's records whose logical tile the change moves (R226). -/
def flushMoved (k : UnitKind) (logical src : Nat) (s : State) : State :=
  match k with
  | .bank => s
  | .tile => forEach (upto (quads s)) (fun q => flushWhere false q (fun x => x.w0.field 9 0 == logical && x.phys == src)) s

/-- The prepared plan becomes current. -/
def flip (s : State) : State :=
  let m := s.seat.mig
  let p := s.plan
  let saved : Flipped := ⟨p, s.seat.lastMov, s.seat.beyond, s.seat.wearAt, s.seat.turn, live s (seatO Reg.SEAT_MIGS)⟩
  let e := logEntry s m.kind m.logical
  let e' := if m.unmap then e.put 15 15 0 else Word.put e 12 0 m.dst
  let s1 := modPlan (fun p => { p with
    prevT := p.tiles, prevB := p.banks, kept := true, prev := p.epoch, epoch := (p.epoch + 1) % 256, reverted := false }) s
  let s2 := setRole m.kind m.src 3 m.logical (setLog m.kind m.logical e' s1)
  let s3 := when (!m.unmap) (setRole m.kind m.dst 1 m.logical) s2
  let g := (physCluster s.params m.kind m.src).getD 0
  let s4 := modSeat (fun x => { x with
    mig := { m with state := .grace, from0 := now s, before := some saved }
    lastMov := some (estNo s)
    beyond := match x.beyond.find g with
      | some (n, k) => x.beyond.put g (n, k + 1)
      | none => x.beyond
    wearAt := if m.cause = 5 then Store.put x.wearAt (g / 4) (powered s) else x.wearAt
    turn := if m.cause = 5 then g / 4 + 1 else x.turn }) s3
  let s5 := when (!m.unmap) (syncUnit m.kind m.dst) (syncUnit m.kind m.src s4)
  bump (seatO Reg.SEAT_MIGS) (flushMoved m.kind m.logical m.src s5)

/-- The migrated unit returns to where the previous plan has it: the source serves, the destination is a spare. The fields
of R404 stay as they are. -/
def unflip (s : State) : State :=
  let m := s.seat.mig
  let old := prevEntry s m.kind m.logical
  let e := Word.put (Word.put (logEntry s m.kind m.logical) 12 0 (entryPhys old)) 15 15 (b2n (entryValid old))
  when (!m.unmap) (setRole m.kind m.dst 2 0) (setRole m.kind m.src 1 m.logical (setLog m.kind m.logical e s))

/-- The units of a migration that is over without its flip follow their roles again. -/
def syncBack (m : Mig) (s : State) : State := when (!m.unmap) (leaveUnit m.kind m.dst) (syncUnit m.kind m.src s)

/-- The previous plan becomes current again (R414). The unit no longer counts as moved off its cluster (R417). -/
def revert (s : State) : State :=
  let m := s.seat.mig
  let s3 := modPlan (fun p => { p with epoch := p.prev, prev := p.epoch, kept := false, reverted := true }) (unflip s)
  let g := (physCluster s.params m.kind m.src).getD 0
  let s4 := modSeat (fun x => { x with
    mig := { m with state := .idle, revert := false, before := none }, lastMov := some (estNo s)
    beyond := match x.beyond.find g with
      | some (n, k) => x.beyond.put g (n, k - 1)
      | none => x.beyond }) s3
  let s5 := syncBack m s4
  raiseOn Src.SEAT_MIG_ABORT (migDetail m.kind m.logical) 0x09 1
    (abortCount 31 24 (flushMoved m.kind m.logical m.dst s5))

/-- An allowed estimate-period tick 0: a prepared plan becomes current, or a revert that is due is made. -/
def execSeatFlip (s : State) :=
  let m := s.seat.mig
  act s (atTick s estP 0 && ((m.state == .flip && flipAllowed s) || (m.state == .grace && m.revert)))
    (if m.state = .flip then flip s else revert s)


/-- The previous plan is dropped (R410): the source is a spare, or retired where that was asked (R427). -/
def graceEnd (s : State) : State :=
  let m := s.seat.mig
  let s1 := modPlan (fun p => { p with kept := false, prevT := [], prevB := [] }) s
  let s2 := setRole m.kind m.src (if m.retire then 4 else 2) 0 (modMig (fun m => { m with state := .idle, before := none }) s1)
  leaveUnit m.kind m.src s2

/-- An estimate-period tick 0 at which a migration's grace may end. -/
def graceDue (s : State) : Bool :=
  atTick s estP 0 && s.seat.mig.state == .grace && !s.seat.mig.revert && flipAllowed s

/-- A discard in the same tick still reverts (R45, R47, R414). -/
def execSeatGraceEnd (s : State) := act s (graceDue s) (expire .grace s)

def graceOver (s : State) : State := when (graceDue s) graceEnd s

/-- What a discard of work in flight does to a migration (R414). -/
def discardMig (s : State) : State :=
  let m := s.seat.mig
  match m.state with
  | .idle => s
  | .grace =>
    match m.before with
    | some b =>
      if m.from0 = now s then
        let gap := cfgF s (seatO Reg.SEAT_MIGCFG) 31 24
        let s3 := modPlan (fun p => { p with
          epoch := b.plan.epoch, prevT := b.plan.prevT, prevB := b.plan.prevB
          kept := b.plan.kept, prev := b.plan.prev, reverted := b.plan.reverted }) (unflip s)
        let s4 := modSeat (fun x => { x with
          mig := { m with state := .idle, before := none }, lastMov := b.lastMov, beyond := b.beyond, wearAt := b.wearAt
          turn := b.turn, retry := (m.kind, m.src, capNo s + gap) :: x.retry }) (setLive (seatO Reg.SEAT_MIGS) b.migs s3)
        raiseOn Src.SEAT_MIG_ABORT (migDetail m.kind m.logical) 0x09 1 (abortCount 31 24 (ownerReset 2 (syncBack m s4)))
      else modMig (fun m => { m with revert := true }) s
    | none => modMig (fun m => { m with revert := true }) s
  | _ => abandonMig (abortCount 31 24 s)

/-! ### The placement engine (R415 to R417) -/

/-- A decision: its cause, the unit, where its destination may lie. -/
structure Want where
  cause   : Nat
  kind    : UnitKind
  logical : Nat
  src     : Nat
  retire  : Bool
  deriving DecidableEq, Repr

/-- What a decision looks for and the pinned units it passed over. -/
structure Search where
  pinned : Nat
  want   : Option Want
  deriving DecidableEq, Repr

def inRetry (s : State) (k : UnitKind) (src : Nat) : Bool :=
  s.seat.retry.any (fun r => r.1 == k && r.2.1 == src && decide (capNo s < r.2.2))

/-- The serving units of a list, in its order, that may be tried. -/
def movable (s : State) (k : UnitKind) (l : List Nat) : List Nat :=
  l.filter (fun i => role s k i == 1 && entryValid (logEntry s k (roleLog s k i)) && !inRetry s k i)

def wantOf (s : State) (cause : Nat) (k : UnitKind) (i : Nat) : Want := ⟨cause, k, roleLog s k i, i, false⟩

/-- The first unit of a list that is not pinned (R416). -/
def firstFree (s : State) (cause : Nat) (k : UnitKind) (l : List Nat) : Search :=
  let pin := fun (i : Nat) => entryPin (logEntry s k (roleLog s k i))
  ⟨(l.takeWhile pin).length, ((l.dropWhile pin).head?).map (wantOf s cause k)⟩

/-- The first of several searches that finds a unit, with what the earlier ones passed over. -/
def orElse' (a : Search) (b : Search) : Search :=
  match a.want with
  | some _ => a
  | none => ⟨a.pinned + b.pinned, b.want⟩

/-- Cause 1. -/
def seekDark (s : State) : Search :=
  let l := ((upto (sectors s)).filter (fun i => (sec s i).mode == .dark)).foldl (fun l sc =>
    l ++ ((secClus sc).foldl (fun l g => l ++ cluUnits s.params g) []).map (fun u => (cluKind (4 * sc), u))) []
  let ok := l.find? (fun (k, u) => !(movable s k [u]).isEmpty)
  ⟨0, ok.map (fun (k, u) => wantOf s 1 k u)⟩

/-- Cause 2: the first command that can be tried; those before it that no longer name a unit are dropped. -/
def cmdUnit (s : State) (c : SeatCmd) : Option Nat :=
  if c.retire then (if role s c.kind c.index = 1 then some c.index else none)
  else
    let e := logEntry s c.kind c.index
    if entryValid e && role s c.kind (entryPhys e) == 1 then some (entryPhys e) else none

def seekCmd (s : State) : Option (SeatCmd × Nat) :=
  s.seat.cmds.foldl (fun b c => match b with
    | some x => some x
    | none => match cmdUnit s c with
      | some i => if inRetry s c.kind i then none else some (c, i)
      | none => none) none

/-- One of the last `SEAT_PEAK.WIN` estimate periods (R417). -/
def inWindow (s : State) (p : Nat) : Bool :=
  decide (p < estNo s) && decide (estNo s ≤ p + cfgF s (seatO Reg.SEAT_PEAK) 15 0)

/-- The records that Trail evaluated for a physical tile within the window. -/
def evalCount (s : State) (i : Nat) : Nat := (s.seat.evals.filter (fun e => e.2 == i && inWindow s e.1)).length

/-- Units in order of their records, most first, then of their number. -/
def insertByCount (s : State) (k : UnitKind) (x : Nat) : List Nat → List Nat
  | [] => [x]
  | y :: r =>
    let c := fun (i : Nat) => match k with
      | .tile => evalCount s i
      | .bank => 0
    if c y < c x || (c y == c x && decide (x ≤ y)) then x :: y :: r else y :: insertByCount s k x r

def byCount (s : State) (k : UnitKind) (l : List Nat) : List Nat := l.foldr (insertByCount s k) []

/-- The peak of a cluster, 32 times (R417). -/
def peak32 (s : State) (g : Nat) : Int :=
  let hold := ((win s (g / 64)).slots.filter (fun x => x.2.clu == g && (x.2.state == .opened || x.2.state == .held))).foldl
    (fun t x => t + x.2.pred.getD 0) (0 : Int)
  (maxNat (((Store.get s.seat.peaks [] g).filter (fun e => inWindow s e.1)).map (·.2)) : Int) + 32 * hold

/-- Cause 3 applies to a cluster. -/
def overPeak (s : State) (g : Nat) : Bool :=
  match s.seat.beyond.find g with
  | some (n, m) =>
    (clu s g).beyond && decide (0 < n) && decide ((32 * 100 * (inDuty s g).length * n : Int) < peak32 s g * ((n : Int) - m))
  | none => false

def seekWeak (s : State) : Search :=
  ((upto (4 * sectors s)).filter (overPeak s)).foldl (fun a g =>
    orElse' a (firstFree s 3 (cluKind g) (byCount s (cluKind g) (movable s (cluKind g) (cluUnits s.params g))))) ⟨0, none⟩

/-- Cause 4. -/
def seekHot (s : State) : Search :=
  let n := cfgF s (seatO Reg.SEAT_HOT) 19 16
  ((upto (sectors s)).filter (fun i => domOf i == 0 && decide (n ≤ Store.get s.seat.hotRun 0 i))).foldl (fun a sc =>
    orElse' a (firstFree s 4 .tile (byCount s .tile (movable s .tile (sectorUnits s.params 0 sc))))) ⟨0, none⟩

/-- Cause 5: the LOGIC sectors that are due, from the one after the last that had its turn. -/
def wearSectors (s : State) : List Nat :=
  let n := sectors s
  ((upto n).map (fun i => (s.seat.turn + i) % n)).filter (fun sc => domOf sc == 0 &&
    decide (Store.get s.seat.wearAt 0 sc + 86400 * cfgF s (seatO Reg.SEAT_WEAR) 9 0 ≤ powered s))

def sectorSpare (s : State) (sc : Nat) : Option Nat :=
  (sectorUnits s.params 0 sc).find? (fun i => role s .tile i == 2)

/-- A sector's tiles in cyclic order after one of them. -/
def tilesAfter (s : State) (sc t : Nat) : List Nat :=
  let l := sectorUnits s.params 0 sc
  l.filter (fun i => decide (t < i)) ++ l.filter (fun i => decide (i < t))

/-- A due sector without a unit that may move lets the next have its turn. -/
def seekWear (s : State) : Search :=
  (wearSectors s).foldl (fun a sc =>
    let t := (sectorSpare s sc).getD ((sectorUnits s.params 0 sc).getLastD 0)
    orElse' a (firstFree s 5 .tile (movable s .tile (tilesAfter s sc t)))) ⟨0, none⟩

/-- The site temperature of a sector (R332). -/
def siteCode (s : State) (sc : Nat) : Int := signed 16 ((live s (thmO (Reg.THM_SITE sc))).field 15 0)

/-- A unit may be a destination: a spare whose cluster, sector and domain are fit. -/
def candidate (s : State) (k : UnitKind) (i : Nat) : Bool :=
  role s k i == 2 && (match physCluster s.params k i with
    | none => false
    | some g =>
      let x := sec s (g / 4)
      !(clu s g).beyond && (x.mode == .run || x.mode == .coast) && domainRun s (domOf (g / 4)))

/-- A destination lies where the cause allows it. -/
def destOk (s : State) (w : Want) (i : Nat) : Bool :=
  let g := (physCluster s.params w.kind w.src).getD 0
  let h := (physCluster s.params w.kind i).getD 0
  match w.cause with
  | 1 => h / 4 != g / 4
  | 2 => h != g
  | 3 => h != g
  | 4 => h / 4 != g / 4 && decide (siteCode s (h / 4) + 64 * cfgF s (seatO Reg.SEAT_HOT) 31 24 ≤ siteCode s (g / 4))
  | _ => sectorSpare s (g / 4) == some i

/-- The order of preference of R415: one number a criterion. -/
def destRank (s : State) (w : Want) (i : Nat) : List Int :=
  let g := (physCluster s.params w.kind w.src).getD 0
  let h := (physCluster s.params w.kind i).getD 0
  let busy := (neighbours s (h / 4)).any (neighbourBusy s (cfgF s (qdO (h / 64) Reg.QD_INRUSH) 30 24))
  [(b2n (h / 4 != g / 4) : Nat), (b2n (h / 64 != g / 64) : Nat), (b2n busy : Nat), siteCode s (h / 4), (i : Nat)]

def lexLt : List Int → List Int → Bool
  | a :: as, b :: bs => decide (a < b) || (a == b && lexLt as bs)
  | _, _ => false

def findDest (s : State) (w : Want) : Option Nat :=
  ((upto (physCount s.params w.kind)).filter (fun i => candidate s w.kind i && destOk s w i)).foldl (fun b i => match b with
    | none => some i
    | some j => if lexLt (destRank s w i) (destRank s w j) then some i else some j) none

def addrSet (s : State) : Bool :=
  cfg s (seatO Reg.SEAT_MIGADDR_LO) != 0 || cfg s (seatO Reg.SEAT_MIGADDR_HI) != 0

/-- A decision with a unit: a migration to the best destination, or none found. -/
def decideUnit (w : Want) (s : State) : State :=
  if w.cause = 1 && !addrSet s then beginMig 1 w.kind w.logical w.src none false s
  else match findDest s w with
    | some d => beginMig w.cause w.kind w.logical w.src (some d) w.retire s
    | none =>
      let s1 := raiseOn Src.SEAT_NO_SPARE (migDetail w.kind w.logical) 0x09 2 (bumpF (seatO Reg.SEAT_SKIP) 31 16 s)
      if w.cause = 1 then beginMig 1 w.kind w.logical w.src none false s1
      else when (w.cause == 5) (modSeat (fun x => { x with turn := tileSec s w.src + 1 })) s1

def countPinned (n : Nat) (s : State) : State :=
  setField (seatO Reg.SEAT_SKIP) 15 0 (Nat.min ((live s (seatO Reg.SEAT_SKIP)).field 15 0 + n) 65535) s

/-- Commands that no longer name a unit are dropped: a retire of a unit that is now a spare makes it RETIRED. -/
def dropCmds (s : State) : State :=
  let gone := s.seat.cmds.filter (fun c => (cmdUnit s c).isNone)
  let s1 := modSeat (fun x => { x with cmds := x.cmds.filter (fun c => (cmdUnit s c).isSome) }) s
  gone.foldl (fun s c => if c.retire && role s c.kind c.index == 2 then setRole c.kind c.index 4 0 s else s) s1

/-- The engine's one decision (R415). -/
def placement (s0 : State) : State :=
  let s := dropCmds s0
  let w := cfg s (seatO Reg.SEAT_CTL)
  match (seekDark s).want with
  | some x => decideUnit x s
  | none =>
    if !w.bit 0 || !addrSet s then s
    else match seekCmd s with
    | some (c, i) =>
      decideUnit ⟨2, c.kind, roleLog s c.kind i, i, c.retire⟩ (modSeat (fun x => { x with cmds := x.cmds.erase c }) s)
    | none =>
      let none' : Search := ⟨0, none⟩
      let r := orElse' (if w.bit 3 then seekWeak s else none')
        (orElse' (if w.bit 1 then seekHot s else none') (if w.bit 2 then seekWear s else none'))
      match r.want with
      | some x => decideUnit x (countPinned r.pinned s)
      | none => countPinned r.pinned s

def execPlacementDecision (s : State) :=
  act s (atTick s capP 0 && s.seat.mig.state == .idle && flipAllowed s && s.plan.ready && !shutting s) (placement s)

/-! ### Commands (R422, R427) -/

def seatRetire (k : UnitKind) (i : Nat) (s : State) : State :=
  let r := role s k i
  if r = 2 then setRole k i 4 0 s
  else if r = 1 then modSeat (fun x => { x with cmds := x.cmds ++ [⟨true, k, i⟩] }) s else s

def seatReturn (k : UnitKind) (i : Nat) (s : State) : State :=
  if role s k i = 4 then setRole k i 2 0 s else refuse 0x09 s

/-- The groups that a scrub of a tag takes (R422); tag 0 names no owner. -/
def scrubGroups (s : State) (tag : Nat) : List Nat :=
  if tag = 0 then []
  else (upto (groupCount s.params)).filter (fun g =>
    let l := groupServing s g
    !l.isEmpty && l.all (fun e => entryOwner e.2 == tag && !entryRes e.2))

def scrubGroup (g : Nat) (s : State) : State :=
  let s1 := (groupServing s g).foldl (fun s e => setLog .bank e.1 (e.2.put 31 24 0) s) s
  let m := s1.seat.mig
  let s2 := when (m.kind == .bank && (m.state == .power || m.state == .copy) && !m.unmap &&
    (bankGroup m.src == g || bankGroup m.dst == g)) abandonMig s1
  syncGroup g (modSeat (fun x => { x with
    holds := x.holds.put g (now s + usTicks (cfgF s (seatO Reg.SEAT_SCRUBT) 9 0)) }) s2)

def seatScrub (tag : Nat) (s : State) : State :=
  if !s.seat.holds.isEmpty then refuse 0x09 s
  else
    let gs := scrubGroups s tag
    let s1 := modSeat (fun x => { x with tag := tag, scrubN := gs.length, scrubOk := gs.isEmpty }) s
    bumpBy (seatO Reg.SEAT_SCRUBS) gs.length (forEach gs scrubGroup s1)

def seatCommand (w : Word) (s : State) : State :=
  let k : UnitKind := if w.bit 3 then .bank else .tile
  let i := w.field 20 8
  match w.field 2 0 with
  | 1 => modSeat (fun x => { x with cmds := x.cmds ++ [⟨false, k, i⟩] }) s
  | 2 => seatRetire k i s
  | 3 => seatReturn k i s
  | 4 => seatScrub (w.field 31 24) s
  | 5 => abandonMig s
  | _ => s

def seatWord (op : Nat) (k : UnitKind) (i : BitVec 13) : Word := BitVec.ofNat 32 (op + 8 * kindNat k + 0x100 * i.toNat)

def execSeatCmdMove (a : Access) (k : UnitKind) (i : BitVec 13) (s : State) :=
  act s (reaches s a) (secureCmd a (seatCommand (seatWord 1 k i)) s)
def execSeatCmdRetire (a : Access) (k : UnitKind) (i : BitVec 13) (s : State) :=
  act s (reaches s a) (secureCmd a (seatCommand (seatWord 2 k i)) s)
def execSeatCmdReturn (a : Access) (k : UnitKind) (i : BitVec 13) (s : State) :=
  act s (reaches s a) (secureCmd a (seatCommand (seatWord 3 k i)) s)
def execSeatCmdScrub (a : Access) (tag : BitVec 8) (s : State) :=
  act s (reaches s a) (secureCmd a (seatCommand (BitVec.ofNat 32 (4 + 0x1000000 * tag.toNat))) s)
def execSeatCmdAbort (a : Access) (s : State) :=
  act s (reaches s a) (secureCmd a (seatCommand 5) s)

/-- Holds that are over end: their groups return to what R419 gives, the last one is told. -/
def execScrubHoldEnd (s : State) :=
  let ended := s.seat.holds.filter (fun h => decide (h.2 ≤ now s))
  let s1 := modSeat (fun x => { x with holds := x.holds.filter (fun h => decide (now s < h.2)) }) s
  let s2 := ended.foldl (fun s h => syncGroup h.1 s) s1
  act s (!ended.isEmpty)
    (when s1.seat.holds.isEmpty (fun s => raiseOn Src.SEAT_SCRUB_DONE s.seat.tag 0x09 3
      (modSeat (fun x => { x with scrubOk := true }) s)) s2)

/-! ### The tables (R402 to R404) -/

/-- A logical unit's entry exists in the build (R401). -/
def logPresent (s : State) (k : UnitKind) (i : Nat) : Bool := decide (i < logCount k) && decide (i < physCount s.params k)

/-- A word of the window as a secure read shows it. -/
def seatWordAt (s : State) (off : Nat) : Word :=
  let o := off - 0x400000
  if o < 0x1000 then (if logPresent s .tile (o / 4) then logEntry s .tile (o / 4) else 0)
  else if o < 0x2000 then (if logPresent s .tile ((o - 0x1000) / 4) then prevEntry s .tile ((o - 0x1000) / 4) else 0)
  else if o < 0x10000 then 0
  else if o < 0x18000 then (if logPresent s .bank ((o - 0x10000) / 4) then logEntry s .bank ((o - 0x10000) / 4) else 0)
  else if o < 0x20000 then 0
  else if o < 0x28000 then (if logPresent s .bank ((o - 0x20000) / 4) then prevEntry s .bank ((o - 0x20000) / 4) else 0)
  else if o < 0x40000 then 0
  else if o < 0x41000 then physWord s .tile ((o - 0x40000) / 4)
  else if o < 0x60000 then 0
  else if o < 0x68000 then physWord s .bank ((o - 0x60000) / 4)
  else 0

/-- A secure write of one word: `PIN`, `RES` and `OWNER` of a current-plan logical entry (R404). -/
def entryWrite (off : Nat) (w : Word) (s : State) : State :=
  let o := off - 0x400000
  if o < 0x1000 then
    if logPresent s .tile (o / 4) then setLog .tile (o / 4) ((logEntry s .tile (o / 4)).put 16 16 (w.field 16 16)) s else s
  else if decide (0x10000 ≤ o) && decide (o < 0x18000) then
    let b := (o - 0x10000) / 4
    if logPresent s .bank b then
      let e := Word.put (Word.put (logEntry s .bank b) 17 16 (w.field 17 16)) 31 24 (w.field 31 24)
      let s1 := setLog .bank b e s
      if entryValid e then syncGroup (bankGroup (entryPhys e)) s1 else s1
    else s
  else s

def inSeat (f : Form) : Bool := decide (0x400000 ≤ f.off.toNat) && decide (f.off.toNat < 0x480000)

/-- A write in the seating-plan window. -/
def seatWrite (a : Access) (f : Form) (data : BitVec 64) (s : State) : State :=
  let off := f.off.toNat
  if !(f.full && (f.width == 32 || f.width == 64) && off % (f.width / 8) == 0) then formError a s
  else if !secure s a then respond a (.ok 0) (countNonsec a s)
  else
    let s1 := entryWrite off (data.setWidth 32) s
    respond a (.ok 0) (when (f.width == 64) (entryWrite (off + 4) ((data >>> 32).setWidth 32)) s1)

def execSeatEntryWrite (a : Access) (f : Form) (data : BitVec 64) (s : State) :=
  act s (reaches s a && inSeat f) (seatWrite a f data s)

/-! ### Status words (R425, R426) -/

def seatEpoch (s : State) : Word :=
  BitVec.ofNat 32 (s.plan.epoch + 0x100 * b2n s.plan.kept + 0x10000 * s.plan.prev)

def seatMigstat (s : State) : Word :=
  let m := s.seat.mig
  let code := match m.state with
    | .idle => 0
    | .power => 1
    | .copy => 2
    | .flip => 3
    | .grace => 4
  BitVec.ofNat 32 (code + 8 * kindNat m.kind + 16 * m.cause + 0x100 * m.seq + 0x10000 * m.logical)

def seatMigsrc (s : State) : Word := BitVec.ofNat 32 (s.seat.mig.src + 0x10000 * s.seat.mig.dst)

def seatScrubstat (s : State) : Word :=
  BitVec.ofNat 32 (s.seat.tag + 0x100 * Nat.min s.seat.scrubN 255 + 0x10000 * b2n (!s.seat.holds.isEmpty) +
    0x20000 * b2n s.seat.scrubOk)

def seatGstate (s : State) (w : Nat) : Word :=
  BitVec.ofNat 32 ((upto 16).foldr (fun k t =>
    (if 16 * w + k < groupCount s.params then groupOut s (16 * w + k) else 0) + 4 * t) 0)

end Sys2Proof.Machine
end

