-- ==== Sys2Proof/Machine/Tally.lean ====
section
/-! DEFINITION. Tally (R232 to R261): activity features, the model and its arithmetic, model memory and installs,
and the arbitration of the triad. -/

namespace Sys2Proof.Machine

def modTally (f : Tally → Tally) (s : State) : State := s.setTally (f s.tally)

/-! ### Model memory (R247) -/

/-- What a byte of model memory holds; one that nothing has written reads 0 (DESIGN CHOICE, log entry 4). -/
def memByte (s : State) (a : Nat) : Byte := Store.get s.mem 0 a
def setByte (a : Nat) (b : Byte) (s : State) : State := s.setMem (Store.set s.mem 0 a b)

/-- Bytes at rising addresses, the first at `a`. -/
def setBytes : Nat → List Byte → State → State
  | _, [], s => s
  | a, b :: r, s => setBytes (a + 1) r (setByte a b s)

def memBytes (s : State) (a n : Nat) : List Byte := (upto n).map (fun i => memByte s (a + i))

/-- The model unit whose staging area holds an offset into model memory (R247). -/
def stagingUnit (o : Nat) : Option Nat :=
  if o < 0x8000 then (if o % 0x1000 < 2304 then some (o / 0x1000) else none)
  else if decide (0x10000 ≤ o) && decide (o < 0x18024) then some 8 else none

/-- An offset lies in an installed area. -/
def installedArea (o : Nat) : Bool :=
  (decide (0x20000 ≤ o) && decide (o < 0x28000) && decide (o % 0x1000 < 2304)) ||
  (decide (0x30000 ≤ o) && decide (o < 0x38024))

def unitLen (u : Nat) : Nat := if u = 8 then 32804 else 2304
def stagingBase (u : Nat) : Nat := if u = 8 then 0x10000 else 0x1000 * u
def installedBase (u : Nat) : Nat := 0x20000 + stagingBase u

/-- A byte of model memory as a read shows it: words outside the areas read zero. -/
def memRead (s : State) (o : Nat) : Byte :=
  if (stagingUnit o).isSome || installedArea o then memByte s o else 0

/-- A write to model memory stores in staging areas only. -/
def memWrite : Nat → List Byte → State → State
  | _, [], s => s
  | o, b :: r, s => memWrite (o + 1) r (if (stagingUnit o).isSome then setByte o b s else s)

/-- The bytes of a value, least significant first. -/
def bytesOf (n : Nat) (v : BitVec 128) : List Byte := (upto n).map (fun i => (v >>> (8 * i)).setWidth 8)


/-! ### The image (R244 to R246) -/

/-- The cause of R258 for which a check refuses an image: 0 where it passes. -/
def imageCause (img : List Byte) (u : Nat) : Nat :=
  let at' := fun (o n : Nat) => leNat ((img.drop o).take n)
  let zero := fun (o n : Nat) => ((img.drop o).take n).all (· == 0)
  let len := unitLen u
  if at' 0 4 != 0x31594C54 then 1
  else if at' 4 1 != 1 then 2
  else if at' 5 1 != (if u = 8 then 2 else 1) || at' 6 1 != (if u = 8 then 0 else u) then 3
  else if at' 8 4 != len then 4
  else if !zero 7 1 || !zero 0x14 12 ||
      (u != 8 && (((img.drop 0x20).take 128).any (fun b => decide (16 ≤ b.toNat)) || decide (31 < at' 0x8F0 1) ||
        decide (47 < at' 0x8F1 1) || !zero 0x8F2 2 || !zero 0x8FA 2)) then 5
  else if at' (len - 4) 4 != (crc32 (img.take (len - 4))).toNat then 6
  else 0

/-! ### Installs (R248, R249) -/

def loadStat (st cause : Nat) (s : State) : State :=
  setField (talO Reg.TAL_LOADSTAT) 6 4 st (setField (talO Reg.TAL_LOADSTAT) 11 8 cause s)

/-- The feature scaler of a quadrant written through one locked sequence of 16 transactions of requester 3, eight
shifts each, from the image at `base`. -/
def shiftTxns (s : State) (u base : Nat) : List Txn :=
  (upto 16).map (fun i =>
    let w := leNat ((memBytes s (base + 0x20 + 8 * i) 8).map (fun b => b &&& 15))
    let v := (upto 8).foldl (fun t k => t + ((w / 256 ^ k) % 16) * 16 ^ k) 0
    { req := 3, stop := 81, reg := 16 * u + i, write := true, data := BitVec.ofNat 32 v, opn := i == 0, cls := i == 15,
      stamp := now s, job := .shift u i })

def askShifts (u base : Nat) (q : Nat) (s : State) : State :=
  (shiftTxns s u base).foldl (fun s t => ringAsk q t s) s

def installedSet (s : State) (u : Nat) : Bool := (live s (talO Reg.TAL_SETSTAT)).bit u

def startInstall (u : Nat) (s : State) : State :=
  if u < 9 then
    if s.tally.load.isSome then refuse 0x07 s
    else setField (talO Reg.TAL_LOADSTAT) 3 0 u (loadStat 1 0
      (modTally (fun t => { t with load := some ⟨u, 1, now s, [], none⟩ }) s))
  else s

/-- The next image of the calibration store that waits is installed (R250). -/
def nextInstall (s : State) : State :=
  match s.tally.load, s.tally.owed with
  | none, u :: rest => startInstall u (modTally (fun t => { t with owed := rest }) s)
  | _, _ => s

/-- A refusal completes: status, source; an abort raises none (R249). -/
def refuseDone (u cause : Nat) (s : State) : State :=
  let s1 := loadStat 5 cause (modTally (fun t => { t with load := none }) s)
  nextInstall (when (cause != 9) (raiseOn Src.TALLY_IMAGE_BAD u 0x07 1) s1)

/-- An install is refused: its shift sequences are withdrawn, and shifts already written are overwritten with the installed
set's first. -/
def refuseLoad (cause : Nat) (s : State) : State :=
  match s.tally.load with
  | none => s
  | some l =>
    if l.restore.isSome then s
    else if decide (l.unit < 8) && l.stage != 1 then
      let s1 := ringWithdraw 3 (ownerReset 3 s)
      if installedSet s l.unit then
        forEach (upto (quads s)) (askShifts l.unit (installedBase l.unit))
          (modTally (fun t => { t with load := some { l with restore := some cause, quads := upto (quads s) } }) s1)
      else refuseDone l.unit cause s1
    else refuseDone l.unit cause s

/-- `TAL_LOAD` (R248, R249, R259). -/
def talLoad (w : Word) (s : State) : State :=
  when (w.bit 9) (refuseLoad 9) (when (w.bit 8) (startInstall (w.field 3 0)) s)

def execTalLoadInstall (a : Access) (u : BitVec 4) (s : State) :=
  act s (reaches s a) (secureCmd a (talLoad (BitVec.ofNat 32 (u.toNat + 256))) s)
def execTalLoadAbort (a : Access) (s : State) :=
  act s (reaches s a) (secureCmd a (talLoad 0x200) s)

/-- The check is over (R248): refused, or the shifts are written, or the boundary is awaited. -/
def checkDone (l : Load) (s : State) : State :=
  let cause := imageCause (memBytes s (stagingBase l.unit) (unitLen l.unit)) l.unit
  if cause != 0 then refuseLoad cause s
  else if l.unit = 8 then loadStat 3 0 (modTally (fun t => { t with load := some { l with stage := 3 } }) s)
  else forEach (upto (quads s)) (askShifts l.unit (stagingBase l.unit))
    (loadStat 2 0 (modTally (fun t => { t with load := some { l with stage := 2, quads := upto (quads s) } }) s))

def execTallyInstallCheckDone (s : State) :=
  match s.tally.load with
  | some l => act s (l.stage == 1 && decide (l.from0 + (if l.unit = 8 then 513 else 36) ≤ now s)) (checkDone l s)
  | none => act s false s

/-- One transaction of a shift sequence is done; the last ends the quadrant's part (R248, R249). -/
def shiftDone (q u i : Nat) (w : Word) (s : State) : State :=
  let s1 := forEach (upto 8) (fun k s => modTally (fun t =>
    { t with scaler := Store.set t.scaler 0 (q * 1024 + u * 128 + 8 * i + k) (w.field (4 * k + 3) (4 * k)) }) s) s
  match s1.tally.load with
  | none => s1
  | some l =>
    if l.unit = u && i == 15 then
      let left := l.quads.filter (· != q)
      let s2 := modTally (fun t => { t with load := some { l with quads := left } }) s1
      if left.isEmpty then
        match l.restore with
        | some cause => refuseDone u cause s2
        | none => loadStat 3 0 (modTally (fun t => { t with load := some { l with quads := left, stage := 3 } }) s2)
      else s2
    else s1

/-- The lock of a shift sequence, open since `from0`, is broken (R249): the install is refused. A sequence that restores, or
the one of an install that began after the lock opened, lost what it had written of itself under a lock that an install refused
before left open, and is presented again. -/
def shiftBroken (q from0 : Nat) (s : State) : State :=
  match s.tally.load with
  | none => s
  | some l =>
    if l.restore.isNone && decide (l.from0 < from0) then refuseLoad 8 s
    else when (l.quads.contains q)
      (fun s => askShifts l.unit (if l.restore.isSome then installedBase l.unit else stagingBase l.unit) q (ringWithdrawIn q 3 s)) s

/-- Activation at an estimate-period tick 0 (R248). -/
def activate (l : Load) (s : State) : State :=
  let img := memBytes s (stagingBase l.unit) (unitLen l.unit)
  let s1 := setBytes (installedBase l.unit) img s
  let s2 := setField (talO Reg.TAL_LOADSTAT) 31 16 (Nat.min ((live s1 (talO Reg.TAL_LOADSTAT)).field 31 16 + 1) 65535)
    (loadStat 4 0 (setLive (talO (Reg.TAL_SETID l.unit)) (BitVec.ofNat 32 (leNat ((img.drop 12).take 4)))
      (setBit (talO Reg.TAL_SETSTAT) l.unit s1)))
  nextInstall (modTally (fun t => { t with load := none, since := t.since.put l.unit (estNo s) }) s2)

def execTallyInstallActivate (s : State) :=
  match s.tally.load with
  | some l => act s (l.stage == 3 && l.restore == none && atTick s estP 0) (activate l s)
  | none => act s false s

/-- A write to model memory (R247, R249). -/
def modelWrite (a : Access) (f : Form) (data : BitVec 128) (s : State) : State :=
  let o := f.off.toNat - 0x200000
  if !(f.full && (f.width == 32 || f.width == 64 || f.width == 128) && f.off.toNat % (f.width / 8) == 0) then formError a s
  else if !secure s a then respond a (.ok 0) (countNonsec a s)
  else
    let s1 := memWrite o (bytesOf (f.width / 8) data) s
    let hit := match s.tally.load with
      | some l => stagingUnit o == some l.unit && l.restore == none
      | none => false
    respond a (.ok 0) (when hit (refuseLoad 7) s1)

def inModel (f : Form) : Bool := decide (0x200000 ≤ f.off.toNat) && decide (f.off.toNat < 0x240000)

def execModelStagingWrite (a : Access) (f : Form) (data : BitVec 128) (s : State) :=
  act s (reaches s a && inModel f) (modelWrite a f data s)

/-! ### Activity features (R232 to R235) -/

/-- At a period's boundary the counters of the period before are frozen and a fresh set begins (R233). -/
def rotateFeat (s : State) : State :=
  let k := estNo s
  if s.tally.featPer = k then s
  else modTally (fun t => { t with
    frozen := if t.featPer + 1 = k then t.feat else [], frozenBad := if t.featPer + 1 = k then t.featBad else [],
    feat := [], featBad := [], featPer := k }) s

/-- The sector that feeds a unit of the activity bus (R27, R29); none beyond `REGION_MAP`. -/
def busSector (p : Params) (kind index : Nat) : Option Nat := (unitCluster p kind index).map (· / 4)

def parityOk (w : Word) : Bool := (upto 28).foldl (fun t i => t != w.bit (i + 1)) false == false

/-- A message on a quadrant's lane (R232, R234, R557). -/
def activity (lane : Nat) (w : Word) (s0 : State) : State :=
  let s := rotateFeat s0
  if !w.bit 0 || w.field 27 20 == 0 then s0
  else if !parityOk w then
    raiseOn Src.TALLY_FEAT_ERR lane 0x07 2 (bumpF (talO Reg.TAL_FEATERR) 15 0
      (modTally (fun t => { t with featBad := if t.featBad.contains lane then t.featBad else t.featBad ++ [lane] }) s))
  else match busSector s.params (w.field 2 1) (w.field 12 3) with
    | none => bumpF (talO Reg.TAL_FEATERR) 31 16 s
    | some sc =>
      if sectors s ≤ sc || sc / 16 != lane then bumpF (talO Reg.TAL_FEATERR) 31 16 s
      else
        let key := 128 * sc + w.field 19 13
        when (w.field 2 1 == 1) (wakeGroup (w.field 12 3))
          (modTally (fun t => { t with
            feat := Store.set t.feat 0 key (Nat.min (Store.get t.feat 0 key + w.field 27 20) 0xFFFFFF) }) s)

def execActivityMessage (lane : Nat) (w : Word) (s : State) := act s (decide (lane < quads s)) (activity lane w s)

/-! ### The model (R235 to R239) -/

/-- `v` / 2^n rounded by R11. -/
def rndShift (v : Int) (n : Nat) : Int := roundDiv v (2 ^ n)

def sat32 (v : Int) : Int := clamp v (-0x80000000) 0x7FFFFFFF
def s8 (b : Byte) : Int := signed 8 b.toNat

/-- A dot product of signed bytes and values. -/
def dot : List Byte → List Int → Int
  | b :: bs, x :: xs => s8 b * x + dot bs xs
  | _, _ => 0

/-- The evaluation of R236 on an image. -/
def evaluate (img : List Byte) (x : List Int) : Nat :=
  let at' := fun (o n : Nat) => leNat ((img.drop o).take n)
  let h := (upto 16).map (fun j =>
    let a := sat32 (signed 32 (at' (0x8A0 + 4 * j) 4) + dot ((img.drop (0xA0 + 128 * j)).take 128) x)
    let r := rndShift (if a < 0 then 0 else a) (at' 0x8F0 1)
    if 127 < r then 127 else r)
  let y := sat32 (signed 32 (at' 0x8F4 4) + dot ((img.drop 0x8E0).take 16) h)
  satN 16 (rndShift (y * at' 0x8F8 2) (at' 0x8F1 1))

/-- The scaled features of a sector (R235). -/
def scaled (s : State) (img : List Byte) (sc : Nat) : List Int :=
  (upto 128).map (fun i =>
    let r := rndShift ((Store.get s.tally.frozen 0 (128 * sc + i) : Nat) : Int) ((img.getD (0x20 + i) 0).toNat)
    if 127 < r then 127 else r)

/-- The predicted features of a record of class `c` at scale `sc8` (R238). -/
def predicted (s : State) (x : List Int) (c sc8 : Nat) : List Int :=
  (x.zip (upto 128)).map (fun (v, i) =>
    clamp (v + roundDiv ((sc8 : Int) * s8 (memByte s (installedBase 8 + 0x20 + 128 * c + i))) 64) 0 127)

/-- The weight set a sector selects; none where its entry is not enabled (R237). -/
def selectedSet (s : State) (sc : Nat) : Option Nat :=
  let e := (cfg s (talO (Reg.TAL_WSEL (sc / 8)))).field (4 * (sc % 8) + 3) (4 * (sc % 8))
  if 8 ≤ e then some (e % 8) else none

/-- Order of R217. -/
def slotBefore (a b : Nat × Slot) : Bool :=
  decide (a.2.preAt < b.2.preAt) || (a.2.preAt == b.2.preAt && (decide (a.2.arrive < b.2.arrive) ||
    (a.2.arrive == b.2.arrive && decide (a.1 < b.1))))

def insertSlot (x : Nat × Slot) : List (Nat × Slot) → List (Nat × Slot)
  | [] => [x]
  | y :: r => if slotBefore x y then x :: y :: r else y :: insertSlot x r

/-- The records of a sector that Tally takes (R217, R240). -/
def takenSlots (s : State) (sc : Nat) : List (Nat × Slot) :=
  (((sectorSlots s sc).filter (fun x => x.2.state == .pending && x.2.pred == none)).foldr insertSlot []).take
    (cfgF s (talO Reg.TAL_FCTL) 2 1)

/-- One sector evaluated: its code with its validity, and the predicted steps of its records. -/
def evalSector (s : State) (sc : Nat) : TallySec :=
  match selectedSet s sc with
  | none => ⟨sc, 0, false, false, []⟩
  | some k =>
    if !installedSet s k then ⟨sc, 0, false, false, []⟩
    else
      let img := memBytes s (installedBase k) 2304
      let x := scaled s img sc
      let e := evaluate img x
      let good := !s.tally.frozenBad.contains (sc / 16) && !(s.tally.since.find k == some (estNo s - 1))
      let recs := if installedSet s 8 && cfgB s (talO Reg.TAL_FCTL) 0 then takenSlots s sc else []
      ⟨sc, if good then e else 0, good, true, recs.map (fun (i, r) =>
        (slotKey (sc / 16) i, clamp ((evaluate img (predicted s x (r.w0.field 31 24) (r.w2.field 7 0)) : Int) - e) (-32768) 32767))⟩

/-- Tally's start tick (R240). `speed` is what the replica path measured (R50). -/
def tallyStart (speed : BitVec 10) (s0 : State) : State :=
  let s := rotateFeat (setLive (tbO Reg.TB_SPEED) (speed.setWidth 32) s0)
  let run := (upto (sectors s)).map (evalSector s)
  let s1 := run.foldl (fun s x => x.recs.foldl (fun s (key, _) =>
    match slot s (key / 256) (key % 256) with
    | some r => setSlot (key / 256) (key % 256) { r with taken := some (now s) } s
    | none => s) s) s
  engStart clsTally 0 (modTally (fun t => { t with
    run := some ⟨now s, estNo s - 1, run, cfg s (talO Reg.TAL_ARB), cfg s (talO Reg.TAL_ARB2)⟩ }) s1)

def execTallyStart (speed : BitVec 10) (s : State) := act s (atTick s estP 0) (tallyStart speed s)

/-! ### Arbitration (R251 to R256) -/

/-- A sector was in OFF during a control period of estimate period `p`. -/
def offIn (s : State) (sc p : Nat) : Bool :=
  let x := sec s sc
  let t : Int := (now s : Int) - ((s.tb.tick.toNat : Int) - estP * p)
  let meets := fun (a b : Int) => decide (a < t + estP) && decide (t < b)
  x.offs.any (fun i => meets i.1 i.2) || (x.mode == .off && decide ((x.offSince : Int) < t + estP))

/-- A sector's M of an estimate period is present and unmarked: every latch of the period gave one, and no sensor was saturated
or lost in it. A DARK sector latches none (R120, R251). -/
def mPresent (s : State) (sc p : Nat) : Bool :=
  (secClus sc).all (fun g => let m := meanAt (clu s g) p; m.n == 32 && !m.mark && !m.lost)

/-- M of a sector in an estimate period, as a sector-current code. -/
def mCode (s : State) (sc p : Nat) : Nat := satN 16 (roundDiv (msum32 s sc p) 32)

/-- One sector's part of the sums of R251: ΣE, ΣM in sector codes; none where the period is unusable. -/
def arbSector (s : State) (sc : Nat) : Option (Nat × Nat) :=
  let p := estPeriod s
  if offIn s sc p then some (0, 0)
  else
    let (ok, e) := talEst s sc
    let m := mCode s sc p
    let mOk := mPresent s sc p
    if ok && mOk then some (e, m) else if mOk then some (m, m) else if ok then some (e, e) else none

/-- One estimate period's entry of a domain. -/
def arbEntry (s : State) (d : Nat) : ArbPer :=
  let parts := (domSectors s d).map (arbSector s)
  let bOk := !(stage s d).bFail
  { ok := parts.all (·.isSome) && bOk, bOk := bOk,
    e := parts.foldl (fun t p => t + (p.getD (0, 0)).1) 0, m := parts.foldl (fun t p => t + (p.getD (0, 0)).2) 0,
    b := Frac.ofInt (stage s d).bCode }

/-- X̄ agrees with B̄ (R252); `x` and `b` in domain codes. -/
def agrees (w : Word) (x b : Frac) : Bool :=
  let dif := if x.le b then b.sub x else x.sub b
  dif.le ((b.scale (w.field 7 0)).overBy 100) || dif.le (Frac.ofInt (w.field 23 8))

def suspects (s : State) (d : Nat) : Nat := ((domSectors s d).filter (fun sc => (sec s sc).suspect)).length

/-- Means over the usable periods, in domain codes: ΣE, ΣM, B. -/
def arbMeans (l : List ArbPer) : Frac × Frac × Frac :=
  let u := l.filter (·.ok)
  let n := u.length
  (Frac.make (u.foldl (fun t p => t + (p.e : Int)) 0) (10 * n), Frac.make (u.foldl (fun t p => t + (p.m : Int)) 0) (10 * n),
   (u.foldl (fun t p => t.add p.b) Frac.zero).overBy n)

/-- The verdict of R252 under the word `w` of `TAL_ARB`; none where the previous one is held for too few usable periods. -/
def verdictOf (s : State) (w : Word) (d : Nat) (l : List ArbPer) : Option Nat :=
  if !w.bit 28 || suspects s d = 0 then some 0
  else if (l.filter (·.bOk)).length < 8 then some 4
  else if (l.filter (·.ok)).length < 8 then none
  else
    let (e, m, b) := arbMeans l
    if agrees w m b then some 1 else if agrees w e b then some 2 else some 3

def verdNow (s : State) (d : Nat) : Nat := (live s (talO (Reg.TAL_VERD d))).field 2 0

/-- Every sector of a domain is given its guardband afresh where the domain's part of it changes (R156, R254). -/
def domainGb (on : Bool) (gb d : Nat) (s : State) : State :=
  let s1 := setField (talO (Reg.TAL_VERD d)) 3 3 (b2n on) s
  if Store.get s.tally.dgb 0 d = gb then s1
  else forEach (domSectors s d) issueGb (modTally (fun t => { t with dgb := Store.set t.dgb 0 d gb }) s1)

/-- Under SENSE, each cluster of a SUSPECT sector not recalibrated within the last `gap` capping periods asks for its current
tap (R255). -/
def recalibrate (gap d : Nat) (s : State) : State :=
  forEach ((domSectors s d).filter (fun sc => (sec s sc).suspect)) (fun sc s =>
    forEach (secClus sc) (fun g s =>
      let near := match s.tally.recal.find g with
        | some k => decide (capNo s < k + gap)
        | none => false
      if near then s else urgentPush (cluQuad g) (64 + g % 64) 1 s) s) s

/-- A verdict is entered or repeated: its source on entry, its action at every latch, under the word `w` of `TAL_ARB2`
(R253, R254). -/
def enterVerdict (w : Word) (d v : Nat) (s : State) : State :=
  let old := verdNow s d
  let s1 := setField (talO (Reg.TAL_VERD d)) 2 0 v s
  let s2 := if v = old then s1
    else if v = 1 then raiseOn Src.TALLY_MODEL_WRONG d 0x07 (3 + d) s1
    else if v = 2 then raiseOn Src.TALLY_SENSE_WRONG d 0x07 (7 + d) s1
    else if v = 3 then raiseOn Src.TALLY_NO_AGREE d 0x07 (11 + d) s1 else s1
  let s3 := domainGb (v == 3) (if v = 3 then w.field 6 0 else 0) d s2
  when (v == 2) (recalibrate (w.field 15 8) d) s3

/-- The verdict latch of a domain (R252, R253). While NONE is held, a different verdict formed is kept, the latest one, and
entered when the hold ends. -/
def latchVerdict (w w2 : Word) (d : Nat) (s : State) : State :=
  let l := Store.get s.tally.arb [] d
  let s1 := modTally (fun t => { t with arb := t.arb.del d }) s
  let s2 := setField (talO (Reg.TAL_VERD d)) 14 8 (suspects s1 d) (bumpF (talO (Reg.TAL_VERD d)) 31 16 s1)
  let (e, m, b) := arbMeans l
  let usable := !(l.filter (·.ok)).isEmpty
  let s3 := when usable (fun s => result (talO (Reg.TAL_ESUM d)) (satN 16 e.round)
    (result (talO (Reg.TAL_MSUM d)) (satN 16 m.round) (result (talO (Reg.TAL_BSUM d)) (satN 16 b.round) s))) s2
  let held := Store.get s.tally.holdN 0 d
  let formed := verdictOf s3 w d l
  let s4 := when formed.isNone (bump (talO Reg.TAL_ARBSKIP)) s3
  let none3 := verdNow s3 d == 3
  let best := match formed with
    | some v => v
    | none => Store.get s.tally.kept (verdNow s3 d) d
  if none3 && decide (held + 1 < w.field 27 24) then
    enterVerdict w2 d 3 (modTally (fun t => { t with holdN := t.holdN.put d (held + 1), kept := t.kept.put d best }) s4)
  else
    let s5 := modTally (fun t => { t with kept := t.kept.del d, holdN := t.holdN.put d (if best = 3 && none3 then held else 0) }) s4
    when (formed.isSome || best != verdNow s3 d) (enterVerdict w2 d best) s5

/-- A sector's figure for capping, with its code (R256). -/
def capFigure (s : State) (sc : Nat) : Nat × Nat :=
  let d := domOf sc
  let (ok, e) := talEst s sc
  let m := mCode s sc (estPeriod s)
  let v := verdNow s d
  let sus := (sec s sc).suspect
  if v = 3 then
    let a := arbEntry s d
    (satN 16 (quot (((if ok then e else m : Nat) : Int) * a.b.num * 10) (a.b.den * a.e)), 3)
  else if !ok then (m, 1)
  else if sus && v == 1 then (m, 1)
  else if sus && v == 2 then (e, 0)
  else if sus then (Nat.max e m, 2)
  else (e, 0)

/-- A figure joins the sums of the capping period it is latched in (R361). -/
def sumFigures (s : State) : State :=
  let c := s.cap
  let old := if c.figPer = capNo s then c.figSum else []
  s.setCap { c with
    figPer := capNo s
    figSum := (upto (sectors s)).foldl (fun t sc => Store.set t 0 sc (Store.get t 0 sc + Store.get s.tally.fig 0 sc)) old }

/-- The figures of this estimate period and their codes. -/
def setFigures (s : State) : State :=
  sumFigures (
  forEach (upto (sectors s)) (fun sc s =>
    let (f, c) := capFigure s sc
    setField (talO (Reg.TAL_CAPSRC (sc / 16))) (2 * (sc % 16) + 1) (2 * (sc % 16)) c
      (modTally (fun t => { t with fig := Store.set t.fig 0 sc f }) s)) s)

/-- The domains' entries of the estimate period just described. -/
def arbRecord (s : State) : State :=
  forEach (upto 4) (fun d s =>
    modTally (fun t => { t with arb := t.arb.put d ((Store.get t.arb [] d) ++ [arbEntry s d]) }) s) s

/-- The first estimate period of a capping period (R252). -/
def verdictDue (s : State) : Bool := estNo s % 16 == 0

/-- A record evaluated for a physical tile, kept for as long as `SEAT_PEAK.WIN` can reach it (R417). -/
def noteEval (p : Nat) (s : State) : State :=
  modSeat (fun x => { x with evals := (estNo s, p) :: x.evals.filter (fun e => reachable s e.1) }) s

/-- Tally's latch (R240, R243). -/
def tallyCommit (s : State) : State :=
  match s.tally.run with
  | none => s
  | some r =>
    let bad := (r.secs.filter (fun x => !x.ok)).map (·.sector)
    let word := fun (b : Nat) => BitVec.ofNat 32 (packBits ((upto 32).map (fun i => bad.contains (b + i))))
    let recs := r.secs.foldl (fun l x => l ++ x.recs) []
    let s1 := recs.foldl (fun s (key, di) =>
      match slot s (key / 256) (key % 256) with
      | some x => if x.taken = some r.at0 && x.state == .pending then
          noteEval x.phys (bump (trailO (Reg.TRAIL_EVAL (key / 256))) (setSlot (key / 256) (key % 256) { x with pred := some di } s))
        else s
      | none => s) s
    let s2 := bumpBy (talO Reg.TAL_INVALID) bad.length (bumpBy (talO Reg.TAL_FCEVAL) recs.length s1)
    let s3 := setLive (talO Reg.TAL_INVAL_LO) (word 0) (setLive (talO Reg.TAL_INVAL_HI) (word 32)
      (setLive (talO Reg.TAL_PERIOD) (BitVec.ofNat 32 r.period)
        (setLive (talO Reg.TAL_MACS)
          (BitVec.ofNat 32 (2064 * ((r.secs.filter (·.ran)).length + recs.length))) s2)))
    let s4 := modTally (fun t => { t with
      run := none, ovr := false, good := (r.secs.filter (·.ok)).map (·.sector),
      est := (r.secs.filter (·.ok)).map (fun x => (x.sector, x.e)) }) s3
    let s5 := arbRecord s4
    setFigures (if verdictDue s5 then forEach (upto 4) (latchVerdict r.arb r.arb2) s5 else s5)

/-- An overrun (R241, R243): every sector's estimate is latched invalid, with E = 0, and the period number stays. Arbitration
takes the period with E invalid; a verdict that was due is not formed. -/
def tallyMissed (s : State) : State :=
  let n := sectors s
  let all := fun (b : Nat) => BitVec.ofNat 32 (packBits ((upto 32).map (fun i => decide (b + i < n))))
  let s1 := bumpBy (talO Reg.TAL_INVALID) n (setLive (talO Reg.TAL_INVAL_LO) (all 0) (setLive (talO Reg.TAL_INVAL_HI) (all 32) s))
  let s2 := arbRecord (modTally (fun t => { t with run := none, ovr := true, good := [], est := [] }) s1)
  setFigures (if verdictDue s2 then modTally (fun t => { t with arb := [] }) s2 else s2)

def execTallyLatch (s : State) := act s (engDue s clsTally 0) (latch clsTally 0 tallyCommit tallyMissed s)

/-- `TAL_STAT` (R258). -/
def talStat (s : State) : Word := BitVec.ofNat 32 (b2n s.tally.ovr + 2 * b2n s.tally.load.isSome)

end Sys2Proof.Machine
end

