-- ==== Sys2Proof/Machine/Capping.lean ====
section
/-! DEFINITION. Operating points and the cap loop (R348 to R364), the energy accumulators (R365 to R368) and the job
slots (R369 to R373). Powers are held in units of 5 µW, energies in units of 1/6,250,000 µJ. -/

namespace Sys2Proof.Machine

def modCap (f : CapLoop → CapLoop) (s : State) : State := s.setCap (f s.cap)

/-- One watt and one power code (1/8 W), in units of 5 µW. -/
abbrev wattU : Nat := 200000
abbrev codeU : Nat := 25000

/-- A power as a power code (R12). -/
def powerCode (p : Frac) : Nat := satN 16 (p.overBy codeU).round

/-! ### The chip cap (R355, R359) -/

def ishare (s : State) (i : Nat) : Nat := (cfg s (pwrO Reg.PWR_ISHARE)).field (8 * i + 7) (8 * i)

/-- A secondary that has lost the bridge falls back while it has a fallback cap or uses the last received. -/
def fallsBack (s : State) : Bool := s.bridge.role == 2 && s.bridge.lost

/-- The base cap, in W. -/
def baseCap (s : State) : Frac :=
  let own : Int := cfgF s (pwrO Reg.PWR_CAP) 12 0
  if s.bridge.role = 1 then Frac.make (own * ishare s s.bridge.inst) 256
  else if s.bridge.role = 2 then
    let fb := cfgF s (pwrO Reg.PWR_FBCAP) 12 0
    Frac.ofInt (if s.bridge.lost && fb != 0 then (fb : Int) else (s.bridge.capRecv : Int))
  else Frac.ofInt own

/-- The effective cap C, in W. -/
def effCap (s : State) : Frac := (baseCap s).mul (Frac.make s.therm.factor 32768)

def dshare (s : State) (d : Nat) : Nat := (cfg s (pwrO Reg.PWR_DSHARE)).field (8 * d + 7) (8 * d)
def qshare (s : State) (q : Nat) : Nat := (cfg s (pwrO Reg.PWR_QSHARE)).field (8 * q + 7) (8 * q)

/-! ### The selection (R352, R353, R361 to R363) -/

def phaseNow (s : State) : Nat := (live s (pwrO Reg.PWR_PHASE)).field 2 0
def prefPoint (s : State) : Nat :=
  (cfg s (pwrO Reg.PWR_PREF)).field (4 * phaseNow s + 3) (4 * phaseNow s)

def boostAllowed (s : State) : Bool :=
  let w := cfg s (pwrO Reg.PWR_CTL)
  w.bit 2 && !w.bit 1 && w.bit 0 && s.therm.gstate.all (· == 0)

/-- U before the thermal ceiling. -/
def wishPoint (s : State) : Nat :=
  if boostAllowed s then Nat.max (prefPoint s) (cfgF s (pwrO Reg.PWR_CTL) 7 4) else prefPoint s

/-- A sector's figures of the capping period just ended, summed: 16 times their mean. -/
def figSum (s : State) (sc : Nat) : Nat :=
  if s.cap.figPer + 1 = capNo s then Store.get s.cap.figSum 0 sc else 0

/-- The measured quantities of a capping period: domain currents in sector codes, domain powers, quadrant powers. -/
structure Measured where
  cur  : List Frac
  pow  : List Frac
  quad : List Frac
  deriving DecidableEq, Repr

def measure (s : State) : Measured :=
  let sum := fun (l : List Nat) => l.foldl (fun t sc => t + figSum s sc) 0
  let v := fun (d : Nat) => (railCode s d).getD 0
  { cur := (upto 4).map (fun d => Frac.make (sum (domSectors s d)) 16)
    pow := (upto 4).map (fun d => Frac.make (sum (domSectors s d) * v d) 16)
    quad := (upto (quads s)).map (fun q => Frac.make (sum ((domSectors s 0).filter (fun sc => sc / 16 == q)) * v 0) 16) }

def fnth (l : List Frac) (i : Nat) : Frac := l.getD i Frac.zero
def fsum (l : List Frac) : Frac := l.foldl Frac.add Frac.zero

/-- The ratio of point `k` to point `c` (R362). -/
def ratio (s : State) (c k d : Nat) : Frac :=
  if d = 0 then Frac.make (pointIdx s k) (pointIdx s c)
  else Frac.make (pointVolt s k d * pointVolt s k d) (pointVolt s c d * pointVolt s c d)

/-- The checks of R363 that a point fails: a power or share, a current limit. -/
def fails (s : State) (m : Measured) (cap : Frac) (c k : Nat) : Bool × Bool :=
  let mar := if k ≤ c then Frac.ofInt 1 else Frac.make (100 - cfgF s (pwrO Reg.PWR_CTL) 20 16) 100
  let capU := (cap.scale wattU).mul mar
  let p := fun (d : Nat) => (fnth m.pow d).mul (ratio s c k d)
  let power := capU.lt (fsum ((upto 4).map p)) ||
    (upto 4).any (fun d => ((capU.scale (dshare s d)).overBy 256).lt (p d)) ||
    (upto (quads s)).any (fun q =>
      ((capU.scale ((dshare s 0 : Int) * qshare s q)).overBy 65536).lt ((fnth m.quad q).mul (ratio s c k 0)))
  let current := (upto 4).any (fun d =>
    (mar.scale (10 * cfgF s (pwrO (Reg.PWR_ILIM d)) 15 0)).lt ((fnth m.cur d).mul (ratio s c k d)))
  (power, current)

/-- The first feasible point downward from `k`, with the causes found at or below the preferred point. -/
def selectFrom (s : State) (m : Measured) (cap : Frac) (c pref : Nat) : Nat → Nat → Option Nat × Nat
  | k, why =>
    let (p, i) := fails s m cap c k
    if !p && !i then (some k, why)
    else
      let why' := if k ≤ pref then Nat.lor why (b2n p + 2 * b2n i) else why
      match k with
      | 0 => (none, why')
      | k + 1 => selectFrom s m cap c pref k why'

/-- What the cap loop forms from its samples. -/
def capCompute (s : State) : CapRes :=
  let w := cfg s (pwrO Reg.PWR_CTL)
  let pref := prefPoint s
  let wish := wishPoint s
  let u := match s.therm.ceil with
    | some c => Nat.min wish c
    | none => wish
  let m := measure s
  let cap := effCap s
  let c := opIndex s
  let top := Nat.min u (c + w.field 11 8)
  let (sel, why) := if w.bit 0 then selectFrom s m cap c pref top 0 else (some top, 0)
  let pt := sel.getD 0
  let hot := match s.therm.ceil with
    | some x => decide (x < pref)
    | none => false
  { point := pt, pref := pref, phase := phaseNow s, upper := u, limited := decide (pt < top),
    boosting := decide (pref < pt), ceil := decide (u < wish), fixed := w.bit 1, capEn := w.bit 0, unmet := sel.isNone,
    fallback := fallsBack s, cause := why + 4 * b2n hot + 8 * b2n sel.isNone, cap := cap, chip := fsum m.pow,
    doms := m.pow, quads := m.quad }

/-- The peers of this instance in its group. -/
def peersOf (s : State) : List Nat :=
  (upto 4).filter (fun i => (s.bridge.peers >>> i) % 2 == 1 && i != s.bridge.inst)

/-- The CAP frames that a primary sends its secondaries (R359, R569): each one's cap in W. -/
def sendCaps (s : State) : State :=
  let own : Int := cfgF s (pwrO Reg.PWR_CAP) 12 0
  when (s.bridge.role == 1)
    (fun s => s.setBridge { s.bridge with
      capSent := (peersOf s).foldl (fun m i => m.put i (satN 13 (Frac.make (own * ishare s i) 256).round)) [] }) s

/-- Tick 0 of a capping period (R360). -/
def capStart (s : State) : State :=
  let r := capCompute s
  let s1 := setLive (pwrO Reg.PWR_ICAP) (BitVec.ofNat 32 (satN 13 (baseCap s).round)) s
  sendCaps (engStart clsCap 0 (modCap (fun c => { c with run := some r }) s1))

def execCapLoopStart (s : State) := act s (atTick s capP 0) (capStart s)

/-- The point of the period takes effect (R350). -/
def takePoint (k : Nat) (s : State) : State :=
  if k = s.cap.point then s
  else forEach (upto (sectors s)) opTakesEffect (bump (pwrO Reg.PWR_PTCHG) (modCap (fun c => { c with point := k }) s))

/-- A period below the preferred point in fixed-frequency mode (R354). -/
def fixedBreach (r : CapRes) (s : State) : State :=
  if r.fixed && decide (r.point < r.pref) then
    let w := live s (pwrO Reg.PWR_BREACH)
    let s1 := bumpF (pwrO Reg.PWR_BREACH) 31 16 (setLive (pwrO Reg.PWR_BREACH) (w.put 3 0 (Nat.lor (w.field 3 0) r.cause)) s)
    when (!s.cap.breach) (raiseOn Src.CAP_BREACH_FIXED 0 0x04 1) (modCap (fun c => { c with breach := true }) s1)
  else modCap (fun c => { c with breach := false }) s

def capCommit (s : State) : State :=
  match s.cap.run with
  | none => s
  | some r =>
    let was := match s.cap.last with
      | some l => l.unmet
      | none => false
    let s1 := takePoint r.point (modCap (fun c => { c with run := none, last := some r }) s)
    let s2 := setLive (pwrO Reg.PWR_CAPEFF) (BitVec.ofNat 32 (powerCode (r.cap.scale wattU))) s1
    let s3 := result (pwrO Reg.PWR_CHIP) (powerCode r.chip) s2
    let s4 := forEach (upto 4) (fun d => result (pwrO (Reg.PWR_DOM d)) (powerCode (fnth r.doms d))) s3
    let s5 := forEach (upto (quads s)) (fun q => result (pwrO (Reg.PWR_QLOG q)) (powerCode (fnth r.quads q))) s4
    fixedBreach r (when (r.unmet && !was) (raiseOn Src.PWR_CAP_UNMET 0 0x04 2) s5)

def execCapLoopLatch (s : State) :=
  act s (engDue s clsCap 0) (latch clsCap 0 capCommit (modCap (fun c => { c with run := none })) s)

/-- The checks of the shares at an accepted apply that leaves capping on (R358). -/
def checkShares (s : State) : State :=
  let dsum := (upto 4).foldl (fun t d => t + dshare s d) 0
  let qsum := (upto (quads s)).foldl (fun t q => t + qshare s q) 0
  let isum := (upto 4).foldl (fun t i => t + (if (s.bridge.peers >>> i) % 2 = 1 then ishare s i else 0)) 0
  when (cfgB s (pwrO Reg.PWR_CTL) 0 &&
      (decide (256 < dsum) || decide (256 < qsum) || (s.bridge.role == 1 && decide (256 < isum))))
    (raiseOn Src.PWR_SHARE_BAD 0 0x04 3) s

/-! ### Energy (R365 to R368) -/

/-- The energy of one domain in the estimate period just ended, with whether the estimate or a held B stands in. -/
def domEnergy (s : State) (d : Nat) : Nat × Bool × Bool :=
  let x := stage s d
  let v := x.v0.getD 0
  if !x.bFail then (320 * x.bCode * v, false, false)
  else
    let parts := (domSectors s d).map (arbSector s)
    if parts.all (·.isSome) then
      (32 * (parts.foldl (fun t p => t + (p.getD (0, 0)).1) 0) * v, true, false)
    else (320 * x.bGood * v, false, true)

/-- The chip energy of the period just ended. -/
def chipEnergy (s : State) : Nat × Bool × Bool :=
  (upto 4).foldl (fun (e, a, b) d => let (x, p, q) := domEnergy s d; (e + x, a || p, b || q)) (0, false, false)

/-- A 96-bit accumulator. -/
def addAcc (acc n : Nat) : Nat := (acc + n) % 2 ^ 96

/-- The two words of whole microjoules of an accumulator. -/
def microLo (acc : Nat) : Word := BitVec.ofNat 32 (acc / 6250000)
def microHi (acc : Nat) : Word := BitVec.ofNat 32 (acc / 6250000 / 0x100000000)

def setEflags (m : Nat) (s : State) : State :=
  let w := live s (pwrO Reg.PWR_EFLAGS)
  setLive (pwrO Reg.PWR_EFLAGS) (w.put 2 0 (Nat.lor (w.field 2 0) m)) s

/-- Tick 1,200: the energy of the period before joins the chip accumulator and is kept for the slots; a joined secondary
sends it to the primary (R365, R366, R368, R569). -/
def energyAdd (s : State) : State :=
  let (e, est, hold) := chipEnergy s
  let k := (estNo s - 1) % 65536
  let s1 := setEflags (b2n est + 2 * b2n hold) (modCap (fun c => { c with
    acc := addAcc c.acc e, subst := est || hold, inc := some ⟨k, e, est, hold⟩ }) s)
  let s2 := when (bridged s && s.bridge.joined) (fun s => s.setBridge { s.bridge with enSent := some (e % 2 ^ 48, k) }) s1
  when ((est || hold) && !s.cap.subst) (raiseOn Src.PWR_ENERGY_EST 0 0x04 4) s2

/-- The estimates that R366 substitutes are those that Tally latches in this tick. -/
def execEnergyAccumulate (s : State) := act s (atTick s estP 1200 && !engDue s clsTally 0) (energyAdd s)

/-- The increment of the estimate period before this one, added at tick 1,200 (R371); nothing where none was. -/
def lastInc (s : State) : Increment :=
  let k := (estNo s - 1) % 65536
  match s.cap.inc with
  | some i => if i.per = k then i else ⟨k, 0, false, false⟩
  | none => ⟨k, 0, false, false⟩

/-- The group's energy at a primary, with the instances that have sent nothing for the period (R368). -/
def groupEnergy (s : State) : Nat × List Nat :=
  let own := lastInc s
  let got := fun (i : Nat) => match s.cap.recv.find i with
    | some (p, e) => if p = own.per then some e else none
    | none => none
  ((peersOf s).foldl (fun t i => t + (got i).getD 0) own.e, (peersOf s).filter (fun i => (got i).isNone))

def job0 : JobSlot :=
  { state := .free, id := 0, acc := 0, shared := false, est := false, hold := false, part := false, seq := 0, start := 0,
    stop := 0, ended := 0 }
def jobSlot (s : State) (j : Nat) : JobSlot := Store.get s.jobs job0 j
def setJob (j : Nat) (x : JobSlot) (s : State) : State := s.setJobs (Store.set s.jobs job0 j x)

/-- Slot `j` is ENDED: its final energy is for every master to read (R372, R379). -/
def jobEnded (s : State) (j : Nat) : Bool := (jobSlot s j).state == .ended

/-- A slot was ACTIVE at tick `t`. -/
def activeAt (x : JobSlot) (t : Nat) : Bool :=
  decide (x.start ≤ t) && (x.state == .active || (x.state == .ending && decide (t < x.stop)))

/-- Tick 1,240: the counting slots take the period's energy, ENDING slots whose last period this was end. -/
def jobEnergyAdd (s : State) : State :=
  let own := lastInc s
  let (e, missing) := if s.bridge.role = 1 then groupEnergy s else (own.e, [])
  let part := !missing.isEmpty
  let t0 := now s - 1240 - estP
  let on := (upto 16).filter (fun j => activeAt (jobSlot s j) t0)
  let s1 := forEach (upto 16) (fun j s =>
    let x := jobSlot s j
    let y := if on.contains j then
        { x with acc := addAcc x.acc e, est := x.est || own.est, hold := x.hold || own.hold, part := x.part || part,
                 shared := x.shared || decide (1 < on.length) }
      else x
    setJob j (if y.state = .ending && decide (y.stop ≤ now s - 1240) then { y with state := .ended, ended := now s } else y) s) s
  let s2 := when (s.bridge.role == 1) (modCap (fun c => { c with grp := addAcc c.grp e, recv := [] })) s1
  when part (fun s => setEflags 4 (pageFlt 0x04 5 (missing.foldl (fun s i => raise Src.PWR_GROUP_PARTIAL i s) s))) s2

def execJobEnergyAdd (s : State) := act s (atTick s estP 1240 && decide (1240 + estP ≤ now s)) (jobEnergyAdd s)

/-! ### Job slots (R369, R370, R373) -/

def jobErr (hi lo : Nat) (s : State) : State := bumpF (hostO Reg.HOST_JOBERR) hi lo s

/-- The slot a start takes: the lowest FREE one, else the ENDED one that ended first. -/
def jobFor (s : State) : Option Nat :=
  match (upto 16).find? (fun j => (jobSlot s j).state == .free) with
  | some j => some j
  | none => ((upto 16).filter (fun j => (jobSlot s j).state == .ended)).foldl (fun b j => match b with
    | none => some j
    | some i => if (jobSlot s j).ended < (jobSlot s i).ended then some j else some i) none

def jobStart (id : Word) (s : State) : State :=
  if s.bridge.role = 2 then jobErr 31 24 s
  else if (upto 16).any (fun j => (jobSlot s j).id == id &&
      ((jobSlot s j).state == .active || (jobSlot s j).state == .ending)) then jobErr 15 8 s
  else match jobFor s with
    | none => raise Src.JOB_SLOTS_FULL 0 (jobErr 7 0 s)
    | some j => setJob j { job0 with state := .active, id := id, seq := ((jobSlot s j).seq + 1) % 256, start := now s } s

def jobEnd (id : Word) (s : State) : State :=
  if s.bridge.role = 2 then jobErr 31 24 s
  else match (upto 16).find? (fun j => (jobSlot s j).id == id && (jobSlot s j).state == .active) with
    | some j => setJob j { jobSlot s j with state := .ending, stop := now s } s
    | none => jobErr 23 16 s

def execHostJobstart (a : Access) (id : Word) (s : State) := act s (reaches s a) (hostCmd a (jobStart id) s)
def execHostJobend (a : Access) (id : Word) (s : State) := act s (reaches s a) (hostCmd a (jobEnd id) s)

/-- The warm reset ends every ACTIVE slot; an ENDING one still awaits its last period (R372, R531). -/
def jobsWarm (s : State) : State :=
  forEach (upto 16) (fun j s =>
    let x := jobSlot s j
    if x.state = .active then setJob j { x with state := .ended, part := true, ended := now s } s else s) s

/-! ### Status words (R377, R379) -/

def pwrStat (s : State) : Word :=
  match s.cap.last with
  | none => BitVec.ofNat 32 s.cap.point
  | some r =>
    BitVec.ofNat 32 (s.cap.point + 16 * r.pref + 256 * r.phase + 0x800 * b2n r.boosting + 0x1000 * b2n r.limited +
      0x2000 * b2n r.ceil + 0x4000 * b2n r.fixed + 0x8000 * b2n r.capEn + 0x10000 * r.upper + 0x100000 * b2n r.unmet +
      0x200000 * b2n r.fallback)

/-- The four words of a job slot; a FREE slot reads zero. -/
def jobWord (s : State) (j i : Nat) : Word :=
  let x := jobSlot s j
  let st := match x.state with
    | .free => 0
    | .active => 1
    | .ending => 2
    | .ended => 3
  if x.state = .free then 0
  else if i = 0 then x.id
  else if i = 1 then BitVec.ofNat 32 (st + 16 * b2n x.shared + 32 * b2n x.est + 64 * b2n x.hold + 128 * b2n x.part + 256 * x.seq)
  else if i = 2 then microLo x.acc else microHi x.acc

end Sys2Proof.Machine
end

