-- ==== Sys2Proof/Machine/Blanket.lean ====
section
/-! DEFINITION. Blanket (R381 to R400): the evaluation of each estimate period, detection and messages, the floor,
the filler levels and their energy. Powers are in units of 5 µW. -/

namespace Sys2Proof.Machine

def modBlk (f : Blanket → Blanket) (s : State) : State := s.setBlk (f s.blk)

/-! ### Tile groups (R381) -/

def tileGroups (s : State) : Nat := 3 * sectors s
/-- The cluster whose tiles a group is. -/
def tileGroupClu (g : Nat) : Nat := 4 * logicSec (g / 4) + g % 4
def tileGroupQuad (g : Nat) : Nat := g / 48

/-- The filler power of one level of one group. -/
def levelW (s : State) : Nat := codeU * cfgF s (blkO Reg.BLK_LVL) 7 0

/-- The filler power of a quadrant's groups, or of all of them, under a set of levels. -/
def fillOf (s : State) (lv : Store Nat) (p : Nat → Bool) : Nat :=
  levelW s * (lv.foldl (fun t x => if p x.1 then t + x.2 else t) 0)

/-! ### Abandoning (R394) -/

def endCover (cause hi lo : Nat) (s : State) : State :=
  bumpF (blkO Reg.BLK_ENDS) hi lo (modBlk (fun b => { b with state := .idle, ended := cause, resume := 0, capLim := false }) s)

/-- COVER is abandoned: levels 0 on the bus in this tick, the floor discarded. -/
def abandonCover (next : BlkState) (s : State) : State :=
  let s1 := when (s.blk.state == .cover) (endCover 4 31 24) s
  modBlk (fun b => { b with state := next, bus := [], next := none, quad := [0, 0, 0, 0], f0 := Frac.zero, j := 0, capLim := false }) s1

/-- LOGIC leaves RUN: WAIT, and the window is empty (R384, R385). -/
def blanketLeave (s : State) : State :=
  setLive (blkO Reg.BLK_AVG) 0 (modBlk (fun b => { b with window := [], recent := [] }) (abandonCover .wait s))

/-- An accepted apply of `EN` = 0. -/
def blanketOff (s : State) : State := when (!cfgB s (blkO Reg.BLK_CTL) 0) (abandonCover .wait) s

/-- A discard of work in flight reaches Blanket: from COVER to IDLE. -/
def blanketDiscard (s : State) : State := when (s.blk.state == .cover) (abandonCover .idle) s

/-! ### Messages (R386, R388) -/

/-- Messages in order of stamp, ENTER before EXIT of one stamp. -/
def insertMsg (m : Bool × Nat) : List (Bool × Nat) → List (Bool × Nat)
  | [] => [m]
  | x :: r => if decide (m.2 < x.2) || (m.2 == x.2 && m.1 && !x.1) then m :: x :: r else x :: insertMsg m r

def blkMessage (w : Word) (s : State) : State :=
  let add := fun (e : Bool) => modBlk (fun b => { b with msgs := insertMsg (e, now s) b.msgs })
  when (w.bit 1) (add false) (when (w.bit 0) (add true) s)

def execBlkMsgEnter (a : Access) (s : State) := act s (reaches s a) (hostCmd a (blkMessage 1) s)
def execBlkMsgExit (a : Access) (s : State) := act s (reaches s a) (hostCmd a (blkMessage 2) s)

/-! ### The evaluation (R383 to R391) -/

/-- The powers of one evaluation: total, filler, work, and LOGIC work by quadrant. -/
structure BlkPow where
  tot  : Nat
  fill : Nat
  work : Nat
  quad : List Nat
  deriving DecidableEq, Repr

/-- The filler that ran in period k is that of the levels driven at its tick 0 (R383). -/
def blkPowers (s : State) : BlkPow :=
  let fig := fun (p : Nat → Bool) => ((upto (sectors s)).filter p).foldl (fun t sc => t + Store.get s.tally.fig 0 sc) 0
  let v := fun (d : Nat) => (railCode s d).getD 0
  let tot := (upto 4).foldl (fun t d => t + fig (fun sc => domOf sc == d) * v d) 0
  let fill := fillOf s s.blk.drvOld (fun _ => true)
  { tot := tot, fill := fill, work := tot - fill
    quad := (upto (quads s)).map (fun q =>
      fig (fun sc => domOf sc == 0 && sc / 16 == q) * v 0 - fillOf s s.blk.drvOld (fun g => tileGroupQuad g == q)) }

/-- The mean of the window. -/
def windowMean (s : State) : Frac :=
  if s.blk.window.isEmpty then Frac.zero else (fsum s.blk.window).overBy s.blk.window.length

/-- Entry to COVER (R389): the floor is fixed. `fresh` says that this evaluation is the one at entry. -/
def enterCover (cause : Nat) (s : State) : State :=
  let f := (windowMean s).mul (Frac.make (cfgF s (blkO Reg.BLK_FLOOR) 6 0) 100)
  bump (blkO Reg.BLK_COVERS) (modBlk (fun b => { b with
    state := .cover, cause := cause, f0 := f, j := 0, resume := 0, limSaid := false, fresh := true }) s)

/-- F_j of the present j. -/
def floorNow (s : State) : Frac :=
  let den := 1000000 * cfgF s (blkO Reg.BLK_FLOOR) 24 16
  s.blk.f0.mul (Frac.make ((den : Int) - 1024 * s.blk.j) den)

/-- One message at an evaluation. -/
def takeMsg (s : State) (m : Bool × Nat) : State :=
  let on := cfgB s (blkO Reg.BLK_CTL) 2
  if m.1 then
    if on && s.blk.state == .idle then enterCover 1 s else bumpF (blkO Reg.BLK_MSGERR) 15 0 s
  else
    if on && s.blk.state == .cover then endCover 1 7 0 s else bumpF (blkO Reg.BLK_MSGERR) 31 16 s

/-- Resumption and decay, in a COVER entered before this evaluation (R390). -/
def coverEnds (work : Nat) (s : State) : State :=
  let f := floorNow s
  let run := if f.le (Frac.ofInt work) then s.blk.resume + 1 else 0
  let s1 := modBlk (fun b => { b with resume := run }) s
  if cfgF s (blkO Reg.BLK_DET) 19 16 ≤ run then endCover 2 15 8 s1
  else if f.le Frac.zero then endCover 3 23 16 s1 else s1

/-- A fall (R387). -/
def isFall (work : Nat) (s : State) : Bool :=
  let w := cfg s (blkO Reg.BLK_DET)
  let l := s.blk.recent.take (w.field 11 8)
  let top := (l.map (fun x => x.getD Frac.zero)).foldl Frac.max Frac.zero
  cfgB s (blkO Reg.BLK_CTL) 1 && l.length == w.field 11 8 && l.all (·.isSome) &&
  (Frac.ofInt (100 * work)).lt (top.scale (100 - w.field 6 0))

/-- Filler is held back by the thermal manager (R392). -/
def blkHeld (s : State) : Bool := s.therm.ceil.isSome || s.therm.gstate.any (fun g => decide (2 ≤ g))

/-- A group may carry filler (R391). -/
def eligible (s : State) (g : Nat) : Bool :=
  let c := tileGroupClu g
  let x := sec s (c / 4)
  (cfg s (blkO (Reg.BLK_GMASK (g / 32)))).bit (g % 32) && (x.mode == .run || x.mode == .coast) && x.sw == .on &&
  !(win s (c / 64)).slots.any (fun y => y.2.clu == c && (y.2.state == .opened || y.2.state == .held))

/-- A fraction rounded down, and up. -/
def fracDown (a : Frac) : Int := a.num / (a.den : Int)
def fracUp (a : Frac) : Int := ceilDiv a.num a.den

/-- The levels of R391: by group, by quadrant, and whether the cap or a share bound one. -/
def formLevels (p : BlkPow) (s : State) : Store Nat × List Nat × Bool :=
  let el := (upto (tileGroups s)).filter (eligible s)
  let n := el.length
  let w := levelW s
  let mar := Frac.make (100 - cfgF s (blkO Reg.BLK_LVL) 12 8) 100
  let c := (Frac.ofInt (codeU * (live s (pwrO Reg.PWR_CAPEFF)).field 15 0)).mul mar
  let f := floorNow s
  let work := Frac.ofInt p.work
  let capEn := cfgB s (pwrO Reg.PWR_CTL) 0
  if n = 0 || f.le work then ([], [0, 0, 0, 0], false)
  else
    let goal := Min.min (15 : Int) (fracUp ((f.sub work).overBy (n * w)))
    let room := fun (b : Frac) (used k : Nat) => fracDown ((b.sub (Frac.ofInt used)).overBy (k * w))
    let lvl0 := Min.min goal (room c p.work n)
    let lvl1 := if capEn then Min.min lvl0 (room ((c.scale (dshare s 0)).overBy 256) (p.quad.foldl (· + ·) 0) n) else lvl0
    let lvl := Max.max lvl1 0
    let qs := (upto 4).map (fun q =>
      let k := (el.filter (fun g => tileGroupQuad g == q)).length
      if k = 0 then 0
      else if capEn then
        (Max.max 0 (Min.min lvl (room ((c.scale ((dshare s 0 : Int) * qshare s q)).overBy 65536) (p.quad.getD q 0) k))).toNat
      else lvl.toNat)
    let lim := el.any (fun g => decide (((qs.getD (tileGroupQuad g) 0 : Nat) : Int) < goal))
    (el.foldl (fun t g => Store.set t 0 g (qs.getD (tileGroupQuad g) 0)) [], qs, lim)

/-- The levels of this evaluation are formed. -/
def setLevels (p : BlkPow) (s : State) : State :=
  if s.blk.state = .cover then
    let (lv, qs, lim) := if blkHeld s then ([], [0, 0, 0, 0], false) else formLevels p s
    let s1 := modBlk (fun b => { b with next := some (lv, qs), capLim := lim }) s
    let s2 := when lim (bump (blkO Reg.BLK_CAPLIM)) s1
    when (lim && !s.blk.limSaid) (fun s => raiseOn Src.BLK_CAP_LIMIT 0 0x0A 1 (modBlk (fun b => { b with limSaid := true }) s)) s2
  else modBlk (fun b => { b with next := some ([], [0, 0, 0, 0]), capLim := false }) s

/-- The period joins the window and the latest periods (R384, R387). -/
def keepPeriod (covered : Bool) (work : Nat) (s : State) : State :=
  let x := Frac.ofInt work
  if !domainRun s 0 then modBlk (fun b => { b with window := [], recent := (none :: b.recent).take 15 }) s
  else if covered then modBlk (fun b => { b with recent := (none :: b.recent).take 15 }) s
  else modBlk (fun b => { b with window := (x :: b.window).take 98, recent := (some x :: b.recent).take 15 }) s

/-- The filler's share of the period's chip energy (R395). -/
def fillEnergy (p : BlkPow) (s : State) : State :=
  let e := (chipEnergy s).1
  let add := if p.tot = 0 then 0 else if p.tot ≤ p.fill then e else e * p.fill / p.tot
  modBlk (fun b => { b with acc := addAcc b.acc add }) s

/-- One evaluation. `BLK_FLOORNOW` takes F_j at every evaluation in COVER, the one that ends it too (R397). -/
def blkEvaluate (s0 : State) : State :=
  let s := modBlk (fun b => { b with fresh := false }) s0
  let p := blkPowers s
  let was := s.blk.state == .cover
  let s1 := when was (modBlk (fun b => { b with j := b.j + 1 })) s
  let s2 := s1.blk.msgs.foldl takeMsg (modBlk (fun b => { b with msgs := [] }) s1)
  let s3 := when (was && s2.blk.state == .cover && !s2.blk.fresh) (coverEnds p.work) s2
  let s4 := when (s3.blk.state == .idle && isFall p.work s3) (enterCover 2) s3
  let covered := was || s4.blk.fresh
  let s5 := setLevels p (when covered (result (blkO Reg.BLK_FLOORNOW) (powerCode (floorNow s4))) s4)
  let s6 := fillEnergy p (keepPeriod covered p.work s5)
  let s7 := setLive (blkO Reg.BLK_AVG) (BitVec.ofNat 32 (powerCode (windowMean s6))) s6
  when (s7.blk.state == .wait && decide (98 ≤ s7.blk.window.length) && cfgB s (blkO Reg.BLK_CTL) 0)
    (modBlk (fun b => { b with state := .idle })) s7

/-- The figures evaluated are those that Tally latches in this tick (R383). -/
def execBlanketEvaluation (s : State) := act s (atTick s estP 1200 && !engDue s clsTally 0) (blkEvaluate s)

/-- Tick 0: the levels formed are driven for the whole period. -/
def driveLevels (s : State) : State :=
  modBlk (fun b => match b.next with
    | some (lv, qs) => { b with drvOld := b.drv, drv := lv, bus := lv, quad := qs, next := none }
    | none => { b with drvOld := b.drv, drv := b.bus }) s

def execBlanketLevelDrive (s : State) := act s (atTick s estP 0) (driveLevels s)

/-- `BLK_STAT` and `BLK_LEVEL` (R397, R398). -/
def blkStat (s : State) : Word :=
  let code := match s.blk.state with
    | .wait => 0
    | .idle => 1
    | .cover => 2
  BitVec.ofNat 32 (code + 4 * s.blk.cause + 0x100 * s.blk.ended + 0x800 * b2n (blkHeld s) + 0x1000 * b2n s.blk.capLim)

def blkLevel (s : State) : Word := BitVec.ofNat 32 (s.blk.quad.foldr (fun l t => l + 16 * t) 0)

end Sys2Proof.Machine
end

