-- ==== Sys2Proof/Machine/Sparing.lean ====
section
/-! DEFINITION. Spares and wear (R429 to R452): powered operation, rotations, the retest and re-trim procedure, engine
self-tests, the figures of the Hamper. -/

namespace Sys2Proof.Machine

def modSparing (f : Sparing → Sparing) (s : State) : State := s.setSparing (f s.sparing)

/-! ### Powered operation (R433) -/

abbrev secondT : Nat := 1250000000

def execPoweredSecond (s : State) :=
  act s (s.boot.lockAt.isSome && decide (s.sparing.secTicks + secondT ≤ now s))
    (modSparing (fun x => { x with secTicks := x.secTicks + secondT }) (s.setCal { s.cal with powered := (s.cal.powered + 1) % 2 ^ 64 }))

/-! ### Rotation (R438, R439) -/

/-- The rotation age of a cluster, in full days. -/
def rotDays (s : State) (g : Nat) : Int := (powered s - (clu s g).rotAt) / 86400

def rotationDue (s : State) (g : Nat) : Bool :=
  let d := cfgF s (calO Reg.CAL_WEARCFG) 7 0
  d != 0 && decide ((d : Int) ≤ rotDays s g)

/-- The conditions of R438. -/
def rotationFits (s : State) (g : Nat) : Bool :=
  let x := sec s (cluSec g)
  let c := clu s g
  c.enabled && (standbys s g).length == 1 && (regulating s g).length == 15 && c.schuss == .idle && !droopBefore s g &&
  x.mode == .run && x.sw == .on && domainRun s (cluDom g) && c.retest == none && c.takes.isEmpty

def nextRotation (s : State) : Option Nat :=
  (upto (4 * sectors s)).find? (fun g => rotationDue s g && rotationFits s g)

def execRotationStart (s : State) :=
  match nextRotation s with
  | none => act s false s
  | some g => match (standbys s g).head?, mostStressed s g with
    | some sp, some out => act s (atTick s capP 0 && s.sparing.rotTick != some (now s))
        (beginRotation g sp out (modSparing (fun x => { x with rotTick := some (now s) }) s))
    | _, _ => act s false s

/-- The transaction that ends a rotation (R439, R111): the outgoing cell stands by and takes the designation; where
re-trims are enabled its own begins one ring cycle after the cycle that this transaction ends (R441; DEDUCED from the
example of chapter 15, log entry 21). -/
def rotationEnd (g n : Nat) (s : State) : State :=
  match takeKind (clu s g) .rotation with
  | none => s
  | some t =>
    if t.outgoing == n && (cell s n).state == .regulate && (cell s t.spare).state == .regulate then
      let s1 := modCell t.spare (fun c => { c with spdes := false })
        (modCell n (fun c => { c with state := .standby, legs := 0, spdes := true, passWait := false, trimmed := false }) s)
      let s2 := modClu g (fun c => { c with rotAt := powered s }) (dropTake g t.spare s1)
      let s3 := bump (calO Reg.CAL_ROTATIONS) (bump (cluO (cluSec g) Reg.CLU_TAKEOVERS) s2)
      when (cfgB s (calO Reg.CAL_RETRIM) 0) (fun s => modClu g (fun c => { c with retest := some ⟨n, 1, now s + 9, false, true, false⟩ })
        (modCell n (fun c => { c with state := .retest }) s)) (judgeBeyond g s3)
    else s

/-! ### The retest procedure (R441 to R444) -/

/-- `CLU_RETESTRES` for an ended procedure: the failing step, 0 for a pass, and the trim. -/
def retestRes (n step trim : Nat) (s : State) : State :=
  setLive (cluO (n / 64) Reg.CLU_RETESTRES)
    (BitVec.ofNat 32 (n % 64 + 0x100 + (if step = 0 then 0x200 else 0) + 0x400 * step + 0x10000 * trim)) s

/-- The procedure ends: the load opens, the legs go off. A maintenance retest waits for its command; a re-trim that
failed isolates its cell with cause 7, one that passed has its trim written through the ring. -/
def retestEnd (g step trim : Nat) (s : State) : State :=
  match (clu s g).retest with
  | none => s
  | some r =>
    let s1 := retestRes r.cell step trim (modCell r.cell (fun c => { c with legs := 0 }) s)
    if !r.retrim then modClu g (fun c => { c with retest := none }) s1
    else if step = 0 then
      ringAsk (cluQuad g) (jobTxn 1 (g % 64) (.trim r.cell trim) (now s))
        (modClu g (fun c => { c with retest := some { r with step := 5, tap := false } }) s1)
    else raise Src.CELL_RETRIM_FAIL r.cell (isolate r.cell 7 (modClu g (fun c => { c with retest := none }) s1))

/-- The expected load current exceeds 2.0 A (R441): V_rail / (R_CAL + 1 / (64 × g)) in exact integers. A trim of 0 has
no conductance, and the spec states no quotient for it (log entry 3). -/
def overCurrent (s : State) (n : Nat) : Bool :=
  let v := (railCode s (domOf (n / 64))).getD 0
  let rc := cfgF s (cluReg (n / 16) 0x04C 16) 15 0
  let t := trimOf s n
  if t = 0 then decide (4000 < Config.divByZero (v : Int)) else decide (4000 * (rc * t + 16777216) < v * 32768 * t)

/-- A step is over (R441). Steps 1 and 2 take 8 ticks each; step 3 asks for its tap after 1,200 ticks. -/
def retestStep (g : Nat) (r : Retest) (ok : Bool) (s : State) : State :=
  let next := fun (k : Nat) (s : State) => modClu g (fun c => { c with retest := some { r with step := k, from0 := now s } }) s
  if r.step = 1 then (if ok && !r.bad then next 2 s else retestEnd g 1 0 s)
  else if r.step = 2 then
    if !ok then retestEnd g 2 0 s
    else if overCurrent s r.cell then retestEnd g 3 0 s
    else modCell r.cell (fun c => { c with legs := 64 }) (next 3 s)
  else if urgentFits s (cluQuad g) then
    urgentPush (cluQuad g) (g % 64) 4 (modClu g (fun c => { c with retest := some { r with tap := true } }) s)
  else urgentPush (cluQuad g) (g % 64) 4 s

def execRetestStepDone (g : Nat) (ok : Bool) (s : State) :=
  match (clu s g).retest with
  | some r =>
    act s (decide (g < 4 * sectors s) && decide (r.step ≤ 3) && !r.tap &&
        decide (r.from0 + (if r.step = 3 then 1200 else 8) ≤ now s)) (retestStep g r ok s)
  | none => act s false s

/-- The tap switch of a cluster's load is closed (R441). -/
def tapClosed (s : State) (g : Nat) : Bool :=
  match (clu s g).retest with
  | some r => r.step == 3
  | none => false

/-- The latest rail edge at or before a tick: rail edges lie at T mod 5 = 0 of the counter (R299). -/
def railEdge (s : State) (t0 : Nat) : Nat := t0 - (s.tb.tick.toNat + t0 - now s) % 5

/-- The rail's mean at the rail edges of a conversion's kept samples; none where a sample is missing (R316, R441). -/
def railMean (s : State) (d : Nat) (c : Conv) : Option Frac :=
  let ks := (upto c.avg).map (fun i => railEdge s (c.first + 5 * i))
  let vs := ks.map (fun e => ((stage s d).hist.find? (fun p => p.1 == e)).map (·.2))
  if vs.all (·.isSome) then some (Frac.make (vs.foldl (fun t v => t + ((v.getD 0 : Nat) : Int)) 0) c.avg) else none

/-- The trim of R442 from V_cal and V_rail, which is above it. -/
def trimOfTap (s : State) (g : Nat) (vcal : Nat) (vrail : Frac) : Int :=
  let rc := cfgF s (cluReg g 0x04C 16) 15 0
  roundDiv ((1073741824 * vcal * vrail.den : Nat) : Int) (64 * rc * (vrail.num - vcal * vrail.den).toNat)

/-- The urgent result of step 3 gives the trim of step 4, with what it fails. -/
def retestTap (g code : Nat) (c : Conv) (s : State) : State :=
  match (clu s g).retest with
  | none => s
  | some r =>
    if r.step != 3 || !r.tap then s
    else
      let v := (railMean s (cluDom g) c).getD Frac.zero
      if v.le (Frac.ofInt code) then retestEnd g 3 0 s
      else
        let t := trimOfTap s g code v
        let w := cfg s (calO Reg.CAL_RETRIM)
        if decide ((w.field 14 8 * 32768 : Int) ≤ 100 * t) && decide (100 * t ≤ (w.field 22 16 * 32768 : Int))
        then retestEnd g 0 (satN 16 t) s else retestEnd g 4 (satN 16 t) s

/-! ### Engine self-tests (R445) -/

/-- An engine serves a sector. -/
def ownServes (s : State) (sc : Nat) : Bool :=
  let x := sec s sc
  !x.onSpare && x.mode != .dark && (match x.engSw with
    | some (_, toSpare) => !toSpare
    | none => true)

def spareServes (s : State) (q : Nat) : Bool :=
  (upto 16).any (fun i => let x := sec s (16 * q + i); (x.onSpare && x.mode != .dark) || (match x.engSw with
    | some (_, toSpare) => toSpare
    | none => false))

def cmdStat (st index : Nat) (spare : Bool) (s : State) : State :=
  setLive (calO Reg.CAL_CMDSTAT) (BitVec.ofNat 32 (st + 0x100 * index + 0x10000 * b2n spare)) s

def calCommand (w : Word) (s : State) : State :=
  let op := w.field 2 0
  let i := w.field 13 8
  if op != 1 && op != 2 then s
  else
    let spare := op == 2
    let busy := s.sparing.selfTest.isSome ||
      (if spare then decide (quads s ≤ i) || spareServes s i else decide (sectors s ≤ i) || ownServes s i)
    if busy then cmdStat 4 i spare s
    else cmdStat 1 i spare (modSparing (fun x => { x with selfTest := some ⟨i, spare, now s⟩ }) s)

def execCalCmdSelftestSector (a : Access) (i : BitVec 6) (s : State) :=
  act s (reaches s a) (secureCmd a (calCommand (BitVec.ofNat 32 (1 + 0x100 * i.toNat))) s)
def execCalCmdSelftestSpare (a : Access) (i : BitVec 6) (s : State) :=
  act s (reaches s a) (secureCmd a (calCommand (BitVec.ofNat 32 (2 + 0x100 * i.toNat))) s)

/-- The test ends: a pass clears the engine's failed mark. -/
def selfTestEnd (t : SelfTest) (pass : Bool) (s : State) : State :=
  let s1 := modSparing (fun x => { x with selfTest := none }) s
  let s2 := if !pass then s1
    else if t.spare then modSparing (fun x => { x with spareFail := x.spareFail.filter (· != t.index) }) s1
    else modSec t.index (fun x => { x with ownFailed := false }) s1
  cmdStat (if pass then 2 else 3) t.index t.spare s2

def execSelfTestDone (pass : Bool) (s : State) :=
  match s.sparing.selfTest with
  | some t => act s (decide (t.from0 + 1024 * controlP ≤ now s)) (selfTestEnd t pass s)
  | none => act s false s

/-! ### The figures of the Hamper and of wear (R449 to R451) -/

def countWhere (n : Nat) (p : Nat → Bool) : Nat := ((upto n).filter p).length

/-- The figures of the Hamper are counted from the PLL's first lock; before it they show the reset values of R451 (DESIGN
CHOICE, log entry 50: R451 does not say from when a figure is counted). -/
def counted (s : State) (n : Nat) : Word := if s.boot.lockAt.isSome then BitVec.ofNat 32 n else 0

def hamperCell (s : State) : Word :=
  let n := 4 * sectors s
  counted s (countWhere n (fun g => !(standbys s g).isEmpty) + 0x10000 * countWhere n (fun g => (clu s g).beyond))

def hamperEng (s : State) : Word :=
  counted s (packBits ((upto 4).map (fun q => decide (q < quads s) && spareFree s q)) +
    16 * packBits ((upto 4).map (fun q => s.sparing.spareFail.contains q)) +
    0x100 * countWhere (sectors s) (fun i => (sec s i).mode == .dark))

def hamperStg (s : State) : Word :=
  counted s ((upto 4).foldr (fun d t => Nat.min (stage s d).spares.length 255 + 256 * t) 0)

def hamperMisc (s : State) : Word :=
  let bad := fun (n : Nat) => s.therm.dFail.contains n
  counted s (countWhere 12 (fun n => (adc s n).state == .spare) + 16 * countWhere 12 (fun n => (adc s n).state == .failed) +
    0x100 * countWhere (sectors s) (fun i => bad (2 * i) && !bad (2 * i + 1)) +
    0x10000 * countWhere (sectors s) (fun i => bad (2 * i) && bad (2 * i + 1)))

def hamperTb (s : State) : Word :=
  counted s (countWhere (physCount s.params .tile) (fun i => role s .tile i == 2) +
    0x10000 * countWhere (physCount s.params .bank) (fun i => role s .bank i == 2))

/-- The cell and the channel that a page shows, and their wear words. -/
def wearSel (s : State) (sc : Nat) : Nat := 64 * sc + (live s (cluO sc Reg.CLU_WEARSEL)).field 5 0
def wearAh (s : State) (sc : Nat) : Word :=
  let f := (wear s (wearSel s sc)).stress
  BitVec.ofNat 32 (Nat.min (f.num / ((f.den : Int) * 11250000000)).toNat 0xFFFFFFFF)
def wearTc (s : State) (sc : Nat) : Word :=
  let w := wear s (wearSel s sc)
  BitVec.ofNat 32 (Nat.min w.cycles 65535 + 0x10000 * Nat.min w.isol 65535)
def wearDuty (s : State) (sc : Nat) : Word :=
  BitVec.ofNat 32 (Nat.min ((wear s (wearSel s sc)).duty * controlP / (3600 * secondT)) 0xFFFFFFFF)
/-- Rotation ages in days, to the nearest (R11, R449). -/
def rotAge (s : State) (sc : Nat) : Word :=
  BitVec.ofNat 32 ((secClus sc).foldr (fun g t => satN 8 (roundDiv (powered s - (clu s g).rotAt) 86400) + 256 * t) 0)

def stgSel (s : State) (d : Nat) : Nat := (live s (stgO d Reg.STG_WEARSEL)).field 5 0
/-- A channel's stress in 10 mAh: 1 hour of 10 mA is 3,600 seconds of ticks. -/
def stgWearAh (s : State) (d : Nat) : Word :=
  if domCh d ≤ stgSel s d then 0
  else BitVec.ofNat 32 (Nat.min ((stgCh s (domBase d + stgSel s d)).stress / (3600 * secondT)) 0xFFFFFFFF)
/-- A channel's switching time in hours, to the nearest (R11, R450), and its isolation count. -/
def stgWearRun (s : State) (d : Nat) : Word :=
  if domCh d ≤ stgSel s d then 0
  else
    let ch := domBase d + stgSel s d
    BitVec.ofNat 32 (satN 24 (roundDiv (stgCh s ch).time (3600 * secondT)) +
      0x1000000 * Nat.min (Store.get s.sparing.chIsol 0 ch) 255)

end Sys2Proof.Machine
end

