-- ==== Sys2Proof/Machine/Ring.lean ====
section
/-! DEFINITION. The command ring and its arbiter (R453 to R473): presentation, draws, backoff, locked sequences, the
fault isolator, what a completed transaction does, discard; and the debug port (R577). -/

namespace Sys2Proof.Machine

def modDbg (f : Debug → Debug) (s : State) : State := s.setDbg (f s.dbg)

def ringCycle (s : State) : Nat := s.tb.tick.toNat / 8
def ringAt (s : State) (n : Nat) : Bool := atTick s 8 n

/-- The tickets of a requester (R471). -/
def tickets (s : State) (r : Nat) : Nat :=
  if r < 4 then (cfg s (arbO Reg.ARB_TICKETS0)).field (8 * r + 7) (8 * r)
  else (cfg s (arbO Reg.ARB_TICKETS1)).field (8 * (r - 4) + 7) (8 * (r - 4))

def lockLimit (s : State) : Nat := 125 * cfgF s (arbO Reg.ARB_LOCK) 8 0

/-! ### Breaking a lock (R465, R466) -/

/-- The owner is told of the break: the Tally loader restores or refuses (R249). -/
def tellOwner (q : Nat) (l : Lock) (s : State) : State := if l.owner = 3 then shiftBroken q l.from0 s else s

/-- A lock breaks: what it staged is discarded. -/
def breakLock (q : Nat) (s : State) : State :=
  match (ring s q).lock with
  | none => s
  | some l =>
    tellOwner q l (raiseOn Src.ARB_LOCK_BROKEN q 0x03 (1 + q)
      (modRing q (fun x => { x with lock := none, broken := Nat.min (x.broken + 1) 65535 }) s))

def lockExpired (s : State) (q : Nat) : Bool :=
  match (ring s q).lock with
  | some l => decide (l.from0 + lockLimit s ≤ now s)
  | none => false

/-- The fault isolator takes this cycle (R467). -/
def isoTakes (s : State) (q : Nat) : Bool :=
  match (ring s q).iso with
  | t :: _ => decide (t.stamp + 8 ≤ now s)
  | [] => false

def presented' (s : State) (q r : Nat) : Option Txn :=
  (ring s q).pres.find? (fun t => t.req == r && decide (t.stamp ≤ now s))

/-! ### Starting a cycle (R453, R463, R467) -/

def count0 : ReqCount := { grants := 0, wait := 0, max := 0 }

/-- A transaction issued is counted with its wait; each count saturates at its width (R471, R91). -/
def countIssue (t : Txn) (s : State) (x : Ring) : Ring :=
  let c := Store.get x.counts count0 t.req
  let w := now s - t.stamp
  let c' : ReqCount :=
    ⟨Nat.min (c.grants + 1) 0xFFFFFFFF, Nat.min (c.wait + w) 0xFFFFFFFFFFFFFFFF, Nat.min (Nat.max c.max w) 0xFFFFFFFF⟩
  { x with counts := x.counts.put t.req c' }

/-- A transaction leaves the arbiter; one that carries `OPEN` opens a lock, one of a lock's owner counts in it. -/
def issue (q : Nat) (t : Txn) (void : Bool) (s : State) : State :=
  modRing q (fun x =>
    let y := countIssue t s (promote t.req (now s) { x with pres := x.pres.erase t, current := some t, voidWr := void })
    match y.lock with
    | some l => { y with lock := some { l with count := l.count + 1 } }
    | none =>
      if t.opn && !t.cls && !void && t.req != 0 then
        { y with lock := some { owner := t.req, count := 1, from0 := now s, staged := [], reset := false, closed := false },
                 opened := Nat.min (y.opened + 1) 65535 }
      else y) s

/-- What a requester presents takes the cycle that begins. -/
def issueFor (q r : Nat) (void : Bool) (s : State) : State :=
  match presented' s q r with
  | some t => issue q t void s
  | none => s

/-- The lock breaks at a ring-cycle boundary at or after its expiry. The owner's transaction of this cycle is already committed
to it and runs, its write discarded; the cycle after a closing transaction that came too late belongs to the grant that its
draw gave (R464, R465). -/
def expireLock (q : Nat) (s : State) : State :=
  match (ring s q).lock with
  | none => s
  | some l => breakLock q (when (!isoTakes s q && !l.closed && (ring s q).current.isNone) (issueFor q l.owner true) s)

def execLockLimitExpiry (q : Nat) (s : State) :=
  act s (decide (q < quads s) && ringAt s 0 && lockExpired s q && (ring s q).current == none) (expireLock q s)

/-- The transaction of the cycle that begins: the fault isolator's, one committed at an expiry, the lock owner's, or
the oldest grant's. -/
def beginCycle (q : Nat) (s0 : State) : State :=
  let s := if lockExpired s0 q then expireLock q s0 else s0
  let x := ring s q
  if x.current.isSome then s
  else if isoTakes s q then
    match x.iso with
    | t :: rest => modRing q (fun x => countIssue t s { x with iso := rest, current := some t, voidWr := false }) s
    | [] => s
  else match x.lock, x.grants with
    | some l, _ => issueFor q l.owner false s
    | none, r :: rest => issueFor q r false (modRing q (fun x => { x with grants := rest }) s)
    | none, [] => s

/-! ### The draw (R457 to R462) -/

/-- One step of the LFSR (R458). -/
def lfsrStep (w : Word) : Word := if w.bit 0 then (w >>> 1) ^^^ 0x80200003 else w >>> 1

/-- The candidate that `x` falls on. -/
def pick (s : State) : List Nat → Nat → Option Nat
  | [], _ => none
  | r :: l, x => if x < tickets s r then some r else pick s l (x - tickets s r)

/-- A requester may be drawn: presented in time, not already granted, its backoff over. -/
def eligibleReq (s : State) (q r : Nat) : Bool :=
  let x := ring s q
  (presented' s q r).isSome && !x.grants.contains r && decide (Store.get x.wait 0 r ≤ ringCycle s)

/-- The next of some requesters in cyclic order after the one last served (R459). -/
def afterCyclic (l : List Nat) (last : Nat) : Option Nat :=
  match l.find? (fun r => decide (last < r)) with
  | some r => some r
  | none => l.head?

def makeDraw (s : State) (q : Nat) : Draw :=
  let el := (upto 7).filter (eligibleReq s q)
  let tk := el.filter (fun r => decide (0 < tickets s r))
  let x := ring s q
  let base := cfgF s (arbO Reg.ARB_BACKOFF) 5 0
  if tk.isEmpty then
    { won := afterCyclic (el.filter (fun r => tickets s r == 0)) x.last0, losers := [], lfsr := x.lfsr, zero := true,
      void := false, cycle := ringCycle s, base := base }
  else
    let w := tk.foldl (fun t r => t + tickets s r) 0
    let l := lfsrStep x.lfsr
    let v := (l.toNat / 65536) * w / 65536
    let won := pick s tk v
    { won := won, losers := tk.filter (fun r => some r != won), lfsr := l, zero := false, void := false, cycle := ringCycle s,
      base := base }

/-- The transaction ends the sequence of its owner: it carries `CLOSE`. One that carries `OPEN` too acts as a plain one
(R463). -/
def closes (l : Lock) (t : Txn) : Bool := t.req == l.owner && t.cls && !t.opn

/-- The draw of this cycle is suppressed by an open lock, unless the transaction in this cycle closes it (R464). -/
def suppressed (s : State) (q : Nat) : Bool :=
  match (ring s q).lock with
  | none => false
  | some l => match (ring s q).current with
    | some t => !closes l t
    | none => true

def drawStart (q : Nat) (s0 : State) : State :=
  let s := beginCycle q s0
  if suppressed s q then modRing q (fun x => { x with draw := none }) s
  else engStart clsArb q (modRing q (fun x => { x with draw := some (makeDraw s q) }) s)

def execArbiterDrawStart (q : Nat) (s : State) :=
  act s (decide (q < quads s) && ringAt s 0 && (eng s clsArb q).start != some (now s)) (drawStart q s)

/-- The losers' backoff (R462). -/
def backoff (base cycle : Nat) (x : Ring) (r : Nat) : Ring :=
  let l := Store.get x.loss 0 r
  { x with wait := x.wait.put r (cycle + base * 2 ^ Nat.min l 10)
           loss := x.loss.put r (Nat.min (l + 1) 10) }

/-- Tick 6: the grant latches; a draw that a discard voided keeps only its LFSR step (R468). -/
def drawCommit (q : Nat) (s : State) : State :=
  match (ring s q).draw with
  | none => s
  | some d =>
    modRing q (fun x0 =>
      let x := { x0 with draw := none, lfsr := d.lfsr, latched := some ⟨now s, x0.wait, x0.last0⟩ }
      if d.void then x
      else
        let y := d.losers.foldl (backoff d.base d.cycle) x
        match d.won with
        | some r => { y with grants := y.grants ++ [r], loss := Store.set y.loss 0 r 0, last0 := if d.zero then r else y.last0 }
        | none => y) s

def execArbiterDrawLatch (q : Nat) (s : State) :=
  act s (decide (q < quads s) && engDue s clsArb q && (ring s q).draw.isSome)
    (latch clsArb q (drawCommit q) (modRing q (fun x => { x with draw := none })) s)

/-! ### Presentation (R455) -/

/-- A requester presents a transaction of its own making. Its register lies within a stop whose registers the spec
does not list, so that it has no effect beyond the ring (log entry 7). -/
def execRingPresent (q req stop reg : Nat) (write : Bool) (data : Word) (opn cls : Bool) (s : State) :=
  let t : Txn := { req := req, stop := stop, reg := reg, write := write, data := data, opn := opn, cls := cls, stamp := now s,
                   job := .raw }
  act s (decide (q < quads s) && decide (req < 8) && decide (stop < 128) && decide (reg < 256) &&
      (req == 7 || !(ring s q).pres.any (fun x => x.req == req)))
    (if req = 7 then presentIso q [t] s else ringAsk q t s)

/-! ### Completion (R453, R463) -/

/-- The write of a recalibrated K reaches its cluster, clipped as R119 clips; while `FREEZE` is 1 it changes nothing. The
cluster counts as recalibrated from here (R255). -/
def calibSet (g k : Nat) (s : State) : State :=
  if cfgB s (cluReg g 0x048 16) 16 then s
  else when (decide (k < 12288) || decide (20480 < k)) (raiseOn Src.CLU_ITRIM_LIMIT g (cluPage g) (13 + g % 4))
    (modClu g (fun c => { c with k := (clamp k 12288 20480).toNat })
      (s.setTally { s.tally with recal := s.tally.recal.put g (capNo s) }))

/-- A write reaches its stop, and takes effect as its target's rule states. -/
def deliverTxn (q : Nat) (t : Txn) (s : State) : State :=
  match t.job with
  | .raw => s
  | .debug => s
  | .markFailed _ => s
  | .startSpare g n => startSpare g n s
  | .toStandby g n => rotationEnd g n s
  | .trim n v => s.setRegs { s.regs with trims := s.regs.trims.filter (fun x => x.cell != n) ++ [({ cell := n, value := v } : TrimWrite)] }
  | .shift u i => shiftDone q u i t.data s
  | .calib g k => calibSet g k s
  | .cellCmd op n => cellCmdEffect op n s

/-- A stop of the quadrant with a unit: its clusters, its engines, the spare, the feature scaler (R454). -/
def stopPresent (stop : Nat) : Bool := decide (stop < 82)

/-- The debug port takes its completion (R577). A read of a stop without a unit returns zero (R454). -/
def debugDone (t : Txn) (rdata : Word) (s : State) : State :=
  if t.job = .debug then
    when (!t.write) (setLive (dbgO Reg.DBG_RDATA) (if stopPresent t.stop then rdata else 0))
      (modDbg (fun d => { d with busy := false, done := true, seq := (d.seq + 1) % 256 }) s)
  else s

/-- The transaction in progress is complete: outside a lock its write reaches its stop, within one it is staged; the
one that carries `CLOSE` lets every staged write reach its stop; a reset owner, or a 64th transaction that does not
close, breaks the lock. -/
def completeTxn (q : Nat) (t : Txn) (rdata : Word) (s0 : State) : State :=
  let s := debugDone t rdata (modRing q (fun x => { x with current := none, voidWr := false }) s0)
  let void := (ring s0 q).voidWr
  match (ring s q).lock with
  | some l =>
    if t.req != l.owner then (if t.write && !void then deliverTxn q t s else s)
    else
      let staged := if t.write && !void then l.staged ++ [t] else l.staged
      let s1 := modRing q (fun x => { x with lock := some { l with staged := staged, closed := l.closed || closes l t } }) s
      if l.reset || faultComing s l.owner l.from0 then breakLock q s1
      else if closes l t && decide (now s ≤ l.from0 + lockLimit s) then
        staged.foldl (fun s t => deliverTxn q t s) (modRing q (fun x => { x with lock := none }) s1)
      else if !closes l t && decide (64 ≤ l.count) then breakLock q s1
      else s1
  | none => if t.write && !void then deliverTxn q t s else s

def execRingTransactionComplete (q : Nat) (rdata : Word) (s : State) :=
  match (ring s q).current with
  | some t => act s (decide (q < quads s) && ringAt s 7) (completeTxn q t rdata s)
  | none => act s false s

/-! ### Discard (R468) -/

/-- The work that a withdrawn transaction belonged to: a rotation or return to duty ends (R440), a pass waits no more, a
re-trim is abandoned, the debug port is told. -/
def withdrawn (s : State) (t : Txn) : State :=
  match t.job with
  | .startSpare g n => if (takeFor (clu s g) n).any (fun x => x.kind == .takeover) then s else incomingLost g n s
  | .toStandby g n => rotationDropped g n s
  | .trim n _ => abandonRetrimOf n (modCell n (fun c => { c with passWait := false }) s)
  | .debug => modDbg (fun d => { d with busy := false, withdrawn := true }) s
  | _ => s
where
  abandonRetrimOf (n : Nat) (s : State) : State :=
    match (clu s (n / 16)).retest with
    | some r => if r.retrim && r.cell == n then abandonRetrim (n / 16) s else s
    | none => s

/-- A draw that the discard finds under way, or latched in its own tick, names no requester, and no backoff starts from it; its
LFSR step stands. A write in progress of the sequence whose lock breaks is discarded with what is staged. -/
def voidDraw (s : State) (x : Ring) : Ring :=
  let y := { x with pres := [], queue := [], loss := [], grants := [], draw := x.draw.map (fun d => { d with void := true }),
                    voidWr := x.voidWr || x.current.any (fun t => x.lock.any (fun l => l.owner == t.req)) }
  match x.latched with
  | some b => if b.at0 = now s then { y with wait := b.wait, last0 := b.last0 } else y
  | none => y

/-- A discard of work in flight in a quadrant's arbiter. -/
def ringDiscard (q : Nat) (s : State) : State :=
  let x := ring s q
  (x.pres ++ x.queue).foldl withdrawn (breakLock q (modRing q (voidDraw s) s))

/-! ### The debug port (R577) -/

def dbgCommand (w : Word) (s : State) : State :=
  let q := w.field 1 0
  if s.dbg.busy || !cfgB s (dbgO Reg.DBG_CTL) 0 || decide (quads s ≤ q) then
    refuse 0x0D (modDbg (fun d => { d with refused := true }) s)
  else
    let t : Txn := { req := 6, stop := w.field 8 2, reg := w.field 16 9, write := w.bit 17, data := live s (dbgO Reg.DBG_WDATA),
                     opn := w.bit 18, cls := w.bit 19, stamp := now s, job := .debug }
    ringAsk q t (modDbg (fun d => { d with busy := true, done := false, refused := false, withdrawn := false }) s)

def execDbgCmd (a : Access) (cmd : BitVec 20) (s : State) :=
  act s (reaches s a) (secureCmd a (dbgCommand (cmd.setWidth 32)) s)

/-- A test-logic reset of the debug port (R466): its transaction is withdrawn, a lock of its own is broken. -/
def debugReset (s : State) : State :=
  let s1 := when (s.dbg.busy && (upto (quads s)).any (fun q => (ring s q).pres.any (fun t => t.job == .debug) ||
      (ring s q).queue.any (fun t => t.job == .debug)))
    (modDbg (fun d => { d with busy := false, withdrawn := true })) s
  ringWithdraw 6 (ownerReset 6 s1)

def execTestLogicReset (s : State) := act s true (debugReset s)

/-- `DBG_STAT` (R577). -/
def dbgStat (s : State) : Word :=
  BitVec.ofNat 32 (b2n s.dbg.busy + 2 * b2n s.dbg.done + 4 * b2n s.dbg.refused + 8 * b2n s.dbg.withdrawn + 256 * s.dbg.seq)

/-! ### Status words (R471, R472) -/

def arbQstat (s : State) (q : Nat) : Word :=
  if quads s ≤ q then 0
  else
    let x := ring s q
    let (o, l, c) := match x.lock with
      | some l => (l.owner, 1, Nat.min l.count 64)
      | none => (0, 0, 0)
    let iso := x.iso.any (fun t => decide (t.stamp ≤ now s))
    BitVec.ofNat 32 (o + 8 * l + 16 * c + 0x800 * b2n iso +
      0x10000 * packBits ((upto 8).map (fun r => x.pres.any (fun t => t.req == r) || (r == 7 && iso))))

def arbQsel (s : State) : Nat := (live s (arbO Reg.ARB_QSEL)).field 1 0
def arbLfsr (s : State) (q : Nat) : Word := if quads s ≤ q then 0 else (ring s q).lfsr
def arbBkoff (s : State) : Word :=
  if quads s ≤ arbQsel s then 0
  else BitVec.ofNat 32 ((upto 7).foldr (fun r t => Store.get (ring s (arbQsel s)).loss 0 r + 16 * t) 0)
def arbLocks (s : State) : Word :=
  if quads s ≤ arbQsel s then 0 else BitVec.ofNat 32 ((ring s (arbQsel s)).opened + 0x10000 * (ring s (arbQsel s)).broken)

/-- The counters of requester `r`, by word. -/
def arbCount (s : State) (r i : Nat) : Word :=
  if quads s ≤ arbQsel s then 0
  else
    let c := Store.get (ring s (arbQsel s)).counts count0 r
    BitVec.ofNat 32 (if i = 0 then c.grants else if i = 1 then c.wait else if i = 2 then c.wait / 0x100000000 else c.max)

/-- The sum over quadrants of a requester's grants. -/
def arbGrantSum (s : State) (r : Nat) : Word :=
  BitVec.ofNat 32 ((upto (quads s)).foldl (fun t q => t + (Store.get (ring s q).counts count0 r).grants) 0)

end Sys2Proof.Machine
end

