-- ==== Sys2Proof/Machine/Store.lean ====
section
/-! DEFINITION. The calibration store (R501 to R529): discovery, the scan, the write queue, reclaim, refresh and
retirement, and the records of wear and retirement that R437 asks for. -/

namespace Sys2Proof.Machine

def modCal (f : CalStore → CalStore) (s : State) : State := s.setCal (f s.cal)

/-! ### Records (R511) -/

/-- A record passes R511. -/
def recordGood (r : Record) : Bool := r.valid && payloadFits r.payload r.typ r.key && r.len == payloadLen r.payload

/-- The record with the highest `SEQ` among those of a type and key that are good; it may be a tombstone. -/
def winnerRaw (l : List Record) (typ key : Nat) : Option Record :=
  l.foldl (fun w r =>
    if recordGood r && r.typ == typ && r.key == key && (match w with
      | some x => decide (x.seq < r.seq)
      | none => true) then some r else w) none

/-- The winner of a type and key; a tombstone counts as none. -/
def winner (s : State) (typ key : Nat) : Option Record := (winnerRaw s.cal.recs typ key).filter (fun r => r.len != 0)

/-- Every winning record. -/
def winners (s : State) : List Record :=
  s.cal.recs.filter (fun r => (winnerRaw s.cal.recs r.typ r.key).any (fun w => w.seq == r.seq))

/-! ### Payloads formed from the live state (R512, R437) -/

def ofList (p : Nat → Bool) (n : Nat) : List Nat := (upto n).filter p

def trimsOf (s : State) (q : Nat) : Payload :=
  .trims ((upto 1024).map (fun i => if 1024 * q + i < 64 * sectors s then trimOf s (1024 * q + i) else 0))

def wearOf (s : State) (q : Nat) : Payload :=
  .wear
    ((upto 1024).map (fun i =>
      let w := wear s (1024 * q + i)
      (satN 32 (roundDiv w.stress.num (w.stress.den * 11250000)),
        satN 32 (roundDiv (w.duty * controlP : Nat) secondT), Nat.min w.cycles 65535, Nat.min w.isol 65535)))
    ((upto 64).map (fun i =>
      if 64 * q + i < 4 * sectors s then satN 32 (powered s - (clu s (64 * q + i)).rotAt) else 0))

/-- Isolation counts of the engines: the sectors' own, then the spare ones. -/
def wearAllOf (s : State) : Payload :=
  let cap := fun (m : Store Nat) (i : Nat) => Nat.min (Store.get m 0 i) 65535
  .wearAll s.cal.powered
    ((upto 80).map (fun i => (satN 32 (roundDiv (stgCh s i).stress 450000000),
      satN 32 (roundDiv (stgCh s i).time secondT), cap s.sparing.chIsol i)))
    ((upto 12).map (cap s.sparing.adcIsol)) ((upto 128).map (cap s.sparing.dioIsol))
    ((upto 64).map (cap s.sparing.engIsol) ++ (upto 4).map (cap s.sparing.spareIsol))

/-- A cell holds its failed mark: in ISOLATED, or in a retest that it has not passed (R431). A cell that is re-trimmed is
sound. -/
def cellFailed (s : State) (n : Nat) : Bool :=
  (cell s n).state == .isolated ||
    ((cell s n).state == .retest && !(clu s (n / 16)).retest.any (fun r => r.cell == n && r.retrim))

/-- A converter that keeps its failed mark: in FAILED, or in a retest that it has not passed. -/
def adcOut (s : State) (n : Nat) : Bool := (adc s n).state == .failed || (adc s n).state == .retest

/-- The retirement map: the failed units of every kind, and the leg maps. -/
def retireOf (s : State) : Payload :=
  let n := sectors s
  .retire (ofList (cellFailed s) (64 * n))
    ((upto 4096).map (fun i => if i < 64 * n then (legMap s i).toNat else 0))
    (ofList (fun i => if i % 2 = 0 then (clu s (i / 2)).aFail else (clu s (i / 2)).bFail) (8 * n))
    (ofList (fun i => if i < 64 then (sec s i).ownFailed else s.sparing.spareFail.contains (i - 64)) 68)
    (ofList (adcOut s) 12)
    (ofList (fun i => s.therm.dFail.contains i) 128)
    (ofList (fun i => (stgCh s i).failed) 80)
    (ofList (fun i => role s .tile i == 4) (physCount s.params .tile))
    (ofList (fun i => role s .bank i == 4) (physCount s.params .bank))
    (ofList (fun i => (s.cal.secs.find i).any (fun f => f.retired)) 2048)

def planOf (s : State) : Payload :=
  .plan ((upto 1024).map (logEntry s .tile)) ((upto 8192).map (logEntry s .bank))

/-- The payload of a block-written type, from the live state. -/
def livePayload (s : State) (typ key : Nat) : Payload :=
  if typ = 3 then trimsOf s key
  else if typ = 4 then (if key = 4 then wearAllOf s else wearOf s key)
  else if typ = 5 then retireOf s
  else .empty

/-! ### Sectors (R506, R519, R520) -/

def flash0 : FlashSec := { head := [], erases := 0, openSeq := 0, erased := true, dirty := false, retired := false }
def flashSec (s : State) (i : Nat) : FlashSec := Store.get s.cal.secs flash0 i
def setFlash (i : Nat) (f : FlashSec) (s : State) : State := modCal (fun c => { c with secs := Store.set c.secs flash0 i f }) s

/-- Sectors of the part: 64 KiB each. -/
def flashCount (s : State) : Nat := if s.cal.density = 0 then 0 else 2 * 2 ^ s.cal.density

def inService (s : State) : List Nat := (upto (flashCount s)).filter (fun i => !(flashSec s i).retired)
def erasedSecs (s : State) : List Nat := (inService s).filter (fun i => (flashSec s i).erased)

/-- The first of a list with the least figure. -/
def leastBy (f : Nat → Nat) : List Nat → Option Nat
  | [] => none
  | i :: l => match leastBy f l with
    | some j => if f j < f i then some j else some i
    | none => some i

def leastErases (s : State) : Nat := ((inService s).map (fun i => (flashSec s i).erases)).foldl Nat.min 0xFFFFFFFF
def mostErases (s : State) : Nat := maxNat ((inService s).map (fun i => (flashSec s i).erases))

/-- Why and which sector is to be reclaimed (R520). -/
def reclaimPick (s : State) : Option Nat :=
  let w := cfg s (calO Reg.CAL_JCFG)
  let others := (inService s).filter (fun i => s.cal.active != some i)
  if (erasedSecs s).length < w.field 3 0 then
    leastBy (fun i => (flashSec s i).openSeq) (others.filter (fun i => !(flashSec s i).erased))
  else if w.field 31 16 < mostErases s - leastErases s then leastBy (fun i => (flashSec s i).erases) others
  else none

/-- The erased sector that is opened next (R519). -/
def openable (s : State) : Option Nat := leastBy (fun i => (flashSec s i).erases) (erasedSecs s)

/-- A sector is opened: its header is written with the next `OPENSEQ`. -/
def openSector (i : Nat) (s : State) : State :=
  let f := flashSec s i
  let n := s.cal.openSeq + 1
  modCal (fun c => { c with active := some i, ptr := 0, openSeq := n })
    (setFlash i { f with erased := false, openSeq := n, head := headBytes f.erases n } s)

/-- An erased sector is opened for a write; one that counts as erased with a block that is not is erased first, since no such
block is programmed (R507, R509). -/
def openFor (i : Nat) (s : State) (write : State → State) : State :=
  if (flashSec s i).dirty then modCal (fun c => { c with erase := some (i, now s) }) s else write (openSector i s)

/-- Blocks that the winning records of a sector take. -/
def winnersIn (s : State) (i : Nat) : List Record := (winners s).filter (fun r => r.sector == i)

/-! ### Writing (R516, R517) -/

def stcmdStat (st : Nat) (s : State) : State := modCal (fun c => { c with cmdStat := st }) s

/-- The mark of a sector that leaves service (R523). -/
def markRetired (i : Nat) (s : State) : State :=
  raiseOn Src.CAL_SECTOR_RETIRED i 0x06 3 (modCal (fun c => { c with active := if c.active = some i then none else c.active })
    (setFlash i { flashSec s i with retired := true } s))

/-- FULL (R524): queued writes are refused and counted. A failed sector that was to be emptied first is marked all the same, and
its RETIRE record refused with the others; the winners that nothing could take are read on until the next scan (DESIGN CHOICE,
log entry 51: R523 and R524 do not say). -/
def storeFull (s : State) : State :=
  let failed := (s.cal.drain.filter (·.2)).map (·.1)
  let n := s.cal.queue.length + failed.length
  let mine := s.cal.queue.any (fun r => r.last) || s.cal.redo.any (fun x => x.1.last)
  let s1 := modCal (fun c => { c with state := .full, queue := [], capture := false, redo := none, drain := [] }) s
  failed.foldl (fun s i => markRetired i s)
    (raiseOn Src.CAL_STORE_FULL 0 0x06 2 (when mine (stcmdStat 3) (bumpBy (calO Reg.CAL_QFULL) n s1)))

/-- The store begins to program a record at the write pointer, with its first page. -/
def programAt (req : CalReq) (r : Record) (s : State) : State :=
  let at0 := s.cal.active.getD 0
  modCal (fun c => { c with prog := some ⟨req, { r with sector := at0, block := c.ptr }, 0, now s⟩ }) s

/-- The record of a request, with the next `SEQ`. -/
def newRecord (req : CalReq) (s : State) : Record :=
  let p := if req.copy then ((winnerRaw s.cal.recs req.typ req.key).map (·.payload)).getD .empty
    else req.payload.getD (livePayload s req.typ req.key)
  let w := if req.copy then ((winnerRaw s.cal.recs req.typ req.key).map (·.sealCrc)).getD 0 else req.sealCrc
  { sector := 0, block := 0, typ := req.typ, key := req.key, len := payloadLen p, seq := s.cal.seq, written := s.cal.powered,
    sealCrc := w, payload := p, valid := true }

/-- A record fits in the active sector. -/
def roomFor (s : State) (len : Nat) : Bool := s.cal.active.isSome && decide (s.cal.ptr + recBlocks len ≤ 124)

/-- Room for a record: as it is, in a sector opened for it, or once a sector is reclaimed whose winners the active one
can take (between queued writes), or that has none (within a copy). Where there is none, the store is full. -/
def makeRoom (len : Nat) (s : State) (write : State → State) : State :=
  if roomFor s len then write s
  else match openable s with
    | some i => openFor i s write
    | none =>
      let c := s.cal
      let idle := c.drain.isEmpty && c.redo.isNone
      let room := if idle && c.active.isSome then 124 - c.ptr else 0
      let blocks := fun (i : Nat) => (winnersIn s i).foldl (fun t r => t + recBlocks r.len) 0
      let fits := (inService s).filter (fun i =>
        c.active != some i && !(flashSec s i).erased && !c.drain.any (fun x => x.1 == i) && decide (blocks i ≤ room))
      match leastBy (fun i => (flashSec s i).openSeq) fits with
      | some i => if idle then modCal (fun c => { c with drain := [(i, false)] }) s
        else modCal (fun c => { c with erase := some (i, now s) }) s
      | none => storeFull s

/-- A sector leaves service (R523): its records with it, the mark is live, a RETIRE record is queued. -/
def retireSector (i : Nat) (s : State) : State :=
  let s1 := modCal (fun c => { c with recs := c.recs.filter (fun r => r.sector != i) }) (markRetired i s)
  let r : CalReq := { typ := 5, key := 0, copy := false, payload := none, sealCrc := 0, capt := false, last := false }
  let have5 := s1.cal.queue.any (fun x => x.typ == 5)
  if have5 then s1
  else if s1.cal.queue.length < 16 then modCal (fun c => { c with queue := c.queue ++ [r] }) s1
  else modCal (fun c => { c with late := c.late ++ [r] }) (bump (calO Reg.CAL_QFULL) s1)

/-- What an idle store does next: the record to be written again, the sector being emptied, then the queue. One sector
is emptied at a time; `n` bounds those that need nothing but their mark. -/
def calRun : Nat → State → State
  | 0, s => s
  | n + 1, s =>
    let c := s.cal
    if c.state != .ready || c.prog.isSome || c.erase.isSome then s
    else match c.redo with
      | some (req, r) => makeRoom r.len s (fun s => programAt req r (modCal (fun c => { c with redo := none }) s))
      | none => match c.drain with
        | (i, ret) :: rest =>
          match (winnersIn s i).head? with
          | some r =>
            makeRoom r.len s (fun s =>
              programAt { typ := r.typ, key := r.key, copy := true, payload := none, sealCrc := 0, capt := false, last := false }
                { r with seq := s.cal.seq, written := s.cal.powered }
                (modCal (fun c => { c with seq := c.seq + 1 }) s))
          | none =>
            if ret then calRun n (retireSector i (modCal (fun c => { c with drain := rest }) s))
            else modCal (fun c => { c with erase := some (i, now s) }) s
        | [] => match c.queue with
          | [] => s
          | req :: q =>
            let r := newRecord req s
            makeRoom r.len s (fun s => programAt req r (modCal (fun c => { c with queue := q, seq := c.seq + 1 }) s))

/-- The store goes on, with the reclaim of a sector where `makeRoom` chose one. -/
def calGo (s : State) : State := calRun 8 (calRun 8 s)

/-- A write is queued (R516). -/
def calPush (r : CalReq) (s : State) : State :=
  let c := s.cal
  if c.state = .absent then when r.last (stcmdStat 3) s
  else if c.state = .full then when r.last (stcmdStat 3) (bump (calO Reg.CAL_QFULL) s)
  else if r.payload.isNone && !r.copy && c.queue.any (fun x => x.typ == r.typ && x.key == r.key && x.payload.isNone && !x.copy)
  then s
  else if 16 ≤ c.queue.length then
    when r.last (stcmdStat 3) (bump (calO Reg.CAL_QFULL)
      (when (!r.last) (modCal (fun c => { c with late := c.late ++ [r] })) s))
  else calGo (modCal (fun c => { c with queue := c.queue ++ [r], capture := c.capture || r.capt }) s)

def blockWrite (typ key : Nat) (s : State) : State :=
  calPush { typ := typ, key := key, copy := false, payload := none, sealCrc := 0, capt := false, last := false } s

/-- A mechanism queues the write it owes. -/
def execCalWriteRequest (typ key : Nat) (s : State) :=
  act s (s.cal.owed.contains (typ, key))
    (blockWrite typ key (modCal (fun c => { c with owed := c.owed.filter (· != (typ, key)) }) s))

/-- A copy of a winning record is queued, where nothing newer of its type and key is (R521). -/
def refresh (r : Record) (s : State) : State :=
  if s.cal.queue.any (fun x => x.typ == r.typ && x.key == r.key) then s
  else calPush { typ := r.typ, key := r.key, copy := true, payload := none, sealCrc := 0, capt := false, last := false } s

/-- A read of a winner, whose worst block needed `corr` corrections, applies R521. -/
def judgeRead (corr : Nat) (r : Record) (s : State) : State :=
  let w := cfg s (calO Reg.CAL_REFRESH)
  let worn := decide (w.field 19 16 ≤ corr)
  let old := decide (r.written + w.field 9 0 * 86400 ≤ s.cal.powered)
  when (worn || old) (refresh r) (when worn (raise Src.CAL_ECC_CORRECTED r.sector) s)

def badRecord (sector : Nat) (s : State) : State :=
  raiseOn Src.CAL_RECORD_BAD sector 0x06 5 (bump (calO Reg.CAL_BADREC) s)

/-! ### Discovery and scan (R504, R505, R514, R515) -/

/-- A wear record is among the writes that wait (R437). -/
def wearWaits (s : State) : Bool := s.cal.queue.any (fun r => r.typ == 4)

/-- A wear record that is not written is owed: the next thermal-period end queues it again (R437). -/
def oweWear (lost : Bool) (s : State) : State := when lost (modSparing (fun x => { x with wearOwed := true })) s

/-- Discovery begins, at once or when a program or erase already begun has ended (R531). A record that is to be written again
has had its programming begun, so that it is still completed, and a failed sector is still emptied and retired, once the part is
read again (R517, R518, R523; DEDUCED, log entry 51). -/
def discover (s0 : State) : State :=
  let s := oweWear (wearWaits s0) s0
  let busy := s.cal.prog.isSome || s.cal.erase.isSome
  modCal (fun c => { c with
    state := .discover, step := if busy then 9 else 0, from0 := now s, tries := 0, found := 0, queue := [], capture := false,
    drain := c.drain.filter (·.2) }) s

def execFlashResetWaitEnd (s : State) :=
  act s (s.cal.state == .discover && s.cal.step == 0 && decide (s.cal.from0 + usTicks 100 ≤ now s))
    (modCal (fun c => { c with step := 1 }) s)

def noPart (src : Nat) (s : State) : State :=
  raiseOn src 0 0x06 1 (modCal (fun c => { c with
    state := .absent, density := 0, quad := false, drive := drive0, recs := [], active := none, ptr := 0, seq := 0,
    redo := none, drain := [] }) s)

def jedec (id : BitVec 24) (s : State) : State :=
  if id = 0 || id = 0xFFFFFF then
    if s.cal.tries = 2 then noPart Src.CAL_FLASH_ABSENT s else modCal (fun c => { c with tries := c.tries + 1 }) s
  else setLive (calO Reg.CAL_JEDECID) (id.setWidth 32) (modCal (fun c => { c with step := 2 }) s)

def execFlashJedecId (id : BitVec 24) (s : State) :=
  act s (s.cal.state == .discover && s.cal.step == 1) (jedec id s)

def execFlashSfdpRead (info : SfdpInfo) (s : State) :=
  act s (s.cal.state == .discover && s.cal.step == 2)
    (if sfdpUsable info then modCal (fun c => { c with
      state := .scan, density := (sfdpDensity info).getD 0, quad := sfdpQuad info, drive := sfdpDrive info }) s
    else noPart Src.CAL_SFDP_BAD s)

/-- One record met by the scan: an older copy of a valid one is not read on; one that fails R511 is passed over. -/
def scanRecord (x : RecordRead) (s : State) : State :=
  let r := x.record
  let s1 := modCal (fun c => { c with seq := Nat.max c.seq (r.seq + 1) }) s
  let older := s1.cal.recs.any (fun y => recordGood y && y.typ == r.typ && y.key == r.key && decide (r.seq < y.seq))
  let s2 := modCal (fun c => { c with recs := c.recs ++ [r] }) s1
  if older then s2 else if recordGood r then bumpBy (calO Reg.CAL_ECCFIX) x.fixed s2 else badRecord r.sector s1

/-- The scan of the part's sectors (R514, R515). At a warm reset the live marks of retired sectors stand, and a record that is to
be written again keeps its `SEQ`. -/
def scanDone (headers : List SectorHeader) (images : List SectorImage) (s : State) : State :=
  let infos := headers.map (sectorInfo images)
  let reads := images.flatMap sectorRecords
  let records := reads.map (·.record)
  let listed := if s.boot.cold then
      match (winnerRaw records 5 0).map (·.payload) with
      | some (.retire _ _ _ _ _ _ _ _ _ l) => l
      | _ => []
    else ofList (fun i => (flashSec s i).retired) 2048
  let n := flashCount s
  let ok := fun (i : Nat) => decide (i < n) && !listed.contains i
  let s1 := modCal (fun c => { c with
    secs := listed.foldl (fun m i => if i < n then Store.put m i { flash0 with retired := true } else m) []
    recs := [], active := none, ptr := 0, seq := (c.redo.map (fun x => x.2.seq + 1)).getD 1, openSeq := 0 }) s
  let s2 := infos.foldl (fun s x => when (ok x.index)
    (fun s => modCal (fun c => { c with openSeq := Nat.max c.openSeq x.openSeq })
      (setFlash x.index { head := x.head, erases := x.erases, openSeq := x.openSeq, erased := x.erased, dirty := x.erased && x.nextFree != 0,
                          retired := false } s)) s) s1
  let opened := infos.filter (fun x => ok x.index && !x.erased && !s.cal.drain.any (fun d => d.1 == x.index))
  let last := opened.foldl (fun (w : Option SectorInfo) x => match w with
    | some y => if y.openSeq < x.openSeq then some x else w
    | none => some x) none
  let s3 := modCal (fun c => { c with
    active := last.map (·.index)
    ptr := match last with
      | some x => Nat.min x.nextFree 124
      | none => 0 }) s2
  let s4 := ((reads.filter (fun r => r.record.typ == 5)) ++ reads.filter (fun r => r.record.typ != 5)).foldl
    (fun s r => when (ok r.record.sector) (scanRecord r) s) s3
  let bits := packBits ((upto 8).map (fun t => (upto 9).any (fun k => (winner s4 (t + 1) k).isSome)))
  let s5 := modCal (fun c => { c with state := .ready, found := bits }) s4
  calGo (reads.foldl (fun s x => when ((winners s).contains x.record) (judgeRead x.corr x.record) s) s5)

def execFlashScanDone (headers : List SectorHeader) (images : List SectorImage) (s : State) :=
  act s (s.cal.state == .scan) (scanDone headers images s)

/-! ### Programs and erases end (R517, R520, R523, R525) -/

/-- A program fails: the sector is retired once its winners are copied, and the record is written again with its `SEQ`
in a sector opened for it; both wait while the part is to be rediscovered. -/
def programFailed (p : Program) (s : State) : State :=
  let s1 := modCal (fun c => { c with
    prog := none, active := none, redo := some (p.req, p.record), drain := c.drain ++ [(p.record.sector, true)] }) s
  if s.cal.state = .discover then modCal (fun c => { c with step := 0, from0 := now s }) s1
  else calGo (match openable s1 with
    | some i => openFor i s1 (fun s => s)
    | none => s1)

/-- A record counts as written. The capture buffer holds what a SAVE that still waits captured. -/
def programDone (p : Program) (s : State) : State :=
  let s1 := modCal (fun c => { c with
    prog := none, recs := c.recs ++ [p.record], ptr := p.record.block + recBlocks p.record.len
    capture := c.capture && (!p.req.capt || c.queue.any (fun r => r.capt)) }) s
  let s2 := when p.req.last (stcmdStat 2)
    (when p.req.copy (bump (calO Reg.CAL_REWRITES)) (bump (calO Reg.CAL_WRITES) s1))
  if s2.cal.state = .discover then modCal (fun c => { c with step := 0, from0 := now s }) s2
  else if s2.cal.drain.isEmpty && (reclaimPick s2).isSome then s2 else calGo s2

/-- A page program of a record is complete, and the next one's time begins (R525); or the programming of the record ends. Only a
record whose blocks read back as they were programmed counts as written (R517). -/
def execFlashProgramDone (report : ProgramReport) (s : State) :=
  match s.cal.prog with
  | none => act s false s
  | some p => match report with
    | .page => act s (decide (p.page + 1 < pageCount s.cal.drive.page p.record))
        (modCal (fun c => { c with prog := some { p with page := p.page + 1, from0 := now s } }) s)
    | .failed => act s true (stopCheck (programFailed p s))
    | .readBack l => act s true (stopCheck (if l == recordImage p.record then programDone p s else programFailed p s))

/-- An erase fails: the sector, whose winners are copied already, is retired. -/
def eraseFailed (i : Nat) (s : State) : State :=
  let s1 := retireSector i (modCal (fun c => { c with erase := none, drain := c.drain.filter (fun x => x.1 != i) }) s)
  if s1.cal.state = .discover then modCal (fun c => { c with step := 0, from0 := now s }) s1 else calGo s1

/-- An erase is verified: the sector's header is written with its count (R507, R520). -/
def eraseDone (i : Nat) (s : State) : State :=
  let n := (flashSec s i).erases + 1
  let s1 := setFlash i { flashSec s i with erases := n, openSeq := 0, erased := true, dirty := false, head := headBytes n 0 }
    (modCal (fun c => { c with
      erase := none, drain := c.drain.filter (fun x => x.1 != i), recs := c.recs.filter (fun r => r.sector != i) }) s)
  if s1.cal.state = .discover then modCal (fun c => { c with step := 0, from0 := now s }) s1 else calGo s1

def execFlashEraseDone (ok : Bool) (s : State) :=
  match s.cal.erase with
  | some (i, _) => act s true (stopCheck (if ok then eraseDone i s else eraseFailed i s))
  | none => act s false s

/-- A page program of the record, or the erase, has outlasted its limit. -/
def opDue (s : State) : Bool :=
  let w := cfg s (calO Reg.CAL_FTMO)
  match s.cal.prog, s.cal.erase with
  | some p, _ => decide (p.from0 + usTicks (w.field 15 0) ≤ now s)
  | none, some (_, t) => decide (t + msTicks (w.field 31 16) ≤ now s)
  | none, none => false

/-- An operation that completes in the tick of its timeout is in time (R45, R47). -/
def execCalOpTimeout (s : State) := act s (opDue s) (expire .storeOp s)

/-- The operation whose time is out has failed. -/
def opOver (s : State) : State :=
  if opDue s then
    match s.cal.prog, s.cal.erase with
    | some p, _ => stopCheck (programFailed p (raiseOn Src.CAL_OP_TIMEOUT p.record.sector 0x06 4 s))
    | none, some (i, _) => stopCheck (eraseFailed i (raiseOn Src.CAL_OP_TIMEOUT i 0x06 4 s))
    | none, none => s
  else s

/-- A reclaim begins between writes (R520). -/
def execCalReclaim (s : State) :=
  match reclaimPick s with
  | some i =>
    act s (s.cal.state == StoreState.ready && s.cal.prog.isNone && s.cal.erase.isNone && s.cal.drain.isEmpty && s.cal.redo.isNone)
      (calGo (modCal (fun c => { c with drain := [(i, false)] }) s))
  | none => act s false s

/-! ### Scrub (R522) -/

/-- Every winner is read. One that has become invalid gives way to the newest older valid copy; a sector that the
surroundings do not supply reads as it was written, so that only its age is judged. -/
def scrubOne (reads : List SectorImage) (w : Record) (s : State) : State :=
  match reads.find? (fun x => x.index == w.sector) with
  | none => judgeRead 0 w s
  | some x =>
    let r := readRecord x w
    let same := (headAt x w.block).any (fun h => h.typ == w.typ && h.key == w.key && h.len == w.len && h.seq == w.seq)
    if same && r.record.valid then judgeRead r.corr w (bumpBy (calO Reg.CAL_ECCFIX) r.fixed s)
    else badRecord w.sector (modCal (fun c => { c with
      recs := c.recs.map (fun y => if y.sector == w.sector && y.block == w.block then { y with valid := false } else y) }) s)

def scrub (reads : List SectorImage) (s : State) : State :=
  (winners s).foldl (fun s w => scrubOne reads w s) (modCal (fun c => { c with scrubAt := c.powered }) s)

def execCalScrubDue (reads : List SectorImage) (s : State) :=
  act s ((s.cal.state == .ready || s.cal.state == .full) &&
      decide (s.cal.scrubAt + cfgF s (calO Reg.CAL_JCFG) 15 8 * 3600 ≤ s.cal.powered)) (scrub reads s)

/-! ### Store commands (R513, R528) -/

/-- A new store command is the last one. -/
def beginStcmd (op : Nat) (s : State) : State :=
  modCal (fun c => { c with
    cmdOp := op, queue := c.queue.map (fun r => { r with last := false })
    prog := c.prog.map (fun p => { p with req := { p.req with last := false } })
    redo := c.redo.map (fun x => ({ x.1 with last := false }, x.2)) }) s

def isShadowWord (p : Params) (off : Nat) : Bool :=
  match regAt p off with
  | some (r, _, _, _) => r.cls == .shadow
  | none => false

def isStgPage (off : Nat) : Bool := decide (0x20000 ≤ off) && decide (off < 0x24000)

/-- The offset is that of a cell's trim. -/
def isTrimWord (p : Params) (off : Nat) : Bool :=
  match regAt p off with
  | some (r, _, t, _) => t == .clu && r.off == Reg.CLU_GTRIM 0
  | none => false

/-- The sealed list of a scope: the active copies that differ from their reset values, in ascending offset. -/
def savedList (s : State) (stg : Bool) : List SealEntry :=
  s.regs.active.filter (fun e => isShadowWord s.params e.1 && isStgPage e.1 == stg && !isTrimWord s.params e.1)

/-- The seal of a list: the CRC of R79 over its entries' bytes. -/
def listSeal (l : List SealEntry) : Word :=
  (l.foldl (fun c e => crcBytes (crcBytes c (wordBytes (BitVec.ofNat 32 e.1))) (wordBytes e.2)) 0xFFFFFFFF) ^^^ 0xFFFFFFFF

/-- What a SAVE captures: type, key, payload; none where it is refused. -/
def savePayload (s : State) (scope key : Nat) : Option (Nat × Nat × Payload) :=
  if scope = 0 then some (1, 0, .sealed (savedList s false))
  else if scope = 1 then some (2, 0, .sealed (savedList s true))
  else if scope = 2 then (if key < quads s then some (3, key, trimsOf s key) else none)
  else if scope = 3 then some (6, 0, planOf s)
  else if scope = 4 then (if key < 9 && installedSet s key then some (7, key, .model (memBytes s (installedBase key) (unitLen key))) else none)
  else none

def saveCmd (scope key : Nat) (s0 : State) : State :=
  let s := beginStcmd 1 s0
  let no := stcmdStat 3 (refuse 0x06 s)
  if s.cal.capture then no
  else match savePayload s scope key with
    | none => no
    | some (t, k, p) =>
      let crc := match p with
        | .sealed l => listSeal l
        | _ => 0
      calPush { typ := t, key := k, copy := false, payload := some p, sealCrc := crc, capt := true, last := true } (stcmdStat 1 s)

def tombstoneCmd (typ key : Nat) (s0 : State) : State :=
  let s := beginStcmd 3 s0
  if payloadFits .empty typ key then
    calPush { typ := typ, key := key, copy := false, payload := some .empty, sealCrc := 0, capt := false, last := true } (stcmdStat 1 s)
  else stcmdStat 3 (refuse 0x06 s)

/-- A store command; a scrub reads what the surroundings supply. -/
def stCommand (w : Word) (reads : List SectorImage) (s : State) : State :=
  let op := w.field 3 0
  if op = 1 then saveCmd (w.field 6 4) (w.field 11 8) s
  else if op = 2 then
    if s.cal.state = .ready || s.cal.state = .full then stcmdStat 0 (scrub reads (beginStcmd 2 s))
    else stcmdStat 3 (refuse 0x06 (beginStcmd 2 s))
  else if op = 3 then tombstoneCmd (w.field 19 16) (w.field 11 8) s
  else s

def execCalStcmdSave (a : Access) (scope : BitVec 3) (key : BitVec 4) (s : State) :=
  act s (reaches s a) (secureCmd a (stCommand (BitVec.ofNat 32 (1 + 16 * scope.toNat + 256 * key.toNat)) []) s)
def execCalStcmdScrub (a : Access) (reads : List SectorImage) (s : State) :=
  act s (reaches s a) (secureCmd a (stCommand 2 reads) s)
def execCalStcmdTombstone (a : Access) (typ key : BitVec 4) (s : State) :=
  act s (reaches s a) (secureCmd a (stCommand (BitVec.ofNat 32 (3 + 256 * key.toNat + 65536 * typ.toNat)) []) s)

/-! ### Wear and retirement records (R437) -/

/-- The block is past its load, so that the live state is newer than what is stored. -/
def pastLoad (s : State) : Bool := s.boot.state != .lock && s.boot.state != .load

def queueWear (s : State) : State :=
  blockWrite 4 4 (forEach (upto (quads s)) (blockWrite 4) (modSparing (fun x => { x with wearOwed := false }) s))

/-- A multiple of `CAL_WEARSAVE.HOURS` of powered operation, once. -/
def execWearSaveDue (s : State) :=
  act s (pastLoad s && s.cal.powered % (3600 * cfgF s (calO Reg.CAL_WEARSAVE) 7 0) == 0 && decide (s.cal.saved < s.cal.powered))
    (queueWear (modCal (fun c => { c with saved := c.powered }) s))

/-- The map of no failed unit, which stands where there is no record. -/
def noMap : Payload := .retire [] ((upto 4096).map (fun _ => 0)) [] [] [] [] [] [] [] []

/-- The map that the store ends with as it stands: the last one queued, else one being written, else the winner. A queued
map is formed from the live set when it is written (R516); none for it here. -/
def newestMap (s : State) : Option Payload :=
  let won := ((winner s 5 0).map (·.payload)).getD noMap
  let busy := ((s.cal.prog.map (·.record)).toList ++ (s.cal.redo.map (·.2)).toList).find? (fun r => r.typ == 5)
  let now' := match busy with
    | some r => if r.len = 0 then noMap else r.payload
    | none => won
  match (s.cal.queue.filter (fun r => r.typ == 5)).getLast? with
  | some r => if r.copy then some now' else if r.payload.isSome then some noMap else none
  | none => some now'

/-- The newest retirement map, written or queued, is the live set. -/
def mapCurrent (s : State) : Bool :=
  match newestMap s with
  | some p => p == retireOf s
  | none => true

/-- The end of a thermal period: requests that a full queue refused are made again, a dropped wear record is replaced,
a retirement map that differs is queued. -/
def calThermalEnd (s0 : State) : State :=
  if !pastLoad s0 || s0.cal.state = .absent then s0
  else
    let again := s0.cal.late
    let s := again.foldl (fun s r => calPush r s) (modCal (fun c => { c with late := [] }) s0)
    let s1 := when s.sparing.wearOwed queueWear s
    when (!mapCurrent s1) (blockWrite 5 0) s1

/-- A discard of work in flight drops what is queued (R518, R495); a request that a full queue refused is made again all the
same (R516). -/
def calDiscard (s : State) : State :=
  let mine := s.cal.queue.any (fun r => r.last)
  let s1 := modCal (fun c => { c with queue := [], capture := false }) s
  stopCheck (when mine (stcmdStat 4) (oweWear (wearWaits s) s1))

/-! ### The flash port (R504, R505) -/

/-- The operation under way: the page program of a record, or an erase. -/
def busyOps (s : State) : List FlashOp :=
  let d := s.cal.drive
  match s.cal.prog, s.cal.erase with
  | some p, _ => match (recordPages d.page p.record)[p.page]? with
    | some (at0, l) => programOps d at0 l
    | none => []
  | none, some (i, _) => eraseOps d (sectorAt i)
  | none, none => []

/-- The header's two copies are written after an erase and at an opening (R507, R519). -/
def headOps (s : State) (i : Nat) : List FlashOp := programOps s.cal.drive (sectorAt i) (flashSec s i).head

/-- What the store issues to the part: in discovery reset-enable and reset, the JEDEC ID read, the SFDP read with its 3-byte
address and 8 dummy cycles; in the scan what makes the part ready, and reads from its start; then the operation under way. -/
def flashOps (s : State) : List FlashOp :=
  let c := s.cal
  match c.state with
  | .absent => []
  | .discover =>
    if c.step = 0 then [flashOp 0x66, flashOp 0x99]
    else if c.step = 1 then [flashOp 0x9F]
    else if c.step = 2 then [{ flashOp 0x5A with addr := some 0, dummies := 8 }]
    else busyOps s
  | .scan => prepareOps c.drive ++ [readOp c.drive 0]
  | .ready => busyOps s
  | .full => busyOps s

/-- The divisor of `FLASH_CLK` from 1,250 MHz (R503, R504). -/
def flashDiv (s : State) : Nat := if s.cal.state = .discover then 125 else cfgF s (calO Reg.CAL_FCLK) 7 0

/-! ### Status words (R527, R528) -/

def calStat (s : State) : Word :=
  let c := s.cal
  let st := match c.state with
    | .absent => 0
    | .discover => 1
    | .scan => 2
    | .ready => 3
    | .full => 4
  BitVec.ofNat 32 (st + 8 * b2n c.quad + 16 * b2n (decide (7 < c.density)) + 256 * c.density + 0x10000 * c.found)
def calSectors (s : State) : Word :=
  BitVec.ofNat 32 (flashCount s + 0x10000 * (flashCount s - (inService s).length))
def calFree (s : State) : Word :=
  BitVec.ofNat 32 ((erasedSecs s).length + 0x10000 * s.cal.active.getD 0)
def calEraseMin (s : State) : Word := BitVec.ofNat 32 (if (inService s).isEmpty then 0 else leastErases s)
def calEraseMax (s : State) : Word := BitVec.ofNat 32 (mostErases s)
def calDir (s : State) : Option Record :=
  let w := live s (calO Reg.CAL_DIRSEL)
  winner s (w.field 3 0) (w.field 11 8)
def calDirSeq (s : State) : Word := BitVec.ofNat 32 (((calDir s).map (·.seq)).getD 0)
def calDirLoc (s : State) : Word := BitVec.ofNat 32 (((calDir s).map (fun r => r.sector + 0x10000 * r.block)).getD 0)
def calDirAge (s : State) : Word := BitVec.ofNat 32 (((calDir s).map (fun r => (s.cal.powered - r.written) / 86400)).getD 0)
def calQueueWord (s : State) : Word :=
  BitVec.ofNat 32 (s.cal.queue.length + 256 * b2n s.cal.prog.isSome + 512 * b2n s.cal.capture)
def calStcmdStat (s : State) : Word := BitVec.ofNat 32 (s.cal.cmdStat + 256 * s.cal.cmdOp)

end Sys2Proof.Machine
end

