-- ==== Sys2Proof/Machine/Discard.lean ====
section
/-! DEFINITION. A discard of work in flight (R87, R495): one operation that reaches every mechanism. What it does to
the sectors of a domain taken off belongs to the trip of that domain (R201). -/

namespace Sys2Proof.Machine

def modRegs (f : Regs → Regs) (s : State) : State := s.setRegs (f s.regs)

/-- A shadow, or an LC register's last written value, takes the copy in effect again. -/
def reloadWord (off : Nat) (s : State) : State :=
  modRegs (fun r => { r with badShadow := r.badShadow.filter (· != off) }) (setShadow off (activeOf s off) s)

/-- Every shadow is reloaded, those of bad parity among them; pending writes, a frozen set and LC writes not yet in
effect are given up (R87). -/
def discardWrites (s : State) : State :=
  let set := (s.regs.frozen.toList ++ s.regs.startSet.toList).flatMap (fun f => f.words.map (·.off))
  let bad := s.regs.badShadow.filter (fun off => isShadowWord s.params off)
  let s1 := (s.regs.pend ++ set ++ s.regs.lc ++ bad).foldl (fun s off => reloadWord off s) s
  setBit (genO Reg.GEN_APPLYSTAT) 3
    (modRegs (fun r => { r with pend := [], frozen := none, startSet := none, lc := [], crc := 0xFFFFFFFF }) s1)

/-- An urgent request that a discard drops may be made again by its mechanism (R311, R116, R441). -/
def urgentDropped (q : Nat) (s : State) (u : UrgReq) : State :=
  let g := 64 * q + u.chan
  if u.who = 0 then modClu g (fun c => { c with tapWait := false }) s
  else if u.who = 4 then modClu g (fun c => { c with retest := c.retest.map (fun r => { r with tap := false }) }) s
  else s

def dropUrgent (q : Nat) (s : State) : State :=
  (quad s q).queue.foldl (urgentDropped q) (modQuad q (fun x => { x with queue := [] }) s)

/-- An install in progress is refused once its transactions are withdrawn; shifts that restore the installed set are
asked for again (R249). -/
def discardInstall (l : Option Load) (s0 : State) : State :=
  let s := modTally (fun t => { t with load := l }) s0
  match l with
  | none => s
  | some x => if x.restore.isSome then x.quads.foldl (fun s q => askShifts x.unit (installedBase x.unit) q s) s
    else refuseLoad 10 s

/-- A start set that a discard drops before its apply tick is not accepted: the sequence awaits the host (R532; DEDUCED,
log entry 27). -/
def dropStart (s : State) : State :=
  when (s.boot.state == .check) (fun s => s.setBoot { s.boot with state := .await }) s

/-- A discard of work in flight; several in one tick act once (R494). -/
def discard (s : State) : State :=
  if s.flt.discAt = some (now s) then s
  else
    let s1 := dropStart (bump (fltO Reg.FLT_DISCARDS) (s.setFlt { s.flt with discAt := some (now s) }))
    let s2 := forEach (upto (quads s1)) (fun q s => flushWindow true q (dropUrgent q (ringDiscard q s))) 
      (modTally (fun t => { t with load := none }) (discardWrites s1))
    calDiscard (blanketDiscard (discardMig (discardInstall s.tally.load s2)))

end Sys2Proof.Machine
end

