-- ==== Sys2Proof/Machine/Links.lean ====
section
/-! DEFINITION. Link lane groups (R542 to R544): discovery, its result and late reports, requests; and the units that
a memory interface requests (R541). -/

namespace Sys2Proof.Machine

def modLnk (f : Links → Links) (s : State) : State := s.setLnk (f s.lnk)

abbrev lanesK : Nat := 2
abbrev slicesK : Nat := 3

/-- The lane groups of the build. -/
def laneGroups (s : State) : List Nat := (upto 16).filter (fun g => (unitCluster s.params lanesK g).isSome)

/-- The class judged (R542): the reported one, or else the planned one. -/
def plannedCls (s : State) (g : Nat) : Nat := cfgF s (lnkO Reg.LNK_PCLS) (2 * g + 1) (2 * g)
def judgedCls (s : State) (g : Nat) : Nat := (s.lnk.found.find g).getD (plannedCls s g)
def clsOn (s : State) (c : Nat) : Bool := cfgB s (lnkO Reg.LNK_CFG) c
def planned (s : State) (g : Nat) : Bool := cfgB s (lnkO Reg.LNK_PLAN) g

/-- A lane group takes a state: 0 OFF, 1 STANDBY (its unit in RETAIN), 2 ON. A pending change to OFF is cancelled. -/
def setGroup (g st : Nat) (s : State) : State :=
  match unitCluster s.params lanesK g with
  | none => s
  | some c =>
    let s1 := modLnk (fun l => { l with group := Store.set l.group 0 g st, offAt := l.offAt.del g }) s
    if st = 2 then requestUnit (c / 4) g s1 else if st = 1 then retainUnit (c / 4) g s1 else releaseUnit (c / 4) g s1

/-- Step 1 of R543: every lane group of an enabled class is requested ON and the timer starts. -/
def linkDiscoveryStart (s : State) : State :=
  let s1 := modLnk (fun l => { l with disc := 1, from0 := now s, timeout := false, found := [], unpl := [], absent := [] }) s
  (laneGroups s1).foldl (fun s g => setGroup g (if clsOn s (plannedCls s g) then 2 else 0) s) s1

/-- A group found present and unplanned: STANDBY from now, OFF after `UNPL_T`. -/
def unplannedGroup (g : Nat) (s : State) : State :=
  let t := now s + msTicks (cfgF s (lnkO Reg.LNK_CFG) 31 20)
  raiseOn Src.LNK_UNPLANNED g 0x0B 1
    (modLnk (fun l => { l with offAt := l.offAt.put g t, unpl := insertNat g l.unpl }) (setGroup g 1 s))

/-- A planned group that discovery did not find, at the expiry. -/
def absentGroup (g : Nat) (s : State) : State :=
  raiseOn Src.LNK_ABSENT g 0x0B 2 (modLnk (fun l => { l with absent := insertNat g l.absent }) (setGroup g 0 s))

/-- A reported group's outcome (R542, R543). -/
def reportedGroup (g cls : Nat) (s : State) : State :=
  if !clsOn s cls then setGroup g 0 s
  else if planned s g && cls == plannedCls s g then setGroup g 2 s
  else unplannedGroup g s

/-- A planned group of an enabled class that no report has named. -/
def stillAbsent (s : State) (g : Nat) : Bool :=
  planned s g && clsOn s (plannedCls s g) && (s.lnk.found.find g).isNone

/-- The result is taken, at `DONE` or at the expiry. -/
def takeResult (timeout : Bool) (s : State) : State :=
  let s1 := (laneGroups s).foldl (fun s g =>
    match s.lnk.found.find g with
    | some cls => reportedGroup g cls s
    | none => if stillAbsent s g then when timeout (absentGroup g) s else setGroup g 0 s) s
  modLnk (fun l => { l with disc := if timeout then 3 else 2, timeout := timeout }) s1

/-- `LNK_DISC` (R543, R552). -/
def linkReport (w : Word) (s : State) : State :=
  let g := w.field 3 0
  let cls := w.field 5 4
  let known := (unitCluster s.params lanesK g).isSome
  if s.lnk.disc = 1 then
    when (w.bit 9) (takeResult false)
      (when (w.bit 8 && known) (modLnk (fun l => { l with found := l.found.put g cls })) s)
  else if s.lnk.disc = 2 && w.bit 8 && known && stillAbsent s g then
    reportedGroup g cls (modLnk (fun l => { l with found := l.found.put g cls }) s)
  else s

def execLnkDiscPresent (a : Access) (g : BitVec 4) (cls : BitVec 2) (s : State) :=
  act s (reaches s a) (hostCmd a (linkReport (BitVec.ofNat 32 (g.toNat + 16 * cls.toNat + 0x100))) s)
def execLnkDiscDone (a : Access) (s : State) := act s (reaches s a) (hostCmd a (linkReport 0x200) s)

/-- The discovery timer expires: the groups reported are the result, or a result taken before is completed. -/
def linkExpiry (s : State) : State :=
  if s.lnk.disc = 1 then takeResult true s
  else modLnk (fun l => { l with disc := 3 })
    ((laneGroups s).foldl (fun s g => when (stillAbsent s g) (absentGroup g) s) s)

/-- The discovery timer has run out. -/
def discDue (s : State) : Bool :=
  (s.lnk.disc == 1 || s.lnk.disc == 2) && decide (s.lnk.from0 + msTicks (cfgF s (lnkO Reg.LNK_CFG) 17 8) ≤ now s)

/-- A `DONE` and a report stamped in the expiry tick count (R45, R543). -/
def execLnkDiscTimeout (s : State) := act s (discDue s) (expire .discovery s)

def discOver (s : State) : State := when (discDue s) linkExpiry s

def execLnkUnplannedOff (g : Nat) (s : State) :=
  match s.lnk.offAt.find g with
  | some t => act s (decide (t ≤ now s)) (setGroup g 0 s)
  | none => act s false s

/-- A request takes effect (R544, R552). While a shut-down is in progress no group is requested. -/
def linkTake (w : Word) (s : State) : State :=
  let g := w.field 3 0
  let on := w.bit 9
  let off := w.bit 8
  if on == off || s.lnk.disc < 2 || !clsOn s (judgedCls s g) || (on && shutting s) then s
  else setGroup g (if on then 2 else 0) s

/-- `LNK_REQ`. While discovery can still have an outcome in this tick, a result, a late report or its expiry, the request
takes effect after it, at the tick's end (R544). -/
def linkRequest (w : Word) (s : State) : State :=
  if s.lnk.disc = 1 || s.lnk.disc = 2 then modLnk (fun l => { l with reqs := l.reqs ++ [w] }) s else linkTake w s

/-- The requests that waited for the outcomes of their tick. -/
def lateRequests (s : State) : State :=
  s.lnk.reqs.foldl (fun s w => linkTake w s) (modLnk (fun l => { l with reqs := [] }) s)

def execLnkReqOn (a : Access) (g : BitVec 4) (s : State) :=
  act s (reaches s a) (hostCmd a (linkRequest (BitVec.ofNat 32 (g.toNat + 0x200))) s)
def execLnkReqOff (a : Access) (g : BitVec 4) (s : State) :=
  act s (reaches s a) (hostCmd a (linkRequest (BitVec.ofNat 32 (g.toNat + 0x100))) s)

/-- LINK leaves RUN: a discovery is abandoned, every group is OFF. -/
def linkLeave (s : State) : State :=
  modLnk (fun l => { l with disc := 0 }) ((laneGroups s).foldl (fun s g => setGroup g 0 s) s)

/-- MIF enters RUN: every slice of every present sector is requested ON (R541). -/
def slicesRun (s : State) : State :=
  forEach (upto (unitCount s.params slicesK)) (fun i s => match unitCluster s.params slicesK i with
    | some c => requestUnit (c / 4) i s
    | none => s) s

/-! ### Status words (R552) -/

def lnkStat (s : State) : Word :=
  BitVec.ofNat 32 (s.lnk.disc + 4 * b2n s.lnk.timeout + 0x10000 * packBits ((upto 16).map (fun g => (s.lnk.found.find g).isSome)))
def pack2 (f : Nat → Nat) : Word := BitVec.ofNat 32 ((upto 16).foldr (fun g t => f g + 4 * t) 0)
def lnkGstate (s : State) : Word := pack2 (Store.get s.lnk.group 0)
def lnkDcls (s : State) : Word := pack2 (Store.get s.lnk.found 0)
def lnkMismatch (s : State) : Word :=
  BitVec.ofNat 32 (packBits ((upto 16).map (fun g => s.lnk.unpl.contains g)) +
    0x10000 * packBits ((upto 16).map (fun g => s.lnk.absent.contains g)))

end Sys2Proof.Machine
end

