-- ==== Sys2Proof/Machine/Stage.lean ====
section
/-! DEFINITION. The board stage controller (R262 to R298): domain states, soft start and tracking, the compensator,
pulses, current measurement, protection, channel retirement and the rail channel. -/

namespace Sys2Proof.Machine

def stgPage (d : Nat) : Nat := 0x20 + d
/-- The domain and local index of a global stage channel (R262). -/
def chDom (ch : Nat) : Nat := if ch < 48 then 0 else if ch < 60 then 1 else if ch < 70 then 2 else 3
def chLocal (ch : Nat) : Nat := ch - domBase (chDom ch)

/-- A domain is up: from ARMED through STOP. -/
def stgUp (s : State) (d : Nat) : Bool := (stage s d).state != .off && (stage s d).state != .tripped
def stgSwitching (s : State) (d : Nat) : Bool :=
  let st := (stage s d).state
  st == .soft || st == .confirm || st == .run || st == .stop

/-- The soft-start target (R268). -/
def vss (s : State) (d : Nat) : Nat :=
  let w := cfg s (stgO d Reg.STG_VRAIL)
  if cfgB s (stgO d Reg.STG_TRACK) 16 then w.field 27 16 else w.field 11 0

/-- The soft-start rate, in units of 2^-32 code per compensator period (R268). -/
def ssRate (s : State) (d : Nat) : Int := roundDiv (vss s d * q32) (125 * cfgF s (stgO d Reg.STG_SS) 11 0)

/-- Ticks of a switching period (R54, R296). -/
def pswOf (f : Nat) : Nat := if f = 1 then 625 else if f = 2 then 2500 else 1250

/-! ### Trips (R267, R201, R226) -/

/-- The rail channel goes IDLE; its command ends as R206 gives. -/
def railIdle (d : Nat) (s : State) : State :=
  modStage d (fun x => { x with
    prev := if x.prof = .slewing then 7 else if x.prof = .done then 5 else x.prev, prof := .idle, cmd := none }) s

/-- What leaving RUN ends: Blanket with LOGIC, link discovery with LINK (R394, R543). -/
def leaveRun (d : Nat) (s : State) : State :=
  if d = 0 then blanketLeave s else if d = 2 then linkLeave s else s

/-- A domain enters TRIPPED in the tick of the cause: channels to MID, rail command and the domain's profiles
discarded, its sectors and their integrator stores with them. -/
def tripDomain (d : Nat) (s : State) : State :=
  if (stage s d).state = .tripped then s
  else
    let s1 := modStage d (fun x => { x with state := .tripped, startDue := none, downAt := now s, comp := none, latched := none, uvFrom := none, uvSaid := false,
                                            rail := none, gapRun := 0, ovRun := 0, pgRun := 0, lagRun := 0 }) (railIdle d s)
    let s2 := setEng clsComp d { eng s1 clsComp d with start := none, done := none } s1
    let s3 := when ((stage s d).state == .run) (leaveRun d) (forEach (domSectors s2 d) sectorDiscard s2)
    stopCheck (when (d == 0) (fun s => forEach (upto (quads s)) (flushWindow true) s) s3)

/-- A protective trip: the source, the page's bit, TRIPPED whatever the severity, and a discard (R291, R494). -/
def protTrip (src bit d : Nat) (s : State) : State := discard (tripDomain d (raiseOn src d (stgPage d) bit s))

/-! ### The active set (R264, R276, R287) -/

/-- Channels of a domain, by local index, that are populated, and those of them that are not failed. -/
def populated (s : State) (d : Nat) : List Nat :=
  (upto (domCh d)).filter (fun l => if l < 32 then cfgB s (stgO d Reg.STG_POP0) l else cfgB s (stgO d Reg.STG_POP1) (l - 32))

def available (s : State) (d : Nat) : List Nat := (populated s d).filter (fun l => !(stgCh s (domBase d + l)).failed)

/-- New offsets are due at the first switching-period start at or after `at0` (R277, R287). -/
def offsetsDue (at0 d : Nat) (s : State) : State :=
  modStage d (fun x => { x with offDue := some at0 }) s

/-- A domain may start: the sequence stands in POWER or UP. Before POWER every domain stays off (R537, R540), and from a
shut-down to its restart no START is issued (R545). -/
def mayStart (s : State) : Bool := s.boot.state == .power || s.boot.state == .up

/-- START (R264 to R266), entering ARMED in this tick. It is ignored outside OFF and TRIPPED, and where no domain may start
(DEDUCED for a host's START in SENSE, log entry 44). -/
def startDomain (d : Nat) (s : State) : State :=
  if stgUp s d || !mayStart s then s
  else
    let av := available s d
    let n := cfgF s (stgO d Reg.STG_CFG) 14 8
    let s1 := modStage d (fun x => { x with
      state := .armed, armedAt := now s, active := av.take n, spares := av.drop n, pop := populated s d, rail := none, hist := [],
      gapRun := 0, ovRun := 0,
      pgRun := 0, lagRun := 0, uvFrom := none, uvSaid := false, ref := 0, follow := 0, latched := none, offDue := some (now s),
      phbase := cfgF s (stgO d Reg.STG_PHBASE) 16 0, duty := 0, ovLow := false }) s
    let s2 := forEach (upto (domCh d)) (fun l => modCh (domBase d + l) (fun c => { c with trips := 0, tripped := false, cycAt := none, highAt := none, imonBad := 0 })) s1
    let s3 := when (decide (av.length < n)) (raiseOn Src.STG_SPARE_EXHAUSTED d (stgPage d) 8) s2
    when (decide (av.length < cfgF s (stgO d Reg.STG_CFG) 22 16)) (protTrip Src.STG_TOO_FEW 9 d) s3

/-- A channel leaves the active set or the spares, failed (R287). -/
def retireChannel (d l cause : Nat) (s : State) : State :=
  let ch := domBase d + l
  if (stgCh s ch).failed then s
  else
    let x := stage s d
    let was := x.active.contains l
    let s1 := modCh ch (fun c => { c with failed := true, cycAt := none, trips := 0, tripped := false, highAt := none }) s
    let s2 := pageFlt (stgPage d) 7 (setLive (stgO d Reg.STG_LASTRET) (BitVec.ofNat 32 (l + 256 * cause)) s1)
    let s3 := s2.setSparing { s2.sparing with chIsol := s2.sparing.chIsol.put ch (Store.get s2.sparing.chIsol 0 ch + 1) }
    if !was then modStage d (fun x => { x with spares := x.spares.filter (· != l) }) s3
    else
      let left := x.active.filter (· != l)
      match x.spares with
      | sp :: rest =>
        offsetsDue (now s + 100) d (modStage d (fun x => { x with active := insertNat sp left, spares := rest }) s3)
      | [] =>
        let s4 := offsetsDue (now s + 100) d (modStage d (fun x => { x with active := left }) s3)
        let s5 := raiseOn Src.STG_SPARE_EXHAUSTED d (stgPage d) 8 s4
        when (stgUp s d && decide (left.length < cfgF s (stgO d Reg.STG_CFG) 22 16)) (protTrip Src.STG_TOO_FEW 9 d) s5

/-- A channel retired for a fault: its source with its global number (R284 to R286). -/
def faultChannel (src d l cause : Nat) (s : State) : State :=
  retireChannel d l cause (raise src (domBase d + l) s)

/-! ### Commands (R266, R287, R492) -/

/-- A domain's host clear (R492): NORMAL, its history emptied, and a START that the next tick issues. It is refused while a
thermal group is in SHUTDOWN. -/
def hostClear (d : Nat) (s : State) : State :=
  if thmShutdown s then refuse 0x02 s
  else if (recov s d).state = .normal then s
  else modStage d (fun x => { x with startDue := some (now s + 1) })
    (modRecov d (fun r => { r with state := .normal, history := [], ref := false }) s)

def stgStart (d : Nat) (s : State) : State :=
  if (recov s d).state = .normal then startDomain d s else hostClear d s

/-- A domain enters STOP (R266): the reference starts from the rail channel's last position. -/
def stopDomain (d : Nat) (s : State) : State :=
  leaveRun d (modStage d (fun x => { x with
    state := .stop, ref := x.chan.pos, refAt := now s, uvFrom := none, uvSaid := false }) (railIdle d s))

def allOff (s : State) (d : Nat) : Bool := (domSectors s d).all (fun i => (sec s i).sw == .off)

/-- An orderly stop voids the stored integrators of its domain (R162). -/
def stgStop (d : Nat) (s : State) : State :=
  if (stage s d).state = .run && allOff s d then forEach (domSectors s d) voidStore (stopDomain d s)
  else refuse (stgPage d) s

def stgRetire (d l : Nat) (s : State) : State :=
  when (decide (l < domCh d)) (retireChannel d l 4) s

/-- A returned channel joins the spares, whatever the domain's state (R287), where it was populated at the last entry to
ARMED (R264). -/
def stgReturn (d l : Nat) (s : State) : State :=
  if decide (l < domCh d) && (stgCh s (domBase d + l)).failed then
    let s1 := modCh (domBase d + l) (fun c => { c with failed := false, imonBad := 0, highAt := none }) s
    when ((stage s d).pop.contains l) (modStage d (fun x => { x with spares := insertNat l x.spares })) s1
  else s

/-- `STG_CMD` (R295). -/
def stgCommand (d : Nat) (w : Word) (s : State) : State :=
  let l := w.field 13 8
  when (w.bit 3) (stgReturn d l) (when (w.bit 2) (stgRetire d l) (when (w.bit 1) (stgStop d) (when (w.bit 0) (stgStart d) s)))

def stgCmdOk (s : State) (a : Access) (d : Nat) : Bool := reaches s a && decide (d < 4)
def execStgCmdStart (a : Access) (d : Nat) (s : State) := act s (stgCmdOk s a d) (secureCmd a (stgCommand d 1) s)
def execStgCmdStop (a : Access) (d : Nat) (s : State) := act s (stgCmdOk s a d) (secureCmd a (stgCommand d 2) s)
def execStgCmdRetire (a : Access) (d : Nat) (ch : BitVec 6) (s : State) :=
  act s (stgCmdOk s a d) (secureCmd a (stgCommand d (BitVec.ofNat 32 (4 + 256 * ch.toNat))) s)
def execStgCmdReturn (a : Access) (d : Nat) (ch : BitVec 6) (s : State) :=
  act s (stgCmdOk s a d) (secureCmd a (stgCommand d (BitVec.ofNat 32 (8 + 256 * ch.toNat))) s)

/-! ### Soft start and tracking (R268, R269) -/

/-- A domain tracks a valid master: the master runs independent and is another domain. -/
def trackMode (s : State) (d : Nat) : Nat := cfgF s (stgO d Reg.STG_TRK) 1 0
def masterOf (s : State) (d : Nat) : Nat := cfgF s (stgO d Reg.STG_TRK) 5 4
def masterOk (s : State) (d : Nat) : Bool := masterOf s d != d && trackMode s (masterOf s d) == 0

def softReady (s : State) (d : Nat) : Bool :=
  (stage s d).state == .armed && decide ((stage s d).armedAt + usTicks (cfgF s (stgO d Reg.STG_TRK) 15 8) ≤ now s)

/-- Entry to SOFT (R268): the reference starts at the lesser of VSS and the rail's latest result. -/
def enterSoft (follow d : Nat) (s : State) : State :=
  let bad := trackMode s d != 0 && !masterOk s d
  let v := (stage s d).rail.getD 0
  let s1 := modStage d (fun x => { x with
    state := .soft, softAt := now s, ref := (Nat.min (vss s d) v : Nat) * q32, refAt := now s, follow := follow, trkErr := bad,
    integ := 0, y1 := 0, y2 := 0, ePrev := 0, duty := 0, hi := false, lo := false, fast := false, latched := none,
    pgRun := 0, lagRun := 0, gapRun := 0 }) s
  let s2 := setLive (stgO d Reg.STG_DUTY) 0 (bumpF (stgO d Reg.STG_SSCOUNT) 15 0 s1)
  when bad (raise Src.STG_TRK_ERR d) s2

/-- A tracker waits while its master is in ARMED and follows it from the tick it enters SOFT; with any other master
state it starts at once (R269). -/
def softEntry (s : State) (d : Nat) : Option Nat :=
  if trackMode s d = 0 || !masterOk s d then some 0
  else
    let m := stage s (masterOf s d)
    if m.state = .armed then none
    else if m.state = .soft && m.softAt == now s then some (trackMode s d) else some 0

def execStgSoftEntry (d : Nat) (s : State) :=
  match softEntry s d with
  | some f => act s (decide (d < 4) && softReady s d && atTick s compP 0) (enterSoft f d s)
  | none => act s false s

/-- The reference after this tick's step: rising in SOFT to VSS, falling in STOP to 0 (R266, R268). A reference that
has had its step this tick stands. -/
def ownStep (s : State) (d : Nat) : Int :=
  let x := stage s d
  if x.refAt = now s then x.ref
  else if x.state = .soft then
    let r := x.ref + ssRate s d
    if (vss s d * q32 : Nat) < r then (vss s d * q32 : Nat) else r
  else if x.state = .stop then (if x.ref < ssRate s d then 0 else x.ref - ssRate s d)
  else x.ref

/-- The held reference of a domain, stepped; one that follows its master takes its reference from it (R269). -/
def refStep (s : State) (d : Nat) : Int × Nat :=
  let x := stage s d
  let m := masterOf s d
  let y := stage s m
  let mref := ownStep s m
  if x.state = .soft && x.follow != 0 && (y.state == .soft || (y.state == .confirm && y.confAt == now s)) then
    let top : Int := vss s d * q32
    let r := if x.follow = 1 then
        let p := roundDiv mref q32 * q32
        if top < p then top else p
      else quot ((vss s d : Int) * mref) (vss s m * q32) * q32
    (r, if y.state = .soft then x.follow else 0)
  else if x.state = .soft && x.follow != 0 then (ownStep s d, 0)
  else (ownStep s d, x.follow)

/-- The reference of the compensator period, in codes (R272): in RUN the position that the rail channel's step at
the previous tick 0 produced (R175), until the next tick 0. -/
def refCode (s : State) (d : Nat) : Int :=
  let x := stage s d
  if x.state = .run then roundDiv (if atTick s compP 0 && x.stepAt != now s then x.chan.pos else x.before) q32
  else if x.state = .soft || x.state = .confirm || x.state = .stop then roundDiv x.ref q32 else 0

/-! ### The compensator (R272 to R274) -/

/-- The rail result of the tick-55 sample that is ready in this tick. -/
def railSample (s : State) (d : Nat) : Option Nat :=
  (((stage s d).hist.find? (fun p => p.1 + 45 == now s))).map (·.2)

/-- One step of R273 from the sampled rail code `v` and reference `r`. -/
def pid (s : State) (d : Nat) (v : Nat) (r : Int) : CompRes :=
  let x := stage s d
  let e := r - (v : Int)
  let hold := (x.hi && decide (0 < e)) || (x.lo && decide (e < 0)) || (x.fast && decide (0 < e))
  let k := fun (o : Nat) => signed 16 (cfgF s (stgO d o) 15 0)
  let lim : Int := cfgF s (stgO d Reg.STG_ILIM) 15 0 * 4096
  let integ := if hold then x.integ else clamp (x.integ + k Reg.STG_KI * e) (-lim) lim
  let u := (k Reg.STG_KP * e + k Reg.STG_KD * (e - x.ePrev)) * 16 + integ
  let w := cfg s (stgO d Reg.STG_POLE)
  let y1 := x.y1 + roundDiv (w.field 15 0 * (u - x.y1)) 32768
  let y2 := x.y2 + roundDiv (w.field 31 16 * (y1 - x.y2)) 32768
  let vin := 20 * cfgF s (stgO d Reg.STG_VIN) 11 0
  let raw := roundDiv (y2 * vin + r * 65536 * 4096) (4096 * vin)
  let l := cfg s (stgO d Reg.STG_DLIM)
  { integ := integ, y1 := y1, y2 := y2, e := e, duty := (clamp raw (l.field 15 0) (l.field 31 16)).toNat,
    hi := decide ((l.field 31 16 : Int) < raw), lo := decide (raw < (l.field 15 0 : Int)), hold := hold }

/-- The checks that a compensator sample drives (R270, R271, R288). Of a start's reference the held value is compared, as the
example of R270 has it. -/
def sampleChecks (d v : Nat) (r : Int) (s : State) : State :=
  let x := stage s d
  let pg := decide (((v : Int) - (vss s d : Int)).natAbs ≤ cfgF s (stgO d Reg.STG_PG) 7 0)
  let blank := decide (x.softAt + usTicks (cfgF s (stgO d Reg.STG_SS) 23 16) ≤ now s)
  let lag := decide (((v : Int) + 2 * cfgF s (stgO d Reg.STG_SS) 31 24) * q32 < x.ref)
  let low := decide ((100 * v : Int) < cfgF s (stgO d Reg.STG_UVOV) 7 0 * r)
  modStage d (fun x => { x with
    gapRun := 0
    pgRun := if x.state = .confirm then (if pg then x.pgRun + 1 else 0) else x.pgRun
    lagRun := if x.state = .soft || x.state = .confirm then (if blank then (if lag then x.lagRun + 1 else 0) else x.lagRun) else x.lagRun
    uvFrom := if x.state = .run then (if low then some (x.uvFrom.getD (now s)) else none) else none
    uvSaid := if x.state = .run && low then x.uvSaid else false }) s

/-- A protective trip of a domain is due: an over-voltage, a lost sense, or an abort of its start. In the same tick it
goes before the state changes of R268 and R271 (R291). -/
def ssTrips (s : State) (d : Nat) : Bool :=
  let x := stage s d
  decide (4 ≤ x.lagRun) || x.active.any (fun l => decide (cfgF s (stgO d Reg.STG_FAST) 11 8 ≤ (stgCh s (domBase d + l)).trips))

def tripDue (s : State) (d : Nat) : Bool :=
  let x := stage s d
  decide (3 ≤ x.ovRun) || decide (cfgF s (stgO d Reg.STG_BCFG) 31 24 ≤ x.gapRun) ||
  ((x.state == .soft || x.state == .confirm) && ssTrips s d)

/-- The state changes that a reference's step brings (R266, R268). -/
def refDone (d : Nat) (s : State) : State :=
  let x := stage s d
  if x.state = .soft && decide ((vss s d * q32 : Int) ≤ x.ref) then
    modStage d (fun x => { x with state := .confirm, confAt := now s, pgRun := 0, follow := 0 }) s
  else if x.state = .stop && decide (x.ref ≤ 0) && !tripDue s d then
    stopCheck (modStage d (fun x => { x with state := .off, downAt := now s, rail := none, comp := none, latched := none }) s)
  else s

/-- Tick 0 of a compensator period. -/
def compStart (d : Nat) (s : State) : State :=
  let (ref, fol) := refStep s d
  let s1 := modStage d (fun x => { x with ref := ref, refAt := now s, follow := fol }) s
  let r := refCode s1 d
  let v := railSample s1 d
  let s2 := match v with
    | some c => sampleChecks d c r (result (stgO d Reg.STG_RAIL) c s1)
    | none => bump (stgO d Reg.STG_RAILGAPS) (modStage d (fun x => { x with gapRun := x.gapRun + 1 }) s1)
  let x := stage s2 d
  let res : CompRes := match v with
    | some c => pid s2 d c r
    | none => { integ := x.integ, y1 := x.y1, y2 := x.y2, e := x.ePrev, duty := x.duty, hi := x.hi, lo := x.lo, hold := true }
  refDone d (engStart clsComp d (modStage d (fun x => { x with comp := some res, fast := false }) s2))

/-- In ARMED the compensator does not run yet, and tick 0 shows the rail's result alone (R295, R304). -/
def showRail (d : Nat) (s : State) : State :=
  match railSample s d with
  | some c => result (stgO d Reg.STG_RAIL) c s
  | none => s

def execCompensatorStart (d : Nat) (s : State) :=
  act s (decide (d < 4) && atTick s compP 0 && stgUp s d) (if (stage s d).state = .armed then showRail d s else compStart d s)

def compCommit (d : Nat) (s : State) : State :=
  match (stage s d).comp with
  | none => s
  | some r =>
    setLive (stgO d Reg.STG_DUTY) (BitVec.ofNat 32 (r.duty + 0x10000 * b2n (r.hi || r.lo) + 0x20000 * b2n r.hold))
      (modStage d (fun x => { x with integ := r.integ, y1 := r.y1, y2 := r.y2, ePrev := r.e, duty := r.duty, hi := r.hi,
                                     lo := r.lo, comp := none, latched := some (x.latched.getD (now s)) }) s)

def execCompensatorLatch (d : Nat) (s : State) :=
  act s (decide (d < 4) && engDue s clsComp d)
    (latch clsComp d (compCommit d) (modStage d (fun x => { x with comp := none })) s)

/-! ### RUN, and the trips of a start (R270, R271, R288 to R290) -/

/-- Every domain that the start sequence starts is in RUN (R532). -/
def allRun (s : State) : Bool :=
  let den := cfgF s (genO Reg.GEN_STARTSEQ) 11 8
  (upto 4).all (fun d => (den >>> d) % 2 == 0 || domainRun s d)

/-- POWER gives way to UP once every enabled domain is in RUN; the outputs of R530 are no longer held. -/
def bootUp (s : State) : State :=
  when (s.boot.state == .power && allRun s)
    (fun s => setLive (genO Reg.GEN_UPTICK_LO) (tickLo s) (s.setBoot { s.boot with state := .up, held := false })) s

/-- What the units of a domain are asked from its entry to RUN (R541, R543). -/
def askUnits (d : Nat) (s : State) : State :=
  if shutting s then s
  else if d = 0 then logicRun s else if d = 1 then arrayRun s else if d = 2 then linkDiscoveryStart s else slicesRun s

/-- The domain enters RUN: PGOOD, the rail channel at rest at VSS (R271, R292, R206). Sectors with units that wait
since a stop of the domain switch on afresh (R201). -/
def enterRun (d : Nat) (s : State) : State :=
  let v : Int := vss s d
  let s1 := modStage d (fun x => { x with
    state := .run, chan := { chan0 with pos := v * q32, tgt := v, adm := v }, before := v * q32, stepAt := 0, prof := .done,
    cmd := none, target := vss s d, uvFrom := none, uvSaid := false, de := false, deRun := 0 }) s
  bootUp (forEach (domSectors s d) trySwitchOn (askUnits d s1))

def execStgConfirmDone (d : Nat) (s : State) :=
  act s (decide (d < 4) && (stage s d).state == .confirm && decide (16 ≤ (stage s d).pgRun) && !tripDue s d) (enterRun d s)
/-- CONFIRM has lasted `PG_TMO` without its 16 samples. -/
def pgDue (s : State) (d : Nat) : Bool :=
  decide (d < 4) && (stage s d).state == .confirm && decide ((stage s d).pgRun < 16) &&
    decide ((stage s d).confAt + usTicks (cfgF s (stgO d Reg.STG_TRK) 31 16) ≤ now s)

/-- A sample that completes the window in the timeout's tick wins (R45, R271). -/
def execStgPgTimeout (d : Nat) (s : State) := act s (pgDue s d) (expire (.pg d) s)

def pgOver (d : Nat) (s : State) : State := when (pgDue s d) (protTrip Src.STG_PG_TIMEOUT 4 d) s

def execStgSsShort (d : Nat) (s : State) :=
  act s (decide (d < 4) && ((stage s d).state == .soft || (stage s d).state == .confirm) && ssTrips s d)
    (protTrip Src.STG_SS_SHORT 3 d (bumpF (stgO d Reg.STG_SSCOUNT) 31 16 s))

/-- The under-voltage delay has run. -/
def uvDue (s : State) (d : Nat) : Bool :=
  match (stage s d).uvFrom with
  | some t => decide (d < 4) && (stage s d).state == DomState.run && !(stage s d).uvSaid &&
      decide (t + usTicks (cfgF s (stgO d Reg.STG_UVOV) 15 8) ≤ now s)
  | none => false

/-- A good sample stamped in the expiry tick wins (R45, R288). -/
def execStgUv (d : Nat) (s : State) := act s (uvDue s d) (expire (.uv d) s)

def uvOver (d : Nat) (s : State) : State :=
  when (uvDue s d) (fun s => raiseOn Src.STG_UV d (stgPage d) 1 (modStage d (fun x => { x with uvSaid := true }) s)) s

def execStgOv (d : Nat) (s : State) :=
  act s (decide (d < 4) && stgUp s d && decide (3 ≤ (stage s d).ovRun))
    (modStage d (fun x => { x with ovLow := true }) (protTrip Src.STG_OV 2 d s))

def execStgSenseLost (d : Nat) (s : State) :=
  act s (decide (d < 4) && stgSwitching s d && decide (cfgF s (stgO d Reg.STG_BCFG) 31 24 ≤ (stage s d).gapRun))
    (protTrip Src.STG_SENSE_LOST 6 d s)

/-- The over-voltage level (R289). Before SOFT no reference is presented, and the absolute limit alone applies. -/
def ovLevel (s : State) (d : Nat) : Int :=
  let top : Int := cfgF s (stgO d Reg.STG_OVABS) 11 0
  let rel := refCode s d + 2 * cfgF s (stgO d Reg.STG_UVOV) 23 16
  if (stage s d).state = .armed || decide (top < rel) then top else rel

/-- A rail sample with its edge tick: the latest result, and the high-voltage count. -/
def railResult (d code edge : Nat) (s : State) : State :=
  let high := decide (ovLevel s d < (code : Int))
  modStage d (fun x => { x with rail := some code, hist := (edge, code) :: x.hist.take 399,
                                ovRun := if high then x.ovRun + 1 else 0 }) s

/-! ### Pulses (R275 to R278, R283, R284) -/

/-- The offsets of the active channels, in 1/32 tick (R276). -/
def offsetsOf (s : State) (d fsw : Nat) : List (Nat × Nat) :=
  let x := stage s d
  let p := 32 * pswOf fsw
  ((x.active.zip (upto x.active.length)).map (fun (l, j) =>
    (l, ((roundDiv (j * p) x.active.length).toNat + x.phbase) % p)))

/-- The level a channel's `PWM` pin drives `k` thirty-seconds into this tick (R263, R275, R278, R283, R289). A cycle's start
and the end of its HIGH stand in 1/32 tick; before the start the level of the cycle before it holds. -/
def pwmAt (s : State) (ch k : Nat) : Level :=
  let d := chDom ch
  let c := stgCh s ch
  let x := stage s d
  let t := 32 * now s + k
  match c.cycAt with
  | none => .mid
  | some t0 =>
    if !x.active.contains (chLocal ch) then .mid
    else if x.state = .tripped then (if x.ovLow && decide (t < c.end32) then .low else .mid)
    else if !stgSwitching s d then .mid
    else if c.cut then .mid
    else if c.tripped then .low
    else if t < t0 then c.was
    else if t < t0 + c.tOn then .high else .low

/-- The level as this tick begins. -/
def pwmLevel (s : State) (ch : Nat) : Level := pwmAt s ch 0

/-- Diode emulation is forced: in SOFT, CONFIRM and STOP (R268). -/
def deForced (s : State) (d : Nat) : Bool :=
  let st := (stage s d).state
  st == .soft || st == .confirm || st == .stop

/-- Diode emulation is the domain's mode (R268, R278). -/
def deNow (s : State) (d : Nat) : Bool :=
  deForced s d || ((stage s d).state == .run && (stage s d).de && (stage s d).pulse.deEn)

/-- A channel emulates a diode in its present cycle: in RUN by the decision in force at the cycle's start (R278). -/
def chDe (s : State) (ch : Nat) : Bool :=
  let d := chDom ch
  deForced s d || ((stage s d).state == .run && (stgCh s ch).de && (stage s d).pulse.deEn)

/-- The pulse generator reads its configuration (R69). -/
def pulseRead (d : Nat) (s : State) : State :=
  modStage d (fun x => { x with pulse :=
    { tonMin := cfgF s (stgO d Reg.STG_VIN) 23 16, zcBlank := cfgF s (stgO d Reg.STG_DE) 19 16,
      deEn := cfgB s (stgO d Reg.STG_CFG) 24, fastN := cfgF s (stgO d Reg.STG_FAST) 23 16 } }) s

/-- A switching-period start, in any state of the domain: what the pulse generator reads, the rail-short check, new offsets
or frequency where they are due (R69, R277, R284). -/
def periodStart (d : Nat) (s00 : State) : State :=
  let s := pulseRead d s00
  let x := stage s d
  let hot := x.active.filter (fun l => decide (4 ≤ (stgCh s (domBase d + l)).trips))
  let s0 := when (deNow s d) (bump (stgO d Reg.STG_DECYC)) s
  if x.state = .run && !x.active.isEmpty && decide (x.active.length ≤ 2 * hot.length) then protTrip Src.STG_RAIL_SHORT 5 d s0
  else
    let worn := if x.state = .run then x.active.filter (fun l =>
      decide (x.pulse.fastN ≤ (stgCh s (domBase d + l)).trips)) else []
    let s1 := worn.foldl (fun s l => faultChannel Src.STG_CH_SHORT d l 1 s) s0
    let want := cfgF s1 (stgO d Reg.STG_CFG) 1 0
    let y := stage s1 d
    let swap := want != y.fsw && s1.tb.tick.toNat % 2500 == 0
    let fsw := if swap then want else y.fsw
    let ph := cfgF s1 (stgO d Reg.STG_PHBASE) 16 0
    let due := match y.offDue with
      | some t => decide (t ≤ now s1)
      | none => false
    if swap || due || ph != y.phbase then
      let s2 := modStage d (fun x => { x with fsw := fsw, phbase := ph, offDue := if due then none else x.offDue }) s1
      modStage d (fun x => { x with offs := offsetsOf s2 d fsw }) s2
    else s1

def execSwitchingPeriodStart (d : Nat) (s : State) :=
  act s (decide (d < 4) && atTick s (pswOf (stage s d).fsw) 0) (periodStart d s)

/-- The offset of a channel in its switching period, in 1/32 tick. -/
def offsetOf (s : State) (ch : Nat) : Option Nat :=
  ((stage s (chDom ch)).offs.find? (fun p => p.1 == chLocal ch)).map (·.2)

/-- A channel's cycle starts at its offset, in the tick that holds it, once a duty is latched and its last cycle has
ended. -/
def cycleDue (s : State) (ch : Nat) : Bool :=
  let d := chDom ch
  let x := stage s d
  stgSwitching s d && x.active.contains (chLocal ch) && s.tb.running &&
  (match x.latched with
    | some t => decide (t ≤ now s)
    | none => false) &&
  (match offsetOf s ch with
    | some o => s.tb.tick.toNat % pswOf x.fsw == o / 32 && decide ((stgCh s ch).end32 ≤ 32 * now s + o % 32)
    | none => false)

/-- The start of a switching cycle (R275): the trip count of a cycle without a trip returns to 0, and the diode-emulation
decision is taken (R278). -/
def cycleStart (ch : Nat) (s : State) : State :=
  let d := chDom ch
  let p := 32 * pswOf (stage s d).fsw
  let t := (roundDiv ((stage s d).duty * p) 65536).toNat
  let t' := if t < 32 * (stage s d).pulse.tonMin then 0 else t
  let f := (offsetOf s ch).getD 0 % 32
  let t0 := 32 * now s + f
  modCh ch (fun c => { c with
    trips := if c.tripped then c.trips else 0, tripped := false, cycAt := some t0, tOn := t', end32 := t0 + p,
    was := pwmAt s ch (f - 1), lowAt := if t' = 0 then c.lowAt else t0 + t', de := deNow s d, cut := false }) s

def execSwitchingCycleStart (ch : Nat) (s : State) := act s (decide (ch < 80) && cycleDue s ch) (cycleStart ch s)

/-- A fast-limit trip (R283, R284). A channel whose count reaches `FAST_N` is retired, but not at a count of 4, which the
check of the next period start judges first (R284; DEDUCED, log entry 35). -/
def fastTrip (ch : Nat) (s : State) : State :=
  let d := chDom ch
  let s1 := bump (stgO d Reg.STG_TRIPS) (modStage d (fun x => { x with fast := true })
    (modCh ch (fun c => { c with tripped := true, trips := c.trips + 1, lowAt := Nat.min c.lowAt (32 * now s) }) s))
  when ((stage s1 d).state == .run && decide ((stage s1 d).pulse.fastN ≤ (stgCh s1 ch).trips) &&
      decide (4 < (stgCh s1 ch).trips))
    (faultChannel Src.STG_CH_SHORT d (chLocal ch) 1) s1

/-- A trip is ignored in the first 4 ticks after the edge to HIGH; a cycle without one ignores none (R283). -/
def execFastLimitTrip (ch : Nat) (s : State) :=
  let c := stgCh s ch
  act s (decide (ch < 80) && stgSwitching s (chDom ch) && (stage s (chDom ch)).active.contains (chLocal ch) &&
      !c.tripped && pwmLevel s ch != .mid && (match c.cycAt with
        | some t => c.tOn == 0 || decide (t + 128 ≤ 32 * now s)
        | none => false)) (fastTrip ch s)

/-- The zero crossing, blanked after the edge from HIGH to LOW (R278). -/
def execZeroCrossing (ch : Nat) (s : State) :=
  act s (decide (ch < 80) && chDe s ch && pwmLevel s ch == .low &&
      decide ((stgCh s ch).lowAt + 32 * (stage s (chDom ch)).pulse.zcBlank ≤ 32 * now s))
    (modCh ch (fun c => { c with cut := true }) s)

/-! ### Current measurement (R279 to R282, R285, R286, R436) -/

/-- The latest results of the active channels, by local index. -/
def activeRes (s : State) (d : Nat) : List (Nat × Option (Nat × Int)) :=
  (stage s d).active.map (fun l => (l, (stgCh s (domBase d + l)).res.head?))

/-- A channel of a domain in RUN is judged by R285 and R286, a spare one too. -/
def judged (s : State) (d l : Nat) : Bool :=
  (stage s d).state == .run && ((stage s d).active.contains l || (stage s d).spares.contains l)

/-- An `IMON` result of a channel: its current, which saturates as `STG_CHl` holds it (R11), the wear it adds, and the
judgements of R285 and R286. -/
def stageChResult (ch code : Nat) (s : State) : State :=
  let d := chDom ch
  let l := chLocal ch
  let w := cfg s (stgO d Reg.STG_IMONCAL)
  let i := clamp (roundDiv (((code : Int) - 2 * w.field 11 0) * 5000) (w.field 27 16)) (-32768) 32767
  let c := stgCh s ch
  let act' := (stage s d).active.contains l && stgSwitching s d
  let dt := match c.res.head? with
    | some (t, _) => now s - t
    | none => 0
  let above0 : Int := i - 70 * cfgF s (calO Reg.CAL_WEARCFG) 22 16
  let recent := ((now s, i) :: c.res).filter (fun p => decide (now s < p.1 + 125000))
  let mean := recent.foldl (fun t p => t + p.2) 0
  let hot := decide ((cfgF s (stgO d Reg.STG_SLOW) 7 0 * 100 * recent.length : Int) < mean)
  let run := judged s d l
  let off := decide (code < 100) || decide (3500 < code)
  let s1 := result (stgO d (Reg.STG_CH l)) (unsigned 16 i) s
  let s2 := modCh ch (fun c => { c with
    res := recent, stress := if act' then c.stress + above0.toNat * dt else c.stress, time := if act' then c.time + dt else c.time
    highAt := if run && hot then some (c.highAt.getD (now s)) else none
    imonBad := if run && off then c.imonBad + 1 else 0 }) s1
  when (run && decide (8 ≤ (stgCh s2 ch).imonBad)) (faultChannel Src.STG_CH_IMON d l 3) s2

/-- A channel's mean has stayed above the limit for `SLOW_T`. -/
def overloadDue (s : State) (ch : Nat) : Bool :=
  match (stgCh s ch).highAt with
  | some t => decide (ch < 80) && judged s (chDom ch) (chLocal ch) &&
      decide (t + usTicks (cfgF s (stgO (chDom ch) Reg.STG_SLOW) 27 16) ≤ now s)
  | none => false

/-- An evaluation at or below the limit in the expiry tick wins (R45, R285). -/
def execStgChOverload (ch : Nat) (s : State) := act s (overloadDue s ch) (expire (.overload ch) s)

def overloadOver (ch : Nat) (s : State) : State :=
  when (overloadDue s ch) (faultChannel Src.STG_CH_OVERLOAD (chDom ch) (chLocal ch) 2) s

/-- B of the estimate period just ended and whether it failed (R280). -/
def formB (s : State) (d : Nat) : Nat × Bool :=
  let x := stage s d
  if x.state = .off || x.state = .armed || x.state = .tripped then (0, false)
  else
    let rs := activeRes s d
    let sum := rs.foldl (fun t p => match p.2 with
      | some (_, i) => t + (if i < 0 then 0 else i)
      | none => t) (0 : Int)
    let stale := usTicks (cfgF s (stgO d Reg.STG_BCFG) 7 0)
    let bad := rs.any (fun p => match p.2 with
      | some (t, _) => decide (t + stale < now s) || decide (t < x.armedAt)
      | none => true)
    (satN 16 (roundDiv sum 10), bad)

/-- The comparisons of R282: the greatest deviation of this period, in percent, with its channel, and whether one is
beyond `IMB_PCT`. -/
def imbalance (s : State) (d b : Nat) : Option (Frac × Nat) × Bool :=
  let x := stage s d
  let n := x.active.length
  let w := cfg s (stgO d Reg.STG_BCFG)
  if x.state != .run || n = 0 || decide (10 * b < 100 * w.field 23 16 * n) then (none, false)
  else
    (activeRes s d).foldl (fun (best, bad) p => match p.2 with
      | none => (best, bad)
      | some (_, i) =>
        let dif : Nat := (i * n - 10 * b).natAbs
        let pct := if b = 0 then Frac.ofInt (quot (100 * dif) 0) else Frac.make (100 * dif) (10 * b)
        let best' := match best with
          | none => some (pct, p.1)
          | some (q, c) => if q.lt pct then some (pct, p.1) else some (q, c)
        (best', bad || decide (w.field 15 8 * 10 * b < 100 * dif))) (none, false)

/-- The diode-emulation decision of an estimate period (R278). -/
def deDecide (d b : Nat) (bad : Bool) (s : State) : State :=
  let x := stage s d
  let w := cfg s (stgO d Reg.STG_DE)
  let n := x.active.length
  if !cfgB s (stgO d Reg.STG_CFG) 24 then modStage d (fun x => { x with de := false, deRun := 0 }) s
  else if x.state != .run || bad || n = 0 then s
  else if 10 * b < 100 * w.field 7 0 * n then
    modStage d (fun x => { x with deRun := x.deRun + 1, de := x.de || decide (3 ≤ x.deRun) }) s
  else modStage d (fun x => { x with deRun := 0, de := x.de && decide (10 * b ≤ 100 * w.field 15 8 * n) }) s

/-- Tick 0 of an estimate period (R280, R282, R278). -/
def bUpdate (d : Nat) (s : State) : State :=
  let s0 := if s.tb.tick.toNat % capP = 0 then
      let v := match (stage s d).imb with
        | none => 0
        | some (p, c) => satN 8 p.round + 256 * c
      setLive (stgO d Reg.STG_IMBAL) (BitVec.ofNat 32 v) (modStage d (fun x => { x with imb := none }) s)
    else s
  let (b, bad) := formB s0 d
  let (best, beyond) := imbalance s0 d b
  let s1 := result (stgO d Reg.STG_BCUR) (b + 0x1000000 * b2n bad) (modStage d (fun x => { x with
    bCode := b, bFail := bad, bGood := if bad then x.bGood else b, v0 := x.rail
    imb := match x.imb, best with
      | none, y => y
      | some z, none => some z
      | some (p, c), some (q, e) => if p.lt q then some (q, e) else if q.lt p then some (p, c) else some (p, Nat.min c e) }) s0)
  let per := s.tb.tick.toNat / capP
  let s2 := when (beyond && (stage s1 d).imbSaid != some per)
    (fun s => raiseOn Src.STG_IMBALANCE d (stgPage d) 10 (modStage d (fun x => { x with imbSaid := some per }) s)) s1
  deDecide d b bad s2

def execStgBUpdate (d : Nat) (s : State) := act s (decide (d < 4) && atTick s estP 0) (bUpdate d s)

/-! ### Dropout tracking and the rail channel (R175, R206, R292) -/

/-- The highest demand of a domain's sectors (R186, R292, R541): those not OFF, and those that wait to leave OFF. A sector in
DARK, whose engine reports none, stands until its switch-off with the demand it reported last (DESIGN CHOICE, log entry 50:
R161 does not say what stands for it). -/
def domDemand (s : State) (d : Nat) : Int :=
  (domSectors s d).foldl (fun m i =>
    let x := sec s i
    if x.sw = .off && x.prof != .waiting then m
    else
      let e : Int := (live s (secO i Reg.SEC_DEMAND)).field 11 0
      let t := targetSum x
      let v := if t < e then e else t
      if m < v then v else m) 0

def railTarget (s : State) (d : Nat) : Nat :=
  let w := cfg s (stgO d Reg.STG_TRACK)
  let v := cfg s (stgO d Reg.STG_VRAIL)
  if w.bit 16 then v.field 27 16
  else
    let t := domDemand s d + (w.field 7 0 : Int) + (w.field 15 8 : Int)
    (clamp (if t < (v.field 11 0 : Int) then (v.field 11 0 : Int) else t) 1100 2400).toNat

def execRailTargetUpdate (d : Nat) (s : State) :=
  let t := railTarget s d
  act s (decide (d < 4) && (stage s d).state == .run && atTick s capP 0)
    (modStage d (fun x => { x with target := t, cmd := some t }) s)

/-- The rail channel's step (R175, R179): a new target is taken, then the step is computed. A command is DONE at its
arrival, SUPERSEDED where a later one replaces it before (R206). -/
def railStep (d : Nat) (s : State) : State :=
  let lim := stepLim (cfg s (stgO d Reg.STG_RLIMV)) (cfg s (stgO d Reg.STG_RLIMJ)) 2 25
  modStage d (fun x =>
    let y := match x.cmd with
      | some t => if t = x.chan.tgt then { x with cmd := none }
        else { x with cmd := none, prev := if x.prof = ProfState.slewing then 6 else 5, prof := .slewing,
                      chan := { x.chan with tgt := t, adm := t, there := false } }
      | none => x
    let c := if y.chan.rests then y.chan else y.chan.step lim
    { y with before := y.chan.pos, stepAt := now s, chan := c, prof := if c.rests then .done else y.prof }) s

def execChairliftRailStep (d : Nat) (s : State) :=
  act s (decide (d < 4) && atTick s compP 0 && (stage s d).state == .run && (stage s d).stepAt != now s) (railStep d s)

/-! ### Status words -/

/-- `STG_STAT` (R296). -/
def stgStat (s : State) (d : Nat) : Word :=
  let x := stage s d
  let code := match x.state with
    | .off => 0
    | .armed => 1
    | .soft => 2
    | .confirm => 3
    | .run => 4
    | .stop => 5
    | .tripped => 6
  let w := cfg s (stgO d Reg.STG_TRACK)
  let en := stgUp s d
  BitVec.ofNat 32 (code + 8 * b2n (x.state == .run) + 16 * b2n (deNow s d) + 32 * b2n x.trkErr +
    64 * b2n (decide (w.field 7 0 + w.field 15 8 < 100)) + 128 * b2n en + 256 * x.active.length +
    0x10000 * x.spares.length + 0x1000000 * b2n x.bFail + 0x2000000 * b2n (cfgF s (stgO d Reg.STG_CFG) 1 0 != x.fsw))

/-- `STG_REF`, `STG_RPROF`, and the channel maps (R295, R206). -/
def stgRef (s : State) (d : Nat) : Word :=
  BitVec.ofNat 32 (satN 12 (refCode s d) + 0x10000 * (stage s d).target)

def stgRprof (s : State) (d : Nat) : Word :=
  let x := stage s d
  let code := match x.prof with
    | .idle => 0
    | .waiting => 1
    | .slewing => 2
    | .held => 3
    | .settling => 4
    | .done => 5
  BitVec.ofNat 32 (satN 12 (roundDiv x.chan.pos q32) + 0x1000 * code + 0x10000 * x.prev)

def stgMap (p : Nat → Bool) (w : Nat) : Word := BitVec.ofNat 32 (packBits ((upto 32).map (fun i => p (32 * w + i))))

end Sys2Proof.Machine
end

