-- ==== Sys2Proof/Machine/Thermal.lean ====
section
/-! DEFINITION. The thermal manager (R326 to R347, R435): conversion of readings, judgement and sparing of sensors,
group levels, native and Stavnaind-compatible throttling. -/

namespace Sys2Proof.Machine

def modTherm (f : Therm → Therm) (s : State) : State := s.setTherm (f s.therm)

/-! ### Readings (R326 to R328, R331) -/

/-- A diode's temperature code (R327). -/
def diodeTemp (s : State) (n code : Nat) : Int :=
  let off := signed 8 ((cfg s (thmO (Reg.THM_DOFF (n / 4)))).field (8 * (n % 4) + 7) (8 * (n % 4)))
  clamp (roundDiv (code * cfgF s (thmO Reg.THM_DSLOPE) 15 0) 4096 - 17482 + 4 * off) (-32768) 32767

/-- The breakpoints of R328, and whether their codes rise strictly. -/
def ntcTable (s : State) : List (Nat × Int) :=
  (upto 16).map (fun k => let w := cfg s (thmO (Reg.THM_NTC k)); (w.field 11 0, signed 16 (w.field 31 16)))

def risingCodes : List (Nat × Int) → Bool
  | a :: b :: r => decide (a.1 < b.1) && risingCodes (b :: r)
  | _ => true

def ntcBad (s : State) : Bool := !risingCodes (ntcTable s)

/-- Linear interpolation between the breakpoints that enclose a code, the temperature rounded. -/
def ntcTemp (code : Nat) : List (Nat × Int) → Int
  | [] => 0
  | [a] => a.2
  | a :: b :: r =>
    if code ≤ a.1 then a.2
    else if code ≤ b.1 then
      quot (a.2 * ((b.1 : Int) - a.1) + (b.2 - a.2) * ((code : Int) - a.1)) ((b.1 : Int) - a.1)
    else ntcTemp code (b :: r)

/-- A result latched before tick 0 of the previous thermal period is stale (R331). -/
def freshRes (s : State) (l : Store (Nat × Nat)) : Store (Nat × Nat) := l.filter (fun p => decide (now s ≤ p.2.1 + thermP))

/-- A converted diode or thermistor (R305). -/
def diodeResult (n code : Nat) (s : State) : State := modTherm (fun t => { t with dRes := t.dRes.put n (now s, code) }) s
def thermResult (k code : Nat) (s : State) : State := modTherm (fun t => { t with tRes := t.tRes.put k (now s, code) }) s

/-- The start tick: what it samples, and a change of mode, which clears the grace, ceiling, factor and request (R330,
R343). `THM_STAT.NTC_BAD` shows the table as it was sampled, so that it reads 0 at reset (DEDUCED, log entry 23: R346
gives that reset value, R328 that a table not loaded reads 1). -/
def thermStart (s : State) : State :=
  let m := cfgF s (thmO Reg.THM_CFG) 0 0
  let inp : ThermIn :=
    { diodes := (freshRes s s.therm.dRes).map (fun p => (p.1, diodeTemp s p.1 p.2.2))
      therms := if ntcBad s then [] else (freshRes s s.therm.tRes).map (fun p => (p.1, (p.2.2, ntcTemp p.2.2 (ntcTable s))))
      words := (upto 30).map (fun i => cfg s (thmO (0x040 + 4 * i))) }
  let s1 := modTherm (fun t => { t with
    run := some inp, ntcBad := ntcBad s, opMin := cfgF s (thmO Reg.THM_CFG) 7 4 }) s
  let s2 := when (m != s.therm.mode) (fun s => setLive (thmO Reg.THM_STVFACT) 0x8000 (modTherm (fun t => { t with
    mode := m, req := false, grace := none, await := false, enf := false, ceil := none, factor := 32768 }) s)) s1
  engStart clsTherm 0 s2

/-- The manager runs from the first thermal-period tick 0 after SENSE was entered and every quadrant has made a pass
since (R539). -/
def thermMayRun (s : State) : Bool :=
  s.boot.thermOn ||
  (s.boot.state != .lock && s.boot.state != .load && s.boot.state != .check && s.boot.state != .await &&
    !s.boot.passes.isEmpty &&
    (upto (quads s)).all (fun q => decide (s.boot.passes.getD q 0 < (live s (qdO q Reg.QD_PASSES)).toNat)))

/-- Tick 0 of a thermal period: what the store makes good at the end of the last one (R437, R516), and the manager's
start where it runs. -/
def execThermalStart (s : State) :=
  act s (atTick s thermP 0) (calThermalEnd
    (when (thermMayRun s) (fun s => thermStart (s.setBoot { s.boot with thermOn := true })) s))

/-! ### Judgement (R332) -/

/-- A sampled word of the page. -/
def inWord (x : ThermIn) (off : Nat) : Word := x.words.getD ((off - 0x040) / 4) 0

/-- A diode fails or is retired: a failed mark, an isolation (R431, R432). -/
def failDiode (n : Nat) (s : State) : State :=
  if s.therm.dFail.contains n then s
  else
    let s1 := modTherm (fun t => { t with dFail := insertNat n t.dFail }) s
    s1.setSparing { s1.sparing with dioIsol := s1.sparing.dioIsol.put n (Store.get s1.sparing.dioIsol 0 n + 1) }

def judgeDiode (x : ThermIn) (n : Nat) (s : State) : State :=
  match x.diodes.find n with
  | none => s
  | some t =>
    if s.therm.dFail.contains n then s
    else
      let run := if t < -2560 || decide (9600 < t) then Store.get s.therm.dRun 0 n + 1 else 0
      let s1 := modTherm (fun y => { y with dRun := Store.set y.dRun 0 n run }) s
      when (decide (4 ≤ run)) (fun s => raise Src.THM_DIODE_FAIL n (failDiode n s)) s1

/-- Whether a diode may be used. -/
def usable (s : State) (n : Nat) : Bool := !s.therm.dFail.contains n

def judgePair (x : ThermIn) (site : Nat) (s : State) : State :=
  match x.diodes.find (2 * site), x.diodes.find (2 * site + 1) with
  | some a, some b =>
    if usable s (2 * site) && usable s (2 * site + 1) then
      let w := inWord x Reg.THM_DISAG
      let run := if 16 * w.field 7 0 < (a - b).natAbs then Store.get s.therm.disRun 0 site + 1 else 0
      let s1 := modTherm (fun y => { y with disRun := Store.set y.disRun 0 site run }) s
      when (decide (w.field 11 8 ≤ run) && !s.therm.maxed.contains site)
        (fun s => raise Src.THM_DIODE_DISAGREE site (modTherm (fun y => { y with maxed := insertNat site y.maxed }) s)) s1
    else s
  | _, _ => s

/-- A site's temperature: the primary's, the other's, or the higher of the two; none without a reading. -/
def siteTemp (x : ThermIn) (s : State) (site : Nat) : Option Int :=
  let a := if usable s (2 * site) then x.diodes.find (2 * site) else none
  let b := if usable s (2 * site + 1) then x.diodes.find (2 * site + 1) else none
  match a, b with
  | some p, some q => if s.therm.maxed.contains site then some (if p < q then q else p) else some p
  | some p, none => some p
  | none, q => q

def siteLost (s : State) (site : Nat) : Bool := !usable s (2 * site) && !usable s (2 * site + 1)

/-- Whether a diode of the site gave a reading. -/
def siteRead (x : ThermIn) (site : Nat) : Bool :=
  (x.diodes.find (2 * site)).isSome || (x.diodes.find (2 * site + 1)).isSome

/-- The site's word, and the loss of a site told once. A site is without a reading where no diode in use gave one, a lost
site where neither did (R331, R332). -/
def judgeSite (x : ThermIn) (site : Nat) (s : State) : State :=
  let lost := siteLost s site
  let s1 := when (lost && !s.therm.lost.contains site)
    (fun s => raiseOn Src.THM_SITE_LOST site 0x05 3 (modTherm (fun y => { y with lost := insertNat site y.lost }) s)) s
  let t := siteTemp x s1 site
  let off := thmO (Reg.THM_SITE site)
  let v := match t with
    | some t => unsigned 16 t
    | none => (live s1 off).field 15 0
  setLive off (BitVec.ofNat 32 (v + 0x10000 * b2n (!usable s1 (2 * site) && usable s1 (2 * site + 1)) +
    0x20000 * b2n (s1.therm.maxed.contains site) + 0x40000 * b2n lost +
    0x80000 * b2n (t.isNone && !(lost && siteRead x site)))) s1

def judgeTherm (x : ThermIn) (k : Nat) (s : State) : State :=
  match x.therms.find k with
  | none => s
  | some (code, t) =>
    if s.therm.tFail.contains k then s
    else
      let run := if code ≤ 16 || 4080 ≤ code then Store.get s.therm.tRun 0 k + 1 else 0
      let s1 := modTherm (fun y => { y with tRun := Store.set y.tRun 0 k run }) s
      let s2 := when (decide (4 ≤ run)) (fun s => raiseOn Src.THM_THERM_FAIL k 0x05 4
        (modTherm (fun y => { y with tFail := insertNat k y.tFail }) s)) s1
      setLive (thmO (Reg.THM_THERM k)) (BitVec.ofNat 32 (unsigned 16 t)) s2

/-! ### Groups (R333 to R336) -/

/-- The readings of a group's sensors, one entry a sensor assigned to it. -/
def groupReads (x : ThermIn) (s : State) (g : Nat) : List (Option Int) :=
  if g = 0 then (upto (sectors s)).map (siteTemp x s)
  else ((upto 8).filter (fun k => (inWord x Reg.THM_TGRP).field (2 * k + 1) (2 * k) == g)).map (fun k =>
    if s.therm.tFail.contains k then none else (x.therms.find k).map (·.2))

/-- The highest reading; none without one. -/
def maxRead (l : List (Option Int)) : Option Int :=
  l.foldl (fun m r => match m, r with
    | none, y => y
    | some a, some b => some (if a < b then b else a)
    | some a, none => some a) none

/-- The state of a group from its temperature (R334). -/
def groupState (x : ThermIn) (g old : Nat) (t : Int) : Nat :=
  let sat := fun (lvl off : Nat) =>
    let w := inWord x off
    let l := signed 16 (w.field 15 0)
    decide (l ≤ t) || (decide (lvl ≤ old) && decide (l - 16 * w.field 23 16 ≤ t))
  if sat 3 (Reg.THM_SHDN g) then 3 else if sat 2 (Reg.THM_THROT g) then 2 else if sat 1 (Reg.THM_WARN g) then 1 else 0

def throtLevel (x : ThermIn) (g : Nat) : Int := signed 16 ((inWord x (Reg.THM_THROT g)).field 15 0)

/-- The new states, temperatures and blindness of the groups; no temperature where no sensor gives one. -/
def groupsOf (x : ThermIn) (s : State) : List (Nat × Option Int × Bool) :=
  (upto 3).map (fun g =>
    let old := s.therm.gstate.getD g 0
    let l := groupReads x s g
    match maxRead l with
    | some t => (groupState x g old t, some t, false)
    | none => if l.isEmpty then (0, none, false) else (old, none, true))

/-- A group at or above its throttle level. -/
def atThrottle (x : ThermIn) (g : Nat) (t : Option Int) : Bool :=
  match t with
  | some t => decide (throtLevel x g ≤ t)
  | none => false

/-- The sources of the groups that changed, in ascending order of their IDs (R334, R336, R333). -/
def raiseGroups (old new : List Nat) (blind0 blind1 : List Bool) (s : State) : State :=
  let enter := fun (lvl src : Nat) (s : State) => forEach (upto 3) (fun g s =>
    when (new.getD g 0 == lvl && old.getD g 0 != lvl)
      (fun s => if lvl = 3 then raiseOn src g 0x05 1 s else raise src g s) s) s
  let s1 := enter 3 Src.THM_SHUTDOWN (enter 2 Src.THM_THROTTLE (enter 1 Src.THM_WARN s))
  forEach (upto 3) (fun g s => when (blind1.getD g false && !blind0.getD g false)
    (raiseOn Src.THM_GROUP_BLIND g 0x05 2) s) s1

/-! ### Throttling (R338 to R342) -/

/-- Enforcement begins (R339): told for the lowest group at or above its throttle level. -/
def beginEnforce (g : Nat) (s : State) : State :=
  raiseOn Src.THM_ENFORCE g 0x05 5 (bump (thmO Reg.THM_THROTTLES)
    (modTherm (fun t => { t with enf := true, await := false, grace := none }) s))

/-- The request, its grace and its end, at a latch in native mode (R338, R339, R341). `hot` is the lowest group in THROTTLE
or SHUTDOWN, `told` whether the latch raised `THM_THROTTLE` for a group that entered THROTTLE: a request that begins
without one, straight in SHUTDOWN or after a change of mode, raises it for `hot` (R338, R343). -/
def nativeLatch (x : ThermIn) (hot : Option Nat) (told : Bool) (s : State) : State :=
  match hot with
  | none => modTherm (fun t => { t with req := false, grace := none, await := false, enf := false, ceil := none }) s
  | some h =>
    if !s.therm.req then
      when (!told) (raise Src.THM_THROTTLE h) (modTherm (fun t => { t with
        req := true, grace := some (now s + 125000 * (inWord x Reg.THM_CFG).field 25 16) }) s)
    else match s.therm.above with
      | some g => when s.therm.await (beginEnforce g) s
      | none => s

/-- The factor of Stavnaind-compatible mode (R342). -/
def stvFactor (x : ThermIn) (gs : List (Nat × Option Int × Bool)) : Nat :=
  let w := inWord x Reg.THM_STV
  ((gs.zip (upto 3)).map (fun ((_, t, _), g) =>
    let l := throtLevel x g
    match t with
    | none => 32768
    | some t =>
      if t < l then 32768
      else
        let f := roundDiv (32768 * (64000 - w.field 7 0 * (t - l))) 64000
        let fl := roundDiv (32768 * w.field 14 8) 100
        (if f < fl then fl else f).toNat)).foldl Nat.min 32768

/-- A site's cycle detector (R435); each counted cycle is added to the cells of its sector in START or REGULATE. -/
def cycleDetect (x : ThermIn) (site : Nat) (s : State) : State :=
  match siteTemp x s site with
  | none => s
  | some t =>
    let dl : Int := 64 * cfgF s (calO Reg.CAL_WEARCFG) 31 24
    match s.therm.cyc.find site with
    | none => modTherm (fun y => { y with cyc := y.cyc.put site (true, t) }) s
    | some (true, lo) =>
      let lo := if t < lo then t else lo
      if lo + dl ≤ t then
        (secClus site).foldl (fun s g => (inDuty s g).foldl (fun s n =>
          setWear n { wear s n with cycles := (wear s n).cycles + 1 } s) s)
          (modTherm (fun y => { y with cyc := y.cyc.put site (false, t) }) s)
      else modTherm (fun y => { y with cyc := y.cyc.put site (true, lo) }) s
    | some (false, hi) =>
      let hi := if hi < t then t else hi
      modTherm (fun y => { y with cyc := y.cyc.put site (if t ≤ hi - dl then (true, t) else (false, hi)) }) s

/-- Consecutive latches at which a site was at or above `SEAT_HOT.TEMP` (R415). -/
def noteHot (x : ThermIn) (site : Nat) (s : State) : State :=
  let hot := match siteTemp x s site with
    | some t => decide (signed 16 (cfgF s (seatO Reg.SEAT_HOT) 15 0) ≤ t)
    | none => false
  modSeat (fun y => { y with
    hotRun := Store.set y.hotRun 0 site (if hot then Nat.min (Store.get y.hotRun 0 site + 1) 15 else 0) }) s

/-- `THM_PEAK`: the highest DIE temperature since cold start (R345). -/
def notePeak (die : Option Int) (s : State) : State :=
  match die with
  | none => s
  | some t =>
    when (!s.therm.peaked || decide (signed 16 ((live s (thmO Reg.THM_PEAK)).field 15 0) < t))
      (fun s => setLive (thmO Reg.THM_PEAK) (BitVec.ofNat 32 (unsigned 16 t)) (modTherm (fun y => { y with peaked := true }) s)) s

/-- The latch of a thermal period (R332 to R342). -/
def thermCommit (s : State) : State :=
  match s.therm.run with
  | none => s
  | some x =>
    let sites := upto (sectors s)
    let s1 := forEach (upto (2 * sectors s)) (judgeDiode x) s
    let s2 := forEach sites (judgeSite x) (forEach sites (judgePair x) s1)
    let s3 := forEach (upto 8) (judgeTherm x) s2
    let gs := groupsOf x s3
    let old := s3.therm.gstate
    let new := gs.map (·.1)
    let s4 := raiseGroups old new s3.therm.blind (gs.map (·.2.2)) s3
    let temps := (gs.zip (upto 3)).map (fun ((_, t, _), g) => t.getD (nth s3.therm.gtemp g))
    let s5 := forEach (upto 3) (fun g s =>
      result (thmO (Reg.THM_GTEMP g)) (unsigned 16 (nth temps g) + 0x1000000 * b2n ((gs.map (·.2.2)).getD g false)) s) s4
    let s6 := notePeak (gs.getD 0 (0, none, true)).2.1 s5
    let above := ((gs.zip (upto 3)).find? (fun ((_, t, _), g) => atThrottle x g t)).map (·.2)
    let hot := (upto 3).find? (fun g => decide (2 ≤ new.getD g 0))
    let told := (upto 3).any (fun g => new.getD g 0 == 2 && old.getD g 0 != 2)
    let left := old.any (· == 3) && !new.any (· == 3)
    let s7 := modTherm (fun y => { y with
      run := none, gstate := new, gtemp := temps, blind := gs.map (·.2.2), above := above, valid := true,
      shutAt := if left then now s else y.shutAt }) s6
    let s8 := if s7.therm.mode = 0 then nativeLatch x hot told s7
      else setLive (thmO Reg.THM_STVFACT) (BitVec.ofNat 32 (stvFactor x gs))
        (modTherm (fun y => { y with factor := stvFactor x gs }) s7)
    forEach sites (noteHot x) (forEach sites (cycleDetect x) s8)

def execThermalLatch (s : State) :=
  act s (engDue s clsTherm 0) (latch clsTherm 0 thermCommit (modTherm (fun t => { t with run := none })) s)

/-- The grace expires, after a latch due in the same tick: the latest latch decides (R339). -/
def execThermalGraceExpiry (s : State) :=
  match s.therm.grace with
  | some t =>
    act s (decide (t ≤ now s) && !engDue s clsTherm 0)
      (match s.therm.above with
        | some g => beginEnforce g s
        | none => modTherm (fun y => { y with grace := none, await := true }) s)
  | none => act s false s

/-- A step tick of enforcement (R340). -/
def execEnforceStep (s : State) :=
  let c := Nat.max s.therm.opMin ((match s.therm.ceil with
    | some c => c
    | none => opIndex s) - 1)
  act s (s.therm.enf && atTick s 640000 0) (bump (thmO Reg.THM_STEPS) (modTherm (fun t => { t with ceil := some c }) s))

/-! ### Commands and status -/

/-- `THM_CMD` (R345). -/
def thmCommand (w : Word) (s : State) : State :=
  let n := w.field 6 0
  let s1 := when (w.bit 8 && decide (n < 2 * sectors s))
    (fun s => failDiode n (modTherm (fun t => { t with maxed := t.maxed.filter (· != n / 2) }) s)) s
  let s2 := when (w.bit 9) (modTherm (fun t => { t with
    dFail := t.dFail.filter (· != n), dRun := t.dRun.del n, disRun := t.disRun.del (n / 2), maxed := t.maxed.filter (· != n / 2),
    lost := t.lost.filter (· != n / 2) })) s1
  let k := w.field 18 16
  when (w.bit 20) (modTherm (fun t => { t with tFail := t.tFail.filter (· != k), tRun := t.tRun.del k })) s2

def execThmCmdRetire (a : Access) (n : BitVec 7) (s : State) :=
  act s (reaches s a) (secureCmd a (thmCommand (BitVec.ofNat 32 (n.toNat + 0x100))) s)
def execThmCmdReturn (a : Access) (n : BitVec 7) (s : State) :=
  act s (reaches s a) (secureCmd a (thmCommand (BitVec.ofNat 32 (n.toNat + 0x200))) s)
def execThmCmdTreturn (a : Access) (k : BitVec 3) (s : State) :=
  act s (reaches s a) (secureCmd a (thmCommand (BitVec.ofNat 32 (0x10000 * k.toNat + 0x100000))) s)

/-- `THM_STAT` (R346), the failed maps, and a thermistor's word. -/
def thmStat (s : State) : Word :=
  let t := s.therm
  BitVec.ofNat 32 (t.gstate.getD 0 0 + 4 * t.gstate.getD 1 0 + 16 * t.gstate.getD 2 0 + 0x100 * b2n t.req +
    0x200 * b2n t.enf + 0x1000 * t.ceil.getD 0 + 0x10000 * b2n t.ceil.isSome + 0x20000 * b2n t.valid +
    0x40000 * b2n t.ntcBad)

def thmDfail (s : State) (w : Nat) : Word := stgMap (fun n => s.therm.dFail.contains n) w
def thmTfail (s : State) : Word := stgMap (fun k => s.therm.tFail.contains k) 0
def thmThermWord (s : State) (k : Nat) : Word := (live s (thmO (Reg.THM_THERM k))).put 16 16 (b2n (s.therm.tFail.contains k))

end Sys2Proof.Machine
end

