-- ==== Sys2Proof/Machine/Telemetry.lean ====
section
/-! DEFINITION. Converters and telemetry (R299 to R325): results and calibration, sequences, urgent requests, the
cross-check, and the replacement of converters. -/

namespace Sys2Proof.Machine

def adcPage (n : Nat) : Nat := 0x14 + n
def qdPage (q : Nat) : Nat := 0x10 + q

/-! ### Results and calibration (R301 to R304) -/

/-- A result from the sum of `n` kept raw codes (R301). -/
def adcCode (s : State) (c n sum : Nat) : Nat :=
  let a := adc s c
  (clamp (quot ((sum : Int) * a.gain + a.offs * 4096 * n) (n * 16384)) 0 4095).toNat

/-- The gain and offset that a pair of raw means, eight times, asks for with the true values of a quadrant. -/
def calOf (s : State) (q : Nat) (rl8 rh8 : Nat) : Int × Int :=
  let w := cfg s (qdO q Reg.QD_REFVAL)
  let lo : Int := w.field 11 0
  let hi : Int := w.field 27 16
  let g := quot (16384 * (hi - lo) * 8) ((rh8 : Int) - rl8)
  (g, roundDiv (4 * lo * 131072 - 4 * (rl8 : Int) * g) 131072)

def calInRange (p : Int × Int) : Bool :=
  decide (14336 ≤ p.1) && decide (p.1 ≤ 18432) && decide (-256 ≤ p.2) && decide (p.2 ≤ 255)

/-- A spare that neither takes a role nor converts for an arbitration (R316 to R318). -/
def idleSpare (s : State) (n : Nat) : Bool :=
  (adc s n).state == .spare && (adc s n).taking == none && !s.xchks.any (fun e => e.2.conv == n)

/-- The converter repeats calibration pairs (R303); a spare converts for an arbitration instead while one lasts (R316), and
stays a spare until it has taken a role chosen for it (R317, R318). -/
def calibrates (s : State) (n : Nat) : Bool :=
  let a := adc s n
  match a.state with
  | .cal => true
  | .spare => !s.xchks.any (fun e => e.2.conv == n)
  | .retest => true
  | .rail => (stage s a.role).state == .off || (stage s a.role).state == .tripped
  | .telem => a.taking == none && cfgF s (qdO (a.role - 4) Reg.QD_SEQCTL) 8 0 == 0
  | .failed => false

/-- The tick from which the pair in hand can run: a rail role's follows its domain's entry to OFF or TRIPPED, a
telemetry role's the conversions in progress (R303, R310). -/
def calFrom (s : State) (n : Nat) : Nat :=
  let a := adc s n
  match a.state with
  | .rail => Nat.max a.calAt (stage s a.role).downAt
  | .telem =>
    let x := quad s (a.role - 4)
    let e1 := match x.cur with
      | some (_, _, e) => e
      | none => 0
    let e2 := match x.urgent with
      | some (e, _) => e
      | none => 0
    Nat.max a.calAt (Nat.max e1 e2)
  | _ => a.calAt

/-- The first edge of a phase at or after a tick. -/
def nextEdge (s : State) (at0 phase : Nat) : Nat := at0 + (phase + 5 - (s.tb.tick.toNat + at0 - now s) % 5) % 5

/-- The phase of a converter's edges (R299, R54). -/
def adcPhase (s : State) (n : Nat) : Nat :=
  if (adc s n).state = .rail then 0
  else if n < 4 then (cfg s (tbO Reg.TB_ADCPH1)).field (3 * n + 2) (3 * n)
  else (cfg s (tbO Reg.TB_ADCPH0)).field (3 * (n - 4) + 2) (3 * (n - 4))

/-- A converter enters FAILED. -/
def toFailed (n cause : Nat) (s : State) : State :=
  modAdc n (fun a => { a with state := .failed, role := 15, cause := cause, taking := none, corrRun := 0 }) s

/-- A converter that fails in service counts as isolated (R315, R432). -/
def adcFailed (n cause : Nat) (s : State) : State :=
  let s1 := toFailed n cause s
  s1.setSparing { s1.sparing with adcIsol := s1.sparing.adcIsol.put n (Store.get s1.sparing.adcIsol 0 n + 1) }

/-! ### Replacement (R317 to R319) -/

/-- Results of a quadrant not yet latched are discarded, and their requesters may ask again; the entry or urgent
conversion in progress begins again on the converter that takes over. -/
def dropResults (q : Nat) (s : State) : State :=
  let lapse := fun (c : Conv) (s : State) => match c.who with
    | some w => if decide (now s < c.first + 5 * c.avg) then s else urgentDropped q s ⟨c.chan, w, 0⟩
    | none => s
  (quad s q).due.foldl (fun s c => lapse c s) (modQuad q (fun x => { x with
    due := [], cur := none,
    next := match x.cur with
      | some (e, _, t) => if now s < t then e else x.next
      | none => x.next
    redo := match x.urgent with
      | some (t, r) => if now s < t then some r else x.redo
      | none => x.redo
    urgent := none }) s)

/-- A quadrant stops sequencing, and no converter serves its urgent requests (R319, R311). -/
def telemLost (q : Nat) (s : State) : State :=
  let s1 := dropUrgent q (dropResults q s)
  let s2 := match (quad s1 q).redo with
    | some r => urgentDropped q (modQuad q (fun x => { x with redo := none }) s1) r
    | none => s1
  raiseOn Src.ADC_TELEM_LOST q (qdPage q) 1 s2

/-- The role a converter takes at its first in-range pair: that of R4, where its quadrant is present. -/
def firstRole (s : State) (n : Nat) : Option Nat :=
  if n < 4 then some n else if n < 4 + quads s then some n else none

/-- The role a converter holds, is about to take, or takes when it leaves CAL. -/
def roleOf (s : State) (n : Nat) : Option Nat :=
  let a := adc s n
  match a.taking with
  | some (r, _) => some r
  | none => match a.state with
    | .rail | .telem => some a.role
    | .cal => firstRole s n
    | _ => none

def insertRole (r : Nat × Nat) : List (Nat × Nat) → List (Nat × Nat)
  | [] => [r]
  | y :: l => if r.1 ≤ y.1 then r :: y :: l else y :: insertRole r l

/-- A converter loses a role: it is owed until the end of the tick, when the roles lost in it pass on in their order,
rail roles first (R318). -/
def oweRole (n role : Nat) (s0 : State) : State :=
  let s := if 4 ≤ role then dropResults (role - 4) s0 else s0
  s.setAdcOwed (insertRole (role, n) s.adcOwed)

/-- A converter leaves service in FAILED by `fail`, and the role it stood for is owed. -/
def dropAdc (fail : State → State) (n : Nat) (s : State) : State :=
  match roleOf s n with
  | some r => oweRole n r (fail s)
  | none => fail s

/-- A converter is lost (R315, R316). -/
def loseAdc (n cause : Nat) (s : State) : State :=
  if (adc s n).state = .failed then s else dropAdc (adcFailed n cause) n s

/-- The converter is connected to the role from 16 ticks on. -/
def takeRole (role m : Nat) (s : State) : State := modAdc m (fun a => { a with taking := some (role, now s + 16) }) s

/-- A converter still in CAL that may yet serve the role: a spare-to-be, or for a rail role one of a telemetry role. -/
def mayServe (s : State) (role m : Nat) : Bool :=
  (adc s m).state == .cal && (match firstRole s m with
    | none => true
    | some r => decide (role < 4) && decide (4 ≤ r))

/-- An owed role passes to the lowest-numbered spare, connected 16 ticks from now; with none free a rail role takes the
converter of the highest-numbered quadrant that has one, and a telemetry role is lost (R317 to R319). A converter still
in CAL that may serve it is waited for (DEDUCED, log entry 22: R319 speaks of no spare free). -/
def serveRole (s : State) (o : Nat × Nat) : State :=
  match (upto 12).find? (fun m => (adc s m).state == .spare && (adc s m).taking == none) with
  | some m => takeRole o.1 m s
  | none =>
    if (upto 12).any (mayServe s o.1) then s.setAdcOwed (insertRole o s.adcOwed)
    else
      let s1 := raise Src.ADC_SPARE_EXHAUSTED o.2 s
      if 4 ≤ o.1 then telemLost (o.1 - 4) s1
      else match (((upto 4).map (fun i => 3 - i)).find? (fun q => (quadConv s1 q).isSome)) with
        | none => s1
        | some q => match quadConv s1 q with
          | some m => takeRole o.1 m (telemLost q s1)
          | none => s1

/-- The roles lost in a tick pass on at its end. -/
def serveOwed (s : State) : State := s.adcOwed.foldl serveRole (s.setAdcOwed [])

/-- The crossbar connects a converter to a lost role: for a rail role at an edge of phase 0, its first 8 samples
discarded; for telemetry at the converter's own edge. -/
def connectAdc (n role : Nat) (s : State) : State :=
  raiseOn Src.ADC_REPLACED n (adcPage n) 4
    (modAdc n (fun a => { a with taking := none, role := role, state := if role < 4 then .rail else .telem,
                                 keep := if role < 4 then now s + 40 else now s, calAt := now s }) s)

def execAdcReplaceConnect (role : Nat) (s : State) :=
  match (upto 12).find? (fun n => match (adc s n).taking with
    | some (r, t) => r == role && decide (t ≤ now s)
    | none => false) with
  | some n =>
    act s (s.tb.running && s.tb.tick.toNat % 5 == (if role < 4 then 0 else adcPhase s n)) (connectAdc n role s)
  | none => act s false s

/-! ### Calibration pairs (R302, R303, R315) -/

/-- A converter leaves CAL for its role of R4, or for SPARE. A sequence begins at the first edge after it (R304). -/
def leaveCal (n : Nat) (s : State) : State :=
  match firstRole s n with
  | some r => modAdc n (fun a => { a with
      state := if r < 4 then .rail else .telem, role := r, keep := if r < 4 then now s else now s + 1 }) s
  | none => modAdc n (fun a => { a with state := .spare, role := 15 }) s

/-- A pair is taken: gain and offset replaced where in range, the source raised where not. In CAL the pair ends the
state; in RETEST it is one of 16. The next pair began 8 clocks ago, while the last samples were in the pipeline. -/
def calPair (n rl8 rh8 : Nat) (s : State) : State :=
  let a := adc s n
  let q := if a.state = .telem then a.role - 4 else 0
  let (g, o) := calOf s q rl8 rh8
  let ok := calInRange (g, o)
  let s1 := setLive (adcO n Reg.ADC_REFRAW) (BitVec.ofNat 32 (rl8 % 0x10000 + 0x10000 * (rh8 % 0x10000))) s
  let s2 := if ok then bump (adcO n Reg.ADC_CALS) (modAdc n (fun a => { a with gain := g.toNat, offs := o }) s1)
    else raiseOn Src.ADC_CAL_RANGE n (adcPage n) 1 s1
  let s3 := modAdc n (fun a => { a with calAt := now s - 40 }) s2
  match a.state with
  | .cal => if ok then leaveCal n s3 else loseAdc n 1 s3
  | .retest =>
    when (decide (a.pairs < 16)) (modAdc n (fun a => { a with
      pairs := a.pairs + 1, pairOk := a.pairOk && ok,
      gMin := if a.pairs = 0 then g.toNat else Nat.min a.gMin g.toNat, gMax := if a.pairs = 0 then g.toNat else Nat.max a.gMax g.toNat,
      oMin := if a.pairs = 0 || o < a.oMin then o else a.oMin, oMax := if a.pairs = 0 || a.oMax < o then o else a.oMax })) s3
  | _ => s3

/-- A pair lasts 46 clocks from an edge of its converter, and its last sample comes 9 clocks after its edge (R299, R303). -/
def pairDue (s : State) (n : Nat) : Bool :=
  calibrates s n && s.tb.running && s.tb.tick.toNat % 5 == adcPhase s n && decide (calFrom s n + 270 ≤ now s)

def execAdcCalPair (n rl8 rh8 : Nat) (s : State) := act s (decide (n < 12) && pairDue s n) (calPair n rl8 rh8 s)

def execAdcRetestDone (n : Nat) (s : State) :=
  let a := adc s n
  let ok := a.pairOk && decide (a.gMax ≤ a.gMin + 64) && decide (a.oMax - a.oMin ≤ 8)
  act s (decide (n < 12) && a.state == .retest && decide (16 ≤ a.pairs))
    (if ok then modAdc n (fun a => { a with state := .spare, role := 15 }) s else adcFailed n 5 s)

/-- A run of overflows after the next sample, and whether a run has come to 4 (R316). -/
def corrStep (r : Nat × Bool) (bad : Bool) : Nat × Bool :=
  if bad then (r.1 + 1, r.2 || r.1 + 1 == 4) else (0, r.2)

/-- The next samples of a converter, each with its correction overflow: every overflow counts (R324), and a run that
comes to 4 raises the source, once (R316). -/
def corrSamples (n : Nat) (bad : List Bool) (s : State) : State :=
  let r := bad.foldl corrStep ((adc s n).corrRun, false)
  when r.2 (raiseOn Src.ADC_CORR_ERR n (adcPage n) 2)
    (bumpBy (adcO n Reg.ADC_CORRERR) (bad.filter (· == true)).length (modAdc n (fun a => { a with corrRun := r.1 }) s))

def execAdcCorrErr (x : CorrSamples) (s : State) :=
  act s (decide (x.conv < 12) && (adc s x.conv).state != .failed) (corrSamples x.conv x.bad s)

/-- `ADC_CMD` (R324, R325). -/
def adcCommand (n : Nat) (w : Word) (s : State) : State :=
  let st := (adc s n).state
  let s1 := when (w.bit 0 && (st == .rail || st == .telem || st == .spare)) (loseAdc n 4) s
  if w.bit 1 then
    if (adc s1 n).state = .failed then
      modAdc n (fun a => { a with state := .retest, pairs := 0, pairOk := true, calAt := now s }) s1
    else refuse (adcPage n) s1
  else s1

def execAdcCmdRetire (a : Access) (n : Nat) (s : State) :=
  act s (reaches s a && decide (n < 12)) (secureCmd a (adcCommand n 1) s)
def execAdcCmdRetest (a : Access) (n : Nat) (s : State) :=
  act s (reaches s a && decide (n < 12)) (secureCmd a (adcCommand n 2) s)

/-! ### Rail samples (R299, R304) -/

def execRailConverterResult (n : Nat) (raw : BitVec 12) (s : State) :=
  let a := adc s n
  let edge := now s - 45
  let from0 := nextEdge s (stage s a.role).armedAt 0 + 40
  act s (decide (n < 12) && a.state == .rail && a.taking == none && stgUp s a.role && s.tb.running && s.tb.tick.toNat % 5 == 0 &&
      decide (a.keep ≤ edge) && decide (from0 ≤ edge) && decide (45 ≤ now s) &&
      !((stage s a.role).hist.take 1).any (fun h => h.1 == edge))
    (railResult a.role (adcCode s n 1 raw.toNat) edge s)

/-! ### Sequences (R307 to R310) -/

/-- A profile's settle and average. -/
def profWord (w : Word) : Nat × Nat := (w.field 3 0, 2 ^ w.field 5 4)
def profOf (s : State) (q p : Nat) : Nat × Nat := profWord (cfg s (qdO q (Reg.QD_PROF p)))

def seqEntry (s : State) (q e : Nat) : Nat × Nat :=
  let v := (cfg s (qdO q (Reg.QD_SEQ (e / 3)))).field (10 * (e % 3) + 9) (10 * (e % 3))
  (v % 256, v / 256)

def seqLen (s : State) (q : Nat) : Nat := cfgF s (qdO q Reg.QD_SEQCTL) 8 0

/-- An edge of the converter serving a quadrant. -/
def quadEdge (s : State) (q : Nat) : Bool :=
  match quadConv s q with
  | some n => s.tb.running && s.tb.tick.toNat % 5 == adcPhase s n && decide ((adc s n).keep ≤ now s)
  | none => false

/-- The next entry starts: at the end of the one before, or when the urgent conversions are served. -/
def entryFree (x : Quad) (t : Nat) : Bool :=
  (match x.cur with
    | some (_, _, e) => decide (e ≤ t)
    | none => true) &&
  (match x.urgent with
    | some (e, _) => decide (e ≤ t)
    | none => true)

/-- The old table, where a new one still waits for the next entry start; a sequence that ends with `LEN` = 0 has its last
entry's end for that start (R309, R310). -/
def oldTable (s : State) (q : Nat) (x : Quad) : Option (Word × List Word) :=
  if x.newTab && !(seqLen s q == 0 && entryFree x (now s)) then x.old else none

/-- `LEN` and `AUTOCAL` of the table in use. -/
def seqCtl (s : State) (q : Nat) (x : Quad) : Word :=
  match oldTable s q x with
  | some o => o.1
  | none => cfg s (qdO q Reg.QD_SEQCTL)

/-- The profile of an urgent conversion, of the table in use. -/
def urgProf (s : State) (q : Nat) (x : Quad) : Nat × Nat :=
  let p := cfgF s (qdO q Reg.QD_URG) 1 0
  match oldTable s q x with
  | some o => profWord (o.2.getD p 0)
  | none => profOf s q p

/-- The entry in progress is the last of its table, and over. -/
def lastOver (s : State) (q : Nat) (x : Quad) : Bool :=
  match x.cur with
  | some (e, _, t) => e + 1 == (match x.old with
      | some o => if x.newTab then o.1.field 8 0 else seqLen s q
      | none => seqLen s q) && decide (t ≤ now s)
  | none => false

/-- The pass that ends with the entry in progress: its clocks, and whether it calibrates (R303). -/
def passOver (s : State) (q : Nat) (x : Quad) : Option (Nat × Bool) :=
  match x.cur with
  | some (_, _, t) => if lastOver s q x then some ((t - x.passAt) / 5, x.passLo && x.passHi) else x.passEnd
  | none => x.passEnd

def startEntry (q : Nat) (s : State) : State :=
  let x := quad s q
  let e := if x.newTab then 0 else if x.next < seqLen s q then x.next else 0
  let (ch, p) := seqEntry s q e
  let (st, av) := profOf s q p
  let t := now s
  let last := t + 5 * (st + av - 1)
  modQuad q (fun x => { x with
    passEnd := passOver s q x, passAt := if e = 0 then t else x.passAt, newTab := false, old := none, urgent := none,
    passLo := ch == 252 || (x.passLo && e != 0), passHi := ch == 253 || (x.passHi && e != 0),
    cur := some (e, t, t + 5 * (st + av)), next := (e + 1) % (seqLen s q)
    due := x.due ++ [⟨ch, t + 5 * st, av, last + 45, none⟩] }) s

def execSequenceEntryStart (q : Nat) (s : State) :=
  let x := quad s q
  act s (quadEdge s q && decide (0 < seqLen s q) && entryFree x (now s) && x.queue.isEmpty && x.redo.isNone) (startEntry q s)

/-! ### Urgent requests (R311 to R313) -/

/-- The oldest urgent request begins: an entry begun before this edge and not over is aborted, one of this edge is
deferred. -/
def startUrgent (q : Nat) (r : UrgReq) (rest : List UrgReq) (s : State) : State :=
  let x := quad s q
  let (st, av) := urgProf s q x
  let t := now s
  let cut := match x.cur with
    | some (_, _, e) => decide (t < e)
    | none => false
  let began := match x.cur with
    | some (_, b, _) => decide (b < t)
    | none => false
  let keep := fun (l : List Conv) => if cut then l.filter (fun c => c.who.isSome || match x.cur with
    | some (_, b, _) => decide (c.first ≤ b)
    | none => true) else l
  let s1 := modQuad q (fun x => { x with
    passEnd := passOver s q x, cur := none, queue := rest, redo := none, urgent := some (t + 5 * (st + av), r),
    next := match x.cur with
      | some (e, _, _) => if cut then e else x.next
      | none => x.next
    due := keep x.due ++ [⟨r.chan, t + 5 * st, av, t + 5 * (st + av - 1) + 45, some r.who⟩] }) s
  when (cut && began) (bump (qdO q Reg.QD_ABORTS)) s1

def execUrgentConversionStart (q : Nat) (s : State) :=
  let x := quad s q
  let free := quadEdge s q && (match x.urgent with
    | some (e, _) => decide (e ≤ now s)
    | none => true)
  match x.redo, x.queue with
  | some r, rest => act s free (startUrgent q r rest s)
  | none, r :: rest => act s free (startUrgent q r rest s)
  | none, [] => act s false s

/-- Requests made by the mechanisms themselves; each must have its cause (R116, R255, R311). -/
def execUrgentRequest (q who : Nat) (chan : BitVec 8) (s : State) :=
  let g := 64 * q + chan.toNat % 64
  let cause := match who with
    | 0 => decide (chan.toNat < 64) && sensorsDiffer s g
    | 1 => decide (64 ≤ chan.toNat) && decide (chan.toNat < 128)
    | 2 => decide (128 ≤ chan.toNat)
    | _ => false
  act s (decide (q < quads s) && cause) (if who = 0 then askTap g s else urgentPush q chan.toNat who s)

/-- `QD_URGREQ` (R321). -/
def urgCommand (q : Nat) (w : Word) (s : State) : State := when (w.bit 8) (urgentPush q (w.field 7 0) 3) s

def execQdUrgreqGo (a : Access) (q : Nat) (chan : BitVec 8) (s : State) :=
  act s (reaches s a && decide (q < quads s)) (secureCmd a (urgCommand q (BitVec.ofNat 32 (0x100 + chan.toNat))) s)

/-! ### Delivery (R305, R306, R314, R316) -/

/-- The cross-check of a rail tap (R316). -/
def crossCheck (q d code : Nat) (c : Conv) (s : State) : State :=
  let w := cfg s (qdO q Reg.QD_RAILCHK)
  if !w.bit 12 then s
  else match railMean s d c with
    | none => s
    | some m =>
      let t := Frac.ofInt code
      let dif := if m.le t then t.sub m else m.sub t
      let far := (Frac.ofInt (w.field 7 0)).lt dif
      modQuad q (fun x => { x with xrun := Store.set x.xrun 0 d (if far then Store.get x.xrun 0 d + 1 else 0),
                                   xlast := if far then x.xlast.put d (m, code) else x.xlast }) s

/-- A result reaches its destination; an urgent one is marked (R305, R314). A result for recalibration leaves K to
R255; while a cluster's tap switch is closed its voltage tap goes to the sequencer only (R441). -/
def deliver (q code : Nat) (c : Conv) (s : State) : State :=
  let ch := c.chan
  let urg := 0x1000000 * b2n c.who.isSome
  if ch < 128 then
    let g := 64 * q + ch % 64
    if sectors s ≤ g / 4 then s
    else if ch < 64 then (if tapClosed s g then s else result (cluO (g / 4) (Reg.CLU_VTAP (g % 4))) (code + urg) s)
    else
      let s1 := result (cluO (g / 4) (Reg.CLU_ITAP (g % 4))) (code + urg) s
      if c.who = some 1 then s1 else updateK g code c.first s1
  else if ch < 160 then
    let site := 16 * q + (ch - 128) / 2
    if sectors s ≤ site then s else diodeResult (2 * site + ch % 2) code s
  else if ch < 240 then stageChResult (ch - 160) code s
  else if ch < 248 then thermResult (ch - 240) code s
  else if ch < 252 then crossCheck q (ch - 248) code c (result (qdO q (Reg.QD_RAILTAP (ch - 248))) (code + urg) s)
  else if ch = 252 then result (qdO q Reg.QD_REFLO) code s
  else if ch = 253 then result (qdO q Reg.QD_REFHI) code s
  else if ch = 254 then result (qdO q Reg.QD_GND) code s
  else result (qdO q Reg.QD_VAON) code s

/-- The conversion whose result is due in this tick. -/
def dueConv (s : State) (q : Nat) (urgent : Bool) : Option Conv :=
  (quad s q).due.find? (fun c => c.who.isSome == urgent && c.due == now s)

def rawSum (raws : List Nat) : Nat := raws.foldl (fun t r => t + r % 4096) 0

/-- A result leaves the pipeline: the code it gives, the reference entries kept with their raw sums (R303). -/
def takeConv (q : Nat) (c : Conv) (sum : Nat) (s : State) : State :=
  modQuad q (fun x => { x with
    due := x.due.filter (· != c)
    refLo := if c.chan = 252 && c.who.isNone then some (sum, c.avg) else x.refLo
    refHi := if c.chan = 253 && c.who.isNone then some (sum, c.avg) else x.refHi }) s

/-- Results of one tick for one destination that every quadrant reaches are written in ascending quadrant order (R306):
a lower quadrant's comes first. -/
def resultTurn (s : State) (q : Nat) (c : Conv) : Bool :=
  !(decide (160 ≤ c.chan) && decide (c.chan < 248) &&
    (upto q).any (fun k => (quad s k).due.any (fun x => x.chan == c.chan && x.due == now s)))

def execTelemetryResult (q : Nat) (raws : List Nat) (s : State) :=
  match dueConv s q false, quadConv s q with
  | some c, some n =>
    act s (raws.length == c.avg && resultTurn s q c)
      (deliver q (adcCode s n c.avg (rawSum raws)) c (takeConv q c (rawSum raws) s))
  | _, _ => act s false s

/-- K from an unfiltered ratio (R255), to be set through the ring. -/
def calibAsk (g tap at0 : Nat) (s : State) : State :=
  match (clu s g).raws.find? (fun r => decide (r.1 ≤ at0 && at0 < r.1 + controlP)) with
  | none => s
  | some (_, raw) =>
    if raw < 65536000 || cfgB s (cluReg g 0x048 16) 16 then s
    else ringAsk (cluQuad g) (jobTxn 1 (g % 64) (.calib g (roundDiv ((tap : Int) * 655360 * 16384) raw).toNat) (now s)) s

/-- A requester takes its urgent result (R116, R255, R314, R441). -/
def answerUrgent (q code : Nat) (c : Conv) (s : State) : State :=
  let g := 64 * q + c.chan % 64
  match c.who with
  | some 0 => if tapClosed s g then modClu g (fun x => { x with tapWait := false }) s else retireSensor g code s
  | some 1 => calibAsk g code c.first s
  | some 3 => if decide (c.chan < 64) && tapClosed s g then s else result (qdO q Reg.QD_URGRES) code s
  | some 4 => retestTap g code c s
  | _ => s

def execUrgentResult (q : Nat) (raws : List Nat) (s : State) :=
  match dueConv s q true, quadConv s q with
  | some c, some n =>
    let code := adcCode s n c.avg (rawSum raws)
    act s (raws.length == c.avg && resultTurn s q c)
      (answerUrgent q code c (deliver q code c (bump (qdO q Reg.QD_URGDONE) (takeConv q c (rawSum raws) s))))
  | _, _ => act s false s

/-- The latest reference entries show in `ADC_REFRAW`, and calibrate where `auto` (R303, R324). -/
def autoCal (q n : Nat) (auto : Bool) (s : State) : State :=
  match (quad s q).refLo, (quad s q).refHi with
  | some (sl, nl), some (sh, nh) =>
    let rl8 := sl * (8 / nl)
    let rh8 := sh * (8 / nh)
    let p := calOf s q rl8 rh8
    let s1 := setLive (adcO n Reg.ADC_REFRAW) (BitVec.ofNat 32 (rl8 % 0x10000 + 0x10000 * (rh8 % 0x10000))) s
    if !auto then s1
    else if calInRange p then
      bump (adcO n Reg.ADC_CALS) (modAdc n (fun a => { a with
        gain := ((a.gain : Int) + roundDiv (p.1 - a.gain) 8).toNat, offs := a.offs + roundDiv (p.2 - a.offs) 8 }) s1)
    else raiseOn Src.ADC_CAL_RANGE n (adcPage n) 1 s1
  | _, _ => s

/-- The end of a pass: the counts, and the references where the pass converted both. -/
def passEnd (q n : Nat) (p : Nat × Bool) (s : State) : State :=
  let auto := (seqCtl s q (quad s q)).bit 9
  let s1 := setLive (qdO q Reg.QD_PASSTIME) (BitVec.ofNat 32 (p.1 % 0x10000)) (bump (qdO q Reg.QD_PASSES) s)
  when p.2 (autoCal q n auto) (modQuad q (fun x => { x with passEnd := none }) s1)

/-- The entry in progress ends here, and no pair of its converter began before its end (R303). -/
def endEntry (q n : Nat) (s : State) : State :=
  let t := match (quad s q).cur with
    | some (_, _, t) => t
    | none => 0
  modAdc n (fun a => { a with calAt := Nat.max a.calAt t }) (modQuad q (fun x => { x with cur := none }) s)

def execSequencePassEnd (q : Nat) (s : State) :=
  match passOver s q (quad s q), quadConv s q with
  | some p, some n => act s true (when (lastOver s q (quad s q)) (endEntry q n) (passEnd q n p s))
  | _, _ => act s false s

/-! ### The cross-check's arbitration (R316) -/

/-- `QD_XCHK`, and the unresolved source. -/
def unresolved (d q : Nat) (s : State) : State :=
  raiseOn Src.ADC_XCHK_UNRESOLVED d (qdPage q) 2 (bumpF (qdO q Reg.QD_XCHK) 31 16 s)

/-- After an arbitration the run of differences starts again from 0. -/
def clearRun (d q : Nat) (s : State) : State := modQuad q (fun x => { x with xrun := x.xrun.del d }) s

/-- The lowest-numbered spare converts from its next edge; with none free the arbitration is over at once. -/
def execAdcXchkArbitration (d q : Nat) (s : State) :=
  let x := quad s q
  let w := cfg s (qdO q Reg.QD_RAILCHK)
  let s1 := bumpF (qdO q Reg.QD_XCHK) 15 0 s
  act s (decide (d < 4) && decide (q < quads s) && (xchk s d).isNone && decide (w.field 11 8 ≤ Store.get x.xrun 0 d) && w.bit 12)
    (match x.xlast.find d, (upto 12).find? (idleSpare s) with
      | some (m, t), some n => s1.setXchks (s1.xchks.put d ⟨q, n, nextEdge s (now s) (adcPhase s n), m, t⟩)
      | _, _ => unresolved d q (clearRun d q s1))

def execAdcXchkResult (d : Nat) (raws : List Nat) (s : State) :=
  match xchk s d with
  | none => act s false s
  | some x =>
    let v := Frac.ofInt (adcCode s x.conv 8 (rawSum raws))
    let lim := Frac.ofInt (cfgF s (qdO x.quad Reg.QD_RAILCHK) 7 0)
    let near := fun (a : Frac) => (if a.le v then v.sub a else a.sub v).le lim
    let okR := near x.rail
    let okT := near (Frac.ofInt x.tele)
    let blame := fun (r : Option Nat) (s : State) => match r with
      | some n => raiseOn Src.ADC_XCHK_FAIL n (adcPage n) 3 s
      | none => unresolved d x.quad s
    let free := (adc s x.conv).state == AdcState.spare && (adc s x.conv).taking == none
    let s1 := clearRun d x.quad (modAdc x.conv (fun a => { a with calAt := x.from0 + 115 }) (s.setXchks (s.xchks.del d)))
    act s (raws.length == 8 && decide (x.from0 + 155 ≤ now s))
      (if !free then unresolved d x.quad s1
       else if okR && !okT then blame (quadConv s x.quad) s1
       else if okT && !okR then blame (railConv s d) s1
       else unresolved d x.quad s1)

/-! ### Status words -/

def adcStat (s : State) (n : Nat) : Word :=
  let a := adc s n
  let code := match a.state with
    | .cal => 0
    | .spare => 1
    | .rail => 2
    | .telem => 3
    | .failed => 4
    | .retest => 5
  BitVec.ofNat 32 (code + 256 * a.role + 0x10000 * a.cause)

def adcCal (s : State) (n : Nat) : Word := BitVec.ofNat 32 ((adc s n).gain + 0x10000 * unsigned 10 (adc s n).offs)

def qdStat (s : State) (q : Nat) : Word :=
  let x := quad s q
  let e := match x.cur with
    | some (e, _, _) => e
    | none => x.next
  let u := match x.urgent with
    | some (t, _) => decide (now s < t)
    | none => x.redo.isSome
  let conv := match quadConv s q with
    | some n => n
    | none => if (adc s (4 + q)).state = .cal then 4 + q else 15
  BitVec.ofNat 32 (conv + 256 * (e % 256) + 0x10000 * b2n u + 0x20000 * x.queue.length)

end Sys2Proof.Machine
end

