-- ==== Sys2Proof/Machine/Faults.lean ====
section
/-! DEFINITION. The fault manager (R474 to R500): what each registration does by its severity, the first source, the
heartbeat, alert records, in-band interrupts, quiet periods and recoveries. -/

namespace Sys2Proof.Machine

def modFlt (f : Faults → Faults) (s : State) : State := s.setFlt (f s.flt)

/-! ### Sources (R475 to R477) -/

/-- The domain that a raise names (R477). A detail beyond its class's range names one by its low bits (log entry 8). -/
def namedDom (src det : Nat) : Option Nat :=
  if src = Src.ENG_OVERRUN || src = Src.ENG_OVERRUN_RPT then
    if det / 4096 = clsSector then some (domOf (det % 4096))
    else if det / 4096 = clsComp then some (det % 4) else none
  else if 16 ≤ src && src ≤ 21 then some (domOf (det / 64))
  else if (22 ≤ src && src ≤ 30) || src = Src.SEC_TRIM_LIMIT then some (domOf (det / 4))
  else if src = Src.TALLY_DISAGREE || (34 ≤ src && src ≤ 39) then some (domOf det)
  else if 55 ≤ src && src ≤ 57 then some (chDom det)
  else if (44 ≤ src && src ≤ 46) || (48 ≤ src && src ≤ 54) || (58 ≤ src && src ≤ 60) ||
      src = Src.ADC_XCHK_UNRESOLVED || src = Src.FLT_RECOVERY_HELD then some (det % 4)
  else none

/-- The containment that the fault manager itself sets going at the latch: an engine's hand-over (R163, R164), a
converter's replacement (R315 to R318). Cells, channels and diodes are contained where they are detected. -/
def contain (r : Reg) (s : State) : State :=
  let s1 :=
    if r.src = Src.SEC_ENG_FAULT then (if r.det < sectors s then checkDark r.det (engineLost r.det r.at0 s) else s)
    else if r.src = Src.ENG_OVERRUN_RPT then
      (if r.det / 4096 = clsSector && decide (r.det % 4096 < sectors s) then
        checkDark (r.det % 4096) (engineLost (r.det % 4096) r.at0 s) else s)
    else if 64 ≤ r.src && r.src ≤ 66 then (if r.det < 12 then loseAdc r.det (r.src - 63) s else s)
    else s
  match sourceOwner r.src r.det with
  | some o => ownerFault o r.at0 s1
  | none => s1

/-! ### Alert records (R485, R486) -/

/-- A raise of `FLT_ALERT_WRITE`, with its bit of the page. -/
def alertLost (seq : Nat) (s : State) : State := raiseOn Src.FLT_ALERT_WRITE seq 0x02 1 s

/-- The next waiting record is written, where none is in flight. -/
def sendAlert (s : State) : State :=
  match s.flt.inflight, s.flt.alerts with
  | none, a :: rest =>
    let ring := cfgF s (hostO Reg.HOST_ALERTCTL) 11 8
    let words := a.words.zipIdx.map (fun (w, i) => if i = 3 then w.put 21 21 (b2n s.flt.dropped) else w)
    let w := initWrite (cfgB s (hostO Reg.HOST_INITCFG) 0) (cfg s (hostO Reg.HOST_ALERTADDR_HI))
      (cfg s (hostO Reg.HOST_ALERTADDR_LO)) (16 * (a.seq % 2 ^ ring)) words s
    initSend false w (modFlt (fun f => { f with inflight := some w, alerts := rest, dropped := false }) s)
  | _, _ => s

/-- A record is queued; one that finds 16 waiting is dropped and counted, and `FLT_ALERT_WRITE` is raised (R476). -/
def queueAlert (a : AlertRec) (s : State) : State :=
  if cfgB s (hostO Reg.HOST_ALERTCTL) 0 && ((cfg s (hostO Reg.HOST_ALERTADDR_HI)) != 0 || (cfg s (hostO Reg.HOST_ALERTADDR_LO)) != 0) then
    if s.flt.alerts.length < 16 then sendAlert (modFlt (fun f => { f with alerts := f.alerts ++ [a] }) s)
    else alertLost a.seq (bumpF (hostO Reg.HOST_ALERTDROP) 15 0 (modFlt (fun f => { f with dropped := true }) s))
  else s

/-- The response to the record in flight: an error is counted and not retried. -/
def execAlertWriteResponse (ok : Bool) (s : State) :=
  match s.flt.inflight with
  | none => act s false s
  | some w =>
    let seq := (w.words.getD 3 0).field 15 0
    let s1 := modFlt (fun f => { f with inflight := none }) s
    act s true (sendAlert (if ok then s1 else alertLost seq (bumpF (hostO Reg.HOST_ALERTDROP) 31 16 s1)))

/-! ### In-band interrupts (R487) -/

/-- An interrupt is requested, or waits as the latest alert behind the one outstanding. -/
def requestIbi (src sev seq : Nat) (s : State) : State :=
  let bytes : List Byte := [BitVec.ofNat 8 src, BitVec.ofNat 8 sev, BitVec.ofNat 8 (seq % 256), BitVec.ofNat 8 (seq / 256)]
  if cfgB s (hostO Reg.HOST_ALERTCTL) 1 && s.ports.target.enint then
    match s.flt.ibi with
    | none => modFlt (fun f => { f with ibi := some bytes, lastSrc := src }) s
    | some _ => setBit (hostO Reg.HOST_IBISTAT) 1 (modFlt (fun f => { f with ibiNext := some bytes }) s)
  else s

def execIbiComplete (s : State) :=
  act s s.flt.ibi.isSome (modFlt (fun f => { f with
    ibi := f.ibiNext, ibiNext := none
    lastSrc := match f.ibiNext with
      | some (b :: _) => b.toNat
      | _ => f.lastSrc }) s)

/-- `HOST_IBISTAT` (R500). -/
def ibiStat (s : State) : Word :=
  Word.put (Word.put (live s (hostO Reg.HOST_IBISTAT)) 0 0 (b2n s.flt.ibi.isSome)) 14 8 s.flt.lastSrc

/-- An alert takes the next sequence number; `FLT_ALERT_WRITE` makes no record of its own (R486). -/
def alert (r : Reg) (sev : Nat) (first : Bool) (s : State) : State :=
  let seq := ((live s (hostO Reg.HOST_ALERTSEQ)).field 15 0 + 1) % 65536
  let s1 := setLive (hostO Reg.HOST_ALERTSEQ) (BitVec.ofNat 32 seq) s
  let inst := cfgF s (bridgeO Reg.BRIDGE_CTL) 3 2
  let words : List Word := [BitVec.ofNat 32 (r.src + 0x100 * sev + 0x10000 * r.det), r.stamp.setWidth 32,
    (r.stamp >>> 32).setWidth 32, BitVec.ofNat 32 (seq + 0x10000 * inst + 0x100000 * b2n first + 0x10000000)]
  requestIbi r.src sev seq (when (r.src != Src.FLT_ALERT_WRITE) (queueAlert { words := words, seq := seq }) s1)

/-! ### Recording (R481, R482, R484) -/

/-- Whether the first-source latch holds. -/
def firstValid (s : State) : Bool := (live s (fltO Reg.FLT_FIRST)).bit 15

def record (r : Reg) (sev : Nat) (s : State) : State :=
  let pend := fltO (Reg.FLT_PEND (r.src / 32))
  let s1 := bump (fltO Reg.FLT_RAISED) (setBit pend (r.src % 32) s)
  let old := ((s.flt.present.find? (fun p => p.1 == r.src)).map (·.2)).getD 0
  let s2 := when (decide (sev ≤ 3)) (modFlt (fun f => { f with
    present := (r.src, Nat.max sev old) :: f.present.filter (fun p => p.1 != r.src) })) s1
  if firstValid s then bumpF (fltO Reg.FLT_OVERFLOW) 31 16 (setBit (fltO Reg.FLT_OVERFLOW) 0 s2)
  else setLive (fltO Reg.FLT_FIRST) (BitVec.ofNat 32 (r.src + 0x100 * sev + 0x8000 + 0x10000 * r.det))
    (setLive (fltO Reg.FLT_FIRST_TLO) (r.stamp.setWidth 32) (setLive (fltO Reg.FLT_FIRST_THI) ((r.stamp >>> 32).setWidth 32) s2))

/-- A read of `FLT_PENDw` ends the presence of the sources it shows (R484). -/
def pendRead (w : Nat) (s : State) : State :=
  modFlt (fun f => { f with present := f.present.filter (fun p => p.1 / 32 != w) }) s

/-! ### Domain-off and chip-off (R479, R488 to R491) -/

/-- A registration of severity 3 or above restarts the quiet periods it bears on (R489, R491). -/
def restartQuiet (r : Reg) (s : State) : State :=
  let doms := match namedDom r.src r.det with
    | some d => [d]
    | none => upto 4
  forEach doms (fun d s => modRecov d (fun x => { x with from0 := Nat.max x.from0 r.at0 }) s)
    (modFlt (fun f => { f with chipFrom := Nat.max f.chipFrom r.at0 }) s)

/-- The domain's last `MAXN` recoveries all began within `WINDOW` before `at0` (R490). -/
def tooMany (s : State) (d at0 : Nat) : Bool :=
  let maxn := cfgF s (fltO Reg.FLT_RCV) 15 12
  let last := ((recov s d).history.reverse).take maxn
  last.length == maxn && last.all (fun t => decide (at0 ≤ t + 1250000000 * cfgF s (fltO Reg.FLT_RCV) 23 16))

/-- The domain-off action on one domain; a domain in OFF is left there (R480). -/
def domainOff (r : Reg) (sev d : Nat) (s : State) : State :=
  if (stage s d).state = .off then s
  else
    let s1 := modRecov d (fun x => { x with
      src := r.src, sev := if x.state = .normal then sev else Nat.max sev x.sev, ref := x.ref || r.src == Src.TB_HOLDOVER_EXPIRED, from0 := Nat.max x.from0 r.at0 }) (tripDomain d s)
    if (recov s d).state = .held then s1
    else if tooMany s d r.at0 then
      raiseOn Src.FLT_RECOVERY_HELD d 0x02 2 (modRecov d (fun x => { x with state := .held }) s1)
    else modRecov d (fun x => { x with state := .quiet }) s1

/-- Severities 4 and 5. -/
def takeOff (r : Reg) (sev : Nat) (s : State) : State :=
  let doms := match namedDom r.src r.det with
    | some d => if sev = 5 then upto 4 else [d]
    | none => upto 4
  let s1 := forEach doms (domainOff r sev) s
  if sev = 5 then modFlt (fun f => { f with
    chipOff := true, chipFrom := Nat.max f.chipFrom r.at0
    chipRef := (f.chipOff && f.chipRef) || r.src == Src.TB_HOLDOVER_EXPIRED }) s1
  else s1

/-- One registration acts by its severity (R479). -/
def actOn (r : Reg) (s : State) : State :=
  let set := sevOf s r.src
  let sev := acting s r.src r.det
  let s1 := when (decide (3 ≤ set)) (restartQuiet r) s
  let s2 := when (decide (3 ≤ sev)) (contain r) s1
  let first := !firstValid s2
  let s3 := when (decide (1 ≤ sev)) (record r sev) s2
  let s4 := when (decide (2 ≤ sev)) (alert r sev first) s3
  when (decide (4 ≤ sev)) (takeOff r sev) s4

/-- The order of registrations: stamp, source, detail (R481). -/
def regBefore (a b : Reg) : Bool :=
  decide (a.at0 < b.at0) || (a.at0 == b.at0 && (decide (a.src < b.src) || (a.src == b.src && decide (a.det ≤ b.det))))

def insertReg (x : Reg) : List Reg → List Reg
  | [] => [x]
  | y :: l => if regBefore x y then x :: y :: l else y :: insertReg x l

def sortRegs (l : List Reg) : List Reg := l.foldr insertReg []

/-- The latch of what is due: completed registrations act in order, one discard for all; where the fault manager has
not completed, they wait for the next registration start, which is this tick's (R497). -/
def faultLatch (s : State) : State :=
  let due := s.flt.regq.filter (fun r => decide (r.due ≤ now s))
  let ready := sortRegs (due.filter (·.done))
  let s1 := modFlt (fun f => { f with regq := (f.regq.filter (fun r => !(decide (r.due ≤ now s) && r.done))).map (fun r =>
    if r.due ≤ now s then { r with due := now s + 8 } else r) }) (engStart clsFault 0 s)
  let s2 := when (due.any (fun r => !r.done)) (overrun clsFault 0) s1
  let s3 := ready.foldl (fun s r => actOn r s) s2
  when (ready.any (fun r => decide (4 ≤ acting s r.src r.det))) discard s3

def execFaultLatch (s : State) :=
  act s (s.flt.regq.any (fun r => decide (r.due ≤ now s))) (faultLatch s)

/-! ### Quiet periods and recovery (R488 to R492) -/

/-- `FLT_RCV.QUIET` in ticks. -/
def quietTicks (s : State) : Nat := msTicks (cfgF s (fltO Reg.FLT_RCV) 9 0)

/-- A registration not yet latched keeps a period from ending as its stamp has it (R45). -/
def pendingFrom (s : State) (d : Option Nat) : Nat :=
  maxNat ((s.flt.regq.filter (fun r => decide (3 ≤ sevOf s r.src) && (d.isNone || (namedDom r.src r.det).isNone ||
    namedDom r.src r.det == d))).map (·.at0))

/-- Whether a quiet period has reached its end: R489 with R337 and R38. -/
def periodOver (s : State) (d : Option Nat) (from0 : Nat) (ref : Bool) : Bool :=
  let from1 := Nat.max (Nat.max from0 (pendingFrom s d)) s.therm.shutAt
  let from2 := if ref then Nat.max from1 s.tb.goodAt else from1
  !thmShutdown s && !(ref && s.tb.hold) && decide (from2 + quietTicks s ≤ now s)

def domOver (s : State) (d : Nat) : Bool := (recov s d).state == .quiet && periodOver s (some d) (recov s d).from0 (recov s d).ref

/-- No period ends while the block awaits the host, or from `SHUTDOWN` until `RESTART`. -/
def periodsEnd (s : State) : Bool := s.boot.state != .await && !shutting s

/-- Recovery begins: NORMAL, counted, START (R489). -/
def beginRecovery (d : Nat) (s : State) : State :=
  startDomain d (modRecov d (fun x => { x with
    state := .normal, ref := false, history := x.history ++ [now s], count := Nat.min (x.count + 1) 0xFFFF }) s)

/-- The slots' domains in order, each once, then the others (R540). -/
def slotOrder (s : State) : List Nat :=
  let w := cfg s (genO Reg.GEN_STARTSEQ)
  let named := (upto 4).map (fun k => w.field (2 * k + 1) (2 * k))
  (named ++ upto 4).foldl (fun l d => if l.contains d then l else l ++ [d]) []

/-- A domain whose period is over begins recovery, unless a slot of the start sequence is still to bring it (R540). -/
def mayRecover (s : State) (d : Nat) : Bool :=
  periodsEnd s && domOver s d && !(s.boot.state == .power && s.boot.slots.contains d)

def quietDue (s : State) (d : Nat) : Bool := decide (d < 4) && mayRecover s d && !s.flt.chipOff

/-- A registration stamped in the tick of the period's end restarts it (R45, R489). -/
def execQuietPeriodEnd (d : Nat) (s : State) := act s (quietDue s d) (expire (.quiet d) s)

def quietOver (d : Nat) (s : State) : State := when (quietDue s d) (beginRecovery d) s

/-- `SHDN_N` goes high, and the domains whose period is over begin recovery (R491). -/
def endChipOff (s : State) : State :=
  forEach (slotOrder s) (fun d s => when (mayRecover s d) (beginRecovery d) s)
    (modFlt (fun f => { f with chipOff := false, chipRef := false }) s)

def chipDue (s : State) : Bool := s.flt.chipOff && periodsEnd s && periodOver s none s.flt.chipFrom s.flt.chipRef

def execChipQuietEnd (s : State) := act s (chipDue s) (expire .chipQuiet s)

def chipOver (s : State) : State := when (chipDue s) endChipOff s

/-! ### The heartbeat (R483, R484) -/

/-- A present source has severity at or above `ALIVE_LEVEL`. -/
def aliveHeld (s : State) : Bool :=
  let lvl := cfgF s (fltO Reg.FLT_CTL) 2 0
  s.flt.chipOff || (upto 4).any (fun d => (recov s d).state != .normal && decide (lvl ≤ (recov s d).sev)) ||
    s.flt.present.any (fun p => decide (lvl ≤ p.2))

/-- `FLT_STAT.ALIVE_PAT`. -/
def alivePat (s : State) : Nat := if s.boot.state = .await then 2 else if aliveHeld s then 1 else 0

def execAliveToggle (s : State) :=
  act s (atTick s 640000 0)
    (when (alivePat s == 0 || (alivePat s == 2 && s.tb.tick.toNat % 80000000 == 0))
      (modFlt (fun f => { f with alive := !f.alive })) s)

/-! ### Commands and status (R492, R498, R499) -/

/-- `FLT_CMD`: `REARM`, `CLEAR`, `CLEAR_CHIP`. -/
def fltCommand (w : Word) (s : State) : State :=
  let s1 := when (w.bit 0) (fun s => setField (fltO Reg.FLT_FIRST) 15 15 0 (setLive (fltO Reg.FLT_FIRST_TLO) 0
    (setLive (fltO Reg.FLT_FIRST_THI) 0 (setLive (fltO Reg.FLT_OVERFLOW) 0 s)))) s
  let s2 := forEach (upto 4) (fun d s => when (w.bit (4 + d) && (recov s d).state != .normal) (hostClear d) s) s1
  when (w.bit 8 && s2.flt.chipOff) (fun s => if thmShutdown s then refuse 0x02 s else endChipOff s) s2

/-- `FLT_INJECT`: a registration with the fault manager's actions only; a reserved ID is never raised. -/
def fltInject (w : Word) (s : State) : State :=
  when (w.bit 8 && faultId (w.field 6 0)) (raise (w.field 6 0) (w.field 31 16)) s

def execFltInject (a : Access) (src : BitVec 7) (detail : BitVec 16) (s : State) :=
  act s (reaches s a) (secureCmd a (fltInject (BitVec.ofNat 32 (src.toNat + 0x100 + 0x10000 * detail.toNat))) s)
def execFltCmdRearm (a : Access) (s : State) := act s (reaches s a) (secureCmd a (fltCommand 1) s)
def execFltCmdClear (a : Access) (mask : BitVec 4) (s : State) :=
  act s (reaches s a) (secureCmd a (fltCommand (BitVec.ofNat 32 (0x10 * mask.toNat))) s)
def execFltCmdClearChip (a : Access) (s : State) := act s (reaches s a) (secureCmd a (fltCommand 0x100) s)

/-- `FLT_STAT`. -/
def fltStat (s : State) : Word :=
  let doff := packBits ((upto 4).map (fun d => (recov s d).state != .normal))
  let held := packBits ((upto 4).map (fun d => (recov s d).state == .held))
  BitVec.ofNat 32 (alivePat s + 4 * b2n s.flt.alive + 8 * b2n s.flt.chipOff + 0x10 * doff + 0x100 * held)

/-- `FLT_DOMd`. -/
def fltDom (s : State) (d : Nat) : Word :=
  let x := recov s d
  let st := match x.state with
    | .normal => 0
    | .quiet => 1
    | .held => 2
  let recent := (x.history.filter (fun t => decide (now s ≤ t + 1250000000 * cfgF s (fltO Reg.FLT_RCV) 23 16))).length
  BitVec.ofNat 32 (st + 0x10 * Nat.min recent 15 + 0x100 * x.src + 0x10000 * x.count)

end Sys2Proof.Machine
end

