-- ==== Sys2Proof/Machine/Apply.lean ====
section
/-! DEFINITION. How writes take effect (R66 to R87): parity, pending writes and the running CRC, strobe and boundary
apply, live coefficients, the background walker. -/

namespace Sys2Proof.Machine

/-! ### Parity (R83, R86) -/

def pageOf (off : Nat) : Nat := off / 0x1000

/-- An injection is armed for the page. -/
def injArmed (s : State) (page : Nat) : Bool :=
  (live s (genO Reg.GEN_PARINJ)).bit 8 && (live s (genO Reg.GEN_PARINJ)).field 7 0 == page

/-- A list of offsets with `off` in it, or not. -/
def mark (bad : Bool) (off : Nat) (l : List Nat) : List Nat :=
  if bad then insertNat off (l.filter (· != off)) else l.filter (· != off)

/-- A written copy stores its parity, inverted by an armed injection, which is then made. -/
def writeShadow (off : Nat) (w : Word) (s : State) : State :=
  let inj := injArmed s (pageOf off)
  when inj (setField (genO Reg.GEN_PARINJ) 8 8 0)
    (modRegs (fun r => { r with badShadow := mark inj off r.badShadow }) (setShadow off w s))

/-- The first mismatch of a page since `PAGE_PARITY` was read; later ones set `MORE`. -/
def parityNote (off : Nat) (act shd repaired : Bool) (s : State) : State :=
  let p := pageOf off
  let s1 := setBit (pg p PAGE_STAT) 1 s
  if live s (pg p PAGE_PARITY) = 0 then
    setLive (pg p PAGE_PARITY) (BitVec.ofNat 32 (off % 0x400 + 0x10000 * b2n act + 0x20000 * b2n shd + 0x40000 * b2n repaired)) s1
  else setBit (pg p PAGE_PARITY) 19 s1

/-! ### Pending writes (R68, R78) -/

/-- One entry of the running CRC: the offset, then the value. -/
def crcEntry (c : Word) (off : Nat) (w : Word) : Word :=
  crcBytes (crcBytes c (wordBytes (BitVec.ofNat 32 off))) (wordBytes w)

/-- A set frozen in this very tick, which a write stamped in the tick still joins (R72). -/
def frozenNow (s : State) : Option Frozen :=
  match s.regs.frozen, s.regs.strobe with
  | some f, some (t, _) => if t = now s then some f else none
  | _, _ => none

/-- A frozen set with one more write: the word's latest value, its parity, and the CRC over it. -/
def Frozen.join (f : Frozen) (off : Nat) (w : Word) (bad : Bool) : Frozen :=
  { f with
    words := if f.words.any (fun x => x.off == off) then f.words.map (fun x => if x.off = off then ⟨off, w, bad⟩ else x)
      else f.words ++ [⟨off, w, bad⟩]
    crc := crcEntry f.crc off w }

/-- A Shadow write becomes pending and enters the running CRC; several writes to one register count once each (R68). One
stamped in the tick of a strobe that was taken first belongs to the set of that strobe (R72). -/
def pendWrite (off : Nat) (w : Word) (s0 : State) : State :=
  let s := writeShadow off w s0
  match frozenNow s with
  | some f => modRegs (fun r => { r with frozen := some (f.join off w (r.badShadow.contains off)) }) s
  | none => modRegs (fun r => { r with
      pend := r.pend ++ [off]
      crc := crcEntry r.crc off w }) s

/-! ### An accepted apply (R76) and what it sets going -/

/-- The words of a page group whose value an apply changed. -/
def changed (before : State) (words : List (Nat × Word)) (p : Nat → Bool) : Bool :=
  words.any (fun (off, w) => p off && activeOf before off != w)

/-- The offset is one of a point's entries that is in effect (R350). -/
def inPoint (s : State) (off : Nat) : Bool :=
  off == pwrO (Reg.PWR_OPA (opIndex s)) || off == pwrO (Reg.PWR_OPB (opIndex s))

/-- A sequence word of quadrant `q` (R309). -/
def inSequence (q off : Nat) : Bool :=
  pageOf off == 0x10 + q && (let o := off % 0x1000; o == 0x040 || (0x044 ≤ o && o ≤ 0x050) || (0x060 ≤ o && o ≤ 0x0FC) || (0x10C ≤ o && o ≤ 0x1C0))

/-- A quadrant's `QD_SEQCTL` and profiles. -/
def seqWords (s : State) (q : Nat) : Word × List Word :=
  (cfg s (qdO q Reg.QD_SEQCTL), (upto 4).map (fun p => cfg s (qdO q (Reg.QD_PROF p))))

/-- The sequence leaves AWAIT or CHECK for SENSE (R537, R539); every cluster's K takes `CLU_KINITc` (R119). -/
def enterSense (s : State) : State :=
  let s1 := s.setBoot { s.boot with
    state := .sense, passes := (upto (quads s)).map (fun q => (live s (qdO q Reg.QD_PASSES)).toNat) }
  forEach (upto (4 * sectors s)) (fun g s =>
    modClu g (fun c => { c with k := cfgF s (cluO (g / 4) (Reg.CLU_KINIT (g % 4))) 15 0 }) s) s1

/-- What an apply sets going at its tick in the mechanisms that do not wait for a start of their own: the tables of
R309, the seed of R460, closed windows (R226), Blanket (R385), shares (R358), the point in effect (R350), bank
groups (R419), the end of AWAIT (R537), and the end of POWER, where no domain that is still enabled is missing (R532). A
draw under way at the load of the seed keeps its outcome, and the LFSR then stands at the seed (DESIGN CHOICE, log entry
48: R460 does not say whether that draw steps it). -/
def applyHooks (before : State) (words : List (Nat × Word)) (s : State) : State :=
  let offs := words.map (·.1)
  let s1 := forEach (upto (quads s)) (fun q s =>
    when (changed before words (inSequence q)) (modQuad q (fun x => { x with
      newTab := true, old := if x.old.isSome then x.old else some (seqWords before q) })) s) s
  let s2 := when (offs.contains (arbO Reg.ARB_SEED)) (fun s => forEach (upto (quads s)) (fun q s =>
    let x := rotl (cfg s (arbO Reg.ARB_SEED)) (8 * q)
    modRing q (fun r => { r with lfsr := x, draw := r.draw.map (fun d => { d with lfsr := x }) }) s) s) s1
  let en := trailO Reg.TRAIL_EN
  let s3 := forEach (upto (quads s2)) (fun q s =>
    when (cfgB before en q && !cfgB s en q) (flushWindow false q) s) s2
  let s4 := checkShares (blanketOff s3)
  let s5 := when (changed before words (inPoint before)) (fun s => forEach (upto (sectors s)) opTakesEffect s) s4
  let s6 := when (offs.any (fun o => pageOf o == 0x09)) syncGroups s5
  bootUp (when (s6.boot.state == .await) enterSense s6)

/-- Every word takes its new value in its active copy, in one tick; the epoch, the pages and the status follow. -/
def acceptApply (words : List (Nat × Word)) (s : State) : State :=
  if words.isEmpty then s
  else
    let s1 := words.foldl (fun s (off, w) => modRegs (fun r => { r with badActive := mark false off r.badActive }) (setActive off w s)) s
    let epoch := live s1 (genO Reg.GEN_EPOCH) + 1
    let pages := words.foldl (fun (l : List Nat) e => if l.contains (pageOf e.1) then l else pageOf e.1 :: l) []
    let s2 := pages.foldl (fun s p => setLive (pg p PAGE_EPOCH) epoch (setBit (pg p PAGE_STAT) 0 s)) (setLive (genO Reg.GEN_EPOCH) epoch s1)
    let s3 := setLive (genO Reg.GEN_APPLYTICK_LO) (tickLo s2) (setBit (genO Reg.GEN_APPLYSTAT) 0 s2)
    applyHooks s words (s3.setBoot { s3.boot with safe := false })

/-- A parity refusal: the words' pages are noted, the first failing page is shown and raised (R85). Of several failing
pages the first is that of the word written first in a frozen set, and the lowest at a boundary (DESIGN CHOICE, log entry
19: R85 gives no order). -/
def parityRefused (bad : List Nat) (s : State) : State :=
  match bad with
  | [] => s
  | off :: _ =>
    let s1 := bad.foldl (fun s o => parityNote o false true false s) s
    raise Src.CFG_PARITY (pageOf off) (setField (genO Reg.GEN_APPLYSTAT) 15 8 (pageOf off) (setBit (genO Reg.GEN_APPLYSTAT) 2 s1))

/-! ### Strobe apply (R72 to R75, R80) -/

/-- Boundary apply is in force: a standalone Fjollany-16 outside AWAIT (R70, R537). -/
def boundaryMode (s : State) : Bool :=
  s.params.build == .f16 && s.bridge.role == 0 && s.boot.state != .await

/-- The pending set is frozen in this tick; its apply tick is `due`. -/
def freeze (due : Nat) (s : State) : State :=
  let words := s.regs.pend.eraseDups.map (fun off => (⟨off, shadowOf s off, s.regs.badShadow.contains off⟩ : FrozenWord))
  modRegs (fun r => { r with
    frozen := some { words := words, crc := r.crc, due := due }, pend := [], crc := 0xFFFFFFFF, strobe := some (now s, due) }) s


/-- A strobe from a `GEN_UPDATE` write or from an edge. -/
def strobe (write : Bool) (s : State) : State :=
  if bridged s then bumpF (bridgeO Reg.BRIDGE_ERR) 7 0 s
  else
    let s1 := when write (modRegs (fun r => { r with drove := some (now s) })) s
    if boundaryMode s then setBit (genO Reg.GEN_APPLYSTAT) 5 s1
    else
      let lead := cfgF s (bridgeO Reg.BRIDGE_STRB) 7 0
      let take := fun (s : State) => freeze (now s + lead)
        (when (s.bridge.role == 1) (fun s => s.setBridge { s.bridge with sent := some (s.tb.tick + BitVec.ofNat 64 lead) }) s)
      match s.regs.strobe with
      | some (t, due) =>
        if t = now s then s1
        else if now s ≤ due then setBit (genO Reg.GEN_APPLYSTAT) 4 s
        else take s1
      | none => take s1

def execGenUpdateGo (a : Access) (s : State) := act s (reaches s a) (hostCmd a (strobe true) s)

/-- An edge on `UPD_STROBE`; one that the block's own pulse makes is none (R73, R554). -/
def execUpdStrobeEdge (s : State) :=
  act s (match s.regs.drove with
    | some t => decide (t + 18 < now s)
    | none => true) (strobe false s)

/-- The word is in a set frozen for its apply tick, a host's or the start set. -/
def inFrozen (s : State) (off : Nat) : Bool :=
  (s.regs.frozen.toList ++ s.regs.startSet.toList).any (fun f => f.words.any (fun w => w.off == off))

/-- A refused set: every shadow of it not written since is reloaded (R80); one that the start set holds waits for it. -/
def refuseSet (f : Frozen) (s : State) : State :=
  f.words.foldl (fun s w => if s.regs.pend.contains w.off || inFrozen s w.off then s else reloadWord w.off s) s

/-- The apply tick of a frozen set: seal and parity, then all of it or nothing. The set is this instance's own and so is its
seal: what other instances of a group refuse does not bear on it (R77). -/
def applyFrozen (f : Frozen) (s0 : State) : State :=
  let s := modRegs (fun r => { r with frozen := none }) s0
  if f.words.isEmpty then s
  else
    let sealOk := f.crc ^^^ 0xFFFFFFFF == s.regs.sealWord
    let bad := (f.words.filter (·.bad)).map (·.off)
    if sealOk && bad.isEmpty then acceptApply (f.words.map (fun w => (w.off, w.val))) s
    else
      let s1 := when (!sealOk) (fun s => raise Src.CFG_SEAL_BAD (Config.sealPage (now s)).toNat (setBit (genO Reg.GEN_APPLYSTAT) 1 s)) s
      refuseSet f (parityRefused bad s1)

/-- The start set, accepted in CHECK, applies in the tick after (R535): no strobe replaces it and no seal is judged again.
CHECK ends with it. -/
def applyStart (f : Frozen) (s0 : State) : State :=
  let s := acceptApply (f.words.map (fun w => (w.off, w.val))) (modRegs (fun r => { r with startSet := none }) s0)
  when (s.boot.state == .check) enterSense s

/-- The tick of a set has come. -/
def setDue (s : State) (f : Option Frozen) : Bool :=
  match f with
  | some x => decide (x.due ≤ now s)
  | none => false

/-- The sets whose tick has come, the start set first. -/
def applyDue (s : State) : State :=
  let s1 := match s.regs.startSet with
    | some f => when (decide (f.due ≤ now s)) (applyStart f) s
    | none => s
  match s1.regs.frozen with
  | some f => when (decide (f.due ≤ now s1)) (applyFrozen f) s1
  | none => s1

def execStrobeApplyTick (s : State) := act s (setDue s s.regs.startSet || setDue s s.regs.frozen) (applyDue s)

/-! ### Boundary apply (R70, R71) -/

/-- Ticks of a page's natural boundary. -/
def boundaryTicks (s : State) (page : Nat) : Nat :=
  if page = 0x04 then capP else if page = 0x05 then thermP
  else if 0x20 ≤ page && page < 0x24 then pswOf (stage s (page - 0x20)).fsw
  else if 0x40 ≤ page then controlP else estP

/-- Every failing page is refused alone and raised (R70, R85), in ascending order; the lowest is the first one shown. -/
def pagesRefused (bad : List Nat) (s : State) : State :=
  match bad with
  | [] => s
  | off :: rest =>
    let others := (rest.map pageOf).eraseDups.filter (· != pageOf off)
    others.foldl (fun s p => raise Src.CFG_PARITY p s) (parityRefused bad s)

/-- The pending writes of every page at its boundary apply together; a page of bad parity is refused alone. -/
def boundaryApply (s : State) : State :=
  let due := s.regs.pend.eraseDups.filter (fun off => atTick s (boundaryTicks s (pageOf off)) 0)
  let bad := sortNat (due.filter (fun off => s.regs.badShadow.contains off))
  let pass := due.filter (fun off => !bad.any (fun b => pageOf b == pageOf off))
  let words := pass.map (fun off => (off, shadowOf s off))
  let s1 := modRegs (fun r => { r with pend := r.pend.filter (fun o => !due.contains o), crc := 0xFFFFFFFF }) s
  let s2 := (due.filter (fun o => !pass.contains o)).foldl (fun s o => reloadWord o s) (pagesRefused bad s1)
  acceptApply words s2

def execBoundaryApply (s : State) :=
  act s (boundaryMode s && s.regs.pend.any (fun off => atTick s (boundaryTicks s (pageOf off)) 0)) (boundaryApply s)

/-! ### Live coefficients (R81, R82, R160) -/

/-- An LC write: the register's last written value, in effect at the next boundary. -/
def lcWrite (off : Nat) (w : Word) (s : State) : State :=
  modRegs (fun r => { r with lc := if r.lc.contains off then r.lc else r.lc ++ [off] }) (writeShadow off w s)

/-- `COEF_BAD` holds while an LC word of the page that the walker found keeps its parity error. -/
def coefSync (sc : Nat) (s : State) : State :=
  when ((sec s sc).coefBad && !((s.regs.badShadow ++ s.regs.badActive).any (fun o => pageOf o == 0x40 + sc && !isShadowWord s.params o)))
    (modSec sc (fun x => { x with coefBad := false })) s

/-- One LC write takes effect, or is refused for its parity. -/
def lcEffect (off : Nat) (s : State) : State :=
  let s1 := if s.regs.badShadow.contains off then
      raise Src.CFG_PARITY (pageOf off) (parityNote off false true false (reloadWord off s))
    else modRegs (fun r => { r with badActive := mark false off r.badActive }) (setActive off (shadowOf s off) s)
  coefSync (pageOf off - 0x40) s1

def execLcTakeEffect (s : State) :=
  act s (atTick s controlP 0 && !s.regs.lc.isEmpty)
    (s.regs.lc.foldl (fun s off => lcEffect off s) (modRegs (fun r => { r with lc := [] }) s))

/-! ### The walker (R84) -/

/-- The configuration words of a page type. -/
def configWords (t : PageType) : List Nat :=
  PAGE_FLTMASK :: (RegTable.rows t).flatMap (fun r =>
    if r.cls == .shadow || r.cls == .lc || r.cls == .nextStart then (upto r.count).map (fun k => r.off + r.stride * k) else [])

/-- The word that the walker checks next, from place 1024·page + index: the place after it and the word's offset. -/
def walkNext (p : Params) : Nat → Nat → Option (Nat × Nat)
  | 0, _ => none
  | fuel + 1, place =>
    let page := place / 1024
    if 0xC0 ≤ page then walkNext p fuel 0
    else match pageType p page with
      | none => walkNext p fuel ((page + 1) * 1024)
      | some (t, _) => match (configWords t)[place % 1024]? with
        | some o => some (place + 1, pg page o)
        | none => walkNext p fuel ((page + 1) * 1024)

/-- The walker's judgement of one word. A word of a frozen set counts as pending (log entry 12). -/
def walkWord (off : Nat) (s : State) : State :=
  let act := s.regs.badActive.contains off
  let shd := s.regs.badShadow.contains off
  if !act && !shd then s
  else
    let pend := s.regs.pend.contains off || inFrozen s off
    let fix := isShadowWord s.params off && !pend && (act != shd)
    let s1 := if fix then
        (if act then modRegs (fun r => { r with badActive := mark false off r.badActive }) (setActive off (shadowOf s off) s)
         else reloadWord off s)
      else s
    let lcWord := !isShadowWord s.params off && decide (0x40 ≤ pageOf off) && decide (pageOf off < 0x80)
    let s2 := when lcWord (fun s => pageFlt (pageOf off) 2 (modSec (pageOf off - 0x40) (fun x => { x with coefBad := true }) s)) s1
    raise Src.CFG_PARITY (pageOf off) (parityNote off act shd fix s2)

/-- One word is checked: the pages in ascending order, each page's `PAGE_FLTMASK` first, its other words by their rows
(DESIGN CHOICE, log entry 19: R84 says each in turn). -/
def parityWalk (s : State) : State :=
  match walkNext s.params 200 s.regs.walker with
  | some (place, off) => walkWord off (modRegs (fun r => { r with walker := place }) s)
  | none => s

/-- The walker's turn: one in every 8 ticks, at those with T mod 8 = 0 (DESIGN CHOICE, log entry 19: R84 gives no phase). -/
def execParityWalk (s : State) := act s (atTick s 8 0) (parityWalk s)

/-- `GEN_PARINJ`, RWS and Immediate. -/
def parinjWrite (w : Word) (s : State) : State :=
  setLive (genO Reg.GEN_PARINJ) (storedBits s.params (genO Reg.GEN_PARINJ) w) s

def execGenParinjWrite (a : Access) (page : BitVec 8) (go : Bool) (s : State) :=
  act s (reaches s a) (secureCmd a (parinjWrite (BitVec.ofNat 32 (page.toNat + 256 * b2n go))) s)

end Sys2Proof.Machine
end

