-- ==== Sys2Proof/Machine/Bridge.lean ====
section
/-! DEFINITION. The Lenroth bridge's lanes (R568, R569): the 80 bits of a frame with its CRC, the frames that this instance
sends and what its outgoing lanes carry in a tick. -/

namespace Sys2Proof.Machine

/-! ### Frames (R569) -/

abbrev frameSync : Nat := 1
abbrev frameStrobe : Nat := 2
abbrev frameCap : Nat := 3
abbrev frameEnergy : Nat := 4

/-- The ticks of a frame, 4 bits in each. -/
abbrev frameTicks : Nat := 20

/-- The `n` bits of a number, least significant first and most significant first. -/
def bitsLsb (n v : Nat) : List Bool := (upto n).map v.testBit
def bitsMsb (n v : Nat) : List Bool := (bitsLsb n v).reverse

/-- One bit into the CRC-8 of x^8 + x^2 + x + 1. -/
def crc8Bit (c : Byte) (b : Bool) : Byte := (c <<< 1) ^^^ (if c.getLsbD 7 == b then 0 else 0x07)

/-- `TYPE` and payload, the bits that the CRC covers. `TYPE`, like the preamble and the CRC, goes most significant bit first
(DESIGN CHOICE, log entry 47: R569 gives the order of the payload alone). -/
def frameBody (typ : Nat) (payload : BitVec 64) : List Bool := bitsMsb 4 typ ++ bitsLsb 64 payload.toNat

def frameCrc (typ : Nat) (payload : BitVec 64) : Byte := (frameBody typ payload).foldl crc8Bit 0

/-- The 80 bits of a frame, in the order sent. -/
def frameBits (typ : Nat) (payload : BitVec 64) : List Bool :=
  bitsMsb 4 0xA ++ frameBody typ payload ++ bitsMsb 8 (frameCrc typ payload).toNat

/-- The payload of an ENERGY frame: the increment, and above it the number of its period. -/
def energyPayload (inc : BitVec 48) (k : BitVec 16) : BitVec 64 := k ++ inc

/-! ### Outgoing lanes (R568) -/

/-- The links of a primary, one for each secondary in ascending order (DESIGN CHOICE, log entry 47), and link 0 of a
secondary. -/
def sendLinks (s : State) : List Nat :=
  if s.bridge.role = 1 then upto (Nat.min 3 (peersOf s).length) else if s.bridge.role = 2 then [0] else []

def brgLink0 : BrgLink := { cur := none, wait := [] }
def brgLink (s : State) (l : Nat) : BrgLink := Store.get s.bridge.links brgLink0 l

/-- A frame of its type that begins in this tick: SYNC carries the counter at its last bit, the others what is to be sent. -/
def payloadOf (s : State) (l typ : Nat) : BitVec 64 :=
  if typ = frameSync then s.tb.tick + BitVec.ofNat 64 (frameTicks - 1)
  else if typ = frameStrobe then s.bridge.sent.getD 0
  else if typ = frameCap then BitVec.ofNat 64 (Store.get s.bridge.capSent 0 ((peersOf s).getD l 0) % 2 ^ 13)
  else match s.bridge.enSent with
    | some (e, k) => energyPayload (BitVec.ofNat 48 e) (BitVec.ofNat 16 k)
    | none => 0

def beginFrame (s : State) (l typ : Nat) : Sending := { typ := typ, payload := payloadOf s l typ, from0 := now s }

/-- The frames that become due in this tick: at a primary SYNC at tick 0 of an estimate period and CAP behind it at tick 0 of
a capping period, at a secondary ENERGY at tick 1,201. -/
def framesDue (s : State) : List Nat :=
  if s.bridge.role = 1 then
    (if atTick s estP 0 then [frameSync] else []) ++ (if atTick s capP 0 then [frameCap] else [])
  else if atTick s estP 1201 && bridged s && s.bridge.enSent.map (·.2) == some ((estNo s - 1) % 65536) then [frameEnergy]
  else []

/-- A primary's strobe stamped in the tick before. -/
def strobeSent (s : State) : Bool :=
  s.bridge.role == 1 && s.bridge.sent.isSome && s.regs.strobe.map (·.1 + 1) == some (now s)

/-- One lane in a new tick: a STROBE begins at once, and the frame it abandons is sent again after it; the others follow one
another. -/
def laneTick (s : State) (l : Nat) (x : BrgLink) : BrgLink :=
  let busy := x.cur.filter (fun f => decide (now s < f.from0 + frameTicks))
  let wait := x.wait ++ framesDue s
  if strobeSent s then
    { cur := some (beginFrame s l frameStrobe), wait := (busy.map (·.typ)).toList ++ wait }
  else match busy, wait with
    | some f, _ => { cur := some f, wait := wait }
    | none, t :: rest => { cur := some (beginFrame s l t), wait := rest }
    | none, [] => { cur := none, wait := [] }

/-- What the lanes carry from this tick on. -/
def bridgeTick (s : State) : State :=
  (sendLinks s).foldl (fun s l =>
    s.setBridge { s.bridge with links := Store.set s.bridge.links brgLink0 l (laneTick s l (brgLink s l)) }) s

/-- The 4 bits of a link's outgoing lane in this tick, `BDN` at a primary and `BUP` at a secondary; zeros between frames. -/
def laneBits (s : State) (l : Nat) : List Bool :=
  match (brgLink s l).cur with
  | some f =>
    if now s < f.from0 + frameTicks then ((frameBits f.typ f.payload).drop (4 * (now s - f.from0))).take 4
    else [false, false, false, false]
  | none => [false, false, false, false]

end Sys2Proof.Machine
end

