-- ==== Sys2Proof/Machine/Boot.lean ====
section
/-! DEFINITION. Start-up, shut-down and reset (R530 to R548), the PLL's first lock, and the Lenroth bridge (R55 to R57,
R533, R569). -/

namespace Sys2Proof.Machine

def modBoot (f : Boot → Boot) (s : State) : State := s.setBoot (f s.boot)

/-! ### Cold start, loss of power, first lock (R530, R433, R40) -/

/-- The bridge in the role, instance and peers that a start takes from `BRIDGE_CTL` (R60, R66). -/
def bridgeFrom (s : State) : Bridge :=
  let w := cfg s (bridgeO Reg.BRIDGE_CTL)
  { bridge0 with role := w.field 1 0, inst := w.field 3 2, peers := w.field 7 4 }

/-- A cold start: everything at reset but `BRIDGE_CTL`, whose held value takes effect (R66, log entry 13). -/
def coldStart (s : State) : State :=
  let off := bridgeO Reg.BRIDGE_CTL
  let w := shadowOf s off
  let s1 := setActive off w (setShadow off w ((State.resetWith s.params).setPending s.pending))
  s1.setBridge (bridgeFrom s1)

def execColdStart (s : State) : Host.Outcome State Fault Refusal := .next (if s.powered then s else coldStart s)

/-- The supply falls: powered operation ends (R433). -/
def execPowerLoss (s : State) : Host.Outcome State Fault Refusal := .next (s.setPower false)

/-- LOAD: the store discovers the part (R532, R504). -/
def enterLoad (s : State) : State := discover (modBoot (fun b => { b with state := .load }) s)

/-- Every converter's calibration pair begins afresh where the counter starts or is loaded (R303). -/
def calRestart (s : State) : State := forEach (upto 12) (fun n => modAdc n (fun a => { a with calAt := now s })) s

/-- The PLL's first lock. A secondary's counter waits for its sync word (R40, R55); a primary's first SYNC frame begins in
this tick, its tick 0. -/
def firstLock (aGood bGood : Bool) (s : State) : State :=
  let two := s.bridge.role == 2
  let s1 := s.setTb { s.tb with
    aOk := aGood, bOk := bGood, bridgeOk := two, lock := true, running := !two,
    sel := if two then 2 else if aGood then 0 else 1 }
  let s2 := calRestart (modSparing (fun x => { x with secTicks := now s }) (modBoot (fun b => { b with lockAt := some (now s) }) s1))
  when (!two && s.boot.state == BootState.lock) enterLoad (bridgeTick s2)

def execPllFirstLock (aGood bGood : Bool) (s : State) :=
  act s (s.boot.lockAt.isNone && (aGood || bGood || s.bridge.role == 2)) (firstLock aGood bGood s)

/-! ### The bridge (R55 to R57, R533, R569) -/

/-- A secondary joins: its counter is loaded, and its periods begin at the first boundary after the load, so that what an
engine had in hand is abandoned. -/
def joinGroup (tick : BitVec 64) (s : State) : State :=
  let s1 := s.setBridge { s.bridge with joined := true, lastSync := now s, offset := 0 }
  let s2 := s1.setTb { s1.tb with tick := tick, running := true, loaded := some tick.toNat }
  let s3 := calRestart (s2.setEngs (s2.eng.map (fun e => (e.1, { e.2 with start := none, done := none }))))
  when (s.boot.state == BootState.lock) enterLoad s3

/-- The counter that a sync word gives at its arrival: its payload and the flight time of link 0 (R55, R568). -/
def syncFrame (payload : BitVec 64) (s : State) : State :=
  let t := payload + BitVec.ofNat 64 (s.params.brgFlight.getD 0 0)
  if s.bridge.joined then
    s.setBridge { s.bridge with lastSync := now s, offset := clamp ((s.tb.tick.toNat : Int) - t.toNat) (-128) 127 }
  else joinGroup t s

/-- A SYNC frame at a secondary, the next one due an estimate period later; a bad one is lost and counted. -/
def execBridgeSyncFrame (payload : BitVec 64) (crc : Byte) (s : State) :=
  act s (bridged s && s.boot.lockAt.isSome)
    (let s1 := s.setBridge { s.bridge with syncDue := now s + estP }
     if crc = frameCrc frameSync payload then syncFrame payload s1 else bumpF (bridgeO Reg.BRIDGE_ERR) 23 16 s1)

/-- A sync word that does not arrive counts as lost (R60) half an estimate period after it was due, or when the bridge is
lost (DESIGN CHOICE, log entry 18: the spec does not say when it counts). -/
def syncMissed (wait : Nat) (s : State) : Bool :=
  bridged s && s.boot.state != BootState.lock && decide (s.bridge.syncDue + wait ≤ now s)

def missedSync (wait : Nat) (s : State) : State :=
  when (syncMissed wait s) (fun s =>
    bumpF (bridgeO Reg.BRIDGE_ERR) 23 16 (s.setBridge { s.bridge with syncDue := s.bridge.syncDue + estP })) s

/-- A STROBE frame at a secondary: its own set is frozen on arrival, whatever the sets of other instances (R77), and
applies at the carried tick, or at once where that is past. -/
def strobeFrame (tick : BitVec 64) (s : State) : State :=
  if tick.toNat < s.tb.tick.toNat then freeze (now s) (bumpF (bridgeO Reg.BRIDGE_ERR) 15 8 s)
  else freeze (now s + (tick.toNat - s.tb.tick.toNat)) s

def execBridgeStrobeFrame (tick : BitVec 64) (crc : Byte) (s : State) :=
  act s (bridged s && s.bridge.joined && crc == frameCrc frameStrobe tick) (strobeFrame tick s)

def execBridgeCapFrame (cap : BitVec 13) (crc : Byte) (s : State) :=
  act s (bridged s && crc == frameCrc frameCap (cap.setWidth 64)) (s.setBridge { s.bridge with capRecv := cap.toNat })

def execBridgeEnergyFrame (inst : Nat) (inc : BitVec 48) (k : BitVec 16) (crc : Byte) (s : State) :=
  act s (s.bridge.role == 1 && decide (inst < 4) && crc == frameCrc frameEnergy (energyPayload inc k))
    (modCap (fun c => { c with recv := c.recv.put inst (k.toNat, inc.toNat) }) s)

/-- An instance that runs on the forwarded reference goes on with one of its own; with none good it is in holdover, as
R38 has it for both lost (DEDUCED, log entry 18). -/
def ownRef (s : State) : State :=
  if s.tb.sel = 2 then
    match goodRef s with
    | some r => switchRef r s
    | none => holdOver s
  else s

/-- A secondary that no longer has the bridge: standalone on its own references (R57). -/
def loseBridge (s : State) : State :=
  raise Src.BRG_SYNC_LOST s.bridge.inst (ownRef (s.setBridge { s.bridge with lost := true }))

/-- No sync word for four estimate periods. A secondary in LOCK waits longer (R533). -/
def bridgeDue (s : State) : Bool :=
  bridged s && s.boot.state != .lock && decide (s.bridge.lastSync + 4 * estP ≤ now s)

/-- A sync word in the tick of the limit is in time (R45). -/
def execBrgSyncLost (s : State) := act s (bridgeDue s) (expire .bridge s)

def bridgeOver (s : State) : State := when (bridgeDue s) (fun s => loseBridge (missedSync 0 s)) s

/-- A secondary in LOCK has waited its time for the join. -/
def joinDue (s : State) : Bool :=
  bridged s && s.boot.state == .lock && (match s.boot.lockAt with
    | some t => decide (t + 125000000 ≤ now s)
    | none => false)

def execSecondaryLockTimeout (s : State) := act s (joinDue s) (expire .joinWait s)

/-- It gives the bridge up: its counter starts at 0. -/
def joinOver (s : State) : State :=
  when (joinDue s) (fun s => enterLoad (calRestart (loseBridge (s.setTb { s.tb with tick := 0, running := true })))) s

/-- `BRIDGE_STAT` (R60). -/
def bridgeStat (s : State) : Word :=
  BitVec.ofNat 32 (b2n (bridged s && s.bridge.joined) + 2 * s.bridge.role + 256 * unsigned 8 s.bridge.offset)

/-! ### Loading (R534, R512) -/

/-- A leg map's positions, from the layout of `CLU_LEGMAP`. -/
def mapLegs (w : Nat) : List Nat :=
  (upto 4).filterMap (fun e => let f := (w / 128 ^ e) % 128; if 64 ≤ f then some (f - 64) else none)

/-- A sector whose own engine starts with its failed mark starts on its quadrant's spare, the lowest-numbered first; the
others start dark, with no source raised (R163, R166, log entry 14). -/
def placeEngine (sc : Nat) (s : State) : State :=
  let lost := s.sparing.spareFail.contains (sc / 16)
  if !(sec s sc).ownFailed || ((sec s sc).onSpare && !lost) then s
  else if spareFree s (sc / 16) && !lost then modSec sc (fun x => { x with onSpare := true }) s
  else modSec sc (fun x => { x with mode := .dark, onSpare := false }) s

/-- A converter that the map lists as failed starts in FAILED, and its role passes on (R315). -/
def failedAdc (n : Nat) (s : State) : State :=
  if (adc s n).state = .failed then s else dropAdc (toFailed n (adc s n).cause) n s



/-- The retirement map: every failed mark and leg map. -/
def loadRetire (p : Payload) (s : State) : State :=
  match p with
  | .retire cells legs sensors engines convs diodes chans tiles banks _ =>
    let n := sectors s
    let s1 := legs.zipIdx.foldl (fun s (w, i) => if w ≠ 0 && decide (i < 64 * n) then modCell i (fun c => { c with map := mapLegs w }) s else s) s
    let s2 := cells.foldl (fun s i => if i < 64 * n then modCell i (fun c => { c with state := .isolated, spdes := false }) s else s) s1
    let s3 := sensors.foldl (fun s i => if i < 8 * n then modClu (i / 2) (fun c =>
      if i % 2 = 0 then { c with aFail := true, sensB := true } else { c with bFail := true }) s else s) s2
    let s4 := engines.foldl (fun s i =>
      if i < 64 then (if i < n then modSec i (fun x => { x with ownFailed := true }) s else s)
      else if i - 64 < quads s then s.setSparing { s.sparing with spareFail := s.sparing.spareFail ++ [i - 64] } else s) s3
    let s5 := forEach (upto n) placeEngine s4
    let s6 := convs.foldl (fun s i => if i < 12 then failedAdc i s else s) s5
    let s7 := modTherm (fun t => { t with dFail := (diodes.filter (fun i => decide (i < 2 * n))).foldl (fun l i =>
      if l.contains i then l else insertNat i l) t.dFail }) s6
    let s8 := chans.foldl (fun s i => if i < 80 then modCh i (fun c => { c with failed := true }) s else s) s7
    let s9 := tiles.foldl (fun s i => if i < physCount s.params .tile then setRole .tile i 4 0 s else s) s8
    banks.foldl (fun s i => if i < physCount s.params .bank then setRole .bank i 4 0 s else s) s9
  | _ => s

/-- Trims of a quadrant into both copies. -/
def loadTrims (q : Nat) (p : Payload) (s : State) : State :=
  match p with
  | .trims vs => vs.zipIdx.foldl (fun s (v, i) =>
      let n := 1024 * q + i
      if n < 64 * sectors s then storeBoth (cluO (n / 64) (Reg.CLU_GTRIM (n % 64))) (BitVec.ofNat 32 v) s else s) s
  | _ => s

/-- Counts of a record added to those that have run since the start (R432). -/
def addCounts (m : Store Nat) (l : List Nat) : Store Nat :=
  l.zipIdx.foldl (fun m (v, i) => Store.set m 0 i (Store.get m 0 i + v)) m

/-- Wear of the whole block (key 4): powered seconds, channels, isolation counts. The clusters' rotation ages, which count
from the powered seconds at reset, count on from the figure loaded, so that none is due for it (R438). -/
def loadWearAll (p : Payload) (s : State) : State :=
  match p with
  | .wearAll pow chans adcs dios engs =>
    let s0 := forEach (upto (4 * sectors s)) (fun g s => modClu g (fun c => { c with rotAt := c.rotAt + pow }) s) s
    let s1 := modCal (fun c => { c with powered := c.powered + pow, saved := c.powered + pow }) s0
    let s2 := chans.zipIdx.foldl (fun s (c, i) =>
      if i < 80 then modCh i (fun x => { x with stress := x.stress + 450000000 * c.1, time := x.time + 1250000000 * c.2.1 }) s else s) s1
    let x := s2.sparing
    s2.setSparing { x with
      chIsol := addCounts x.chIsol (chans.map (·.2.2)), adcIsol := addCounts x.adcIsol adcs,
      dioIsol := addCounts x.dioIsol dios, engIsol := addCounts x.engIsol (engs.take 64),
      spareIsol := addCounts x.spareIsol (engs.drop 64) }
  | _ => s

/-- Wear of a quadrant's cells, added to what has run since the start, and its clusters' rotation ages, which count from the
powered seconds just loaded. -/
def loadWear (q : Nat) (p : Payload) (s : State) : State :=
  match p with
  | .wear cells ages =>
    let s1 := cells.zipIdx.foldl (fun s (c, i) =>
      let n := 1024 * q + i
      if n < 64 * sectors s then
        let w := wear s n
        setWear n { stress := w.stress.add (Frac.ofInt (11250000 * (c.1 : Int))), duty := w.duty + c.2.1 * (1250000000 / controlP),
                    cycles := w.cycles + c.2.2.1, isol := w.isol + c.2.2.2 } s
      else s) s
    ages.zipIdx.foldl (fun s (a, i) =>
      let g := 64 * q + i
      if g < 4 * sectors s then modClu g (fun c => { c with rotAt := powered s - a }) s else s) s1
  | _ => s

/-- A stored default plan: the logical entries, and the roles they give every unit that is not retired. -/
def loadPlan (p : Payload) (s : State) : State :=
  match p with
  | .plan tiles banks =>
    let put := fun (k : UnitKind) (l : List Word) (s : State) =>
      let s1 := l.zipIdx.foldl (fun s (w, i) => if i < logCount k then setLog k i w s else s) s
      let s2 := forEach (upto (physCount s.params k)) (fun i s => if role s k i = 4 then s else setRole k i 2 0 s) s1
      l.zipIdx.foldl (fun s (w, i) =>
        if decide (i < logCount k) && entryValid w && decide (entryPhys w < physCount s.params k) && role s k (entryPhys w) == 2
        then setRole k (entryPhys w) 1 i s else s) s2
    put .bank banks (put .tile tiles s)
  | _ => s

/-- Model images into their staging areas; their installs follow one by one (R250). -/
def loadModel (u : Nat) (p : Payload) (s : State) : State :=
  match p with
  | .model bytes => memWrite (stagingBase u) (bytes.take (unitLen u)) (modTally (fun t => { t with owed := t.owed ++ [u] }) s)
  | _ => s

def loadOne (f : Payload → State → State) (typ key : Nat) (s : State) : State :=
  match winner s typ key with
  | some r => f r.payload s
  | none => s

/-- What every start loads, and what a cold start loads alone (R531, R534). -/
def loadRecords (s : State) : State :=
  let s1 := if s.boot.cold then
      let a := forEach (upto (quads s)) (fun q => loadOne (loadTrims q) 3 q) (loadOne loadRetire 5 0 s)
      let b := forEach (upto (quads s)) (fun q => loadOne (loadWear q) 4 q) (loadOne loadWearAll 4 4 a)
      loadOne loadPlan 6 0 b
    else s
  nextInstall (forEach (upto 9) (fun u => loadOne (loadModel u) 7 u) (modPlan (fun p => { p with ready := true }) s1))

/-! ### The start set (R535, R536) -/

/-- The entries of a sealed list, and whether its seal matches. -/
def listOf (r : Option Record) : List SealEntry × Bool :=
  match r with
  | some x => match x.payload with
    | .sealed l => (l, listSeal l == x.sealCrc)
    | _ => ([], false)
  | none => ([], true)

/-- The start set is refused: AWAIT, with its cause (R536). -/
def startRefused (cause page detail : Nat) (s : State) : State :=
  raiseOn Src.CFG_START_BAD detail 0x00 1 (modBoot (fun b => { b with state := .await, cause := cause, page := page }) s)

/-- CHECK. An accepted set applies in the next tick. -/
def checkStart (s0 : State) : State :=
  let s := modBoot (fun b => { b with state := .check }) s0
  if s.cal.state = .absent then startRefused 1 0 0x0101 s
  else match winner s 1 0 with
    | none => startRefused 2 0 0x0102 s
    | some config =>
      let (stg, stgOk) := listOf (winner s 2 0)
      let (cfgL, cfgOk) := listOf (some config)
      let entries := stg ++ cfgL
      let good := entries.filter (fun e => isShadowWord s.params e.1)
      let s1 := modRegs (fun r => { r with sealWord := config.sealCrc })
        (good.foldl (fun s e => writeShadow e.1 (storedBits s.params e.1 e.2) s) s)
      let offs := good.foldl (fun (l : List Nat) e => if l.contains e.1 then l else l ++ [e.1]) []
      let back := fun (s : State) => offs.foldl (fun s o => reloadWord o s) s
      if !(stgOk && cfgOk) then startRefused 3 0 0x0103 (back s1)
      else match entries.find? (fun e => !isShadowWord s.params e.1) with
        | some e => startRefused 5 (e.1 / 0x1000 % 256) (e.1 / 0x1000 % 0x10000) (back s1)
        | none =>
          let bad := offs.filter (fun o => s1.regs.badShadow.contains o)
          match bad with
          | o :: _ => startRefused 4 (pageOf o) (pageOf o) (back (parityRefused bad s1))
          | [] => modRegs (fun r => { r with startSet := some {
              words := offs.map (fun o => ⟨o, shadowOf s1 o, false⟩), crc := config.sealCrc ^^^ 0xFFFFFFFF, due := now s + 1 } }) s1

def execBootLoadDone (s : State) :=
  act s (s.boot.state == .load && (s.cal.state == StoreState.absent || s.cal.state == StoreState.ready || s.cal.state == StoreState.full))
    (checkStart (loadRecords s))

/-! ### The safe profile (R538) -/

/-- The safe profile's value of a word. -/
def safeValue (p : Params) (off : Nat) : Word :=
  if off = thmO Reg.THM_TGRP then 0
  else if off = pwrO Reg.PWR_CTL then (resetAt p off).put 2 2 0
  else resetAt p off

/-- The words that take effect while the block runs: Shadow and LC words, trims apart. At-next-start words take their held
values at a start alone (R66). -/
def runWord (p : Params) (off : Nat) : Bool :=
  match regAt p off with
  | some (r, _, _, _) => (r.cls == .shadow || r.cls == .lc) && !isTrimWord p off
  | none => false

/-- The words that it changes: those whose copy in effect differs. -/
def safeWords (s : State) : List (Nat × Word) :=
  let offs := (s.regs.active.map (·.1)).filter (runWord s.params)
  let all := [thmO Reg.THM_TGRP, pwrO Reg.PWR_CTL].foldl (fun (l : List Nat) o => if l.contains o then l else l ++ [o]) offs
  (all.filter (fun o => activeOf s o != safeValue s.params o)).map (fun o => (o, safeValue s.params o))

def safeProfile (s : State) : State :=
  let words := safeWords s
  let s1 := acceptApply words s
  let s2 := words.foldl (fun s (o, w) => modRegs (fun r => { r with
    pend := r.pend.filter (· != o), lc := r.lc.filter (· != o) }) (storeBoth o w s)) s1
  modBoot (fun b => { b with state := .sense, safe := true }) (when (s2.boot.state == .await) enterSense s2)

/-! ### SENSE and POWER (R532, R540) -/

/-- A slot's domain receives START, where it was to receive one at entry to POWER and its state still allows it. -/
def startSlot (x : Nat) (s : State) : State :=
  if 4 ≤ x then s
  else match (recov s x).state with
    | .normal => startDomain x s
    | .quiet => if s.flt.chipOff || !domOver s x then s else beginRecovery x s
    | .held => s

/-- Slots whose tick has come, each `GAP` after the one before it. -/
def runSlots : Nat → State → State
  | 0, s => s
  | n + 1, s =>
    match s.boot.slots with
    | [] => s
    | x :: rest =>
      if s.boot.slotAt ≤ now s then
        runSlots n (startSlot x (modBoot (fun b => { b with
          slots := rest, slotAt := b.slotAt + usTicks (10 * cfgF s (genO Reg.GEN_STARTSEQ) 23 16) }) s))
      else s

/-- POWER. A slot whose domain is not enabled is skipped with its gap; one whose domain an earlier slot names, or is to
receive no START, issues nothing and keeps its gap (its entry is 4 more than its number). -/
def enterPower (s : State) : State :=
  let w := cfg s (genO Reg.GEN_STARTSEQ)
  let named := (upto 4).map (fun k => w.field (2 * k + 1) (2 * k))
  let slots := (named.zipIdx.filter (fun (d, _) => w.bit (8 + d))).map (fun (d, k) =>
    if !(named.take k).contains d && ((recov s d).state == .normal || domOver s d) then d else d + 4)
  bootUp (runSlots 4 (modBoot (fun b => { b with state := .power, slots := slots, slotAt := now s }) s))

def execBootSenseDone (s : State) :=
  act s (s.boot.state == .sense && s.therm.valid && !thmShutdown s &&
      (upto 12).all (fun n => decide (4 ≤ (adc s n).role) || (adc s n).state == .rail)) (enterPower s)

def execBootSlotStart (s : State) :=
  act s (s.boot.state == .power && !s.boot.slots.isEmpty && decide (s.boot.slotAt ≤ now s)) (runSlots 4 s)

/-! ### Orderly shut-down (R545 to R547) -/

/-- The shut-down command (R545). Every request is withdrawn, so that a link discovery has nothing to go on with and ends
(DEDUCED, log entry 44). -/
def shutDown (s : State) : State :=
  let s1 := modBoot (fun b => { b with state := .stopping, slots := [], shutAt := now s, shutOn := true }) s
  let s2 := abandonMig (abandonCover .wait s1)
  let s3 := forEach (upto (quads s2)) (fun q => flushWindow false q) s2
  let s4 := forEach (upto (sectors s3)) (fun sc s =>
    let x := sec s sc
    when (!x.reqs.isEmpty || !x.granted.isEmpty || !x.retained.isEmpty) (beginSwitchOff sc) s) s3
  stopCheck (queueWear (modLnk (fun l => { l with disc := 0, group := [], offAt := [] }) s4))

/-- The domain of the slot after `d` counts as stopped, or there is none. -/
def nextStopped (s : State) (d : Nat) : Bool :=
  match ((slotOrder s).dropWhile (· != d)).drop 1 with
  | n :: _ => (stage s n).state == .off || (stage s n).state == .tripped
  | [] => true

def execShutdownDomainStop (d : Nat) (s : State) :=
  act s (decide (d < 4) && s.boot.state == .stopping && (stage s d).state == .run && allOff s d && nextStopped s d) (stgStop d s)

/-- The time of an orderly shut-down has run out. -/
def shutDue (s : State) : Bool :=
  s.boot.state == .stopping && s.boot.shutOn && decide (s.boot.shutAt + msTicks (cfgF s (genO Reg.GEN_SHUTTMO) 9 0) ≤ now s)

/-- A domain that reaches OFF in the expiry tick counts as stopped (R45, R547). -/
def execShutdownTimeout (s : State) := act s (shutDue s) (expire .shutdown s)

def shutOver (s : State) : State :=
  when (shutDue s) (fun s =>
    stopCheck (forEach (upto 4) (fun d s => when ((stage s d).state != .off) (tripDomain d) s)
      (modBoot (fun b => { b with forced := true, shutOn := false }) s))) s

/-! ### Warm reset (R531) -/

/-- The words that a warm reset keeps: the trims. At-next-start words take their held values. -/
def keptWords (p : Params) (m : Store Word) : Store Word := m.filter (fun e => isTrimWord p e.1)
def heldWords (p : Params) (m : Store Word) : Store Word :=
  m.filter (fun e => match regAt p e.1 with
    | some (r, _, _, _) => r.cls == .nextStart
    | none => false)

/-- Two tables of different numbers in one. -/
def joinStores (a b : Store Word) : Store Word := b.foldl (fun m e => m.put e.1 e.2) a

/-- Configuration at a warm reset: every word but the trims at reset; Immediate configuration words too. -/
def warmRegs (s : State) : State :=
  let held := heldWords s.params s.regs.shadow
  let trims := keptWords s.params s.regs.active
  let imm := fun (e : Nat × Word) => match regAt s.params e.1 with
    | some (r, _, _, _) => r.cls == .imm && (r.acc == .rw || r.acc == .rws)
    | none => false
  modRegs (fun r => { r with
    shadow := joinStores trims held, active := joinStores trims held, live := r.live.filter (fun e => !imm e),
    badShadow := r.badShadow.filter (fun o => isTrimWord s.params o || held.any (fun e => e.1 == o))
    badActive := r.badActive.filter (fun o => isTrimWord s.params o)
    pend := [], crc := 0xFFFFFFFF, frozen := none, startSet := none, lc := [], walker := 0, trims := [], strobe := none }) s

/-- A cell at a warm reset: its failed mark, leg map and designation stay. One that was re-trimmed is a spare again. -/
def warmCell (failed : Bool) (c : Cell) : Cell :=
  { c with
    state := if failed then .isolated else if c.state = .standby || c.state = .retest then .standby else .off
    legs := 0, passWait := false, trimmed := false }

def warmClu (c : Cluster) : Cluster :=
  { clu0 with aFail := c.aFail, bFail := c.bFail, sensB := c.sensB, rotAt := c.rotAt }

def warmSec (x : Sector) : Sector :=
  { sec0 with ownFailed := x.ownFailed, onSpare := x.onSpare && x.ownFailed, seq := x.seq, prev := x.prev }


/-- The roles of R4 whose converters keep a failed mark: each passes to a spare. -/
def rolesOut (s : State) : List (Nat × Nat) :=
  (upto 12).filterMap (fun n => if adcOut s n then (firstRole s n).map (fun r => (r, n)) else none)

/-- What the mechanisms keep of their own state. -/
def warmUnits (s : State) : State :=
  let s1 := forEach (s.cells.map (·.1)) (fun n s => modCell n (warmCell (cellFailed s n)) s) s
  let s2 := forEach (s1.clus.map (·.1)) (fun g s => modClu g warmClu s) s1
  let s3 := forEach (s2.secs.map (·.1)) (fun i s => modSec i warmSec s) s2
  let s4 := forEach (upto 4) (fun d s => setStage d { stage0 with state := .tripped, prev := (stage s d).prev } s) s3
  let s5 := forEach (s4.chans.map (·.1)) (fun n s => modCh n (fun c => { stgCh0 with failed := c.failed, stress := c.stress, time := c.time }) s) s4
  forEach (upto 12) (fun n s => if adcOut s n then toFailed n (adc s n).cause s
    else setAdc n { adc0 (quads s) n with calAt := now s } s) s5

/-- Every `PAGE_FLT` word as it stood before: a warm reset raises no source (R531). -/
def keepFlt (before s : State) : State :=
  forEach (upto 0xC0) (fun p => setLive (pg p PAGE_FLT) (live before (pg p PAGE_FLT))) s

/-- What the warm reset takes out of service: outputs, transactions but the one in progress and the fault isolator's (R468),
engines, recoveries, a self-test, which ends without an outcome and leaves `CAL_CMDSTAT` idle (DEDUCED, log entry 44),
converters (R531). -/
def warmDrop (s0 : State) : State :=
  let s1 := forEach (upto 4) tripDomain (discard s0)
  let s2 := jobsWarm (warmUnits (warmRegs (ringWithdraw 6 (forEach (upto 7) ownerReset s1))))
  let keep := fun (q : Nat) =>
    let x := ring s2 q
    ({ ring0 q with counts := x.counts, opened := x.opened, broken := x.broken, current := x.current, voidWr := x.voidWr, iso := x.iso } : Ring)
  let s3 := ((((s2.setRings ((upto (quads s2)).foldl (fun m q => Store.set m (ring0 q) q (keep q)) [])).setEngs []).setInrush []).setQuads []).setXchks []
  let s4 := s3.setRecov ((upto 4).foldl (fun m d => Store.set m recov0 d { recov0 with src := (recov s3 d).src, count := (recov s3 d).count }) [])
  let s5 := modFlt (fun f => { f with regq := [], chipOff := false, chipRef := false, chipFrom := 0 }) s4
  let s6 := when s5.sparing.selfTest.isSome (fun s =>
    setLive (calO Reg.CAL_CMDSTAT) 0 (modSparing (fun x => { x with selfTest := none }) s)) s5
  keepFlt s0 ((s6.setAdcOwed (rolesOut s6)).setLate [])

/-- Tally starts afresh, and no set is installed: an install in hand is refused, with no shifts to restore (R249, R250, R531). -/
def clearInstalled (s : State) : State :=
  let s1 := match s.tally.load with
    | some l => loadStat 5 (l.restore.getD 10) s
    | none => s
  (s1.setTally { tally0 with featPer := s.tally.featPer }).setMem (s.mem.filter (fun e => !installedArea e.1))

/-- A migration in GRACE is over: the previous plan is dropped, and its source is a spare, or retired where that was asked
(R410, R427, R531). -/
def endGrace (s : State) : State :=
  let m := s.seat.mig
  when (m.state == .grace) (setRole m.kind m.src (if m.retire then 4 else 2) 0) s

/-- The role that a warm reset takes: a secondary locks to the forwarded reference and waits for a sync word; any other
instance runs on a reference of its own (R55, R57, R60), and its counter, where it still waited for a sync word, begins
(R40). -/
def startBridge (s : State) : State :=
  let b := bridgeFrom s
  let s1 := s.setBridge { b with lastSync := now s, syncDue := now s + estP }
  if b.role = 2 then
    when (s1.tb.sel != 2) (switchRef .bridge) (s1.setTb { s1.tb with bridgeOk := true, hold := false, expired := false })
  else
    let s2 := ownRef s1
    when (s2.boot.lockAt.isSome && !s2.tb.running) (fun s => calRestart (s.setTb { s.tb with running := true })) s2

/-- What the warm reset starts again, with what each mechanism carries over (R531). -/
def warmBegin (s7 : State) : State :=
  let s8 := s7.setTherm { therm0 with dFail := s7.therm.dFail, tFail := s7.therm.tFail, cyc := s7.therm.cyc, peaked := s7.therm.peaked }
  let s9 := (s8.setCap { capLoop0 with acc := s8.cap.acc, grp := s8.cap.grp, subst := s8.cap.subst }).setBlk { blanket0 with acc := s8.blk.acc }
  let s10 := (modPlan (fun p => { p with kept := false, prevT := [], prevB := [], reverted := false }) (endGrace s9)).setSeat
    { seat0 with mig := { mig0 with seq := s9.seat.mig.seq }, recNow := s9.seat.recNow, recs := s9.seat.recs, tag := s9.seat.tag,
                 scrubN := s9.seat.scrubN, scrubOk := s9.seat.scrubOk, wearAt := s9.seat.wearAt, pend := s9.seat.pend, answers := s9.seat.answers }
  let s11 := forEach (upto 4) (fun d => setField (talO (Reg.TAL_VERD d)) 3 0 0)
    (setLive (talO Reg.TAL_SETSTAT) 0 (setLive (thmO Reg.THM_STVFACT) (resetAt s10.params (thmO Reg.THM_STVFACT)) (s10.setLnk links0)))
  let s12 := forEach (upto 9) (fun u => setLive (talO (Reg.TAL_SETID u)) 0) s11
  let s13 := (startBridge s12).setPorts { s12.ports with sel := (cfg s12 (hostO Reg.HOST_SECCFG)).bit 0, out := [] }
  let s14 := bump (genO Reg.GEN_WRESETS) (s13.setBoot { boot0 with cold := false, lockAt := s13.boot.lockAt, resetAt := some (now s13) })
  enterLoad (forEach (upto (sectors s14)) placeEngine s14)

/-- The warm reset (R531). Whatever else comes in its tick is dropped (R548, `awake`). -/
def warmReset (s : State) : State := warmBegin (clearInstalled (warmDrop s))

/-! ### Commands and status (R551) -/

/-- `GEN_BOOTCMD`. -/
def bootCommand (w : Word) (s : State) : State :=
  let st := s.boot.state
  match w.field 2 0 with
  | 1 => if st = .await && s.regs.frozen.isNone then safeProfile s else refuse 0x00 s
  | 2 => if st = .await || st = .sense || st = .power || st = .up then shutDown s else refuse 0x00 s
  | 3 => if st = .stopped then enterPower s else refuse 0x00 s
  | 4 => if w.field 15 8 = 0x5A then warmReset s else refuse 0x00 s
  | _ => s

def execGenBootcmdSafeProfile (a : Access) (s : State) := act s (reaches s a) (secureCmd a (bootCommand 1) s)
def execGenBootcmdShutdown (a : Access) (s : State) := act s (reaches s a) (secureCmd a (bootCommand 2) s)
def execGenBootcmdRestart (a : Access) (s : State) := act s (reaches s a) (secureCmd a (bootCommand 3) s)
def execGenBootcmdWarmReset (a : Access) (key : Byte) (s : State) :=
  act s (reaches s a) (secureCmd a (bootCommand (BitVec.ofNat 32 (4 + 256 * key.toNat))) s)

/-- The code of R532. -/
def bootCode (b : BootState) : Nat :=
  match b with
  | .lock => 0
  | .load => 1
  | .check => 2
  | .await => 3
  | .sense => 4
  | .power => 5
  | .up => 6
  | .stopping => 7
  | .stopped => 8

/-- `GEN_BOOT`. -/
def bootStat (s : State) : Word :=
  let b := s.boot
  BitVec.ofNat 32 (bootCode b.state + 0x10 * b2n b.safe + 0x20 * b2n b.cold + 0x40 * b2n b.forced + 0x100 * b.cause + 0x10000 * b.page)

end Sys2Proof.Machine
end

