-- ==== Sys2Proof/Machine/Clock.lean ====
section
/-! DEFINITION. The end of a tick: what the times that ran out in it bring, once the tick's events have come (R45, R47), and
the roles, requests and answers that wait for it. -/

namespace Sys2Proof.Machine

/-- What the times that ran out in the tick bring, in one order: the domains whose quiet periods ended begin recovery in
slot order (R491). -/
def lateOrder (s : State) : List Late :=
  [.joinWait, .bridge, .holdover, .discovery, .storeOp] ++ (upto 4).map .push ++ [.copy, .grace] ++ (upto (groupCount s.params)).map .idle ++
    (upto 4).map .uv ++ (upto 4).map .pg ++ (upto 80).map .overload ++ [.shutdown] ++
    (upto (4 * sectors s)).map .spare ++ (slotOrder s).map .quiet ++ [.chipQuiet]

def timeOver (l : Late) (s : State) : State :=
  match l with
  | .joinWait => joinOver s
  | .bridge => bridgeOver s
  | .holdover => holdoverOver s
  | .discovery => discOver s
  | .storeOp => opOver s
  | .push q => pushOver q s
  | .copy => copyOver s
  | .grace => graceOver s
  | .idle g => idleOver g s
  | .uv d => uvOver d s
  | .pg d => pgOver d s
  | .overload ch => overloadOver ch s
  | .shutdown => shutOver s
  | .spare g => spareOver g s
  | .quiet d => quietOver d s
  | .chipQuiet => chipOver s

/-- The end of the tick for what ran out in it, then for the link requests that follow (R45, R544). -/
def endTimes (s : State) : State :=
  lateRequests (if s.late.isEmpty then s
    else ((lateOrder s).filter s.late.contains).foldl (fun s l => timeOver l s) (s.setLate []))

/-- What the end of the tick brings: a sync word missed, what ran out, and the converter roles lost in the tick. -/
def settle (s : State) : State := serveOwed (endTimes (missedSync (estP / 2) s))

/-- The end of the tick has something to bring. -/
def waiting (s : State) : Bool :=
  !s.late.isEmpty || !s.adcOwed.isEmpty || !s.lnk.reqs.isEmpty || syncMissed (estP / 2) s

/-- An RC word, or one bit of it, has been read in this tick (R90). -/
def wasSeen (s : State) (off : Nat) (bit : Option Nat) : Bool :=
  s.regs.seen.contains (off, none) || (bit.isSome && s.regs.seen.contains (off, bit))

/-- The state that a read of an RC word shows: the events of its tick come first, those of the times that run out in it
among them (R90), and what a read of this tick has shown and cleared is not shown again. -/
def shownBy (s : State) (off : Nat) (bit : Option Nat) : State :=
  if waiting s && !wasSeen s off bit then settle s else s

/-- A read notes what it has shown before the end of its tick. -/
def noteSeen (off : Nat) (bit : Option Nat) (s : State) : State :=
  when (waiting s) (modRegs (fun r => { r with seen := r.seen ++ [(off, bit)] })) s

/-- After the end of the tick, what its reads have shown and cleared stays as they left it. -/
def keepSeen (before s : State) : State :=
  modRegs (fun r => { r with seen := [] }) (before.regs.seen.foldl (fun s e => match e.2 with
    | none => setLive e.1 (live before e.1) s
    | some b => setLive e.1 ((live s e.1).put b b (b2n ((live before e.1).bit b))) s) s)

/-- The end of a tick. -/
def endTick (s : State) : State := if s.regs.seen.isEmpty then settle s else keepSeen s (settle s)

end Sys2Proof.Machine
end

