-- ==== Sys2Proof/Machine/Registers.lean ====
section
/-! DEFINITION. The block window as the host ports see it (R61 to R67, R88 to R96, R572 to R579): where an access goes,
what each word reads as, what a read and a write of it do, and snapshots. -/

namespace Sys2Proof.Machine

/-! ### Resolving an address (R94, R95, R576) -/

/-- The canonical block offset of an offset in the register pages. -/
def canonical (off : Nat) : Nat :=
  let page := off / 0x1000
  let word := off % 0x400 / 4 * 4
  if 0x24 ≤ page && page ≤ 0x3F then pg (0x20 + page % 4) word
  else if 0xC0 ≤ page then pg (page - 0x40) word
  else if page = 0x0F then pg page (word % 0x200)
  else pg page word

/-- The register at a canonical offset; the channel words beyond a domain's channels are unused (R295, R15). -/
def placed (p : Params) (off : Nat) : Option (Row × Nat × PageType × Nat) :=
  match regAt p off with
  | some (r, k, t, i) => if t = .stg && r.off = Reg.STG_CH 0 && domCh i ≤ k then none else some (r, k, t, i)
  | none => none

/-- `TYPE` of R574. -/
def typeCode (t : PageType) : Nat :=
  match t with
  | .gen => 1 | .tb => 2 | .flt => 3 | .arb => 4 | .pwr => 5 | .thm => 6 | .cal => 7 | .tal => 8 | .trail => 9
  | .seat => 10 | .blk => 11 | .lnk => 12 | .host => 13 | .dbg => 14 | .bridge => 15 | .test => 16 | .qd => 17
  | .adc => 18 | .stg => 19 | .sec => 20 | .clu => 21

def pageId (t : PageType) (i : Nat) : Word := BitVec.ofNat 32 (typeCode t + 0x100 * i + 0x10000)

/-- `PAGE_CAP` (R576): the nine common words and the page's own, its `PAGE_CTL` counted once. -/
def pageCap (t : PageType) (i : Nat) : Word :=
  let own := ((RegTable.rows t).filter (fun r => r.off != 0x008)).foldl (fun n r => n + r.count) 0
  let words := 9 + own - (if t = .stg then 48 - domCh i else 0)
  let secure := (RegTable.rows t).any (fun r => r.acc == .rws || r.acc == .ros)
  let edge := if t = .sec || t = .clu then 1 else if t = .stg then 2 else if t = .pwr then 4 else if t = .thm then 5 else 3
  BitVec.ofNat 32 (words + 0x200 * b2n (t == .test) + 0x400 * b2n secure + 0x800 * edge)

/-! ### Words formed when they are read -/

/-- The words that are formed from the state of a mechanism, by page type, instance, first offset and index; none for
a word that the live registers hold. -/
def formedGen (s : State) (o : Nat) : Option Word :=
  if o = Reg.GEN_BUILD then some (BitVec.ofNat 32 (sectors s + 0x100 * (2 ^ quads s - 1) + 0x1000))
  else if o = Reg.GEN_PEND then some (BitVec.ofNat 32 (Nat.min s.regs.pend.length 65535 +
    0x10000 * b2n (s.regs.frozen.isSome || s.regs.startSet.isSome)))
  else if o = Reg.GEN_BOOT then some (bootStat s)
  else none

def formedArb (s : State) (o k : Nat) : Option Word :=
  if o = Reg.ARB_QSTAT 0 then some (arbQstat s k)
  else if o = Reg.ARB_LFSR 0 then some (arbLfsr s k)
  else if o = Reg.ARB_BKOFF then some (arbBkoff s)
  else if o = Reg.ARB_LOCKS then some (arbLocks s)
  else if o = Reg.ARB_GRANTS 0 then some (arbCount s k 0)
  else if o = Reg.ARB_WAITLO 0 then some (arbCount s k 1)
  else if o = Reg.ARB_WAITHI 0 then some (arbCount s k 2)
  else if o = Reg.ARB_WAITMAX 0 then some (arbCount s k 3)
  else none

def formedPwr (s : State) (o : Nat) : Option Word :=
  if o = Reg.PWR_STAT then some (pwrStat s)
  else if o = Reg.PWR_ENERGY_LO then some (microLo s.cap.acc)
  else if o = Reg.PWR_ENERGY_HI then some (microHi s.cap.acc)
  else if o = Reg.PWR_GRP_LO then some (if s.bridge.role = 1 then microLo s.cap.grp else 0)
  else if o = Reg.PWR_GRP_HI then some (if s.bridge.role = 1 then microHi s.cap.grp else 0)
  else none

def formedThm (s : State) (o k : Nat) : Option Word :=
  if o = Reg.THM_STAT then some (thmStat s)
  else if o = Reg.THM_DFAIL 0 then some (thmDfail s k)
  else if o = Reg.THM_TFAIL then some (thmTfail s)
  else if o = Reg.THM_THERM 0 then some (thmThermWord s k)
  else none

def formedCal (s : State) (o : Nat) : Option Word :=
  if o = Reg.CAL_STAT then some (calStat s)
  else if o = Reg.CAL_SECTORS then some (calSectors s)
  else if o = Reg.CAL_FREE then some (calFree s)
  else if o = Reg.CAL_WRPTR then some (BitVec.ofNat 32 (s.cal.ptr % 128))
  else if o = Reg.CAL_NEXTSEQ then some (BitVec.ofNat 32 s.cal.seq)
  else if o = Reg.CAL_ERASEMIN then some (calEraseMin s)
  else if o = Reg.CAL_ERASEMAX then some (calEraseMax s)
  else if o = Reg.CAL_DIRSEQ then some (calDirSeq s)
  else if o = Reg.CAL_DIRLOC then some (calDirLoc s)
  else if o = Reg.CAL_DIRAGE then some (calDirAge s)
  else if o = Reg.CAL_QUEUE then some (calQueueWord s)
  else if o = Reg.CAL_POWERED_LO then some (BitVec.ofNat 32 s.cal.powered)
  else if o = Reg.CAL_POWERED_HI then some (BitVec.ofNat 32 (s.cal.powered / 0x100000000))
  else if o = Reg.CAL_HAMPER_CELL then some (hamperCell s)
  else if o = Reg.CAL_HAMPER_ENG then some (hamperEng s)
  else if o = Reg.CAL_HAMPER_STG then some (hamperStg s)
  else if o = Reg.CAL_HAMPER_MISC then some (hamperMisc s)
  else if o = Reg.CAL_HAMPER_TB then some (hamperTb s)
  else if o = Reg.CAL_STCMDSTAT then some (calStcmdStat s)
  else none

def formedSeat (s : State) (o k : Nat) : Option Word :=
  if o = Reg.SEAT_EPOCH then some (seatEpoch s)
  else if o = Reg.SEAT_MIGSTAT then some (seatMigstat s)
  else if o = Reg.SEAT_MIGSRC then some (seatMigsrc s)
  else if o = Reg.SEAT_SCRUBSTAT then some (seatScrubstat s)
  else if o = Reg.SEAT_GSTATE 0 then some (seatGstate s k)
  else none

def formedBlk (s : State) (o : Nat) : Option Word :=
  if o = Reg.BLK_STAT then some (blkStat s)
  else if o = Reg.BLK_LEVEL then some (blkLevel s)
  else if o = Reg.BLK_FENERGY_LO then some (microLo s.blk.acc)
  else if o = Reg.BLK_FENERGY_HI then some (microHi s.blk.acc)
  else none

/-- `HOST_I3CSTAT` (R571). -/
def i3cStat (s : State) : Word :=
  let t := s.ports.target
  BitVec.ofNat 32 (t.da.toNat + 0x80 * b2n t.daValid + 0x100 * b2n t.enint + 0x200 * s.params.i3cSaddr.toNat)

def formedHost (s : State) (o k : Nat) : Option Word :=
  if o = Reg.HOST_SECSTAT then
    some (BitVec.ofNat 32 (b2n s.ports.sel + 2 * b2n ((shadowOf s (hostO Reg.HOST_SECCFG)).bit 0 != s.ports.sel)))
  else if o = Reg.HOST_I3CSTAT then some (i3cStat s)
  else if o = Reg.HOST_IBISTAT then some (ibiStat s)
  else if o = Reg.HOST_JOBID 0 then some (jobWord s k 0)
  else if o = Reg.HOST_JOBST 0 then some (jobWord s k 1)
  else if o = Reg.HOST_JOBE_LO 0 then some (jobWord s k 2)
  else if o = Reg.HOST_JOBE_HI 0 then some (jobWord s k 3)
  else none

def formedStg (s : State) (d o : Nat) : Option Word :=
  if o = Reg.STG_STAT then some (stgStat s d)
  else if o = Reg.STG_REF then some (stgRef s d)
  else if o = Reg.STG_INTEG then some (BitVec.ofNat 32 (unsigned 32 (stage s d).integ))
  else if o = Reg.STG_CHACT0 then some (stgMap (fun l => (stage s d).active.contains l) 0)
  else if o = Reg.STG_CHACT1 then some (stgMap (fun l => (stage s d).active.contains l) 1)
  else if o = Reg.STG_CHFAIL0 then some (stgMap (fun l => decide (l < domCh d) && (stgCh s (domBase d + l)).failed) 0)
  else if o = Reg.STG_CHFAIL1 then some (stgMap (fun l => decide (l < domCh d) && (stgCh s (domBase d + l)).failed) 1)
  else if o = Reg.STG_WEARAH then some (stgWearAh s d)
  else if o = Reg.STG_WEARRUN then some (stgWearRun s d)
  else if o = Reg.STG_RPROF then some (stgRprof s d)
  else none

def formedSec (s : State) (sc o k : Nat) : Option Word :=
  let x := sec s sc
  if o = Reg.SEC_STAT then some (secStat s sc)
  else if o = Reg.SEC_INT 0 then some (BitVec.ofNat 32 (unsigned 24 (clu s (4 * sc + k)).integ))
  else if o = Reg.SEC_EREF then some (BitVec.ofNat 32 (satN 16 x.eRef))
  else if o = Reg.SEC_PLAUSRUN then some (BitVec.ofNat 32 (Nat.min x.disRun 255 + 0x10000 * Nat.min x.agrRun 65535))
  else if o = Reg.SEC_PROF then some (secProf s sc)
  else if o = Reg.SEC_SP then some (secSp s sc)
  else if o = Reg.SEC_SWST then some (secSwst s sc)
  else none

def formedClu (s : State) (sc o k : Nat) : Option Word :=
  let c := clu s (4 * sc + k)
  if o = Reg.CLU_STAT 0 then some (cluStat s (4 * sc + k))
  else if o = Reg.CLU_K 0 then some (BitVec.ofNat 32 c.k)
  else if o = Reg.CLU_BAND 0 then some (BitVec.ofNat 32 (c.centre % 0x1000 + 0x10000 * c.half))
  else if o = Reg.CLU_LEGMAP then some (legMap s (64 * sc + (live s (cluO sc Reg.CLU_LEGSEL)).field 5 0))
  else if o = Reg.CLU_WEARAH then some (wearAh s sc)
  else if o = Reg.CLU_WEARTC then some (wearTc s sc)
  else if o = Reg.CLU_WEARDUTY then some (wearDuty s sc)
  else if o = Reg.CLU_ROTAGE then some (rotAge s sc)
  else if o = Reg.CLU_CELL 0 then some (cellWord s (64 * sc + k))
  else none

def formed (s : State) (t : PageType) (i o k : Nat) : Option Word :=
  match t with
  | .gen => formedGen s o
  | .tb => if o = Reg.TB_TICK_LO then some (tickLo s) else if o = Reg.TB_TICK_HI then some (tickHi s)
    else if o = Reg.TB_REFSTAT then some (refStat s) else none
  | .flt => if o = Reg.FLT_STAT then some (fltStat s) else if o = Reg.FLT_DOM 0 then some (fltDom s k) else none
  | .arb => formedArb s o k
  | .pwr => formedPwr s o
  | .thm => formedThm s o k
  | .cal => formedCal s o
  | .tal => if o = Reg.TAL_STAT then some (talStat s) else none
  | .trail => if o = Reg.TRAIL_HT 0 then some (if k < quads s then trailHt s k else 0) else none
  | .seat => formedSeat s o k
  | .blk => formedBlk s o
  | .lnk => if o = Reg.LNK_STAT then some (lnkStat s) else if o = Reg.LNK_GSTATE then some (lnkGstate s)
    else if o = Reg.LNK_DCLS then some (lnkDcls s) else if o = Reg.LNK_MISMATCH then some (lnkMismatch s) else none
  | .host => formedHost s o k
  | .dbg => if o = Reg.DBG_STAT then some (dbgStat s) else none
  | .bridge => if o = Reg.BRIDGE_STAT then some (bridgeStat s) else none
  | .test => none
  | .qd => if o = Reg.QD_STAT then some (qdStat s i) else if o = Reg.QD_INRUSH_USE then some (inrushUse s i) else none
  | .adc => if o = Reg.ADC_STAT then some (adcStat s i) else if o = Reg.ADC_CAL then some (adcCal s i) else none
  | .stg => formedStg s i o
  | .sec => formedSec s i o k
  | .clu => formedClu s i o k

/-! ### What a word reads as -/

/-- A port's reads return the value in effect (R67). -/
def rdActive (s : State) (p : Port) : Bool :=
  (live s (genO Reg.GEN_RDSEL)).bit (match p with
    | .fabric => 0
    | .i3c => 1)

/-- A word of the common layout (R65, R575, R576). -/
def commonWord (s : State) (t : PageType) (i off : Nat) : Word :=
  let o := off % 0x1000
  if o = 0x000 then pageId t i
  else if o = 0x004 then pageCap t i
  else if o = PAGE_STAT || o = PAGE_FLT || o = PAGE_PARITY || o = PAGE_EPOCH then live s off
  else if o = PAGE_SNAPSEQ then live s (genO Reg.GEN_SNAPSEQ)
  else 0

/-- What a permitted read of the word at a canonical offset returns (R16, R67, R580). -/
def viewWord (s : State) (p : Port) (off : Nat) : Word :=
  match placed s.params off with
  | some (r, k, t, i) =>
    match r.acc with
    | .wo | .w1p => 0
    | .rw | .rws =>
      if r.cls = .imm then asRead s.params off (live s off)
      else asRead s.params off (if rdActive s p then activeOf s off else shadowOf s off)
    | .ro | .rc | .ros => (formed s t i r.off k).getD (live s off)
  | none =>
    match pageType s.params (off / 0x1000) with
    | some (t, i) => commonWord s t i off
    | none => 0

/-- The energy words of a job slot that has ENDED, which every master reads (R364, R372). -/
def endedEnergy (s : State) (t : PageType) (o k : Nat) : Bool :=
  t == .host && (o == Reg.HOST_JOBE_LO 0 || o == Reg.HOST_JOBE_HI 0) && jobEnded s k

/-- A secure-only word: RWS or ROS (R16). -/
def secureWord (s : State) (off : Nat) : Bool :=
  match placed s.params off with
  | some (r, k, t, _) => r.acc == .rws || (r.acc == .ros && !endedEnergy s t r.off k)
  | none => false

def rcWord (p : Params) (off : Nat) : Bool :=
  match placed p off with
  | some (r, _, _, _) => r.acc == .rc
  | none => (pageType p (off / 0x1000)).isSome &&
      (let o := off % 0x1000; o == PAGE_STAT || o == PAGE_FLT || o == PAGE_PARITY)

def resultWord (p : Params) (off : Nat) : Bool :=
  match placed p off with
  | some (r, _, _, _) => r.result
  | none => false

/-- A read of `FLT_PENDw`, or of one of its bits, ends the presence of the sources it shows (R484). -/
def pendSeen (off : Nat) (bit : Option Nat) (s : State) : State :=
  if fltO (Reg.FLT_PEND 0) ≤ off && off ≤ fltO (Reg.FLT_PEND 3) then
    let w := (off - fltO (Reg.FLT_PEND 0)) / 4
    match bit with
    | none => pendRead w s
    | some b => modFlt (fun f => { f with present := f.present.filter (fun p => p.1 != 32 * w + b) }) s
  else s

/-- The side effects of a read of a word, or of one of its bits through the alias window (R41, R53, R90, R92, R96). An alias
read of a bit of `TB_TICK_LO` captures and one of `TB_TICK_HI` takes the capture (DESIGN CHOICE, log entry 20: R41 and R96
do not name them). -/
def readEffect (p : Port) (wide : Bool) (bit : Option Nat) (off : Nat) (s : State) : State :=
  if off = tbO Reg.TB_TICK_LO then (if wide then s else capture p s)
  else if off = tbO Reg.TB_TICK_HI then (if wide then s else (readTickHi p s).2)
  else if rcWord s.params off then
    noteSeen off bit (pendSeen off bit (match bit with
      | none => setLive off (resetAt s.params off) s
      | some b => if off = tbO Reg.TB_SLACK_SEC || off = tbO Reg.TB_SLACK_OTH then s
          else setLive off ((live s off).put b b (b2n ((resetAt s.params off).bit b))) s))
  else if resultWord s.params off && (bit == none || bit == some 31) then setField off 31 31 0 s
  else s

/-- One word read: what it returns and the state after it. -/
def readWord (a : Access) (wide : Bool) (bit : Option Nat) (off : Nat) (s : State) : Word × State :=
  if secureWord s off && !secure s a then (0, s)
  else
    let v := if off = tbO Reg.TB_TICK_HI && !wide then (readTickHi a.port s).1
      else viewWord (if rcWord s.params off then shownBy s off bit else s) a.port off
    (v, readEffect a.port wide bit off s)

/-! ### Snapshots (R88, R89) -/

/-- The holding registers with the values that they copy. -/
def snapWords (s : State) : List (Nat × Word) :=
  [(tbO Reg.TB_SNAP_LO, tickLo s), (tbO Reg.TB_SNAP_HI, tickHi s), (tbO Reg.TB_SNAP_OVR, live s (tbO Reg.TB_OVR_CNT)),
   (fltO Reg.FLT_SNAP_RAISED, live s (fltO Reg.FLT_RAISED)), (fltO Reg.FLT_SNAP_DISCARDS, live s (fltO Reg.FLT_DISCARDS)),
   (pwrO Reg.PWR_SNAP_ELO, microLo s.cap.acc), (pwrO Reg.PWR_SNAP_EHI, microHi s.cap.acc),
   (pwrO Reg.PWR_SNAP_PTCHG, live s (pwrO Reg.PWR_PTCHG)),
   (thmO Reg.THM_SNAP_THROTTLES, live s (thmO Reg.THM_THROTTLES)), (thmO Reg.THM_SNAP_STEPS, live s (thmO Reg.THM_STEPS)),
   (calO Reg.CAL_SNAP_WRITES, live s (calO Reg.CAL_WRITES)),
   (talO Reg.TAL_SNAP_FCEVAL, live s (talO Reg.TAL_FCEVAL)), (talO Reg.TAL_SNAP_INVALID, live s (talO Reg.TAL_INVALID)),
   (talO Reg.TAL_SNAP_ARBSKIP, live s (talO Reg.TAL_ARBSKIP)),
   (seatO Reg.SEAT_SNAP_MIGS, live s (seatO Reg.SEAT_MIGS)), (seatO Reg.SEAT_SNAP_SCRUBS, live s (seatO Reg.SEAT_SCRUBS)),
   (blkO Reg.BLK_SNAP_COVERS, live s (blkO Reg.BLK_COVERS)),
   (blkO Reg.BLK_SNAP_FELO, microLo s.blk.acc), (blkO Reg.BLK_SNAP_FEHI, microHi s.blk.acc)] ++
  (upto 7).map (fun r => (arbO (Reg.ARB_SNAP_GRANTS r), arbGrantSum s r)) ++
  (upto 4).map (fun q => (trailO (Reg.TRAIL_SNAP_ARR q), live s (trailO (Reg.TRAIL_ARR q)))) ++
  (upto (quads s)).flatMap (fun q => [(qdO q Reg.QD_SNAP_PASSES, live s (qdO q Reg.QD_PASSES)),
    (qdO q Reg.QD_SNAP_ABORTS, live s (qdO q Reg.QD_ABORTS))]) ++
  (upto 12).map (fun n => (adcO n Reg.ADC_SNAP_CALS, live s (adcO n Reg.ADC_CALS))) ++
  (upto 4).flatMap (fun d => [(stgO d Reg.STG_SNAP_TRIPS, live s (stgO d Reg.STG_TRIPS)),
    (stgO d Reg.STG_SNAP_DECYC, live s (stgO d Reg.STG_DECYC))]) ++
  (upto (sectors s)).flatMap (fun i => [(secO i Reg.SEC_SNAP_SUSPECTS, live s (secO i Reg.SEC_SUSPECTS)),
    (secO i Reg.SEC_SNAP_COASTS, live s (secO i Reg.SEC_COASTS)),
    (cluO i Reg.CLU_SNAP_TAKEOVERS, live s (cluO i Reg.CLU_TAKEOVERS))]) ++
  (upto (4 * sectors s)).map (fun g => (cluO (g / 4) (Reg.CLU_SNAP_SCHUSS (g % 4)),
    live s (cluO (g / 4) (Reg.CLU_SCHUSS_CNT (g % 4)))))

/-- A snapshot; two in one tick make one. -/
def snapshot (s : State) : State :=
  if s.regs.snapAt = some (now s) then s
  else
    let s1 := (snapWords s).foldl (fun s e => setLive e.1 e.2 s) s
    setLive (genO Reg.GEN_SNAPSEQ) (live s (genO Reg.GEN_SNAPSEQ) + 1) (modRegs (fun r => { r with snapAt := some (now s) }) s1)

def execGenSnapGo (a : Access) (s : State) := act s (reaches s a) (hostCmd a snapshot s)

/-! ### Writes (R66, R96) -/

/-- A command register that acts only on a secure write. -/
def secureCommand (t : PageType) (o : Nat) : Bool :=
  !((t == .gen && (o == Reg.GEN_UPDATE || o == Reg.GEN_SNAP || o == Reg.GEN_SEAL)) || t == .blk || t == .lnk || t == .host ||
    (t == .seat && (o == Reg.SEAT_MIGACK || o == Reg.SEAT_WAKE)))

/-- What a write of a WO or W1P register does. -/
def command (t : PageType) (i o : Nat) (w : Word) (s : State) : State :=
  match t with
  | .gen =>
    if o = Reg.GEN_UPDATE then when (w.bit 0) (strobe true) s
    else if o = Reg.GEN_SNAP then when (w.bit 0) snapshot s
    else if o = Reg.GEN_SEAL then modRegs (fun r => { r with sealWord := w }) s
    else bootCommand w s
  | .flt => if o = Reg.FLT_CMD then fltCommand w s else fltInject w s
  | .thm => thmCommand w s
  | .cal => if o = Reg.CAL_CMD then calCommand w s else stCommand w [] s
  | .tal => talLoad w s
  | .trail => flushCmd (w.field 3 0) s
  | .seat => if o = Reg.SEAT_MIGACK then seatAck w s else if o = Reg.SEAT_CMD then seatCommand w s else seatWake w s
  | .blk => blkMessage w s
  | .lnk => if o = Reg.LNK_DISC then linkReport w s else linkRequest w s
  | .host => if o = Reg.HOST_JOBSTART then jobStart w s else jobEnd w s
  | .dbg => dbgCommand w s
  | .qd => urgCommand i w s
  | .adc => adcCommand i w s
  | .stg => stgCommand i w s
  | .sec => secCommand i w s
  | .clu => cellCommand i (w.field 10 8) (BitVec.ofNat 6 (w.field 5 0)) s
  | .tb | .arb | .pwr | .bridge | .test => s

/-- A share register of R357. -/
def shareWord (off : Nat) : Bool :=
  off == pwrO Reg.PWR_DSHARE || off == pwrO Reg.PWR_QSHARE || off == pwrO Reg.PWR_ISHARE

/-- The whole word that a write makes of a stored one: all of it, or one bit (R96). -/
def newWord (old : Word) (bit : Option Nat) (w : Word) : Word :=
  match bit with
  | none => w
  | some b => old.put b b (w.toNat % 2)

/-- A stored word takes a value by its apply class (R66). -/
def storeWord (c : Cls) (off : Nat) (bit : Option Nat) (w : Word) (s : State) : State :=
  match c with
  | .shadow =>
    if shareWord off && cfgB s (pwrO Reg.PWR_CTL) 0 then refuse 0x04 s
    else pendWrite off (storedBits s.params off (newWord (shadowOf s off) bit w)) s
  | .lc => lcWrite off (storedBits s.params off (newWord (shadowOf s off) bit w)) s
  | .nextStart => writeShadow off (storedBits s.params off (newWord (shadowOf s off) bit w)) s
  | .imm => setLive off (storedBits s.params off (newWord (live s off) bit w)) s
  | .none => s

/-- A write of a command register: through the alias window a 1 pulses its bit and a 0 does nothing, except that the
seal, which is held, takes its bit either way (R16, R96). A 0 written to a bit of `DBG_CMD` makes no command either (DESIGN
CHOICE, log entry 20: R577 makes every secure write a command, R96 lets only a 1 pulse). -/
def commandWord (t : PageType) (i o : Nat) (bit : Option Nat) (w : Word) (s : State) : State :=
  match bit with
  | none => command t i o w s
  | some b =>
    if t = .gen && o = Reg.GEN_SEAL then command t i o (newWord s.regs.sealWord (some b) w) s
    else if w.bit 0 || o = Reg.HOST_JOBSTART && t = .host || o = Reg.HOST_JOBEND && t = .host || o = Reg.SEAT_MIGACK && t = .seat then
      command t i o (newWord 0 (some b) w) s
    else s

/-- One word, or one bit of it, written. -/
def writeWord (a : Access) (bit : Option Nat) (off : Nat) (w : Word) (s : State) : State :=
  match placed s.params off with
  | none => s
  | some (r, _, t, i) =>
    match r.acc with
    | .ro | .rc | .ros => s
    | .rw => storeWord r.cls off bit w s
    | .rws => when (secure s a) (storeWord r.cls off bit w) s
    | .wo | .w1p => when (secure s a || !secureCommand t r.off) (commandWord t i r.off bit w) s

/-- A write that only the secure master may make: to an RWS or ROS word, or to a command register of its own. -/
def secureWrite (s : State) (off : Nat) : Bool :=
  secureWord s off || (match placed s.params off with
    | some (r, _, t, _) => r.acc == .w1p && secureCommand t r.off
    | none => false)

/-! ### Accesses (R61, R62, R93, R96, R560, R572, R573) -/

/-- A naturally aligned access of a permitted width with every byte enable set. -/
def formOk (f : Form) (widths : List Nat) : Bool :=
  f.full && widths.contains f.width && f.off.toNat % (f.width / 8) == 0

inductive Region where
  | regs | trail | model | seat | bits | unmapped
  deriving DecidableEq, Repr

def regionOf (f : Form) : Region :=
  let o := f.off.toNat
  if o < 0x100000 then .regs
  else if o < 0x104000 then .trail
  else if o < 0x200000 then .unmapped
  else if o < 0x240000 then .model
  else if o < 0x400000 then .unmapped
  else if o < 0x480000 then .seat
  else if o < 0x800000 then .unmapped
  else .bits

/-- The canonical words of a register access, lower first. -/
def regWords (f : Form) : List Nat :=
  if f.width = 64 then [canonical f.off.toNat, canonical (f.off.toNat + 4)] else [canonical f.off.toNat]

/-- The word and the bit that an alias offset names (R96). -/
def aliasOf (f : Form) : Nat × Nat :=
  let b := (f.off.toNat - 0x800000) / 4
  (canonical (b / 8), b / 8 % 4 * 8 + b % 8)

/-- An access by another than the secure master to a secure-only word is counted, once for the access (R93). -/
def noteAccess (a : Access) (touch : Nat → Bool) (words : List Nat) (s : State) : State :=
  when (!secure s a && words.any touch) (countNonsec a) s

/-- Words read in one tick, the lower first: their value and the state after them. -/
def readWords (a : Access) (wide : Bool) : List Nat → State → Nat × State
  | [], s => (0, s)
  | o :: r, s =>
    let (v, s1) := readWord a wide none o s
    let (u, s2) := readWords a wide r s1
    (v.toNat + 0x100000000 * u, s2)

/-- Words written in one tick, the lower first. -/
def writeWords (a : Access) : List Nat → Nat → State → State
  | [], _, s => s
  | o :: r, v, s => writeWords a r (v / 0x100000000) (writeWord a none o (BitVec.ofNat 32 v) s)

def okNat (a : Access) (v : Nat) (s : State) : State := respond a (.ok (BitVec.ofNat 128 v)) s

def readRegs (a : Access) (f : Form) (s : State) : State :=
  if formOk f [32, 64] then
    let s1 := noteAccess a (secureWord s) (regWords f) s
    let (v, s2) := readWords a (f.width == 64) (regWords f) s1
    okNat a v s2
  else formError a s

/-- A slot of a Trail window (R212); the window of an absent quadrant reads zero (R6). -/
def readTrail (a : Access) (f : Form) (s : State) : State :=
  let o := f.off.toNat - 0x100000
  if formOk f [128] then
    if quads s ≤ o / 0x1000 then okNat a 0 s
    else if !secure s a then okNat a 0 (countNonsec a s)
    else okNat a ((slotWords s (o / 0x1000) (o % 0x1000 / 16)).foldr (fun w t => w.toNat + 0x100000000 * t) 0) s
  else formError a s

/-- Model memory (R247). -/
def readModel (a : Access) (f : Form) (s : State) : State :=
  let o := f.off.toNat - 0x200000
  let n := f.width / 8
  if formOk f [32, 64, 128] then
    if secure s a then okNat a (leNat ((upto n).map (fun i => memRead s (o + i)))) s
    else okNat a 0 (when ((upto n).any (fun i => (stagingUnit (o + i)).isSome || installedArea (o + i))) (countNonsec a) s)
  else formError a s

/-- An offset of the seating-plan window at which R402 lists a word. -/
def seatListed (off : Nat) : Bool :=
  let o := off - 0x400000
  decide (o < 0x2000) || (decide (0x10000 ≤ o) && decide (o < 0x18000)) || (decide (0x20000 ≤ o) && decide (o < 0x28000)) ||
    (decide (0x40000 ≤ o) && decide (o < 0x41000)) || (decide (0x60000 ≤ o) && decide (o < 0x68000))

def readSeat (a : Access) (f : Form) (s : State) : State :=
  let o := f.off.toNat
  if formOk f [32, 64] then
    if secure s a then okNat a ((seatWordAt s o).toNat + (if f.width = 64 then 0x100000000 * (seatWordAt s (o + 4)).toNat else 0)) s
    else okNat a 0 (when (seatListed o) (countNonsec a) s)
  else formError a s

/-- The alias of one bit. -/
def readAlias (a : Access) (f : Form) (s : State) : State :=
  if formOk f [32] then
    let (o, b) := aliasOf f
    let s1 := noteAccess a (secureWord s) [o] s
    let (v, s2) := readWord a false (some b) o s1
    okNat a (b2n (v.bit b)) s2
  else formError a s

/-- A read of the block window. -/
def readAccess (a : Access) (f : Form) (s : State) : State :=
  match regionOf f with
  | .regs => readRegs a f s
  | .trail => readTrail a f s
  | .model => readModel a f s
  | .seat => readSeat a f s
  | .bits => readAlias a f s
  | .unmapped => formError a s

def writeRegs (a : Access) (f : Form) (data : Nat) (s : State) : State :=
  if formOk f [32, 64] then
    writeWords a (regWords f) data (respond a (.ok 0) (noteAccess a (secureWrite s) (regWords f) s))
  else formError a s

def writeAlias (a : Access) (f : Form) (data : Word) (s : State) : State :=
  if formOk f [32] then
    let (o, b) := aliasOf f
    writeWord a (some b) o data (respond a (.ok 0) (noteAccess a (secureWrite s) [o] s))
  else formError a s

/-- A write in the block window. -/
def writeAccess (a : Access) (f : Form) (data : BitVec 128) (s : State) : State :=
  match regionOf f with
  | .regs => writeRegs a f data.toNat s
  | .trail => trailWrite a f data s
  | .model => modelWrite a f data s
  | .seat => seatWrite a f (data.setWidth 64) s
  | .bits => writeAlias a f (data.setWidth 32) s
  | .unmapped => formError a s

/-- An atomic add (R62): the sum of what the read returns and the operand is written, in one access. -/
def addAccess (a : Access) (f : Form) (data : Nat) (s : State) : State :=
  if regionOf f = .regs && formOk f [32, 64] then
    let touch := secureWrite s
    let (v, s1) := readWords a (f.width == 64) (regWords f) (noteAccess a touch (regWords f) s)
    writeWords a (regWords f) (v + data) (okNat a v s1)
  else formError a s

def execRegisterWrite (a : Access) (f : Form) (data : BitVec 64) (s : State) :=
  act s (reaches s a) (writeAccess a f (data.setWidth 128) s)

/-- There is no atomic add over I3C (R566). -/
def execAtomicAdd (a : Access) (f : Form) (data : BitVec 64) (s : State) :=
  act s (a.port == .fabric) (addAccess a f data.toNat s)

def execBitAliasWrite (a : Access) (f : Form) (data : Word) (s : State) :=
  act s (reaches s a && regionOf f == .bits) (writeAlias a f data s)

def execRcRegisterRead (a : Access) (f : Form) (s : State) := act s (reaches s a) (readAccess a f s)

def execResultRegisterRead (a : Access) (f : Form) (s : State) := act s (reaches s a) (readAccess a f s)

end Sys2Proof.Machine
end

