-- ==== Sys2Proof/Machine/I3c.lean ====
section
/-! DEFINITION. The I3C target port (R565 to R567): common command codes, private transfers, errors. -/

namespace Sys2Proof.Machine

def modI3c (f : I3c → I3c) (s : State) : State := s.setPorts { s.ports with target := f s.ports.target }

/-- The access that the port makes for its controller (R560, R564). -/
def i3cAccess : Access := { port := .i3c, attr := false, chip := 0, tile := 0 }

/-- The port takes a transfer: it is enabled and outside HDR, and the data of a private write has all arrived, since the bus
carries one transfer at a time (R565, R566, R571). -/
def listens (s : State) : Bool :=
  cfgB s (hostO Reg.HOST_I3CCFG) 0 && !s.ports.target.hdr && s.ports.target.data.isNone

/-- A transfer addressed to the port's dynamic address reaches it. -/
def addressed (s : State) : Bool := listens s && s.ports.target.daValid

/-- The port answers with bytes. -/
def answer (l : List Byte) (s : State) : State :=
  let s1 := respond i3cAccess (.ok 0) s
  modI3c (fun t => { t with answer := l }) s1

/-! ### Common command codes (R565) -/

/-- `ENINT` is bit 0 of the event byte. -/
def execI3cEnec (direct : Bool) (events : Byte) (s : State) :=
  act s (if direct then addressed s else listens s) (modI3c (fun t => { t with enint := t.enint || events.getLsbD 0 }) s)

def execI3cDisec (direct : Bool) (events : Byte) (s : State) :=
  act s (if direct then addressed s else listens s) (modI3c (fun t => { t with enint := t.enint && !events.getLsbD 0 }) s)

def execI3cRstdaa (s : State) := act s (listens s) (modI3c (fun t => { t with da := 0, daValid := false }) s)

/-- The port takes a dynamic address. -/
def takeAddr (addr : BitVec 7) (s : State) : State := modI3c (fun t => { t with da := addr, daValid := true }) s

/-- A target that has no dynamic address takes part. -/
def execI3cEntdaa (addr : BitVec 7) (s : State) := act s (listens s && !s.ports.target.daValid) (takeAddr addr s)

def execI3cSetdasa (static addr : BitVec 7) (s : State) :=
  act s (listens s && !s.ports.target.daValid && static == s.params.i3cSaddr) (takeAddr addr s)

def execI3cSetnewda (addr : BitVec 7) (s : State) := act s (addressed s) (takeAddr addr s)

/-- A length within its range is held; for any other the spec keeps the range and states no value (log entry 10). -/
def heldLength (lo hi len : Nat) : Nat :=
  if decide (lo ≤ len) && decide (len ≤ hi) then len else Nat.max lo (Nat.min hi (Config.i3cLength len))

def execI3cSetmwl (len : BitVec 16) (s : State) :=
  act s (listens s) (modI3c (fun t => { t with mwl := heldLength 9 69 len.toNat }) s)

def execI3cSetmrl (len : BitVec 16) (s : State) :=
  act s (listens s) (modI3c (fun t => { t with mrl := heldLength 5 65 len.toNat }) s)

/-- The `n` bytes of a number, most significant first, as I3C Basic sends them (PRESUMED, log entry 15). -/
def bytesBE (n v : Nat) : List Byte := (upto n).map (fun i => BitVec.ofNat 8 (v / 256 ^ (n - 1 - i)))

def execI3cGetmwl (s : State) := act s (addressed s) (answer (bytesBE 2 s.ports.target.mwl) s)

/-- The maximum read length and the IBI payload of 4 bytes. -/
def execI3cGetmrl (s : State) := act s (addressed s) (answer (bytesBE 2 s.ports.target.mrl ++ [4]) s)

/-- The provisional ID. -/
def provisionalId (s : State) : Nat :=
  s.params.i3cMfgid.toNat * 2 ^ 33 + 0x0F64 * 2 ^ 16 + cfgF s (bridgeO Reg.BRIDGE_CTL) 3 2 * 2 ^ 12

def execI3cGetpid (s : State) := act s (addressed s) (answer (bytesBE 6 (provisionalId s)) s)

def execI3cGetbcr (s : State) := act s (addressed s) (answer [0x06] s)

def execI3cGetdcr (s : State) := act s (addressed s) (answer [s.params.i3cDcr] s)

/-- Interrupt outstanding, protocol error, start state. -/
def i3cStatus (s : State) : Nat :=
  b2n s.flt.ibi.isSome + 0x20 * b2n s.ports.target.protErr + 0x1000 * bootCode s.boot.state

def execI3cGetstatus (s : State) :=
  act s (addressed s) (modI3c (fun t => { t with protErr := false }) (answer (bytesBE 2 (i3cStatus s)) s))

def execI3cEnthdr (s : State) := act s (listens s) (modI3c (fun t => { t with hdr := true }) s)

def execI3cHdrExit (s : State) := act s true (modI3c (fun t => { t with hdr := false }) s)

/-! ### Errors (R566, R567) -/

/-- `HOST_I3C_ERR` raised and counted in the given half of `HOST_I3CERR`. -/
def i3cRaise (det hi lo : Nat) (s : State) : State :=
  raiseOn Src.HOST_I3C_ERR det 0x0C 1 (bumpF (hostO Reg.HOST_I3CERR) hi lo s)

/-- A form error: no effect but its counts, its source, and the status that the next private read returns. -/
def i3cForm (s : State) : State :=
  modI3c (fun t => { t with fetch := none, reply := some [0x01] })
    (i3cRaise 8 31 16 (bumpF (genO Reg.GEN_ACCERR) 7 0 s))

/-- A target error TE0 to TE6. The port recovers as I3C Basic lays down (PRESUMED, log entry 15): after TE0 and TE1 it
ignores the bus until the HDR exit pattern, after the others until the end of the transfer, which nothing of it outlives. -/
def targetError (n : Nat) (s : State) : State :=
  modI3c (fun t => { t with protErr := true, hdr := decide (n < 2) || t.hdr }) (i3cRaise n 15 0 s)

/-- An error on the bus. A direct common command code that R565 does not list is NACKed, a broadcast one ignored. -/
def execI3cError (kind : I3cFault) (s : State) :=
  match kind with
  | .te n => act s (listens s && decide (n < 7)) (targetError n s)
  | .form => act s (listens s) (i3cForm s)
  | .unlisted direct => act s (addressed s && direct) (respond i3cAccess .nack s)

/-! ### Private transfers (R566) -/

/-- The header of a private write: `OP`, block offset, `COUNT`. -/
structure Header where
  op    : Nat
  off   : Nat
  count : Nat
  deriving DecidableEq, Repr

def headerOf : List Byte → Option (Header × List Byte)
  | op :: a :: b :: c :: n :: rest => some (⟨op.toNat, a.toNat + 0x100 * b.toNat + 0x10000 * c.toNat, n.toNat⟩, rest)
  | _ => none

def Header.bad (h : Header) : Bool :=
  !(h.op == 1 || h.op == 2) || h.off % 4 != 0 || h.count == 0 || decide (16 < h.count)

/-- A 32-bit access at a block offset, which wraps within the window. -/
def wordForm (off : Nat) : Form := { off := BitVec.ofNat 24 off, width := 32, full := true }

/-- The bus time of a word's 36 bits at the highest rate of R565, in ticks: the spacing of the words of a private write
(DESIGN CHOICE, log entry 49: the controller sets the rate, and the table has no row for a byte on the bus). -/
abbrev wordTicks : Nat := 3600

/-- The next word of a private write has arrived: one access, stamped in this tick. A word cut short is discarded. -/
def writeData (off : Nat) (bytes : List Byte) (s : State) : State :=
  match bytes with
  | a :: b :: c :: d :: rest =>
    writeAccess i3cAccess (wordForm off) (BitVec.ofNat 128 (leNat [a, b, c, d]))
      (modI3c (fun t => { t with data := if rest.length < 4 then none else some ⟨off + 4, rest, now s + wordTicks⟩ }) s)
  | _ => modI3c (fun t => { t with data := none }) s

/-- The data of a private write whose next word arrives in this tick. -/
def i3cData (s : State) : State :=
  match s.ports.target.data with
  | some x => when (decide (x.due ≤ now s)) (writeData x.off x.bytes) s
  | none => s

/-- A private write that reaches the port. A header cut short is discarded. -/
def privateWrite (bytes : List Byte) (s : State) : State :=
  if s.ports.target.mwl < bytes.length then i3cForm s
  else match headerOf bytes with
  | none => s
  | some (h, rest) =>
    if h.bad then i3cForm s
    else if h.op = 1 then
      modI3c (fun t => { t with reply := none, fetch := some { off := h.off, left := h.count, from0 := now s, bytes := [], bad := false } }) s
    else writeData h.off (rest.take (4 * h.count)) (respond i3cAccess (.ok 0) s)

def execI3cPrivateWrite (bytes : List Byte) (s : State) := act s (addressed s) (privateWrite bytes s)

def execI3cReadHeader (bytes : List Byte) (s : State) := act s (addressed s) (privateWrite bytes s)

/-- The data of the port's last access, little-endian; zeros after an error. -/
def lastData (s : State) : List Byte :=
  match s.ports.i3c with
  | .ok d => wordBytes (d.setWidth 32)
  | _ => [0, 0, 0, 0]

/-- In each tick after its header's, a read takes one word; after the last the reply stands ready with its status. -/
def i3cFetch (s : State) : State :=
  match s.ports.target.fetch with
  | none => s
  | some f =>
    if now s ≤ f.from0 then s
    else
      let s1 := readAccess i3cAccess (wordForm f.off) s
      let bytes := f.bytes ++ lastData s1
      let bad := f.bad || s1.ports.i3c == .error
      if f.left ≤ 1 then
        modI3c (fun t => { t with fetch := none, reply := some (bytes ++ [if bad then 0x01 else 0x00]) }) s1
      else modI3c (fun t => { t with fetch := some { f with off := f.off + 4, left := f.left - 1, bytes := bytes, bad := bad } }) s1

/-- A private read: NACKed while the words are on their way, else the reply up to the maximum read length, or the single
status byte `0x02`. -/
def privateRead (s : State) : State :=
  let t := s.ports.target
  if t.fetch.isSome then respond i3cAccess .nack (modI3c (fun t => { t with answer := [] }) s)
  else match t.reply with
    | some l => modI3c (fun t => { t with reply := none }) (answer (l.take t.mrl) s)
    | none => answer [0x02] s

def execI3cPrivateRead (s : State) := act s (addressed s) (privateRead s)

/-! ### One tick -/

/-- A domain cleared by the host in the tick before receives its START (R492), unless a new fault has taken it off. -/
def clearedStarts (s : State) : State :=
  forEach (upto 4) (fun d s => match (stage s d).startDue with
    | some t => when (decide (t ≤ now s)) (fun s =>
        when ((recov s d).state == .normal) (startDomain d) (modStage d (fun x => { x with startDue := none }) s)) s
    | none => s) s

/-- The timers and the running counter go on by one tick. -/
def advance (s : State) : State :=
  s.setTb { s.tb with
    elapsed := s.tb.elapsed + 1
    tick := if s.tb.running then s.tb.tick + 1 else s.tb.tick }

/-- The end of a tick: the words of the I3C port, what the tick's end brings, the answers of the lookup ports, and the
initiator's writes of the tick, which have gone. -/
def finishTick (s : State) : State :=
  let s1 := formAnswers (endTick (i3cData (i3cFetch s)))
  if s1.ports.out.isEmpty then s1 else s1.setPorts { s1.ports with out := [] }

/-- A tick of `CK125` passes (R34, R40, R46): its end, unless a warm reset has taken it (R548), then the timers and the
running counter, and what begins in the tick that follows. -/
def tickPasses (s : State) : State :=
  if s.powered then clearedStarts (bridgeTick (advance (if awake s then finishTick s else s)))
  else s

end Sys2Proof.Machine
end

