-- ==== Sys2Proof/Machine/Dispatch.lean ====
section
/-! DEFINITION. One arm per command: a direct call of its meaning. -/

namespace Sys2Proof.Machine

def exec (i : Instr) (s : State) : Host.Outcome State Fault Refusal :=
  match i with
  -- time base
  | .coldStart => Sys2Proof.Machine.execColdStart s
  | .powerLoss => Sys2Proof.Machine.execPowerLoss s
  | .pllFirstLock aGood bGood => Sys2Proof.Machine.execPllFirstLock aGood bGood s
  | .tbPllUnlock => Sys2Proof.Machine.execTbPllUnlock s
  | .tbRefLost loss => Sys2Proof.Machine.execTbRefLost loss s
  | .refGoodAgain back => Sys2Proof.Machine.execRefGoodAgain back s
  | .tbHoldoverExpired => Sys2Proof.Machine.execTbHoldoverExpired s
  | .tbTickLoRead a wide => Sys2Proof.Machine.execTbTickLoRead a wide s
  | .tbTickHiRead a => Sys2Proof.Machine.execTbTickHiRead a s
  | .tbSlackRead a other => Sys2Proof.Machine.execTbSlackRead a other s
  | .engineCompletion e => Sys2Proof.Machine.execEngineCompletion e s
  -- bridge
  | .bridgeSyncFrame payload crcOk => Sys2Proof.Machine.execBridgeSyncFrame payload crcOk s
  | .bridgeStrobeFrame applyTick crcOk => Sys2Proof.Machine.execBridgeStrobeFrame applyTick crcOk s
  | .bridgeCapFrame cap crcOk => Sys2Proof.Machine.execBridgeCapFrame cap crcOk s
  | .bridgeEnergyFrame inst inc k crcOk => Sys2Proof.Machine.execBridgeEnergyFrame inst inc k crcOk s
  | .brgSyncLost => Sys2Proof.Machine.execBrgSyncLost s
  | .secondaryLockTimeout => Sys2Proof.Machine.execSecondaryLockTimeout s
  -- registers
  | .registerWrite a f data => Sys2Proof.Machine.execRegisterWrite a f data s
  | .atomicAdd a f data => Sys2Proof.Machine.execAtomicAdd a f data s
  | .bitAliasWrite a f data => Sys2Proof.Machine.execBitAliasWrite a f data s
  | .rcRegisterRead a f => Sys2Proof.Machine.execRcRegisterRead a f s
  | .resultRegisterRead a f => Sys2Proof.Machine.execResultRegisterRead a f s
  | .genUpdateGo a => Sys2Proof.Machine.execGenUpdateGo a s
  | .updStrobeEdge => Sys2Proof.Machine.execUpdStrobeEdge s
  | .strobeApplyTick => Sys2Proof.Machine.execStrobeApplyTick s
  | .boundaryApply => Sys2Proof.Machine.execBoundaryApply s
  | .lcTakeEffect => Sys2Proof.Machine.execLcTakeEffect s
  | .parityWalk => Sys2Proof.Machine.execParityWalk s
  | .genParinjWrite a page go => Sys2Proof.Machine.execGenParinjWrite a page go s
  | .genSnapGo a => Sys2Proof.Machine.execGenSnapGo a s
  -- cells and clusters
  | .legStuckOff cell pos => Sys2Proof.Machine.execLegStuckOff cell pos s
  | .cellLegSpared cell => Sys2Proof.Machine.execCellLegSpared cell s
  | .cellLegStuckOn cell => Sys2Proof.Machine.execCellLegStuckOn cell s
  | .cellStep cell side => Sys2Proof.Machine.execCellStep cell side s
  | .cellStartDone cell => Sys2Proof.Machine.execCellStartDone cell s
  | .cellOvercurrent cell => Sys2Proof.Machine.execCellOvercurrent cell s
  | .cellCmpConflict cell => Sys2Proof.Machine.execCellCmpConflict cell s
  | .cluSpareTimeout clu => Sys2Proof.Machine.execCluSpareTimeout clu s
  | .cluSensorDisagree clu => Sys2Proof.Machine.execCluSensorDisagree clu s
  | .cluSensorLost clu => Sys2Proof.Machine.execCluSensorLost clu s
  | .droopTrip clu => Sys2Proof.Machine.execDroopTrip clu s
  | .schussForceEnd clu inside => Sys2Proof.Machine.execSchussForceEnd clu inside s
  | .schussRelease clu => Sys2Proof.Machine.execSchussRelease clu s
  | .schussLong clu => Sys2Proof.Machine.execSchussLong clu s
  | .cluCellcmdIsolate a sec cell => Sys2Proof.Machine.execCluCellcmdIsolate a sec cell s
  | .cluCellcmdRetest a sec cell => Sys2Proof.Machine.execCluCellcmdRetest a sec cell s
  | .cluCellcmdPass a sec cell => Sys2Proof.Machine.execCluCellcmdPass a sec cell s
  | .cluCellcmdFail a sec cell => Sys2Proof.Machine.execCluCellcmdFail a sec cell s
  | .cluCellcmdRotate a sec cell => Sys2Proof.Machine.execCluCellcmdRotate a sec cell s
  | .cluTrimWrite cell => Sys2Proof.Machine.execCluTrimWrite cell s
  -- sector engine
  | .sectorEngineStart sec sense => Sys2Proof.Machine.execSectorEngineStart sec sense s
  | .sectorEngineLatch sec => Sys2Proof.Machine.execSectorEngineLatch sec s
  | .secBandReadback sec bad => Sys2Proof.Machine.execSecBandReadback sec bad s
  | .secTrimLimit clu => Sys2Proof.Machine.execSecTrimLimit clu s
  | .secCmdPlausClear a sec => Sys2Proof.Machine.execSecCmdPlausClear a sec s
  | .secCmdToSpare a sec => Sys2Proof.Machine.execSecCmdToSpare a sec s
  | .secCmdHandback a sec => Sys2Proof.Machine.execSecCmdHandback a sec s
  | .spareEngineSwitch sec => Sys2Proof.Machine.execSpareEngineSwitch sec s
  -- Chairlift
  | .chairliftSectorStep sec => Sys2Proof.Machine.execChairliftSectorStep sec s
  | .chairliftRailStep dom => Sys2Proof.Machine.execChairliftRailStep dom s
  | .chlIlkTimeout sec => Sys2Proof.Machine.execChlIlkTimeout sec s
  | .chlSettleTimeout sec => Sys2Proof.Machine.execChlSettleTimeout sec s
  | .inrushGrant quad => Sys2Proof.Machine.execInrushGrant quad s
  | .inrushReservationEnd quad => Sys2Proof.Machine.execInrushReservationEnd quad s
  | .neighbourCheck sec unit => Sys2Proof.Machine.execNeighbourCheck sec unit s
  | .clusterEnable clu => Sys2Proof.Machine.execClusterEnable clu s
  | .switchOffComplete sec => Sys2Proof.Machine.execSwitchOffComplete sec s
  -- Trail
  | .trailPush a f rec0 => Sys2Proof.Machine.execTrailPush a f rec0 s
  | .trailCancel a f rec0 => Sys2Proof.Machine.execTrailCancel a f rec0 s
  | .trailHeldPushAccept quad => Sys2Proof.Machine.execTrailHeldPushAccept quad s
  | .trailPushTimeout quad => Sys2Proof.Machine.execTrailPushTimeout quad s
  | .trailArm quad slot => Sys2Proof.Machine.execTrailArm quad slot s
  | .trailPresent quad slot => Sys2Proof.Machine.execTrailPresent quad slot s
  | .trailExpire quad slot => Sys2Proof.Machine.execTrailExpire quad slot s
  | .trailMiss quad slot => Sys2Proof.Machine.execTrailMiss quad slot s
  | .trailHoldEnd quad slot => Sys2Proof.Machine.execTrailHoldEnd quad slot s
  | .trailCmdFlush a mask => Sys2Proof.Machine.execTrailCmdFlush a mask s
  -- Tally
  | .activityMessage lane msg => Sys2Proof.Machine.execActivityMessage lane msg s
  | .tallyStart speed => Sys2Proof.Machine.execTallyStart speed s
  | .tallyLatch => Sys2Proof.Machine.execTallyLatch s
  | .modelStagingWrite a f data => Sys2Proof.Machine.execModelStagingWrite a f data s
  | .talLoadInstall a unit => Sys2Proof.Machine.execTalLoadInstall a unit s
  | .talLoadAbort a => Sys2Proof.Machine.execTalLoadAbort a s
  | .tallyInstallCheckDone => Sys2Proof.Machine.execTallyInstallCheckDone s
  | .tallyInstallActivate => Sys2Proof.Machine.execTallyInstallActivate s
  -- board stages
  | .stgCmdStart a dom => Sys2Proof.Machine.execStgCmdStart a dom s
  | .stgCmdStop a dom => Sys2Proof.Machine.execStgCmdStop a dom s
  | .stgCmdRetire a dom ch => Sys2Proof.Machine.execStgCmdRetire a dom ch s
  | .stgCmdReturn a dom ch => Sys2Proof.Machine.execStgCmdReturn a dom ch s
  | .stgSoftEntry dom => Sys2Proof.Machine.execStgSoftEntry dom s
  | .compensatorStart dom => Sys2Proof.Machine.execCompensatorStart dom s
  | .compensatorLatch dom => Sys2Proof.Machine.execCompensatorLatch dom s
  | .stgConfirmDone dom => Sys2Proof.Machine.execStgConfirmDone dom s
  | .stgPgTimeout dom => Sys2Proof.Machine.execStgPgTimeout dom s
  | .stgSsShort dom => Sys2Proof.Machine.execStgSsShort dom s
  | .switchingPeriodStart dom => Sys2Proof.Machine.execSwitchingPeriodStart dom s
  | .switchingCycleStart ch => Sys2Proof.Machine.execSwitchingCycleStart ch s
  | .fastLimitTrip ch => Sys2Proof.Machine.execFastLimitTrip ch s
  | .zeroCrossing ch => Sys2Proof.Machine.execZeroCrossing ch s
  | .stgBUpdate dom => Sys2Proof.Machine.execStgBUpdate dom s
  | .stgChOverload ch => Sys2Proof.Machine.execStgChOverload ch s
  | .stgUv dom => Sys2Proof.Machine.execStgUv dom s
  | .stgOv dom => Sys2Proof.Machine.execStgOv dom s
  | .stgSenseLost dom => Sys2Proof.Machine.execStgSenseLost dom s
  | .railTargetUpdate dom => Sys2Proof.Machine.execRailTargetUpdate dom s
  -- telemetry
  | .adcCalPair conv rl8 rh8 => Sys2Proof.Machine.execAdcCalPair conv rl8 rh8 s
  | .telemetryResult quad raws => Sys2Proof.Machine.execTelemetryResult quad raws s
  | .sequencePassEnd quad => Sys2Proof.Machine.execSequencePassEnd quad s
  | .urgentRequest quad who chan => Sys2Proof.Machine.execUrgentRequest quad who chan s
  | .qdUrgreqGo a quad chan => Sys2Proof.Machine.execQdUrgreqGo a quad chan s
  | .urgentConversionStart quad => Sys2Proof.Machine.execUrgentConversionStart quad s
  | .urgentResult quad raws => Sys2Proof.Machine.execUrgentResult quad raws s
  | .adcCorrErr samples => Sys2Proof.Machine.execAdcCorrErr samples s
  | .adcXchkArbitration dom quad => Sys2Proof.Machine.execAdcXchkArbitration dom quad s
  | .adcXchkResult dom raws => Sys2Proof.Machine.execAdcXchkResult dom raws s
  | .adcReplaceConnect role => Sys2Proof.Machine.execAdcReplaceConnect role s
  | .adcCmdRetire a conv => Sys2Proof.Machine.execAdcCmdRetire a conv s
  | .adcCmdRetest a conv => Sys2Proof.Machine.execAdcCmdRetest a conv s
  | .adcRetestDone conv => Sys2Proof.Machine.execAdcRetestDone conv s
  -- thermal
  | .thermalStart => Sys2Proof.Machine.execThermalStart s
  | .thermalLatch => Sys2Proof.Machine.execThermalLatch s
  | .thermalGraceExpiry => Sys2Proof.Machine.execThermalGraceExpiry s
  | .enforceStep => Sys2Proof.Machine.execEnforceStep s
  | .thmCmdRetire a diode => Sys2Proof.Machine.execThmCmdRetire a diode s
  | .thmCmdReturn a diode => Sys2Proof.Machine.execThmCmdReturn a diode s
  | .thmCmdTreturn a therm => Sys2Proof.Machine.execThmCmdTreturn a therm s
  -- capping and energy
  | .capLoopStart => Sys2Proof.Machine.execCapLoopStart s
  | .capLoopLatch => Sys2Proof.Machine.execCapLoopLatch s
  | .energyAccumulate => Sys2Proof.Machine.execEnergyAccumulate s
  | .jobEnergyAdd => Sys2Proof.Machine.execJobEnergyAdd s
  | .hostJobstart a id => Sys2Proof.Machine.execHostJobstart a id s
  | .hostJobend a id => Sys2Proof.Machine.execHostJobend a id s
  -- Blanket
  | .blanketEvaluation => Sys2Proof.Machine.execBlanketEvaluation s
  | .blanketLevelDrive => Sys2Proof.Machine.execBlanketLevelDrive s
  | .blkMsgEnter a => Sys2Proof.Machine.execBlkMsgEnter a s
  | .blkMsgExit a => Sys2Proof.Machine.execBlkMsgExit a s
  -- seating plan
  | .lookupQuery port kind index epoch => Sys2Proof.Machine.execLookupQuery port kind index epoch s
  | .lookupAnswer port => Sys2Proof.Machine.execLookupAnswer port s
  | .seatEntryWrite a f data => Sys2Proof.Machine.execSeatEntryWrite a f data s
  | .placementDecision => Sys2Proof.Machine.execPlacementDecision s
  | .migrationDestReady => Sys2Proof.Machine.execMigrationDestReady s
  | .migrationPowerTimeout => Sys2Proof.Machine.execMigrationPowerTimeout s
  | .migrationCopyTimeout => Sys2Proof.Machine.execMigrationCopyTimeout s
  | .seatMigack a seq status => Sys2Proof.Machine.execSeatMigack a seq status s
  | .seatFlip => Sys2Proof.Machine.execSeatFlip s
  | .seatGraceEnd => Sys2Proof.Machine.execSeatGraceEnd s
  | .seatCmdMove a kind index => Sys2Proof.Machine.execSeatCmdMove a kind index s
  | .seatCmdRetire a kind index => Sys2Proof.Machine.execSeatCmdRetire a kind index s
  | .seatCmdReturn a kind index => Sys2Proof.Machine.execSeatCmdReturn a kind index s
  | .seatCmdScrub a tag => Sys2Proof.Machine.execSeatCmdScrub a tag s
  | .seatCmdAbort a => Sys2Proof.Machine.execSeatCmdAbort a s
  | .scrubHoldEnd => Sys2Proof.Machine.execScrubHoldEnd s
  | .seatWake a group => Sys2Proof.Machine.execSeatWake a group s
  | .bankGroupIdle group => Sys2Proof.Machine.execBankGroupIdle group s
  | .migRecordResponse ok => Sys2Proof.Machine.execMigRecordResponse ok s
  -- wear and sparing
  | .poweredSecond => Sys2Proof.Machine.execPoweredSecond s
  | .wearSaveDue => Sys2Proof.Machine.execWearSaveDue s
  | .rotationStart => Sys2Proof.Machine.execRotationStart s
  | .retestStepDone clu ok => Sys2Proof.Machine.execRetestStepDone clu ok s
  | .calCmdSelftestSector a index => Sys2Proof.Machine.execCalCmdSelftestSector a index s
  | .calCmdSelftestSpare a index => Sys2Proof.Machine.execCalCmdSelftestSpare a index s
  | .selfTestDone pass => Sys2Proof.Machine.execSelfTestDone pass s
  -- command ring
  | .ringPresent quad req stop reg write data opn cls => Sys2Proof.Machine.execRingPresent quad req stop reg write data opn cls s
  | .arbiterDrawStart quad => Sys2Proof.Machine.execArbiterDrawStart quad s
  | .arbiterDrawLatch quad => Sys2Proof.Machine.execArbiterDrawLatch quad s
  | .ringTransactionComplete quad rdata => Sys2Proof.Machine.execRingTransactionComplete quad rdata s
  | .lockLimitExpiry quad => Sys2Proof.Machine.execLockLimitExpiry quad s
  | .dbgCmd a cmd => Sys2Proof.Machine.execDbgCmd a cmd s
  -- faults
  | .faultLatch => Sys2Proof.Machine.execFaultLatch s
  | .fltInject a src detail => Sys2Proof.Machine.execFltInject a src detail s
  | .aliveToggle => Sys2Proof.Machine.execAliveToggle s
  | .alertWriteResponse ok => Sys2Proof.Machine.execAlertWriteResponse ok s
  | .ibiComplete => Sys2Proof.Machine.execIbiComplete s
  | .quietPeriodEnd dom => Sys2Proof.Machine.execQuietPeriodEnd dom s
  | .chipQuietEnd => Sys2Proof.Machine.execChipQuietEnd s
  | .fltCmdRearm a => Sys2Proof.Machine.execFltCmdRearm a s
  | .fltCmdClear a mask => Sys2Proof.Machine.execFltCmdClear a mask s
  | .fltCmdClearChip a => Sys2Proof.Machine.execFltCmdClearChip a s
  -- calibration store
  | .flashResetWaitEnd => Sys2Proof.Machine.execFlashResetWaitEnd s
  | .flashJedecId id => Sys2Proof.Machine.execFlashJedecId id s
  | .flashSfdpRead info => Sys2Proof.Machine.execFlashSfdpRead info s
  | .flashScanDone headers images => Sys2Proof.Machine.execFlashScanDone headers images s
  | .calWriteRequest typ key => Sys2Proof.Machine.execCalWriteRequest typ key s
  | .flashProgramDone readBack => Sys2Proof.Machine.execFlashProgramDone readBack s
  | .flashEraseDone ok => Sys2Proof.Machine.execFlashEraseDone ok s
  | .calOpTimeout => Sys2Proof.Machine.execCalOpTimeout s
  | .calReclaim => Sys2Proof.Machine.execCalReclaim s
  | .calScrubDue reads => Sys2Proof.Machine.execCalScrubDue reads s
  | .calStcmdSave a scope key => Sys2Proof.Machine.execCalStcmdSave a scope key s
  | .calStcmdScrub a reads => Sys2Proof.Machine.execCalStcmdScrub a reads s
  | .calStcmdTombstone a typ key => Sys2Proof.Machine.execCalStcmdTombstone a typ key s
  -- start-up and shut-down
  | .bootLoadDone => Sys2Proof.Machine.execBootLoadDone s
  | .genBootcmdSafeProfile a => Sys2Proof.Machine.execGenBootcmdSafeProfile a s
  | .genBootcmdShutdown a => Sys2Proof.Machine.execGenBootcmdShutdown a s
  | .genBootcmdRestart a => Sys2Proof.Machine.execGenBootcmdRestart a s
  | .genBootcmdWarmReset a key => Sys2Proof.Machine.execGenBootcmdWarmReset a key s
  | .bootSenseDone => Sys2Proof.Machine.execBootSenseDone s
  | .bootSlotStart => Sys2Proof.Machine.execBootSlotStart s
  | .shutdownDomainStop dom => Sys2Proof.Machine.execShutdownDomainStop dom s
  | .shutdownTimeout => Sys2Proof.Machine.execShutdownTimeout s
  -- link lane groups
  | .lnkDiscPresent a group cls => Sys2Proof.Machine.execLnkDiscPresent a group cls s
  | .lnkDiscDone a => Sys2Proof.Machine.execLnkDiscDone a s
  | .lnkDiscTimeout => Sys2Proof.Machine.execLnkDiscTimeout s
  | .lnkUnplannedOff group => Sys2Proof.Machine.execLnkUnplannedOff group s
  | .lnkReqOn a group => Sys2Proof.Machine.execLnkReqOn a group s
  | .lnkReqOff a group => Sys2Proof.Machine.execLnkReqOff a group s
  -- I3C
  | .i3cEnec direct events => Sys2Proof.Machine.execI3cEnec direct events s
  | .i3cDisec direct events => Sys2Proof.Machine.execI3cDisec direct events s
  | .i3cRstdaa => Sys2Proof.Machine.execI3cRstdaa s
  | .i3cEntdaa addr => Sys2Proof.Machine.execI3cEntdaa addr s
  | .i3cSetdasa st addr => Sys2Proof.Machine.execI3cSetdasa st addr s
  | .i3cSetnewda addr => Sys2Proof.Machine.execI3cSetnewda addr s
  | .i3cSetmwl len => Sys2Proof.Machine.execI3cSetmwl len s
  | .i3cGetmwl => Sys2Proof.Machine.execI3cGetmwl s
  | .i3cSetmrl len => Sys2Proof.Machine.execI3cSetmrl len s
  | .i3cGetmrl => Sys2Proof.Machine.execI3cGetmrl s
  | .i3cGetpid => Sys2Proof.Machine.execI3cGetpid s
  | .i3cGetbcr => Sys2Proof.Machine.execI3cGetbcr s
  | .i3cGetdcr => Sys2Proof.Machine.execI3cGetdcr s
  | .i3cGetstatus => Sys2Proof.Machine.execI3cGetstatus s
  | .i3cEnthdr => Sys2Proof.Machine.execI3cEnthdr s
  | .i3cHdrExit => Sys2Proof.Machine.execI3cHdrExit s
  | .i3cPrivateWrite bytes => Sys2Proof.Machine.execI3cPrivateWrite bytes s
  | .i3cReadHeader bytes => Sys2Proof.Machine.execI3cReadHeader bytes s
  | .i3cPrivateRead => Sys2Proof.Machine.execI3cPrivateRead s
  | .i3cError kind => Sys2Proof.Machine.execI3cError kind s
  -- the rest of the table
  | .testLogicReset => Sys2Proof.Machine.execTestLogicReset s
  | .railConverterResult conv raw => Sys2Proof.Machine.execRailConverterResult conv raw s
  | .sequenceEntryStart quad => Sys2Proof.Machine.execSequenceEntryStart quad s

end Sys2Proof.Machine
end

