-- ==== Sys2Proof/Machine/Step.lean ====
section
/-! DEFINITION. The step: the command at the front of the queue, or a tick when none waits. -/

namespace Sys2Proof.Machine

/-- The front command is executed on the state with the rest of the queue. When none waits, one tick passes (DESIGN
CHOICE, log entry 16): the table has no row for a tick. -/
def step (s : State) : Host.Outcome State Fault Refusal :=
  match s.pending with
  | c :: rest => exec c (s.setPending rest)
  | [] => .next (tickPasses s)

/-- The word's command put at the front of the queue; no word spells a command, so the state stays as it is. -/
def State.withFetchWord (s : State) (nbits w : Nat) : State :=
  match decodeTableWord nbits w with
  | some c => s.setPending (c :: s.pending)
  | none => s

end Sys2Proof.Machine
end

