-- ==== Sys2Proof/Machine/Pins.lean ====
section
/-! DEFINITION. What the block drives: the package pins and their boundary scan (R553), the on-die ports (R556), the bridge's
links (R568). Each output is a function of the state. -/

namespace Sys2Proof.Machine

/-! ### Package pins (R553) -/

/-- The package pins, numbered globally; a differential pair is one pin, and the supplies are counted by kind. -/
inductive Pin where
  | pwm (n : Nat) | stgEn (d : Nat) | imon (n : Nat) | vsense (d : Nat) | therm (n : Nat) | pgood (d : Nat)
  | alive | shdnN | throttleReq | updStrobe | refclkA | refclkB | i3cScl | i3cSda | flashClk | flashCsN | flashIo (n : Nat)
  | tck | tms | tdi | trstN | tdo | vddAon | vddio33 | vddio18 | vdda18
  deriving DecidableEq, Repr

inductive PinDir where
  | input | output | both | supply
  deriving DecidableEq, Repr

def pinDir : Pin → PinDir
  | .pwm _ | .stgEn _ | .pgood _ | .alive | .shdnN | .throttleReq | .flashClk | .flashCsN | .tdo => .output
  | .imon _ | .vsense _ | .therm _ | .refclkA | .refclkB | .i3cScl | .tck | .tms | .tdi | .trstN => .input
  | .updStrobe | .i3cSda | .flashIo _ => .both
  | .vddAon | .vddio33 | .vddio18 | .vdda18 => .supply

def allPins : List Pin :=
  (upto 80).map .pwm ++ (upto 4).map .stgEn ++ (upto 80).map .imon ++ (upto 4).map .vsense ++ (upto 8).map .therm ++
    (upto 4).map .pgood ++ [.alive, .shdnN, .throttleReq, .updStrobe, .refclkA, .refclkB, .i3cScl, .i3cSda, .flashClk, .flashCsN] ++
    (upto 4).map .flashIo ++ [.tck, .tms, .tdi, .trstN, .tdo, .vddAon, .vddio33, .vddio18, .vdda18]

/-- The pins that the test access port scans: every one but the supplies. No command clocks the port, which stays in
test-logic reset, so that no scan takes a pin from the block (log entry 52). -/
def scannedPins : List Pin := allPins.filter (fun p => pinDir p != .supply)

/-! #### Output levels

Until the block first reaches UP its outputs are held (R530); the pins of a domain follow its own stage controller, which starts
it in POWER (DEDUCED, log entry 52). -/

/-- `STG_EN[d]`, from entry to ARMED until entry to OFF or TRIPPED, and `PGOOD[d]`, in RUN alone (R263). -/
def stgEnPin (s : State) (d : Nat) : Bool := stgUp s d
def pgoodPin (s : State) (d : Nat) : Bool := domainRun s d

/-- `PWM[n]` at the `k`-th thirty-second of this tick. -/
def pwmPin (s : State) (n k : Nat) : Level := pwmAt s n k

/-- `ALIVE`, low until the PLL's first lock (R483). -/
def alivePin (s : State) : Bool := s.boot.lockAt.isSome && s.flt.alive

/-- `SHDN_N`: low while the chip is off (R491). -/
def shdnPin (s : State) : Bool := s.boot.held || !s.flt.chipOff

/-- `THROTTLE_REQ` (R338). -/
def throttlePin (s : State) : Bool := !s.boot.held && s.therm.req

/-- The block drives `UPD_STROBE` low in this tick (R73). -/
def strobePin (s : State) : Bool := s.regs.drove == some (now s)

/-! ### On-die ports (R556) -/

/-- `CLKSTR` of a cluster (R123). -/
def clkstrPort (s : State) (g : Nat) : Bool := !s.boot.held && (clu s g).stretch

/-- `FCAP` of a sector (R189). -/
def fcapPort (s : State) (sc : Nat) : Nat := if s.boot.held then 0 else (sec s sc).fcap

/-- The level of a tile group on the blanket bus (R381). -/
def blanketPort (s : State) (g : Nat) : Nat := if s.boot.held then 0 else Store.get s.blk.bus 0 g

/-- A tile's power-gate grant: `GRANT`, and `HALF` at half rate (R197). -/
def grantPort (s : State) (t : Nat) : Bool × Bool :=
  let sc := tileSec s t
  let on := unitState s sc t == 2
  (on, on && (sec s sc).granted.any (fun u => u.1 == t && u.2.1))

/-- The power state of a unit of `kind` 1 bank group, 2 lane group, 3 memory-interface slice. -/
def powerPort (s : State) (kind i : Nat) : Nat :=
  match unitCluster s.params kind i with
  | some c => unitState s (c / 4) i
  | none => 0

/-- The channel that a quadrant's sequencer converts in this tick: an urgent one, else the entry in progress. -/
def converting (s : State) (q : Nat) : Option Nat :=
  let x := quad s q
  match x.urgent, x.cur with
  | some (e, r), cur => if now s < e then some r.chan else entry x cur
  | none, cur => entry x cur
where
  entry (x : Quad) (cur : Option (Nat × Nat × Nat)) : Option Nat :=
    match cur with
    | some (_, b, t) => if now s < t then (x.due.find? (fun c => c.who.isNone && decide (b < c.first) && decide (c.first < t))).map (·.chan) else none
    | none => none

/-- The currents, in microamperes, that diode `n`'s port forces in this tick: while it is converted both of its pair, of ratio 8,
in turns whose order and lengths the spec does not give (R326). -/
def diodePort (s : State) (n : Nat) : List Nat :=
  if converting s (n / 32) == some (128 + n % 32) then [8, 64] else []

/-! ### The bridge's links (R568) -/

/-- A link as the block drives it: the primary forwards the reference, and sends on `BDN`; a secondary sends on `BUP`. -/
structure LinkOut where
  bref : Bool
  bdn  : List Bool
  bup  : List Bool
  deriving DecidableEq, Repr

def linkOut (s : State) (l : Nat) : LinkOut :=
  let zeros := [false, false, false, false]
  let on := (sendLinks s).contains l
  { bref := s.bridge.role == 1 && on
    bdn := if s.bridge.role = 1 && on then laneBits s l else zeros
    bup := if s.bridge.role = 2 && on then laneBits s l else zeros }

end Sys2Proof.Machine
end

