-- ==== Sys2Proof/Safety.lean ====
section
/-! DEFINITION. What counts as a safe run, and the invariants that statements speak of. -/

namespace Sys2Proof.Machine

/-- A step that answers a next state. -/
def Runs (s : State) : Prop := ∃ t, step s = .next t

/-- A state reached from `s` by a number of steps, each of which answers a next state. -/
def Reaches : Nat → State → State → Prop
  | 0, s, t => t = s
  | n + 1, s, t => ∃ u, step s = .next u ∧ Reaches n u t

/-- Safe: from this state no run of steps ever stops. -/
def Safe (s : State) : Prop := ∀ n t, Reaches n s t → Runs t

/-- From `s` to `t` the source `src` with detail `det` is registered, after those registered before (R478). -/
def Raised (src det : Nat) (s t : State) : Prop :=
  t.flt.regq = s.flt.regq ++ [⟨src, det, s.tb.tick, now s, now s + 8, false⟩]

/-- From `s` to `t` the source `src` with detail `det` is registered, perhaps among others (R478). -/
def RaisedAmong (src det : Nat) (s t : State) : Prop :=
  ⟨src, det, s.tb.tick, now s, now s + 8, false⟩ ∈ t.flt.regq

/-- From `s` to `t` cell `n` is isolated for `cause`, its isolation is counted, and every other cell stays (R113, R432);
but the cell of a re-trim that ends, and the incoming one of a rotation that turns into a takeover, may change (R440,
R443). -/
def IsolatedFor (n cause : Nat) (s t : State) : Prop :=
  (cell t n).state = .isolated ∧ (cell t n).legs = 0 ∧ (cell t n).cause = cause ∧ (cell t n).spdes = false ∧
    (wear t n).isol = (wear s n).isol + 1 ∧
    ((clu s (n / 16)).retest = none → takeKind (clu s (n / 16)) .rotation = none → ∀ m, m ≠ n → cell t m = cell s m)

/-- No retest of cell `n` itself runs. -/
def noRetestOf (s : State) (n : Nat) : Prop := ∀ r, (clu s (n / 16)).retest = some r → r.cell ≠ n

/-- A word access of the register pages of good form (R61). -/
def wordForm32 (f : Form) : Prop := f.full = true ∧ f.width = 32 ∧ f.off.toNat % 4 = 0 ∧ f.off.toNat < 0x100000

/-- The response of the port that an access came by. -/
def responseOf (s : State) (a : Access) : Response :=
  match a.port with
  | .fabric => s.ports.fab
  | .i3c => s.ports.i3c

/-- The parts of the state that frames speak of. Of the time base `time` is the counter and the elapsed ticks, `held`
the upper halves that reads of the counter captured, and `tb` the rest; of the register model `shadow` and `active` are the two copies of the shadow words, `live` the
counters, results and Immediate words, and `regs` the rest. Every other part is the field of its name. -/
inductive Part where
  | params | powered | time | held | tb | bridge | eng | shadow | active | live | regs | ports | dbg | cells
  | clus | secs | inrush | trail | flt | recov | rings | wears | sparing | tally | mem | stages | chans
  | adcs | adcOwed | late | quads | xchks | therm | cap | jobs | blk | plan | seat | lnk | boot | cal
  | pending
  deriving DecidableEq, Repr

/-- `t` holds this part as `s` does. -/
def Part.same (p : Part) (s t : State) : Prop :=
  match p with
  | .params => t.params = s.params
  | .powered => t.powered = s.powered
  | .time => t.tb.tick = s.tb.tick ∧ t.tb.elapsed = s.tb.elapsed
  | .held => t.tb.heldFab = s.tb.heldFab ∧ t.tb.heldI3c = s.tb.heldI3c
  | .tb => { t.tb with tick := s.tb.tick, elapsed := s.tb.elapsed, heldFab := s.tb.heldFab, heldI3c := s.tb.heldI3c } = s.tb
  | .bridge => t.bridge = s.bridge
  | .eng => t.eng = s.eng
  | .shadow => t.regs.shadow = s.regs.shadow
  | .active => t.regs.active = s.regs.active
  | .live => t.regs.live = s.regs.live
  | .regs => { t.regs with shadow := s.regs.shadow, active := s.regs.active, live := s.regs.live } = s.regs
  | .ports => t.ports = s.ports
  | .dbg => t.dbg = s.dbg
  | .cells => t.cells = s.cells
  | .clus => t.clus = s.clus
  | .secs => t.secs = s.secs
  | .inrush => t.inrush = s.inrush
  | .trail => t.trail = s.trail
  | .flt => t.flt = s.flt
  | .recov => t.recov = s.recov
  | .rings => t.rings = s.rings
  | .wears => t.wears = s.wears
  | .sparing => t.sparing = s.sparing
  | .tally => t.tally = s.tally
  | .mem => t.mem = s.mem
  | .stages => t.stages = s.stages
  | .chans => t.chans = s.chans
  | .adcs => t.adcs = s.adcs
  | .adcOwed => t.adcOwed = s.adcOwed
  | .late => t.late = s.late
  | .quads => t.quads = s.quads
  | .xchks => t.xchks = s.xchks
  | .therm => t.therm = s.therm
  | .cap => t.cap = s.cap
  | .jobs => t.jobs = s.jobs
  | .blk => t.blk = s.blk
  | .plan => t.plan = s.plan
  | .seat => t.seat = s.seat
  | .lnk => t.lnk = s.lnk
  | .boot => t.boot = s.boot
  | .cal => t.cal = s.cal
  | .pending => t.pending = s.pending

/-- From `s` to `t` nothing but the parts of `l` changes. -/
def Only (l : List Part) (s t : State) : Prop := ∀ p, p ∉ l → p.same s t

/-- What taking units off can change: with a domain go its rails, sectors, cells, their ring transactions, and what
follows a domain in the seating, the links and the boot. -/
def unitsOff : List Part :=
  [.eng, .shadow, .live, .regs, .dbg, .cells, .clus, .secs, .inrush, .trail, .flt, .rings, .sparing, .tally,
    .stages, .quads, .blk, .plan, .seat, .lnk, .boot, .cal]

/-- What a write of a host can change, since it may reach every register: all but the parameters, the supply, the
time and the queue. -/
def anywhere : List Part :=
  unitsOff ++ [.tb, .bridge, .active, .ports, .recov, .mem, .chans, .adcs, .adcOwed, .xchks, .therm, .cap, .jobs]

/-- The parts of the state that a command can change. -/
def touches : Instr → List Part
  | .coldStart => anywhere ++ [.powered, .time, .held, .wears, .late]
  | .powerLoss => [.powered]
  | .pllFirstLock _ _ => [.tb, .bridge, .sparing, .adcs, .boot, .cal]
  | .tbPllUnlock => [.tb, .flt]
  | .tbRefLost _ => [.tb, .live, .flt]
  | .refGoodAgain _ => [.tb, .live]
  | .tbHoldoverExpired => [.late]
  | .tbTickLoRead _ _ => [.held, .ports]
  | .tbTickHiRead _ => [.held, .ports]
  | .tbSlackRead _ _ => [.live, .ports]
  | .engineCompletion _ => [.eng, .live, .flt]
  | .bridgeSyncFrame _ _ => [.time, .tb, .bridge, .eng, .live, .sparing, .adcs, .boot, .cal]
  | .bridgeStrobeFrame _ _ => [.live, .regs]
  | .bridgeCapFrame _ _ => [.bridge]
  | .bridgeEnergyFrame _ _ _ _ => [.cap]
  | .brgSyncLost => [.late]
  | .secondaryLockTimeout => [.late]
  | .registerWrite _ _ _ => anywhere ++ [.late]
  | .atomicAdd _ _ _ => anywhere ++ [.held, .late]
  | .bitAliasWrite _ _ _ => anywhere ++ [.late]
  | .rcRegisterRead _ _ => [.held, .live, .regs, .ports, .flt]
  | .resultRegisterRead _ _ => [.held, .live, .regs, .ports, .flt]
  | .genUpdateGo _ => [.bridge, .live, .regs, .ports]
  | .updStrobeEdge => [.bridge, .live, .regs]
  | .strobeApplyTick => [.shadow, .active, .live, .regs, .clus, .secs, .trail, .flt, .rings, .quads, .blk, .boot]
  | .boundaryApply => [.shadow, .active, .live, .regs, .clus, .secs, .trail, .flt, .rings, .quads, .blk, .boot]
  | .lcTakeEffect => [.shadow, .active, .live, .regs, .secs, .flt]
  | .parityWalk => [.shadow, .active, .live, .regs, .secs, .flt]
  | .genParinjWrite _ _ _ => [.live, .ports]
  | .genSnapGo _ => [.live, .regs, .ports]
  | .legStuckOff _ _ => [.live, .regs, .cells, .clus, .flt, .rings, .wears, .seat]
  | .cellLegSpared _ => [.cells, .flt]
  | .cellLegStuckOn _ => [.live, .regs, .cells, .clus, .flt, .rings, .wears, .seat]
  | .cellStep _ _ => [.cells]
  | .cellStartDone _ => [.live, .cells, .clus, .flt, .rings, .seat]
  | .cellOvercurrent _ => [.live, .regs, .cells, .clus, .flt, .rings, .wears, .seat]
  | .cellCmpConflict _ => [.live, .regs, .cells, .clus, .flt, .rings, .wears, .seat]
  | .cluSpareTimeout _ => [.late]
  | .cluSensorDisagree _ => [.live, .clus, .quads]
  | .cluSensorLost _ => [.live, .clus, .flt]
  | .droopTrip _ => [.live, .cells, .clus, .flt]
  | .schussForceEnd _ _ => [.clus]
  | .schussRelease _ => [.live, .clus]
  | .schussLong _ => [.live, .clus, .flt]
  | .cluCellcmdIsolate _ _ _ => [.live, .ports, .rings]
  | .cluCellcmdRetest _ _ _ => [.live, .ports, .rings]
  | .cluCellcmdPass _ _ _ => [.live, .ports, .rings]
  | .cluCellcmdFail _ _ _ => [.live, .ports, .rings]
  | .cluCellcmdRotate _ _ _ => [.live, .ports, .rings]
  | .cluTrimWrite _ => [.shadow, .active, .live, .regs, .cells, .clus, .flt, .rings, .seat, .cal]
  | .sectorEngineStart _ _ => [.eng, .live, .clus, .secs, .flt, .wears]
  | .sectorEngineLatch _ => [.eng, .live, .cells, .clus, .secs, .trail, .flt, .seat]
  | .secBandReadback _ _ => [.live, .secs, .flt]
  | .secTrimLimit _ => [.live, .clus, .flt]
  | .secCmdPlausClear _ _ => [.eng, .live, .ports, .secs]
  | .secCmdToSpare _ _ => [.eng, .live, .ports, .secs]
  | .secCmdHandback _ _ => [.eng, .live, .ports, .secs]
  | .spareEngineSwitch _ => [.eng, .live, .secs, .flt]
  | .chairliftSectorStep _ => [.live, .secs, .trail]
  | .chairliftRailStep _ => [.stages]
  | .chlIlkTimeout _ => [.secs, .flt]
  | .chlSettleTimeout _ => [.secs, .flt]
  | .inrushGrant _ => [.live, .secs, .inrush]
  | .inrushReservationEnd _ => [.inrush]
  | .neighbourCheck _ _ => [.secs, .flt]
  | .clusterEnable _ => [.live, .cells, .clus, .secs, .flt, .seat]
  | .switchOffComplete _ => [.eng, .live, .cells, .clus, .secs, .trail, .flt, .rings, .seat]
  | .trailPush _ _ _ => [.live, .ports, .secs, .trail, .flt]
  | .trailCancel _ _ _ => [.live, .ports, .secs, .trail, .flt]
  | .trailHeldPushAccept _ => [.live, .ports, .secs, .trail, .flt]
  | .trailPushTimeout _ => [.late]
  | .trailArm _ _ => [.live, .trail]
  | .trailPresent _ _ => [.live, .secs, .trail]
  | .trailExpire _ _ => [.live, .trail]
  | .trailMiss _ _ => [.live, .secs, .trail]
  | .trailHoldEnd _ _ => [.secs, .trail]
  | .trailCmdFlush _ _ => [.live, .ports, .secs, .trail]
  | .activityMessage _ _ => [.live, .secs, .trail, .flt, .tally, .seat]
  | .tallyStart _ => [.eng, .live, .trail, .tally]
  | .tallyLatch => [.eng, .live, .secs, .trail, .flt, .tally, .quads, .cap, .seat]
  | .modelStagingWrite _ _ _ => [.live, .ports, .flt, .rings, .tally, .mem]
  | .talLoadInstall _ _ => [.live, .ports, .flt, .rings, .tally]
  | .talLoadAbort _ => [.live, .ports, .flt, .rings, .tally]
  | .tallyInstallCheckDone => [.live, .flt, .rings, .tally]
  | .tallyInstallActivate => [.live, .tally, .mem]
  | .stgCmdStart _ _ => unitsOff ++ [.ports, .recov, .chans]
  | .stgCmdStop _ _ => unitsOff ++ [.ports, .recov, .chans]
  | .stgCmdRetire _ _ _ => unitsOff ++ [.ports, .recov, .chans]
  | .stgCmdReturn _ _ _ => unitsOff ++ [.ports, .recov, .chans]
  | .stgSoftEntry _ => [.live, .flt, .stages]
  | .compensatorStart _ => [.eng, .live, .stages, .boot]
  | .compensatorLatch _ => [.eng, .live, .flt, .stages]
  | .stgConfirmDone _ => [.live, .secs, .trail, .stages, .seat, .lnk, .boot]
  | .stgPgTimeout _ => [.late]
  | .stgSsShort _ => unitsOff ++ [.ports]
  | .switchingPeriodStart _ => unitsOff ++ [.ports, .chans]
  | .switchingCycleStart _ => [.chans]
  | .fastLimitTrip _ => unitsOff ++ [.ports, .chans]
  | .zeroCrossing _ => [.chans]
  | .stgBUpdate _ => [.live, .flt, .stages]
  | .stgChOverload _ => [.late]
  | .stgUv _ => [.late]
  | .stgOv _ => unitsOff ++ [.ports]
  | .stgSenseLost _ => unitsOff ++ [.ports]
  | .railTargetUpdate _ => [.stages]
  | .adcCalPair _ _ _ => [.live, .clus, .flt, .sparing, .adcs, .adcOwed, .quads]
  | .telemetryResult _ _ => unitsOff ++ [.ports, .chans, .therm]
  | .sequencePassEnd _ => [.live, .flt, .adcs, .quads]
  | .urgentRequest _ _ _ => [.live, .clus, .quads]
  | .qdUrgreqGo _ _ _ => [.live, .ports, .quads]
  | .urgentConversionStart _ => [.live, .quads]
  | .urgentResult _ _ => unitsOff ++ [.ports, .wears, .chans, .therm]
  | .adcCorrErr _ => [.live, .flt, .adcs]
  | .adcXchkArbitration _ _ => [.live, .flt, .quads, .xchks]
  | .adcXchkResult _ _ => [.live, .flt, .adcs, .quads, .xchks]
  | .adcReplaceConnect _ => [.live, .flt, .adcs]
  | .adcCmdRetire _ _ => [.live, .ports, .clus, .sparing, .adcs, .adcOwed, .quads]
  | .adcCmdRetest _ _ => [.live, .ports, .clus, .sparing, .adcs, .adcOwed, .quads]
  | .adcRetestDone _ => [.sparing, .adcs]
  | .thermalStart => [.eng, .live, .flt, .sparing, .therm, .boot, .cal]
  | .thermalLatch => [.eng, .live, .flt, .wears, .sparing, .therm, .seat]
  | .thermalGraceExpiry => [.live, .flt, .therm]
  | .enforceStep => [.live, .therm]
  | .thmCmdRetire _ _ => [.live, .ports, .sparing, .therm]
  | .thmCmdReturn _ _ => [.live, .ports, .sparing, .therm]
  | .thmCmdTreturn _ _ => [.live, .ports, .sparing, .therm]
  | .capLoopStart => [.bridge, .eng, .live, .cap]
  | .capLoopLatch => [.eng, .live, .secs, .flt, .cap]
  | .energyAccumulate => [.bridge, .live, .flt, .cap]
  | .jobEnergyAdd => [.live, .flt, .cap, .jobs]
  | .hostJobstart _ _ => [.live, .ports, .flt, .jobs]
  | .hostJobend _ _ => [.live, .ports, .jobs]
  | .blanketEvaluation => [.live, .flt, .blk]
  | .blanketLevelDrive => [.blk]
  | .blkMsgEnter _ => [.ports, .blk]
  | .blkMsgExit _ => [.ports, .blk]
  | .lookupQuery _ _ _ _ => [.seat]
  | .lookupAnswer _ => [.seat]
  | .seatEntryWrite _ _ _ => [.live, .ports, .secs, .trail, .plan]
  | .placementDecision => [.live, .secs, .trail, .flt, .plan, .seat]
  | .migrationDestReady => [.ports, .seat]
  | .migrationPowerTimeout => [.live, .ports, .secs, .trail, .flt, .rings, .plan, .seat]
  | .migrationCopyTimeout => [.late]
  | .seatMigack _ _ _ => [.live, .ports, .secs, .trail, .flt, .rings, .plan, .seat]
  | .seatFlip => [.live, .secs, .trail, .flt, .plan, .seat]
  | .seatGraceEnd => [.late]
  | .seatCmdMove _ _ _ => [.live, .ports, .secs, .trail, .flt, .rings, .plan, .seat]
  | .seatCmdRetire _ _ _ => [.live, .ports, .secs, .trail, .flt, .rings, .plan, .seat]
  | .seatCmdReturn _ _ _ => [.live, .ports, .secs, .trail, .flt, .rings, .plan, .seat]
  | .seatCmdScrub _ _ => [.live, .ports, .secs, .trail, .flt, .rings, .plan, .seat]
  | .seatCmdAbort _ => [.live, .ports, .secs, .trail, .flt, .rings, .plan, .seat]
  | .scrubHoldEnd => [.live, .secs, .trail, .flt, .seat]
  | .seatWake _ _ => [.live, .ports, .secs, .trail, .seat]
  | .bankGroupIdle _ => [.late]
  | .migRecordResponse _ => [.ports, .seat]
  | .poweredSecond => [.sparing, .cal]
  | .wearSaveDue => [.live, .flt, .sparing, .cal]
  | .rotationStart => [.clus, .rings, .sparing]
  | .retestStepDone _ _ => [.live, .regs, .cells, .clus, .flt, .rings, .wears, .quads, .seat]
  | .calCmdSelftestSector _ _ => [.live, .ports, .sparing]
  | .calCmdSelftestSpare _ _ => [.live, .ports, .sparing]
  | .selfTestDone _ => [.live, .secs, .sparing]
  | .ringPresent _ _ _ _ _ _ _ _ => [.rings]
  | .arbiterDrawStart _ => [.eng, .live, .flt, .rings, .tally]
  | .arbiterDrawLatch _ => [.eng, .live, .flt, .rings]
  | .ringTransactionComplete _ _ => [.live, .regs, .dbg, .cells, .clus, .flt, .rings, .wears, .tally, .seat]
  | .lockLimitExpiry _ => [.live, .flt, .rings, .tally]
  | .dbgCmd _ _ => [.live, .ports, .dbg, .rings]
  | .faultLatch => unitsOff ++ [.ports, .recov, .adcs, .adcOwed]
  | .fltInject _ _ _ => [.live, .ports, .flt]
  | .aliveToggle => [.flt]
  | .alertWriteResponse _ => [.live, .ports, .flt]
  | .ibiComplete => [.flt]
  | .quietPeriodEnd _ => [.late]
  | .chipQuietEnd => [.late]
  | .fltCmdRearm _ => unitsOff ++ [.ports, .recov, .chans]
  | .fltCmdClear _ _ => unitsOff ++ [.ports, .recov, .chans]
  | .fltCmdClearChip _ => unitsOff ++ [.ports, .recov, .chans]
  | .flashResetWaitEnd => [.cal]
  | .flashJedecId _ => [.live, .flt, .cal]
  | .flashSfdpRead _ => [.live, .flt, .cal]
  | .flashScanDone _ _ => [.live, .flt, .cal]
  | .calWriteRequest _ _ => [.live, .flt, .cal]
  | .flashProgramDone _ => [.live, .flt, .boot, .cal]
  | .flashEraseDone _ => [.live, .flt, .boot, .cal]
  | .calOpTimeout => [.late]
  | .calReclaim => [.live, .flt, .cal]
  | .calScrubDue _ => [.live, .flt, .cal]
  | .calStcmdSave _ _ _ => [.live, .ports, .flt, .cal]
  | .calStcmdScrub _ _ => [.live, .ports, .flt, .cal]
  | .calStcmdTombstone _ _ _ => [.live, .ports, .flt, .cal]
  | .bootLoadDone => [.shadow, .active, .live, .regs, .cells, .clus, .secs, .flt, .wears, .sparing, .tally, .mem,
    .chans, .adcs, .adcOwed, .quads, .therm, .plan, .boot, .cal]
  | .genBootcmdSafeProfile _ => anywhere ++ [.late]
  | .genBootcmdShutdown _ => anywhere ++ [.late]
  | .genBootcmdRestart _ => anywhere ++ [.late]
  | .genBootcmdWarmReset _ _ => anywhere ++ [.late]
  | .bootSenseDone => unitsOff ++ [.ports, .recov, .chans]
  | .bootSlotStart => unitsOff ++ [.ports, .recov, .chans]
  | .shutdownDomainStop _ => [.live, .secs, .trail, .stages, .blk, .lnk]
  | .shutdownTimeout => [.late]
  | .lnkDiscPresent _ _ _ => [.live, .ports, .secs, .trail, .flt, .lnk]
  | .lnkDiscDone _ => [.live, .ports, .secs, .trail, .flt, .lnk]
  | .lnkDiscTimeout => [.late]
  | .lnkUnplannedOff _ => [.live, .secs, .trail, .lnk]
  | .lnkReqOn _ _ => [.live, .ports, .secs, .trail, .lnk]
  | .lnkReqOff _ _ => [.live, .ports, .secs, .trail, .lnk]
  | .i3cEnec _ _ => [.ports]
  | .i3cDisec _ _ => [.ports]
  | .i3cRstdaa => [.ports]
  | .i3cEntdaa _ => [.ports]
  | .i3cSetdasa _ _ => [.ports]
  | .i3cSetnewda _ => [.ports]
  | .i3cSetmwl _ => [.ports]
  | .i3cGetmwl => [.ports]
  | .i3cSetmrl _ => [.ports]
  | .i3cGetmrl => [.ports]
  | .i3cGetpid => [.ports]
  | .i3cGetbcr => [.ports]
  | .i3cGetdcr => [.ports]
  | .i3cGetstatus => [.ports]
  | .i3cEnthdr => [.ports]
  | .i3cHdrExit => [.ports]
  | .i3cPrivateWrite _ => anywhere ++ [.late]
  | .i3cReadHeader _ => anywhere ++ [.late]
  | .i3cPrivateRead => [.ports]
  | .i3cError _ => [.live, .ports, .flt]
  | .testLogicReset => [.dbg, .rings]
  | .railConverterResult _ _ => [.stages]
  | .sequenceEntryStart _ => [.quads]

end Sys2Proof.Machine
end

