-- ==== Sys2Proof/Certificates/Slice0/Obligations.lean ====
section
/-! DEFINITION. The statements for the provers. -/

open Sys2Proof Sys2Proof.Machine

/-- The command at the front of the queue is executed on the state with the rest of the queue. -/
def Obligations.StepRunsFront : Prop :=
  ∀ (s : State) (c : Instr) (rest : List Instr), s.pending = c :: rest → step s = exec c (s.setPending rest)

/-- With no command waiting a step is one tick (the model's choice, log entry 16): on a powered block the elapsed time grows
by one. In a tick that no warm reset has taken no time that ran out stays unjudged, and where none ran out, no role or link
request waits for the tick's end, no word of a private write is on its way and no START is due, the counter grows by one
where it runs, modulo 2^64, and nothing changes but the time, what the I3C port reads, counts and captures, the lookups'
answers and the bridge. A tick that a warm reset took brings time and the bridge on alone (R548). A block without power
stays as it is. A time that ran out acts when the step ends its tick, after the tick's events (R45; which times wait so, and
their order, log entry 11), and then the roles lost in it pass on. -/
def Obligations.IdleStepIsOneTick : Prop :=
  (∀ s : State, s.pending = [] → ∃ t, step s = .next t ∧
    (s.powered = true → t.tb.elapsed = s.tb.elapsed + 1) ∧
    (awake s = true → t.late = [] ∧
      (s.late = [] → s.adcOwed = [] → s.lnk.reqs = [] → s.ports.target.data = none → (∀ d, (stage s d).startDue = none) →
        t.tb.tick = (if s.tb.running then s.tb.tick + 1 else s.tb.tick) ∧
        Only [.time, .held, .bridge, .live, .regs, .ports, .flt, .seat] s t)) ∧
    (s.powered = true → awake s = false → (∀ d, (stage s d).startDue = none) → Only [.time, .bridge] s t) ∧
    (s.powered = false → t = s)) ∧
  (∀ (s : State) (l : Late), s.pending = [] → awake s = true → l ∈ lateOrder s → s.late = [l] → s.adcOwed = [] → s.regs.seen = [] →
    s.ports.target.fetch = none → s.ports.target.data = none → syncMissed (estP / 2) s = false →
    (∀ d, (stage (serveOwed (lateRequests (timeOver l (s.setLate [])))) d).startDue = none) →
    ∃ t, step s = .next t ∧ Only [.time, .bridge, .ports, .seat] (serveOwed (lateRequests (timeOver l (s.setLate [])))) t)

/-- At reset: the counter is 0 and does not run, the sequence is in LOCK, no command waits, every register word holds its
reset value in all its copies, no write is pending and no fault source is registered; and the reset values that the register
tables state for words of every kind of page. -/
def Obligations.ResetState : Prop :=
  (State.reset.tb.tick = 0 ∧ State.reset.tb.running = false ∧ State.reset.boot.state = .lock ∧ State.reset.pending = [] ∧
    (∀ off, shadowOf State.reset off = resetAt State.reset.params off ∧ activeOf State.reset off = resetAt State.reset.params off ∧
      live State.reset off = resetAt State.reset.params off) ∧
    State.reset.regs.pend = [] ∧ State.reset.regs.frozen = none ∧ State.reset.flt.regq = [] ∧
    (∀ n, (cell State.reset n).state = if n % 16 = 15 then .standby else .off) ∧
    (∀ d, (stage State.reset d).state = .off)) ∧
  (∀ s, s = State.reset →
    live s (tbO Reg.TB_SLACK_SEC) = 0xFF ∧ live s (tbO Reg.TB_SLACK_OTH) = 0xFF ∧
    activeOf s (fltO (Reg.FLT_SEV 0)) = 0x02315522 ∧ activeOf s (fltO (Reg.FLT_SEV 7)) = 0x00011233 ∧
    activeOf s (arbO Reg.ARB_SEED) = 1 ∧
    activeOf s (stgO 0 0x040) = 0x01012C00 ∧ activeOf s (stgO 3 0x040) = 0x01010900 ∧
    activeOf s (qdO 0 0x044) = 0x04 ∧ activeOf s (qdO 3 0x050) = 0x28 ∧
    activeOf s (thmO (Reg.THM_WARN 0)) = 0x000C17C0 ∧ activeOf s (thmO (Reg.THM_THROT 2)) = 0x00141900)

/-- The model memory of R247 at reset is in its canonical form. -/
def Obligations.MemoryCanonicalAtReset : Prop :=
 Memory.wf State.reset.mem = true

/-- Every step keeps the canonical form of the model memory. -/
def Obligations.MemoryStaysCanonical : Prop :=
  ∀ s t : State, Memory.wf s.mem = true → step s = .next t → Memory.wf t.mem = true

/-- The frame of every command: no command changes a part of the state that `touches` does not name for it. -/
def Obligations.EachCommandTouchesOnly : Prop :=
  ∀ (c : Instr) (s t : State), exec c s = .next t → Only (touches c) s t

/-- No command changes the queue or the parameters of the build, and a step takes one command from the queue's front and
puts none in; without power no command but a cold start has any effect (the model's choice, log entry 1, DESIGN CHOICE);
only a cold start powers the block, and only a loss of power takes it away. -/
def Obligations.QueueParametersAndSupply : Prop :=
  ((∀ (c : Instr) (s t : State), exec c s = .next t → t.pending = s.pending ∧ t.params = s.params) ∧
    ∀ s t : State, step s = .next t → t.pending = s.pending.drop 1 ∧ t.params = s.params) ∧
  (∀ (c : Instr) (s : State), s.powered = false → c ≠ .coldStart → exec c s = .next s) ∧
  (∀ (c : Instr) (s t : State), exec c s = .next t →
    (s.powered = false → t.powered = true → c = .coldStart) ∧ (s.powered = true → t.powered = false → c = .powerLoss))

/-- No run of steps ever stops: every command answers a next state in every state, and one whose event cannot happen there
changes nothing (log entry 1, DESIGN CHOICE). -/
def Obligations.NoRunStops : Prop :=
 ∀ s : State, Safe s

/-- A cold start and a SYNC frame that makes a secondary join (R55) load the counter; no other command changes it or the
elapsed time. The active copies of the configuration change only where an apply, the effect of a live coefficient, the
parity walker, a trim that the ring writes, a load at start, or a host's own access brings a value into effect (R66, R69,
R81, R84, R104, R534). The model memory changes only by a write of the staging area, an activation, a load at start, a
reset, or a host's own access (R247 to R250). -/
def Obligations.StateChangesOnlyBy : Prop :=
  (∀ (c : Instr) (s t : State), exec c s = .next t → (t.tb.tick ≠ s.tb.tick ∨ t.tb.elapsed ≠ s.tb.elapsed) →
    c = .coldStart ∨ (∃ p ok, c = .bridgeSyncFrame p ok)) ∧
  (∀ (c : Instr) (s t : State), exec c s = .next t → t.regs.active ≠ s.regs.active →
    c = .coldStart ∨ c = .strobeApplyTick ∨ c = .boundaryApply ∨ c = .lcTakeEffect ∨ c = .parityWalk ∨ (∃ n, c = .cluTrimWrite n) ∨
    c = .bootLoadDone ∨ (∃ a f d, c = .registerWrite a f d) ∨ (∃ a f d, c = .atomicAdd a f d) ∨ (∃ a f d, c = .bitAliasWrite a f d) ∨
    (∃ b, c = .i3cPrivateWrite b) ∨ (∃ b, c = .i3cReadHeader b) ∨ (∃ a, c = .genBootcmdSafeProfile a) ∨
    (∃ a, c = .genBootcmdShutdown a) ∨ (∃ a, c = .genBootcmdRestart a) ∨ (∃ a k, c = .genBootcmdWarmReset a k)) ∧
  (∀ (c : Instr) (s t : State), exec c s = .next t → t.mem ≠ s.mem →
    c = .coldStart ∨ (∃ a f d, c = .modelStagingWrite a f d) ∨ c = .tallyInstallActivate ∨ c = .bootLoadDone ∨
    (∃ a f d, c = .registerWrite a f d) ∨ (∃ a f d, c = .atomicAdd a f d) ∨ (∃ a f d, c = .bitAliasWrite a f d) ∨
    (∃ b, c = .i3cPrivateWrite b) ∨ (∃ b, c = .i3cReadHeader b) ∨ (∃ a, c = .genBootcmdSafeProfile a) ∨
    (∃ a, c = .genBootcmdShutdown a) ∨ (∃ a, c = .genBootcmdRestart a) ∨ (∃ a k, c = .genBootcmdWarmReset a k))

/-- R66, R67, R68 and R78: a permitted 32-bit write of a Shadow word reaches its shadow with the bits that the register
stores, becomes pending, enters the running CRC, and leaves the active copy; the access is answered. Excepted are the shares
of R357 while shares are enabled, whose write is refused, and writes in the tick of a freeze, which join the frozen set
(R72). R357: a write of a share while shares are enabled is refused and counted, and its shadow stays. -/
def Obligations.ShadowWrites : Prop :=
  (∀ (s : State) (a : Access) (f : Form) (d : BitVec 64) (r : Row) (k i : Nat) (pt : PageType) (off : Nat),
    awake s = true → reaches s a = true → wordForm32 f → off = canonical f.off.toNat →
    placed s.params off = some (r, k, pt, i) → r.cls = .shadow → (r.acc = .rw ∨ r.acc = .rws ∧ secure s a = true) →
    (shareWord off && cfgB s (pwrO Reg.PWR_CTL) 0) = false →
    frozenNow s = none →
    ∃ t, exec (.registerWrite a f d) s = .next t ∧
      shadowOf t off = storedBits s.params off (d.setWidth 32) ∧ activeOf t off = activeOf s off ∧
      t.regs.pend = s.regs.pend ++ [off] ∧ t.regs.crc = crcEntry s.regs.crc off (storedBits s.params off (d.setWidth 32)) ∧
      (∀ o, o ≠ off → shadowOf t o = shadowOf s o) ∧ t.regs.active = s.regs.active ∧
      Only [.shadow, .regs, .live, .ports] s t) ∧
  (∀ (s : State) (a : Access) (f : Form) (d : BitVec 64) (r : Row) (k i : Nat) (pt : PageType) (off : Nat),
    awake s = true → reaches s a = true → wordForm32 f → off = canonical f.off.toNat →
    placed s.params off = some (r, k, pt, i) → r.cls = .shadow → (r.acc = .rw ∨ r.acc = .rws ∧ secure s a = true) →
    shareWord off = true → cfgB s (pwrO Reg.PWR_CTL) 0 = true →
    ∃ t, exec (.registerWrite a f d) s = .next t ∧ t.regs.shadow = s.regs.shadow ∧ t.regs.active = s.regs.active ∧
      t.regs.pend = s.regs.pend ∧
      (live t (pwrO PAGE_STAT)).field 15 8 = Nat.min ((live s (pwrO PAGE_STAT)).field 15 8 + 1) 255)

/-- R67 and R580: a read of a writable word that is not Immediate returns its shadow, or the value last written, each field
as the device would use it, and with the port's bit of `GEN_RDSEL` set the active copy in place of it; it changes nothing
but the response. R94: two register accesses of one form whose offsets have one canonical address have one effect. -/
def Obligations.ShadowReads : Prop :=
  (∀ (s : State) (a : Access) (f : Form) (r : Row) (k i : Nat) (pt : PageType) (off : Nat),
    awake s = true → reaches s a = true → wordForm32 f → off = canonical f.off.toNat →
    placed s.params off = some (r, k, pt, i) → r.cls ≠ .imm → (r.acc = .rw ∨ r.acc = .rws ∧ secure s a = true) →
    exec (.rcRegisterRead a f) s = .next (respond a (.ok ((asRead s.params off
      (if rdActive s a.port then activeOf s off else shadowOf s off)).setWidth 128)) s)) ∧
  (∀ (s : State) (a : Access) (f g : Form) (d : BitVec 64), wordForm32 f → wordForm32 g →
    canonical f.off.toNat = canonical g.off.toNat →
    exec (.registerWrite a f d) s = exec (.registerWrite a g d) s ∧ exec (.rcRegisterRead a f) s = exec (.rcRegisterRead a g) s ∧
    exec (.atomicAdd a f d) s = exec (.atomicAdd a g d) s)

/-- R16 and R93: a non-secure write of a secure-only word has no effect but its count in `GEN_ACCERR.NONSEC` and the source
recorded in `HOST_LASTNS`; it gets no error response. R16 and R93: a non-secure read of a secure-only word returns 0 and
clears nothing. -/
def Obligations.NonsecureAccesses : Prop :=
  (∀ (s : State) (a : Access) (f : Form) (d : BitVec 64) (r : Row) (k i : Nat) (pt : PageType) (off : Nat),
    awake s = true → reaches s a = true → wordForm32 f → off = canonical f.off.toNat →
    placed s.params off = some (r, k, pt, i) → (r.acc = .rws ∨ r.acc = .ros ∧ endedEnergy s pt r.off k = false) → secure s a = false →
    exec (.registerWrite a f d) s = .next (respond a (.ok 0) (countNonsec a s))) ∧
  (∀ (s : State) (a : Access) (f : Form) (r : Row) (k i : Nat) (pt : PageType) (off : Nat),
    awake s = true → reaches s a = true → wordForm32 f → off = canonical f.off.toNat →
    placed s.params off = some (r, k, pt, i) → (r.acc = .rws ∨ r.acc = .ros ∧ endedEnergy s pt r.off k = false) → secure s a = false →
    exec (.resultRegisterRead a f) s = .next (respond a (.ok 0) (countNonsec a s)))

/-- R90: a read of an RC word, in a page's own registers or in the common layout, returns it and leaves it at its reset
value; every other live word stays. The events of the read's tick come first: where a time has run out in it, or a role or a
request waits for its end, the read returns what the word holds after those (log entry 11), and at the end of the tick what
it has cleared stays cleared. R53: a read of a slack register returns it and sets it back to 255. R92: a read of a result
register returns all of it and clears `VALID` alone. -/
def Obligations.ReadsThatClear : Prop :=
  ((∀ (s : State) (a : Access) (f : Form) (off : Nat),
    awake s = true → reaches s a = true → wordForm32 f → off = canonical f.off.toNat → rcWord s.params off = true →
    ∃ t, exec (.rcRegisterRead a f) s = .next t ∧
      (waiting s = false → responseOf t a = .ok ((viewWord s a.port off).setWidth 128)) ∧
      (waiting s = true → wasSeen s off none = false → responseOf t a = .ok ((viewWord (settle s) a.port off).setWidth 128)) ∧
      (waiting s = true → (off, none) ∈ t.regs.seen) ∧
      live t off = resetAt s.params off ∧ ∀ o, o ≠ off → live t o = live s o) ∧
  (∀ (s : State) (off : Nat), s.regs.seen = [(off, none)] → live (endTick s) off = live s off ∧ (endTick s).regs.seen = [])) ∧
  (∀ (s : State) (a : Access) (other : Bool), awake s = true → reaches s a = true →
    ∃ t, exec (.tbSlackRead a other) s = .next t ∧
      responseOf t a = .ok ((live s (if other then tbO Reg.TB_SLACK_OTH else tbO Reg.TB_SLACK_SEC)).setWidth 128) ∧
      live t (if other then tbO Reg.TB_SLACK_OTH else tbO Reg.TB_SLACK_SEC) = 0xFF ∧
      Only [.live, .ports] s t) ∧
  (∀ (s : State) (a : Access) (f : Form) (off : Nat),
    awake s = true → reaches s a = true → wordForm32 f → off = canonical f.off.toNat →
    resultWord s.params off = true → (secureWord s off = true → secure s a = true) →
    ∃ t, exec (.resultRegisterRead a f) s = .next t ∧
      responseOf t a = .ok ((viewWord s a.port off).setWidth 128) ∧
      live t off = (live s off).put 31 31 0 ∧ ∀ o, o ≠ off → live t o = live s o)

/-- R61: a 64-bit access acts on two consecutive words in one tick, the lower word first. R61: an access of the register
pages of a width other than 32 and 64 bits, misaligned, or with a byte enable clear, gets an error response, counts in
`GEN_ACCERR.FORM`, and has no other effect; so does one outside every range. -/
def Obligations.AccessForms : Prop :=
  (∀ (s : State) (a : Access) (f : Form) (d : BitVec 64), awake s = true → reaches s a = true →
    f.full = true → f.width = 64 → f.off.toNat % 8 = 0 → f.off.toNat < 0x100000 →
    exec (.registerWrite a f d) s = .next
      (writeWord a none (canonical (f.off.toNat + 4)) ((d >>> 32).setWidth 32)
        (writeWord a none (canonical f.off.toNat) (d.setWidth 32)
          (respond a (.ok 0) (noteAccess a (secureWrite s) [canonical f.off.toNat, canonical (f.off.toNat + 4)] s))))) ∧
  (∀ (s : State) (a : Access) (f : Form) (d : BitVec 64), awake s = true → reaches s a = true →
    (f.off.toNat < 0x100000 ∧ formOk f [32, 64] = false ∨ 0x104000 ≤ f.off.toNat ∧ f.off.toNat < 0x200000 ∨
      0x240000 ≤ f.off.toNat ∧ f.off.toNat < 0x400000 ∨ 0x480000 ≤ f.off.toNat ∧ f.off.toNat < 0x800000) →
    exec (.registerWrite a f d) s = .next (formError a s) ∧ exec (.rcRegisterRead a f) s = .next (formError a s) ∧
    exec (.resultRegisterRead a f) s = .next (formError a s) ∧
    (a.port = .fabric → exec (.atomicAdd a f d) s = .next (formError a s)))

/-- R62: a permitted 32-bit atomic add on an Immediate word returns the value read and stores, in the bits that the register
holds, that value plus the operand modulo 2^32. R96: a permitted write through the bit-alias window of a Shadow word changes
one bit of the word, and the word's write becomes pending as any write of it does (but in the tick of a freeze); of an
Immediate word it changes one bit at once; of a command register a 1 acts as a write of that bit alone and a 0 does nothing
(but in the seal and the registers whose 0 counts, log entry 20). The window reaches pages 0x00 to 0x3F, in which no live
coefficient stands. -/
def Obligations.AtomicAddsAndAliases : Prop :=
  (∀ (s : State) (a : Access) (f : Form) (d : BitVec 64) (r : Row) (k i : Nat) (pt : PageType) (off : Nat),
    awake s = true → a.port = .fabric → wordForm32 f → off = canonical f.off.toNat →
    placed s.params off = some (r, k, pt, i) → r.cls = .imm → (r.acc = .rw ∨ r.acc = .rws ∧ secure s a = true) →
    ∃ t, exec (.atomicAdd a f d) s = .next t ∧
      t.ports.fab = .ok ((asRead s.params off (live s off)).setWidth 128) ∧
      live t off = storedBits s.params off (asRead s.params off (live s off) + d.setWidth 32) ∧
      ∀ o, o ≠ off → live t o = live s o) ∧
  ((∀ (s : State) (a : Access) (f : Form) (d : Word) (r : Row) (k i : Nat) (pt : PageType) (off b : Nat),
    awake s = true → reaches s a = true → f.full = true → f.width = 32 → f.off.toNat % 4 = 0 → 0x800000 ≤ f.off.toNat →
    aliasOf f = (off, b) → placed s.params off = some (r, k, pt, i) → (r.acc = .rw ∨ r.acc = .rws ∧ secure s a = true) →
    (r.cls = .shadow → shareWord off = false → frozenNow s = none →
      ∃ t, exec (.bitAliasWrite a f d) s = .next t ∧
        shadowOf t off = storedBits s.params off ((shadowOf s off).put b b (d.toNat % 2)) ∧
        t.regs.active = s.regs.active ∧ t.regs.pend = s.regs.pend ++ [off] ∧ ∀ o, o ≠ off → shadowOf t o = shadowOf s o) ∧
    (r.cls = .imm →
      ∃ t, exec (.bitAliasWrite a f d) s = .next t ∧
        live t off = storedBits s.params off ((live s off).put b b (d.toNat % 2)) ∧ (∀ o, o ≠ off → live t o = live s o) ∧
        Only [.live, .ports] s t)) ∧
  (∀ (s : State) (a : Access) (f g : Form) (d : Word) (r : Row) (k i : Nat) (pt : PageType) (off b : Nat),
    awake s = true → reaches s a = true → secure s a = true → f.full = true → f.width = 32 → f.off.toNat % 4 = 0 →
    0x800000 ≤ f.off.toNat → aliasOf f = (off, b) → placed s.params off = some (r, k, pt, i) → (r.acc = .wo ∨ r.acc = .w1p) →
    (pt ≠ .gen ∨ r.off ≠ Reg.GEN_SEAL) →
    (wordForm32 g → canonical g.off.toNat = off → exec (.bitAliasWrite a f 1) s = exec (.registerWrite a g (1 <<< b)) s) ∧
    (pt ≠ .host → pt ≠ .seat → d.bit 0 = false → exec (.bitAliasWrite a f d) s = .next (respond a (.ok 0) s))))

/-- R91: a counter grows by one and saturates at its maximum, and counting disturbs no other live word. A snapshot (R88):
every counter's copy is taken in one tick, `GEN_SNAPSEQ` grows by one, and a second command in the tick of a first adds
nothing. -/
def Obligations.CountersAndSnapshots : Prop :=
  (∀ (off n : Nat) (s : State),
    (live (bumpBy off n s) off).toNat = Nat.min ((live s off).toNat + n) 0xFFFFFFFF ∧
    (∀ o, o ≠ off → live (bumpBy off n s) o = live s o) ∧ Only [.live] s (bumpBy off n s)) ∧
  ((∀ (s : State) (a : Access), awake s = true → reaches s a = true → s.regs.snapAt ≠ some (now s) →
    ∃ t, exec (.genSnapGo a) s = .next t ∧ live t (genO Reg.GEN_SNAPSEQ) = live s (genO Reg.GEN_SNAPSEQ) + 1 ∧
      t.regs.snapAt = some (now s) ∧
      (∀ o v, (o, v) ∈ snapWords s → (∀ v', (o, v') ∈ snapWords s → v' = v) → o ≠ genO Reg.GEN_SNAPSEQ → live t o = v) ∧
      (∀ o, o ∉ (snapWords s).map (·.1) → o ≠ genO Reg.GEN_SNAPSEQ → live t o = live s o) ∧ Only [.live, .regs, .ports] s t) ∧
  (∀ (s : State) (a : Access), awake s = true → reaches s a = true → s.regs.snapAt = some (now s) →
    exec (.genSnapGo a) s = .next (respond a (.ok 0) s)))

/-- R11: rounding answers the nearest integer, and of two equally near the one further from zero; a value beyond a range
saturates at the nearest end, and one within it stays. -/
def Obligations.RoundingAndSaturation : Prop :=
  (∀ (n : Int) (d : Nat), 0 < d → 2 * |n - roundDiv n d * d| ≤ d ∧
    (2 * |n - roundDiv n d * d| = d → |n| ≤ |roundDiv n d * d|)) ∧
  ∀ (x lo hi : Int), lo ≤ hi → lo ≤ clamp x lo hi ∧ clamp x lo hi ≤ hi ∧ (lo ≤ x → x ≤ hi → clamp x lo hi = x) ∧
    (x < lo → clamp x lo hi = lo) ∧ (hi < x → clamp x lo hi = hi)

/-- R6: a page of an absent unit reads zero, ignores writes, and an access to it raises nothing: an access of good form, 32
or 64 bits wide or through a bit's alias, by any port, changes nothing but its response. -/
def Obligations.AbsentPageIsInert : Prop :=
  (∀ (s : State) (a : Access) (f : Form) (d : BitVec 64), awake s = true → reaches s a = true → formOk f [32, 64] = true →
    f.off.toNat < 0x100000 → pageType s.params (canonical f.off.toNat / 0x1000) = none →
    exec (.rcRegisterRead a f) s = .next (respond a (.ok 0) s) ∧ exec (.resultRegisterRead a f) s = .next (respond a (.ok 0) s) ∧
    exec (.registerWrite a f d) s = .next (respond a (.ok 0) s) ∧
    (a.port = .fabric → exec (.atomicAdd a f d) s = .next (respond a (.ok 0) s))) ∧
  (∀ (s : State) (a : Access) (f : Form) (d : Word), awake s = true → reaches s a = true → formOk f [32] = true →
    0x800000 ≤ f.off.toNat → pageType s.params ((aliasOf f).1 / 0x1000) = none →
    exec (.rcRegisterRead a f) s = .next (respond a (.ok 0) s) ∧ exec (.bitAliasWrite a f d) s = .next (respond a (.ok 0) s))

/-- Cold start, loss of power and first lock (R32, R40, R55, R66, R530): a block that gets power is at reset but for the
held word of `BRIDGE_CTL`, which takes effect (that it survives the loss of power: log entry 13); at its PLL's first lock a
primary's or standalone block's counter runs from 0, and a secondary's waits for its sync word. -/
def Obligations.SupplyCommands : Prop :=
  (∀ s : State, s.powered = false → ∃ t, exec .coldStart s = .next t ∧ t.powered = true ∧ t.tb.elapsed = 0 ∧ t.tb.tick = 0 ∧
    t.tb.running = false ∧ t.boot.state = .lock ∧ t.boot.lockAt = none ∧ t.params = s.params ∧ t.pending = s.pending ∧
    activeOf t (bridgeO Reg.BRIDGE_CTL) = shadowOf s (bridgeO Reg.BRIDGE_CTL) ∧
    ∀ off, off ≠ bridgeO Reg.BRIDGE_CTL → activeOf t off = resetAt s.params off ∧ shadowOf t off = resetAt s.params off) ∧
  (∀ s : State, s.powered = true → ∃ t, exec .powerLoss s = .next t ∧ t.powered = false ∧ Only [.powered] s t) ∧
  (∀ (s : State) (aGood bGood : Bool), awake s = true → s.boot.lockAt = none → (aGood || bGood) = true → s.bridge.role ≠ 2 →
    ∃ t, exec (.pllFirstLock aGood bGood) s = .next t ∧ t.tb.lock = true ∧ t.tb.running = true ∧ t.tb.tick = s.tb.tick ∧
      t.tb.sel = (if aGood then 0 else 1) ∧ t.tb.aOk = aGood ∧ t.tb.bOk = bGood ∧ t.boot.lockAt = some (now s) ∧
      (s.boot.state = .lock → t.boot.state = .load)) ∧
  (∀ (s : State) (aGood bGood : Bool), awake s = true → s.boot.lockAt = none → s.bridge.role = 2 →
    ∃ t, exec (.pllFirstLock aGood bGood) s = .next t ∧ t.tb.lock = true ∧ t.tb.running = false ∧ t.tb.sel = 2 ∧
      t.boot.lockAt = some (now s) ∧ t.boot.state = s.boot.state)

/-- The references (R35 to R39): a window that meets R35 is no loss; a reference that is not the selected one is lost with
`TB_REF_LOST` alone; the loss of the selected one moves the PLL to a good other one and counts it, or else enters holdover.
Sixteen good windows since the loss, and no fewer, make a reference good again: holdover ends on it, or the PLL reverts to
the preferred one where `REVERT` is set. Holdover that has lasted its time is raised when that tick ends (log entry 11); it
and a loss of lock step nothing, and the counter runs on through either (log entry 6). -/
def Obligations.ReferenceCommands : Prop :=
  (∀ (s : State) (r : Ref) (w : RefWindow), awake s = true → refMeets w = true → exec (.tbRefLost ⟨r, w⟩) s = .next s) ∧
  (∀ (s : State) (r : Ref) (w : RefWindow), awake s = true → refOk s r = true → refMeets w = false → s.tb.sel ≠ refSel r →
    ∃ t, exec (.tbRefLost ⟨r, w⟩) s = .next t ∧ refOk t r = false ∧ t.tb.sel = s.tb.sel ∧ Raised Src.TB_REF_LOST 0 s t) ∧
  (∀ (s : State) (r o : Ref) (w : RefWindow), awake s = true → refOk s r = true → refMeets w = false → s.tb.sel = refSel r →
    goodRef (setRef r false s) = some o →
    ∃ t, exec (.tbRefLost ⟨r, w⟩) s = .next t ∧ refOk t r = false ∧ t.tb.sel = refSel o ∧ Raised Src.TB_REF_LOST 0 s t ∧
      (live t (tbO Reg.TB_FAILOVERS)).toNat = Nat.min ((live s (tbO Reg.TB_FAILOVERS)).toNat + 1) 0xFFFFFFFF) ∧
  (∀ (s : State) (r : Ref) (w : RefWindow), awake s = true → refOk s r = true → refMeets w = false → s.tb.sel = refSel r →
    goodRef (setRef r false s) = none →
    ∃ t, exec (.tbRefLost ⟨r, w⟩) s = .next t ∧ refOk t r = false ∧ t.tb.hold = true ∧ t.tb.holdAt = now s ∧
      t.tb.running = s.tb.running ∧ t.tb.tick = s.tb.tick ∧ Raised Src.TB_HOLDOVER 0 s t) ∧
  (∀ (s : State) (r : Ref) (l : List RefWindow), awake s = true → refOk s r = false → l.length = 16 → l.all refMeets = true →
    refLostAt s r + regainTicks ≤ now s → s.tb.hold = true → (r ≠ .bridge ∨ bridged s = true) →
    ∃ t, exec (.refGoodAgain ⟨r, l⟩) s = .next t ∧ refOk t r = true ∧ t.tb.hold = false ∧ t.tb.expired = false ∧ t.tb.sel = refSel r ∧
      t.tb.goodAt = now s ∧ t.tb.tick = s.tb.tick) ∧
  (∀ (s : State) (r : Ref) (l : List RefWindow), awake s = true → refOk s r = false → l.length = 16 → l.all refMeets = true →
    refLostAt s r + regainTicks ≤ now s → s.tb.hold = false → cfgB s (tbO Reg.TB_REFCTL) 1 = false →
    ∃ t, exec (.refGoodAgain ⟨r, l⟩) s = .next t ∧ refOk t r = true ∧ t.tb.sel = s.tb.sel ∧ Only [.tb] s t) ∧
  (∀ (s : State) (r : Ref) (l : List RefWindow), awake s = true → refOk s r = false → l.length = 16 → l.all refMeets = true →
    refLostAt s r + regainTicks ≤ now s → s.tb.hold = false → cfgB s (tbO Reg.TB_REFCTL) 1 = true → r = prefRef s →
    s.tb.sel ≠ 2 → s.tb.sel ≠ refSel r → s.boot.lockAt.isSome = true →
    ∃ t, exec (.refGoodAgain ⟨r, l⟩) s = .next t ∧ refOk t r = true ∧ t.tb.sel = refSel r) ∧
  (∀ (s : State) (r : Ref) (l : List RefWindow), l.length ≠ 16 ∨ l.all refMeets = false ∨ now s < refLostAt s r + regainTicks →
    exec (.refGoodAgain ⟨r, l⟩) s = .next s) ∧
  (∀ s : State, awake s = true → holdoverDue s = true → exec .tbHoldoverExpired s = .next (expire .holdover s)) ∧
  (∀ s : State, s.tb.hold = true → s.tb.expired = false → s.tb.holdAt + msTicks (cfgF s (tbO Reg.TB_HOLDOVER) 9 0) ≤ now s →
    (timeOver .holdover s).tb.expired = true ∧ (timeOver .holdover s).tb.hold = true ∧ (timeOver .holdover s).tb.tick = s.tb.tick ∧
      Raised Src.TB_HOLDOVER_EXPIRED 0 s (timeOver .holdover s)) ∧
  (∀ s : State, awake s = true → s.tb.lock = true → s.tb.hold = false →
    ∃ t, exec .tbPllUnlock s = .next t ∧ t.tb.lock = false ∧ t.tb.tick = s.tb.tick ∧ t.tb.running = s.tb.running ∧
      Raised Src.TB_PLL_UNLOCK 0 s t)

/-- R41: a 64-bit read of `TB_TICK_LO` returns both halves of one tick; a 32-bit read returns the lower half and captures
the upper half for its own port alone; the port's next read of `TB_TICK_HI` returns the captured half and ends the capture;
with none captured it returns the upper half of the present tick. -/
def Obligations.TickReads : Prop :=
  ∀ (s : State) (a : Access), awake s = true → reaches s a = true →
    exec (.tbTickLoRead a true) s = .next (respond a (.ok (s.tb.tick.setWidth 128)) s) ∧
    (∃ t, exec (.tbTickLoRead a false) s = .next t ∧ responseOf t a = .ok ((s.tb.tick.setWidth 32).setWidth 128) ∧
      (a.port = .fabric → t.tb.heldFab = some ((s.tb.tick >>> 32).setWidth 32) ∧ t.tb.heldI3c = s.tb.heldI3c) ∧
      (a.port = .i3c → t.tb.heldI3c = some ((s.tb.tick >>> 32).setWidth 32) ∧ t.tb.heldFab = s.tb.heldFab)) ∧
    (∃ t, exec (.tbTickHiRead a) s = .next t ∧
      (a.port = .fabric → t.ports.fab = .ok ((s.tb.heldFab.getD ((s.tb.tick >>> 32).setWidth 32)).setWidth 128) ∧
        t.tb.heldFab = none ∧ t.tb.heldI3c = s.tb.heldI3c) ∧
      (a.port = .i3c → t.ports.i3c = .ok ((s.tb.heldI3c.getD ((s.tb.tick >>> 32).setWidth 32)).setWidth 128) ∧
        t.tb.heldI3c = none ∧ t.tb.heldFab = s.tb.heldFab))

/-- Completions of the self-timed engines (R44, R45, R49, R51): a completion of a running engine that is stamped by its
latch tick is taken with its stamp; one after it finds its computation abandoned and changes nothing; the fault manager's
completes what is registered and not yet due. -/
def Obligations.EngineCompletions : Prop :=
  (∀ (s : State) (cls i t0 : Nat), (eng s cls i).start = some t0 → (eng s cls i).done = none → now s ≤ t0 + latchTick cls →
    (eng (complete cls i s) cls i).done = some (now s) ∧ (eng (complete cls i s) cls i).start = some t0) ∧
  (∀ (s : State) (cls i t0 : Nat), (eng s cls i).start = some t0 → t0 + latchTick cls < now s → complete cls i s = s) ∧
  (∀ (s : State) (sec : Nat), awake s = true → exec (.engineCompletion (.sector sec)) s = .next (complete clsSector sec s)) ∧
  (∀ (s : State) (d : Nat), awake s = true → exec (.engineCompletion (.compensator d)) s = .next (complete clsComp d s)) ∧
  (∀ s : State, awake s = true → exec (.engineCompletion .tally) s = .next (complete clsTally 0 s) ∧
    exec (.engineCompletion .capLoop) s = .next (complete clsCap 0 s) ∧
    exec (.engineCompletion .thermal) s = .next (complete clsTherm 0 s)) ∧
  (∀ (s : State) (q : Nat), awake s = true → exec (.engineCompletion (.arbiter q)) s = .next (complete clsArb q s)) ∧
  (∀ s : State, awake s = true → ∃ t, exec (.engineCompletion .faultMgr) s = .next t ∧
    t.flt.regq = s.flt.regq.map fun r => { r with done := r.done || decide (now s ≤ r.due) })

/-- The bridge (R55 to R57, R533, R568, R569): a sync word of good CRC makes a secondary join with its counter loaded, and
refreshes one that has joined; a bad one is counted; a strobe freezes the secondary's own set for its apply tick, whatever
other instances do (R77); caps and energy are taken, and a frame of bad CRC does nothing more. A lost bridge and a secondary
that waits too long in LOCK go on alone at the end of their tick (log entry 11), on a reference of their own or in holdover
(log entry 18). A lane sends frames of 80 bits one after another; a strobe begins at once and the frame it abandons is sent
again after it. -/
def Obligations.BridgeCommands : Prop :=
  (∀ (s : State) (p : BitVec 64), awake s = true → bridged s = true → s.boot.lockAt.isSome = true → s.bridge.joined = false →
    ∃ t, exec (.bridgeSyncFrame p (frameCrc frameSync p)) s = .next t ∧
      t.tb.tick = p + BitVec.ofNat 64 (s.params.brgFlight.getD 0 0) ∧ t.tb.running = true ∧
      t.bridge.joined = true ∧ t.bridge.lastSync = now s ∧ (s.boot.state = .lock → t.boot.state = .load)) ∧
  (∀ (s : State) (p : BitVec 64), awake s = true → bridged s = true → s.boot.lockAt.isSome = true → s.bridge.joined = true →
    ∃ t, exec (.bridgeSyncFrame p (frameCrc frameSync p)) s = .next t ∧ t.bridge.lastSync = now s ∧ Only [.bridge] s t) ∧
  (∀ (s : State) (p : BitVec 64) (crc : Byte), awake s = true → bridged s = true → s.boot.lockAt.isSome = true →
    crc ≠ frameCrc frameSync p →
    ∃ t, exec (.bridgeSyncFrame p crc) s = .next t ∧ t.bridge.lastSync = s.bridge.lastSync ∧ t.bridge.joined = s.bridge.joined ∧
      Only [.bridge, .live] s t ∧
      (live t (bridgeO Reg.BRIDGE_ERR)).field 23 16 = Nat.min ((live s (bridgeO Reg.BRIDGE_ERR)).field 23 16 + 1) 255) ∧
  (∀ (s : State) (k : BitVec 64), awake s = true → bridged s = true → s.bridge.joined = true → s.tb.tick.toNat ≤ k.toNat →
    ∃ t, exec (.bridgeStrobeFrame k (frameCrc frameStrobe k)) s = .next t ∧ t.regs.pend = [] ∧ t.regs.crc = 0xFFFFFFFF ∧
      t.regs.frozen.map (·.due) = some (now s + (k.toNat - s.tb.tick.toNat)) ∧ t.regs.frozen.map (·.crc) = some s.regs.crc) ∧
  (∀ (s : State) (k : BitVec 64), awake s = true → bridged s = true → s.bridge.joined = true → k.toNat < s.tb.tick.toNat →
    ∃ t, exec (.bridgeStrobeFrame k (frameCrc frameStrobe k)) s = .next t ∧ t.regs.frozen.map (·.due) = some (now s) ∧
      (live t (bridgeO Reg.BRIDGE_ERR)).field 15 8 = Nat.min ((live s (bridgeO Reg.BRIDGE_ERR)).field 15 8 + 1) 255) ∧
  (∀ (s : State) (w : BitVec 13), awake s = true → bridged s = true →
    ∃ t, exec (.bridgeCapFrame w (frameCrc frameCap (w.setWidth 64))) s = .next t ∧ t.bridge.capRecv = w.toNat ∧ Only [.bridge] s t) ∧
  (∀ (s : State) (i : Nat) (inc : BitVec 48) (k : BitVec 16), awake s = true → s.bridge.role = 1 → i < 4 →
    ∃ t, exec (.bridgeEnergyFrame i inc k (frameCrc frameEnergy (energyPayload inc k))) s = .next t ∧
      t.cap.recv.find i = some (k.toNat, inc.toNat) ∧ Only [.cap] s t) ∧
  (∀ (s : State) (i : Nat) (p : BitVec 64) (w : BitVec 13) (inc : BitVec 48) (k : BitVec 16) (crc : Byte),
    (crc ≠ frameCrc frameStrobe p → exec (.bridgeStrobeFrame p crc) s = .next s) ∧
    (crc ≠ frameCrc frameCap (w.setWidth 64) → exec (.bridgeCapFrame w crc) s = .next s) ∧
    (crc ≠ frameCrc frameEnergy (energyPayload inc k) → exec (.bridgeEnergyFrame i inc k crc) s = .next s)) ∧
  (∀ s : State, awake s = true → bridgeDue s = true → exec .brgSyncLost s = .next (expire .bridge s)) ∧
  (∀ s : State, bridged s = true → s.boot.state ≠ .lock → s.bridge.lastSync + 4 * estP ≤ now s →
    (timeOver .bridge s).bridge.lost = true ∧ (timeOver .bridge s).tb.tick = s.tb.tick ∧
      RaisedAmong Src.BRG_SYNC_LOST s.bridge.inst s (timeOver .bridge s) ∧ (s.tb.sel = 2 → (timeOver .bridge s).tb.sel ≠ 2)) ∧
  (∀ s : State, awake s = true → joinDue s = true → exec .secondaryLockTimeout s = .next (expire .joinWait s)) ∧
  (∀ (s : State) (t0 : Nat), bridged s = true → s.boot.state = .lock → s.boot.lockAt = some t0 → t0 + 125000000 ≤ now s →
    (timeOver .joinWait s).tb.tick = 0 ∧ (timeOver .joinWait s).tb.running = true ∧ (timeOver .joinWait s).bridge.lost = true ∧
      (timeOver .joinWait s).boot.state = .load ∧
      ⟨Src.BRG_SYNC_LOST, s.bridge.inst, 0, now s, now s + 8, false⟩ ∈ (timeOver .joinWait s).flt.regq) ∧
  (∀ (typ : Nat) (p : BitVec 64), (frameBits typ p).length = 4 * frameTicks) ∧
  (∀ (s : State) (l : Nat) (x : BrgLink) (f : Sending),
    (strobeSent s = true → x.cur = some f → now s < f.from0 + frameTicks →
      laneTick s l x = { cur := some (beginFrame s l frameStrobe), wait := f.typ :: (x.wait ++ framesDue s) }) ∧
    (strobeSent s = false → x.cur = some f → now s < f.from0 + frameTicks →
      laneTick s l x = { cur := some f, wait := x.wait ++ framesDue s }) ∧
    (∀ n rest, strobeSent s = false → x.cur = some f → f.from0 + frameTicks ≤ now s → x.wait ++ framesDue s = n :: rest →
      laneTick s l x = { cur := some (beginFrame s l n), wait := rest }))

/-- A strobe (R72 to R75, R56): by a write of `GEN_UPDATE` or an edge it freezes the pending set with the shadows' values
and its CRC for an apply tick later by the lead, and the sets that follow begin empty; while a frozen set waits, under
boundary apply, and on a bridged secondary it freezes nothing and is shown or counted. A write that comes after the strobe
in its tick joins the frozen set. Boundary apply and live coefficients (R70, R71, R81): with good parity the pending writes
of the pages whose boundary this tick is, and the live coefficients written, take effect together; other active copies stay.
-/
def Obligations.StrobesAndBoundaries : Prop :=
  ((∀ (s : State) (a : Access), awake s = true → reaches s a = true → bridged s = false → boundaryMode s = false →
    (∀ t0 due, s.regs.strobe = some (t0, due) → t0 ≠ now s ∧ due < now s) →
    ∃ t, exec (.genUpdateGo a) s = .next t ∧ t.regs.pend = [] ∧ t.regs.crc = 0xFFFFFFFF ∧ t.regs.drove = some (now s) ∧
      t.regs.frozen = some ⟨s.regs.pend.eraseDups.map (fun off => ⟨off, shadowOf s off, s.regs.badShadow.contains off⟩),
        s.regs.crc, now s + cfgF s (bridgeO Reg.BRIDGE_STRB) 7 0⟩ ∧
      t.regs.shadow = s.regs.shadow ∧ t.regs.active = s.regs.active) ∧
  (∀ s : State, awake s = true → (∀ t0, s.regs.drove = some t0 → t0 + 18 < now s) → bridged s = false → boundaryMode s = false →
    (∀ t0 due, s.regs.strobe = some (t0, due) → t0 ≠ now s ∧ due < now s) →
    ∃ t, exec .updStrobeEdge s = .next t ∧ t.regs.pend = [] ∧ t.regs.drove = s.regs.drove ∧
      t.regs.frozen.map (·.crc) = some s.regs.crc ∧
      t.regs.frozen.map (·.due) = some (now s + cfgF s (bridgeO Reg.BRIDGE_STRB) 7 0) ∧
      t.regs.shadow = s.regs.shadow ∧ t.regs.active = s.regs.active) ∧
  (∀ (s : State) (a : Access) (t0 due : Nat), awake s = true → reaches s a = true → bridged s = false → boundaryMode s = false →
    s.regs.strobe = some (t0, due) → t0 < now s → now s ≤ due →
    ∃ t, exec (.genUpdateGo a) s = .next t ∧ live t (genO Reg.GEN_APPLYSTAT) = (live s (genO Reg.GEN_APPLYSTAT)).put 4 4 1 ∧
      t.regs.pend = s.regs.pend ∧ t.regs.frozen = s.regs.frozen ∧ t.regs.crc = s.regs.crc) ∧
  (∀ (s : State) (a : Access), awake s = true → reaches s a = true → bridged s = false → boundaryMode s = true →
    ∃ t, exec (.genUpdateGo a) s = .next t ∧ live t (genO Reg.GEN_APPLYSTAT) = (live s (genO Reg.GEN_APPLYSTAT)).put 5 5 1 ∧
      t.regs.pend = s.regs.pend ∧ t.regs.frozen = s.regs.frozen) ∧
  (∀ s : State, awake s = true → (∀ t0, s.regs.drove = some t0 → t0 + 18 < now s) → bridged s = true →
    ∃ t, exec .updStrobeEdge s = .next t ∧ t.regs = { s.regs with live := t.regs.live } ∧
      (live t (bridgeO Reg.BRIDGE_ERR)).field 7 0 = Nat.min ((live s (bridgeO Reg.BRIDGE_ERR)).field 7 0 + 1) 255) ∧
  (∀ (off : Nat) (w : Word) (s : State) (f : Frozen) (due : Nat), s.regs.frozen = some f → s.regs.strobe = some (now s, due) →
    (pendWrite off w s).regs.pend = s.regs.pend ∧ shadowOf (pendWrite off w s) off = w ∧
      ∃ b, (pendWrite off w s).regs.frozen = some (f.join off w b))) ∧
  ((∀ s : State, awake s = true → boundaryMode s = true → s.regs.badShadow = [] →
    (∃ off, off ∈ s.regs.pend ∧ atTick s (boundaryTicks s (pageOf off)) 0 = true) →
    ∃ t, exec .boundaryApply s = .next t ∧
      (∀ off, off ∈ s.regs.pend → atTick s (boundaryTicks s (pageOf off)) 0 = true →
        activeOf t off = shadowOf s off ∧ off ∉ t.regs.pend) ∧
      (∀ off, ¬(off ∈ s.regs.pend ∧ atTick s (boundaryTicks s (pageOf off)) 0 = true) → activeOf t off = activeOf s off) ∧
      (∀ off, off ∈ s.regs.pend → atTick s (boundaryTicks s (pageOf off)) 0 = false → off ∈ t.regs.pend) ∧
      t.regs.shadow = s.regs.shadow) ∧
  (∀ s : State, awake s = true → atTick s controlP 0 = true → s.regs.lc ≠ [] → s.regs.badShadow = [] →
    ∃ t, exec .lcTakeEffect s = .next t ∧ t.regs.lc = [] ∧ (∀ off, off ∈ s.regs.lc → activeOf t off = shadowOf s off) ∧
      (∀ off, off ∉ s.regs.lc → activeOf t off = activeOf s off) ∧ t.regs.shadow = s.regs.shadow))

/-- The apply tick of a frozen set (R72, R76, R79, R80): with its seal right and every parity good, every word of the set
takes its frozen value in its active copy in one tick and no other active copy changes. The start set of CHECK applies in
its tick whatever the seal by then, a host's set that is frozen beside it stays, and CHECK ends in SENSE (R535). All or
nothing (R80, R85): a set whose seal is wrong, or one word of which has bad parity, changes no active copy; each of its
shadows that no write is pending for, and that no start set holds, takes the active copy again, and the others stay. A wrong
seal raises `CFG_SEAL_BAD`. -/
def Obligations.FrozenSetAppliesWhole : Prop :=
  ((∀ (s : State) (f : Frozen), awake s = true → setDue s s.regs.startSet = false → s.regs.frozen = some f → f.due ≤ now s →
    f.crc ^^^ 0xFFFFFFFF = s.regs.sealWord → (∀ w, w ∈ f.words → w.bad = false) → (f.words.map (·.off)).Nodup →
    ∃ t, exec .strobeApplyTick s = .next t ∧ t.regs.frozen = none ∧
      (∀ w, w ∈ f.words → activeOf t w.off = w.val) ∧
      (∀ off, off ∉ f.words.map (·.off) → activeOf t off = activeOf s off) ∧
      t.regs.shadow = s.regs.shadow ∧ t.regs.pend = s.regs.pend) ∧
  (∀ (s : State) (f : Frozen), awake s = true → s.regs.startSet = some f → f.due ≤ now s → setDue s s.regs.frozen = false →
    (f.words.map (·.off)).Nodup →
    ∃ t, exec .strobeApplyTick s = .next t ∧ t.regs.startSet = none ∧ t.regs.frozen = s.regs.frozen ∧
      (∀ w, w ∈ f.words → activeOf t w.off = w.val) ∧
      (∀ off, off ∉ f.words.map (·.off) → activeOf t off = activeOf s off) ∧
      t.regs.shadow = s.regs.shadow ∧ t.regs.pend = s.regs.pend ∧ (s.boot.state = .check → t.boot.state = .sense))) ∧
  (∀ (s : State) (f : Frozen), awake s = true → setDue s s.regs.startSet = false → s.regs.frozen = some f → f.due ≤ now s →
    f.words ≠ [] → (f.crc ^^^ 0xFFFFFFFF ≠ s.regs.sealWord ∨ ∃ w, w ∈ f.words ∧ w.bad = true) →
    ∃ t, exec .strobeApplyTick s = .next t ∧ t.regs.frozen = none ∧ t.regs.active = s.regs.active ∧
      (∀ w, w ∈ f.words → w.off ∉ s.regs.pend → (∀ g, s.regs.startSet = some g → ∀ x, x ∈ g.words → x.off ≠ w.off) →
        shadowOf t w.off = activeOf s w.off) ∧
      (∀ off, (off ∉ f.words.map (·.off) ∨ off ∈ s.regs.pend ∨ ∃ g, s.regs.startSet = some g ∧ off ∈ g.words.map (·.off)) →
        shadowOf t off = shadowOf s off) ∧
      t.regs.pend = s.regs.pend ∧ (f.words.all (fun w => !w.bad) = true → ∃ page, RaisedAmong Src.CFG_SEAL_BAD page s t))

/-- The parity walker and the injection (R83, R84, R86): a word of good parity is passed over; a Shadow word whose one copy
is bad and for which no write waits is repaired from the other copy, and `CFG_PARITY` is raised; an injection is armed by a
secure write alone and inverts the parity of the next copy written on its page. -/
def Obligations.ParityCommands : Prop :=
  (∀ (s : State) (place off : Nat), awake s = true → atTick s 8 0 = true → walkNext s.params 200 s.regs.walker = some (place, off) →
    off ∉ s.regs.badActive → off ∉ s.regs.badShadow →
    ∃ t, exec .parityWalk s = .next t ∧ t.regs.walker = place ∧ Only [.regs] s t) ∧
  (∀ (s : State) (place off : Nat), awake s = true → atTick s 8 0 = true → walkNext s.params 200 s.regs.walker = some (place, off) →
    isShadowWord s.params off = true → off ∉ s.regs.pend → inFrozen s off = false → off ∈ s.regs.badActive → off ∉ s.regs.badShadow →
    ∃ t, exec .parityWalk s = .next t ∧ activeOf t off = shadowOf s off ∧ off ∉ t.regs.badActive ∧
      (∀ o, o ≠ off → activeOf t o = activeOf s o) ∧ t.regs.shadow = s.regs.shadow ∧ Raised Src.CFG_PARITY (pageOf off) s t) ∧
  (∀ (s : State) (place off : Nat), awake s = true → atTick s 8 0 = true → walkNext s.params 200 s.regs.walker = some (place, off) →
    isShadowWord s.params off = true → off ∉ s.regs.pend → inFrozen s off = false → off ∉ s.regs.badActive → off ∈ s.regs.badShadow →
    ∃ t, exec .parityWalk s = .next t ∧ shadowOf t off = activeOf s off ∧ off ∉ t.regs.badShadow ∧
      (∀ o, o ≠ off → shadowOf t o = shadowOf s o) ∧ t.regs.active = s.regs.active ∧ Raised Src.CFG_PARITY (pageOf off) s t) ∧
  (∀ (s : State) (a : Access) (page : BitVec 8) (go : Bool), awake s = true → reaches s a = true → secure s a = true →
    ∃ t, exec (.genParinjWrite a page go) s = .next t ∧
      live t (genO Reg.GEN_PARINJ) = storedBits s.params (genO Reg.GEN_PARINJ) (BitVec.ofNat 32 (page.toNat + 256 * b2n go)) ∧
      Only [.live, .ports] s t) ∧
  (∀ (s : State) (a : Access) (page : BitVec 8) (go : Bool), awake s = true → reaches s a = true → secure s a = false →
    exec (.genParinjWrite a page go) s = .next (respond a (.ok 0) (countNonsec a s))) ∧
  (∀ (off : Nat) (w : Word) (s : State), injArmed s (pageOf off) = true →
    off ∈ (writeShadow off w s).regs.badShadow ∧ injArmed (writeShadow off w s) (pageOf off) = false)

/-- Leg sparing (R100): a leg of a closed header found stuck off waits for its spare while fewer than four positions are
spared; eight ticks later the lowest unused spare takes it, with `CELL_LEG_SPARED`; a fifth one isolates the cell. In step 1
of a retest the cell's 64 legs are judged alike, and a fifth one makes the procedure fail there (R441). The faults of a cell
(R112, R113): a leg stuck on and an overcurrent of a closed header, and a comparator conflict of a cell that stands by,
starts or regulates, isolate that cell, and no other, with the source and cause of the fault. -/
def Obligations.CellFaults : Prop :=
  ((∀ (s : State) (n pos : Nat), awake s = true → cellOk s n = true → headerClosed (cell s n) = true → pos < (cell s n).legs →
    (cell s n).map.length + (cell s n).waiting.length < 4 →
    ∃ t, exec (.legStuckOff n pos) s = .next t ∧ cell t n = { cell s n with waiting := (cell s n).waiting ++ [(pos, now s)] } ∧
      (∀ m, m ≠ n → cell t m = cell s m) ∧ Only [.cells] s t) ∧
  (∀ (s : State) (n pos : Nat), awake s = true → cellOk s n = true → headerClosed (cell s n) = true → pos < (cell s n).legs →
    4 ≤ (cell s n).map.length + (cell s n).waiting.length → noRetestOf s n →
    ∃ t, exec (.legStuckOff n pos) s = .next t ∧ IsolatedFor n 2 s t ∧ RaisedAmong Src.CELL_LEGS_EXHAUSTED n s t) ∧
  (∀ (s : State) (n pos t0 : Nat) (rest : List (Nat × Nat)), awake s = true → cellOk s n = true →
    (cell s n).waiting = (pos, t0) :: rest → t0 + 8 ≤ now s →
    ∃ t, exec (.cellLegSpared n) s = .next t ∧ cell t n = { cell s n with map := (cell s n).map ++ [pos], waiting := rest } ∧
      (∀ m, m ≠ n → cell t m = cell s m) ∧ Raised Src.CELL_LEG_SPARED n s t ∧ Only [.cells, .flt] s t) ∧
  (∀ (s : State) (n pos : Nat) (r : Retest), awake s = true → cellOk s n = true → (cell s n).state = .retest →
    (clu s (n / 16)).retest = some r → r.cell = n → r.step = 1 → r.from0 + 4 ≤ now s → pos < 64 →
    ∃ t, exec (.legStuckOff n pos) s = .next t ∧
      ((cell s n).map.length + (cell s n).waiting.length < 4 →
        cell t n = { cell s n with waiting := (cell s n).waiting ++ [(pos, now s)] } ∧ Only [.cells] s t) ∧
      (4 ≤ (cell s n).map.length + (cell s n).waiting.length →
        (clu t (n / 16)).retest = some { r with bad := true } ∧ Only [.clus] s t))) ∧
  (∀ (s : State) (n : Nat), awake s = true → cellOk s n = true → noRetestOf s n →
    (headerClosed (cell s n) = true →
      (∃ t, exec (.cellLegStuckOn n) s = .next t ∧ IsolatedFor n 1 s t ∧ RaisedAmong Src.CELL_LEG_STUCK_ON n s t) ∧
      (∃ t, exec (.cellOvercurrent n) s = .next t ∧ IsolatedFor n 3 s t ∧ RaisedAmong Src.CELL_OVERCURRENT n s t)) ∧
    (detects (cell s n) = true →
      ∃ t, exec (.cellCmpConflict n) s = .next t ∧ IsolatedFor n 4 s t ∧ RaisedAmong Src.CELL_CMP_CONFLICT n s t))

/-- The takeover (R129, R130, R440): when a regulating cell is lost and a spare stands by that no takeover calls, the
takeover names the first such spare and the tick, and the isolator presents its two transactions to the quadrant's ring
stamped eight ticks later; a rotation under way becomes that takeover, by the same two transactions. When the first is
complete nothing follows but the ring's; when the second is, the spare enters START with the median leg count of the last
tick 0 and without its designation. The spare that is not in REGULATE by 2,500 ticks after is late, and is itself isolated
when its tick ends (log entry 11). A regulating cell steps one leg up to 64 below its band and one down to 0 above it
(R105), but none while Schuss forces its legs on (R122); a cell in START regulates after 1,200 ticks, with all its legs
while Schuss is in FORCE (R109, R122), and a takeover that brought it in completes. -/
def Obligations.SpareTakesOver : Prop :=
  ((∀ (s : State) (n sp : Nat) (rest : List Nat), awake s = true → cellOk s n = true → (cell s n).state = .regulate →
    (clu s (n / 16)).retest = none → takeKind (clu s (n / 16)) .rotation = none → takeFor (clu s (n / 16)) n = none →
    callable s (n / 16) = sp :: rest → (∀ x, x ∈ (ring s (n / 16 / 64)).iso → x.stamp ≤ now s + 8) →
    ∃ t, exec (.cellOvercurrent n) s = .next t ∧ takeFor (clu t (n / 16)) sp = some ⟨sp, n, now s, .takeover⟩ ∧
      (ring t (n / 16 / 64)).iso = (ring s (n / 16 / 64)).iso ++
        [jobTxn 7 (n / 16 % 64) (.markFailed n) (now s + 8), jobTxn 7 (n / 16 % 64) (.startSpare (n / 16) sp) (now s + 8)]) ∧
  (∀ (s : State) (n : Nat) (k : Takeover), awake s = true → cellOk s n = true → (cell s n).state = .regulate →
    (clu s (n / 16)).retest = none → takeKind (clu s (n / 16)) .rotation = some k → takeFor (clu s (n / 16)) n = none →
    (cell s k.spare).state = .standby → (∀ x, x ∈ (ring s (n / 16 / 64)).iso → x.stamp ≤ now s + 8) →
    ∃ t, exec (.cellOvercurrent n) s = .next t ∧
      takeFor (clu t (n / 16)) k.spare = some { k with kind := .takeover, outgoing := n } ∧ (cell t k.spare).spdes = false ∧
      (ring t (n / 16 / 64)).iso = (ring s (n / 16 / 64)).iso ++
        [jobTxn 7 (n / 16 % 64) (.markFailed n) (now s + 8), jobTxn 7 (n / 16 % 64) (.startSpare (n / 16) k.spare) (now s + 8)]) ∧
  (∀ (s : State) (q : Nat) (x : Txn) (rd : Word), awake s = true → q < quads s → ringAt s 7 = true → (ring s q).current = some x →
    (ring s q).lock = none → (ring s q).voidWr = false → x.write = true →
    (∀ n, x.job = .markFailed n → ∃ t, exec (.ringTransactionComplete q rd) s = .next t ∧ (ring t q).current = none ∧
      Only [.rings] s t) ∧
    (∀ g n k, x.job = .startSpare g n → takeFor (clu s g) n = some k → (cell s n).state = .standby →
      ∃ t, exec (.ringTransactionComplete q rd) s = .next t ∧ (cell t n).state = .start ∧ (cell t n).legs = (clu s g).legMed ∧
        (cell t n).startAt = now s ∧ (k.kind ≠ .rotation → (cell t n).spdes = false) ∧ ∀ m, m ≠ n → cell t m = cell s m)) ∧
  (∀ (s : State) (g : Nat), awake s = true → lateSpares s g ≠ [] →
    exec (.cluSpareTimeout g) s = .next (expire (.spare g) s)) ∧
  (∀ (s : State) (g n : Nat) (k : Takeover), k ∈ (clu s g).takes → k.spare = n → (cell s n).state ≠ .regulate →
    k.at0 + 2500 ≤ now s → n ∈ lateSpares s g) ∧
  (∀ (s : State) (g n : Nat), lateSpares s g = [n] → noRetestOf s n →
    IsolatedFor n 5 s (timeOver (.spare g) s) ∧ RaisedAmong Src.CLU_SPARE_TIMEOUT g s (timeOver (.spare g) s))) ∧
  ((∀ (s : State) (n : Nat) (side : Side), awake s = true → cellOk s n = true → (cell s n).state = .regulate →
    (clu s (n / 16)).schuss ≠ .force →
    ∃ t, exec (.cellStep n side) s = .next t ∧ (cell t n).state = .regulate ∧
      (side = .below → (cell s n).legs < 64 → (cell t n).legs = (cell s n).legs + 1) ∧
      (side = .below → 64 ≤ (cell s n).legs → (cell t n).legs = (cell s n).legs) ∧
      (side = .above → (cell t n).legs = (cell s n).legs - 1) ∧
      (∀ m, m ≠ n → cell t m = cell s m) ∧ Only [.cells] s t) ∧
  (∀ (s : State) (n : Nat) (side : Side), awake s = true → (clu s (n / 16)).schuss = .force →
    exec (.cellStep n side) s = .next s) ∧
  (∀ (s : State) (n : Nat), awake s = true → cellOk s n = true → (cell s n).state = .start → (cell s n).startAt + 1200 ≤ now s →
    ∃ t, exec (.cellStartDone n) s = .next t ∧ (cell t n).state = .regulate ∧
      (cell t n).legs = (if (clu s (n / 16)).schuss = .force then 64 else (cell s n).legs) ∧
      (∀ m, m ≠ n → cell t m = cell s m)) ∧
  (∀ (s : State) (n : Nat) (k : Takeover), awake s = true → cellOk s n = true → (cell s n).state = .start →
    (cell s n).startAt + 1200 ≤ now s → takeFor (clu s (n / 16)) n = some k → k.kind = .takeover →
    ∃ t, exec (.cellStartDone n) s = .next t ∧ takeFor (clu t (n / 16)) n = none ∧ RaisedAmong Src.CLU_SPARE_TAKEOVER (n / 16) s t))

/-- Schuss (R121 to R128): a trip from idle forces every regulating cell to all its legs, counts, and is raised; the end of
FORCE holds to the next pass of the band; release ends the clock stretch and loads the event's duration; an event beyond its
limit is raised once. -/
def Obligations.SchussCommands : Prop :=
  (∀ (s : State) (g : Nat), awake s = true → droopActive s g = true → (clu s g).schuss = .idle →
    ∃ t, exec (.droopTrip g) s = .next t ∧ (clu t g).schuss = .force ∧ (clu t g).tripAt = now s ∧
      (clu t g).stretch = cfgB s (cluReg g 0x040 16) 9 ∧ (∀ n, n ∈ regulating s g → (cell t n).legs = 64) ∧
      (∀ n, n ∉ regulating s g → cell t n = cell s n) ∧ Raised Src.SCHUSS_TRIP g s t ∧
      (live t (cluReg g 0x214 32)).toNat = Nat.min ((live s (cluReg g 0x214 32)).toNat + 1) 0xFFFFFFFF) ∧
  (∀ (s : State) (g : Nat), awake s = true → droopActive s g = true → (clu s g).schuss = .hold →
    ∃ t, exec (.droopTrip g) s = .next t ∧ (clu t g).schuss = .force ∧ (clu t g).tripAt = (clu s g).tripAt ∧
      (∀ n, n ∈ regulating s g → (cell t n).legs = 64) ∧ Only [.cells, .clus] s t) ∧
  (∀ (s : State) (g : Nat) (inside : Bool), awake s = true → (clu s g).schuss = .force →
    ∃ t, exec (.schussForceEnd g inside) s = .next t ∧ (clu t g).schuss = .hold ∧
      (clu t g).holdFrom = now s + (if inside then 15 else 16) ∧ (∀ h, h ≠ g → clu t h = clu s h) ∧ Only [.clus] s t) ∧
  (∀ (s : State) (g : Nat), awake s = true → (clu s g).schuss = .hold → (clu s g).holdFrom ≤ now s →
    ∃ t, exec (.schussRelease g) s = .next t ∧ (clu t g).schuss = .idle ∧ (clu t g).stretch = false ∧
      (clu t g).releaseAt = some (now s) ∧ (∀ h, h ≠ g → clu t h = clu s h) ∧ Only [.clus, .live] s t ∧
      live t (cluReg g 0x218 32) = BitVec.ofNat 32 (now s - (clu s g).tripAt)) ∧
  (∀ (s : State) (g : Nat), awake s = true → (clu s g).schuss ≠ .idle → (clu s g).longSaid = false →
    (clu s g).tripAt + usTicks (cfgF s (cluReg g 0x040 16) 22 16) < now s →
    ∃ t, exec (.schussLong g) s = .next t ∧ (clu t g).longSaid = true ∧ (clu t g).schuss = (clu s g).schuss ∧
      Raised Src.SCHUSS_LONG g s t ∧ Only [.clus, .live, .flt] s t)

/-- Cell commands and trims (R103, R135): a secure command presents its transaction to the quadrant's ring; retest, pass and
fail are refused and counted outside the state they need; a non-secure one is ignored and counted. A trim that no host write
waits for reaches both copies of its word at a control-period boundary. A cell command has its effect when its transaction
completes (R135, R440 to R444): isolation of a regulating or standing cell for cause 6, a failed cell's for cause 7, the
begin of a retest, and the rotation of a spare into an empty place. The states in which each acts, and that no other
procedure runs on the cluster of a retest, are the model's (log entries 45 and 50). -/
def Obligations.CellCommands : Prop :=
  ((∀ (s : State) (a : Access) (sc : Nat) (k : BitVec 6), awake s = true → cellCmdOk s a sc = true → secure s a = true →
    exec (.cluCellcmdIsolate a sc k) s = .next (respond a (.ok 0)
      (ringAsk (sc / 16) (jobTxn 0 (cmdCell sc k / 16 % 64) (.cellCmd 1 (cmdCell sc k)) (now s)) s)) ∧
    exec (.cluCellcmdRotate a sc k) s = .next (respond a (.ok 0)
      (ringAsk (sc / 16) (jobTxn 0 (cmdCell sc k / 16 % 64) (.cellCmd 5 (cmdCell sc k)) (now s)) s)) ∧
    exec (.cluCellcmdRetest a sc k) s = .next (respond a (.ok 0) (if retestFits s (cmdCell sc k)
      then ringAsk (sc / 16) (jobTxn 0 (cmdCell sc k / 16 % 64) (.cellCmd 2 (cmdCell sc k)) (now s)) s else refuse (0x80 + sc) s)) ∧
    exec (.cluCellcmdPass a sc k) s = .next (respond a (.ok 0) (if passFits s (cmdCell sc k)
      then ringAsk (sc / 16) (jobTxn 0 (cmdCell sc k / 16 % 64) (.cellCmd 3 (cmdCell sc k)) (now s)) s else refuse (0x80 + sc) s)) ∧
    exec (.cluCellcmdFail a sc k) s = .next (respond a (.ok 0) (if failFits s (cmdCell sc k)
      then ringAsk (sc / 16) (jobTxn 0 (cmdCell sc k / 16 % 64) (.cellCmd 4 (cmdCell sc k)) (now s)) s else refuse (0x80 + sc) s))) ∧
  (∀ (s : State) (a : Access) (sc : Nat) (k : BitVec 6), awake s = true → cellCmdOk s a sc = true → secure s a = false →
    exec (.cluCellcmdIsolate a sc k) s = .next (respond a (.ok 0) (countNonsec a s))) ∧
  (∀ (s : State) (n : Nat) (k : TrimWrite), awake s = true → s.regs.trims.find? (fun x => x.cell == n) = some k →
    atTick s controlP 0 = true → cluO (n / 64) (Reg.CLU_GTRIM (n % 64)) ∉ s.regs.pend → (cell s n).passWait = false →
    (clu s (n / 16)).retest = none →
    ∃ t, exec (.cluTrimWrite n) s = .next t ∧
      activeOf t (cluO (n / 64) (Reg.CLU_GTRIM (n % 64))) = BitVec.ofNat 32 k.value ∧
      shadowOf t (cluO (n / 64) (Reg.CLU_GTRIM (n % 64))) = BitVec.ofNat 32 k.value ∧
      (∀ o, o ≠ cluO (n / 64) (Reg.CLU_GTRIM (n % 64)) → activeOf t o = activeOf s o ∧ shadowOf t o = shadowOf s o) ∧
      t.regs.trims = s.regs.trims.filter (fun x => x.cell != n))) ∧
  ((∀ (s : State) (q op n : Nat) (x : Txn) (rd : Word), awake s = true → q < quads s → ringAt s 7 = true →
    (ring s q).current = some x → (ring s q).lock = none → (ring s q).voidWr = false → x.write = true → x.job = .cellCmd op n →
    exec (.ringTransactionComplete q rd) s =
      .next (cellCmdEffect op n (modRing q (fun r => { r with current := none, voidWr := false }) s))) ∧
  (∀ (s : State) (n : Nat), ((cell s n).state = .regulate ∨ (cell s n).state = .standby) → noRetestOf s n →
    IsolatedFor n 6 s (cellCmdEffect 1 n s)) ∧
  (∀ (s : State) (n : Nat), retestFits s n = true → (cell (cellCmdEffect 2 n s) n).state = .retest ∧
    (clu (cellCmdEffect 2 n s) (n / 16)).retest = some ⟨n, 1, now s, false, false, false⟩ ∧
    ∀ m, m ≠ n → cell (cellCmdEffect 2 n s) m = cell s m) ∧
  (∀ (s : State) (n : Nat), passFits s n = true → (cell (cellCmdEffect 3 n s) n).passWait = true ∧
    ∀ m, m ≠ n → cell (cellCmdEffect 3 n s) m = cell s m) ∧
  (∀ (s : State) (n : Nat), failFits s n = true → (cell (cellCmdEffect 4 n s) n).state = .isolated ∧
    (cell (cellCmdEffect 4 n s) n).cause = 7) ∧
  (∀ (s : State) (n : Nat), (cell s n).state = .standby → (clu s (n / 16)).enabled = true → (clu s (n / 16)).takes = [] →
    (inDuty s (n / 16)).length < 15 →
    takeFor (clu (cellCmdEffect 5 n s) (n / 16)) n = some ⟨n, n, now s, .duty⟩ ∧ (cellCmdEffect 5 n s).cells = s.cells))

/-- The start of a sector's period (R108, R115, R139): the four clusters' sensor codes and medians are sampled at tick 0,
and an engine in service starts its computation; a parity error in what the engine holds is raised there (R167). The latch
of a sector's period (R51, R106, R141, R143): the results of a computation that completed in time reach the four clusters
together; of one that did not nothing does, the integrators and the cells' legs stay, and the overrun is raised. R143: an
integrator never leaves its limits, and a held one keeps its value; the band centre never leaves 0.50 V to 1.05 V. -/
def Obligations.SectorEngine : Prop :=
  (∀ (s : State) (sc : Nat) (x0 x1 x2 x3 : ClusterSense) (bad : Bool), awake s = true → atTick s controlP 0 = true → sc < sectors s →
    ∃ t, exec (.sectorEngineStart sc ⟨[x0, x1, x2, x3], bad⟩) s = .next t ∧
      (∀ c x, ([x0, x1, x2, x3] : List ClusterSense)[c]? = some x →
        (clu t (4 * sc + c)).codeA = x.codeA.toNat ∧ (clu t (4 * sc + c)).codeB = x.codeB.toNat ∧
        (clu t (4 * sc + c)).legMed = median ((regulating s (4 * sc + c)).map (fun n => (cell s n).legs))) ∧
      (∀ g, g / 4 ≠ sc → clu t g = clu s g) ∧ t.cells = s.cells ∧
      (engineServes s sc = true → (eng t clsSector sc).start = some (now s) ∧ (eng t clsSector sc).done = none ∧
        (sec t sc).res.isSome = true ∧ (bad = true → Raised Src.SEC_ENG_FAULT sc s t)) ∧
      (bad = false → t.flt = s.flt) ∧
      (engineServes s sc = false → eng t clsSector sc = eng s clsSector sc)) ∧
  ((∀ (s : State) (sc : Nat) (r : EngRes), awake s = true → sc < sectors s → engDue s clsSector sc = true →
    (eng s clsSector sc).done.isSome = true → (sec s sc).res = some r →
    ∃ t, exec (.sectorEngineLatch sc) s = .next t ∧ (eng t clsSector sc).start = none ∧
      (∀ c, c < 4 → (clu t (4 * sc + c)).integ = nth r.integ c ∧ (clu t (4 * sc + c)).centre = r.centre.getD c 0 ∧
        (clu t (4 * sc + c)).half = r.half ∧ (clu t (4 * sc + c)).ff = nth r.ff c ∧
        (clu t (4 * sc + c)).mNow = r.m.getD c 0) ∧
      (∀ g, g / 4 ≠ sc → clu t g = clu s g)) ∧
  (∀ (s : State) (sc : Nat), awake s = true → sc < sectors s → engDue s clsSector sc = true →
    (eng s clsSector sc).done = none →
    ∃ t, exec (.sectorEngineLatch sc) s = .next t ∧ (eng t clsSector sc).start = none ∧ t.cells = s.cells ∧
      (∀ g, (clu t g).integ = (clu s g).integ ∧ (clu t g).centre = (clu s g).centre) ∧ (sec t sc).eRef = (sec s sc).eRef ∧
      RaisedAmong Src.ENG_OVERRUN (engKey clsSector sc) s t)) ∧
  (∀ (s : State) (sc c : Nat) (mode : EngMode) (i : CluIn), trimLo s sc ≤ trimHi s sc →
    (mode ≠ .wake → integHeld (clu s (4 * sc + c)) mode i.n = true → integStep s sc c mode i = (clu s (4 * sc + c)).integ) ∧
    (mode ≠ .wake → integHeld (clu s (4 * sc + c)) mode i.n = false →
      trimLo s sc ≤ integStep s sc c mode i ∧ integStep s sc c mode i ≤ trimHi s sc) ∧
    ∀ (sp : Nat) (x : Int), 1000 ≤ centreOf sp x ∧ centreOf sp x ≤ 2100)

/-- What the readback of the bands, the trim limit, the engine commands and the change of engine do (R145, R155, R163 to
R167): a bad readback and an integrator too long at its limit are raised; `PLAUS_CLEAR` ends SUSPECT; `TO_SPARE` and
`HANDBACK` begin a change that takes 16 ticks where it may be made and are refused and counted elsewhere; after the change
the other engine serves and starts in WAKE, but in a sector that is OFF, and a takeover by the spare is raised. The sensors
(R116, R117, R311): a lasting disagreement asks at tick 0 for an urgent conversion of the cluster's tap and waits for it, or
counts the request refused; the loss of the last sensor marks both failed and is raised. -/
def Obligations.EngineCommands : Prop :=
  ((∀ (s : State) (sc : Nat) (bad : Bool), awake s = true → sc < sectors s → (sec s sc).rbAt = some (now s) →
    ∃ t, exec (.secBandReadback sc bad) s = .next t ∧ sec t sc = { sec s sc with rbAt := none } ∧
      (∀ n, n ≠ sc → sec t n = sec s n) ∧ (bad = true → Raised Src.SEC_ENG_FAULT sc s t) ∧ (bad = false → t.flt = s.flt)) ∧
  (∀ (s : State) (g : Nat), awake s = true → (clu s g).limRun = 256 →
    ∃ t, exec (.secTrimLimit g) s = .next t ∧ clu t g = { clu s g with limRun := 257 } ∧ Raised Src.SEC_TRIM_LIMIT g s t ∧
      Only [.clus, .live, .flt] s t) ∧
  (∀ (s : State) (a : Access) (sc : Nat), awake s = true → secCmdOk s a sc = true → secure s a = true → (sec s sc).suspect = true →
    ∃ t, exec (.secCmdPlausClear a sc) s = .next t ∧ (sec t sc).suspect = false ∧ (sec t sc).disRun = 0 ∧ (sec t sc).agrRun = 0 ∧
      (∀ n, n ≠ sc → sec t n = sec s n) ∧ Only [.secs, .ports] s t) ∧
  (∀ (s : State) (a : Access) (sc : Nat), awake s = true → secCmdOk s a sc = true → secure s a = true →
    spareFree s (sc / 16) = true → (sec s sc).onSpare = false → (sec s sc).engSw = none → (sec s sc).mode ≠ .dark →
    ∃ t, exec (.secCmdToSpare a sc) s = .next t ∧ (sec t sc).engSw = some (now s + 16, true) ∧ (sec t sc).mode = (sec s sc).mode ∧
      (eng t clsSector sc).start = none ∧ Only [.secs, .eng, .ports] s t) ∧
  (∀ (s : State) (a : Access) (sc : Nat), awake s = true → secCmdOk s a sc = true → secure s a = true →
    (spareFree s (sc / 16) = false ∨ (sec s sc).onSpare = true) →
    ∃ t, exec (.secCmdToSpare a sc) s = .next t ∧ (live t (secO sc PAGE_STAT)).field 15 8 =
      Nat.min ((live s (secO sc PAGE_STAT)).field 15 8 + 1) 255 ∧ Only [.live, .ports] s t) ∧
  (∀ (s : State) (a : Access) (sc : Nat), awake s = true → secCmdOk s a sc = true → secure s a = true →
    (sec s sc).onSpare = true → (sec s sc).ownFailed = false → (sec s sc).engSw = none → (sec s sc).mode ≠ .dark →
    ∃ t, exec (.secCmdHandback a sc) s = .next t ∧ (sec t sc).engSw = some (now s + 16, false) ∧ (sec t sc).onSpare = true ∧
      Only [.secs, .eng, .ports] s t) ∧
  (∀ (s : State) (a : Access) (sc : Nat), awake s = true → secCmdOk s a sc = true → secure s a = true →
    ((sec s sc).onSpare = false ∨ (sec s sc).ownFailed = true) →
    ∃ t, exec (.secCmdHandback a sc) s = .next t ∧ (live t (secO sc PAGE_STAT)).field 15 8 =
      Nat.min ((live s (secO sc PAGE_STAT)).field 15 8 + 1) 255 ∧ Only [.live, .ports] s t) ∧
  (∀ (s : State) (sc t0 : Nat) (toSpare : Bool), awake s = true → (sec s sc).engSw = some (t0, toSpare) → t0 ≤ now s →
    ∃ t, exec (.spareEngineSwitch sc) s = .next t ∧ (sec t sc).engSw = none ∧ (sec t sc).onSpare = toSpare ∧
      (∀ n, n ≠ sc → sec t n = sec s n) ∧ ((sec s sc).mode ≠ .off → (sec s sc).mode ≠ .dark → (sec t sc).mode = .wake) ∧
      ((sec s sc).mode = .off → (sec t sc).mode = .off) ∧
      (toSpare = true → Raised Src.SEC_SPARE_TAKEOVER sc s t) ∧ (toSpare = false → t.flt = s.flt))) ∧
  ((∀ (s : State) (g : Nat), awake s = true → g < 4 * sectors s → atTick s controlP 0 = true →
    (clu s g).aFail = false → (clu s g).bFail = false →
    (clu s g).tapWait = false → cfgF s (cluReg g 0x044 16) 11 8 ≤ (clu s g).disRun →
    ∃ t, exec (.cluSensorDisagree g) s = .next t ∧
      (urgentFits s (g / 64) = true → clu t g = { clu s g with tapWait := true } ∧
        (quad t (g / 64)).queue = insertUrg ⟨g % 64, 0, now s⟩ (quad s (g / 64)).queue ∧ Only [.clus, .quads] s t) ∧
      (urgentFits s (g / 64) = false → t = bump (qdO (g / 64) Reg.QD_URGREFUSED) s)) ∧
  (∀ (s : State) (g : Nat), awake s = true → (clu s g).aFail ≠ (clu s g).bFail → 4 ≤ (clu s g).lostRun →
    ∃ t, exec (.cluSensorLost g) s = .next t ∧ clu t g = { clu s g with aFail := true, bFail := true } ∧
      Raised Src.CLU_SENSOR_LOST g s t ∧ Only [.clus, .live, .flt] s t))

/-- Chairlift's step of a sector (R161, R174, R176): the presented point is the one computed a step before, the one computed
now is due one control period later and is absent or lies in 0.50 V to 1.05 V; a dark sector's point holds. One step of a
profile channel (R177, R179): it arrives exactly at its admitted target, or it moves by its new velocity, which keeps within
the velocity limit, and its acceleration changes by no more than the jerk limit. The two time limits of Chairlift (R187,
R193): a raise that waits beyond its limit, and settling beyond its limit, are raised once and stop nothing; in a tick 0
they are judged after the sector's step of that tick (log entry 32). -/
def Obligations.ChairliftCommands : Prop :=
  ((∀ (s : State) (sc : Nat), awake s = true → atTick s controlP 0 = true → sc < sectors s → (sec s sc).mode ≠ .dark →
    ∃ t, exec (.chairliftSectorStep sc) s = .next t ∧ (sec t sc).sp = presented s sc ∧ (sec t sc).spDue = now s + controlP ∧
      ((sec t sc).spNext = 0 ∨ 1000 ≤ (sec t sc).spNext ∧ (sec t sc).spNext ≤ 2100)) ∧
  (∀ (s : State) (sc : Nat), awake s = true → atTick s controlP 0 = true → sc < sectors s → (sec s sc).mode = .dark →
    ∃ t, exec (.chairliftSectorStep sc) s = .next t ∧ sec t sc = { sec s sc with sp := presented s sc } ∧ Only [.secs] s t)) ∧
  (∀ (l : StepLim) (c : Chan), 0 ≤ l.v → 0 ≤ l.j →
    (c.step l).adm = c.adm ∧ (c.step l).tgt = c.tgt ∧
    (((c.step l).pos = c.adm * q32 ∧ (c.step l).vel = 0 ∧ (c.step l).acc = 0) ∨
      ((c.step l).pos = c.pos + (c.step l).vel ∧ |(c.step l).vel| ≤ l.v ∧ |(c.step l).acc - c.acc| ≤ l.j))) ∧
  ((∀ (s : State) (sc t0 : Nat), awake s = true → stepTaken s sc = true → (sec s sc).base.wait = some t0 → (sec s sc).base.said = false →
    t0 + usTicks (cfgF s (secO sc Reg.SEC_ILK) 11 0) ≤ now s →
    ∃ t, exec (.chlIlkTimeout sc) s = .next t ∧ (sec t sc).base = { (sec s sc).base with said := true } ∧
      (sec t sc).prof = (sec s sc).prof ∧ (∀ n, n ≠ sc → sec t n = sec s n) ∧ Raised Src.CHL_ILK_TIMEOUT sc s t ∧ Only [.secs, .flt] s t) ∧
  (∀ (s : State) (sc : Nat), awake s = true → stepTaken s sc = true → (sec s sc).prof = .settling → (sec s sc).settleSaid = false →
    (sec s sc).settleAt + usTicks (cfgF s (secO sc Reg.SEC_FSEQ) 27 16) ≤ now s →
    ∃ t, exec (.chlSettleTimeout sc) s = .next t ∧ sec t sc = { sec s sc with settleSaid := true } ∧
      (∀ n, n ≠ sc → sec t n = sec s n) ∧ Raised Src.CHL_SETTLE_TIMEOUT sc s t ∧ Only [.secs, .flt] s t) ∧
  (∀ (s : State) (sc : Nat), awake s = true → stepTaken s sc = false →
    exec (.chlIlkTimeout sc) s = .next s ∧ exec (.chlSettleTimeout sc) s = .next s))

/-- Inrush (R197, R198): a grant goes to a waiting request, reserves its cost, and keeps the reservations within the
quadrant's budget, unless it is alone; reservations end at their time; a unit's neighbour check gives it the full rate
beside quiet neighbours, at the first check and at each that repeats it a microsecond later; beside a busy one half rate at
the last retry, with its source, and no rate before. -/
def Obligations.InrushCommands : Prop :=
  (∀ (s : State) (q : Nat) (r : Waiting), awake s = true → nextGrant s q = some r → atTick s controlP 0 = true →
    (inrush s q).last ≠ some (now s) →
    ∃ t, exec (.inrushGrant q) s = .next t ∧
      (inrush t q).resv = (inrush s q).resv ++ [⟨(inrushCost s q r.1 r.2.rate).1, now s + (inrushCost s q r.1 r.2.rate).2, r.1⟩] ∧
      (inrush t q).last = some (now s) ∧
      (sec t r.1).granted = (sec s r.1).granted ++ [(r.2.unit, r.2.rate == 2, now s)] ∧
      (∀ y, y ∈ (sec t r.1).reqs → y.unit ≠ r.2.unit) ∧ (∀ n, n ≠ r.1 → sec t n = sec s n) ∧
      ((inrush s q).resv = [] ∨
        (inrush t q).resv.foldl (fun n x => n + x.halfA) 0 ≤ 2 * cfgF s (qdO q Reg.QD_INRUSH) 11 0) ∧
      (live t (qdO q Reg.QD_GRANTS)).toNat = Nat.min ((live s (qdO q Reg.QD_GRANTS)).toNat + 1) 0xFFFFFFFF) ∧
  (∀ (s : State) (q : Nat), awake s = true → (inrush s q).resv.any (fun r => decide (r.ends ≤ now s)) = true →
    ∃ t, exec (.inrushReservationEnd q) s = .next t ∧
      (inrush t q).resv = (inrush s q).resv.filter (fun r => decide (now s < r.ends)) ∧
      (∀ p, p ≠ q → inrush t p = inrush s p) ∧ Only [.inrush] s t) ∧
  (∀ (s : State) (sc unit sc' t0 : Nat) (r : UnitReq), awake s = true →
    (gateReqs s (sc / 16)).find? (fun r => r.1 == sc && r.2.unit == unit) = some (sc', r) → r.rate = 0 →
    (r.first = none ∧ t0 = now s ∨ r.first = some t0 ∧ t0 < now s ∧ (now s - t0) % 1250 = 0) →
    ∃ t, exec (.neighbourCheck sc unit) s = .next t ∧
      (∀ y, y ∈ (sec t sc).reqs → y.unit = unit → y.first = some t0 ∧ y.rate =
        (if (neighbours s sc).any (neighbourBusy s (cfgF s (qdO (sc / 16) Reg.QD_INRUSH) 30 24)) = false then 1
         else if t0 + usTicks (cfgF s (qdO (sc / 16) Reg.QD_NBRMAX) 7 0) ≤ now s then 2 else 0)) ∧
      ((neighbours s sc).any (neighbourBusy s (cfgF s (qdO (sc / 16) Reg.QD_INRUSH) 30 24)) = true →
        t0 + usTicks (cfgF s (qdO (sc / 16) Reg.QD_NBRMAX) 7 0) ≤ now s →
        (sec t sc).halfRate = true ∧ Raised Src.CHL_INRUSH_DEFER sc s t) ∧
      ((neighbours s sc).any (neighbourBusy s (cfgF s (qdO (sc / 16) Reg.QD_INRUSH) 30 24)) = false ∨
        now s < t0 + usTicks (cfgF s (qdO (sc / 16) Reg.QD_NBRMAX) 7 0) → t.flt = s.flt) ∧
      (sec t sc).reqs.map (·.unit) = (sec s sc).reqs.map (·.unit) ∧ (∀ n, n ≠ sc → sec t n = sec s n))

/-- Switching a sector (R110, R111, R196, R200): a cluster at its turn is enabled, fifteen of its sixteen cells start, from
OFF with the preset and from STANDBY with the median of the last tick 0 (R109), and the designated one stands by; the end of
a switch-off puts every cell of the sector in duty to OFF, disables its clusters and leaves no point. -/
def Obligations.SectorSwitching : Prop :=
  (∀ (s : State) (g j : Nat), awake s = true → g / 4 < sectors s → (sec s (g / 4)).sw = .cells → (clu s g).enabled = false →
    atTick s controlP 0 = true → (sec s (g / 4)).swAt + controlP * (g % 4 + 1) ≤ now s →
    j < 16 → (∀ k, k < 16 → k ≠ j → ((cell s (16 * g + k)).state = .off ∨ (cell s (16 * g + k)).state = .standby) ∧
      (cell s (16 * g + k)).spdes = false) →
    ((cell s (16 * g + j)).state = .off ∨ (cell s (16 * g + j)).state = .standby) → (cell s (16 * g + j)).spdes = true →
    ∃ t, exec (.clusterEnable g) s = .next t ∧ (clu t g).enabled = true ∧ (clu t g).takes = [] ∧
      (∀ k, k < 16 → k ≠ j → (cell t (16 * g + k)).state = .start ∧ (cell t (16 * g + k)).startAt = now s ∧
        (cell t (16 * g + k)).legs = (if (cell s (16 * g + k)).state = .standby then (clu s g).legMed
          else cfgF s (secO (g / 4) Reg.SEC_SWON) 6 0)) ∧
      (cell t (16 * g + j)).state = .standby ∧ (cell t (16 * g + j)).spdes = true ∧
      (∀ n, n / 16 ≠ g → cell t n = cell s n)) ∧
  (∀ (s : State) (sc t0 : Nat), awake s = true → (sec s sc).offAt = some t0 → t0 ≤ now s →
    ∃ t, exec (.switchOffComplete sc) s = .next t ∧ (sec t sc).prof = .idle ∧ (sec t sc).sw = .off ∧ (sec t sc).sp = 0 ∧
      (sec t sc).spNext = 0 ∧ (sec t sc).fcap = 0 ∧ (sec t sc).offAt = none ∧ ((sec t sc).mode = .off ∨ (sec t sc).mode = .dark) ∧
      (∀ g, g / 4 = sc → (clu t g).enabled = false) ∧
      (∀ n, n / 64 = sc → detects (cell s n) = true → (cell t n).state = .off) ∧
      (∀ n, n / 64 ≠ sc → cell t n = cell s n))

/-- A 128-bit write of a Trail window of an enabled quadrant (R209, R210, R213 to R215): a well-formed record of a tile that
serves, in a running sector of the quadrant, becomes PENDING in the tail slot with its step and pre-position ticks and the
tail moves on; a push on a full tail slot is held while fewer than four are, with the pre-position and the tile that its
epoch names at its arrival, and is answered with a retry beyond; a held push is taken when its slot empties, in the tick its
time is over too, and answered with a retry at the end of that tick otherwise (log entry 11). R209: a write of a Trail
window in any other form pushes nothing: it gets an error response and is counted in `TRAIL_DFORM`; that it counts as a form
error of the port too is the model's (log entry 33). -/
def Obligations.TrailPushes : Prop :=
  ((∀ (s : State) (a : Access) (f : Form) (b : BitVec 128) (q p : Nat), awake s = true → a.port = .fabric → inTrail f = true →
    f.width = 128 → f.full = true → q = (f.off.toNat - 0x100000) / 0x1000 → q < quads s →
    (recOf b).kind = 1 → (recOf b).malformed = false → (win s q).held = [] → slot s q (win s q).tail = none →
    cfgB s (trailO Reg.TRAIL_EN) q = true → recTile s (recOf b) = some (some p) → tileServes s p = true →
    tileCluster s.params p / 64 = q → (sec s (tileCluster s.params p / 4)).mode = .run →
    ∃ t, exec (.trailPush a f b) s = .next t ∧ t.ports.fab = .ok 0 ∧ (win t q).tail = ((win s q).tail + 1) % 256 ∧
      (∀ i, i ≠ (win s q).tail → slot t q i = slot s q i) ∧
      ∃ x, slot t q (win s q).tail = some x ∧ x.state = .pending ∧ x.w0 = (recOf b).w0 ∧ x.w1 = (recOf b).w1 ∧ x.w2 = (recOf b).w2 ∧
        x.arrive = now s ∧ x.stepAt = now s + (recOf b).w1.field 15 0 ∧
        x.preAt = x.stepAt - cfgF s (trailO Reg.TRAIL_PREPOS) 11 0 ∧ x.clu = tileCluster s.params p ∧ x.sector = x.clu / 4) ∧
  (∀ (s : State) (a : Access) (f : Form) (b : BitVec 128) (q : Nat), awake s = true → a.port = .fabric → inTrail f = true →
    f.width = 128 → f.full = true → q = (f.off.toNat - 0x100000) / 0x1000 → q < quads s →
    (recOf b).kind ≠ 2 → ((win s q).held ≠ [] ∨ (slot s q (win s q).tail).isSome = true) →
    ∃ t, exec (.trailPush a f b) s = .next t ∧ (win t q).slots = (win s q).slots ∧
      ((win s q).held.length < 4 → t.ports.fab = .none ∧ (win t q).held = (win s q).held ++ [arrived s b]) ∧
      (4 ≤ (win s q).held.length → t.ports.fab = .retry ∧ (win t q).held = (win s q).held ∧ Raised Src.TRAIL_OVERFLOW q s t)) ∧
  (∀ (s : State) (q : Nat) (h : HeldPush) (rest : List HeldPush), awake s = true → (win s q).held = h :: rest →
    slot s q (win s q).tail = none → now s ≤ h.arrive + 1250 →
    ∃ t, exec (.trailHeldPushAccept q) s = .next t ∧ (win t q).held = rest ∧ t.ports.fab = .ok 0 ∧
      ∀ p, (recOf h.word).kind = 1 → (recOf h.word).malformed = false → cfgB s (trailO Reg.TRAIL_EN) q = true →
        h.tile = some (some p) → tileServes s p = true → tileCluster s.params p / 64 = q →
        (sec s (tileCluster s.params p / 4)).mode = .run →
        ∃ x, slot t q (win s q).tail = some x ∧ x.state = .pending ∧ x.arrive = h.arrive ∧
          x.stepAt = h.arrive + (recOf h.word).w1.field 15 0 ∧ x.preAt = x.stepAt - h.prepos) ∧
  (∀ (s : State) (q : Nat) (h : HeldPush) (rest : List HeldPush), (win s q).held = h :: rest → h.arrive + 1250 ≤ now s →
    (awake s = true → exec (.trailPushTimeout q) s = .next (expire (.push q) s)) ∧
    ((∀ x, x ∈ rest → now s < x.arrive + 1250) → (slot s q (win s q).tail).isSome = true →
      (win (timeOver (.push q) s) q).held = rest ∧ (timeOver (.push q) s).ports.fab = .retry ∧
      (win (timeOver (.push q) s) q).slots = (win s q).slots ∧ Raised Src.TRAIL_OVERFLOW q s (timeOver (.push q) s)) ∧
    ((∀ x, x ∈ rest → now s < x.arrive + 1250) → slot s q (win s q).tail = none →
      timeOver (.push q) s = takeHeld q s ∧ (win (takeHeld q s) q).held = rest ∧ (takeHeld q s).ports.fab = .ok 0))) ∧
  (∀ (s : State) (a : Access) (f : Form) (b : BitVec 128), awake s = true → reaches s a = true → inTrail f = true →
    (f.off.toNat - 0x100000) / 0x1000 < quads s → (f.width ≠ 128 ∨ f.full = false ∨ a.port = .i3c) →
    ∃ t, exec (.trailPush a f b) s = .next t ∧ t.trail = s.trail ∧ responseOf t a = .error ∧
      (live t (trailO (Reg.TRAIL_DFORM ((f.off.toNat - 0x100000) / 0x1000)))).toNat =
        Nat.min ((live s (trailO (Reg.TRAIL_DFORM ((f.off.toNat - 0x100000) / 0x1000)))).toNat + 1) 0xFFFFFFFF ∧
      (live t (genO Reg.GEN_ACCERR)).field 7 0 = Nat.min ((live s (genO Reg.GEN_ACCERR)).field 7 0 + 1) 255 ∧
      Raised Src.TRAIL_FORM ((f.off.toNat - 0x100000) / 0x1000) s t)

/-- A cancel and a flush (R216, R226): a cancel closes every live record of its window with its tile and sequence number and
takes no slot; a flush command closes every record of the quadrants it names; both leave every other record. The life of a
record (R217 to R223): armed or closed as no-step at tick 1,240; presented, it opens with its baseline, threshold and
deadline and asks the engine for its pre-position, or is skipped where the engine takes none; a record past its step
expires; an open one past its deadline is missed; a held one ends with its hold. -/
def Obligations.TrailRecords : Prop :=
  ((∀ (s : State) (a : Access) (f : Form) (b : BitVec 128) (q : Nat), awake s = true → a.port = .fabric → inTrail f = true →
    f.width = 128 → f.full = true → q = (f.off.toNat - 0x100000) / 0x1000 → q < quads s →
    (recOf b).kind = 2 → (recOf b).malformed = false → cfgB s (trailO Reg.TRAIL_EN) q = true → (win s q).slots.rises 0 = true →
    ∃ t, exec (.trailCancel a f b) s = .next t ∧ t.ports.fab = .ok 0 ∧ (win t q).tail = (win s q).tail ∧
      ∀ i x, slot s q i = some x →
        ((x.w0.field 9 0 = (recOf b).tile ∧ x.w2.field 31 16 = (recOf b).w2.field 31 16) → slot t q i = none) ∧
        (¬(x.w0.field 9 0 = (recOf b).tile ∧ x.w2.field 31 16 = (recOf b).w2.field 31 16) → slot t q i = some x)) ∧
  (∀ (s : State) (a : Access) (mask : BitVec 4), awake s = true → reaches s a = true → secure s a = true →
    ∃ t, exec (.trailCmdFlush a mask) s = .next t ∧
      (∀ q i, q < quads s → mask.toNat.testBit q = true → slot t q i = none) ∧
      (∀ q, mask.toNat.testBit q = false → win t q = win s q))) ∧
  ((∀ (s : State) (q i : Nat) (x : Slot) (di : Int), awake s = true → slot s q i = some x → x.state = .pending → x.pred = some di →
    atTick s estP 1240 = true →
    ∃ t, exec (.trailArm q i) s = .next t ∧
      ((cfgF s (trailO Reg.TRAIL_CFG) 27 16 : Int) ≤ di → slot t q i = some { x with state := .armed } ∧ Only [.trail] s t) ∧
      (di < (cfgF s (trailO Reg.TRAIL_CFG) 27 16 : Int) → slot t q i = none ∧ Only [.trail, .live] s t) ∧
      ∀ j, j ≠ i → slot t q j = slot s q j) ∧
  (∀ (s : State) (q i : Nat) (x : Slot) (di : Int), awake s = true → slot s q i = some x → x.state = .armed → x.pred = some di →
    atTick s controlP 0 = true → x.preAt ≤ now s → inTime s x = true → preposOpen s x.sector = true →
    ∃ t, exec (.trailPresent q i) s = .next t ∧
      (∃ y, slot t q i = some y ∧ y.state = .opened ∧ y.present = now s ∧ y.base = (clu s x.clu).mNow ∧
        y.need = Nat.max (roundDiv ((cfgF s (trailO Reg.TRAIL_CFG) 15 8 : Int) * di) 100).toNat (cfgF s (trailO Reg.TRAIL_CFG) 27 16) ∧
        y.dead = x.stepAt + 40 * cfgF s (trailO Reg.TRAIL_CFG) 7 0 ∧
        y.amount = roundDiv ((cfgF s (trailO Reg.TRAIL_PRE) 7 0 : Int) * di) 5000) ∧
      (∃ p, (sec t x.sector).asked = (sec s x.sector).asked ++ [p] ∧ p.slot = slotKey q i ∧ p.clu = x.clu % 4 ∧ p.di = di) ∧
      ∀ j, j ≠ i → slot t q j = slot s q j) ∧
  (∀ (s : State) (q i : Nat) (x : Slot) (di : Int), awake s = true → slot s q i = some x → x.state = .armed → x.pred = some di →
    atTick s controlP 0 = true → x.preAt ≤ now s → inTime s x = true → preposOpen s x.sector = false →
    ∃ t, exec (.trailPresent q i) s = .next t ∧ slot t q i = none ∧ t.secs = s.secs) ∧
  (∀ (s : State) (q i : Nat) (x : Slot), awake s = true → slot s q i = some x → (x.state = .pending ∨ x.state = .armed) →
    atTick s controlP 0 = true → x.stepAt < now s → (x.pred = none ∨ inTime s x = false) → q < 4 →
    ∃ t, exec (.trailExpire q i) s = .next t ∧ slot t q i = none ∧ (∀ j, j ≠ i → slot t q j = slot s q j) ∧ Only [.trail, .live] s t ∧
      (live t (trailO (Reg.TRAIL_EXPIRED q))).toNat = Nat.min ((live s (trailO (Reg.TRAIL_EXPIRED q))).toNat + 1) 0xFFFFFFFF) ∧
  (∀ (s : State) (q i : Nat) (x : Slot), awake s = true → slot s q i = some x → x.state = .opened → atTick s controlP 30 = true →
    (x.dead < now s ∨ x.dead = now s ∧ x.judged = some (now s)) →
    ∃ t, exec (.trailMiss q i) s = .next t ∧ slot t q i = none ∧ (∀ j, j ≠ i → slot t q j = slot s q j) ∧
      (sec t x.sector).reports = (sec s x.sector).reports ++ [(slotKey q i, true)]) ∧
  (∀ (s : State) (q i : Nat) (x : Slot), awake s = true → slot s q i = some x → x.state = .held → x.holdEnd ≤ now s →
    ∃ t, exec (.trailHoldEnd q i) s = .next t ∧ slot t q i = none ∧ (∀ j, j ≠ i → slot t q j = slot s q j) ∧
      (sec t x.sector).cmdPre.isSome = true ∧ Only [.trail, .secs] s t))

/-- An activity message (R232 to R234, R557): one of good parity from a unit of the lane's quadrant adds its count to the
unit's sector, saturating at 24 bits; one of bad parity marks the lane's features of the period bad and is raised; one of a
unit outside the quadrant is counted alone. Tally's period (R50, R236, R240, R241): at its start tick every sector of the
build is evaluated and the replica's speed shown; at its latch the evaluations that completed in time become the estimates,
valid for the sectors whose evaluation was good; of a period that overran no estimate is valid and each sector's is counted
invalid (R243). An evaluation never leaves 16 bits. -/
def Obligations.TallyCommands : Prop :=
  ((∀ (s : State) (lane sc : Nat) (w : Word), awake s = true → lane < quads s → s.tally.featPer = estNo s → w.bit 0 = true →
    w.field 27 20 ≠ 0 → parityOk w = true → busSector s.params (w.field 2 1) (w.field 12 3) = some sc → sc < sectors s →
    sc / 16 = lane →
    ∃ t, exec (.activityMessage lane w) s = .next t ∧
      Store.get t.tally.feat 0 (128 * sc + w.field 19 13) =
        Nat.min (Store.get s.tally.feat 0 (128 * sc + w.field 19 13) + w.field 27 20) 0xFFFFFF ∧
      (∀ k, k ≠ 128 * sc + w.field 19 13 → Store.get t.tally.feat 0 k = Store.get s.tally.feat 0 k) ∧
      t.tally.featBad = s.tally.featBad) ∧
  (∀ (s : State) (lane : Nat) (w : Word), awake s = true → lane < quads s → s.tally.featPer = estNo s → w.bit 0 = true →
    w.field 27 20 ≠ 0 → parityOk w = false →
    ∃ t, exec (.activityMessage lane w) s = .next t ∧ lane ∈ t.tally.featBad ∧ t.tally.feat = s.tally.feat ∧
      Raised Src.TALLY_FEAT_ERR lane s t) ∧
  (∀ (s : State) (lane : Nat) (w : Word), awake s = true → lane < quads s → s.tally.featPer = estNo s → w.bit 0 = true →
    w.field 27 20 ≠ 0 → parityOk w = true →
    (∀ sc, busSector s.params (w.field 2 1) (w.field 12 3) = some sc → sectors s ≤ sc ∨ sc / 16 ≠ lane) →
    ∃ t, exec (.activityMessage lane w) s = .next t ∧ t.tally = s.tally ∧ Only [.live] s t ∧
      (live t (talO Reg.TAL_FEATERR)).field 31 16 = Nat.min ((live s (talO Reg.TAL_FEATERR)).field 31 16 + 1) 65535)) ∧
  ((∀ (s : State) (speed : BitVec 10), awake s = true → atTick s estP 0 = true →
    ∃ t, exec (.tallyStart speed) s = .next t ∧ (eng t clsTally 0).start = some (now s) ∧ (eng t clsTally 0).done = none ∧
      t.tally.run.map (fun r => (r.at0, r.secs.map (·.sector))) = some (now s, upto (sectors s)) ∧
      live t (tbO Reg.TB_SPEED) = speed.setWidth 32) ∧
  (∀ (s : State) (r : TallyRun), awake s = true → engDue s clsTally 0 = true → (eng s clsTally 0).done.isSome = true →
    s.tally.run = some r →
    ∃ t, exec .tallyLatch s = .next t ∧ t.tally.run = none ∧ t.tally.ovr = false ∧
      t.tally.good = (r.secs.filter (·.ok)).map (·.sector) ∧ t.tally.est = (r.secs.filter (·.ok)).map (fun x => (x.sector, x.e))) ∧
  (∀ s : State, awake s = true → engDue s clsTally 0 = true → (eng s clsTally 0).done = none →
    ∃ t, exec .tallyLatch s = .next t ∧ t.tally.run = none ∧ t.tally.ovr = true ∧ t.tally.good = [] ∧ t.tally.est = [] ∧
      (live t (talO Reg.TAL_INVALID)).toNat = Nat.min ((live s (talO Reg.TAL_INVALID)).toNat + sectors s) 0xFFFFFFFF ∧
      RaisedAmong Src.ENG_OVERRUN (engKey clsTally 0) s t) ∧
  (∀ (img : List Byte) (x : List Int), evaluate img x ≤ 65535))

/-- A secure write of model memory (R247): in the forms of 32, 64 and 128 bits each of its bytes that lies in a staging area
is stored, and every other byte of model memory stays; one to the staging area of the unit being installed refuses the
install with cause 7 (R249); a non-secure one stores nothing and is counted. Two numbered units do not disturb each other:
what a model write leaves outside the bytes it stores. For every byte address outside the stored bytes the model memory
reads as before (R247). Installs (R244, R248, R249): one begins where none is under way and is refused and counted
elsewhere; the check ends it with the cause it found, or goes on to the shifts or, for the class table, to the boundary; an
abort ends it without a source; at the boundary the installed area takes the staging area's bytes and the set is marked
installed. -/
def Obligations.ModelMemory : Prop :=
  ((∀ (s : State) (a : Access) (f : Form) (d : BitVec 128), awake s = true → reaches s a = true → inModel f = true → f.full = true →
    (f.width = 32 ∨ f.width = 64 ∨ f.width = 128) → f.off.toNat % (f.width / 8) = 0 → secure s a = true →
    (∀ l, s.tally.load = some l → stagingUnit (f.off.toNat - 0x200000) ≠ some l.unit ∨ l.restore ≠ none) →
    ∃ t, exec (.modelStagingWrite a f d) s = .next t ∧ responseOf t a = .ok 0 ∧ Only [.mem, .ports] s t ∧
      (∀ i, i < f.width / 8 → (stagingUnit (f.off.toNat - 0x200000 + i)).isSome = true →
        memByte t (f.off.toNat - 0x200000 + i) = (d >>> (8 * i)).setWidth 8) ∧
      (∀ b, (b < f.off.toNat - 0x200000 ∨ f.off.toNat - 0x200000 + f.width / 8 ≤ b ∨ stagingUnit b = none) →
        memByte t b = memByte s b)) ∧
  (∀ (s : State) (a : Access) (f : Form) (d : BitVec 128) (l : Load), awake s = true → reaches s a = true → inModel f = true →
    f.full = true → (f.width = 32 ∨ f.width = 64 ∨ f.width = 128) → f.off.toNat % (f.width / 8) = 0 → secure s a = true →
    s.tally.load = some l → stagingUnit (f.off.toNat - 0x200000) = some l.unit → l.restore = none →
    (8 ≤ l.unit ∨ l.stage = 1 ∨ installedSet s l.unit = false) → s.tally.owed = [] →
    ∃ t, exec (.modelStagingWrite a f d) s = .next t ∧ responseOf t a = .ok 0 ∧ t.tally.load = none ∧
      (live t (talO Reg.TAL_LOADSTAT)).field 6 4 = 5 ∧ (live t (talO Reg.TAL_LOADSTAT)).field 11 8 = 7 ∧
      Raised Src.TALLY_IMAGE_BAD l.unit s t ∧
      ∀ i, i < f.width / 8 → (stagingUnit (f.off.toNat - 0x200000 + i)).isSome = true →
        memByte t (f.off.toNat - 0x200000 + i) = (d >>> (8 * i)).setWidth 8) ∧
  (∀ (s : State) (a : Access) (f : Form) (d : BitVec 128), awake s = true → reaches s a = true → inModel f = true → f.full = true →
    (f.width = 32 ∨ f.width = 64 ∨ f.width = 128) → f.off.toNat % (f.width / 8) = 0 → secure s a = false →
    exec (.modelStagingWrite a f d) s = .next (respond a (.ok 0) (countNonsec a s)))) ∧
  (∀ (o : Nat) (bytes : List Byte) (s : State) (a : Nat), a < o ∨ o + bytes.length ≤ a →
    Store.get (memWrite o bytes s).mem 0 a = Store.get s.mem 0 a) ∧
  ((∀ (s : State) (a : Access) (u : BitVec 4), awake s = true → reaches s a = true → secure s a = true → u.toNat < 9 →
    (s.tally.load = none → ∃ t, exec (.talLoadInstall a u) s = .next t ∧ t.tally.load = some ⟨u.toNat, 1, now s, [], none⟩ ∧
      (live t (talO Reg.TAL_LOADSTAT)).field 6 4 = 1 ∧ (live t (talO Reg.TAL_LOADSTAT)).field 3 0 = u.toNat) ∧
    (s.tally.load.isSome = true → ∃ t, exec (.talLoadInstall a u) s = .next t ∧ t.tally = s.tally ∧
      (live t (talO PAGE_STAT)).field 15 8 = Nat.min ((live s (talO PAGE_STAT)).field 15 8 + 1) 255)) ∧
  (∀ (s : State) (a : Access) (l : Load), awake s = true → reaches s a = true → secure s a = true → s.tally.load = some l →
    l.restore = none → (8 ≤ l.unit ∨ l.stage = 1 ∨ installedSet s l.unit = false) → s.tally.owed = [] →
    ∃ t, exec (.talLoadAbort a) s = .next t ∧ t.tally.load = none ∧ t.flt = s.flt ∧
      (live t (talO Reg.TAL_LOADSTAT)).field 6 4 = 5 ∧ (live t (talO Reg.TAL_LOADSTAT)).field 11 8 = 9) ∧
  (∀ (s : State) (l : Load), awake s = true → s.tally.load = some l → l.stage = 1 → l.restore = none → s.tally.owed = [] →
    l.from0 + (if l.unit = 8 then 513 else 36) ≤ now s →
    ∃ t, exec .tallyInstallCheckDone s = .next t ∧ t.mem = s.mem ∧
      (imageCause (memBytes s (stagingBase l.unit) (unitLen l.unit)) l.unit ≠ 0 → t.tally.load = none ∧
        Raised Src.TALLY_IMAGE_BAD l.unit s t ∧ (live t (talO Reg.TAL_LOADSTAT)).field 6 4 = 5 ∧
        (live t (talO Reg.TAL_LOADSTAT)).field 11 8 = imageCause (memBytes s (stagingBase l.unit) (unitLen l.unit)) l.unit) ∧
      (imageCause (memBytes s (stagingBase l.unit) (unitLen l.unit)) l.unit = 0 → l.unit = 8 →
        t.tally.load = some { l with stage := 3 } ∧ t.flt = s.flt) ∧
      (imageCause (memBytes s (stagingBase l.unit) (unitLen l.unit)) l.unit = 0 → l.unit < 8 →
        t.tally.load = some { l with stage := 2, quads := upto (quads s) } ∧ t.flt = s.flt)) ∧
  (∀ (s : State) (l : Load), awake s = true → s.tally.load = some l → l.stage = 3 → l.restore = none → l.unit ≤ 8 →
    s.tally.owed = [] → atTick s estP 0 = true →
    ∃ t, exec .tallyInstallActivate s = .next t ∧ t.tally.load = none ∧
      (∀ i, i < unitLen l.unit → memByte t (installedBase l.unit + i) = memByte s (stagingBase l.unit + i)) ∧
      (∀ b, (b < installedBase l.unit ∨ installedBase l.unit + unitLen l.unit ≤ b) → memByte t b = memByte s b) ∧
      live t (talO Reg.TAL_SETSTAT) = (live s (talO Reg.TAL_SETSTAT)).put l.unit l.unit 1))

/-- START and STOP of a domain (R264 to R266): START from OFF or TRIPPED arms the domain with the lowest available channels
active and the others spare; with fewer available than the least allowed it trips at once. It has no effect on a domain that
is up, nor (log entry 44, DEDUCED, for a START before POWER) where no domain may start. On a domain whose recovery is not
NORMAL it is the host clear of R492, which leaves the stage as it is and has the next tick issue the START. STOP of a
running domain whose sectors are all off starts the fall of its reference, and is refused and counted elsewhere. Channels
retired and returned (R285, R287): a retired active channel is failed, its lowest spare takes its place and new offsets are
due 100 ticks later; with no spare left `STG_SPARE_EXHAUSTED` is raised in any state, and an up domain with too few active
channels trips; a returned one joins the spares where it was populated at the last entry to ARMED (R264). A channel of a
running domain, active or spare, overloaded for the time of the limit is retired with its source at the end of that tick
(log entry 11), when no result of the tick has cleared it. -/
def Obligations.StageStartStop : Prop :=
  ((∀ (s : State) (a : Access) (d : Nat), awake s = true → stgCmdOk s a d = true → secure s a = true → (recov s d).state = .normal →
    stgUp s d = false → mayStart s = true → cfgF s (stgO d Reg.STG_CFG) 14 8 ≤ (available s d).length →
    cfgF s (stgO d Reg.STG_CFG) 22 16 ≤ (available s d).length →
    ∃ t, exec (.stgCmdStart a d) s = .next t ∧ (stage t d).state = .armed ∧ (stage t d).armedAt = now s ∧
      (stage t d).active = (available s d).take (cfgF s (stgO d Reg.STG_CFG) 14 8) ∧
      (stage t d).spares = (available s d).drop (cfgF s (stgO d Reg.STG_CFG) 14 8) ∧ (stage t d).pop = populated s d ∧
      (∀ e, e ≠ d → stage t e = stage s e) ∧ Only [.stages, .chans, .ports] s t) ∧
  (∀ (s : State) (a : Access) (d : Nat), awake s = true → stgCmdOk s a d = true → secure s a = true → (recov s d).state = .normal →
    stgUp s d = false → mayStart s = true → (available s d).length < cfgF s (stgO d Reg.STG_CFG) 22 16 →
    ∃ t, exec (.stgCmdStart a d) s = .next t ∧ (stage t d).state = .tripped ∧ RaisedAmong Src.STG_TOO_FEW d s t) ∧
  (∀ (s : State) (a : Access) (d : Nat), awake s = true → stgCmdOk s a d = true → secure s a = true → (recov s d).state = .normal →
    (stgUp s d = true ∨ mayStart s = false) → ∃ t, exec (.stgCmdStart a d) s = .next t ∧ Only [.ports] s t) ∧
  (∀ (s : State) (a : Access) (d : Nat), awake s = true → stgCmdOk s a d = true → secure s a = true → (recov s d).state ≠ .normal →
    thmShutdown s = false →
    ∃ t, exec (.stgCmdStart a d) s = .next t ∧ (recov t d).state = .normal ∧
      stage t d = { stage s d with startDue := some (now s + 1) } ∧ (∀ e, e ≠ d → stage t e = stage s e) ∧
      Only [.live, .recov, .stages, .ports] s t) ∧
  (∀ s : State, awake s = true → s.pending = [] → step s = .next (clearedStarts (bridgeTick (advance (finishTick s))))) ∧
  (∀ (s : State) (d t0 : Nat), d < 4 → (stage s d).startDue = some t0 → t0 ≤ now s → (recov s d).state = .normal →
    (∀ e, e ≠ d → (stage s e).startDue = none) → stgUp s d = false → mayStart s = true →
    cfgF s (stgO d Reg.STG_CFG) 14 8 ≤ (available s d).length → cfgF s (stgO d Reg.STG_CFG) 22 16 ≤ (available s d).length →
    (stage (clearedStarts s) d).state = .armed ∧ (stage (clearedStarts s) d).armedAt = now s ∧
      (stage (clearedStarts s) d).startDue = none ∧
      (stage (clearedStarts s) d).active = (available s d).take (cfgF s (stgO d Reg.STG_CFG) 14 8)) ∧
  (∀ (s : State) (a : Access) (d : Nat), awake s = true → stgCmdOk s a d = true → secure s a = true →
    (stage s d).state = .run → allOff s d = true →
    ∃ t, exec (.stgCmdStop a d) s = .next t ∧ (stage t d).state = .stop ∧ (stage t d).ref = (stage s d).chan.pos ∧
      (stage t d).refAt = now s ∧ (∀ e, e ≠ d → stage t e = stage s e)) ∧
  (∀ (s : State) (a : Access) (d : Nat), awake s = true → stgCmdOk s a d = true → secure s a = true →
    ((stage s d).state ≠ .run ∨ allOff s d = false) →
    ∃ t, exec (.stgCmdStop a d) s = .next t ∧ t.stages = s.stages ∧ (live t (stgO d PAGE_STAT)).field 15 8 =
      Nat.min ((live s (stgO d PAGE_STAT)).field 15 8 + 1) 255 ∧ Only [.live, .ports] s t)) ∧
  ((∀ (s : State) (a : Access) (d : Nat) (ch : BitVec 6) (sp : Nat) (rest : List Nat), awake s = true → stgCmdOk s a d = true →
    secure s a = true → ch.toNat < domCh d → (stgCh s (domBase d + ch.toNat)).failed = false → ch.toNat ∈ (stage s d).active →
    (stage s d).spares = sp :: rest →
    ∃ t, exec (.stgCmdRetire a d ch) s = .next t ∧ (stgCh t (domBase d + ch.toNat)).failed = true ∧
      (stage t d).active = insertNat sp ((stage s d).active.filter (· != ch.toNat)) ∧ (stage t d).spares = rest ∧
      (stage t d).offDue = some (now s + 100) ∧
      live t (stgO d Reg.STG_LASTRET) = BitVec.ofNat 32 (ch.toNat + 256 * 4) ∧
      (∀ k, k ≠ domBase d + ch.toNat → stgCh t k = stgCh s k) ∧ t.flt = s.flt) ∧
  (∀ (s : State) (a : Access) (d : Nat) (ch : BitVec 6), awake s = true → stgCmdOk s a d = true →
    secure s a = true → ch.toNat < domCh d → (stgCh s (domBase d + ch.toNat)).failed = false → ch.toNat ∈ (stage s d).active →
    (stage s d).spares = [] →
    ∃ t, exec (.stgCmdRetire a d ch) s = .next t ∧ (stgCh t (domBase d + ch.toNat)).failed = true ∧
      (stage t d).active = (stage s d).active.filter (· != ch.toNat) ∧ (stage t d).offDue = some (now s + 100) ∧
      RaisedAmong Src.STG_SPARE_EXHAUSTED d s t ∧
      (stgUp s d = true → ((stage s d).active.filter (· != ch.toNat)).length < cfgF s (stgO d Reg.STG_CFG) 22 16 →
        (stage t d).state = .tripped ∧ RaisedAmong Src.STG_TOO_FEW d s t)) ∧
  (∀ (s : State) (a : Access) (d : Nat) (ch : BitVec 6), awake s = true → stgCmdOk s a d = true → secure s a = true →
    ch.toNat < domCh d → (stgCh s (domBase d + ch.toNat)).failed = true →
    ∃ t, exec (.stgCmdReturn a d ch) s = .next t ∧ (stgCh t (domBase d + ch.toNat)).failed = false ∧
      (stage t d).active = (stage s d).active ∧
      (stage t d).spares = if ch.toNat ∈ (stage s d).pop then insertNat ch.toNat (stage s d).spares else (stage s d).spares) ∧
  (∀ (s : State) (ch t0 : Nat), awake s = true → ch < 80 → (stgCh s ch).highAt = some t0 →
    judged s (chDom ch) (chLocal ch) = true →
    (chLocal ch ∉ (stage s (chDom ch)).active ∨ chLocal ch ∉ (stage s (chDom ch)).spares) → (stgCh s ch).failed = false →
    t0 + usTicks (cfgF s (stgO (chDom ch) Reg.STG_SLOW) 27 16) ≤ now s →
    exec (.stgChOverload ch) s = .next (expire (.overload ch) s) ∧
      (stgCh (timeOver (.overload ch) s) ch).failed = true ∧ chLocal ch ∉ (stage (timeOver (.overload ch) s) (chDom ch)).active ∧
      chLocal ch ∉ (stage (timeOver (.overload ch) s) (chDom ch)).spares ∧
      RaisedAmong Src.STG_CH_OVERLOAD ch s (timeOver (.overload ch) s)) ∧
  (∀ (s : State) (ch t0 : Nat), awake s = true → (stgCh s ch).highAt = some t0 →
    now s < t0 + usTicks (cfgF s (stgO (chDom ch) Reg.STG_SLOW) 27 16) → timeOver (.overload ch) s = s))

/-- Soft start (R268 to R271): SOFT begins with the reference at the lesser of the target and the rail; the reference rises
to the target and no further, where CONFIRM begins; sixteen good samples in CONFIRM enter RUN with the rail channel at rest
at the target, unless a protective trip is due in that tick, which goes before (R291). -/
def Obligations.SoftStartCommands : Prop :=
  (∀ (s : State) (d f : Nat), awake s = true → d < 4 → softEntry s d = some f → softReady s d = true → atTick s compP 0 = true →
    ∃ t, exec (.stgSoftEntry d) s = .next t ∧ (stage t d).state = .soft ∧ (stage t d).softAt = now s ∧ (stage t d).follow = f ∧
      (stage t d).ref = (Nat.min (vss s d) ((stage s d).rail.getD 0) : Nat) * q32 ∧ (∀ e, e ≠ d → stage t e = stage s e) ∧
      (trackMode s d = 0 → t.flt = s.flt)) ∧
  (∀ (s : State) (d : Nat), awake s = true → d < 4 → stgSwitching s d = true → atTick s compP 0 = true →
    ∃ t, exec (.compensatorStart d) s = .next t ∧ (eng t clsComp d).start = some (now s) ∧ (eng t clsComp d).done = none ∧
      (stage t d).ref = (refStep s d).1 ∧ (stage t d).refAt = now s ∧
      ((stage s d).state = .soft → (vss s d * q32 : Int) ≤ (refStep s d).1 → (stage t d).state = .confirm ∧ (stage t d).confAt = now s) ∧
      ((stage s d).state = .soft → (refStep s d).1 < (vss s d * q32 : Int) → (stage t d).state = .soft) ∧
      ((stage s d).state = .stop → (refStep s d).1 ≤ 0 → (stage s d).ovRun < 3 →
        (stage s d).gapRun + 1 < cfgF s (stgO d Reg.STG_BCFG) 31 24 → (stage t d).state = .off) ∧
      ((stage s d).state = .run → (stage t d).state = .run)) ∧
  (∀ (s : State) (d : Nat), (stage s d).state = .soft → (stage s d).ref ≤ (vss s d * q32 : Int) → ownStep s d ≤ (vss s d * q32 : Int)) ∧
  (∀ (s : State) (d : Nat), awake s = true → d < 4 → (stage s d).state = .confirm → 16 ≤ (stage s d).pgRun → tripDue s d = false →
    ∃ t, exec (.stgConfirmDone d) s = .next t ∧ (stage t d).state = .run ∧ (stage t d).target = vss s d ∧
      (stage t d).chan.pos = (vss s d : Int) * q32 ∧ (stage t d).chan.vel = 0 ∧ (stage t d).chan.acc = 0 ∧
      (∀ e, e ≠ d → stage t e = stage s e)) ∧
  (∀ (s : State) (d : Nat), awake s = true → tripDue s d = true → exec (.stgConfirmDone d) s = .next s)

/-- The compensator (R272 to R274): a period that completed in time latches its duty and its filter's state, one that did
not leaves them; a duty lies within its limits, and an integrator that is not held within its own. Currents and the rail
channel (R175, R206, R280, R292): B is formed at every estimate period's start, zero for a domain that does not switch; a
running domain's rail target follows its demand within 0.55 V to 1.2 V; the rail channel takes a new target and steps. -/
def Obligations.CompensatorAndRail : Prop :=
  ((∀ (s : State) (d : Nat) (r : CompRes), awake s = true → d < 4 → engDue s clsComp d = true → (eng s clsComp d).done.isSome = true →
    (stage s d).comp = some r →
    ∃ t, exec (.compensatorLatch d) s = .next t ∧ (stage t d).duty = r.duty ∧ (stage t d).integ = r.integ ∧ (stage t d).y1 = r.y1 ∧
      (stage t d).y2 = r.y2 ∧ (stage t d).ePrev = r.e ∧ (stage t d).comp = none ∧
      (stage t d).latched = some ((stage s d).latched.getD (now s)) ∧ (∀ e, e ≠ d → stage t e = stage s e) ∧ t.flt = s.flt) ∧
  (∀ (s : State) (d : Nat), awake s = true → d < 4 → engDue s clsComp d = true → (eng s clsComp d).done = none →
    ∃ t, exec (.compensatorLatch d) s = .next t ∧ stage t d = { stage s d with comp := none } ∧
      RaisedAmong Src.ENG_OVERRUN (engKey clsComp d) s t) ∧
  (∀ (s : State) (d v : Nat) (r : Int), cfgF s (stgO d Reg.STG_DLIM) 15 0 ≤ cfgF s (stgO d Reg.STG_DLIM) 31 16 →
    cfgF s (stgO d Reg.STG_DLIM) 15 0 ≤ (pid s d v r).duty ∧ (pid s d v r).duty ≤ cfgF s (stgO d Reg.STG_DLIM) 31 16 ∧
    ((pid s d v r).hold = true → (pid s d v r).integ = (stage s d).integ) ∧
    ((pid s d v r).hold = false → |(pid s d v r).integ| ≤ (cfgF s (stgO d Reg.STG_ILIM) 15 0 : Int) * 4096))) ∧
  ((∀ (s : State) (d : Nat), awake s = true → d < 4 → atTick s estP 0 = true →
    ∃ t, exec (.stgBUpdate d) s = .next t ∧ (stage t d).bCode = (formB s d).1 ∧ (stage t d).bFail = (formB s d).2 ∧
      ((stage s d).state = .off ∨ (stage s d).state = .armed ∨ (stage s d).state = .tripped →
        (stage t d).bCode = 0 ∧ (stage t d).bFail = false) ∧ (∀ e, e ≠ d → stage t e = stage s e)) ∧
  (∀ (s : State) (d : Nat), awake s = true → d < 4 → (stage s d).state = .run → atTick s capP 0 = true →
    ∃ t, exec (.railTargetUpdate d) s = .next t ∧ stage t d = { stage s d with target := railTarget s d, cmd := some (railTarget s d) } ∧
      (cfgB s (stgO d Reg.STG_TRACK) 16 = false → 1100 ≤ railTarget s d ∧ railTarget s d ≤ 2400) ∧ Only [.stages] s t) ∧
  (∀ (s : State) (d : Nat), awake s = true → d < 4 → (stage s d).state = .run → atTick s compP 0 = true → (stage s d).stepAt ≠ now s →
    ∃ t, exec (.chairliftRailStep d) s = .next t ∧ (stage t d).before = (stage s d).chan.pos ∧ (stage t d).stepAt = now s ∧
      (stage t d).cmd = none ∧ (∀ x, (stage s d).cmd = some x → x ≠ (stage s d).chan.tgt →
        (stage t d).chan.tgt = x ∧ (stage t d).chan.adm = x) ∧ (∀ e, e ≠ d → stage t e = stage s e) ∧ Only [.stages] s t))

/-- The protections of a domain (R270, R271, R288 to R291): a soft start too long, a short found in it, an over-voltage and
a lost sense trip the domain in the tick of the cause and raise their source; an under-voltage is raised and trips nothing
of itself. The two that are times (the window's timeout and the under-voltage delay) act at the end of their tick, where a
sample of that tick has not ended them (log entry 11). A protective trip takes the domain's sectors with it (R201, R110,
R161), in the order source, trip, discard of work in flight, as an over-voltage shows: the profile of every sector of the
domain is idle with no point, its engine is off or dark, its clusters are disabled, and every cell of it that was in duty or
stood by is OFF. -/
def Obligations.ProtectiveTrips : Prop :=
  (∀ (s : State) (d : Nat), awake s = true → d < 4 →
    ((stage s d).state = .confirm → (stage s d).pgRun < 16 → (stage s d).confAt + usTicks (cfgF s (stgO d Reg.STG_TRK) 31 16) ≤ now s →
      exec (.stgPgTimeout d) s = .next (expire (.pg d) s) ∧ (stage (timeOver (.pg d) s) d).state = .tripped ∧
      RaisedAmong Src.STG_PG_TIMEOUT d s (timeOver (.pg d) s)) ∧
    (16 ≤ (stage s d).pgRun ∨ (stage s d).state ≠ .confirm → timeOver (.pg d) s = s) ∧
    ((stage s d).state = .soft ∨ (stage s d).state = .confirm → ssTrips s d = true →
      ∃ t, exec (.stgSsShort d) s = .next t ∧ (stage t d).state = .tripped ∧ RaisedAmong Src.STG_SS_SHORT d s t) ∧
    (stgUp s d = true → 3 ≤ (stage s d).ovRun →
      ∃ t, exec (.stgOv d) s = .next t ∧ (stage t d).state = .tripped ∧ (stage t d).ovLow = true ∧ RaisedAmong Src.STG_OV d s t) ∧
    (stgSwitching s d = true → cfgF s (stgO d Reg.STG_BCFG) 31 24 ≤ (stage s d).gapRun →
      ∃ t, exec (.stgSenseLost d) s = .next t ∧ (stage t d).state = .tripped ∧ (eng t clsComp d).start = none ∧
        (∀ e, e ≠ d → stage t e = stage s e) ∧ RaisedAmong Src.STG_SENSE_LOST d s t) ∧
    (∀ t0, (stage s d).uvFrom = some t0 → (stage s d).state = .run → (stage s d).uvSaid = false →
      t0 + usTicks (cfgF s (stgO d Reg.STG_UVOV) 15 8) ≤ now s →
      exec (.stgUv d) s = .next (expire (.uv d) s) ∧ (stage (timeOver (.uv d) s) d).state = .run ∧
      (stage (timeOver (.uv d) s) d).uvSaid = true ∧ Raised Src.STG_UV d s (timeOver (.uv d) s)) ∧
    ((stage s d).uvFrom = none → timeOver (.uv d) s = s)) ∧
  ((∀ (s : State) (d : Nat), awake s = true → d < 4 → stgUp s d = true → 3 ≤ (stage s d).ovRun →
    exec (.stgOv d) s = .next (modStage d (fun x => { x with ovLow := true })
      (discard (tripDomain d (raiseOn Src.STG_OV d (stgPage d) 2 s))))) ∧
  ∀ (s : State) (d sc : Nat), (stage s d).state ≠ .tripped → sc ∈ domSectors s d →
    (sec (tripDomain d s) sc).prof = .idle ∧ (sec (tripDomain d s) sc).sw = .off ∧ (sec (tripDomain d s) sc).sp = 0 ∧
    ((sec (tripDomain d s) sc).mode = .off ∨ (sec (tripDomain d s) sc).mode = .dark) ∧
    (∀ g, g / 4 = sc → (clu (tripDomain d s) g).enabled = false) ∧
    (∀ n, n / 64 = sc → detects (cell s n) = true → (cell (tripDomain d s) n).state = .off))

/-- Switching (R69, R275 to R278, R283, R284): a period's start reads the pulse generator's configuration and takes offsets
that are due; half the active channels of a running domain with four trips in a row trip it. A cycle starts with the latched
duty's share of the period at its offset in 1/32 tick, or no pulse where the share is below the least one, and takes the
diode-emulation decision. The fast limit ends a pulse in that tick, a zero crossing its low time; a trip count that reaches
`FAST_N` above 4 retires the channel at once (log entry 35, DEDUCED, leaves a count of 4 to the next period's check). The
levels of the `PWM` pins (R263, R275, R289): a channel of a domain that does not switch drives MID, but for one that an
over-voltage holds LOW to its cycle's end; a channel that no cycle has reached drives MID; one at its fast limit drives LOW.
-/
def Obligations.SwitchingCommands : Prop :=
  ((∀ (s : State) (d t0 : Nat), awake s = true → d < 4 → atTick s (pswOf (stage s d).fsw) 0 = true →
    ((stage s d).state = .run → (∀ l, l ∈ (stage s d).active →
        (stgCh s (domBase d + l)).trips < cfgF s (stgO d Reg.STG_FAST) 23 16) ∧
      ((stage s d).active = [] ∨
        2 * ((stage s d).active.filter (fun l => decide (4 ≤ (stgCh s (domBase d + l)).trips))).length < (stage s d).active.length)) →
    (stage s d).offDue = some t0 → t0 ≤ now s → cfgF s (stgO d Reg.STG_CFG) 1 0 = (stage s d).fsw →
    ∃ t, exec (.switchingPeriodStart d) s = .next t ∧ (stage t d).offDue = none ∧
      (stage t d).phbase = cfgF s (stgO d Reg.STG_PHBASE) 16 0 ∧ (stage t d).offs = offsetsOf t d (stage s d).fsw ∧
      (stage t d).pulse = { tonMin := cfgF s (stgO d Reg.STG_VIN) 23 16, zcBlank := cfgF s (stgO d Reg.STG_DE) 19 16,
                            deEn := cfgB s (stgO d Reg.STG_CFG) 24, fastN := cfgF s (stgO d Reg.STG_FAST) 23 16 } ∧
      (stage t d).active = (stage s d).active ∧ t.chans = s.chans ∧ t.flt = s.flt) ∧
  (∀ (s : State) (d : Nat), awake s = true → d < 4 → (stage s d).state = .run → atTick s (pswOf (stage s d).fsw) 0 = true →
    (stage s d).active ≠ [] →
    (stage s d).active.length ≤ 2 * ((stage s d).active.filter (fun l => decide (4 ≤ (stgCh s (domBase d + l)).trips))).length →
    ∃ t, exec (.switchingPeriodStart d) s = .next t ∧ (stage t d).state = .tripped ∧ RaisedAmong Src.STG_RAIL_SHORT d s t) ∧
  (∀ (s : State) (ch : Nat), awake s = true → ch < 80 → cycleDue s ch = true →
    ∃ t, exec (.switchingCycleStart ch) s = .next t ∧ (stgCh t ch).cycAt = some (32 * now s + (offsetOf s ch).getD 0 % 32) ∧
      (stgCh t ch).cut = false ∧ (stgCh t ch).tripped = false ∧ (stgCh t ch).de = deNow s (chDom ch) ∧
      (stgCh t ch).end32 = 32 * now s + (offsetOf s ch).getD 0 % 32 + 32 * pswOf (stage s (chDom ch)).fsw ∧
      (stgCh t ch).tOn =
        (let share := (roundDiv ((stage s (chDom ch)).duty * (32 * pswOf (stage s (chDom ch)).fsw)) 65536).toNat
         if share < 32 * (stage s (chDom ch)).pulse.tonMin then 0 else share) ∧
      pwmAt t ch ((offsetOf s ch).getD 0 % 32) = (if (stgCh t ch).tOn = 0 then .low else .high) ∧
      (∀ k, k ≠ ch → stgCh t k = stgCh s k) ∧ Only [.chans] s t) ∧
  (∀ (s : State) (ch t0 : Nat), awake s = true → ch < 80 → stgSwitching s (chDom ch) = true →
    chLocal ch ∈ (stage s (chDom ch)).active → (stgCh s ch).tripped = false → pwmLevel s ch ≠ .mid →
    (stgCh s ch).cycAt = some t0 → ((stgCh s ch).tOn = 0 ∨ t0 + 128 ≤ 32 * now s) →
    ((stage s (chDom ch)).state ≠ .run ∨ (stgCh s ch).trips + 1 < (stage s (chDom ch)).pulse.fastN ∨ (stgCh s ch).trips + 1 ≤ 4) →
    ∃ t, exec (.fastLimitTrip ch) s = .next t ∧ stgCh t ch =
        { stgCh s ch with tripped := true, trips := (stgCh s ch).trips + 1, lowAt := Nat.min (stgCh s ch).lowAt (32 * now s) } ∧
      pwmLevel t ch = .low ∧ (stage t (chDom ch)).fast = true ∧ (∀ k, k ≠ ch → stgCh t k = stgCh s k) ∧
      (live t (stgO (chDom ch) Reg.STG_TRIPS)).toNat =
        Nat.min ((live s (stgO (chDom ch) Reg.STG_TRIPS)).toNat + 1) 0xFFFFFFFF) ∧
  (∀ (s : State) (ch t0 : Nat), awake s = true → ch < 80 → (stage s (chDom ch)).state = .run →
    chLocal ch ∈ (stage s (chDom ch)).active → (stgCh s ch).tripped = false → (stgCh s ch).failed = false → pwmLevel s ch ≠ .mid →
    (stgCh s ch).cycAt = some t0 → ((stgCh s ch).tOn = 0 ∨ t0 + 128 ≤ 32 * now s) → 4 ≤ (stgCh s ch).trips →
    (stage s (chDom ch)).pulse.fastN ≤ (stgCh s ch).trips + 1 →
    ∃ t, exec (.fastLimitTrip ch) s = .next t ∧ (stgCh t ch).failed = true ∧ pwmLevel t ch = .mid ∧
      RaisedAmong Src.STG_CH_SHORT ch s t) ∧
  (∀ (s : State) (ch : Nat), awake s = true → ch < 80 → chDe s ch = true → pwmLevel s ch = .low →
    (stgCh s ch).lowAt + 32 * (stage s (chDom ch)).pulse.zcBlank ≤ 32 * now s →
    ∃ t, exec (.zeroCrossing ch) s = .next t ∧ pwmLevel t ch = .mid ∧ (∀ k, k ≠ ch → stgCh t k = stgCh s k) ∧ Only [.chans] s t)) ∧
  (∀ (s : State) (ch : Nat),
    ((stgCh s ch).cycAt = none → pwmLevel s ch = .mid) ∧
    ((stage s (chDom ch)).state = .off ∨ (stage s (chDom ch)).state = .armed → pwmLevel s ch = .mid) ∧
    ((stage s (chDom ch)).state = .tripped → pwmLevel s ch = .low →
      (stage s (chDom ch)).ovLow = true ∧ 32 * now s < (stgCh s ch).end32) ∧
    ((stage s (chDom ch)).state = .tripped → pwmLevel s ch ≠ .high) ∧
    ((stgCh s ch).tripped = true → pwmLevel s ch ≠ .high) ∧
    (∀ t0, (stgCh s ch).tripped = true → (stgCh s ch).cycAt = some t0 → chLocal ch ∈ (stage s (chDom ch)).active →
      stgSwitching s (chDom ch) = true → (stgCh s ch).cut = false → pwmLevel s ch = .low))

/-- Converters (R301 to R304, R315, R316, R324, R325): a code never leaves 12 bits; an in-range calibration pair replaces
gain and offset and ends CAL in the converter's first role, an out-of-range one keeps them, is raised, and fails a converter
in CAL; correction overflows are counted, and a run that comes to four is raised. RETIRE and RETEST act where they may and
are refused and counted elsewhere; sixteen good pairs end RETEST in SPARE and others in FAILED. The replacement of
converters (R317 to R319, R325): a retired converter fails and its role is owed; at the tick's end an owed role passes to
the lowest-numbered spare, connected 16 ticks later at an edge; with no spare, and none to wait for, a telemetry role is
lost and a rail role takes the converter of the highest quadrant that has one. That the roles lost in a tick pass on at its
end, one by one, is log entry 36, and that a converter still in CAL which may come to serve is waited for is log entry 22
(both DEDUCED). -/
def Obligations.ConverterCommands : Prop :=
  ((∀ (s : State) (c n sum : Nat), adcCode s c n sum ≤ 4095) ∧
  (∀ (s : State) (n rl8 rh8 : Nat), awake s = true → n < 12 → (adc s n).state = .spare → pairDue s n = true →
    (calInRange (calOf s 0 rl8 rh8) = true → ∃ t, exec (.adcCalPair n rl8 rh8) s = .next t ∧
      (adc t n).gain = (calOf s 0 rl8 rh8).1.toNat ∧ (adc t n).offs = (calOf s 0 rl8 rh8).2 ∧ (adc t n).state = .spare ∧
      (∀ m, m ≠ n → adc t m = adc s m) ∧ t.flt = s.flt) ∧
    (calInRange (calOf s 0 rl8 rh8) = false → ∃ t, exec (.adcCalPair n rl8 rh8) s = .next t ∧
      adc t n = { adc s n with calAt := now s - 40 } ∧ (∀ m, m ≠ n → adc t m = adc s m) ∧ Raised Src.ADC_CAL_RANGE n s t)) ∧
  (∀ (s : State) (n rl8 rh8 : Nat), awake s = true → n < 12 → (adc s n).state = .cal → pairDue s n = true →
    (calInRange (calOf s 0 rl8 rh8) = true → n < 4 + quads s → ∃ t, exec (.adcCalPair n rl8 rh8) s = .next t ∧
      (adc t n).state = (if n < 4 then .rail else .telem) ∧ (adc t n).role = n ∧
      (adc t n).gain = (calOf s 0 rl8 rh8).1.toNat ∧ ∀ m, m ≠ n → adc t m = adc s m) ∧
    (calInRange (calOf s 0 rl8 rh8) = false → ∃ t, exec (.adcCalPair n rl8 rh8) s = .next t ∧
      (adc t n).state = .failed ∧ (adc t n).cause = 1 ∧ RaisedAmong Src.ADC_CAL_RANGE n s t ∧ ∀ m, m ≠ n → adc t m = adc s m)) ∧
  (∀ (s : State) (n : Nat) (bad : List Bool), awake s = true → n < 12 → (adc s n).state ≠ .failed →
    ∃ t, exec (.adcCorrErr ⟨n, bad⟩) s = .next t ∧ Only [.adcs, .flt, .live] s t ∧
      adc t n = { adc s n with corrRun := (bad.foldl corrStep ((adc s n).corrRun, false)).1 } ∧
      ((bad.foldl corrStep ((adc s n).corrRun, false)).2 = true → Raised Src.ADC_CORR_ERR n s t) ∧
      ((bad.foldl corrStep ((adc s n).corrRun, false)).2 = false → t.flt = s.flt) ∧
      (live t (adcO n Reg.ADC_CORRERR)).toNat =
        Nat.min ((live s (adcO n Reg.ADC_CORRERR)).toNat + (bad.filter (· == true)).length) 0xFFFFFFFF) ∧
  (∀ (s : State) (a : Access) (n : Nat), awake s = true → reaches s a = true → secure s a = true → n < 12 →
    ((adc s n).state = .failed → ∃ t, exec (.adcCmdRetest a n) s = .next t ∧
      adc t n = { adc s n with state := .retest, pairs := 0, pairOk := true, calAt := now s } ∧ Only [.adcs, .ports] s t) ∧
    ((adc s n).state ≠ .failed → ∃ t, exec (.adcCmdRetest a n) s = .next t ∧ Only [.live, .ports] s t ∧
      (live t (adcO n PAGE_STAT)).field 15 8 = Nat.min ((live s (adcO n PAGE_STAT)).field 15 8 + 1) 255)) ∧
  (∀ (s : State) (n : Nat), awake s = true → n < 12 → (adc s n).state = .retest → 16 ≤ (adc s n).pairs →
    ((adc s n).pairOk = true → (adc s n).gMax ≤ (adc s n).gMin + 64 → (adc s n).oMax - (adc s n).oMin ≤ 8 →
      ∃ t, exec (.adcRetestDone n) s = .next t ∧ adc t n = { adc s n with state := .spare, role := 15 } ∧ Only [.adcs] s t) ∧
    ((adc s n).pairOk = false → ∃ t, exec (.adcRetestDone n) s = .next t ∧ (adc t n).state = .failed ∧ (adc t n).cause = 5))) ∧
  ((∀ (s : State) (n role t0 : Nat), awake s = true → n < 12 → (adc s n).taking = some (role, t0) → t0 ≤ now s →
    (∀ m, m ≠ n → (adc s m).taking = none) → s.tb.running = true →
    s.tb.tick.toNat % 5 = (if role < 4 then 0 else adcPhase s n) →
    ∃ t, exec (.adcReplaceConnect role) s = .next t ∧
      adc t n = { adc s n with taking := none, role := role, state := if role < 4 then .rail else .telem,
                               keep := if role < 4 then now s + 40 else now s, calAt := now s } ∧
      (∀ m, m ≠ n → adc t m = adc s m) ∧ Raised Src.ADC_REPLACED n s t) ∧
  (∀ (s : State) (a : Access) (n : Nat), awake s = true → reaches s a = true → secure s a = true → n < 12 →
    (adc s n).state = .spare → (adc s n).taking = none →
    ∃ t, exec (.adcCmdRetire a n) s = .next t ∧ (adc t n).state = .failed ∧ (adc t n).cause = 4 ∧ (adc t n).role = 15 ∧
      Store.get t.sparing.adcIsol 0 n = Store.get s.sparing.adcIsol 0 n + 1 ∧ (∀ m, m ≠ n → adc t m = adc s m) ∧
      t.adcOwed = s.adcOwed) ∧
  (∀ (s : State) (a : Access) (n : Nat), awake s = true → reaches s a = true → secure s a = true → n < 12 →
    ((adc s n).state = .rail ∨ (adc s n).state = .telem) → (adc s n).taking = none →
    ∃ t, exec (.adcCmdRetire a n) s = .next t ∧ (adc t n).state = .failed ∧ (adc t n).cause = 4 ∧
      t.adcOwed = insertRole ((adc s n).role, n) s.adcOwed ∧ (∀ m, m ≠ n → adc t m = adc s m)) ∧
  (∀ (s : State) (n m role : Nat), m < 12 → (adc s m).state = .spare → (adc s m).taking = none →
    (∀ k, k < m → (adc s k).state ≠ .spare ∨ (adc s k).taking ≠ none) →
    adc (serveRole s (role, n)) m = { adc s m with taking := some (role, now s + 16) } ∧
      (∀ k, k ≠ m → adc (serveRole s (role, n)) k = adc s k) ∧ Only [.adcs] s (serveRole s (role, n))) ∧
  (∀ (s : State) (n role : Nat), awake s = true → s.pending = [] → s.adcOwed = [(role, n)] → s.late = [] → s.lnk.reqs = [] →
    s.regs.seen = [] → s.ports.target.fetch = none → s.ports.target.data = none → syncMissed (estP / 2) s = false →
    (∀ d, (stage (serveRole (s.setAdcOwed []) (role, n)) d).startDue = none) →
    ∃ t, step s = .next t ∧ Only [.time, .bridge, .ports, .seat] (serveRole (s.setAdcOwed []) (role, n)) t) ∧
  (∀ (s : State) (n role : Nat), (∀ k, k < 12 → (adc s k).state ≠ .spare ∨ (adc s k).taking ≠ none) →
    (∀ k, k < 12 → mayServe s role k = false) → RaisedAmong Src.ADC_SPARE_EXHAUSTED n s (serveRole s (role, n)) ∧
    (4 ≤ role → RaisedAmong Src.ADC_TELEM_LOST (role - 4) s (serveRole s (role, n))) ∧
    (∀ q m, role < 4 → q < 4 → quadConv s q = some m → (∀ p, q < p → p < 4 → quadConv s p = none) →
      RaisedAmong Src.ADC_TELEM_LOST q s (serveRole s (role, n)) ∧
      (adc (serveRole s (role, n)) m).taking = some (role, now s + 16))))

/-- Sequences and urgent requests (R303, R307 to R314, R321): an entry runs for its settling and averaging; a result leaves
the pipeline once and reaches the destination of its channel, a tap's register, the thermal manager, a stage channel's
current or a quadrant's register; a pass that ends is counted with its length, and calibrates where it converted the
references with `AUTOCAL` set; an urgent request is queued or refused and counted, begins at an edge, and its result is the
secure master's. What `AUTOCAL` uses is log entry 36 (DEDUCED). The cross-check and the rail samples (R299, R304, R316): an
arbitration takes the lowest-numbered idle spare from its next edge and is counted, and is unresolved with none; its result
ends it, clears the run of differences and blames one converter or nothing; a rail converter's result is the latest code of
its domain. -/
def Obligations.SequenceCommands : Prop :=
  ((∀ (s : State) (q e : Nat), awake s = true → quadEdge s q = true → 0 < seqLen s q → entryFree (quad s q) (now s) = true →
    (quad s q).queue = [] → (quad s q).redo = none →
    e = (if (quad s q).newTab then 0 else if (quad s q).next < seqLen s q then (quad s q).next else 0) →
    ∃ t, exec (.sequenceEntryStart q) s = .next t ∧
      (quad t q).cur = some (e, now s, now s + 5 * ((profOf s q (seqEntry s q e).2).1 + (profOf s q (seqEntry s q e).2).2)) ∧
      (quad t q).next = (e + 1) % seqLen s q ∧
      (quad t q).due.map (·.chan) = (quad s q).due.map (·.chan) ++ [(seqEntry s q e).1] ∧
      (∀ p, p ≠ q → quad t p = quad s p) ∧ Only [.quads] s t) ∧
  (∀ (s : State) (q n : Nat) (c : Conv) (raws : List Nat), awake s = true → dueConv s q false = some c → quadConv s q = some n →
    raws.length = c.avg → resultTurn s q c = true →
    ∃ t, exec (.telemetryResult q raws) s = .next t ∧ (quad t q).due = (quad s q).due.filter (· != c) ∧
      let code := adcCode s n c.avg (rawSum raws)
      let g := 64 * q + c.chan % 64
      let lands := fun (off : Nat) => (live t off).field 11 0 = code ∧ (live t off).bit 31 = true ∧
        (live t off).field 23 16 = ((live s off).field 23 16 + 1) % 256
      (c.chan < 64 → g / 4 < sectors s → tapClosed s g = false → lands (cluO (g / 4) (Reg.CLU_VTAP (g % 4)))) ∧
      (64 ≤ c.chan → c.chan < 128 → g / 4 < sectors s → lands (cluO (g / 4) (Reg.CLU_ITAP (g % 4)))) ∧
      (128 ≤ c.chan → c.chan < 160 → 16 * q + (c.chan - 128) / 2 < sectors s →
        t.therm.dRes.find (2 * (16 * q + (c.chan - 128) / 2) + c.chan % 2) = some (now s, code)) ∧
      (160 ≤ c.chan → c.chan < 240 → 100 ≤ code → code ≤ 3500 →
        let ch := c.chan - 160
        let w := cfg s (stgO (chDom ch) Reg.STG_IMONCAL)
        let i := clamp (roundDiv (((code : Int) - 2 * w.field 11 0) * 5000) (w.field 27 16)) (-32768) 32767
        (stgCh t ch).res.head? = some (now s, i) ∧
          (live t (stgO (chDom ch) (Reg.STG_CH (chLocal ch)))).field 15 0 = unsigned 16 i ∧
          (live t (stgO (chDom ch) (Reg.STG_CH (chLocal ch)))).bit 31 = true) ∧
      (240 ≤ c.chan → c.chan < 248 → t.therm.tRes.find (c.chan - 240) = some (now s, code)) ∧
      (248 ≤ c.chan → c.chan < 252 → lands (qdO q (Reg.QD_RAILTAP (c.chan - 248)))) ∧
      (c.chan = 252 → lands (qdO q Reg.QD_REFLO)) ∧ (c.chan = 253 → lands (qdO q Reg.QD_REFHI)) ∧
      (c.chan = 254 → lands (qdO q Reg.QD_GND)) ∧ (c.chan = 255 → lands (qdO q Reg.QD_VAON))) ∧
  (∀ (s : State) (q n clocks : Nat) (refs : Bool), awake s = true → passOver s q (quad s q) = some (clocks, refs) →
    quadConv s q = some n →
    ∃ t, exec (.sequencePassEnd q) s = .next t ∧ (quad t q).passEnd = none ∧
      (live t (qdO q Reg.QD_PASSES)).toNat = Nat.min ((live s (qdO q Reg.QD_PASSES)).toNat + 1) 0xFFFFFFFF ∧
      live t (qdO q Reg.QD_PASSTIME) = BitVec.ofNat 32 (clocks % 0x10000) ∧ (refs = false → t.adcs = s.adcs ∧ t.flt = s.flt) ∧
      (∀ sl nl sh nh, refs = true → (quad s q).refLo = some (sl, nl) → (quad s q).refHi = some (sh, nh) →
        (seqCtl s q (quad s q)).bit 9 = true → calInRange (calOf s q (sl * (8 / nl)) (sh * (8 / nh))) = true →
        (adc t n).gain = (((adc s n).gain : Int) +
          roundDiv ((calOf s q (sl * (8 / nl)) (sh * (8 / nh))).1 - (adc s n).gain) 8).toNat)) ∧
  (∀ (s : State) (q who : Nat) (chan : BitVec 8), awake s = true → q < quads s →
    (who = 1 ∧ 64 ≤ chan.toNat ∧ chan.toNat < 128 ∨ who = 2 ∧ 128 ≤ chan.toNat) →
    ∃ t, exec (.urgentRequest q who chan) s = .next t ∧
      (urgentFits s q = true → (quad t q).queue = insertUrg ⟨chan.toNat, who, now s⟩ (quad s q).queue ∧ Only [.quads] s t) ∧
      (urgentFits s q = false → t.quads = s.quads ∧
        (live t (qdO q Reg.QD_URGREFUSED)).toNat = Nat.min ((live s (qdO q Reg.QD_URGREFUSED)).toNat + 1) 0xFFFFFFFF)) ∧
  (∀ (s : State) (a : Access) (q : Nat) (chan : BitVec 8), awake s = true → reaches s a = true → q < quads s →
    (secure s a = true → urgentFits s q = true → ∃ t, exec (.qdUrgreqGo a q chan) s = .next t ∧
      (quad t q).queue = insertUrg ⟨chan.toNat, 3, now s⟩ (quad s q).queue ∧ Only [.quads, .ports] s t) ∧
    (secure s a = false → ∃ t, exec (.qdUrgreqGo a q chan) s = .next t ∧ t.quads = s.quads)) ∧
  (∀ (s : State) (q : Nat) (r : UrgReq) (rest : List UrgReq), awake s = true →
    ((quad s q).redo = none ∧ (quad s q).queue = r :: rest ∨ (quad s q).redo = some r ∧ (quad s q).queue = rest) →
    quadEdge s q = true → (∀ e u, (quad s q).urgent = some (e, u) → e ≤ now s) →
    ∃ t, exec (.urgentConversionStart q) s = .next t ∧ (quad t q).queue = rest ∧ (quad t q).redo = none ∧ (quad t q).cur = none ∧
      (quad t q).urgent = some (now s + 5 * ((urgProf s q (quad s q)).1 + (urgProf s q (quad s q)).2), r) ∧
      (∀ p, p ≠ q → quad t p = quad s p)) ∧
  (∀ (s : State) (q n : Nat) (c : Conv) (raws : List Nat), awake s = true → dueConv s q true = some c → quadConv s q = some n →
    raws.length = c.avg → c.who = some 3 → c.chan = 254 →
    ∃ t, exec (.urgentResult q raws) s = .next t ∧ (quad t q).due = (quad s q).due.filter (· != c) ∧
      (live t (qdO q Reg.QD_URGRES)).field 11 0 = adcCode s n c.avg (rawSum raws) ∧
      (live t (qdO q Reg.QD_URGDONE)).toNat = Nat.min ((live s (qdO q Reg.QD_URGDONE)).toNat + 1) 0xFFFFFFFF)) ∧
  ((∀ (s : State) (d q n t : Nat) (m : Frac), awake s = true → d < 4 → q < quads s → xchk s d = none →
    cfgF s (qdO q Reg.QD_RAILCHK) 11 8 ≤ Store.get (quad s q).xrun 0 d → cfgB s (qdO q Reg.QD_RAILCHK) 12 = true →
    (quad s q).xlast.find d = some (m, t) → n < 12 → idleSpare s n = true → (∀ k, k < n → idleSpare s k = false) →
    ∃ t', exec (.adcXchkArbitration d q) s = .next t' ∧ xchk t' d = some ⟨q, n, nextEdge s (now s) (adcPhase s n), m, t⟩ ∧
      t'.flt = s.flt ∧ (live t' (qdO q Reg.QD_XCHK)).field 15 0 = Nat.min ((live s (qdO q Reg.QD_XCHK)).field 15 0 + 1) 0xFFFF) ∧
  (∀ (s : State) (d q : Nat), awake s = true → d < 4 → q < quads s → xchk s d = none →
    cfgF s (qdO q Reg.QD_RAILCHK) 11 8 ≤ Store.get (quad s q).xrun 0 d → cfgB s (qdO q Reg.QD_RAILCHK) 12 = true →
    (∀ k, k < 12 → idleSpare s k = false) →
    ∃ t, exec (.adcXchkArbitration d q) s = .next t ∧ t.xchks = s.xchks ∧ Raised Src.ADC_XCHK_UNRESOLVED d s t ∧
      Store.get (quad t q).xrun 0 d = 0) ∧
  (∀ (s : State) (d : Nat) (x : Xchk) (raws : List Nat), awake s = true → xchk s d = some x → raws.length = 8 → x.from0 + 155 ≤ now s →
    ∃ t, exec (.adcXchkResult d raws) s = .next t ∧ xchk t d = none ∧ (∀ n, (adc t n).state = (adc s n).state) ∧
      Store.get (quad t x.quad).xrun 0 d = 0 ∧
      ((∃ n, Raised Src.ADC_XCHK_FAIL n s t) ∨ Raised Src.ADC_XCHK_UNRESOLVED d s t)) ∧
  (∀ (s : State) (n : Nat) (raw : BitVec 12), awake s = true → n < 12 → (adc s n).state = .rail → (adc s n).taking = none →
    stgUp s (adc s n).role = true → s.tb.running = true → s.tb.tick.toNat % 5 = 0 → 45 ≤ now s → (adc s n).keep ≤ now s - 45 →
    nextEdge s (stage s (adc s n).role).armedAt 0 + 40 ≤ now s - 45 →
    (∀ h, (stage s (adc s n).role).hist.head? = some h → h.1 ≠ now s - 45) →
    ∃ t, exec (.railConverterResult n raw) s = .next t ∧ (stage t (adc s n).role).rail = some (adcCode s n 1 raw.toNat) ∧
      (stage t (adc s n).role).hist = (now s - 45, adcCode s n 1 raw.toNat) :: (stage s (adc s n).role).hist.take 399 ∧
      (∀ e, e ≠ (adc s n).role → stage t e = stage s e) ∧ Only [.stages] s t))

/-- The thermal manager (R330, R332 to R342, R345): a start samples, and a change of mode clears the request and the
ceiling; a latch judges and commits, and a request that begins is told; after an overrun it changes no group; the grace
ends, after a latch due in its tick, in enforcement or in waiting for the next latch; a step lowers the ceiling to no less
than the least point; a diode is retired and returned. A group is in SHUTDOWN exactly as R334 says, and the factor of R342
never exceeds 1. -/
def Obligations.ThermalCommands : Prop :=
  (∀ s : State, awake s = true → atTick s thermP 0 = true → thermMayRun s = true →
    ∃ t, exec .thermalStart s = .next t ∧ (eng t clsTherm 0).start = some (now s) ∧ (eng t clsTherm 0).done = none ∧
      t.therm.run.isSome = true ∧ t.boot.thermOn = true ∧ t.therm.mode = cfgF s (thmO Reg.THM_CFG) 0 0 ∧
      (cfgF s (thmO Reg.THM_CFG) 0 0 ≠ s.therm.mode → t.therm.req = false ∧ t.therm.grace = none ∧ t.therm.enf = false ∧
        t.therm.ceil = none ∧ t.therm.factor = 32768)) ∧
  (∀ s : State, awake s = true → atTick s thermP 0 = true → thermMayRun s = false →
    ∃ t, exec .thermalStart s = .next t ∧ t.therm = s.therm ∧ t.eng = s.eng) ∧
  (∀ (s : State) (x : ThermIn), awake s = true → engDue s clsTherm 0 = true → (eng s clsTherm 0).done.isSome = true →
    s.therm.run = some x →
    ∃ t, exec .thermalLatch s = .next t ∧ t.therm.run = none ∧ t.therm.valid = true ∧ t.therm.gstate.length = 3 ∧
      t.therm.mode = s.therm.mode ∧
      (s.therm.mode = 0 → (∀ l, l ∈ t.therm.gstate → l < 2) → t.therm.req = false ∧ t.therm.enf = false ∧ t.therm.ceil = none) ∧
      (s.therm.mode = 0 → (∃ l, l ∈ t.therm.gstate ∧ 2 ≤ l) → t.therm.req = true) ∧
      (s.therm.mode = 0 → (∃ l, l ∈ t.therm.gstate ∧ 2 ≤ l) → s.therm.req = false →
        t.therm.grace = some (now s + 125000 * (inWord x Reg.THM_CFG).field 25 16) ∧
        ∃ g, RaisedAmong Src.THM_THROTTLE g s t)) ∧
  (∀ s : State, awake s = true → engDue s clsTherm 0 = true → (eng s clsTherm 0).done = none →
    ∃ t, exec .thermalLatch s = .next t ∧ t.therm = { s.therm with run := none } ∧
      RaisedAmong Src.ENG_OVERRUN (engKey clsTherm 0) s t) ∧
  (∀ (s : State) (t0 : Nat), awake s = true → s.therm.grace = some t0 → t0 ≤ now s →
    (engDue s clsTherm 0 = true → exec .thermalGraceExpiry s = .next s) ∧
    (∀ g, engDue s clsTherm 0 = false → s.therm.above = some g → ∃ t, exec .thermalGraceExpiry s = .next t ∧
      t.therm = { s.therm with enf := true, await := false, grace := none } ∧ Raised Src.THM_ENFORCE g s t ∧
      (live t (thmO Reg.THM_THROTTLES)).toNat = Nat.min ((live s (thmO Reg.THM_THROTTLES)).toNat + 1) 0xFFFFFFFF) ∧
    (engDue s clsTherm 0 = false → s.therm.above = none → ∃ t, exec .thermalGraceExpiry s = .next t ∧ t.therm = { s.therm with grace := none, await := true } ∧
      Only [.therm] s t)) ∧
  (∀ s : State, awake s = true → s.therm.enf = true → atTick s 640000 0 = true →
    ∃ t, exec .enforceStep s = .next t ∧
      t.therm.ceil = some (Nat.max s.therm.opMin (s.therm.ceil.getD (opIndex s) - 1)) ∧
      (live t (thmO Reg.THM_STEPS)).toNat = Nat.min ((live s (thmO Reg.THM_STEPS)).toNat + 1) 0xFFFFFFFF ∧ Only [.therm, .live] s t) ∧
  (∀ (s : State) (a : Access) (n : BitVec 7) (k : BitVec 3), awake s = true → reaches s a = true → secure s a = true →
    (n.toNat < 2 * sectors s → n.toNat ∉ s.therm.dFail → ∃ t, exec (.thmCmdRetire a n) s = .next t ∧ n.toNat ∈ t.therm.dFail ∧
      (∀ m, m ≠ n.toNat → (m ∈ t.therm.dFail ↔ m ∈ s.therm.dFail)) ∧
      Store.get t.sparing.dioIsol 0 n.toNat = Store.get s.sparing.dioIsol 0 n.toNat + 1 ∧ t.flt = s.flt) ∧
    (∃ t, exec (.thmCmdReturn a n) s = .next t ∧ n.toNat ∉ t.therm.dFail ∧ n.toNat / 2 ∉ t.therm.maxed ∧
      (∀ m, m ≠ n.toNat → (m ∈ t.therm.dFail ↔ m ∈ s.therm.dFail)) ∧ Only [.therm, .ports] s t) ∧
    (∃ t, exec (.thmCmdTreturn a k) s = .next t ∧ k.toNat ∉ t.therm.tFail ∧
      (∀ m, m ≠ k.toNat → (m ∈ t.therm.tFail ↔ m ∈ s.therm.tFail)) ∧ Only [.therm, .ports] s t)) ∧
  (∀ (x : ThermIn) (g old : Nat) (r : Int),
    (groupState x g old r = 3 ↔ (signed 16 ((inWord x (Reg.THM_SHDN g)).field 15 0) ≤ r ∨
      3 ≤ old ∧ signed 16 ((inWord x (Reg.THM_SHDN g)).field 15 0) - 16 * (inWord x (Reg.THM_SHDN g)).field 23 16 ≤ r)) ∧
    groupState x g old r ≤ 3) ∧
  (∀ (x : ThermIn) (gs : List (Nat × Option Int × Bool)), stvFactor x gs ≤ 32768)

/-- The cap loop (R349, R350, R353, R359 to R363): a start forms a point from its samples, and at a primary sends each
secondary its cap; a latch takes the point, and after an overrun the point stays; the point formed never exceeds the ceiling
of the period nor the present point by more than the most it may rise, and where a feasible one exists it passes every
check. A figure missing at a latch adds 0, and a cap sent is rounded by R11 (log entry 38, DEDUCED). -/
def Obligations.CapLoopCommands : Prop :=
  (∀ s : State, awake s = true → atTick s capP 0 = true →
    ∃ t, exec .capLoopStart s = .next t ∧ (eng t clsCap 0).start = some (now s) ∧ t.cap = { s.cap with run := some (capCompute s) } ∧
      live t (pwrO Reg.PWR_ICAP) = BitVec.ofNat 32 (satN 13 (baseCap s).round) ∧ Only [.eng, .live, .cap, .bridge] s t ∧
      (s.bridge.role ≠ 1 → t.bridge = s.bridge) ∧
      (∀ i, s.bridge.role = 1 → i ∈ peersOf s → t.bridge.capSent.find i =
        some (satN 13 (Frac.make ((cfgF s (pwrO Reg.PWR_CAP) 12 0 : Int) * ishare s i) 256).round))) ∧
  (∀ (s : State) (r : CapRes), awake s = true → engDue s clsCap 0 = true → (eng s clsCap 0).done.isSome = true → s.cap.run = some r →
    ∃ t, exec .capLoopLatch s = .next t ∧ t.cap.point = r.point ∧ t.cap.last = some r ∧ t.cap.run = none ∧
      (r.fixed = false → t.cap.breach = false) ∧ t.cap.acc = s.cap.acc) ∧
  (∀ s : State, awake s = true → engDue s clsCap 0 = true → (eng s clsCap 0).done = none →
    ∃ t, exec .capLoopLatch s = .next t ∧ t.cap = { s.cap with run := none } ∧ t.secs = s.secs ∧
      RaisedAmong Src.ENG_OVERRUN (engKey clsCap 0) s t) ∧
  (∀ s : State, (capCompute s).point ≤ (capCompute s).upper ∧
    (capCompute s).point ≤ opIndex s + cfgF s (pwrO Reg.PWR_CTL) 11 8 ∧
    (∀ c, s.therm.ceil = some c → (capCompute s).upper ≤ c) ∧
    (cfgB s (pwrO Reg.PWR_CTL) 0 = true → (capCompute s).unmet = false →
      fails s (measure s) (effCap s) (opIndex s) (capCompute s).point = (false, false)) ∧
    ((capCompute s).unmet = true → (capCompute s).point = 0))

/-- Energy and jobs (R365 to R373): at tick 1,200 the chip energy of the period joins the accumulator modulo 2^96, at tick
1,240 every slot that was active takes it, at a primary with what the secondaries sent; a joined secondary sends its own; a
start takes the lowest free slot, else the one that ended first, or is refused with `JOB_SLOTS_FULL` when there is none of
either; an end names the active slot of its job; a secondary refuses both; the final energy of an ended slot is read by
every master; a warm reset ends the active slots alone. How the microjoules are formed is log entry 38 (DEDUCED). -/
def Obligations.EnergyCommands : Prop :=
  (∀ s : State, awake s = true → atTick s estP 1200 = true → engDue s clsTally 0 = false →
    ∃ t, exec .energyAccumulate s = .next t ∧
      t.cap.inc = some ⟨(estNo s - 1) % 65536, (chipEnergy s).1, (chipEnergy s).2.1, (chipEnergy s).2.2⟩ ∧
      (bridged s = true → s.bridge.joined = true →
        t.bridge.enSent = some ((chipEnergy s).1 % 2 ^ 48, (estNo s - 1) % 65536)) ∧ t.cap.acc = (s.cap.acc + (chipEnergy s).1) % 2 ^ 96 ∧
      t.cap.subst = ((chipEnergy s).2.1 || (chipEnergy s).2.2) ∧
      (t.cap.subst = true → s.cap.subst = false → Raised Src.PWR_ENERGY_EST 0 s t) ∧ (t.cap.subst = false → t.flt = s.flt) ∧
      Only [.live, .flt, .cap, .bridge] s t) ∧
  (∀ (s : State) (j : Nat), awake s = true → atTick s estP 1240 = true → 1240 + estP ≤ now s → j < 16 →
    ∃ t, exec .jobEnergyAdd s = .next t ∧ (jobSlot t j).id = (jobSlot s j).id ∧
      (activeAt (jobSlot s j) (now s - 1240 - estP) = true →
        (jobSlot t j).acc =
          ((jobSlot s j).acc + (if s.bridge.role = 1 then (groupEnergy s).1 else (lastInc s).e)) % 2 ^ 96) ∧
      (activeAt (jobSlot s j) (now s - 1240 - estP) = false → (jobSlot t j).acc = (jobSlot s j).acc) ∧
      ((jobSlot s j).state = .ending → (jobSlot s j).stop ≤ now s - 1240 → (jobSlot t j).state = .ended) ∧
      ((jobSlot s j).state ≠ .ending → (jobSlot t j).state = (jobSlot s j).state)) ∧
  (∀ (s : State) (a : Access) (id : Word), awake s = true → reaches s a = true → s.bridge.role ≠ 2 →
    (∀ j, j < 16 → (jobSlot s j).id = id → (jobSlot s j).state = .free ∨ (jobSlot s j).state = .ended) →
    (∀ j, j < 16 → (jobSlot s j).state = .free → (∀ k, k < j → (jobSlot s k).state ≠ .free) →
      ∃ t, exec (.hostJobstart a id) s = .next t ∧
        jobSlot t j = { job0 with state := .active, id := id, seq := ((jobSlot s j).seq + 1) % 256, start := now s } ∧
        (∀ k, k ≠ j → jobSlot t k = jobSlot s k) ∧ Only [.jobs, .ports] s t) ∧
    (∀ j, j < 16 → (∀ k, k < 16 → (jobSlot s k).state ≠ .free) → (jobSlot s j).state = .ended →
      (∀ k, k < 16 → (jobSlot s k).state = .ended →
        (jobSlot s j).ended < (jobSlot s k).ended ∨ (jobSlot s j).ended = (jobSlot s k).ended ∧ j ≤ k) →
      ∃ t, exec (.hostJobstart a id) s = .next t ∧
        jobSlot t j = { job0 with state := .active, id := id, seq := ((jobSlot s j).seq + 1) % 256, start := now s } ∧
        (∀ k, k ≠ j → jobSlot t k = jobSlot s k) ∧ Only [.jobs, .ports] s t) ∧
    ((∀ j, j < 16 → (jobSlot s j).state ≠ .free ∧ (jobSlot s j).state ≠ .ended) →
      ∃ t, exec (.hostJobstart a id) s = .next t ∧ t.jobs = s.jobs ∧ Raised Src.JOB_SLOTS_FULL 0 s t)) ∧
  (∀ (s : State) (a : Access) (id : Word), awake s = true → reaches s a = true → s.bridge.role ≠ 2 →
    (∀ j, j < 16 → (jobSlot s j).id = id → (jobSlot s j).state = .active →
      (∀ k, k < j → (jobSlot s k).id ≠ id ∨ (jobSlot s k).state ≠ .active) →
      ∃ t, exec (.hostJobend a id) s = .next t ∧ jobSlot t j = { jobSlot s j with state := .ending, stop := now s } ∧
        (∀ k, k ≠ j → jobSlot t k = jobSlot s k) ∧ Only [.jobs, .ports] s t) ∧
    ((∀ j, j < 16 → (jobSlot s j).id ≠ id ∨ (jobSlot s j).state ≠ .active) →
      ∃ t, exec (.hostJobend a id) s = .next t ∧ Only [.live, .ports] s t ∧ (live t (hostO Reg.HOST_JOBERR)).field 23 16 =
        Nat.min ((live s (hostO Reg.HOST_JOBERR)).field 23 16 + 1) 255)) ∧
  (∀ (s : State) (a : Access) (id : Word), awake s = true → reaches s a = true → s.bridge.role = 2 →
    exec (.hostJobstart a id) s = exec (.hostJobend a id) s ∧ ∃ t, exec (.hostJobstart a id) s = .next t ∧ t.jobs = s.jobs) ∧
  (∀ (s : State) (j : Nat), j < 16 → jobSlot (jobsWarm s) j = if (jobSlot s j).state = .active then
    { jobSlot s j with state := .ended, part := true, ended := now s } else jobSlot s j) ∧
  (∀ (s : State) (a : Access) (f : Form) (r : Row) (k i off : Nat), awake s = true → reaches s a = true → wordForm32 f →
    off = canonical f.off.toNat → placed s.params off = some (r, k, .host, i) → r.acc = .ros → jobEnded s k = true →
    ∃ t, exec (.resultRegisterRead a f) s = .next t ∧
      (r.off = Reg.HOST_JOBE_LO 0 → responseOf t a = .ok ((microLo (jobSlot s k).acc).setWidth 128)) ∧
      (r.off = Reg.HOST_JOBE_HI 0 → responseOf t a = .ok ((microHi (jobSlot s k).acc).setWidth 128)))

/-- Blanket (R384 to R391): messages wait in the order of their stamps; an evaluation takes every message, forms the levels
of the next period and enters COVER from IDLE only; no level exceeds 15, and only eligible groups have one; the levels
formed are driven from the next tick 0. -/
def Obligations.BlanketCommands : Prop :=
  (∀ (s : State) (a : Access), awake s = true → reaches s a = true →
    (∃ t, exec (.blkMsgEnter a) s = .next t ∧ t.blk = { s.blk with msgs := insertMsg (true, now s) s.blk.msgs } ∧ Only [.blk, .ports] s t) ∧
    (∃ t, exec (.blkMsgExit a) s = .next t ∧ t.blk = { s.blk with msgs := insertMsg (false, now s) s.blk.msgs } ∧ Only [.blk, .ports] s t)) ∧
  (∀ s : State, awake s = true → atTick s estP 1200 = true → engDue s clsTally 0 = false →
    ∃ t, exec .blanketEvaluation s = .next t ∧ t.blk.msgs = [] ∧ t.blk.next.isSome = true ∧ t.blk.bus = s.blk.bus ∧
      (s.blk.state = .wait → t.blk.state ≠ .cover) ∧ (s.blk.state ≠ .wait → t.blk.state ≠ .wait) ∧
      (t.blk.state ≠ .cover → t.blk.next = some ([], [0, 0, 0, 0])) ∧ Only [.live, .flt, .blk] s t) ∧
  (∀ (p : BlkPow) (s : State) (g v : Nat), (g, v) ∈ (formLevels p s).1 → v ≤ 15 ∧ eligible s g = true) ∧
  (∀ s : State, awake s = true → atTick s estP 0 = true →
    (∀ lv qs, s.blk.next = some (lv, qs) → ∃ t, exec .blanketLevelDrive s = .next t ∧
      t.blk = { s.blk with drvOld := s.blk.drv, drv := lv, bus := lv, quad := qs, next := none } ∧ Only [.blk] s t) ∧
    (s.blk.next = none → ∃ t, exec .blanketLevelDrive s = .next t ∧
      t.blk = { s.blk with drvOld := s.blk.drv, drv := s.blk.bus } ∧ Only [.blk] s t))

/-- The seating plan's lookups and tables (R402 to R404, R411, R557, R558): a query at any of the ports is answered three
ticks later from the plan whose epoch it names, and by the current plan otherwise, as the end of the query's tick has it; a
secure write of a logical tile's entry changes its `PIN` alone; a non-secure one is counted, and one of bad form gets an
error. -/
def Obligations.PlanLookups : Prop :=
  (∀ (s : State) (port : Nat) (k : UnitKind) (i : BitVec 13) (e : BitVec 8), awake s = true → port < s.params.lookupPorts →
    (∀ l, l ∈ s.seat.pend → l.port = port → l.due ≠ now s + 3) →
    ∃ t, exec (.lookupQuery port k i e) s = .next t ∧
      t.seat = { s.seat with pend := s.seat.pend ++ [⟨port, now s + 3, k, i.toNat, e.toNat, none⟩] } ∧ Only [.seat] s t) ∧
  (∀ (s : State) (l : Lookup), l ∈ s.seat.pend → l.answer = none →
    { l with answer := some (lookup s l.kind l.index l.epoch) } ∈ (formAnswers s).seat.pend) ∧
  (∀ s : State, awake s = true → s.pending = [] →
    (∀ d, (stage (endTick (i3cData (i3cFetch s))) d).startDue = none) →
    ∃ t, step s = .next t ∧ t.seat.pend = (formAnswers (endTick (i3cData (i3cFetch s)))).seat.pend) ∧
  (∀ (s : State) (k : UnitKind) (i e : Nat),
    (s.plan.ready = true → e = s.plan.epoch → (lookup s k i e).phys = entryPhys (logEntry s k i) ∧
      (lookup s k i e).valid = entryValid (logEntry s k i) ∧ (lookup s k i e).epoch = s.plan.epoch) ∧
    (s.plan.ready = true → s.plan.kept = true → e = s.plan.prev → e ≠ s.plan.epoch →
      (lookup s k i e).phys = entryPhys (prevEntry s k i) ∧ (lookup s k i e).epoch = s.plan.prev) ∧
    (s.plan.ready = true → s.plan.kept = false → (lookup s k i e).phys = entryPhys (logEntry s k i) ∧
      (lookup s k i e).epoch = s.plan.epoch) ∧
    (s.plan.ready = false → (lookup s k i e).valid = false)) ∧
  (∀ (s : State) (port : Nat) (l : Lookup) (x : LookupAns), awake s = true →
    s.seat.pend.find? (fun x => x.port == port) = some l → l.due = now s → l.answer = some x →
    ∃ t, exec (.lookupAnswer port) s = .next t ∧ t.seat.answers.find port = some x ∧ l ∉ t.seat.pend ∧ Only [.seat] s t) ∧
  (∀ (s : State) (a : Access) (f : Form) (d : BitVec 64) (i : Nat), awake s = true → reaches s a = true → f.full = true → f.width = 32 →
    f.off.toNat = 0x400000 + 4 * i → logPresent s .tile i = true →
    (secure s a = true → ∃ t, exec (.seatEntryWrite a f d) s = .next t ∧
      logEntry t .tile i = (logEntry s .tile i).put 16 16 (Word.field (d.setWidth 32) 16 16) ∧
      (∀ j, j ≠ i → logEntry t .tile j = logEntry s .tile j) ∧ Only [.plan, .ports] s t) ∧
    (secure s a = false → exec (.seatEntryWrite a f d) s = .next (respond a (.ok 0) (countNonsec a s)))) ∧
  (∀ (s : State) (a : Access) (f : Form) (d : BitVec 64), awake s = true → reaches s a = true → inSeat f = true → f.full = false →
    exec (.seatEntryWrite a f d) s = .next (formError a s))

/-- A migration (R412 to R415): it begins with its destination prepared, asks for its copy when the destination is ready,
and takes its acknowledgement; a destination that is not ready in time, a copy that is not answered by the end of the tick
in which its time runs out and a failed one abandon it, with `SEAT_MIG_ABORT` and the destination a spare again. Its records
leave as secure writes of the chip and tile, ahead of what else is sent in the tick. That the copy's time ends with its
tick, so that an acknowledgement of that tick is in time, is log entries 11 and 40 (DEDUCED). Flips (R407 to R410, R414): at
an allowed tick 0 of an estimate period the prepared plan becomes current with the next epoch, the moved unit's entry names
its new place, the old place drains, and the plan before is kept; a revert makes that plan current again; grace ends, at the
end of its tick (log entry 11), with the old plan dropped and its place a spare, or retired. What a revert restores of an
entry, and that a due revert acts at such a tick 0 too, is log entry 40 (DEDUCED). -/
def Obligations.Migrations : Prop :=
  ((∀ (s : State) (i d : Nat), awake s = true → atTick s capP 0 = true → s.seat.mig.state = .idle → flipAllowed s = true →
    s.plan.ready = true → shutting s = false → (∀ sc, sc < sectors s → (sec s sc).mode ≠ .dark) →
    cfgB s (seatO Reg.SEAT_CTL) 0 = true → addrSet s = true → s.seat.cmds = [⟨false, .tile, i⟩] →
    entryValid (logEntry s .tile i) = true → role s .tile (entryPhys (logEntry s .tile i)) = 1 →
    roleLog s .tile (entryPhys (logEntry s .tile i)) = i →
    inRetry s .tile (entryPhys (logEntry s .tile i)) = false →
    findDest (modSeat (fun x => { x with cmds := [] }) s) ⟨2, .tile, i, entryPhys (logEntry s .tile i), false⟩ = some d →
    ∃ t, exec .placementDecision s = .next t ∧ t.seat.cmds = [] ∧ t.seat.mig.state = .power ∧ t.seat.mig.cause = 2 ∧
      t.seat.mig.logical = i ∧ t.seat.mig.src = entryPhys (logEntry s .tile i) ∧ t.seat.mig.dst = d ∧
      t.seat.mig.seq = (s.seat.mig.seq + 1) % 256 ∧ role t .tile d = 5 ∧ (∀ j, j ≠ d → role t .tile j = role s .tile j) ∧
      t.plan.tiles = s.plan.tiles ∧ t.plan.epoch = s.plan.epoch) ∧
  (∀ s : State, awake s = true → atTick s capP 0 = true → s.seat.mig.state = .idle → flipAllowed s = true →
    s.plan.ready = true → shutting s = false → (∀ sc, sc < sectors s → (sec s sc).mode ≠ .dark) →
    cfgB s (seatO Reg.SEAT_CTL) 0 = false → s.seat.cmds = [] →
    ∃ t, exec .placementDecision s = .next t ∧ t.seat.mig = s.seat.mig ∧ t.plan = s.plan) ∧
  (∀ s : State, awake s = true → s.seat.mig.state = .power → atTick s controlP 0 = true → destReady s = true → s.seat.recNow = none →
    ∃ t, exec .migrationDestReady s = .next t ∧ t.seat.mig = { s.seat.mig with state := .copy, from0 := now s } ∧
      (∃ w, t.seat.recNow = some w ∧ t.ports.out = w :: s.ports.out ∧ w = migRecord (1 + kindNat s.seat.mig.kind) s ∧
        w.secure = true ∧ w.chip = s.params.chip ∧ w.tile = s.params.fjTile ∧
        w.shared = !cfgB s (hostO Reg.HOST_INITCFG) 1 ∧ w.words.length = 4 ∧
        w.words[1]? = some (BitVec.ofNat 32 s.seat.mig.logical)) ∧ Only [.seat, .ports] s t) ∧
  (∀ s : State, awake s = true → s.seat.mig.unmap = false → s.seat.mig.dst ≠ s.seat.mig.src →
    (s.seat.mig.state = .power → s.seat.mig.from0 + usTicks (10 * cfgF s (seatO Reg.SEAT_MIGCFG) 23 16) ≤ now s →
      (atTick s controlP 0 = false ∨ destReady s = false) →
      ∃ t, exec .migrationPowerTimeout s = .next t ∧ t.seat.mig.state = .idle ∧ role t s.seat.mig.kind s.seat.mig.dst = 2 ∧
        t.plan.epoch = s.plan.epoch ∧ RaisedAmong Src.SEAT_MIG_ABORT (migDetail s.seat.mig.kind s.seat.mig.logical) s t) ∧
    (s.seat.mig.state = .copy → s.seat.mig.from0 + usTicks (10 * cfgF s (seatO Reg.SEAT_MIGCFG) 11 0) ≤ now s →
      exec .migrationCopyTimeout s = .next (expire .copy s) ∧ (timeOver .copy s).seat.mig.state = .idle ∧
        role (timeOver .copy s) s.seat.mig.kind s.seat.mig.dst = 2 ∧ (timeOver .copy s).plan.epoch = s.plan.epoch ∧
        RaisedAmong Src.SEAT_MIG_ABORT (migDetail s.seat.mig.kind s.seat.mig.logical) s (timeOver .copy s))) ∧
  (∀ (s : State) (a : Access) (seq : BitVec 8) (st : BitVec 2), awake s = true → reaches s a = true →
    (s.seat.mig.state = .copy → s.seat.mig.seq = seq.toNat → st.toNat = 1 → ∃ t, exec (.seatMigack a seq st) s = .next t ∧
      t.seat.mig = { s.seat.mig with state := .flip, from0 := now s } ∧ Only [.seat, .ports] s t) ∧
    (s.seat.mig.state = .copy → s.seat.mig.seq = seq.toNat → st.toNat = 2 → ∃ t, exec (.seatMigack a seq st) s = .next t ∧
      t.seat.mig.state = .idle ∧ t.plan.epoch = s.plan.epoch ∧
      RaisedAmong Src.SEAT_MIG_ABORT (migDetail s.seat.mig.kind s.seat.mig.logical) s t) ∧
    (s.seat.mig.state = .copy → s.seat.mig.seq ≠ seq.toNat → ∃ t, exec (.seatMigack a seq st) s = .next t ∧
      Only [.live, .ports] s t ∧ (live t (seatO Reg.SEAT_MIGERR)).field 15 0 =
        Nat.min ((live s (seatO Reg.SEAT_MIGERR)).field 15 0 + 1) 0xFFFF) ∧
    (s.seat.mig.state ≠ .copy → ∃ t, exec (.seatMigack a seq st) s = .next t ∧
      Only [.live, .ports] s t ∧ (live t (seatO Reg.SEAT_MIGERR)).field 31 16 =
        Nat.min ((live s (seatO Reg.SEAT_MIGERR)).field 31 16 + 1) 0xFFFF)) ∧
  (∀ (s : State), awake s = true → s.seat.recNow.isSome = true → ∀ ok, ∃ t, exec (.migRecordResponse ok) s = .next t ∧
    t.seat = { s.seat with recNow := s.seat.recs.head?, recs := s.seat.recs.drop 1 } ∧
    (∀ w, s.seat.recs.head? = some w → t.ports.out = w :: s.ports.out) ∧ (s.seat.recs = [] → t.ports = s.ports) ∧
    Only [.seat, .ports] s t)) ∧
  ((∀ s : State, awake s = true → atTick s estP 0 = true → s.seat.mig.state = .flip → flipAllowed s = true →
    s.seat.mig.unmap = false → s.seat.mig.src ≠ s.seat.mig.dst → s.seat.mig.dst < 8192 →
    ∃ t, exec .seatFlip s = .next t ∧ t.plan.epoch = (s.plan.epoch + 1) % 256 ∧ t.plan.prev = s.plan.epoch ∧ t.plan.kept = true ∧
      t.plan.reverted = false ∧ t.plan.prevT = s.plan.tiles ∧ t.plan.prevB = s.plan.banks ∧
      logEntry t s.seat.mig.kind s.seat.mig.logical =
        (logEntry s s.seat.mig.kind s.seat.mig.logical).put 12 0 s.seat.mig.dst ∧
      (∀ i, i ≠ s.seat.mig.logical → logEntry t s.seat.mig.kind i = logEntry s s.seat.mig.kind i) ∧
      role t s.seat.mig.kind s.seat.mig.src = 3 ∧ role t s.seat.mig.kind s.seat.mig.dst = 1 ∧
      t.seat.mig.state = .grace ∧ t.seat.lastMov = some (estNo s)) ∧
  (∀ s : State, awake s = true → atTick s estP 0 = true → s.seat.mig.state = .grace → s.seat.mig.revert = true →
    s.seat.mig.unmap = false → s.seat.mig.src ≠ s.seat.mig.dst →
    ∃ t, exec .seatFlip s = .next t ∧ t.plan.epoch = s.plan.prev ∧ t.plan.prev = s.plan.epoch ∧ t.plan.kept = false ∧
      t.plan.reverted = true ∧ role t s.seat.mig.kind s.seat.mig.src = 1 ∧ role t s.seat.mig.kind s.seat.mig.dst = 2 ∧
      t.seat.mig.state = .idle ∧ RaisedAmong Src.SEAT_MIG_ABORT (migDetail s.seat.mig.kind s.seat.mig.logical) s t) ∧
  (∀ s : State, awake s = true → atTick s estP 0 = true → s.seat.mig.state = .grace → s.seat.mig.revert = false →
    flipAllowed s = true →
    exec .seatGraceEnd s = .next (expire .grace s) ∧ (timeOver .grace s).seat.mig.state = .idle ∧ (timeOver .grace s).plan.kept = false ∧
      (timeOver .grace s).plan.epoch = s.plan.epoch ∧
      role (timeOver .grace s) s.seat.mig.kind s.seat.mig.src = (if s.seat.mig.retire then 4 else 2) ∧
      (∀ i, i ≠ s.seat.mig.src → role (timeOver .grace s) s.seat.mig.kind i = role s s.seat.mig.kind i) ∧
      (timeOver .grace s).plan.tiles = s.plan.tiles ∧ (timeOver .grace s).plan.banks = s.plan.banks))

/-- The commands of the plan's page (R419, R422, R427): a secure move waits for a decision, a spare is retired at once and a
serving unit by a migration, a retired unit returns, a scrub holds every group that only its owner uses, an abort ends the
migration; a wake and an idle timer begin and end a group's time awake, the timer at the end of its tick, where no wake of
that tick goes before (log entry 11). -/
def Obligations.SeatCommands : Prop :=
  (∀ (s : State) (a : Access) (k : UnitKind) (i : BitVec 13), awake s = true → reaches s a = true → secure s a = true →
    (∃ t, exec (.seatCmdMove a k i) s = .next t ∧ t.seat = { s.seat with cmds := s.seat.cmds ++ [⟨false, k, i.toNat⟩] } ∧
      Only [.seat, .ports] s t) ∧
    (role s k i.toNat = 2 → ∃ t, exec (.seatCmdRetire a k i) s = .next t ∧ role t k i.toNat = 4 ∧
      (∀ j, j ≠ i.toNat → role t k j = role s k j) ∧ Only [.plan, .ports] s t) ∧
    (role s k i.toNat = 1 → ∃ t, exec (.seatCmdRetire a k i) s = .next t ∧
      t.seat = { s.seat with cmds := s.seat.cmds ++ [⟨true, k, i.toNat⟩] } ∧ Only [.seat, .ports] s t) ∧
    (role s k i.toNat = 4 → ∃ t, exec (.seatCmdReturn a k i) s = .next t ∧ role t k i.toNat = 2 ∧
      (∀ j, j ≠ i.toNat → role t k j = role s k j) ∧ Only [.plan, .ports] s t) ∧
    (role s k i.toNat ≠ 4 → ∃ t, exec (.seatCmdReturn a k i) s = .next t ∧ Only [.live, .ports] s t ∧
      (live t (seatO PAGE_STAT)).field 15 8 = Nat.min ((live s (seatO PAGE_STAT)).field 15 8 + 1) 255)) ∧
  (∀ (s : State) (a : Access) (tag : BitVec 8), awake s = true → reaches s a = true → secure s a = true →
    (s.seat.holds = [] → ∃ t, exec (.seatCmdScrub a tag) s = .next t ∧ t.seat.tag = tag.toNat ∧
      t.seat.scrubN = (scrubGroups s tag.toNat).length ∧ t.seat.scrubOk = (scrubGroups s tag.toNat).isEmpty ∧
      (∀ g, g ∈ scrubGroups s tag.toNat → t.seat.holds.find g = some (now s + usTicks (cfgF s (seatO Reg.SEAT_SCRUBT) 9 0)))) ∧
    (s.seat.holds ≠ [] → ∃ t, exec (.seatCmdScrub a tag) s = .next t ∧ t.seat = s.seat ∧ t.plan = s.plan)) ∧
  (∀ (s : State) (a : Access), awake s = true → reaches s a = true → secure s a = true →
    ((s.seat.mig.state = .power ∨ s.seat.mig.state = .copy ∨ s.seat.mig.state = .flip) →
      ∃ t, exec (.seatCmdAbort a) s = .next t ∧ t.seat.mig.state = .idle ∧ t.plan.epoch = s.plan.epoch ∧
        RaisedAmong Src.SEAT_MIG_ABORT (migDetail s.seat.mig.kind s.seat.mig.logical) s t) ∧
    ((s.seat.mig.state = .idle ∨ s.seat.mig.state = .grace) → exec (.seatCmdAbort a) s = .next (respond a (.ok 0) s))) ∧
  (∀ (s : State) (a : Access), awake s = true → reaches s a = true → secure s a = false →
    exec (.seatCmdAbort a) s = .next (respond a (.ok 0) (countNonsec a s))) ∧
  (∀ s : State, awake s = true → s.seat.holds.any (fun h => decide (h.2 ≤ now s)) = true →
    ∃ t, exec .scrubHoldEnd s = .next t ∧ t.seat.holds = s.seat.holds.filter (fun h => decide (now s < h.2)) ∧
      (t.seat.holds = [] → t.seat.scrubOk = true ∧ RaisedAmong Src.SEAT_SCRUB_DONE s.seat.tag s t)) ∧
  (∀ (s : State) (a : Access) (g : BitVec 7), awake s = true → reaches s a = true →
    (g.toNat < groupCount s.params → ∃ t, exec (.seatWake a g) s = .next t ∧ t.seat.awake.find g.toNat = some (now s) ∧
      ∀ h, h ≠ g.toNat → t.seat.awake.find h = s.seat.awake.find h) ∧
    (groupCount s.params ≤ g.toNat → exec (.seatWake a g) s = .next (respond a (.ok 0) s))) ∧
  (∀ (s : State) (g t0 : Nat), awake s = true → s.seat.awake.find g = some t0 →
    t0 + usTicks (cfgF s (seatO Reg.SEAT_IDLE) 11 0) ≤ now s →
    exec (.bankGroupIdle g) s = .next (expire (.idle g) s) ∧ (timeOver (.idle g) s).seat.awake.find g = none ∧
      ∀ h, h ≠ g → (timeOver (.idle g) s).seat.awake.find h = s.seat.awake.find h) ∧
  (∀ (s : State) (g t0 : Nat), s.seat.awake.find g = some t0 →
    now s < t0 + usTicks (cfgF s (seatO Reg.SEAT_IDLE) 11 0) → timeOver (.idle g) s = s)

/-- Powered time, rotations, retests and self-tests (R433, R437 to R445): a powered second is counted once; a wear save that
is due is marked made; one due rotation a capping period names its spare and its most stressed cell; a retest passes its
first two steps by the readback and ends with the failing one, which isolates a re-trimmed cell; a self-test runs on an idle
engine only, one at a time (that it is refused while another runs is log entry 45, DEDUCED), and a pass clears the engine's
mark. -/
def Obligations.SparingCommands : Prop :=
  (∀ s : State, awake s = true → s.boot.lockAt.isSome = true → s.sparing.secTicks + secondT ≤ now s →
    ∃ t, exec .poweredSecond s = .next t ∧ t.sparing = { s.sparing with secTicks := s.sparing.secTicks + secondT } ∧
      t.cal = { s.cal with powered := (s.cal.powered + 1) % 2 ^ 64 } ∧ Only [.sparing, .cal] s t) ∧
  (∀ s : State, awake s = true → pastLoad s = true →
    s.cal.powered % (3600 * cfgF s (calO Reg.CAL_WEARSAVE) 7 0) = 0 → s.cal.saved < s.cal.powered →
    ∃ t, exec .wearSaveDue s = .next t ∧ t.sparing.wearOwed = false ∧ t.cal.saved = s.cal.powered) ∧
  (∀ (s : State) (g sp out : Nat), awake s = true → atTick s capP 0 = true → nextRotation s = some g →
    (standbys s g).head? = some sp → mostStressed s g = some out →
    (s.sparing.rotTick ≠ some (now s) → ∃ t, exec .rotationStart s = .next t ∧
      takeFor (clu t g) sp = some ⟨sp, out, now s, .rotation⟩ ∧ t.cells = s.cells ∧ t.sparing.rotTick = some (now s) ∧
      Only [.clus, .rings, .sparing] s t) ∧
    (s.sparing.rotTick = some (now s) → exec .rotationStart s = .next s)) ∧
  (∀ (s : State) (g : Nat) (r : Retest), awake s = true → g < 4 * sectors s → (clu s g).retest = some r → r.tap = false →
    (r.step = 1 → r.from0 + 8 ≤ now s → r.bad = false → ∃ t, exec (.retestStepDone g true) s = .next t ∧
      (clu t g).retest = some { r with step := 2, from0 := now s } ∧ Only [.clus] s t) ∧
    (∀ ok, r.step = 1 → r.from0 + 8 ≤ now s → (ok = false ∨ r.bad = true) → r.retrim = true → (cell s r.cell).state = .retest →
      ∃ t, exec (.retestStepDone g ok) s = .next t ∧ (cell t r.cell).state = .isolated ∧ (cell t r.cell).cause = 7 ∧
        RaisedAmong Src.CELL_RETRIM_FAIL r.cell s t) ∧
    (∀ ok, r.step = 1 → r.from0 + 8 ≤ now s → (ok = false ∨ r.bad = true) → r.retrim = false →
      ∃ t, exec (.retestStepDone g ok) s = .next t ∧
      (clu t g).retest = none ∧ cell t r.cell = { cell s r.cell with legs := 0 } ∧ (∀ m, m ≠ r.cell → cell t m = cell s m) ∧
      live t (cluO (r.cell / 64) Reg.CLU_RETESTRES) = BitVec.ofNat 32 (r.cell % 64 + 0x100 + 0x400)) ∧
    (r.step = 2 → r.from0 + 8 ≤ now s → overCurrent s r.cell = false → ∃ t, exec (.retestStepDone g true) s = .next t ∧
      (clu t g).retest = some { r with step := 3, from0 := now s } ∧ cell t r.cell = { cell s r.cell with legs := 64 } ∧
      (∀ m, m ≠ r.cell → cell t m = cell s m)) ∧
    (r.step = 3 → r.from0 + 1200 ≤ now s → urgentFits s (cluQuad g) = true → ∀ ok, ∃ t, exec (.retestStepDone g ok) s = .next t ∧
      (clu t g).retest = some { r with tap := true } ∧
      (quad t (cluQuad g)).queue = insertUrg ⟨g % 64, 4, now s⟩ (quad s (cluQuad g)).queue ∧ t.cells = s.cells)) ∧
  (∀ (s : State) (a : Access) (i : BitVec 6), awake s = true → reaches s a = true → secure s a = true →
    (s.sparing.selfTest = none → i.toNat < sectors s → ownServes s i.toNat = false →
      ∃ t, exec (.calCmdSelftestSector a i) s = .next t ∧ t.sparing = { s.sparing with selfTest := some ⟨i.toNat, false, now s⟩ } ∧
        Only [.sparing, .live, .ports] s t) ∧
    (s.sparing.selfTest = none → i.toNat < quads s → spareServes s i.toNat = false →
      ∃ t, exec (.calCmdSelftestSpare a i) s = .next t ∧ t.sparing = { s.sparing with selfTest := some ⟨i.toNat, true, now s⟩ } ∧
        Only [.sparing, .live, .ports] s t) ∧
    ((s.sparing.selfTest.isSome = true ∨ ownServes s i.toNat = true) → ∃ t, exec (.calCmdSelftestSector a i) s = .next t ∧
      live t (calO Reg.CAL_CMDSTAT) = BitVec.ofNat 32 (4 + 0x100 * i.toNat) ∧ Only [.live, .ports] s t)) ∧
  (∀ (s : State) (x : SelfTest), awake s = true → s.sparing.selfTest = some x → x.from0 + 1024 * controlP ≤ now s →
    (∃ t, exec (.selfTestDone true) s = .next t ∧ t.sparing.selfTest = none ∧
      (x.spare = false → (sec t x.index).ownFailed = false ∧ ∀ n, n ≠ x.index → sec t n = sec s n) ∧
      (x.spare = true → x.index ∉ t.sparing.spareFail ∧ t.secs = s.secs)) ∧
    (∃ t, exec (.selfTestDone false) s = .next t ∧ t.sparing = { s.sparing with selfTest := none } ∧ t.secs = s.secs))

/-- Presentation and draws (R453 to R467): a requester presents one transaction at a time; a cycle takes the fault
isolator's transaction, the lock owner's, or the oldest grant's; an open lock suppresses the draw; a draw grants an eligible
requester only; its latch grants the winner, starts the losers' backoff and steps the LFSR, and after an overrun grants
nothing. The order in which a requester's next transaction is presented is log entry 41 (DEDUCED). Completion, locks and the
debug port (R463 to R468, R577): outside a lock a write reaches its stop when its cycle ends; within one it is staged until
the owner's transaction with `CLOSE` and without `OPEN`; a reset or a fault of the owner, a 64th transaction and the lock
limit break the lock, with `ARB_LOCK_BROKEN`; at the limit the owner's transaction of the new cycle runs with its write
discarded, but after a `CLOSE` that came too late the cycle is another's; the debug port's command is presented or refused,
and its completion carries the data read, zero from a stop without a unit. -/
def Obligations.RingCommands : Prop :=
  ((∀ (s : State) (q req stop reg : Nat) (w : Bool) (d : Word) (opn cls : Bool), awake s = true → q < quads s → stop < 128 → reg < 256 →
    (req < 7 → (∀ x, x ∈ (ring s q).pres → x.req ≠ req) → ∃ t, exec (.ringPresent q req stop reg w d opn cls) s = .next t ∧
      ring t q = { ring s q with pres := (ring s q).pres ++ [⟨req, stop, reg, w, d, opn, cls, now s, .raw⟩] } ∧
      (∀ p, p ≠ q → ring t p = ring s p) ∧ Only [.rings] s t) ∧
    (req = 7 → ∃ t, exec (.ringPresent q req stop reg w d opn cls) s = .next t ∧
      ring t q = { ring s q with iso := (ring s q).iso.filter (fun y => decide (y.stamp ≤ now s)) ++
        ⟨req, stop, reg, w, d, opn, cls, now s, .raw⟩ :: (ring s q).iso.filter (fun y => decide (now s < y.stamp)) } ∧
      (∀ p, p ≠ q → ring t p = ring s p) ∧ Only [.rings] s t)) ∧
  (∀ (s : State) (q : Nat), awake s = true → q < quads s → ringAt s 0 = true → (eng s clsArb q).start ≠ some (now s) →
    (ring s q).lock = none → (ring s q).current = none →
    (∀ x rest, (ring s q).iso = x :: rest → x.stamp + 8 ≤ now s → ∃ t, exec (.arbiterDrawStart q) s = .next t ∧
      (ring t q).current = some x ∧ (ring t q).iso = rest ∧ (eng t clsArb q).start = some (now s)) ∧
    (isoTakes s q = false → (ring s q).grants = [] → ∃ t, exec (.arbiterDrawStart q) s = .next t ∧
      (ring t q).current = none ∧ (ring t q).draw = some (makeDraw s q) ∧ (eng t clsArb q).start = some (now s)) ∧
    (∀ r rest x, isoTakes s q = false → (ring s q).grants = r :: rest → presented' s q r = some x →
      ∃ t, exec (.arbiterDrawStart q) s = .next t ∧ (ring t q).current = some x ∧ (ring t q).grants = rest)) ∧
  (∀ (s : State) (q : Nat) (l : Lock) (x : Txn), awake s = true → q < quads s → ringAt s 0 = true →
    (eng s clsArb q).start ≠ some (now s) → (ring s q).lock = some l → lockExpired s q = false → (ring s q).current = none →
    isoTakes s q = false → presented' s q l.owner = some x →
    ∃ t, exec (.arbiterDrawStart q) s = .next t ∧ (ring t q).current = some x ∧
      (ring t q).lock = some { l with count := l.count + 1 } ∧ (ring t q).grants = (ring s q).grants ∧
      (closes l x = false → (ring t q).draw = none) ∧ (closes l x = true → (ring t q).draw.isSome = true)) ∧
  (∀ (s : State) (q r : Nat), (makeDraw s q).won = some r → eligibleReq s q r = true ∧ r < 7 ∧ r ∉ (makeDraw s q).losers) ∧
  (∀ (s : State) (q : Nat) (d : Draw), awake s = true → q < quads s → engDue s clsArb q = true → (ring s q).draw = some d →
    ((eng s clsArb q).done.isSome = true → d.void = false → ∀ r, d.won = some r → ∃ t, exec (.arbiterDrawLatch q) s = .next t ∧
      (ring t q).grants = (ring s q).grants ++ [r] ∧ (ring t q).lfsr = d.lfsr ∧ (ring t q).draw = none ∧
      Store.get (ring t q).loss 0 r = 0 ∧ (d.losers.Nodup → ∀ k, k ∈ d.losers → Store.get (ring t q).wait 0 k =
        d.cycle + d.base * 2 ^ Nat.min (Store.get (ring s q).loss 0 k) 10)) ∧
    ((eng s clsArb q).done.isSome = true → (d.void = true ∨ d.won = none) → ∃ t, exec (.arbiterDrawLatch q) s = .next t ∧
      (ring t q).grants = (ring s q).grants ∧ (ring t q).lfsr = d.lfsr ∧ (ring t q).draw = none) ∧
    ((eng s clsArb q).done = none → ∃ t, exec (.arbiterDrawLatch q) s = .next t ∧ ring t q = { ring s q with draw := none } ∧
      RaisedAmong Src.ENG_OVERRUN (engKey clsArb q) s t))) ∧
  ((∀ (s : State) (q : Nat) (x : Txn) (rd : Word), awake s = true → q < quads s → ringAt s 7 = true → (ring s q).current = some x →
    ((ring s q).lock = none → x.job = .raw → ∃ t, exec (.ringTransactionComplete q rd) s = .next t ∧
      ring t q = { ring s q with current := none, voidWr := false } ∧ Only [.rings] s t) ∧
    ((ring s q).lock = none → (ring s q).voidWr = false → x.write = true → ∀ n v, x.job = .trim n v →
      ∃ t, exec (.ringTransactionComplete q rd) s = .next t ∧ (ring t q).current = none ∧
        t.regs.trims = s.regs.trims.filter (fun k => k.cell != n) ++ [⟨n, v⟩]) ∧
    ((ring s q).lock = none → x.job = .debug → x.write = false → ∃ t, exec (.ringTransactionComplete q rd) s = .next t ∧
      (ring t q).current = none ∧ live t (dbgO Reg.DBG_RDATA) = (if stopPresent x.stop then rd else 0) ∧
      t.dbg = { s.dbg with busy := false, done := true, seq := (s.dbg.seq + 1) % 256 }) ∧
    (∀ l, (ring s q).lock = some l → l.owner = x.req → l.reset = false → faultComing s l.owner l.from0 = false → x.job = .raw →
      closes l x = false → l.count < 64 →
      ∃ t, exec (.ringTransactionComplete q rd) s = .next t ∧
        (ring t q).lock = some { l with staged := if x.write && !(ring s q).voidWr then l.staged ++ [x] else l.staged } ∧
        Only [.rings] s t) ∧
    (∀ l, (ring s q).lock = some l → l.owner = x.req → l.reset = false → faultComing s l.owner l.from0 = false → x.job = .raw →
      closes l x = true → now s ≤ l.from0 + lockLimit s →
      ((∀ y, y ∈ l.staged → y.job = .raw) →
        ∃ t, exec (.ringTransactionComplete q rd) s = .next t ∧ (ring t q).lock = none ∧ (ring t q).broken = (ring s q).broken ∧
          Only [.rings] s t) ∧
      (∀ y n v, l.staged = [y] → y.job = .trim n v →
        ∃ t, exec (.ringTransactionComplete q rd) s = .next t ∧ (ring t q).lock = none ∧
          t.regs.trims = s.regs.trims.filter (fun k => k.cell != n) ++ [⟨n, v⟩])) ∧
    (∀ l, (ring s q).lock = some l → l.owner = x.req → l.reset = false → faultComing s l.owner l.from0 = false → x.job = .raw →
      closes l x = true → l.from0 + lockLimit s < now s →
      ∃ t, exec (.ringTransactionComplete q rd) s = .next t ∧ Only [.rings] s t ∧
        (ring t q).lock = some { l with staged := if x.write && !(ring s q).voidWr then l.staged ++ [x] else l.staged,
                                        closed := true }) ∧
    (∀ l, (ring s q).lock = some l → l.owner = x.req → x.job = .raw →
      (l.reset = true ∨ faultComing s l.owner l.from0 = true ∨ closes l x = false ∧ 64 ≤ l.count) →
      ∃ t, exec (.ringTransactionComplete q rd) s = .next t ∧ (ring t q).lock = none ∧ RaisedAmong Src.ARB_LOCK_BROKEN q s t)) ∧
  (∀ (s : State) (q : Nat), awake s = true → q < quads s → ringAt s 0 = true → lockExpired s q = true → (ring s q).current = none →
    ∃ t, exec (.lockLimitExpiry q) s = .next t ∧ (ring t q).lock = none ∧
      (ring t q).broken = Nat.min ((ring s q).broken + 1) 65535 ∧ RaisedAmong Src.ARB_LOCK_BROKEN q s t ∧
      (∀ l x, (ring s q).lock = some l → l.closed = false → isoTakes s q = false → presented' s q l.owner = some x →
        (ring t q).current = some x ∧ (ring t q).voidWr = true) ∧
      (∀ l, (ring s q).lock = some l → l.closed = true → (ring t q).current = none)) ∧
  (∀ (s : State) (a : Access) (c : BitVec 20), awake s = true → reaches s a = true → secure s a = true →
    (s.dbg.busy = false → cfgB s (dbgO Reg.DBG_CTL) 0 = true → Word.field (c.setWidth 32) 1 0 < quads s →
      ∃ t, exec (.dbgCmd a c) s = .next t ∧
        t.dbg = { s.dbg with busy := true, done := false, refused := false, withdrawn := false } ∧ Only [.dbg, .rings, .ports] s t) ∧
    ((s.dbg.busy = true ∨ cfgB s (dbgO Reg.DBG_CTL) 0 = false ∨ quads s ≤ Word.field (c.setWidth 32) 1 0) →
      ∃ t, exec (.dbgCmd a c) s = .next t ∧ t.dbg = { s.dbg with refused := true } ∧ t.rings = s.rings ∧
        (live t (dbgO PAGE_STAT)).field 15 8 = Nat.min ((live s (dbgO PAGE_STAT)).field 15 8 + 1) 255)) ∧
  (∀ (s : State) (q : Nat), awake s = true → q < quads s → ∃ t, exec .testLogicReset s = .next t ∧
    (ring t q).pres = (ring s q).pres.filter (fun x => x.req != 6) ∧ (ring t q).current = (ring s q).current ∧
    (∀ l, (ring s q).lock = some l → l.owner = 6 → (ring t q).lock = some { l with reset := true }) ∧
    (∀ l, (ring s q).lock = some l → l.owner ≠ 6 → (ring t q).lock = some l) ∧ Only [.dbg, .rings] s t))

/-- The fault manager (R476 to R492): a completed registration acts at its latch by its severity: none at 0, recorded at 1
with the first source kept, an alert record and an in-band interrupt from 2 on, its unit isolated or replaced at 3 where it
can be, its domain off at 4, or every domain where it names none, and every domain off at 5; an uncompleted one waits for
the next latch (log entry 42, DEDUCED, for its place in an overrun). An injection registers as its source does. Records and
interrupts leave one by one; a period that is over begins recovery at the end of its tick (R45, log entry 11); `FLT_CMD`
rearms, which clears `VALID`, the stamp and the overflow alone, and clears, with a START in the next tick. -/
def Obligations.FaultCommands : Prop :=
  (∀ (s : State) (r : Reg), awake s = true → s.flt.regq = [r] → r.due ≤ now s →
    (r.done = true → sevOf s r.src = 0 → ∃ t, exec .faultLatch s = .next t ∧ t.flt = { s.flt with regq := [] } ∧ Only [.eng, .flt] s t) ∧
    (r.done = true → sevOf s r.src = 1 → r.src < 128 → ∃ t, exec .faultLatch s = .next t ∧
      t.flt = { s.flt with regq := [], present := (r.src, Nat.max 1 (((s.flt.present.find? (fun p => p.1 == r.src)).map (·.2)).getD 0)) ::
        s.flt.present.filter (fun p => p.1 != r.src) } ∧
      (live t (fltO (Reg.FLT_PEND (r.src / 32)))).bit (r.src % 32) = true ∧
      (live t (fltO Reg.FLT_RAISED)).toNat = Nat.min ((live s (fltO Reg.FLT_RAISED)).toNat + 1) 0xFFFFFFFF ∧
      (firstValid s = false → live t (fltO Reg.FLT_FIRST) = BitVec.ofNat 32 (r.src + 0x100 + 0x8000 + 0x10000 * r.det) ∧
        live t (fltO Reg.FLT_FIRST_TLO) = r.stamp.setWidth 32) ∧
      (firstValid s = true → live t (fltO Reg.FLT_FIRST) = live s (fltO Reg.FLT_FIRST) ∧
        (live t (fltO Reg.FLT_OVERFLOW)).bit 0 = true) ∧ Only [.eng, .flt, .live] s t) ∧
    (r.done = true → sevOf s r.src = 2 → r.src < 128 → r.src ≠ Src.FLT_ALERT_WRITE →
      let seq := ((live s (hostO Reg.HOST_ALERTSEQ)).field 15 0 + 1) % 65536
      ∃ t, exec .faultLatch s = .next t ∧ live t (hostO Reg.HOST_ALERTSEQ) = BitVec.ofNat 32 seq ∧
        (live t (fltO (Reg.FLT_PEND (r.src / 32)))).bit (r.src % 32) = true ∧
        (∀ w, s.flt.inflight = some w → cfgB s (hostO Reg.HOST_ALERTCTL) 0 = true → cfg s (hostO Reg.HOST_ALERTADDR_LO) ≠ 0 →
          s.flt.alerts.length < 16 → t.flt.alerts = s.flt.alerts ++ [⟨[BitVec.ofNat 32 (r.src + 0x200 + 0x10000 * r.det),
            r.stamp.setWidth 32, (r.stamp >>> 32).setWidth 32, BitVec.ofNat 32 (seq + 0x10000 * cfgF s (bridgeO Reg.BRIDGE_CTL) 3 2 +
              0x100000 * b2n (!firstValid s) + 0x10000000)], seq⟩]) ∧
        (cfgB s (hostO Reg.HOST_ALERTCTL) 1 = true → s.ports.target.enint = true → s.flt.ibi = none →
          t.flt.ibi = some [BitVec.ofNat 8 r.src, BitVec.ofNat 8 2, BitVec.ofNat 8 (seq % 256), BitVec.ofNat 8 (seq / 256)])) ∧
    (r.done = true → sevOf s r.src = 3 → contains3 r.src r.det = false → ∃ t, exec .faultLatch s = .next t ∧
      t.stages = s.stages ∧ t.adcs = s.adcs ∧ t.secs = s.secs ∧
      live t (hostO Reg.HOST_ALERTSEQ) = BitVec.ofNat 32 (((live s (hostO Reg.HOST_ALERTSEQ)).field 15 0 + 1) % 65536)) ∧
    (r.done = true → sevOf s r.src = 3 → contains3 r.src r.det = true → ∃ t, exec .faultLatch s = .next t ∧ t.stages = s.stages ∧
      (64 ≤ r.src → r.src ≤ 66 → r.det < 12 → (adc s r.det).state ≠ .failed →
        (adc t r.det).state = .failed ∧ (adc t r.det).cause = r.src - 63) ∧
      (∀ o q l, sourceOwner r.src r.det = some o → q < quads s → (ring s q).lock = some l → l.owner = o → l.from0 ≤ r.at0 →
        (ring t q).lock = some { l with reset := true })) ∧
    (r.done = true → sevOf s r.src = 4 → namedDom r.src r.det = none → ∃ t, exec .faultLatch s = .next t ∧
      ∀ d, d < 4 → (stage s d).state ≠ .off → (stage t d).state = .tripped ∧ (recov t d).state ≠ .normal) ∧
    (∀ d, r.done = true → sevOf s r.src = 4 → namedDom r.src r.det = some d → (stage s d).state ≠ .off →
      ∃ t, exec .faultLatch s = .next t ∧ (stage t d).state = .tripped ∧ (recov t d).state ≠ .normal) ∧
    (∀ d, r.done = true → sevOf s r.src = 5 → d < 4 → (stage s d).state ≠ .off →
      ∃ t, exec .faultLatch s = .next t ∧ t.flt.chipOff = true ∧ (stage t d).state = .tripped) ∧
    (r.done = false → ∃ t, exec .faultLatch s = .next t ∧ { r with due := now s + 8 } ∈ t.flt.regq ∧
      RaisedAmong Src.ENG_OVERRUN (engKey clsFault 0) s t)) ∧
  (∀ (s : State) (a : Access) (src : BitVec 7) (det : BitVec 16), awake s = true → reaches s a = true →
    (secure s a = true → faultId src.toNat = true → ∃ t, exec (.fltInject a src det) s = .next t ∧
      Raised src.toNat det.toNat s t ∧ Only [.flt, .ports] s t) ∧
    (secure s a = true → faultId src.toNat = false → exec (.fltInject a src det) s = .next (respond a (.ok 0) s)) ∧
    (secure s a = false → exec (.fltInject a src det) s = .next (respond a (.ok 0) (countNonsec a s)))) ∧
  (∀ s : State, awake s = true → atTick s 640000 0 = true →
    (alivePat s = 0 → ∃ t, exec .aliveToggle s = .next t ∧ t.flt = { s.flt with alive := !s.flt.alive } ∧ Only [.flt] s t) ∧
    (alivePat s = 1 → exec .aliveToggle s = .next s)) ∧
  (∀ (s : State) (w : InitWrite), awake s = true → s.flt.inflight = some w →
    (s.flt.alerts = [] → ∃ t, exec (.alertWriteResponse true) s = .next t ∧ t.flt = { s.flt with inflight := none } ∧ Only [.flt] s t) ∧
    (∀ x rest, s.flt.alerts = x :: rest → ∃ t, exec (.alertWriteResponse true) s = .next t ∧ t.flt.alerts = rest ∧
      t.flt.inflight.isSome = true ∧ t.flt.dropped = false ∧ t.ports.out = s.ports.out ++ t.flt.inflight.toList ∧
      Only [.flt, .ports] s t) ∧
    (∃ t, exec (.alertWriteResponse false) s = .next t ∧ Raised Src.FLT_ALERT_WRITE ((w.words.getD 3 0).field 15 0) s t ∧
      (live t (hostO Reg.HOST_ALERTDROP)).field 31 16 = Nat.min ((live s (hostO Reg.HOST_ALERTDROP)).field 31 16 + 1) 0xFFFF)) ∧
  (∀ s : State, awake s = true → s.flt.ibi.isSome = true →
    ∃ t, exec .ibiComplete s = .next t ∧ t.flt.ibi = s.flt.ibiNext ∧ t.flt.ibiNext = none ∧ t.flt.regq = s.flt.regq ∧ Only [.flt] s t) ∧
  (∀ (s : State) (d : Nat), awake s = true → d < 4 → mayRecover s d = true → s.flt.chipOff = false →
    exec (.quietPeriodEnd d) s = .next (expire (.quiet d) s) ∧ (recov (timeOver (.quiet d) s) d).state = .normal ∧
      (recov (timeOver (.quiet d) s) d).history = (recov s d).history ++ [now s] ∧
      (∀ e, e ≠ d → recov (timeOver (.quiet d) s) e = recov s e)) ∧
  (∀ s : State, awake s = true → s.flt.chipOff = true → periodsEnd s = true →
    periodOver s none s.flt.chipFrom s.flt.chipRef = true →
    exec .chipQuietEnd s = .next (expire .chipQuiet s) ∧ (timeOver .chipQuiet s).flt.chipOff = false ∧ (timeOver .chipQuiet s).flt.chipRef = false) ∧
  (∀ (s : State) (a : Access), awake s = true → reaches s a = true → secure s a = true →
    (∃ t, exec (.fltCmdRearm a) s = .next t ∧ live t (fltO Reg.FLT_FIRST) = (live s (fltO Reg.FLT_FIRST)).put 15 15 0 ∧ live t (fltO Reg.FLT_FIRST_TLO) = 0 ∧
      live t (fltO Reg.FLT_FIRST_THI) = 0 ∧ live t (fltO Reg.FLT_OVERFLOW) = 0 ∧ Only [.live, .ports] s t) ∧
    (∀ (m : BitVec 4) (d : Nat), d < 4 → m.getLsbD d = true → (recov s d).state ≠ .normal → thmShutdown s = false →
      ∃ t, exec (.fltCmdClear a m) s = .next t ∧ (recov t d).state = .normal ∧ (recov t d).history = [] ∧
        stage t d = { stage s d with startDue := some (now s + 1) }) ∧
    (s.flt.chipOff = true → thmShutdown s = false → ∃ t, exec (.fltCmdClearChip a) s = .next t ∧ t.flt.chipOff = false) ∧
    (s.flt.chipOff = true → thmShutdown s = true → ∃ t, exec (.fltCmdClearChip a) s = .next t ∧ t.flt = s.flt ∧
      (live t (fltO PAGE_STAT)).field 15 8 = Nat.min ((live s (fltO PAGE_STAT)).field 15 8 + 1) 255))

/-- Discovery and scan of the flash part (R504, R505, R511, R514): reset-enable and reset at divisor 125 and a wait, up to
three reads of the JEDEC ID, the SFDP table, whose fields (PRESUMED to lie as JESD216 has them, log entry 26) give how the
part is driven, and the scan lead to READY with every good record that needs no refresh; a part that fails is absent, with
its source. The winner among records is a good one with the highest `SEQ`. The store at work (R507, R509, R513, R516 to
R525, R528): what a mechanism owes is queued behind a program in progress; a record is programmed page by page, and one
whose blocks read back as programmed ends as written, with the part's error or other read-back as failed, which is written
again in a fresh sector, or after the rediscovery that a warm reset began (log entry 51, DEDUCED); a sector opened with a
block that is not erased is erased first; an erase ends as erased, its header formed, or with the sector retired; each page
and erase has a limit, effective at its tick's end (R45, log entry 11); a scrub judges the age of every winner (log entry
43, DEDUCED); a reclaim erases a sector without winners; store commands queue, are refused, or answer at once. -/
def Obligations.StoreCommands : Prop :=
  ((∀ s : State, s.cal.state = .discover → flashDiv s = 125 ∧ (s.cal.step = 0 → flashOps s = [flashOp 0x66, flashOp 0x99]) ∧
    (s.cal.step = 1 → flashOps s = [flashOp 0x9F]) ∧
    (s.cal.step = 2 → flashOps s = [{ flashOp 0x5A with addr := some 0, dummies := 8 }])) ∧
  (∀ s : State, s.cal.state ≠ .discover → flashDiv s = cfgF s (calO Reg.CAL_FCLK) 7 0) ∧
  (∀ s : State, awake s = true → s.cal.state = .discover → s.cal.step = 0 → s.cal.from0 + usTicks 100 ≤ now s →
    ∃ t, exec .flashResetWaitEnd s = .next t ∧ t.cal = { s.cal with step := 1 } ∧ Only [.cal] s t) ∧
  (∀ (s : State) (id : BitVec 24), awake s = true → s.cal.state = .discover → s.cal.step = 1 →
    (id ≠ 0 → id ≠ 0xFFFFFF → ∃ t, exec (.flashJedecId id) s = .next t ∧ t.cal = { s.cal with step := 2 } ∧
      live t (calO Reg.CAL_JEDECID) = id.setWidth 32 ∧ Only [.cal, .live] s t) ∧
    ((id = 0 ∨ id = 0xFFFFFF) → s.cal.tries ≠ 2 → ∃ t, exec (.flashJedecId id) s = .next t ∧
      t.cal = { s.cal with tries := s.cal.tries + 1 } ∧ Only [.cal] s t) ∧
    ((id = 0 ∨ id = 0xFFFFFF) → s.cal.tries = 2 → ∃ t, exec (.flashJedecId id) s = .next t ∧ t.cal.state = .absent ∧
      t.cal.recs = [] ∧ Raised Src.CAL_FLASH_ABSENT 0 s t)) ∧
  (∀ (s : State) (x : SfdpInfo), awake s = true → s.cal.state = .discover → s.cal.step = 2 →
    (∀ n : Nat, x.signature = 0x50444653 → x.major = 1 → sfdpErases x = true → sfdpDensity x = some n →
      6 ≤ n ∧ n ≤ 10 ∧ ∃ t, exec (.flashSfdpRead x) s = .next t ∧
      t.cal = { s.cal with state := .scan, density := n, quad := sfdpQuad x, drive := sfdpDrive x } ∧ Only [.cal] s t) ∧
    ((x.signature ≠ 0x50444653 ∨ x.major ≠ 1 ∨ sfdpErases x = false ∨ sfdpDensity x = none) →
      ∃ t, exec (.flashSfdpRead x) s = .next t ∧ t.cal.state = .absent ∧ Raised Src.CAL_SFDP_BAD 0 s t)) ∧
  (∀ (s : State) (hs : List SectorHeader) (l : List SectorImage), awake s = true → s.cal.state = .scan → s.cal.queue = [] → s.cal.redo = none →
    s.cal.drain = [] → l.flatMap sectorRecords = [] →
    ∃ t, exec (.flashScanDone hs l) s = .next t ∧ t.cal.state = .ready ∧ t.cal.recs = [] ∧ t.cal.found = 0 ∧ t.cal.seq = 1 ∧
      t.flt = s.flt) ∧
  (∀ (s : State) (hs : List SectorHeader) (l : List SectorImage), awake s = true → s.cal.state = .scan →
    s.cal.queue = [] → s.cal.redo = none → s.cal.drain = [] → s.boot.cold = true → (∀ y, y ∈ l.flatMap sectorRecords → y.record.typ ≠ 5 ∧
      y.corr < cfgF s (calO Reg.CAL_REFRESH) 19 16 ∧
      s.cal.powered < y.record.written + cfgF s (calO Reg.CAL_REFRESH) 9 0 * 86400) →
    ∃ t, exec (.flashScanDone hs l) s = .next t ∧ t.cal.state = .ready ∧ t.cal.queue = [] ∧ t.cal.prog = s.cal.prog ∧
      ∀ x, x ∈ l.flatMap sectorRecords → recordGood x.record = true → x.record.sector < flashCount s →
        x.record ∈ t.cal.recs ∧ x.record.seq < t.cal.seq) ∧
  (∀ (l : List Record) (typ key : Nat) (w : Record), winnerRaw l typ key = some w →
    w ∈ l ∧ recordGood w = true ∧ w.typ = typ ∧ w.key = key ∧
      ∀ r, r ∈ l → recordGood r = true → r.typ = typ → r.key = key → r.seq ≤ w.seq)) ∧
  ((∀ (s : State) (typ key : Nat), awake s = true → (typ, key) ∈ s.cal.owed → s.cal.state = .ready → s.cal.prog.isSome = true →
    s.cal.queue.length < 16 → (∀ x, x ∈ s.cal.queue → x.typ ≠ typ ∨ x.key ≠ key) →
    ∃ t, exec (.calWriteRequest typ key) s = .next t ∧ (typ, key) ∉ t.cal.owed ∧
      t.cal.queue = s.cal.queue ++ [⟨typ, key, false, none, 0, false, false⟩] ∧ Only [.cal] s t) ∧
  (∀ (s : State) (r : Record) (m : List (List Byte)), m ≠ recordImage r →
    exec (.flashProgramDone (.readBack m)) s = exec (.flashProgramDone .failed) s ∨ s.cal.prog.map (·.record) ≠ some r) ∧
  (∀ (s : State) (p : Program), awake s = true → s.cal.prog = some p → p.page + 1 < pageCount s.cal.drive.page p.record →
    ∃ t, exec (.flashProgramDone .page) s = .next t ∧
      t.cal = { s.cal with prog := some { p with page := p.page + 1, from0 := now s } } ∧ Only [.cal] s t) ∧
  (∀ (s : State) (p : Program), awake s = true → s.cal.prog = some p → s.cal.state = .ready →
    (s.cal.queue = [] → s.cal.drain = [] → s.cal.redo = none → s.cal.erase = none →
      ∃ t, exec (.flashProgramDone (.readBack (recordImage p.record))) s = .next t ∧ t.cal.prog = none ∧ t.cal.recs = s.cal.recs ++ [p.record] ∧
        t.cal.ptr = p.record.block + recBlocks p.record.len ∧ (p.req.last = true → t.cal.cmdStat = 2) ∧
        (p.req.copy = false → (live t (calO Reg.CAL_WRITES)).toNat = Nat.min ((live s (calO Reg.CAL_WRITES)).toNat + 1) 0xFFFFFFFF) ∧
        (p.req.copy = true → (live t (calO Reg.CAL_REWRITES)).toNat = Nat.min ((live s (calO Reg.CAL_REWRITES)).toNat + 1) 0xFFFFFFFF)) ∧
    (∀ i, openable s = some i → (flashSec s i).dirty = true → s.cal.erase = none →
      ∃ t, exec (.flashProgramDone .failed) s = .next t ∧ t.cal.erase = some (i, now s) ∧ t.cal.redo = some (p.req, p.record)) ∧
    (∀ i, openable s = some i → (flashSec s i).dirty = false → recBlocks p.record.len ≤ 124 → s.cal.erase = none →
      ∃ t, exec (.flashProgramDone .failed) s = .next t ∧
      t.cal.active = some i ∧ t.cal.redo = none ∧ (p.record.sector, true) ∈ t.cal.drain ∧
      ∃ p', t.cal.prog = some p' ∧ p'.req = p.req ∧ p'.record = { p.record with sector := i, block := 0 }) ∧
    (p.from0 + usTicks (cfgF s (calO Reg.CAL_FTMO) 15 0) ≤ now s →
      exec .calOpTimeout s = .next (expire .storeOp s) ∧ RaisedAmong Src.CAL_OP_TIMEOUT p.record.sector s (timeOver .storeOp s))) ∧
  (∀ (s : State) (p : Program), awake s = true → s.cal.prog = some p → s.cal.state = .discover →
    ∃ t, exec (.flashProgramDone .failed) s = .next t ∧ t.cal.prog = none ∧ t.cal.step = 0 ∧ t.cal.redo = some (p.req, p.record) ∧
      t.cal.drain = s.cal.drain ++ [(p.record.sector, true)] ∧ t.cal.secs = s.cal.secs ∧ Only [.cal] s t) ∧
  (∀ (s : State) (i t0 : Nat), awake s = true → s.cal.erase = some (i, t0) → s.cal.prog = none →
    (s.cal.state = .ready → s.cal.queue = [] → s.cal.redo = none → s.cal.drain = [(i, false)] →
      ∃ t, exec (.flashEraseDone true) s = .next t ∧ t.cal.erase = none ∧ t.cal.drain = [] ∧
        flashSec t i = { flashSec s i with erases := (flashSec s i).erases + 1, openSeq := 0, erased := true, dirty := false,
                                           head := headBytes ((flashSec s i).erases + 1) 0 } ∧
        t.cal.recs = s.cal.recs.filter (fun r => r.sector != i) ∧ t.flt = s.flt) ∧
    (s.cal.state = .discover → ∃ t, exec (.flashEraseDone false) s = .next t ∧ t.cal.erase = none ∧
      (flashSec t i).retired = true ∧ Raised Src.CAL_SECTOR_RETIRED i s t) ∧
    (t0 + msTicks (cfgF s (calO Reg.CAL_FTMO) 31 16) ≤ now s →
      exec .calOpTimeout s = .next (expire .storeOp s) ∧ RaisedAmong Src.CAL_OP_TIMEOUT i s (timeOver .storeOp s))) ∧
  (∀ (s : State) (i : Nat), awake s = true → reclaimPick s = some i → s.cal.state = .ready → s.cal.prog = none → s.cal.erase = none →
    s.cal.drain = [] → s.cal.redo = none → winnersIn s i = [] →
    ∃ t, exec .calReclaim s = .next t ∧ t.cal = { s.cal with drain := [(i, false)], erase := some (i, now s) } ∧ Only [.cal] s t) ∧
  (∀ s : State, awake s = true → (s.cal.state = .ready ∨ s.cal.state = .full) →
    s.cal.scrubAt + cfgF s (calO Reg.CAL_JCFG) 15 8 * 3600 ≤ s.cal.powered → 0 < cfgF s (calO Reg.CAL_REFRESH) 19 16 →
    ((∀ w, w ∈ winners s → s.cal.powered < w.written + cfgF s (calO Reg.CAL_REFRESH) 9 0 * 86400) →
      ∃ t, exec (.calScrubDue []) s = .next t ∧ t.cal = { s.cal with scrubAt := s.cal.powered } ∧ Only [.cal] s t) ∧
    (∀ w, winners s = [w] → w.written + cfgF s (calO Reg.CAL_REFRESH) 9 0 * 86400 ≤ s.cal.powered → s.cal.state = .ready →
      s.cal.prog.isSome = true → s.cal.queue = [] →
      ∃ t, exec (.calScrubDue []) s = .next t ∧ t.cal.queue = [⟨w.typ, w.key, true, none, 0, false, false⟩])) ∧
  (∀ (s : State) (a : Access) (key typ : BitVec 4), awake s = true → reaches s a = true → secure s a = true → s.cal.state = .ready →
    s.cal.prog.isSome = true → s.cal.queue.length < 16 →
    (s.cal.capture = false → ∃ t, exec (.calStcmdSave a 0 key) s = .next t ∧ t.cal.cmdStat = 1 ∧ t.cal.cmdOp = 1 ∧ t.cal.capture = true ∧
      t.cal.queue.getLast? = some ⟨1, 0, false, some (.sealed (savedList s false)), listSeal (savedList s false), true, true⟩) ∧
    (s.cal.capture = true → ∃ t, exec (.calStcmdSave a 0 key) s = .next t ∧ t.cal.cmdStat = 3 ∧ t.cal.queue.length = s.cal.queue.length ∧
      (live t (calO PAGE_STAT)).field 15 8 = Nat.min ((live s (calO PAGE_STAT)).field 15 8 + 1) 255) ∧
    (∃ t, exec (.calStcmdScrub a []) s = .next t ∧ t.cal.cmdStat = 0 ∧ t.cal.cmdOp = 2 ∧ t.cal.scrubAt = s.cal.powered) ∧
    (payloadFits .empty typ.toNat key.toNat = true → ∃ t, exec (.calStcmdTombstone a typ key) s = .next t ∧ t.cal.cmdStat = 1 ∧
      t.cal.queue.getLast? = some ⟨typ.toNat, key.toNat, false, some .empty, 0, false, true⟩) ∧
    (payloadFits .empty typ.toNat key.toNat = false → ∃ t, exec (.calStcmdTombstone a typ key) s = .next t ∧ t.cal.cmdStat = 3 ∧
      t.cal.queue.length = s.cal.queue.length)))

/-- Start-up, shut-down and reset (R531 to R548): a start without part or set awaits the host with its cause; a set that is
found is checked and applies in the next tick, or is refused; the safe profile, the shut-down, the restart and the warm
reset act in their states and are refused and counted elsewhere; nothing that comes after a warm reset in its tick has an
effect; a shut-down in progress stops each domain in turn, or trips what is left at its limit, at the end of that tick (log
entry 11). The order in which the causes of a refused start are judged is log entry 29, and a warm reset in any state, and a
discovery that ends with a shut-down, are log entry 44 (DEDUCED). Link lane groups (R542 to R544): a report names its
group's class; the result switches a planned group of an enabled class ON and one not found OFF; the expiry ends discovery
at its tick's end (R45, log entry 11); an unplanned group goes OFF after its time; a request switches a group of an enabled
class, and does nothing before discovery has a result; while discovery can still have an outcome it acts at the end of its
tick, after what that outcome does. -/
def Obligations.BootAndLinks : Prop :=
  ((∀ s : State, awake s = true → s.boot.state = .load →
    (s.cal.state = .absent → ∃ t, exec .bootLoadDone s = .next t ∧ t.boot.state = .await ∧ t.boot.cause = 1 ∧ t.plan.ready = true ∧
      RaisedAmong Src.CFG_START_BAD 0x0101 s t) ∧
    (s.cal.state = .ready → winner s 1 0 = none → ∃ t, exec .bootLoadDone s = .next t ∧ t.boot.state = .await ∧ t.boot.cause = 2 ∧
      RaisedAmong Src.CFG_START_BAD 0x0102 s t) ∧
    (s.cal.state = .ready → (winner s 1 0).isSome = true → ∃ t, exec .bootLoadDone s = .next t ∧ t.plan.ready = true ∧
      (t.boot.state = .check ∧ (∃ f, t.regs.startSet = some f ∧ f.due = now s + 1) ∧ t.regs.frozen = s.regs.frozen ∨
        t.boot.state = .await ∧ 3 ≤ t.boot.cause ∧ t.boot.cause ≤ 5 ∧ ∃ det, RaisedAmong Src.CFG_START_BAD det s t))) ∧
  (∀ (s : State) (a : Access), awake s = true → reaches s a = true → secure s a = true →
    (s.boot.state = .await → s.regs.frozen = none → ∃ t, exec (.genBootcmdSafeProfile a) s = .next t ∧ t.boot.state = .sense ∧
      t.boot.safe = true) ∧
    ((s.boot.state ≠ .await ∨ s.regs.frozen.isSome = true) → ∃ t, exec (.genBootcmdSafeProfile a) s = .next t ∧ Only [.live, .ports] s t ∧
      (live t (genO PAGE_STAT)).field 15 8 = Nat.min ((live s (genO PAGE_STAT)).field 15 8 + 1) 255) ∧
    ((s.boot.state = .await ∨ s.boot.state = .sense ∨ s.boot.state = .power ∨ s.boot.state = .up) →
      ∃ t, exec (.genBootcmdShutdown a) s = .next t ∧
      (t.boot.state = .stopping ∨ t.boot.state = .stopped) ∧ t.boot.slots = [] ∧ t.boot.shutAt = now s ∧ t.lnk.group = [] ∧ t.lnk.disc = 0) ∧
    (s.boot.state ≠ .await → s.boot.state ≠ .sense → s.boot.state ≠ .power → s.boot.state ≠ .up →
      ∃ t, exec (.genBootcmdShutdown a) s = .next t ∧ Only [.live, .ports] s t) ∧
    (s.boot.state = .stopped → ∃ t, exec (.genBootcmdRestart a) s = .next t ∧ (t.boot.state = .power ∨ t.boot.state = .up)) ∧
    (s.boot.state ≠ .stopped → ∃ t, exec (.genBootcmdRestart a) s = .next t ∧ Only [.live, .ports] s t ∧
      (live t (genO PAGE_STAT)).field 15 8 = Nat.min ((live s (genO PAGE_STAT)).field 15 8 + 1) 255) ∧
    (∃ t, exec (.genBootcmdWarmReset a 0x5A) s = .next t ∧ t.boot.state = .load ∧ t.boot.cold = false ∧ t.boot.lockAt = s.boot.lockAt ∧
      t.regs.pend = [] ∧ t.regs.frozen = none ∧ t.regs.startSet = none ∧ t.flt.chipOff = false ∧ awake t = false ∧
      (∀ x, x ∈ t.flt.regq → x.src = Src.TB_HOLDOVER ∧ s.tb.sel = 2) ∧
      (∀ j, j < 16 → (jobSlot s j).state = .ending → (jobSlot t j).state = .ending) ∧
      (∀ c, awake t = false → c ≠ .coldStart → c ≠ .powerLoss → exec c t = .next t) ∧
      (∀ d, d < 4 → (stage t d).state = .tripped) ∧ t.tb.tick = s.tb.tick) ∧
    (∀ key : Byte, key ≠ 0x5A → ∃ t, exec (.genBootcmdWarmReset a key) s = .next t ∧ Only [.live, .ports] s t)) ∧
  (∀ s : State, awake s = true → s.boot.state = .sense → s.therm.valid = true → thmShutdown s = false →
    (∀ n, n < 12 → 4 ≤ (adc s n).role ∨ (adc s n).state = .rail) →
    ∃ t, exec .bootSenseDone s = .next t ∧ (t.boot.state = .power ∨ t.boot.state = .up)) ∧
  (∀ (s : State) (x : Nat) (rest : List Nat), awake s = true → s.boot.state = .power → s.boot.slots = x :: rest → s.boot.slotAt ≤ now s →
    ∃ t, exec .bootSlotStart s = .next t ∧ t.boot.state = .power ∧ ∃ l, rest = l ++ t.boot.slots) ∧
  (∀ (s : State) (d : Nat), awake s = true → d < 4 → s.boot.state = .stopping → (stage s d).state = .run → allOff s d = true →
    nextStopped s d = true →
    ∃ t, exec (.shutdownDomainStop d) s = .next t ∧ (stage t d).state = .stop ∧ (∀ e, e ≠ d → stage t e = stage s e)) ∧
  (∀ s : State, awake s = true → s.boot.state = .stopping → s.boot.shutOn = true →
    s.boot.shutAt + msTicks (cfgF s (genO Reg.GEN_SHUTTMO) 9 0) ≤ now s →
    exec .shutdownTimeout s = .next (expire .shutdown s) ∧ (timeOver .shutdown s).boot.forced = true ∧ (timeOver .shutdown s).boot.shutOn = false ∧
      ∀ d, d < 4 → (stage (timeOver .shutdown s) d).state = .off ∨ (stage (timeOver .shutdown s) d).state = .tripped)) ∧
  ((∀ (s : State) (a : Access) (g : BitVec 4) (c : BitVec 2), awake s = true → reaches s a = true → s.lnk.disc = 1 →
    (unitCluster s.params lanesK g.toNat).isSome = true →
    ∃ t, exec (.lnkDiscPresent a g c) s = .next t ∧ t.lnk = { s.lnk with found := s.lnk.found.put g.toNat c.toNat } ∧
      Only [.lnk, .ports] s t) ∧
  (∀ (s : State) (a : Access), awake s = true → reaches s a = true → s.lnk.disc = 1 →
    ∃ t, exec (.lnkDiscDone a) s = .next t ∧ t.lnk.disc = 2 ∧ t.lnk.timeout = false ∧ t.lnk.found = s.lnk.found ∧
      (∀ g, g ∈ laneGroups s → s.lnk.found.find g = some (plannedCls s g) → clsOn s (plannedCls s g) = true → planned s g = true →
        Store.get t.lnk.group 0 g = 2) ∧
      (∀ g, g ∈ laneGroups s → s.lnk.found.find g = none → stillAbsent s g = false → Store.get t.lnk.group 0 g = 0)) ∧
  (∀ s : State, awake s = true → s.lnk.from0 + msTicks (cfgF s (lnkO Reg.LNK_CFG) 17 8) ≤ now s →
    (s.lnk.disc = 1 → exec .lnkDiscTimeout s = .next (expire .discovery s) ∧ (timeOver .discovery s).lnk.disc = 3 ∧ (timeOver .discovery s).lnk.timeout = true ∧
      ∀ g, g ∈ laneGroups s → stillAbsent s g = true → Store.get (timeOver .discovery s).lnk.group 0 g = 0 ∧ g ∈ (timeOver .discovery s).lnk.absent) ∧
    (s.lnk.disc = 2 → exec .lnkDiscTimeout s = .next (expire .discovery s) ∧ (timeOver .discovery s).lnk.disc = 3 ∧
      ∀ g, g ∈ laneGroups s → stillAbsent s g = true → RaisedAmong Src.LNK_ABSENT g s (timeOver .discovery s))) ∧
  (∀ (s : State) (g t0 : Nat), awake s = true → s.lnk.offAt.find g = some t0 → t0 ≤ now s →
    (unitCluster s.params lanesK g).isSome = true →
    ∃ t, exec (.lnkUnplannedOff g) s = .next t ∧ Store.get t.lnk.group 0 g = 0 ∧ t.lnk.offAt.find g = none ∧
      ∀ h, h ≠ g → Store.get t.lnk.group 0 h = Store.get s.lnk.group 0 h) ∧
  (∀ (s : State) (a : Access) (g : BitVec 4), awake s = true → reaches s a = true →
    ((s.lnk.disc = 1 ∨ s.lnk.disc = 2) →
      (∃ t, exec (.lnkReqOn a g) s = .next t ∧ t.lnk = { s.lnk with reqs := s.lnk.reqs ++ [BitVec.ofNat 32 (g.toNat + 0x200)] } ∧
        Only [.lnk, .ports] s t) ∧
      (∃ t, exec (.lnkReqOff a g) s = .next t ∧ t.lnk = { s.lnk with reqs := s.lnk.reqs ++ [BitVec.ofNat 32 (g.toNat + 0x100)] } ∧
        Only [.lnk, .ports] s t)) ∧
    (s.lnk.disc ≠ 1 → s.lnk.disc ≠ 2 →
      exec (.lnkReqOn a g) s = .next (respond a (.ok 0) (linkTake (BitVec.ofNat 32 (g.toNat + 0x200)) s)) ∧
      exec (.lnkReqOff a g) s = .next (respond a (.ok 0) (linkTake (BitVec.ofNat 32 (g.toNat + 0x100)) s)))) ∧
  (∀ (s : State) (w : Word), awake s = true → s.pending = [] → s.lnk.reqs = [w] → s.late = [] → s.adcOwed = [] → s.regs.seen = [] →
    s.ports.target.fetch = none → s.ports.target.data = none → syncMissed (estP / 2) s = false →
    (∀ d, (stage (linkTake w (s.setLnk { s.lnk with reqs := [] })) d).startDue = none) →
    ∃ t, step s = .next t ∧ Only [.time, .bridge, .ports, .seat] (linkTake w (s.setLnk { s.lnk with reqs := [] })) t) ∧
  (∀ (s : State) (g : BitVec 4), (unitCluster s.params lanesK g.toNat).isSome = true →
    (2 ≤ s.lnk.disc → clsOn s (judgedCls s g.toNat) = true →
      (shutting s = false → Store.get (linkTake (BitVec.ofNat 32 (g.toNat + 0x200)) s).lnk.group 0 g.toNat = 2 ∧
        ∀ h, h ≠ g.toNat → Store.get (linkTake (BitVec.ofNat 32 (g.toNat + 0x200)) s).lnk.group 0 h = Store.get s.lnk.group 0 h) ∧
      Store.get (linkTake (BitVec.ofNat 32 (g.toNat + 0x100)) s).lnk.group 0 g.toNat = 0 ∧
      ∀ h, h ≠ g.toNat → Store.get (linkTake (BitVec.ofNat 32 (g.toNat + 0x100)) s).lnk.group 0 h = Store.get s.lnk.group 0 h) ∧
    ((s.lnk.disc < 2 ∨ clsOn s (judgedCls s g.toNat) = false) → linkTake (BitVec.ofNat 32 (g.toNat + 0x200)) s = s ∧
      linkTake (BitVec.ofNat 32 (g.toNat + 0x100)) s = s)))

/-- The I3C target (R565 to R567): event bits, addresses and lengths are taken, the fixed answers are those of R565; HDR
deafens the port until its exit; a private write in good form is a register access and one in bad form is a form error; a
read returns its reply once, `0x02` with none, and is NACKed while its words are on their way; each error raises its detail,
and a direct command that R565 does not list is NACKed. The order of bytes of a number, which target takes part in an
assignment and how the port recovers from TE0 and TE1 are the model's (log entry 15, PRESUMED), the length kept outside a
range log entry 10, the status after an error log entry 30, and the spacing of a write's words log entry 49. -/
def Obligations.I3cCommands : Prop :=
  (∀ s : State, awake s = true → addressed s = true →
    (∀ (direct : Bool) (e : Byte),
      (∃ t, exec (.i3cEnec direct e) s = .next t ∧ t.ports.target.enint = (s.ports.target.enint || e.getLsbD 0) ∧ Only [.ports] s t) ∧
      (∃ t, exec (.i3cDisec direct e) s = .next t ∧ t.ports.target.enint = (s.ports.target.enint && !e.getLsbD 0) ∧ Only [.ports] s t)) ∧
    (∃ t, exec .i3cRstdaa s = .next t ∧ t.ports.target.daValid = false ∧ Only [.ports] s t) ∧
    (∀ x : BitVec 7, ∃ t, exec (.i3cSetnewda x) s = .next t ∧ t.ports.target.da = x ∧ t.ports.target.daValid = true ∧ Only [.ports] s t) ∧
    (∀ n : BitVec 16, ∃ t, exec (.i3cSetmwl n) s = .next t ∧ 9 ≤ t.ports.target.mwl ∧ t.ports.target.mwl ≤ 69 ∧
      (9 ≤ n.toNat → n.toNat ≤ 69 → t.ports.target.mwl = n.toNat) ∧ Only [.ports] s t) ∧
    (∀ n : BitVec 16, ∃ t, exec (.i3cSetmrl n) s = .next t ∧ 5 ≤ t.ports.target.mrl ∧ t.ports.target.mrl ≤ 65 ∧
      (5 ≤ n.toNat → n.toNat ≤ 65 → t.ports.target.mrl = n.toNat) ∧ Only [.ports] s t) ∧
    (∃ t, exec .i3cGetmwl s = .next t ∧ t.ports.target.answer = bytesBE 2 s.ports.target.mwl ∧ Only [.ports] s t) ∧
    (∃ t, exec .i3cGetmrl s = .next t ∧ t.ports.target.answer = bytesBE 2 s.ports.target.mrl ++ [4] ∧ Only [.ports] s t) ∧
    (∃ t, exec .i3cGetpid s = .next t ∧ t.ports.target.answer = bytesBE 6 (s.params.i3cMfgid.toNat * 2 ^ 33 + 0x0F64 * 2 ^ 16 +
      cfgF s (bridgeO Reg.BRIDGE_CTL) 3 2 * 2 ^ 12) ∧ Only [.ports] s t) ∧
    (∃ t, exec .i3cGetbcr s = .next t ∧ t.ports.target.answer = [0x06] ∧ Only [.ports] s t) ∧
    (∃ t, exec .i3cGetdcr s = .next t ∧ t.ports.target.answer = [s.params.i3cDcr] ∧ Only [.ports] s t) ∧
    (∃ t, exec .i3cGetstatus s = .next t ∧ t.ports.target.answer = bytesBE 2 (b2n s.flt.ibi.isSome +
      0x20 * b2n s.ports.target.protErr + 0x1000 * bootCode s.boot.state) ∧ t.ports.target.protErr = false ∧ Only [.ports] s t) ∧
    (∃ t, exec .i3cEnthdr s = .next t ∧ t.ports.target.hdr = true ∧ listens t = false ∧ Only [.ports] s t) ∧
    (s.ports.target.fetch.isSome = true → ∃ t, exec .i3cPrivateRead s = .next t ∧ t.ports.i3c = .nack ∧
      t.ports.target.reply = s.ports.target.reply) ∧
    (∀ l, s.ports.target.fetch = none → s.ports.target.reply = some l → ∃ t, exec .i3cPrivateRead s = .next t ∧
      t.ports.target.answer = l.take s.ports.target.mrl ∧ t.ports.target.reply = none ∧ Only [.ports] s t) ∧
    (s.ports.target.fetch = none → s.ports.target.reply = none → ∃ t, exec .i3cPrivateRead s = .next t ∧
      t.ports.target.answer = [0x02] ∧ Only [.ports] s t) ∧
    (∀ (x y z n d0 d1 d2 d3 : Byte) (rest : List Byte), (x.toNat + 0x100 * y.toNat + 0x10000 * z.toNat) % 4 = 0 → 1 ≤ n.toNat →
      n.toNat ≤ 16 → rest.length + 9 ≤ s.ports.target.mwl →
      let off := x.toNat + 0x100 * y.toNat + 0x10000 * z.toNat
      let more := rest.take (4 * n.toNat - 4)
      exec (.i3cPrivateWrite (2 :: x :: y :: z :: n :: d0 :: d1 :: d2 :: d3 :: rest)) s = .next (writeAccess i3cAccess
        (wordForm off) (BitVec.ofNat 128 (leNat [d0, d1, d2, d3])) (modI3c (fun t => { t with
          data := if more.length < 4 then none else some ⟨off + 4, more, now s + wordTicks⟩ }) (respond i3cAccess (.ok 0) s)))) ∧
    (∀ (x y z n : Byte), (x.toNat + 0x100 * y.toNat + 0x10000 * z.toNat) % 4 = 0 → 1 ≤ n.toNat → n.toNat ≤ 16 → 9 ≤ s.ports.target.mwl →
      ∃ t, exec (.i3cReadHeader [1, x, y, z, n]) s = .next t ∧ t.ports.target.reply = none ∧
        t.ports.target.fetch = some ⟨x.toNat + 0x100 * y.toNat + 0x10000 * z.toNat, n.toNat, now s, [], false⟩ ∧ Only [.ports] s t) ∧
    (∀ (op x y z n : Byte) (rest : List Byte), rest.length + 5 ≤ s.ports.target.mwl →
      (op ≠ 1 ∧ op ≠ 2 ∨ (x.toNat + 0x100 * y.toNat + 0x10000 * z.toNat) % 4 ≠ 0 ∨ n = 0 ∨ 16 < n.toNat) →
      ∃ t, exec (.i3cPrivateWrite (op :: x :: y :: z :: n :: rest)) s = .next t ∧ t.ports.target.reply = some [0x01] ∧
        Raised Src.HOST_I3C_ERR 8 s t ∧ (live t (genO Reg.GEN_ACCERR)).field 7 0 =
          Nat.min ((live s (genO Reg.GEN_ACCERR)).field 7 0 + 1) 255)) ∧
  (∀ (s : State) (x : BitVec 7), awake s = true → listens s = true → s.ports.target.daValid = false →
    (∃ t, exec (.i3cEntdaa x) s = .next t ∧ t.ports.target.da = x ∧ t.ports.target.daValid = true ∧ Only [.ports] s t) ∧
    (∃ t, exec (.i3cSetdasa s.params.i3cSaddr x) s = .next t ∧ t.ports.target.da = x ∧ t.ports.target.daValid = true ∧ Only [.ports] s t) ∧
    (∀ y, y ≠ s.params.i3cSaddr → exec (.i3cSetdasa y x) s = .next s)) ∧
  (∀ (s : State) (off due : Nat) (a b c d : Byte) (rest : List Byte), s.ports.target.data = some ⟨off, a :: b :: c :: d :: rest, due⟩ →
    listens s = false ∧ (now s < due → i3cData s = s) ∧
    (due ≤ now s → i3cData s = writeAccess i3cAccess (wordForm off) (BitVec.ofNat 128 (leNat [a, b, c, d])) (modI3c (fun t => { t with
      data := if rest.length < 4 then none else some ⟨off + 4, rest, now s + wordTicks⟩ }) s))) ∧
  (∀ s : State, awake s = true → ∃ t, exec .i3cHdrExit s = .next t ∧ t.ports.target.hdr = false ∧ Only [.ports] s t) ∧
  (∀ s : State, awake s = true → listens s = true →
    (∀ k, k ≤ 6 → ∃ t, exec (.i3cError (.te k)) s = .next t ∧ t.ports.target.protErr = true ∧ Raised Src.HOST_I3C_ERR k s t ∧
      t.ports.target.hdr = (decide (k < 2) || s.ports.target.hdr) ∧
      (live t (hostO Reg.HOST_I3CERR)).field 15 0 = Nat.min ((live s (hostO Reg.HOST_I3CERR)).field 15 0 + 1) 0xFFFF) ∧
    (∃ t, exec (.i3cError .form) s = .next t ∧ t.ports.target.reply = some [0x01] ∧ Raised Src.HOST_I3C_ERR 8 s t ∧
      t.ports.target.protErr = s.ports.target.protErr ∧
      (live t (hostO Reg.HOST_I3CERR)).field 31 16 = Nat.min ((live s (hostO Reg.HOST_I3CERR)).field 31 16 + 1) 0xFFFF) ∧
    (s.ports.target.daValid = true → ∃ t, exec (.i3cError (.unlisted true)) s = .next t ∧ t.ports.i3c = .nack ∧ Only [.ports] s t) ∧
    exec (.i3cError (.unlisted false)) s = .next s)

/-- Eighteen commands complete (R116, R117, R145, R155, R164, R165, R167, R304, R307 to R316): each of `secBandReadback`,
`secTrimLimit`, `secCmdPlausClear`, `secCmdToSpare`, `secCmdHandback`, `spareEngineSwitch`, `cluSensorDisagree`,
`cluSensorLost`, `sequenceEntryStart`, `telemetryResult`, `sequencePassEnd`, `urgentRequest`, `qdUrgreqGo`,
`urgentConversionStart`, `urgentResult`, `adcXchkArbitration`, `adcXchkResult` and `railConverterResult` answers a next
state in every state that meets its conditions, with its own effect. -/
def Obligations.EngineAndConversionsComplete : Prop :=
  (∀ (s : State) (sc : Nat) (bad : Bool), awake s = true → sc < sectors s → (sec s sc).rbAt = some (now s) →
    ∃ t, exec (.secBandReadback sc bad) s = .next t ∧ (sec t sc).rbAt = none ∧ (∀ g, clu t g = clu s g)) ∧
  (∀ (s : State) (g : Nat), awake s = true → (clu s g).limRun = 256 →
    ∃ t, exec (.secTrimLimit g) s = .next t ∧ (clu t g).limRun = 257 ∧ (clu t g).integ = (clu s g).integ ∧ (∀ n, sec t n = sec s n)) ∧
  (∀ (s : State) (a : Access) (sc : Nat), awake s = true → reaches s a = true → secure s a = true → sc < sectors s →
    ∃ t, exec (.secCmdPlausClear a sc) s = .next t ∧ (sec t sc).suspect = false ∧ (sec t sc).mode = (sec s sc).mode) ∧
  (∀ (s : State) (a : Access) (sc : Nat), awake s = true → reaches s a = true → secure s a = true → sc < sectors s →
    spareFree s (sc / 16) = true → (sec s sc).engSw = none → (sec s sc).mode ≠ .dark →
    ∃ t, exec (.secCmdToSpare a sc) s = .next t ∧ (sec t sc).engSw = some (now s + 16, true) ∧ (sec t sc).onSpare = false) ∧
  (∀ (s : State) (a : Access) (sc : Nat), awake s = true → reaches s a = true → secure s a = true → sc < sectors s →
    (sec s sc).onSpare = true → (sec s sc).ownFailed = false → (sec s sc).engSw = none → (sec s sc).mode ≠ .dark →
    ∃ t, exec (.secCmdHandback a sc) s = .next t ∧ (sec t sc).engSw = some (now s + 16, false) ∧ (sec t sc).onSpare = true) ∧
  (∀ (s : State) (sc t0 : Nat) (toSpare : Bool), awake s = true → (sec s sc).engSw = some (t0, toSpare) → t0 ≤ now s →
    ∃ t, exec (.spareEngineSwitch sc) s = .next t ∧ (sec t sc).onSpare = toSpare ∧ (sec t sc).engSw = none ∧
      ((sec s sc).mode = .run → (sec t sc).mode = .wake)) ∧
  (∀ (s : State) (g : Nat), awake s = true → sensorsDiffer s g = true → urgentFits s (g / 64) = true →
    ∃ t, exec (.cluSensorDisagree g) s = .next t ∧ (clu t g).tapWait = true ∧
      (quad t (g / 64)).queue.length = (quad s (g / 64)).queue.length + 1) ∧
  (∀ (s : State) (g : Nat), awake s = true → (clu s g).aFail ≠ (clu s g).bFail → 4 ≤ (clu s g).lostRun →
    ∃ t, exec (.cluSensorLost g) s = .next t ∧ (clu t g).aFail = true ∧ (clu t g).bFail = true ∧ (∀ n, n ≠ g → clu t n = clu s n)) ∧
  (∀ (s : State) (q : Nat), awake s = true → quadEdge s q = true → 0 < seqLen s q → entryFree (quad s q) (now s) = true →
    (quad s q).queue = [] → (quad s q).redo = none →
    ∃ t, exec (.sequenceEntryStart q) s = .next t ∧ (quad t q).cur.isSome = true ∧
      (quad t q).due.length = (quad s q).due.length + 1) ∧
  (∀ (s : State) (q n : Nat) (c : Conv) (raws : List Nat), awake s = true → dueConv s q false = some c → quadConv s q = some n →
    raws.length = c.avg → resultTurn s q c = true →
    ∃ t, exec (.telemetryResult q raws) s = .next t ∧ c ∉ (quad t q).due ∧ (∀ p, p ≠ q → (quad t p).due = (quad s p).due)) ∧
  (∀ (s : State) (q n : Nat) (p : Nat × Bool), awake s = true → passOver s q (quad s q) = some p → quadConv s q = some n →
    ∃ t, exec (.sequencePassEnd q) s = .next t ∧ live t (qdO q Reg.QD_PASSTIME) = BitVec.ofNat 32 (p.1 % 0x10000) ∧
      (∀ k, k ≠ q → quad t k = quad s k)) ∧
  (∀ (s : State) (q : Nat) (chan : BitVec 8), awake s = true → q < quads s → 128 ≤ chan.toNat → urgentFits s q = true →
    ∃ t, exec (.urgentRequest q 2 chan) s = .next t ∧ (quad t q).queue.length = (quad s q).queue.length + 1 ∧
      (∀ k, k ≠ q → quad t k = quad s k)) ∧
  (∀ (s : State) (a : Access) (q : Nat) (chan : BitVec 8), awake s = true → reaches s a = true → secure s a = true → q < quads s →
    urgentFits s q = true →
    ∃ t, exec (.qdUrgreqGo a q chan) s = .next t ∧ (quad t q).queue.length = (quad s q).queue.length + 1 ∧
      (∀ k, k ≠ q → quad t k = quad s k)) ∧
  (∀ (s : State) (q : Nat) (r : UrgReq) (rest : List UrgReq), awake s = true → (quad s q).redo = none →
    (quad s q).queue = r :: rest → quadEdge s q = true → (quad s q).urgent = none →
    ∃ t, exec (.urgentConversionStart q) s = .next t ∧ (quad t q).queue = rest ∧ (quad t q).urgent.map (·.2) = some r) ∧
  (∀ (s : State) (q n : Nat) (c : Conv) (raws : List Nat), awake s = true → dueConv s q true = some c → quadConv s q = some n →
    raws.length = c.avg → resultTurn s q c = true →
    ∃ t, exec (.urgentResult q raws) s = .next t ∧ c ∉ (quad t q).due ∧
      (live t (qdO q Reg.QD_URGDONE)).toNat = Nat.min ((live s (qdO q Reg.QD_URGDONE)).toNat + 1) 0xFFFFFFFF) ∧
  (∀ (s : State) (d q n t0 : Nat) (m : Frac), awake s = true → d < 4 → q < quads s → xchk s d = none →
    cfgF s (qdO q Reg.QD_RAILCHK) 11 8 ≤ Store.get (quad s q).xrun 0 d → cfgB s (qdO q Reg.QD_RAILCHK) 12 = true →
    (quad s q).xlast.find d = some (m, t0) → n < 12 → idleSpare s n = true →
    ∃ t, exec (.adcXchkArbitration d q) s = .next t ∧ (xchk t d).isSome = true ∧ t.adcs = s.adcs ∧ t.quads = s.quads) ∧
  (∀ (s : State) (d : Nat) (x : Xchk) (raws : List Nat), awake s = true → xchk s d = some x → raws.length = 8 → x.from0 + 155 ≤ now s →
    ∃ t, exec (.adcXchkResult d raws) s = .next t ∧ xchk t d = none ∧ (∀ e, e ≠ d → xchk t e = xchk s e) ∧ t.stages = s.stages) ∧
  (∀ (s : State) (n : Nat) (raw : BitVec 12), awake s = true → n < 12 → (adc s n).state = .rail → (adc s n).taking = none →
    stgUp s (adc s n).role = true → s.tb.running = true → s.tb.tick.toNat % 5 = 0 → 45 ≤ now s → (adc s n).keep ≤ now s - 45 →
    nextEdge s (stage s (adc s n).role).armedAt 0 + 40 ≤ now s - 45 →
    (∀ h, (stage s (adc s n).role).hist.head? = some h → h.1 ≠ now s - 45) →
    ∃ t, exec (.railConverterResult n raw) s = .next t ∧ (stage t (adc s n).role).rail = some (adcCode s n 1 raw.toNat) ∧
      t.adcs = s.adcs)
end

