-- ==== Sys2Proof/Laws/Only.lean ====
section
/-! SUPPORT. How frames (`Only`) compose, and the frame of each setter of the state. -/

namespace Sys2Proof.Machine

/-- Every part of the first list is in the second. -/
def within (a b : List Part) : Bool := a.all fun p => b.contains p

theorem within_mem {a b : List Part} (h : within a b = true) {p : Part} (hp : p ∈ a) : p ∈ b := by
  simpa using List.all_eq_true.mp h p hp

theorem within_trans {a b c : List Part} (h : within a b = true) (k : within b c = true) : within a c = true :=
  List.all_eq_true.mpr fun p hp => by simpa using within_mem k (within_mem h hp)

theorem Part.same_refl (p : Part) (s : State) : p.same s s := by
  cases p <;> first | rfl | exact ⟨rfl, rfl⟩

theorem Part.same_trans {p : Part} {s t u : State} (h : p.same s t) (k : p.same t u) : p.same s u := by
  cases p
  case time => exact ⟨k.1.trans h.1, k.2.trans h.2⟩
  case held => exact ⟨k.1.trans h.1, k.2.trans h.2⟩
  case tb => exact Eq.trans (congrArg (fun b : TimeBase =>
      { b with tick := s.tb.tick, elapsed := s.tb.elapsed, heldFab := s.tb.heldFab, heldI3c := s.tb.heldI3c }) k) h
  case regs =>
    exact Eq.trans (congrArg (fun r : Regs =>
      { r with shadow := s.regs.shadow, active := s.regs.active, live := s.regs.live }) k) h
  all_goals exact Eq.trans k h

theorem Only.refl (l : List Part) (s : State) : Only l s s := fun p _ => p.same_refl s

theorem Only.trans {l : List Part} {s t u : State} (h : Only l s t) (k : Only l t u) : Only l s u :=
  fun p hp => Part.same_trans (h p hp) (k p hp)

theorem Only.mono {a l : List Part} {s t : State} (h : Only a s t) (hs : within a l = true) : Only l s t :=
  fun p hp => h p fun ha => hp (within_mem hs ha)

/-- One operation after another. -/
theorem Only.via {l a : List Part} {s t u : State} (h : Only l s t) (k : Only a t u) (hs : within a l = true) : Only l s u :=
  h.trans (k.mono hs)

theorem Only.ite {l : List Part} {c : Prop} [Decidable c] {s a b : State} (ha : Only l s a) (hb : Only l s b) :
    Only l s (if c then a else b) := by
  split
  · exact ha
  · exact hb

theorem Only.when {l : List Part} {s t : State} (h : Only l s t) (c : Bool) (f : State → State) (hf : ∀ s, Only l s (f s)) :
    Only l s (when c f t) := Only.ite (h.trans (hf t)) h

theorem Only.foldl {l : List Part} {α : Type} {s t : State} (h : Only l s t) (f : State → α → State) (xs : List α)
    (hf : ∀ s x, Only l s (f s x)) : Only l s (xs.foldl f t) := by
  induction xs generalizing t with
  | nil => exact h
  | cons x xs ih => exact ih (h.trans (hf t x))

theorem Only.forEach {l : List Part} {s t : State} (h : Only l s t) (xs : List Nat) (f : Nat → State → State)
    (hf : ∀ x s, Only l s (f x s)) : Only l s (forEach xs f t) := h.foldl _ xs fun s x => hf x s

/-- A command leaves what its effect leaves. -/
theorem Only.act {l : List Part} {s t u : State} {ok : Bool} (ht : Only l s t) (h : act s ok t = .next u) : Only l s u := by
  unfold Machine.act at h
  split at h
  · cases h; exact ht
  · cases h; exact Only.refl _ _

theorem Only.next {l : List Part} {s t u : State} (ht : Only l s t)
    (h : (Host.Outcome.next t : Host.Outcome State Fault Refusal) = .next u) : Only l s u := by
  cases h; exact ht

theorem State.setPower_only (s : State) (x : Bool) : Only [.powered] s (s.setPower x) := by
  intro p hp
  cases p <;> first | rfl | exact ⟨rfl, rfl⟩ | exact absurd (by decide) hp

theorem State.setTb_only (s : State) (x : TimeBase) (ht : x.tick = s.tb.tick ∧ x.elapsed = s.tb.elapsed)
    (hh : x.heldFab = s.tb.heldFab ∧ x.heldI3c = s.tb.heldI3c) : Only [.tb] s (s.setTb x) := by
  intro p hp
  cases p <;> first | exact ht | exact hh | rfl | exact absurd (by decide) hp

theorem State.setTb_only_held (s : State) (x : TimeBase)
    (h : { x with heldFab := s.tb.heldFab, heldI3c := s.tb.heldI3c } = s.tb) : Only [.held] s (s.setTb x) := by
  have ht : x.tick = s.tb.tick := by have := congrArg TimeBase.tick h; exact this
  have he : x.elapsed = s.tb.elapsed := by have := congrArg TimeBase.elapsed h; exact this
  intro p hp
  cases p
  case held => exact absurd (by decide) hp
  case time => exact ⟨ht, he⟩
  case tb =>
    show { x with tick := s.tb.tick, elapsed := s.tb.elapsed, heldFab := s.tb.heldFab, heldI3c := s.tb.heldI3c } = s.tb
    rw [← ht, ← he]; exact h
  all_goals rfl

theorem State.setTb_only_time (s : State) (x : TimeBase)
    (h : { x with tick := s.tb.tick, elapsed := s.tb.elapsed } = s.tb) : Only [.time] s (s.setTb x) := by
  have hf : x.heldFab = s.tb.heldFab := by have := congrArg TimeBase.heldFab h; exact this
  have hi : x.heldI3c = s.tb.heldI3c := by have := congrArg TimeBase.heldI3c h; exact this
  intro p hp
  cases p
  case time => exact absurd (by decide) hp
  case held => exact ⟨hf, hi⟩
  case tb =>
    show { x with tick := s.tb.tick, elapsed := s.tb.elapsed, heldFab := s.tb.heldFab, heldI3c := s.tb.heldI3c } = s.tb
    rw [← hf, ← hi]; exact h
  all_goals rfl

theorem State.setTb_only_counter (s : State) (x : TimeBase)
    (hh : x.heldFab = s.tb.heldFab ∧ x.heldI3c = s.tb.heldI3c) : Only [.time, .tb] s (s.setTb x) := by
  intro p hp
  cases p <;> first | exact hh | rfl | exact absurd (by decide) hp

theorem State.setTb_only_all (s : State) (x : TimeBase) : Only [.time, .held, .tb] s (s.setTb x) := by
  intro p hp
  cases p <;> first | rfl | exact ⟨rfl, rfl⟩ | exact absurd (by decide) hp

theorem State.setBridge_only (s : State) (x : Bridge) : Only [.bridge] s (s.setBridge x) := by
  intro p hp
  cases p <;> first | rfl | exact ⟨rfl, rfl⟩ | exact absurd (by decide) hp

theorem State.setEngs_only (s : State) (x : Store EngRun) : Only [.eng] s (s.setEngs x) := by
  intro p hp
  cases p <;> first | rfl | exact ⟨rfl, rfl⟩ | exact absurd (by decide) hp

theorem State.setRegs_only (s : State) (x : Regs) (h1 : x.shadow = s.regs.shadow) (h2 : x.active = s.regs.active)
    (h3 : x.live = s.regs.live) : Only [.regs] s (s.setRegs x) := by
  intro p hp
  cases p <;> first | exact h1 | exact h2 | exact h3 | rfl | exact ⟨rfl, rfl⟩ | exact absurd (by decide) hp

theorem State.setRegs_only_all (s : State) (x : Regs) : Only [.shadow, .active, .live, .regs] s (s.setRegs x) := by
  intro p hp
  cases p <;> first | rfl | exact ⟨rfl, rfl⟩ | exact absurd (by decide) hp

theorem setShadow_only (off : Nat) (w : Word) (s : State) : Only [.shadow] s (setShadow off w s) := by
  intro p hp
  cases p <;> first | rfl | exact ⟨rfl, rfl⟩ | exact absurd (by decide) hp

theorem setActive_only (off : Nat) (w : Word) (s : State) : Only [.active] s (setActive off w s) := by
  intro p hp
  cases p <;> first | rfl | exact ⟨rfl, rfl⟩ | exact absurd (by decide) hp

theorem setLive_only (off : Nat) (w : Word) (s : State) : Only [.live] s (setLive off w s) := by
  intro p hp
  cases p <;> first | rfl | exact ⟨rfl, rfl⟩ | exact absurd (by decide) hp

theorem State.setPorts_only (s : State) (x : HostPorts) : Only [.ports] s (s.setPorts x) := by
  intro p hp
  cases p <;> first | rfl | exact ⟨rfl, rfl⟩ | exact absurd (by decide) hp

theorem State.setDbg_only (s : State) (x : Debug) : Only [.dbg] s (s.setDbg x) := by
  intro p hp
  cases p <;> first | rfl | exact ⟨rfl, rfl⟩ | exact absurd (by decide) hp

theorem State.setCells_only (s : State) (x : Store Cell) : Only [.cells] s (s.setCells x) := by
  intro p hp
  cases p <;> first | rfl | exact ⟨rfl, rfl⟩ | exact absurd (by decide) hp

theorem State.setClus_only (s : State) (x : Store Cluster) : Only [.clus] s (s.setClus x) := by
  intro p hp
  cases p <;> first | rfl | exact ⟨rfl, rfl⟩ | exact absurd (by decide) hp

theorem State.setSecs_only (s : State) (x : Store Sector) : Only [.secs] s (s.setSecs x) := by
  intro p hp
  cases p <;> first | rfl | exact ⟨rfl, rfl⟩ | exact absurd (by decide) hp

theorem State.setInrush_only (s : State) (x : Store Inrush) : Only [.inrush] s (s.setInrush x) := by
  intro p hp
  cases p <;> first | rfl | exact ⟨rfl, rfl⟩ | exact absurd (by decide) hp

theorem State.setTrail_only (s : State) (x : Store TrailWin) : Only [.trail] s (s.setTrail x) := by
  intro p hp
  cases p <;> first | rfl | exact ⟨rfl, rfl⟩ | exact absurd (by decide) hp

theorem State.setFlt_only (s : State) (x : Faults) : Only [.flt] s (s.setFlt x) := by
  intro p hp
  cases p <;> first | rfl | exact ⟨rfl, rfl⟩ | exact absurd (by decide) hp

theorem State.setRecov_only (s : State) (x : Store Recovery) : Only [.recov] s (s.setRecov x) := by
  intro p hp
  cases p <;> first | rfl | exact ⟨rfl, rfl⟩ | exact absurd (by decide) hp

theorem State.setRings_only (s : State) (x : Store Ring) : Only [.rings] s (s.setRings x) := by
  intro p hp
  cases p <;> first | rfl | exact ⟨rfl, rfl⟩ | exact absurd (by decide) hp

theorem State.setWears_only (s : State) (x : Store Wear) : Only [.wears] s (s.setWears x) := by
  intro p hp
  cases p <;> first | rfl | exact ⟨rfl, rfl⟩ | exact absurd (by decide) hp

theorem State.setSparing_only (s : State) (x : Sparing) : Only [.sparing] s (s.setSparing x) := by
  intro p hp
  cases p <;> first | rfl | exact ⟨rfl, rfl⟩ | exact absurd (by decide) hp

theorem State.setTally_only (s : State) (x : Tally) : Only [.tally] s (s.setTally x) := by
  intro p hp
  cases p <;> first | rfl | exact ⟨rfl, rfl⟩ | exact absurd (by decide) hp

theorem State.setMem_only (s : State) (x : Memory) : Only [.mem] s (s.setMem x) := by
  intro p hp
  cases p <;> first | rfl | exact ⟨rfl, rfl⟩ | exact absurd (by decide) hp

theorem State.setStages_only (s : State) (x : Store Stage) : Only [.stages] s (s.setStages x) := by
  intro p hp
  cases p <;> first | rfl | exact ⟨rfl, rfl⟩ | exact absurd (by decide) hp

theorem State.setChans_only (s : State) (x : Store StgCh) : Only [.chans] s (s.setChans x) := by
  intro p hp
  cases p <;> first | rfl | exact ⟨rfl, rfl⟩ | exact absurd (by decide) hp

theorem State.setAdcs_only (s : State) (x : Store Adc) : Only [.adcs] s (s.setAdcs x) := by
  intro p hp
  cases p <;> first | rfl | exact ⟨rfl, rfl⟩ | exact absurd (by decide) hp

theorem State.setAdcOwed_only (s : State) (x : List (Nat × Nat)) : Only [.adcOwed] s (s.setAdcOwed x) := by
  intro p hp
  cases p <;> first | rfl | exact ⟨rfl, rfl⟩ | exact absurd (by decide) hp

theorem State.setLate_only (s : State) (x : List Late) : Only [.late] s (s.setLate x) := by
  intro p hp
  cases p <;> first | rfl | exact ⟨rfl, rfl⟩ | exact absurd (by decide) hp

theorem State.setQuads_only (s : State) (x : Store Quad) : Only [.quads] s (s.setQuads x) := by
  intro p hp
  cases p <;> first | rfl | exact ⟨rfl, rfl⟩ | exact absurd (by decide) hp

theorem State.setXchks_only (s : State) (x : Store Xchk) : Only [.xchks] s (s.setXchks x) := by
  intro p hp
  cases p <;> first | rfl | exact ⟨rfl, rfl⟩ | exact absurd (by decide) hp

theorem State.setTherm_only (s : State) (x : Therm) : Only [.therm] s (s.setTherm x) := by
  intro p hp
  cases p <;> first | rfl | exact ⟨rfl, rfl⟩ | exact absurd (by decide) hp

theorem State.setCap_only (s : State) (x : CapLoop) : Only [.cap] s (s.setCap x) := by
  intro p hp
  cases p <;> first | rfl | exact ⟨rfl, rfl⟩ | exact absurd (by decide) hp

theorem State.setJobs_only (s : State) (x : Store JobSlot) : Only [.jobs] s (s.setJobs x) := by
  intro p hp
  cases p <;> first | rfl | exact ⟨rfl, rfl⟩ | exact absurd (by decide) hp

theorem State.setBlk_only (s : State) (x : Blanket) : Only [.blk] s (s.setBlk x) := by
  intro p hp
  cases p <;> first | rfl | exact ⟨rfl, rfl⟩ | exact absurd (by decide) hp

theorem State.setPlan_only (s : State) (x : Plan) : Only [.plan] s (s.setPlan x) := by
  intro p hp
  cases p <;> first | rfl | exact ⟨rfl, rfl⟩ | exact absurd (by decide) hp

theorem State.setSeat_only (s : State) (x : Seat) : Only [.seat] s (s.setSeat x) := by
  intro p hp
  cases p <;> first | rfl | exact ⟨rfl, rfl⟩ | exact absurd (by decide) hp

theorem State.setLnk_only (s : State) (x : Links) : Only [.lnk] s (s.setLnk x) := by
  intro p hp
  cases p <;> first | rfl | exact ⟨rfl, rfl⟩ | exact absurd (by decide) hp

theorem State.setBoot_only (s : State) (x : Boot) : Only [.boot] s (s.setBoot x) := by
  intro p hp
  cases p <;> first | rfl | exact ⟨rfl, rfl⟩ | exact absurd (by decide) hp

theorem State.setCal_only (s : State) (x : CalStore) : Only [.cal] s (s.setCal x) := by
  intro p hp
  cases p <;> first | rfl | exact ⟨rfl, rfl⟩ | exact absurd (by decide) hp

theorem State.setPending_only (s : State) (x : List Instr) : Only [.pending] s (s.setPending x) := by
  intro p hp
  cases p <;> first | rfl | exact ⟨rfl, rfl⟩ | exact absurd (by decide) hp

theorem modRegs_only (f : Regs → Regs) (s : State) (h1 : ∀ r, (f r).shadow = r.shadow) (h2 : ∀ r, (f r).active = r.active)
    (h3 : ∀ r, (f r).live = r.live) : Only [.regs] s (modRegs f s) := State.setRegs_only _ _ (h1 _) (h2 _) (h3 _)

theorem modRegs_only_all (f : Regs → Regs) (s : State) : Only [.shadow, .active, .live, .regs] s (modRegs f s) :=
  State.setRegs_only_all _ _

end Sys2Proof.Machine
end

