-- ==== Sys2Proof/Laws/Frame.lean ====
section
/-! SUPPORT. The frame of every operation: the parts of the state it can change. One lemma an operation, each from
those of the operations it calls. -/

namespace Sys2Proof.Machine

theorem expire_only (l : Late) (s : State) : Only [.late] s (expire l s) := by
  unfold expire
  exact (Only.mono (State.setLate_only _ _) rfl)

theorem setBit_only (off i : Nat) (s : State) : Only [.live] s (setBit off i s) := by
  unfold setBit
  exact (Only.mono (setLive_only _ _ _) rfl)

theorem setField_only (off hi lo v : Nat) (s : State) : Only [.live] s (setField off hi lo v s) := by
  unfold setField
  exact (Only.mono (setLive_only _ _ _) rfl)

theorem bumpBy_only (off n : Nat) (s : State) : Only [.live] s (bumpBy off n s) := by
  unfold bumpBy
  exact (Only.mono (setLive_only _ _ _) rfl)

theorem bump_only (off : Nat) (s : State) : Only [.live] s (bump off s) := by
  unfold bump
  exact (Only.mono (bumpBy_only _ _ _) rfl)

theorem bumpF_only (off hi lo : Nat) (s : State) : Only [.live] s (bumpF off hi lo s) := by
  unfold bumpF
  exact (Only.mono (setField_only _ _ _ _ _) rfl)

theorem result_only (off data : Nat) (s : State) : Only [.live] s (result off data s) := by
  unfold result
  exact (Only.mono (setLive_only _ _ _) rfl)

theorem add64_only (lo hi : Nat) (n : Nat) (s : State) : Only [.live] s (add64 lo hi n s) := by
  unfold add64
  exact (Only.via (Only.mono (setLive_only _ _ _) rfl) (setLive_only _ _ _) rfl)

theorem refuse_only (page : Nat) (s : State) : Only [.live] s (refuse page s) := by
  unfold refuse
  exact (Only.mono (bumpF_only _ _ _ _) rfl)

theorem pageFlt_only (page bit : Nat) (s : State) : Only [.live] s (pageFlt page bit s) := by
  unfold pageFlt
  exact (Only.when (Only.refl _ _) _ _ (fun _ => (Only.mono (setBit_only _ _ _) rfl)))

theorem raise_only (src det : Nat) (s : State) : Only [.flt] s (raise src det s) := by
  unfold raise
  exact (Only.mono (State.setFlt_only _ _) rfl)

theorem raiseOn_only (src det page bit : Nat) (s : State) : Only [.live, .flt] s (raiseOn src det page bit s) := by
  unfold raiseOn
  exact (Only.via (Only.mono (raise_only _ _ _) rfl) (pageFlt_only _ _ _) rfl)

theorem respond_only (a : Access) (r : Response) (s : State) : Only [.ports] s (respond a r s) := by
  unfold respond
  exact (by split <;> exact (Only.mono (State.setPorts_only _ _) rfl))

theorem countNonsec_only (a : Access) (s : State) : Only [.live] s (countNonsec a s) := by
  unfold countNonsec
  exact (Only.via (Only.mono (bumpF_only _ _ _ _) rfl) (setLive_only _ _ _) rfl)

theorem formError_only (a : Access) (s : State) : Only [.live, .ports] s (formError a s) := by
  unfold formError
  exact (Only.via (Only.mono (bumpF_only _ _ _ _) rfl) (respond_only _ _ _) rfl)

theorem initSend_only (mig : Bool) (w : InitWrite) (s : State) : Only [.ports] s (initSend mig w s) := by
  unfold initSend
  exact (Only.mono (State.setPorts_only _ _) rfl)

theorem hostCmd_only (a : Access) (f : State → State) (s : State) {l : List Part} (hl : within [.ports] l = true)
    (hf : ∀ s, Only l s (f s)) : Only l s (hostCmd a f s) := by
  unfold hostCmd
  exact (Only.via (hf _) (respond_only _ _ _) (within_trans rfl hl))

theorem secureCmd_only (a : Access) (f : State → State) (s : State) {l : List Part} (hl : within [.live, .ports] l
    = true) (hf : ∀ s, Only l s (f s)) : Only l s (secureCmd a f s) := by
  unfold secureCmd
  exact (hostCmd_only _ _ _ (within_trans rfl hl) (fun _ => (Only.ite (hf _) (Only.mono (countNonsec_only _ _)
      (within_trans rfl hl)))))

theorem setCell_only (n : Nat) (c : Cell) (s : State) : Only [.cells] s (setCell n c s) := by
  unfold setCell
  exact (Only.mono (State.setCells_only _ _) rfl)

theorem modCell_only (n : Nat) (f : Cell → Cell) (s : State) : Only [.cells] s (modCell n f s) := by
  unfold modCell
  exact (Only.mono (setCell_only _ _ _) rfl)

theorem setClu_only (g : Nat) (c : Cluster) (s : State) : Only [.clus] s (setClu g c s) := by
  unfold setClu
  exact (Only.mono (State.setClus_only _ _) rfl)

theorem modClu_only (g : Nat) (f : Cluster → Cluster) (s : State) : Only [.clus] s (modClu g f s) := by
  unfold modClu
  exact (Only.mono (setClu_only _ _ _) rfl)

theorem setSec_only (n : Nat) (x : Sector) (s : State) : Only [.secs] s (setSec n x s) := by
  unfold setSec
  exact (Only.mono (State.setSecs_only _ _) rfl)

theorem modSec_only (n : Nat) (f : Sector → Sector) (s : State) : Only [.secs] s (modSec n f s) := by
  unfold modSec
  exact (Only.mono (setSec_only _ _ _) rfl)

theorem setStage_only (d : Nat) (x : Stage) (s : State) : Only [.stages] s (setStage d x s) := by
  unfold setStage
  exact (Only.mono (State.setStages_only _ _) rfl)

theorem modStage_only (d : Nat) (f : Stage → Stage) (s : State) : Only [.stages] s (modStage d f s) := by
  unfold modStage
  exact (Only.mono (setStage_only _ _ _) rfl)

theorem setCh_only (ch : Nat) (x : StgCh) (s : State) : Only [.chans] s (setCh ch x s) := by
  unfold setCh
  exact (Only.mono (State.setChans_only _ _) rfl)

theorem modCh_only (ch : Nat) (f : StgCh → StgCh) (s : State) : Only [.chans] s (modCh ch f s) := by
  unfold modCh
  exact (Only.mono (setCh_only _ _ _) rfl)

theorem setAdc_only (n : Nat) (x : Adc) (s : State) : Only [.adcs] s (setAdc n x s) := by
  unfold setAdc
  exact (Only.mono (State.setAdcs_only _ _) rfl)

theorem modAdc_only (n : Nat) (f : Adc → Adc) (s : State) : Only [.adcs] s (modAdc n f s) := by
  unfold modAdc
  exact (Only.mono (setAdc_only _ _ _) rfl)

theorem setQuad_only (q : Nat) (x : Quad) (s : State) : Only [.quads] s (setQuad q x s) := by
  unfold setQuad
  exact (Only.mono (State.setQuads_only _ _) rfl)

theorem modQuad_only (q : Nat) (f : Quad → Quad) (s : State) : Only [.quads] s (modQuad q f s) := by
  unfold modQuad
  exact (Only.mono (setQuad_only _ _ _) rfl)

theorem urgentPush_only (q chan who : Nat) (s : State) : Only [.live, .quads] s (urgentPush q chan who s) := by
  unfold urgentPush
  exact (Only.ite (Only.mono (modQuad_only _ _ _) rfl) (Only.mono (bump_only _ _) rfl))

theorem modRecov_only (d : Nat) (f : Recovery → Recovery) (s : State) : Only [.recov] s (modRecov d f s) := by
  unfold modRecov
  exact (Only.mono (State.setRecov_only _ _) rfl)

theorem setRing_only (q : Nat) (x : Ring) (s : State) : Only [.rings] s (setRing q x s) := by
  unfold setRing
  exact (Only.mono (State.setRings_only _ _) rfl)

theorem modRing_only (q : Nat) (f : Ring → Ring) (s : State) : Only [.rings] s (modRing q f s) := by
  unfold modRing
  exact (Only.mono (setRing_only _ _ _) rfl)

theorem setWear_only (n : Nat) (w : Wear) (s : State) : Only [.wears] s (setWear n w s) := by
  unfold setWear
  exact (Only.mono (State.setWears_only _ _) rfl)

theorem presentIso_only (q : Nat) (txns : List Txn) (s : State) : Only [.rings] s (presentIso q txns s) := by
  unfold presentIso
  exact (Only.mono (modRing_only _ _ _) rfl)

theorem ownerResetIn_only (q r : Nat) (s : State) : Only [.rings] s (ownerResetIn q r s) := by
  unfold ownerResetIn
  exact (Only.mono (modRing_only _ _ _) rfl)

theorem ownerReset_only (r : Nat) (s : State) : Only [.rings] s (ownerReset r s) := by
  unfold ownerReset
  exact (Only.forEach (Only.refl _ _) _ _ (fun _ _ => (Only.mono (ownerResetIn_only _ _ _) rfl)))

theorem ownerFault_only (r at0 : Nat) (s : State) : Only [.rings] s (ownerFault r at0 s) := by
  unfold ownerFault
  exact (Only.forEach (Only.refl _ _) _ _ (fun _ _ => (Only.mono (modRing_only _ _ _) rfl)))

theorem ringWithdrawIn_only (q r : Nat) (s : State) : Only [.rings] s (ringWithdrawIn q r s) := by
  unfold ringWithdrawIn
  exact (Only.mono (modRing_only _ _ _) rfl)

theorem ringWithdraw_only (r : Nat) (s : State) : Only [.rings] s (ringWithdraw r s) := by
  unfold ringWithdraw
  exact (Only.forEach (Only.refl _ _) _ _ (fun _ _ => (Only.mono (ringWithdrawIn_only _ _ _) rfl)))

theorem dropJobs_only (r : Nat) (p : Job → Bool) (s : State) : Only [.rings] s (dropJobs r p s) := by
  unfold dropJobs
  exact (Only.forEach (Only.refl _ _) _ _ (fun _ _ => (Only.mono (modRing_only _ _ _) rfl)))

theorem ringAsk_only (q : Nat) (t : Txn) (s : State) : Only [.rings] s (ringAsk q t s) := by
  unfold ringAsk
  exact (Only.mono (modRing_only _ _ _) rfl)

theorem setEng_only (cls i : Nat) (e : EngRun) (s : State) : Only [.eng] s (setEng cls i e s) := by
  unfold setEng
  exact (Only.mono (State.setEngs_only _ _) rfl)

theorem engStart_only (cls i : Nat) (s : State) : Only [.eng] s (engStart cls i s) := by
  unfold engStart
  exact (Only.mono (setEng_only _ _ _ _) rfl)

theorem recordSlack_only (cls slack : Nat) (s : State) : Only [.live] s (recordSlack cls slack s) := by
  unfold recordSlack
  exact (Only.ite (Only.when (Only.refl _ _) _ _ (fun _ => (Only.mono (setField_only _ _ _ _ _) rfl))) (Only.when
      (Only.refl _ _) _ _ (fun _ => (Only.mono (setLive_only _ _ _) rfl))))

theorem overrun_only (cls i : Nat) (s : State) : Only [.eng, .live, .flt] s (overrun cls i s) := by
  unfold overrun
  exact (Only.when (by
    split; exact (Only.via (Only.via (Only.via (Only.via (Only.mono (setEng_only _ _ _ _) rfl) (bump_only _ _) rfl)
        (recordSlack_only _ _ _) rfl) (raise_only _ _ _) rfl) (pageFlt_only _ _ _) rfl)
    exact (Only.via (Only.via (Only.via (Only.mono (setEng_only _ _ _ _) rfl) (bump_only _ _) rfl) (recordSlack_only
        _ _ _) rfl) (raise_only _ _ _) rfl)) _ _ (fun _ => (Only.mono (raise_only _ _ _) rfl)))

theorem latch_only (cls i : Nat) (commit missed : State → State) (s : State) {l : List Part} (hl : within [.eng,
    .live, .flt] l = true) (hcommit : ∀ s, Only l s (commit s)) (hmissed : ∀ s, Only l s (missed s)) : Only l s
    (latch cls i commit missed s) := by
  unfold latch
  exact (Only.ite (Only.trans (Only.mono (setEng_only _ _ _ _) (within_trans rfl hl)) (hcommit _)) (Only.trans
      (Only.mono (overrun_only _ _ _) (within_trans rfl hl)) (hmissed _)))

theorem complete_only (cls i : Nat) (s : State) : Only [.eng, .live] s (complete cls i s) := by
  unfold complete
  exact (by
    (dsimp only; split)
    exact (Only.ite (Only.via (Only.mono (setEng_only _ _ _ _) rfl) (recordSlack_only _ _ _) rfl) (Only.refl _ _))
    exact (Only.refl _ _))

theorem completeFaults_only (s : State) : Only [.live, .flt] s (completeFaults s) := by
  unfold completeFaults
  exact (Only.foldl (Only.mono (State.setFlt_only _ _) rfl) _ _ (fun _ _ => (Only.mono (recordSlack_only _ _ _)
      rfl)))

theorem setRef_only (r : Ref) (v : Bool) (s : State) : Only [.tb] s (setRef r v s) := by
  unfold setRef
  exact (by split <;> exact (Only.mono (State.setTb_only _ _ (by exact ⟨rfl, rfl⟩) (by exact ⟨rfl, rfl⟩)) rfl))

theorem setLostAt_only (r : Ref) (t : Nat) (s : State) : Only [.tb] s (setLostAt r t s) := by
  unfold setLostAt
  exact (by split <;> exact (Only.mono (State.setTb_only _ _ (by exact ⟨rfl, rfl⟩) (by exact ⟨rfl, rfl⟩)) rfl))

theorem switchRef_only (r : Ref) (s : State) : Only [.tb, .live] s (switchRef r s) := by
  unfold switchRef
  exact (Only.via (Only.mono (State.setTb_only _ _ (by
    exact ⟨rfl, rfl⟩) (by
    exact ⟨rfl, rfl⟩)) rfl) (bump_only _ _) rfl)

theorem holdOver_only (s : State) : Only [.tb, .flt] s (holdOver s) := by
  unfold holdOver
  exact (Only.via (Only.mono (State.setTb_only _ _ (by
    exact ⟨rfl, rfl⟩) (by
    exact ⟨rfl, rfl⟩)) rfl) (raise_only _ _ _) rfl)

theorem loseRef_only (r : Ref) (s : State) : Only [.tb, .live, .flt] s (loseRef r s) := by
  unfold loseRef
  exact (Only.ite (by
    split; exact (Only.via (Only.via (Only.via (Only.mono (setRef_only _ _ _) rfl) (setLostAt_only _ _ _) rfl)
        (switchRef_only _ _) rfl) (raise_only _ _ _) rfl)
    exact (Only.via (Only.via (Only.mono (setRef_only _ _ _) rfl) (setLostAt_only _ _ _) rfl) (holdOver_only _)
        rfl)) (Only.via (Only.via (Only.mono (setRef_only _ _ _) rfl) (setLostAt_only _ _ _) rfl) (raise_only _ _ _)
      rfl))

theorem regainRef_only (r : Ref) (s : State) : Only [.tb, .live] s (regainRef r s) := by
  unfold regainRef
  exact (Only.ite (Only.via (Only.via (Only.mono (setRef_only _ _ _) rfl) (State.setTb_only _ _ (by
    exact ⟨rfl, rfl⟩) (by
    exact ⟨rfl, rfl⟩)) rfl) (switchRef_only _ _) rfl) (Only.ite (Only.via (Only.mono (setRef_only _ _ _) rfl)
      (switchRef_only _ _) rfl) (Only.mono (setRef_only _ _ _) rfl)))

theorem holdoverOver_only (s : State) : Only [.tb, .flt] s (holdoverOver s) := by
  unfold holdoverOver
  exact (Only.when (Only.refl _ _) _ _ (fun _ => (Only.via (Only.mono (State.setTb_only _ _ (by
    exact ⟨rfl, rfl⟩) (by
    exact ⟨rfl, rfl⟩)) rfl) (raise_only _ _ _) rfl)))

theorem capture_only (p : Port) (s : State) : Only [.held] s (capture p s) := by
  unfold capture
  exact (by split <;> exact (Only.mono (State.setTb_only_held _ _ (by rfl)) rfl))

theorem readTickHi_only (p : Port) (s : State) : Only [.held] s (readTickHi p s).2 := by
  cases p <;> exact State.setTb_only_held _ _ rfl

theorem okWord_only (a : Access) (w : Word) (s : State) : Only [.ports] s (okWord a w s) := by
  unfold okWord
  exact (Only.mono (respond_only _ _ _) rfl)

theorem modPlan_only (f : Plan → Plan) (s : State) : Only [.plan] s (modPlan f s) := by
  unfold modPlan
  exact (Only.mono (State.setPlan_only _ _) rfl)

theorem setLog_only (k : UnitKind) (i : Nat) (w : Word) (s : State) : Only [.plan] s (setLog k i w s) := by
  unfold setLog
  exact (by split <;> exact (Only.mono (modPlan_only _ _) rfl))

theorem setPhys_only (k : UnitKind) (i : Nat) (w : Word) (s : State) : Only [.plan] s (setPhys k i w s) := by
  unfold setPhys
  exact (by split <;> exact (Only.mono (modPlan_only _ _) rfl))

theorem setRole_only (k : UnitKind) (i r logical : Nat) (s : State) : Only [.plan] s (setRole k i r logical s) := by
  unfold setRole
  exact (Only.mono (setPhys_only _ _ _ _) rfl)

theorem formAnswers_only (s : State) : Only [.seat] s (formAnswers s) := by
  unfold formAnswers
  exact (Only.ite (Only.refl _ _) (Only.mono (State.setSeat_only _ _) rfl))

theorem releaseSchuss_only (g : Nat) (s : State) : Only [.live, .clus] s (releaseSchuss g s) := by
  unfold releaseSchuss
  exact (Only.ite (Only.refl _ _) (Only.via (Only.when (Only.mono (setLive_only _ _ _) rfl) _ _ (fun _ => (Only.mono
      (setLive_only _ _ _) rfl))) (setClu_only _ _ _) rfl))

theorem schussCheck_only (g : Nat) (s : State) : Only [.live, .clus] s (schussCheck g s) := by
  unfold schussCheck
  exact (Only.ite (Only.mono (releaseSchuss_only _ _) rfl) (Only.refl _ _))

theorem droopEffect_only (g : Nat) (s : State) : Only [.live, .cells, .clus, .flt] s (droopEffect g s) := by
  unfold droopEffect
  exact (by
    (dsimp only; split)
    exact (Only.refl _ _)
    exact (Only.via (Only.foldl (Only.refl _ _) _ _ (fun _ _ => (Only.mono (modCell_only _ _ _) rfl))) (modClu_only
        _ _ _) rfl)
    exact (Only.via (Only.via (Only.via (Only.foldl (Only.refl _ _) _ _ (fun _ _ => (Only.mono (modCell_only _ _ _)
        rfl))) (setClu_only _ _ _) rfl) (bump_only _ _) rfl) (raise_only _ _ _) rfl))

theorem noteBeyond_only (g : Nat) (bad : Bool) (s : State) : Only [.seat] s (noteBeyond g bad s) := by
  unfold noteBeyond
  exact (Only.ite (Only.ite (Only.refl _ _) (Only.mono (State.setSeat_only _ _) rfl)) (Only.mono (State.setSeat_only
      _ _) rfl))

theorem judgeBeyond_only (g : Nat) (s : State) : Only [.live, .clus, .flt, .seat] s (judgeBeyond g s) := by
  unfold judgeBeyond
  exact (Only.when (Only.via (Only.mono (setClu_only _ _ _) rfl) (noteBeyond_only _ _ _) rfl) _ _ (fun _ =>
      (Only.mono (raiseOn_only _ _ _ _ _) rfl)))

theorem putTake_only (t : Takeover) (g : Nat) (s : State) : Only [.clus] s (putTake t g s) := by
  unfold putTake
  exact (Only.mono (modClu_only _ _ _) rfl)

theorem dropTake_only (g n : Nat) (s : State) : Only [.clus] s (dropTake g n s) := by
  unfold dropTake
  exact (Only.mono (modClu_only _ _ _) rfl)

theorem beginTakeover_only (g n : Nat) (s : State) : Only [.clus, .rings] s (beginTakeover g n s) := by
  unfold beginTakeover
  exact (by
    split; exact (Only.refl _ _)
    exact (Only.via (Only.mono (putTake_only _ _ _) rfl) (presentIso_only _ _ _) rfl))

theorem takeoverDone_only (g n : Nat) (s : State) : Only [.live, .clus, .flt] s (takeoverDone g n s) := by
  unfold takeoverDone
  exact (Only.via (Only.via (Only.mono (dropTake_only _ _ _) rfl) (bump_only _ _) rfl) (raise_only _ _ _) rfl)

theorem beginDuty_only (g n : Nat) (s : State) : Only [.clus, .rings] s (beginDuty g n s) := by
  unfold beginDuty
  exact (Only.via (Only.mono (putTake_only _ _ _) rfl) (ringAsk_only _ _ _) rfl)

theorem fillDuty_only (g : Nat) (s : State) : Only [.clus, .rings] s (fillDuty g s) := by
  unfold fillDuty
  exact (Only.ite (by split; exact (Only.mono (beginDuty_only _ _ _) rfl); exact (Only.refl _ _)) (Only.refl _ _))

theorem dropTrim_only (n : Nat) (s : State) : Only [.regs, .rings] s (dropTrim n s) := by
  unfold dropTrim
  exact (Only.via (Only.mono (State.setRegs_only _ _ (by rfl) (by rfl) (by rfl)) rfl) (dropJobs_only _ _ _) rfl)

theorem abandonRetrim_only (g : Nat) (s : State) : Only [.regs, .cells, .clus, .rings] s (abandonRetrim g s) := by
  unfold abandonRetrim
  exact (by
    split; exact (Only.ite (Only.via (Only.via (Only.mono (dropTrim_only _ _) rfl) (modCell_only _ _ _) rfl)
        (modClu_only _ _ _) rfl) (Only.refl _ _))
    exact (Only.refl _ _))

theorem cellLost_only (g n : Nat) (s : State) : Only [.live, .regs, .cells, .clus, .flt, .rings] s (cellLost g n s)
    := by
  unfold cellLost
  exact (by
    (dsimp only; split)
    exact (Only.via (Only.mono (abandonRetrim_only _ _) rfl) (beginTakeover_only _ _ _) rfl)
    exact (Only.ite (Only.via (Only.via (Only.via (Only.via (Only.via (Only.via (Only.mono (abandonRetrim_only _ _)
        rfl) (putTake_only _ _ _) rfl) (modCell_only _ _ _) rfl) (modClu_only _ _ _) rfl) (ownerResetIn_only _ _ _)
        rfl) (presentIso_only _ _ _) rfl) (takeoverDone_only _ _ _) rfl) (Only.via (Only.via (Only.via (Only.via
        (Only.via (Only.mono (abandonRetrim_only _ _) rfl) (putTake_only _ _ _) rfl) (modCell_only _ _ _) rfl)
        (modClu_only _ _ _) rfl) (ownerResetIn_only _ _ _) rfl) (presentIso_only _ _ _) rfl)))

theorem incomingLost_only (g n : Nat) (s : State) : Only [.clus, .flt, .rings] s (incomingLost g n s) := by
  unfold incomingLost
  exact (by
    split; exact (Only.via (Only.when (Only.mono (dropTake_only _ _ _) rfl) _ _ (fun _ => (Only.via (Only.mono
        (raise_only _ _ _) rfl) (ownerResetIn_only _ _ _) rfl))) (fillDuty_only _ _) rfl)
    exact (Only.refl _ _))

theorem rotationDropped_only (g n : Nat) (s : State) : Only [.cells, .clus, .flt, .rings] s (rotationDropped g n s)
    := by
  unfold rotationDropped
  exact (by
    split; exact (Only.ite (Only.via (Only.when (Only.refl _ _) _ _ (fun _ => (Only.mono (modCell_only _ _ _) rfl)))
        (incomingLost_only _ _ _) rfl) (Only.refl _ _))
    exact (Only.refl _ _))

theorem countIsolation_only (n : Nat) (s : State) : Only [.wears] s (countIsolation n s) := by
  unfold countIsolation
  exact (Only.mono (setWear_only _ _ _) rfl)

theorem isolate_only (n cause : Nat) (s : State) : Only [.live, .regs, .cells, .clus, .flt, .rings, .wears, .seat]
    s (isolate n cause s) := by
  unfold isolate
  exact (Only.via (Only.via (Only.when (Only.when (Only.via (Only.mono (setCell_only _ _ _) rfl)
      (countIsolation_only _ _) rfl) _ _ (fun _ => (Only.mono (incomingLost_only _ _ _) rfl))) _ _ (fun _ =>
      (Only.mono (cellLost_only _ _ _) rfl))) (judgeBeyond_only _ _) rfl) (schussCheck_only _ _) rfl)

theorem cellFault_only (src n cause : Nat) (s : State) : Only [.live, .regs, .cells, .clus, .flt, .rings, .wears,
    .seat] s (cellFault src n cause s) := by
  unfold cellFault
  exact (Only.via (Only.mono (raiseOn_only _ _ _ _ _) rfl) (isolate_only _ _ _) rfl)

theorem legsExhausted_only (n : Nat) (s : State) : Only [.live, .regs, .cells, .clus, .flt, .rings, .wears, .seat]
    s (legsExhausted n s) := by
  unfold legsExhausted
  exact (Only.ite (Only.mono (cellFault_only _ _ _ _) rfl) (Only.mono (modClu_only _ _ _) rfl))

theorem spareOver_only (g : Nat) (s : State) : Only [.live, .regs, .cells, .clus, .flt, .rings, .wears, .seat] s
    (spareOver g s) := by
  unfold spareOver
  exact (Only.foldl (Only.refl _ _) _ _ (fun _ _ => (Only.when (Only.refl _ _) _ _ (fun _ => (Only.via (Only.mono
      (raise_only _ _ _) rfl) (isolate_only _ _ _) rfl)))))

theorem startSpare_only (g n : Nat) (s : State) : Only [.live, .cells, .clus, .flt, .seat] s (startSpare g n s) :=
    by
  unfold startSpare
  exact (by
    split; exact (Only.ite (Only.via (Only.mono (setCell_only _ _ _) rfl) (judgeBeyond_only _ _) rfl) (Only.refl _
        _))
    exact (Only.refl _ _))

theorem enterStandby_only (g n : Nat) (s : State) : Only [.live, .cells, .clus, .flt, .rings, .seat] s
    (enterStandby g n s) := by
  unfold enterStandby
  exact (Only.via (Only.via (Only.mono (setCell_only _ _ _) rfl) (fillDuty_only _ _) rfl) (judgeBeyond_only _ _)
      rfl)

theorem enableCluster_only (g preset : Nat) (s : State) : Only [.live, .cells, .clus, .flt, .seat] s (enableCluster
    g preset s) := by
  unfold enableCluster
  exact (Only.via (Only.via (Only.foldl (Only.foldl (Only.foldl (Only.refl _ _) _ _ (fun _ _ => (Only.mono
      (setCell_only _ _ _) rfl))) _ _ (fun _ _ => (Only.mono (setCell_only _ _ _) rfl))) _ _ (fun _ _ => (Only.ite
      (Only.mono (setCell_only _ _ _) rfl) (Only.mono (setCell_only _ _ _) rfl)))) (modClu_only _ _ _) rfl)
      (judgeBeyond_only _ _) rfl)

theorem cellsOff_only (g : Nat) (s : State) : Only [.live, .cells, .clus, .flt, .rings, .seat] s (cellsOff g s) :=
    by
  unfold cellsOff
  exact (Only.via (Only.via (Only.via (Only.foldl (Only.when (Only.refl _ _) _ _ (fun _ => (Only.via (Only.mono
      (raise_only _ _ _) rfl) (ownerResetIn_only _ _ _) rfl))) _ _ (fun _ _ => (Only.ite (Only.mono (setCell_only _
      _ _) rfl) (Only.refl _ _)))) (modClu_only _ _ _) rfl) (judgeBeyond_only _ _) rfl) (schussCheck_only _ _) rfl)

theorem retireSensor_only (g tap : Nat) (s : State) : Only [.clus, .flt] s (retireSensor g tap s) := by
  unfold retireSensor
  exact (Only.ite (Only.via (Only.mono (setClu_only _ _ _) rfl) (raise_only _ _ _) rfl) (Only.refl _ _))

theorem askTap_only (g : Nat) (s : State) : Only [.live, .clus, .quads] s (askTap g s) := by
  unfold askTap
  exact (Only.via (Only.when (Only.refl _ _) _ _ (fun _ => (Only.mono (modClu_only _ _ _) rfl))) (urgentPush_only _
      _ _ _) rfl)

theorem updateK_only (g tap at0 : Nat) (s : State) : Only [.live, .clus, .flt] s (updateK g tap at0 s) := by
  unfold updateK
  exact (by
    (dsimp only; split)
    exact (Only.refl _ _)
    exact (Only.ite (Only.refl _ _) (Only.when (Only.mono (setClu_only _ _ _) rfl) _ _ (fun _ => (Only.mono
        (raiseOn_only _ _ _ _ _) rfl)))))

theorem storeBoth_only (off : Nat) (w : Word) (s : State) : Only [.shadow, .active, .live, .regs] s (storeBoth off
    w s) := by
  unfold storeBoth
  exact (Only.when (Only.mono (State.setRegs_only_all _ _) rfl) _ _ (fun _ => (Only.mono (setField_only _ _ _ _ _)
      rfl)))

theorem owedTrim_only (q : Nat) (s : State) : Only [.cal] s (owedTrim q s) := by
  unfold owedTrim
  exact (Only.ite (Only.refl _ _) (Only.mono (State.setCal_only _ _) rfl))

theorem cellIsolateCmd_only (n : Nat) (s : State) : Only [.live, .regs, .cells, .clus, .flt, .rings, .wears, .seat]
    s (cellIsolateCmd n s) := by
  unfold cellIsolateCmd
  exact (Only.ite (Only.mono (isolate_only _ _ _) rfl) (Only.refl _ _))

theorem cellRetestCmd_only (n : Nat) (s : State) : Only [.live, .cells, .clus] s (cellRetestCmd n s) := by
  unfold cellRetestCmd
  exact (Only.when (Only.refl _ _) _ _ (fun _ => (Only.via (Only.via (Only.mono (modCell_only _ _ _) rfl)
      (modClu_only _ _ _) rfl) (setLive_only _ _ _) rfl)))

theorem cellPassCmd_only (n : Nat) (s : State) : Only [.cells, .rings] s (cellPassCmd n s) := by
  unfold cellPassCmd
  exact (Only.when (Only.refl _ _) _ _ (fun _ => (Only.via (Only.mono (modCell_only _ _ _) rfl) (ringAsk_only _ _ _)
      rfl)))

theorem cellFailCmd_only (n : Nat) (s : State) : Only [.live, .regs, .cells, .clus, .flt, .rings, .wears, .seat] s
    (cellFailCmd n s) := by
  unfold cellFailCmd
  exact (Only.when (Only.refl _ _) _ _ (fun _ => (Only.via (Only.mono (dropTrim_only _ _) rfl) (isolate_only _ _ _)
      rfl)))

theorem beginRotation_only (g sp out : Nat) (s : State) : Only [.clus, .rings] s (beginRotation g sp out s) := by
  unfold beginRotation
  exact (Only.via (Only.mono (putTake_only _ _ _) rfl) (ringAsk_only _ _ _) rfl)

theorem cellRotateCmd_only (n : Nat) (s : State) : Only [.clus, .rings] s (cellRotateCmd n s) := by
  unfold cellRotateCmd
  exact (Only.ite (Only.ite (Only.mono (beginDuty_only _ _ _) rfl) (by
    split; exact (Only.mono (beginRotation_only _ _ _ _) rfl)
    exact (Only.refl _ _))) (Only.refl _ _))

theorem cellCmdEffect_only (op n : Nat) (s : State) : Only [.live, .regs, .cells, .clus, .flt, .rings, .wears,
    .seat] s (cellCmdEffect op n s) := by
  unfold cellCmdEffect
  exact (Only.ite (Only.mono (cellIsolateCmd_only _ _) rfl) (Only.ite (Only.mono (cellRetestCmd_only _ _) rfl)
      (Only.ite (Only.mono (cellPassCmd_only _ _) rfl) (Only.ite (Only.mono (cellFailCmd_only _ _) rfl) (Only.ite
      (Only.mono (cellRotateCmd_only _ _) rfl) (Only.refl _ _))))))

theorem cellCommand_only (sc op : Nat) (k : BitVec 6) (s : State) : Only [.live, .rings] s (cellCommand sc op k s)
    := by
  unfold cellCommand
  exact (Only.ite (Only.refl _ _) (Only.ite (Only.mono (ringAsk_only _ _ _) rfl) (Only.mono (refuse_only _ _) rfl)))

theorem setWin_only (q : Nat) (w : TrailWin) (s : State) : Only [.trail] s (setWin q w s) := by
  unfold setWin
  exact (Only.mono (State.setTrail_only _ _) rfl)

theorem modWin_only (q : Nat) (f : TrailWin → TrailWin) (s : State) : Only [.trail] s (modWin q f s) := by
  unfold modWin
  exact (Only.mono (setWin_only _ _ _) rfl)

theorem setSlot_only (q i : Nat) (x : Slot) (s : State) : Only [.trail] s (setSlot q i x s) := by
  unfold setSlot
  exact (Only.mono (modWin_only _ _ _) rfl)

theorem dropSlot_only (q i : Nat) (s : State) : Only [.trail] s (dropSlot q i s) := by
  unfold dropSlot
  exact (Only.mono (modWin_only _ _ _) rfl)

theorem issuePre_only (sc : Nat) (keys : List Nat) (s : State) : Only [.secs] s (issuePre sc keys s) := by
  unfold issuePre
  exact (Only.mono (modSec_only _ _ _) rfl)

theorem retarget_only (sc : Nat) (s : State) : Only [.secs] s (retarget sc s) := by
  unfold retarget
  exact (Only.mono (issuePre_only _ _ _) rfl)

theorem preRefused_only (key : Nat) (s : State) : Only [.trail] s (preRefused key s) := by
  unfold preRefused
  exact (by split; exact (Only.mono (setSlot_only _ _ _ _) rfl); exact (Only.refl _ _))

theorem report_only (sc key : Nat) (missed : Bool) (s : State) : Only [.secs] s (report sc key missed s) := by
  unfold report
  exact (Only.mono (modSec_only _ _ _) rfl)

theorem flushSlot_only (keepPre : Bool) (q i : Nat) (s : State) : Only [.live, .secs, .trail] s (flushSlot keepPre
    q i s) := by
  unfold flushSlot
  exact (by
    split; exact (Only.refl _ _)
    exact (Only.when (Only.when (Only.via (Only.mono (dropSlot_only _ _ _) rfl) (bump_only _ _) rfl) _ _ (fun _ =>
        (Only.mono (report_only _ _ _ _) rfl))) _ _ (fun _ => (Only.mono (retarget_only _ _) rfl))))

theorem flushWhere_only (keepPre : Bool) (q : Nat) (p : Slot → Bool) (s : State) : Only [.live, .secs, .trail] s
    (flushWhere keepPre q p s) := by
  unfold flushWhere
  exact (Only.foldl (Only.refl _ _) _ _ (fun _ _ => (Only.mono (flushSlot_only _ _ _ _) rfl)))

theorem flushWindow_only (keepPre : Bool) (q : Nat) (s : State) : Only [.live, .secs, .trail] s (flushWindow
    keepPre q s) := by
  unfold flushWindow
  exact (Only.mono (flushWhere_only _ _ _ _) rfl)

theorem flushSector_only (sc : Nat) (s : State) : Only [.live, .secs, .trail] s (flushSector sc s) := by
  unfold flushSector
  exact (Only.mono (flushWhere_only _ _ _ _) rfl)

theorem cancelRec_only (q : Nat) (r : Rec) (s : State) : Only [.live, .secs, .trail] s (cancelRec q r s) := by
  unfold cancelRec
  exact (Only.ite (Only.via (Only.foldl (Only.refl _ _) _ _ (fun _ _ => (by
    split; exact (Only.mono (flushSlot_only _ _ _ _) rfl)
    exact (Only.via (Only.mono (dropSlot_only _ _ _) rfl) (retarget_only _ _) rfl)
    exact (Only.mono (dropSlot_only _ _ _) rfl)))) (bumpF_only _ _ _ _) rfl) (Only.via (Only.foldl (Only.refl _ _) _
      _ (fun _ _ => (by
    split; exact (Only.mono (flushSlot_only _ _ _ _) rfl)
    exact (Only.via (Only.mono (dropSlot_only _ _ _) rfl) (retarget_only _ _) rfl)
    exact (Only.mono (dropSlot_only _ _ _) rfl)))) (bumpF_only _ _ _ _) rfl))

theorem dropForm_only (q : Nat) (s : State) : Only [.live, .flt] s (dropForm q s) := by
  unfold dropForm
  exact (Only.via (Only.mono (bump_only _ _) rfl) (raiseOn_only _ _ _ _ _) rfl)

theorem acceptRec_only (q : Nat) (h : HeldPush) (s0 : State) : Only [.live, .secs, .trail, .flt] s0 (acceptRec q h
    s0) := by
  unfold acceptRec
  exact (Only.ite (Only.via (Only.when (Only.mono (bump_only _ _) rfl) _ _ (fun _ => (Only.mono (modWin_only _ _ _)
      rfl))) (bump_only _ _) rfl) (Only.ite (Only.via (Only.when (Only.mono (bump_only _ _) rfl) _ _ (fun _ =>
      (Only.mono (modWin_only _ _ _) rfl))) (dropForm_only _ _) rfl) (Only.ite (Only.via (Only.when (Only.mono
      (bump_only _ _) rfl) _ _ (fun _ => (Only.mono (modWin_only _ _ _) rfl))) (cancelRec_only _ _ _) rfl) (by
    split; exact (Only.via (Only.when (Only.mono (bump_only _ _) rfl) _ _ (fun _ => (Only.mono (modWin_only _ _ _)
        rfl))) (bump_only _ _) rfl)
    exact (Only.via (Only.when (Only.mono (bump_only _ _) rfl) _ _ (fun _ => (Only.mono (modWin_only _ _ _) rfl)))
        (bump_only _ _) rfl)
    exact (Only.ite (Only.via (Only.when (Only.mono (bump_only _ _) rfl) _ _ (fun _ => (Only.mono (modWin_only _ _
        _) rfl))) (bump_only _ _) rfl) (Only.ite (Only.via (Only.when (Only.mono (bump_only _ _) rfl) _ _ (fun _ =>
        (Only.mono (modWin_only _ _ _) rfl))) (bump_only _ _) rfl) (Only.via (Only.when (Only.mono (bump_only _ _)
        rfl) _ _ (fun _ => (Only.mono (modWin_only _ _ _) rfl))) (setSlot_only _ _ _ _) rfl)))))))

theorem retryPush_only (q : Nat) (s : State) : Only [.live, .ports, .flt] s (retryPush q s) := by
  unfold retryPush
  exact (Only.via (Only.via (Only.mono (bump_only _ _) rfl) (raiseOn_only _ _ _ _ _) rfl) (State.setPorts_only _ _)
      rfl)

theorem pushRec_only (a : Access) (q : Nat) (b : BitVec 128) (s : State) : Only [.live, .ports, .secs, .trail,
    .flt] s (pushRec a q b s) := by
  unfold pushRec
  exact (Only.ite (Only.via (Only.mono (acceptRec_only _ _ _) rfl) (respond_only _ _ _) rfl) (Only.ite (Only.via
      (Only.mono (setWin_only _ _ _) rfl) (respond_only _ _ _) rfl) (Only.mono (retryPush_only _ _) rfl)))

theorem trailWrite_only (a : Access) (f : Form) (b : BitVec 128) (s : State) : Only [.live, .ports, .secs, .trail,
    .flt] s (trailWrite a f b s) := by
  unfold trailWrite
  exact (Only.ite (Only.mono (respond_only _ _ _) rfl) (Only.ite (Only.mono (pushRec_only _ _ _ _) rfl) (Only.via
      (Only.mono (formError_only _ _) rfl) (dropForm_only _ _) rfl)))

theorem takeHeld_only (q : Nat) (s : State) : Only [.live, .ports, .secs, .trail, .flt] s (takeHeld q s) := by
  unfold takeHeld
  exact (by
    split; exact (Only.refl _ _)
    exact (Only.via (Only.via (Only.mono (modWin_only _ _ _) rfl) (acceptRec_only _ _ _) rfl) (respond_only _ _ _)
        rfl))

theorem endHold_only (q : Nat) (s : State) : Only [.live, .ports, .secs, .trail, .flt] s (endHold q s) := by
  unfold endHold
  exact (Only.ite (Only.refl _ _) (Only.ite (Only.mono (takeHeld_only _ _) rfl) (Only.via (Only.mono (modWin_only _
      _ _) rfl) (retryPush_only _ _) rfl)))

theorem pushOver_only (q : Nat) (s : State) : Only [.live, .ports, .secs, .trail, .flt] s (pushOver q s) := by
  unfold pushOver
  exact (Only.forEach (Only.refl _ _) _ _ (fun _ _ => (Only.mono (endHold_only _ _) rfl)))

theorem presentSlot_only (q i : Nat) (x : Slot) (di : Int) (s0 : State) : Only [.live, .secs, .trail] s0
    (presentSlot q i x di s0) := by
  unfold presentSlot
  exact (Only.ite (Only.via (Only.via (Only.when (Only.refl _ _) _ _ (fun _ => (Only.mono (bump_only _ _) rfl)))
      (setSec_only _ _ _) rfl) (setSlot_only _ _ _ _) rfl) (Only.via (Only.via (Only.when (Only.refl _ _) _ _ (fun _
      => (Only.mono (bump_only _ _) rfl))) (dropSlot_only _ _ _) rfl) (bump_only _ _) rfl))

theorem latchSlot_only (q i : Nat) (s : State) : Only [.live, .secs, .trail] s (latchSlot q i s) := by
  unfold latchSlot
  exact (by
    split; exact (Only.refl _ _)
    exact (Only.ite (Only.refl _ _) (Only.ite (Only.via (Only.via (Only.mono (setSlot_only _ _ _ _) rfl) (bump_only
        _ _) rfl) (report_only _ _ _ _) rfl) (Only.mono (setSlot_only _ _ _ _) rfl))))

theorem issueSlot_only (q i : Nat) (s : State) : Only [.secs, .trail] s (issueSlot q i s) := by
  unfold issueSlot
  exact (by
    split; exact (Only.refl _ _)
    exact (Only.ite (Only.via (Only.mono (setSlot_only _ _ _ _) rfl) (issuePre_only _ _ _) rfl) (Only.refl _ _)))

theorem trailLatch_only (sc : Nat) (s : State) : Only [.live, .secs, .trail] s (trailLatch sc s) := by
  unfold trailLatch
  exact (Only.foldl (Only.foldl (Only.refl _ _) _ _ (fun _ _ => (Only.mono (issueSlot_only _ _ _) rfl))) _ _ (fun _
      _ => (Only.mono (latchSlot_only _ _ _) rfl)))

theorem flushCmd_only (mask : Nat) (s : State) : Only [.live, .secs, .trail] s (flushCmd mask s) := by
  unfold flushCmd
  exact (Only.forEach (Only.refl _ _) _ _ (fun _ _ => (Only.when (Only.refl _ _) _ _ (fun _ => (Only.mono
      (flushWindow_only _ _ _) rfl)))))

theorem sampleLegs_only (g : Nat) (s : State) : Only [.live] s (sampleLegs g s) := by
  unfold sampleLegs
  exact (Only.forEach (Only.refl _ _) _ _ (fun _ _ => (Only.mono (setLive_only _ _ _) rfl)))

theorem chargeCell_only (m total frac : Nat) (n : Nat) (s : State) : Only [.wears] s (chargeCell m total frac n s)
    := by
  unfold chargeCell
  exact (Only.mono (setWear_only _ _ _) rfl)

theorem chargeWear_only (g : Nat) (s : State) : Only [.wears] s (chargeWear g s) := by
  unfold chargeWear
  exact (Only.foldl (Only.refl _ _) _ _ (fun _ _ => (Only.mono (chargeCell_only _ _ _ _ _) rfl)))

theorem sampleClu_only (g : Nat) (x : ClusterSense) (s0 : State) : Only [.live, .clus, .wears] s0 (sampleClu g x
    s0) := by
  unfold sampleClu
  exact (Only.via (Only.via (Only.via (Only.mono (sampleLegs_only _ _) rfl) (chargeWear_only _ _) rfl) (setClu_only
      _ _ _) rfl) (result_only _ _ _) rfl)

theorem storeInteg_only (sc : Nat) (s : State) : Only [.secs] s (storeInteg sc s) := by
  unfold storeInteg
  exact (Only.mono (modSec_only _ _ _) rfl)

theorem issueGb_only (sc : Nat) (s : State) : Only [.secs] s (issueGb sc s) := by
  unfold issueGb
  exact (Only.when (Only.refl _ _) _ _ (fun _ => (Only.mono (modSec_only _ _ _) rfl)))

theorem dropPeriod_only (sc : Nat) (s : State) : Only [.eng, .secs] s (dropPeriod sc s) := by
  unfold dropPeriod
  exact (Only.via (Only.mono (modSec_only _ _ _) rfl) (setEng_only _ _ _ _) rfl)

theorem engineOff_only (sc : Nat) (s : State) : Only [.eng, .live, .clus, .secs, .trail] s (engineOff sc s) := by
  unfold engineOff
  exact (Only.ite (Only.refl _ _) (Only.forEach (Only.via (Only.via (Only.via (Only.mono (flushSector_only _ _) rfl)
      (storeInteg_only _ _) rfl) (dropPeriod_only _ _) rfl) (modSec_only _ _ _) rfl) _ _ (fun _ _ => (Only.mono
      (modClu_only _ _ _) rfl))))

theorem engineRetain_only (sc : Nat) (s : State) : Only [.live, .secs, .trail] s (engineRetain sc s) := by
  unfold engineRetain
  exact (Only.ite (Only.via (Only.via (Only.mono (flushSector_only _ _) rfl) (storeInteg_only _ _) rfl) (modSec_only
      _ _ _) rfl) (Only.refl _ _))

theorem engineWake_only (sc : Nat) (s : State) : Only [.secs] s (engineWake sc s) := by
  unfold engineWake
  exact (Only.ite (Only.refl _ _) (Only.mono (modSec_only _ _ _) rfl))

theorem voidStore_only (sc : Nat) (s : State) : Only [.secs] s (voidStore sc s) := by
  unfold voidStore
  exact (Only.mono (modSec_only _ _ _) rfl)

theorem engineStart_only (sc : Nat) (s0 : State) : Only [.eng, .live, .clus, .secs] s0 (engineStart sc s0) := by
  unfold engineStart
  exact (Only.via (Only.via (Only.when (Only.when (Only.forEach (Only.mono (modSec_only _ _ _) rfl) _ _ (fun _ _ =>
      (Only.mono (modClu_only _ _ _) rfl))) _ _ (fun _ => (Only.mono (bump_only _ _) rfl))) _ _ (fun _ => (Only.mono
      (bump_only _ _) rfl))) (modSec_only _ _ _) rfl) (engStart_only _ _ _) rfl)

theorem addLegs_only (g : Nat) (f : Int) (s : State) : Only [.cells] s (addLegs g f s) := by
  unfold addLegs
  exact (Only.foldl (Only.refl _ _) _ _ (fun _ _ => (Only.mono (modCell_only _ _ _) rfl)))

theorem latchClu_only (sc c : Nat) (r : EngRes) (s : State) : Only [.live, .cells, .clus] s (latchClu sc c r s) :=
    by
  unfold latchClu
  exact (Only.via (Only.when (Only.mono (modClu_only _ _ _) rfl) _ _ (fun _ => (Only.mono (addLegs_only _ _ _)
      rfl))) (result_only _ _ _) rfl)

theorem keepPeak_only (g m : Nat) (s : State) : Only [.seat] s (keepPeak g m s) := by
  unfold keepPeak
  exact (Only.mono (State.setSeat_only _ _) rfl)

theorem closeMeans_only (sc : Nat) (s : State) : Only [.seat] s (closeMeans sc s) := by
  unfold closeMeans
  exact (Only.when (Only.refl _ _) _ _ (fun _ => (Only.forEach (Only.refl _ _) _ _ (fun _ _ => (Only.mono
      (keepPeak_only _ _ _) rfl)))))

theorem enterSuspect_only (sc : Nat) (s : State) : Only [.live, .secs, .flt] s (enterSuspect sc s) := by
  unfold enterSuspect
  exact (Only.via (Only.via (Only.via (Only.mono (modSec_only _ _ _) rfl) (bump_only _ _) rfl) (raiseOn_only _ _ _ _
      _) rfl) (issueGb_only _ _) rfl)

theorem leaveSuspect_only (sc : Nat) (s : State) : Only [.secs] s (leaveSuspect sc s) := by
  unfold leaveSuspect
  exact (Only.via (Only.mono (modSec_only _ _ _) rfl) (issueGb_only _ _) rfl)

theorem latchSec_only (sc : Nat) (r : EngRes) (s : State) : Only [.live, .secs, .flt] s (latchSec sc r s) := by
  unfold latchSec
  exact (Only.when (Only.when (Only.via (Only.via (Only.when (by
    split; exact (Only.via (Only.mono (modSec_only _ _ _) rfl) (result_only _ _ _) rfl)
    exact (Only.mono (modSec_only _ _ _) rfl)) _ _ (fun _ => (Only.mono (result_only _ _ _) rfl))) (setLive_only _ _
      _) rfl) (setLive_only _ _ _) rfl) _ _ (fun _ => (Only.mono (enterSuspect_only _ _) rfl))) _ _ (fun _ =>
      (Only.mono (leaveSuspect_only _ _) rfl)))

theorem engineCommit_only (sc : Nat) (s : State) : Only [.live, .cells, .clus, .secs, .trail, .flt, .seat] s
    (engineCommit sc s) := by
  unfold engineCommit
  exact (by
    split; exact (Only.refl _ _)
    exact (Only.via (Only.via (Only.via (Only.forEach (Only.refl _ _) _ _ (fun _ _ => (Only.mono (latchClu_only _ _
        _ _) rfl))) (latchSec_only _ _ _) rfl) (closeMeans_only _ _) rfl) (trailLatch_only _ _) rfl))

theorem heldLatch_only (sc : Nat) (s : State) : Only [.live, .clus, .secs, .trail, .seat] s (heldLatch sc s) := by
  unfold heldLatch
  exact (Only.via (Only.via (Only.via (Only.forEach (Only.refl _ _) _ _ (fun _ _ => (Only.mono (modClu_only _ _ _)
      rfl))) (setLive_only _ _ _) rfl) (closeMeans_only _ _) rfl) (trailLatch_only _ _) rfl)

theorem engineMissed_only (sc : Nat) (s : State) : Only [.live, .clus, .secs, .trail, .seat] s (engineMissed sc s)
    := by
  unfold engineMissed
  exact (Only.via (Only.mono (modSec_only _ _ _) rfl) (heldLatch_only _ _) rfl)

theorem beginSwitch_only (toSpare : Bool) (sc : Nat) (s : State) : Only [.eng, .secs] s (beginSwitch toSpare sc s)
    := by
  unfold beginSwitch
  exact (Only.via (Only.mono (dropPeriod_only _ _) rfl) (modSec_only _ _ _) rfl)

theorem swapHistory_only (toSpare : Bool) (sc : Nat) (s : State) : Only [.eng] s (swapHistory toSpare sc s) := by
  unfold swapHistory
  exact (Only.via (Only.mono (setEng_only _ _ _ _) rfl) (setEng_only _ _ _ _) rfl)

theorem engineSwitch_only (toSpare : Bool) (sc : Nat) (s0 : State) : Only [.eng, .live, .secs, .flt] s0
    (engineSwitch toSpare sc s0) := by
  unfold engineSwitch
  exact (Only.when (Only.when (Only.via (Only.mono (swapHistory_only _ _ _) rfl) (modSec_only _ _ _) rfl) _ _ (fun _
      => (Only.mono (engineWake_only _ _) rfl))) _ _ (fun _ => (Only.mono (raiseOn_only _ _ _ _ _) rfl)))

theorem goDark_only (sc : Nat) (s0 : State) : Only [.eng, .live, .clus, .secs, .trail, .flt] s0 (goDark sc s0) := by
  unfold goDark
  exact (Only.via (Only.via (Only.forEach (Only.via (Only.via (Only.mono (flushSector_only _ _) rfl)
      (dropPeriod_only _ _) rfl) (modSec_only _ _ _) rfl) _ _ (fun _ _ => (Only.mono (modClu_only _ _ _) rfl)))
      (setLive_only _ _ _) rfl) (raiseOn_only _ _ _ _ _) rfl)

theorem markEngine_only (sc : Nat) (s : State) : Only [.secs, .sparing] s (markEngine sc s) := by
  unfold markEngine
  exact (Only.ite (Only.ite (Only.refl _ _) (Only.mono (State.setSparing_only _ _) rfl)) (Only.ite (Only.refl _ _)
      (Only.via (Only.mono (State.setSparing_only _ _) rfl) (modSec_only _ _ _) rfl)))

theorem engineLost_only (sc at0 : Nat) (s : State) : Only [.eng, .live, .clus, .secs, .trail, .flt, .sparing] s
    (engineLost sc at0 s) := by
  unfold engineLost
  exact (Only.ite (Only.refl _ _) (Only.ite (Only.mono (markEngine_only _ _) rfl) (Only.ite (Only.ite (Only.via
      (Only.mono (markEngine_only _ _) rfl) (goDark_only _ _) rfl) (Only.via (Only.mono (markEngine_only _ _) rfl)
      (beginSwitch_only _ _ _) rfl)) (Only.ite (Only.via (Only.mono (markEngine_only _ _) rfl) (beginSwitch_only _ _
      _) rfl) (Only.via (Only.mono (markEngine_only _ _) rfl) (goDark_only _ _) rfl)))))

theorem plausClear_only (sc : Nat) (s : State) : Only [.secs] s (plausClear sc s) := by
  unfold plausClear
  exact (Only.when (Only.refl _ _) _ _ (fun _ => (Only.mono (leaveSuspect_only _ _) rfl)))

theorem toSpareCmd_only (sc : Nat) (s : State) : Only [.eng, .live, .secs] s (toSpareCmd sc s) := by
  unfold toSpareCmd
  exact (Only.ite (Only.mono (beginSwitch_only _ _ _) rfl) (Only.mono (refuse_only _ _) rfl))

theorem handbackCmd_only (sc : Nat) (s : State) : Only [.eng, .live, .secs] s (handbackCmd sc s) := by
  unfold handbackCmd
  exact (Only.ite (Only.mono (beginSwitch_only _ _ _) rfl) (Only.mono (refuse_only _ _) rfl))

theorem secCommand_only (sc : Nat) (w : Word) (s : State) : Only [.eng, .live, .secs] s (secCommand sc w s) := by
  unfold secCommand
  exact (Only.when (Only.when (Only.when (Only.refl _ _) _ _ (fun _ => (Only.mono (plausClear_only _ _) rfl))) _ _
      (fun _ => (Only.mono (toSpareCmd_only _ _) rfl))) _ _ (fun _ => (Only.mono (handbackCmd_only _ _) rfl)))

theorem baseCmd_only (sc : Nat) (tgt : Int) (s : State) : Only [.secs] s (baseCmd sc tgt s) := by
  unfold baseCmd
  exact (Only.mono (modSec_only _ _ _) rfl)

theorem takeFall_only (sc : Nat) (s : State) : Only [.secs] s (takeFall sc s) := by
  unfold takeFall
  exact (by
    split; exact (Only.when (Only.refl _ _) _ _ (fun _ => (Only.mono (baseCmd_only _ _ _) rfl)))
    exact (Only.refl _ _))

theorem givePre_only (sc : Nat) (t : Int) (s : State) : Only [.secs] s (givePre sc t s) := by
  unfold givePre
  exact (Only.mono (modSec_only _ _ _) rfl)

theorem takePre_only (sc : Nat) (s : State) : Only [.live, .secs, .trail] s (takePre sc s) := by
  unfold takePre
  exact (by
    (dsimp only; split)
    exact (Only.refl _ _)
    exact (Only.ite (Only.via (Only.mono (setSec_only _ _ _) rfl) (givePre_only _ _ _) rfl) (Only.when (Only.foldl
        (Only.via (Only.mono (setSec_only _ _ _) rfl) (bump_only _ _) rfl) _ _ (fun _ _ => (Only.mono
        (preRefused_only _ _) rfl))) _ _ (fun _ => (Only.mono (givePre_only _ _ _) rfl)))))

theorem admitCmds_only (sc : Nat) (s : State) : Only [.live, .secs] s (admitCmds sc s) := by
  unfold admitCmds
  exact (Only.ite (Only.ite (Only.mono (setSec_only _ _ _) rfl) (Only.mono (bump_only _ _) rfl)) (Only.refl _ _))

theorem driveFcap_only (sc code : Nat) (s : State) : Only [.secs] s (driveFcap sc code s) := by
  unfold driveFcap
  exact (Only.mono (modSec_only _ _ _) rfl)

theorem opTakesEffect_only (sc : Nat) (s : State) : Only [.secs] s (opTakesEffect sc s) := by
  unfold opTakesEffect
  exact (Only.ite (Only.refl _ _) (Only.ite (Only.via (Only.when (Only.refl _ _) _ _ (fun _ => (Only.mono
      (modSec_only _ _ _) rfl))) (modSec_only _ _ _) rfl) (Only.when (Only.when (Only.refl _ _) _ _ (fun _ =>
      (Only.mono (modSec_only _ _ _) rfl))) _ _ (fun _ => (Only.mono (baseCmd_only _ _ _) rfl)))))

theorem settled_only (sc : Nat) (s : State) : Only [.secs] s (settled sc s) := by
  unfold settled
  exact (Only.when (Only.mono (setSec_only _ _ _) rfl) _ _ (fun _ => (Only.mono (engineWake_only _ _) rfl)))

theorem settleStep_only (sc : Nat) (s : State) : Only [.secs] s (settleStep sc s) := by
  unfold settleStep
  exact (Only.ite (Only.refl _ _) (Only.ite (Only.mono (setSec_only _ _ _) rfl) (Only.ite (Only.ite (Only.mono
      (setSec_only _ _ _) rfl) (Only.refl _ _)) (Only.ite (Only.ite (Only.mono (settled_only _ _) rfl) (Only.mono
      (setSec_only _ _ _) rfl)) (Only.mono (setSec_only _ _ _) rfl)))))

theorem trySwitchOn_only (sc : Nat) (s : State) : Only [.secs] s (trySwitchOn sc s) := by
  unfold trySwitchOn
  exact (Only.ite (Only.when (Only.via (Only.mono (setSec_only _ _ _) rfl) (baseCmd_only _ _ _) rfl) _ _ (fun _ =>
      (Only.mono (issueGb_only _ _) rfl))) (Only.refl _ _))

theorem enterCells_only (sc : Nat) (s : State) : Only [.secs] s (enterCells sc s) := by
  unfold enterCells
  exact (Only.ite (Only.mono (setSec_only _ _ _) rfl) (Only.refl _ _))

theorem enterRamp_only (sc : Nat) (s : State) : Only [.secs] s (enterRamp sc s) := by
  unfold enterRamp
  exact (Only.ite (Only.mono (setSec_only _ _ _) rfl) (Only.refl _ _))

theorem beginRetention_only (sc : Nat) (s : State) : Only [.live, .secs, .trail] s (beginRetention sc s) := by
  unfold beginRetention
  exact (Only.ite (Only.when (Only.via (Only.mono (setSec_only _ _ _) rfl) (engineRetain_only _ _) rfl) _ _ (fun _
      => (Only.mono (baseCmd_only _ _ _) rfl))) (Only.refl _ _))

theorem gateStep_only (sc : Nat) (s : State) : Only [.live, .secs, .trail] s (gateStep sc s) := by
  unfold gateStep
  exact (Only.ite (Only.via (Only.mono (setSec_only _ _ _) rfl) (beginRetention_only _ _) rfl) (Only.refl _ _))

theorem moveStep_only (sc : Nat) (s : State) : Only [.secs] s (moveStep sc s) := by
  unfold moveStep
  exact (Only.ite (Only.mono (setSec_only _ _ _) rfl) (Only.mono (setSec_only _ _ _) rfl))

theorem presentStep_only (sc : Nat) (s : State) : Only [.secs] s (presentStep sc s) := by
  unfold presentStep
  exact (Only.mono (setSec_only _ _ _) rfl)

theorem sectorStep_only (sc : Nat) (s : State) : Only [.live, .secs, .trail] s (sectorStep sc s) := by
  unfold sectorStep
  exact (Only.ite (Only.via (Only.via (Only.mono (trySwitchOn_only _ _) rfl) (takeFall_only _ _) rfl)
      (presentStep_only _ _) rfl) (Only.via (Only.via (Only.via (Only.via (Only.via (Only.via (Only.via (Only.via
      (Only.via (Only.via (Only.mono (trySwitchOn_only _ _) rfl) (takeFall_only _ _) rfl) (setSec_only _ _ _) rfl)
      (takePre_only _ _) rfl) (admitCmds_only _ _) rfl) (enterCells_only _ _) rfl) (enterRamp_only _ _) rfl)
      (moveStep_only _ _) rfl) (settleStep_only _ _) rfl) (gateStep_only _ _) rfl) (presentStep_only _ _) rfl))

theorem setInr_only (q : Nat) (x : Inrush) (s : State) : Only [.inrush] s (setInr q x s) := by
  unfold setInr
  exact (Only.mono (State.setInrush_only _ _) rfl)

theorem grantUnit_only (q : Nat) (r : Waiting) (s : State) : Only [.live, .secs, .inrush] s (grantUnit q r s) := by
  unfold grantUnit
  exact (Only.when (Only.via (Only.via (Only.mono (setInr_only _ _ _) rfl) (modSec_only _ _ _) rfl) (bump_only _ _)
      rfl) _ _ (fun _ => (Only.mono (bump_only _ _) rfl)))

theorem checkUnit_only (sc : Nat) (r : UnitReq) (s : State) : Only [.secs, .flt] s (checkUnit sc r s) := by
  unfold checkUnit
  exact (Only.when (Only.mono (modSec_only _ _ _) rfl) _ _ (fun _ => (Only.mono (raise_only _ _ _) rfl)))

theorem requestUnit_only (sc unit : Nat) (s : State) : Only [.secs] s (requestUnit sc unit s) := by
  unfold requestUnit
  exact (Only.ite (Only.refl _ _) (Only.ite (Only.via (Only.via (Only.mono (setSec_only _ _ _) rfl) (modSec_only _ _
      _) rfl) (baseCmd_only _ _ _) rfl) (Only.via (Only.mono (setSec_only _ _ _) rfl) (trySwitchOn_only _ _) rfl)))

theorem beginSwitchOff_only (sc : Nat) (s : State) : Only [.secs] s (beginSwitchOff sc s) := by
  unfold beginSwitchOff
  exact (Only.ite (Only.mono (setSec_only _ _ _) rfl) (Only.mono (setSec_only _ _ _) rfl))

theorem retainUnit_only (sc unit : Nat) (s : State) : Only [.live, .secs, .trail] s (retainUnit sc unit s) := by
  unfold retainUnit
  exact (Only.ite (Only.mono (setSec_only _ _ _) rfl) (Only.via (Only.mono (setSec_only _ _ _) rfl)
      (beginRetention_only _ _) rfl))

theorem releaseUnit_only (sc unit : Nat) (s : State) : Only [.live, .secs, .trail] s (releaseUnit sc unit s) := by
  unfold releaseUnit
  exact (Only.ite (Only.mono (setSec_only _ _ _) rfl) (Only.ite (Only.via (Only.mono (setSec_only _ _ _) rfl)
      (beginSwitchOff_only _ _) rfl) (Only.via (Only.mono (setSec_only _ _ _) rfl) (beginRetention_only _ _) rfl)))

theorem sectorIdle_only (sc : Nat) (s : State) : Only [.secs] s (sectorIdle sc s) := by
  unfold sectorIdle
  exact (Only.mono (modSec_only _ _ _) rfl)

theorem switchOffDone_only (sc : Nat) (s : State) : Only [.eng, .live, .cells, .clus, .secs, .trail, .flt, .rings,
    .seat] s (switchOffDone sc s) := by
  unfold switchOffDone
  exact (Only.via (Only.via (Only.via (Only.forEach (Only.refl _ _) _ _ (fun _ _ => (Only.mono (cellsOff_only _ _)
      rfl))) (setLive_only _ _ _) rfl) (engineOff_only _ _) rfl) (sectorIdle_only _ _) rfl)

theorem sectorDiscard_only (sc : Nat) (s : State) : Only [.eng, .live, .cells, .clus, .secs, .inrush, .trail, .flt,
    .rings, .seat] s (sectorDiscard sc s) := by
  unfold sectorDiscard
  exact (Only.via (Only.via (Only.via (Only.mono (setInr_only _ _ _) rfl) (modSec_only _ _ _) rfl)
      (switchOffDone_only _ _) rfl) (voidStore_only _ _) rfl)

theorem modSeat_only (f : Seat → Seat) (s : State) : Only [.seat] s (modSeat f s) := by
  unfold modSeat
  exact (Only.mono (State.setSeat_only _ _) rfl)

theorem modMig_only (f : Mig → Mig) (s : State) : Only [.seat] s (modMig f s) := by
  unfold modMig
  exact (Only.mono (modSeat_only _ _) rfl)

theorem stopCheck_only (s : State) : Only [.boot] s (stopCheck s) := by
  unfold stopCheck
  exact (Only.when (Only.refl _ _) _ _ (fun _ => (Only.mono (State.setBoot_only _ _) rfl)))

theorem syncGroup_only (g : Nat) (s : State) : Only [.live, .secs, .trail] s (syncGroup g s) := by
  unfold syncGroup
  exact (Only.ite (Only.refl _ _) (Only.ite (Only.mono (requestUnit_only _ _ _) rfl) (Only.ite (Only.mono
      (retainUnit_only _ _ _) rfl) (Only.mono (releaseUnit_only _ _ _) rfl))))

theorem syncGroups_only (s : State) : Only [.live, .secs, .trail] s (syncGroups s) := by
  unfold syncGroups
  exact (Only.forEach (Only.refl _ _) _ _ (fun _ _ => (Only.mono (syncGroup_only _ _) rfl)))

theorem arrayRun_only (s : State) : Only [.live, .secs, .trail, .seat] s (arrayRun s) := by
  unfold arrayRun
  exact (Only.via (Only.mono (modSeat_only _ _) rfl) (syncGroups_only _) rfl)

theorem wakeGroup_only (g : Nat) (s : State) : Only [.live, .secs, .trail, .seat] s (wakeGroup g s) := by
  unfold wakeGroup
  exact (Only.ite (Only.via (Only.mono (modSeat_only _ _) rfl) (syncGroup_only _ _) rfl) (Only.refl _ _))

theorem seatWake_only (w : Word) (s : State) : Only [.live, .secs, .trail, .seat] s (seatWake w s) := by
  unfold seatWake
  exact (Only.when (Only.refl _ _) _ _ (fun _ => (Only.mono (wakeGroup_only _ _) rfl)))

theorem idleOver_only (g : Nat) (s : State) : Only [.live, .secs, .trail, .seat] s (idleOver g s) := by
  unfold idleOver
  exact (Only.when (Only.refl _ _) _ _ (fun _ => (Only.via (Only.mono (modSeat_only _ _) rfl) (syncGroup_only _ _)
      rfl)))

theorem syncTile_only (t : Nat) (s : State) : Only [.live, .secs, .trail] s (syncTile t s) := by
  unfold syncTile
  exact (Only.ite (Only.mono (requestUnit_only _ _ _) rfl) (Only.mono (releaseUnit_only _ _ _) rfl))

theorem logicRun_only (s : State) : Only [.live, .secs, .trail] s (logicRun s) := by
  unfold logicRun
  exact (Only.forEach (Only.refl _ _) _ _ (fun _ _ => (Only.mono (syncTile_only _ _) rfl)))

theorem syncUnit_only (k : UnitKind) (i : Nat) (s : State) : Only [.live, .secs, .trail] s (syncUnit k i s) := by
  unfold syncUnit
  exact (by split; exact (Only.mono (syncTile_only _ _) rfl); exact (Only.mono (syncGroup_only _ _) rfl))

theorem sendMig_only (kind : Nat) (s : State) : Only [.ports, .seat] s (sendMig kind s) := by
  unfold sendMig
  exact (by
    split; exact (Only.via (Only.mono (modSeat_only _ _) rfl) (initSend_only _ _ _) rfl)
    exact (Only.mono (modSeat_only _ _) rfl))

theorem abortCount_only (hi lo : Nat) (s : State) : Only [.live] s (abortCount hi lo s) := by
  unfold abortCount
  exact (Only.mono (bumpF_only _ _ _ _) rfl)

theorem checkDark_only (sc : Nat) (s : State) : Only [.secs] s (checkDark sc s) := by
  unfold checkDark
  exact (Only.ite (Only.ite (Only.mono (modSec_only _ _ _) rfl) (Only.via (Only.mono (modSec_only _ _ _) rfl)
      (beginSwitchOff_only _ _) rfl)) (Only.refl _ _))

theorem leaveUnit_only (k : UnitKind) (i : Nat) (s : State) : Only [.live, .secs, .trail] s (leaveUnit k i s) := by
  unfold leaveUnit
  exact (Only.via (Only.mono (syncUnit_only _ _ _) rfl) (checkDark_only _ _) rfl)

theorem abandonMig_only (s : State) : Only [.live, .ports, .secs, .trail, .flt, .rings, .plan, .seat] s (abandonMig
    s) := by
  unfold abandonMig
  exact (Only.ite (Only.via (Only.via (Only.via (Only.when (Only.via (Only.when (Only.refl _ _) _ _ (fun _ =>
      (Only.mono (sendMig_only _ _) rfl))) (modSeat_only _ _) rfl) _ _ (fun _ => (Only.via (Only.mono (setRole_only
      _ _ _ _ _) rfl) (leaveUnit_only _ _ _) rfl))) (syncUnit_only _ _ _) rfl) (ownerReset_only _ _) rfl)
      (raiseOn_only _ _ _ _ _) rfl) (Only.refl _ _))

theorem beginMig_only (cause : Nat) (k : UnitKind) (logical src : Nat) (dst : Option Nat) (retire : Bool) (s :
    State) : Only [.live, .secs, .trail, .plan, .seat] s (beginMig cause k logical src dst retire s) := by
  unfold beginMig
  cases dst
  · exact (Only.mono (modMig_only _ _) rfl).via (syncUnit_only _ _ _) rfl
  · exact (((Only.mono (modMig_only _ _) rfl).via (setRole_only _ _ _ _ _) rfl).via (syncUnit_only _ _ _) rfl).via
        (syncUnit_only _ _ _) rfl

theorem copyOver_only (s : State) : Only [.live, .ports, .secs, .trail, .flt, .rings, .plan, .seat] s (copyOver s)
    := by
  unfold copyOver
  exact (Only.when (Only.refl _ _) _ _ (fun _ => (Only.via (Only.mono (abortCount_only _ _ _) rfl) (abandonMig_only
      _) rfl)))

theorem seatAck_only (w : Word) (s : State) : Only [.live, .ports, .secs, .trail, .flt, .rings, .plan, .seat] s
    (seatAck w s) := by
  unfold seatAck
  exact (Only.ite (Only.mono (bumpF_only _ _ _ _) rfl) (Only.ite (Only.mono (bumpF_only _ _ _ _) rfl) (Only.ite
      (Only.mono (modMig_only _ _) rfl) (Only.via (Only.mono (abortCount_only _ _ _) rfl) (abandonMig_only _)
      rfl))))

theorem flushMoved_only (k : UnitKind) (logical src : Nat) (s : State) : Only [.live, .secs, .trail] s (flushMoved
    k logical src s) := by
  unfold flushMoved
  exact (by
    split; exact (Only.refl _ _)
    exact (Only.forEach (Only.refl _ _) _ _ (fun _ _ => (Only.mono (flushWhere_only _ _ _ _) rfl))))

theorem flip_only (s : State) : Only [.live, .secs, .trail, .plan, .seat] s (flip s) := by
  unfold flip
  exact (Only.via (Only.via (Only.when (Only.via (Only.via (Only.when (Only.via (Only.via (Only.mono (modPlan_only _
      _) rfl) (setLog_only _ _ _ _) rfl) (setRole_only _ _ _ _ _) rfl) _ _ (fun _ => (Only.mono (setRole_only _ _ _
      _ _) rfl))) (modSeat_only _ _) rfl) (syncUnit_only _ _ _) rfl) _ _ (fun _ => (Only.mono (syncUnit_only _ _ _)
      rfl))) (flushMoved_only _ _ _ _) rfl) (bump_only _ _) rfl)

theorem unflip_only (s : State) : Only [.plan] s (unflip s) := by
  unfold unflip
  exact (Only.when (Only.via (Only.mono (setLog_only _ _ _ _) rfl) (setRole_only _ _ _ _ _) rfl) _ _ (fun _ =>
      (Only.mono (setRole_only _ _ _ _ _) rfl)))

theorem syncBack_only (m : Mig) (s : State) : Only [.live, .secs, .trail] s (syncBack m s) := by
  unfold syncBack
  exact (Only.when (Only.mono (syncUnit_only _ _ _) rfl) _ _ (fun _ => (Only.mono (leaveUnit_only _ _ _) rfl)))

theorem revert_only (s : State) : Only [.live, .secs, .trail, .flt, .plan, .seat] s (revert s) := by
  unfold revert
  exact (Only.via (Only.via (Only.via (Only.via (Only.via (Only.via (Only.mono (unflip_only _) rfl) (modPlan_only _
      _) rfl) (modSeat_only _ _) rfl) (syncBack_only _ _) rfl) (flushMoved_only _ _ _ _) rfl) (abortCount_only _ _
      _) rfl) (raiseOn_only _ _ _ _ _) rfl)

theorem graceEnd_only (s : State) : Only [.live, .secs, .trail, .plan, .seat] s (graceEnd s) := by
  unfold graceEnd
  exact (Only.via (Only.via (Only.via (Only.mono (modPlan_only _ _) rfl) (modMig_only _ _) rfl) (setRole_only _ _ _
      _ _) rfl) (leaveUnit_only _ _ _) rfl)

theorem graceOver_only (s : State) : Only [.live, .secs, .trail, .plan, .seat] s (graceOver s) := by
  unfold graceOver
  exact (Only.when (Only.refl _ _) _ _ (fun _ => (Only.mono (graceEnd_only _) rfl)))

theorem discardMig_only (s : State) : Only [.live, .ports, .secs, .trail, .flt, .rings, .plan, .seat] s (discardMig
    s) := by
  unfold discardMig
  exact (by
    (dsimp only; split)
    exact (Only.refl _ _)
    exact (by
      split; exact (Only.ite (Only.via (Only.via (Only.via (Only.via (Only.via (Only.via (Only.via (Only.mono
          (unflip_only _) rfl) (modPlan_only _ _) rfl) (setLive_only _ _ _) rfl) (modSeat_only _ _) rfl)
          (syncBack_only _ _) rfl) (ownerReset_only _ _) rfl) (abortCount_only _ _ _) rfl) (raiseOn_only _ _ _ _ _)
          rfl) (Only.mono (modMig_only _ _) rfl))
      exact (Only.mono (modMig_only _ _) rfl))
    exact (Only.via (Only.mono (abortCount_only _ _ _) rfl) (abandonMig_only _) rfl))

theorem decideUnit_only (w : Want) (s : State) : Only [.live, .secs, .trail, .flt, .plan, .seat] s (decideUnit w s)
    := by
  unfold decideUnit
  exact (Only.ite (Only.mono (beginMig_only _ _ _ _ _ _ _) rfl) (by
    split; exact (Only.mono (beginMig_only _ _ _ _ _ _ _) rfl)
    exact (Only.ite (Only.via (Only.via (Only.mono (bumpF_only _ _ _ _) rfl) (raiseOn_only _ _ _ _ _) rfl)
        (beginMig_only _ _ _ _ _ _ _) rfl) (Only.when (Only.via (Only.mono (bumpF_only _ _ _ _) rfl) (raiseOn_only _
        _ _ _ _) rfl) _ _ (fun _ => (Only.mono (modSeat_only _ _) rfl))))))

theorem countPinned_only (n : Nat) (s : State) : Only [.live] s (countPinned n s) := by
  unfold countPinned
  exact (Only.mono (setField_only _ _ _ _ _) rfl)

theorem dropCmds_only (s : State) : Only [.plan, .seat] s (dropCmds s) := by
  unfold dropCmds
  exact (Only.foldl (Only.mono (modSeat_only _ _) rfl) _ _ (fun _ _ => (Only.ite (Only.mono (setRole_only _ _ _ _ _)
      rfl) (Only.refl _ _))))

theorem placement_only (s0 : State) : Only [.live, .secs, .trail, .flt, .plan, .seat] s0 (placement s0) := by
  unfold placement
  exact (by
    (dsimp only; split)
    exact (Only.via (Only.mono (dropCmds_only _) rfl) (decideUnit_only _ _) rfl)
    exact (Only.ite (Only.mono (dropCmds_only _) rfl) (by
      split; exact (Only.via (Only.via (Only.mono (dropCmds_only _) rfl) (modSeat_only _ _) rfl) (decideUnit_only _
          _) rfl)
      exact (by
        split; exact (Only.via (Only.via (Only.mono (dropCmds_only _) rfl) (countPinned_only _ _) rfl)
            (decideUnit_only _ _) rfl)
        exact (Only.via (Only.mono (dropCmds_only _) rfl) (countPinned_only _ _) rfl)))))

theorem seatRetire_only (k : UnitKind) (i : Nat) (s : State) : Only [.plan, .seat] s (seatRetire k i s) := by
  unfold seatRetire
  exact (Only.ite (Only.mono (setRole_only _ _ _ _ _) rfl) (Only.ite (Only.mono (modSeat_only _ _) rfl) (Only.refl _
      _)))

theorem seatReturn_only (k : UnitKind) (i : Nat) (s : State) : Only [.live, .plan] s (seatReturn k i s) := by
  unfold seatReturn
  exact (Only.ite (Only.mono (setRole_only _ _ _ _ _) rfl) (Only.mono (refuse_only _ _) rfl))

theorem scrubGroup_only (g : Nat) (s : State) : Only [.live, .ports, .secs, .trail, .flt, .rings, .plan, .seat] s
    (scrubGroup g s) := by
  unfold scrubGroup
  exact (Only.via (Only.via (Only.when (Only.foldl (Only.refl _ _) _ _ (fun _ _ => (Only.mono (setLog_only _ _ _ _)
      rfl))) _ _ (fun _ => (Only.mono (abandonMig_only _) rfl))) (modSeat_only _ _) rfl) (syncGroup_only _ _) rfl)

theorem seatScrub_only (tag : Nat) (s : State) : Only [.live, .ports, .secs, .trail, .flt, .rings, .plan, .seat] s
    (seatScrub tag s) := by
  unfold seatScrub
  exact (Only.ite (Only.mono (refuse_only _ _) rfl) (Only.via (Only.forEach (Only.mono (modSeat_only _ _) rfl) _ _
      (fun _ _ => (Only.mono (scrubGroup_only _ _) rfl))) (bumpBy_only _ _ _) rfl))

theorem seatCommand_only (w : Word) (s : State) : Only [.live, .ports, .secs, .trail, .flt, .rings, .plan, .seat] s
    (seatCommand w s) := by
  unfold seatCommand
  dsimp only
  generalize (if w.bit 3 = true then UnitKind.bank else UnitKind.tile) = k
  split
  · exact (modSeat_only _ _).mono rfl
  · exact (seatRetire_only _ _ _).mono rfl
  · exact (seatReturn_only _ _ _).mono rfl
  · exact (seatScrub_only _ _).mono rfl
  · exact (abandonMig_only _).mono rfl
  · exact Only.refl _ _

theorem entryWrite_only (off : Nat) (w : Word) (s : State) : Only [.live, .secs, .trail, .plan] s (entryWrite off w
    s) := by
  unfold entryWrite
  exact (Only.ite (Only.ite (Only.mono (setLog_only _ _ _ _) rfl) (Only.refl _ _)) (Only.ite (Only.ite (Only.ite
      (Only.via (Only.mono (setLog_only _ _ _ _) rfl) (syncGroup_only _ _) rfl) (Only.mono (setLog_only _ _ _ _)
      rfl)) (Only.refl _ _)) (Only.refl _ _)))

theorem seatWrite_only (a : Access) (f : Form) (data : BitVec 64) (s : State) : Only [.live, .ports, .secs, .trail,
    .plan] s (seatWrite a f data s) := by
  unfold seatWrite
  exact (Only.ite (Only.mono (formError_only _ _) rfl) (Only.ite (Only.via (Only.mono (countNonsec_only _ _) rfl)
      (respond_only _ _ _) rfl) (Only.via (Only.when (Only.mono (entryWrite_only _ _ _) rfl) _ _ (fun _ =>
      (Only.mono (entryWrite_only _ _ _) rfl))) (respond_only _ _ _) rfl)))

theorem modTally_only (f : Tally → Tally) (s : State) : Only [.tally] s (modTally f s) := by
  unfold modTally
  exact (Only.mono (State.setTally_only _ _) rfl)

theorem setByte_only (a : Nat) (b : Byte) (s : State) : Only [.mem] s (setByte a b s) := by
  unfold setByte
  exact (Only.mono (State.setMem_only _ _) rfl)

theorem setBytes_only (a : Nat) (l : List Byte) (s : State) : Only [.mem] s (setBytes a l s) := by
  induction l generalizing a s with
  | nil => exact Only.refl _ _
  | cons b r ih => exact (setByte_only a b s).trans (ih _ _)

theorem memWrite_only (o : Nat) (l : List Byte) (s : State) : Only [.mem] s (memWrite o l s) := by
  induction l generalizing o s with
  | nil => exact Only.refl _ _
  | cons b r ih => exact (Only.ite (setByte_only o b s) (Only.refl _ s)).trans (ih _ _)

theorem loadStat_only (st cause : Nat) (s : State) : Only [.live] s (loadStat st cause s) := by
  unfold loadStat
  exact (Only.via (Only.mono (setField_only _ _ _ _ _) rfl) (setField_only _ _ _ _ _) rfl)

theorem askShifts_only (u base : Nat) (q : Nat) (s : State) : Only [.rings] s (askShifts u base q s) := by
  unfold askShifts
  exact (Only.foldl (Only.refl _ _) _ _ (fun _ _ => (Only.mono (ringAsk_only _ _ _) rfl)))

theorem startInstall_only (u : Nat) (s : State) : Only [.live, .tally] s (startInstall u s) := by
  unfold startInstall
  exact (Only.ite (Only.ite (Only.mono (refuse_only _ _) rfl) (Only.via (Only.via (Only.mono (modTally_only _ _)
      rfl) (loadStat_only _ _ _) rfl) (setField_only _ _ _ _ _) rfl)) (Only.refl _ _))

theorem nextInstall_only (s : State) : Only [.live, .tally] s (nextInstall s) := by
  unfold nextInstall
  exact (by
    split; exact (Only.via (Only.mono (modTally_only _ _) rfl) (startInstall_only _ _) rfl)
    exact (Only.refl _ _))

theorem refuseDone_only (u cause : Nat) (s : State) : Only [.live, .flt, .tally] s (refuseDone u cause s) := by
  unfold refuseDone
  exact (Only.via (Only.when (Only.via (Only.mono (modTally_only _ _) rfl) (loadStat_only _ _ _) rfl) _ _ (fun _ =>
      (Only.mono (raiseOn_only _ _ _ _ _) rfl))) (nextInstall_only _) rfl)

theorem refuseLoad_only (cause : Nat) (s : State) : Only [.live, .flt, .rings, .tally] s (refuseLoad cause s) := by
  unfold refuseLoad
  exact (by
    split; exact (Only.refl _ _)
    exact (Only.ite (Only.refl _ _) (Only.ite (Only.ite (Only.forEach (Only.via (Only.via (Only.mono
        (ownerReset_only _ _) rfl) (ringWithdraw_only _ _) rfl) (modTally_only _ _) rfl) _ _ (fun _ _ => (Only.mono
        (askShifts_only _ _ _ _) rfl))) (Only.via (Only.via (Only.mono (ownerReset_only _ _) rfl) (ringWithdraw_only
        _ _) rfl) (refuseDone_only _ _ _) rfl)) (Only.mono (refuseDone_only _ _ _) rfl))))

theorem talLoad_only (w : Word) (s : State) : Only [.live, .flt, .rings, .tally] s (talLoad w s) := by
  unfold talLoad
  exact (Only.when (Only.when (Only.refl _ _) _ _ (fun _ => (Only.mono (startInstall_only _ _) rfl))) _ _ (fun _ =>
      (Only.mono (refuseLoad_only _ _) rfl)))

theorem checkDone_only (l : Load) (s : State) : Only [.live, .flt, .rings, .tally] s (checkDone l s) := by
  unfold checkDone
  exact (Only.ite (Only.mono (refuseLoad_only _ _) rfl) (Only.ite (Only.via (Only.mono (modTally_only _ _) rfl)
      (loadStat_only _ _ _) rfl) (Only.forEach (Only.via (Only.mono (modTally_only _ _) rfl) (loadStat_only _ _ _)
      rfl) _ _ (fun _ _ => (Only.mono (askShifts_only _ _ _ _) rfl)))))

theorem shiftDone_only (q u i : Nat) (w : Word) (s : State) : Only [.live, .flt, .tally] s (shiftDone q u i w s) :=
    by
  unfold shiftDone
  exact (by
    (dsimp only; split)
    exact (Only.forEach (Only.refl _ _) _ _ (fun _ _ => (Only.mono (modTally_only _ _) rfl)))
    exact (Only.ite (Only.ite (by
      split; exact (Only.via (Only.via (Only.forEach (Only.refl _ _) _ _ (fun _ _ => (Only.mono (modTally_only _ _)
          rfl))) (modTally_only _ _) rfl) (refuseDone_only _ _ _) rfl)
      exact (Only.via (Only.via (Only.via (Only.forEach (Only.refl _ _) _ _ (fun _ _ => (Only.mono (modTally_only _
          _) rfl))) (modTally_only _ _) rfl) (modTally_only _ _) rfl) (loadStat_only _ _ _) rfl)) (Only.via
        (Only.forEach (Only.refl _ _) _ _ (fun _ _ => (Only.mono (modTally_only _ _) rfl))) (modTally_only _ _)
        rfl)) (Only.forEach (Only.refl _ _) _ _ (fun _ _ => (Only.mono (modTally_only _ _) rfl)))))

theorem shiftBroken_only (q from0 : Nat) (s : State) : Only [.live, .flt, .rings, .tally] s (shiftBroken q from0 s)
    := by
  unfold shiftBroken
  exact (by
    split; exact (Only.refl _ _)
    exact (Only.ite (Only.mono (refuseLoad_only _ _) rfl) (Only.when (Only.refl _ _) _ _ (fun _ => (Only.via
        (Only.mono (ringWithdrawIn_only _ _ _) rfl) (askShifts_only _ _ _ _) rfl)))))

theorem activate_only (l : Load) (s : State) : Only [.live, .tally, .mem] s (activate l s) := by
  unfold activate
  exact (Only.via (Only.via (Only.via (Only.via (Only.via (Only.via (Only.mono (setBytes_only _ _ _) rfl)
      (setBit_only _ _ _) rfl) (setLive_only _ _ _) rfl) (loadStat_only _ _ _) rfl) (setField_only _ _ _ _ _) rfl)
      (modTally_only _ _) rfl) (nextInstall_only _) rfl)

theorem modelWrite_only (a : Access) (f : Form) (data : BitVec 128) (s : State) : Only [.live, .ports, .flt,
    .rings, .tally, .mem] s (modelWrite a f data s) := by
  unfold modelWrite
  exact (Only.ite (Only.mono (formError_only _ _) rfl) (Only.ite (Only.via (Only.mono (countNonsec_only _ _) rfl)
      (respond_only _ _ _) rfl) (Only.via (Only.when (Only.mono (memWrite_only _ _ _) rfl) _ _ (fun _ => (Only.mono
      (refuseLoad_only _ _) rfl))) (respond_only _ _ _) rfl)))

theorem rotateFeat_only (s : State) : Only [.tally] s (rotateFeat s) := by
  unfold rotateFeat
  exact (Only.ite (Only.refl _ _) (Only.mono (modTally_only _ _) rfl))

theorem activity_only (lane : Nat) (w : Word) (s0 : State) : Only [.live, .secs, .trail, .flt, .tally, .seat] s0
    (activity lane w s0) := by
  unfold activity
  exact (Only.ite (Only.refl _ _) (Only.ite (Only.via (Only.via (Only.via (Only.mono (rotateFeat_only _) rfl)
      (modTally_only _ _) rfl) (bumpF_only _ _ _ _) rfl) (raiseOn_only _ _ _ _ _) rfl) (by
    split; exact (Only.via (Only.mono (rotateFeat_only _) rfl) (bumpF_only _ _ _ _) rfl)
    exact (Only.ite (Only.via (Only.mono (rotateFeat_only _) rfl) (bumpF_only _ _ _ _) rfl) (Only.when (Only.via
        (Only.mono (rotateFeat_only _) rfl) (modTally_only _ _) rfl) _ _ (fun _ => (Only.mono (wakeGroup_only _ _)
        rfl)))))))

theorem tallyStart_only (speed : BitVec 10) (s0 : State) : Only [.eng, .live, .trail, .tally] s0 (tallyStart speed
    s0) := by
  unfold tallyStart
  refine Only.via (Only.via (Only.foldl (Only.via (Only.mono (setLive_only _ _ _) rfl) (rotateFeat_only _) rfl) _ _
      fun s x =>
    Only.foldl (Only.refl _ _) _ _ fun s y => ?_) (modTally_only _ _) rfl) (engStart_only _ _ _) rfl
  obtain ⟨key, di⟩ := y
  dsimp only
  split
  · exact (setSlot_only _ _ _ _).mono rfl
  · exact Only.refl _ _

theorem domainGb_only (on : Bool) (gb d : Nat) (s : State) : Only [.live, .secs, .tally] s (domainGb on gb d s) :=
    by
  unfold domainGb
  exact (Only.ite (Only.mono (setField_only _ _ _ _ _) rfl) (Only.forEach (Only.via (Only.mono (setField_only _ _ _
      _ _) rfl) (modTally_only _ _) rfl) _ _ (fun _ _ => (Only.mono (issueGb_only _ _) rfl))))

theorem recalibrate_only (gap d : Nat) (s : State) : Only [.live, .quads] s (recalibrate gap d s) := by
  unfold recalibrate
  exact (Only.forEach (Only.refl _ _) _ _ (fun _ _ => (Only.forEach (Only.refl _ _) _ _ (fun _ _ => (Only.ite
      (Only.refl _ _) (Only.mono (urgentPush_only _ _ _ _) rfl))))))

theorem enterVerdict_only (w : Word) (d v : Nat) (s : State) : Only [.live, .secs, .flt, .tally, .quads] s
    (enterVerdict w d v s) := by
  unfold enterVerdict
  exact (Only.when (Only.via (Only.ite (Only.mono (setField_only _ _ _ _ _) rfl) (Only.ite (Only.via (Only.mono
      (setField_only _ _ _ _ _) rfl) (raiseOn_only _ _ _ _ _) rfl) (Only.ite (Only.via (Only.mono (setField_only _ _
      _ _ _) rfl) (raiseOn_only _ _ _ _ _) rfl) (Only.ite (Only.via (Only.mono (setField_only _ _ _ _ _) rfl)
      (raiseOn_only _ _ _ _ _) rfl) (Only.mono (setField_only _ _ _ _ _) rfl))))) (domainGb_only _ _ _ _) rfl) _ _
      (fun _ => (Only.mono (recalibrate_only _ _ _) rfl)))

theorem latchVerdict_only (w w2 : Word) (d : Nat) (s : State) : Only [.live, .secs, .flt, .tally, .quads] s
    (latchVerdict w w2 d s) := by
  unfold latchVerdict
  exact (Only.ite (Only.via (Only.via (Only.when (Only.when (Only.via (Only.via (Only.mono (modTally_only _ _) rfl)
      (bumpF_only _ _ _ _) rfl) (setField_only _ _ _ _ _) rfl) _ _ (fun _ => (Only.via (Only.via (Only.mono
      (result_only _ _ _) rfl) (result_only _ _ _) rfl) (result_only _ _ _) rfl))) _ _ (fun _ => (Only.mono
      (bump_only _ _) rfl))) (modTally_only _ _) rfl) (enterVerdict_only _ _ _ _) rfl) (Only.when (Only.via
      (Only.when (Only.when (Only.via (Only.via (Only.mono (modTally_only _ _) rfl) (bumpF_only _ _ _ _) rfl)
      (setField_only _ _ _ _ _) rfl) _ _ (fun _ => (Only.via (Only.via (Only.mono (result_only _ _ _) rfl)
      (result_only _ _ _) rfl) (result_only _ _ _) rfl))) _ _ (fun _ => (Only.mono (bump_only _ _) rfl)))
      (modTally_only _ _) rfl) _ _ (fun _ => (Only.mono (enterVerdict_only _ _ _ _) rfl))))

theorem sumFigures_only (s : State) : Only [.cap] s (sumFigures s) := by
  unfold sumFigures
  exact (Only.mono (State.setCap_only _ _) rfl)

theorem setFigures_only (s : State) : Only [.live, .tally, .cap] s (setFigures s) := by
  unfold setFigures
  exact (Only.via (Only.forEach (Only.refl _ _) _ _ (fun _ _ => (Only.via (Only.mono (modTally_only _ _) rfl)
      (setField_only _ _ _ _ _) rfl))) (sumFigures_only _) rfl)

theorem arbRecord_only (s : State) : Only [.tally] s (arbRecord s) := by
  unfold arbRecord
  exact (Only.forEach (Only.refl _ _) _ _ (fun _ _ => (Only.mono (modTally_only _ _) rfl)))

theorem noteEval_only (p : Nat) (s : State) : Only [.seat] s (noteEval p s) := by
  unfold noteEval
  exact (Only.mono (modSeat_only _ _) rfl)

theorem tallyCommit_only (s : State) : Only [.live, .secs, .trail, .flt, .tally, .quads, .cap, .seat] s
    (tallyCommit s) := by
  unfold tallyCommit
  split
  · exact Only.refl _ _
  · rename_i r _
    refine Only.via ?_ (setFigures_only _) rfl
    have h : ∀ u, Only [.live, .secs, .trail, .flt, .tally, .quads, .cap, .seat] s u → Only [.live, .secs, .trail,
        .flt, .tally, .quads, .cap, .seat] s (if verdictDue u then forEach (upto 4) (latchVerdict r.arb r.arb2) u
        else u) := fun u hu =>
      Only.ite (hu.forEach _ _ fun _ _ => (latchVerdict_only _ _ _ _).mono rfl) hu
    refine h _ (Only.via (Only.via (Only.via (Only.via (Only.via (Only.via (Only.via (Only.via (Only.foldl
        (Only.refl _ _) _ _
      fun s x => ?_) (bumpBy_only _ _ _) rfl) (bumpBy_only _ _ _) rfl) (setLive_only _ _ _) rfl) (setLive_only _ _
          _) rfl)
      (setLive_only _ _ _) rfl) (setLive_only _ _ _) rfl) (modTally_only _ _) rfl) (arbRecord_only _) rfl)
    obtain ⟨key, di⟩ := x
    dsimp only
    split
    · exact Only.ite (Only.via (Only.via (Only.mono (setSlot_only _ _ _ _) rfl) (bump_only _ _) rfl) (noteEval_only
          _ _) rfl)
        (Only.refl _ _)
    · exact Only.refl _ _

theorem tallyMissed_only (s : State) : Only [.live, .tally, .cap] s (tallyMissed s) := by
  unfold tallyMissed
  exact (Only.via (Only.ite (Only.via (Only.via (Only.via (Only.via (Only.via (Only.mono (setLive_only _ _ _) rfl)
      (setLive_only _ _ _) rfl) (bumpBy_only _ _ _) rfl) (modTally_only _ _) rfl) (arbRecord_only _) rfl)
      (modTally_only _ _) rfl) (Only.via (Only.via (Only.via (Only.via (Only.mono (setLive_only _ _ _) rfl)
      (setLive_only _ _ _) rfl) (bumpBy_only _ _ _) rfl) (modTally_only _ _) rfl) (arbRecord_only _) rfl))
      (setFigures_only _) rfl)

theorem modCap_only (f : CapLoop → CapLoop) (s : State) : Only [.cap] s (modCap f s) := by
  unfold modCap
  exact (Only.mono (State.setCap_only _ _) rfl)

theorem sendCaps_only (s : State) : Only [.bridge] s (sendCaps s) := by
  unfold sendCaps
  exact (Only.when (Only.refl _ _) _ _ (fun _ => (Only.mono (State.setBridge_only _ _) rfl)))

theorem capStart_only (s : State) : Only [.bridge, .eng, .live, .cap] s (capStart s) := by
  unfold capStart
  exact (Only.via (Only.via (Only.via (Only.mono (setLive_only _ _ _) rfl) (modCap_only _ _) rfl) (engStart_only _ _
      _) rfl) (sendCaps_only _) rfl)

theorem takePoint_only (k : Nat) (s : State) : Only [.live, .secs, .cap] s (takePoint k s) := by
  unfold takePoint
  exact (Only.ite (Only.refl _ _) (Only.forEach (Only.via (Only.mono (modCap_only _ _) rfl) (bump_only _ _) rfl) _ _
      (fun _ _ => (Only.mono (opTakesEffect_only _ _) rfl))))

theorem fixedBreach_only (r : CapRes) (s : State) : Only [.live, .flt, .cap] s (fixedBreach r s) := by
  unfold fixedBreach
  exact (Only.ite (Only.when (Only.via (Only.via (Only.mono (setLive_only _ _ _) rfl) (bumpF_only _ _ _ _) rfl)
      (modCap_only _ _) rfl) _ _ (fun _ => (Only.mono (raiseOn_only _ _ _ _ _) rfl))) (Only.mono (modCap_only _ _)
      rfl))

theorem capCommit_only (s : State) : Only [.live, .secs, .flt, .cap] s (capCommit s) := by
  unfold capCommit
  exact (by
    split; exact (Only.refl _ _)
    exact (Only.via (Only.when (Only.forEach (Only.forEach (Only.via (Only.via (Only.via (Only.mono (modCap_only _
        _) rfl) (takePoint_only _ _) rfl) (setLive_only _ _ _) rfl) (result_only _ _ _) rfl) _ _ (fun _ _ =>
        (Only.mono (result_only _ _ _) rfl))) _ _ (fun _ _ => (Only.mono (result_only _ _ _) rfl))) _ _ (fun _ =>
        (Only.mono (raiseOn_only _ _ _ _ _) rfl))) (fixedBreach_only _ _) rfl))

theorem checkShares_only (s : State) : Only [.live, .flt] s (checkShares s) := by
  unfold checkShares
  exact (Only.when (Only.refl _ _) _ _ (fun _ => (Only.mono (raiseOn_only _ _ _ _ _) rfl)))

theorem setEflags_only (m : Nat) (s : State) : Only [.live] s (setEflags m s) := by
  unfold setEflags
  exact (Only.mono (setLive_only _ _ _) rfl)

theorem energyAdd_only (s : State) : Only [.bridge, .live, .flt, .cap] s (energyAdd s) := by
  unfold energyAdd
  exact (Only.when (Only.when (Only.via (Only.mono (modCap_only _ _) rfl) (setEflags_only _ _) rfl) _ _ (fun _ =>
      (Only.mono (State.setBridge_only _ _) rfl))) _ _ (fun _ => (Only.mono (raiseOn_only _ _ _ _ _) rfl)))

theorem setJob_only (j : Nat) (x : JobSlot) (s : State) : Only [.jobs] s (setJob j x s) := by
  unfold setJob
  exact (Only.mono (State.setJobs_only _ _) rfl)

theorem jobEnergyAdd_only (s : State) : Only [.live, .flt, .cap, .jobs] s (jobEnergyAdd s) := by
  unfold jobEnergyAdd
  exact (Only.when (Only.when (Only.forEach (Only.refl _ _) _ _ (fun _ _ => (Only.mono (setJob_only _ _ _) rfl))) _
      _ (fun _ => (Only.mono (modCap_only _ _) rfl))) _ _ (fun _ => (Only.via (Only.via (Only.foldl (Only.refl _ _)
      _ _ (fun _ _ => (Only.mono (raise_only _ _ _) rfl))) (pageFlt_only _ _ _) rfl) (setEflags_only _ _) rfl)))

theorem jobErr_only (hi lo : Nat) (s : State) : Only [.live] s (jobErr hi lo s) := by
  unfold jobErr
  exact (Only.mono (bumpF_only _ _ _ _) rfl)

theorem jobStart_only (id : Word) (s : State) : Only [.live, .flt, .jobs] s (jobStart id s) := by
  unfold jobStart
  exact (Only.ite (Only.mono (jobErr_only _ _ _) rfl) (Only.ite (Only.mono (jobErr_only _ _ _) rfl) (by
    split; exact (Only.via (Only.mono (jobErr_only _ _ _) rfl) (raise_only _ _ _) rfl)
    exact (Only.mono (setJob_only _ _ _) rfl))))

theorem jobEnd_only (id : Word) (s : State) : Only [.live, .jobs] s (jobEnd id s) := by
  unfold jobEnd
  exact (Only.ite (Only.mono (jobErr_only _ _ _) rfl) (by
    split; exact (Only.mono (setJob_only _ _ _) rfl)
    exact (Only.mono (jobErr_only _ _ _) rfl)))

theorem jobsWarm_only (s : State) : Only [.jobs] s (jobsWarm s) := by
  unfold jobsWarm
  exact (Only.forEach (Only.refl _ _) _ _ (fun _ _ => (Only.ite (Only.mono (setJob_only _ _ _) rfl) (Only.refl _
      _))))

theorem modBlk_only (f : Blanket → Blanket) (s : State) : Only [.blk] s (modBlk f s) := by
  unfold modBlk
  exact (Only.mono (State.setBlk_only _ _) rfl)

theorem endCover_only (cause hi lo : Nat) (s : State) : Only [.live, .blk] s (endCover cause hi lo s) := by
  unfold endCover
  exact (Only.via (Only.mono (modBlk_only _ _) rfl) (bumpF_only _ _ _ _) rfl)

theorem abandonCover_only (next : BlkState) (s : State) : Only [.live, .blk] s (abandonCover next s) := by
  unfold abandonCover
  exact (Only.via (Only.when (Only.refl _ _) _ _ (fun _ => (Only.mono (endCover_only _ _ _ _) rfl))) (modBlk_only _
      _) rfl)

theorem blanketLeave_only (s : State) : Only [.live, .blk] s (blanketLeave s) := by
  unfold blanketLeave
  exact (Only.via (Only.via (Only.mono (abandonCover_only _ _) rfl) (modBlk_only _ _) rfl) (setLive_only _ _ _) rfl)

theorem blanketOff_only (s : State) : Only [.live, .blk] s (blanketOff s) := by
  unfold blanketOff
  exact (Only.when (Only.refl _ _) _ _ (fun _ => (Only.mono (abandonCover_only _ _) rfl)))

theorem blanketDiscard_only (s : State) : Only [.live, .blk] s (blanketDiscard s) := by
  unfold blanketDiscard
  exact (Only.when (Only.refl _ _) _ _ (fun _ => (Only.mono (abandonCover_only _ _) rfl)))

theorem blkMessage_only (w : Word) (s : State) : Only [.blk] s (blkMessage w s) := by
  unfold blkMessage
  exact (Only.when (Only.when (Only.refl _ _) _ _ (fun _ => (Only.mono (modBlk_only _ _) rfl))) _ _ (fun _ =>
      (Only.mono (modBlk_only _ _) rfl)))

theorem enterCover_only (cause : Nat) (s : State) : Only [.live, .blk] s (enterCover cause s) := by
  unfold enterCover
  exact (Only.via (Only.mono (modBlk_only _ _) rfl) (bump_only _ _) rfl)

theorem takeMsg_only (s : State) (m : Bool × Nat) : Only [.live, .blk] s (takeMsg s m) := by
  unfold takeMsg
  exact (Only.ite (Only.ite (Only.mono (enterCover_only _ _) rfl) (Only.mono (bumpF_only _ _ _ _) rfl)) (Only.ite
      (Only.mono (endCover_only _ _ _ _) rfl) (Only.mono (bumpF_only _ _ _ _) rfl)))

theorem coverEnds_only (work : Nat) (s : State) : Only [.live, .blk] s (coverEnds work s) := by
  unfold coverEnds
  exact (Only.ite (Only.via (Only.mono (modBlk_only _ _) rfl) (endCover_only _ _ _ _) rfl) (Only.ite (Only.via
      (Only.mono (modBlk_only _ _) rfl) (endCover_only _ _ _ _) rfl) (Only.mono (modBlk_only _ _) rfl)))

theorem setLevels_only (p : BlkPow) (s : State) : Only [.live, .flt, .blk] s (setLevels p s) := by
  unfold setLevels
  exact (Only.ite (Only.when (Only.when (Only.mono (modBlk_only _ _) rfl) _ _ (fun _ => (Only.mono (bump_only _ _)
      rfl))) _ _ (fun _ => (Only.via (Only.mono (modBlk_only _ _) rfl) (raiseOn_only _ _ _ _ _) rfl))) (Only.mono
      (modBlk_only _ _) rfl))

theorem keepPeriod_only (covered : Bool) (work : Nat) (s : State) : Only [.blk] s (keepPeriod covered work s) := by
  unfold keepPeriod
  exact (Only.ite (Only.mono (modBlk_only _ _) rfl) (Only.ite (Only.mono (modBlk_only _ _) rfl) (Only.mono
      (modBlk_only _ _) rfl)))

theorem fillEnergy_only (p : BlkPow) (s : State) : Only [.blk] s (fillEnergy p s) := by
  unfold fillEnergy
  exact (Only.mono (modBlk_only _ _) rfl)

theorem blkEvaluate_only (s0 : State) : Only [.live, .flt, .blk] s0 (blkEvaluate s0) := by
  unfold blkEvaluate
  exact (Only.when (Only.via (Only.via (Only.via (Only.via (Only.when (Only.when (Only.when (Only.foldl (Only.via
      (Only.when (Only.mono (modBlk_only _ _) rfl) _ _ (fun _ => (Only.mono (modBlk_only _ _) rfl))) (modBlk_only _
      _) rfl) _ _ (fun _ _ => (Only.mono (takeMsg_only _ _) rfl))) _ _ (fun _ => (Only.mono (coverEnds_only _ _)
      rfl))) _ _ (fun _ => (Only.mono (enterCover_only _ _) rfl))) _ _ (fun _ => (Only.mono (result_only _ _ _)
      rfl))) (setLevels_only _ _) rfl) (keepPeriod_only _ _ _) rfl) (fillEnergy_only _ _) rfl) (setLive_only _ _ _)
      rfl) _ _ (fun _ => (Only.mono (modBlk_only _ _) rfl)))

theorem driveLevels_only (s : State) : Only [.blk] s (driveLevels s) := by
  unfold driveLevels
  exact (Only.mono (modBlk_only _ _) rfl)

theorem modSparing_only (f : Sparing → Sparing) (s : State) : Only [.sparing] s (modSparing f s) := by
  unfold modSparing
  exact (Only.mono (State.setSparing_only _ _) rfl)

theorem rotationEnd_only (g n : Nat) (s : State) : Only [.live, .cells, .clus, .flt, .seat] s (rotationEnd g n s)
    := by
  unfold rotationEnd
  exact (by
    split; exact (Only.refl _ _)
    exact (Only.ite (Only.when (Only.via (Only.via (Only.via (Only.via (Only.via (Only.via (Only.mono (modCell_only
        _ _ _) rfl) (modCell_only _ _ _) rfl) (dropTake_only _ _ _) rfl) (modClu_only _ _ _) rfl) (bump_only _ _)
        rfl) (bump_only _ _) rfl) (judgeBeyond_only _ _) rfl) _ _ (fun _ => (Only.via (Only.mono (modCell_only _ _
        _) rfl) (modClu_only _ _ _) rfl))) (Only.refl _ _)))

theorem retestRes_only (n step trim : Nat) (s : State) : Only [.live] s (retestRes n step trim s) := by
  unfold retestRes
  exact (Only.mono (setLive_only _ _ _) rfl)

theorem retestEnd_only (g step trim : Nat) (s : State) : Only [.live, .regs, .cells, .clus, .flt, .rings, .wears,
    .seat] s (retestEnd g step trim s) := by
  unfold retestEnd
  exact (by
    split; exact (Only.refl _ _)
    exact (Only.ite (Only.via (Only.via (Only.mono (modCell_only _ _ _) rfl) (retestRes_only _ _ _ _) rfl)
        (modClu_only _ _ _) rfl) (Only.ite (Only.via (Only.via (Only.via (Only.mono (modCell_only _ _ _) rfl)
        (retestRes_only _ _ _ _) rfl) (modClu_only _ _ _) rfl) (ringAsk_only _ _ _) rfl) (Only.via (Only.via
        (Only.via (Only.via (Only.mono (modCell_only _ _ _) rfl) (retestRes_only _ _ _ _) rfl) (modClu_only _ _ _)
        rfl) (isolate_only _ _ _) rfl) (raise_only _ _ _) rfl))))

theorem retestStep_only (g : Nat) (r : Retest) (ok : Bool) (s : State) : Only [.live, .regs, .cells, .clus, .flt,
    .rings, .wears, .quads, .seat] s (retestStep g r ok s) := by
  unfold retestStep
  exact (Only.ite (Only.ite (Only.mono (modClu_only _ _ _) rfl) (Only.mono (retestEnd_only _ _ _ _) rfl)) (Only.ite
      (Only.ite (Only.mono (retestEnd_only _ _ _ _) rfl) (Only.ite (Only.mono (retestEnd_only _ _ _ _) rfl)
      (Only.via (Only.mono (modClu_only _ _ _) rfl) (modCell_only _ _ _) rfl))) (Only.ite (Only.via (Only.mono
      (modClu_only _ _ _) rfl) (urgentPush_only _ _ _ _) rfl) (Only.mono (urgentPush_only _ _ _ _) rfl))))

theorem retestTap_only (g code : Nat) (c : Conv) (s : State) : Only [.live, .regs, .cells, .clus, .flt, .rings,
    .wears, .seat] s (retestTap g code c s) := by
  unfold retestTap
  exact (by
    split; exact (Only.refl _ _)
    exact (Only.ite (Only.refl _ _) (Only.ite (Only.mono (retestEnd_only _ _ _ _) rfl) (Only.ite (Only.mono
        (retestEnd_only _ _ _ _) rfl) (Only.mono (retestEnd_only _ _ _ _) rfl)))))

theorem cmdStat_only (st index : Nat) (spare : Bool) (s : State) : Only [.live] s (cmdStat st index spare s) := by
  unfold cmdStat
  exact (Only.mono (setLive_only _ _ _) rfl)

theorem calCommand_only (w : Word) (s : State) : Only [.live, .sparing] s (calCommand w s) := by
  unfold calCommand
  exact (Only.ite (Only.refl _ _) (Only.ite (Only.mono (cmdStat_only _ _ _ _) rfl) (Only.via (Only.mono
      (modSparing_only _ _) rfl) (cmdStat_only _ _ _ _) rfl)))

theorem selfTestEnd_only (t : SelfTest) (pass : Bool) (s : State) : Only [.live, .secs, .sparing] s (selfTestEnd t
    pass s) := by
  unfold selfTestEnd
  exact (Only.via (Only.ite (Only.mono (modSparing_only _ _) rfl) (Only.ite (Only.via (Only.mono (modSparing_only _
      _) rfl) (modSparing_only _ _) rfl) (Only.via (Only.mono (modSparing_only _ _) rfl) (modSec_only _ _ _) rfl)))
      (cmdStat_only _ _ _ _) rfl)

theorem modDbg_only (f : Debug → Debug) (s : State) : Only [.dbg] s (modDbg f s) := by
  unfold modDbg
  exact (Only.mono (State.setDbg_only _ _) rfl)

theorem tellOwner_only (q : Nat) (l : Lock) (s : State) : Only [.live, .flt, .rings, .tally] s (tellOwner q l s) :=
    by
  unfold tellOwner
  exact (Only.ite (Only.mono (shiftBroken_only _ _ _) rfl) (Only.refl _ _))

theorem breakLock_only (q : Nat) (s : State) : Only [.live, .flt, .rings, .tally] s (breakLock q s) := by
  unfold breakLock
  exact (by
    split; exact (Only.refl _ _)
    exact (Only.via (Only.via (Only.mono (modRing_only _ _ _) rfl) (raiseOn_only _ _ _ _ _) rfl) (tellOwner_only _ _
        _) rfl))

theorem issue_only (q : Nat) (t : Txn) (void : Bool) (s : State) : Only [.rings] s (issue q t void s) := by
  unfold issue
  exact (Only.mono (modRing_only _ _ _) rfl)

theorem issueFor_only (q r : Nat) (void : Bool) (s : State) : Only [.rings] s (issueFor q r void s) := by
  unfold issueFor
  exact (by split; exact (Only.mono (issue_only _ _ _ _) rfl); exact (Only.refl _ _))

theorem expireLock_only (q : Nat) (s : State) : Only [.live, .flt, .rings, .tally] s (expireLock q s) := by
  unfold expireLock
  exact (by
    split; exact (Only.refl _ _)
    exact (Only.via (Only.when (Only.refl _ _) _ _ (fun _ => (Only.mono (issueFor_only _ _ _ _) rfl)))
        (breakLock_only _ _) rfl))

theorem beginCycle_only (q : Nat) (s0 : State) : Only [.live, .flt, .rings, .tally] s0 (beginCycle q s0) := by
  have h0 : Only [.live, .flt, .rings, .tally] s0 (if lockExpired s0 q then expireLock q s0 else s0) := Only.ite
      ((expireLock_only _ _).mono rfl) (Only.refl _ _)
  unfold beginCycle
  generalize (if lockExpired s0 q then expireLock q s0 else s0) = s at h0 ⊢
  refine Only.ite h0 (Only.ite ?_ ?_)
  · split
    · exact h0.via (modRing_only _ _ _) rfl
    · exact h0
  · split
    · exact h0.via (issueFor_only _ _ _ _) rfl
    · exact (h0.via (modRing_only _ _ _) rfl).via (issueFor_only _ _ _ _) rfl
    · exact h0

theorem drawStart_only (q : Nat) (s0 : State) : Only [.eng, .live, .flt, .rings, .tally] s0 (drawStart q s0) := by
  unfold drawStart
  exact (Only.ite (Only.via (Only.mono (beginCycle_only _ _) rfl) (modRing_only _ _ _) rfl) (Only.via (Only.via
      (Only.mono (beginCycle_only _ _) rfl) (modRing_only _ _ _) rfl) (engStart_only _ _ _) rfl))

theorem drawCommit_only (q : Nat) (s : State) : Only [.rings] s (drawCommit q s) := by
  unfold drawCommit
  exact (by split; exact (Only.refl _ _); exact (Only.mono (modRing_only _ _ _) rfl))

theorem calibSet_only (g k : Nat) (s : State) : Only [.live, .clus, .flt, .tally] s (calibSet g k s) := by
  unfold calibSet
  exact (Only.ite (Only.refl _ _) (Only.when (Only.via (Only.mono (State.setTally_only _ _) rfl) (modClu_only _ _ _)
      rfl) _ _ (fun _ => (Only.mono (raiseOn_only _ _ _ _ _) rfl))))

theorem deliverTxn_only (q : Nat) (t : Txn) (s : State) : Only [.live, .regs, .cells, .clus, .flt, .rings, .wears,
    .tally, .seat] s (deliverTxn q t s) := by
  unfold deliverTxn
  exact (by
    split; exact (Only.refl _ _)
    exact (Only.refl _ _)
    exact (Only.refl _ _)
    exact (Only.mono (startSpare_only _ _ _) rfl)
    exact (Only.mono (rotationEnd_only _ _ _) rfl)
    exact (Only.mono (State.setRegs_only _ _ (by
      rfl) (by
      rfl) (by
      rfl)) rfl)
    exact (Only.mono (shiftDone_only _ _ _ _ _) rfl)
    exact (Only.mono (calibSet_only _ _ _) rfl)
    exact (Only.mono (cellCmdEffect_only _ _ _) rfl))

theorem debugDone_only (t : Txn) (rdata : Word) (s : State) : Only [.live, .dbg] s (debugDone t rdata s) := by
  unfold debugDone
  exact (Only.ite (Only.when (Only.mono (modDbg_only _ _) rfl) _ _ (fun _ => (Only.mono (setLive_only _ _ _) rfl)))
      (Only.refl _ _))

theorem completeTxn_only (q : Nat) (t : Txn) (rdata : Word) (s0 : State) : Only [.live, .regs, .dbg, .cells, .clus,
    .flt, .rings, .wears, .tally, .seat] s0 (completeTxn q t rdata s0) := by
  have h0 : Only [.live, .regs, .dbg, .cells, .clus, .flt, .rings, .wears, .tally, .seat] s0 (debugDone t rdata
      (modRing q (fun x => { x with current := none, voidWr := false }) s0)) :=
    Only.via (Only.mono (modRing_only _ _ _) rfl) (debugDone_only _ _ _) rfl
  unfold completeTxn
  generalize debugDone t rdata (modRing q (fun x => { x with current := none, voidWr := false }) s0) = s at h0 ⊢
  dsimp only
  split
  · exact Only.ite (Only.ite (h0.via (deliverTxn_only _ _ _) rfl) h0)
      (Only.ite (Only.via (h0.via (modRing_only _ _ _) rfl) (breakLock_only _ _) rfl)
        (Only.ite (Only.foldl (Only.via (h0.via (modRing_only _ _ _) rfl) (modRing_only _ _ _) rfl) _ _
            fun _ _ => (deliverTxn_only _ _ _).mono rfl)
          (Only.ite (Only.via (h0.via (modRing_only _ _ _) rfl) (breakLock_only _ _) rfl) (h0.via (modRing_only _ _
              _) rfl))))
  · exact Only.ite (h0.via (deliverTxn_only _ _ _) rfl) h0

theorem withdrawn_abandonRetrimOf_only (n : Nat) (s : State) : Only [.regs, .cells, .clus, .rings] s
    (withdrawn.abandonRetrimOf n s) := by
  unfold withdrawn.abandonRetrimOf
  split
  · exact Only.ite ((abandonRetrim_only _ _).mono rfl) (Only.refl _ _)
  · exact Only.refl _ _

theorem withdrawn_only (s : State) (t : Txn) : Only [.regs, .dbg, .cells, .clus, .flt, .rings] s (withdrawn s t) :=
    by
  unfold withdrawn
  exact (by
    split; exact (Only.ite (Only.refl _ _) (Only.mono (incomingLost_only _ _ _) rfl))
    exact (Only.mono (rotationDropped_only _ _ _) rfl)
    exact (Only.via (Only.mono (modCell_only _ _ _) rfl) (withdrawn_abandonRetrimOf_only _ _) rfl)
    exact (Only.mono (modDbg_only _ _) rfl)
    exact (Only.refl _ _))

theorem ringDiscard_only (q : Nat) (s : State) : Only [.live, .regs, .dbg, .cells, .clus, .flt, .rings, .tally] s
    (ringDiscard q s) := by
  unfold ringDiscard
  exact (Only.foldl (Only.via (Only.mono (modRing_only _ _ _) rfl) (breakLock_only _ _) rfl) _ _ (fun _ _ =>
      (Only.mono (withdrawn_only _ _) rfl)))

theorem dbgCommand_only (w : Word) (s : State) : Only [.live, .dbg, .rings] s (dbgCommand w s) := by
  unfold dbgCommand
  exact (Only.ite (Only.via (Only.mono (modDbg_only _ _) rfl) (refuse_only _ _) rfl) (Only.via (Only.mono
      (modDbg_only _ _) rfl) (ringAsk_only _ _ _) rfl))

theorem debugReset_only (s : State) : Only [.dbg, .rings] s (debugReset s) := by
  unfold debugReset
  exact (Only.via (Only.via (Only.when (Only.refl _ _) _ _ (fun _ => (Only.mono (modDbg_only _ _) rfl)))
      (ownerReset_only _ _) rfl) (ringWithdraw_only _ _) rfl)

theorem modCal_only (f : CalStore → CalStore) (s : State) : Only [.cal] s (modCal f s) := by
  unfold modCal
  exact (Only.mono (State.setCal_only _ _) rfl)

theorem setFlash_only (i : Nat) (f : FlashSec) (s : State) : Only [.cal] s (setFlash i f s) := by
  unfold setFlash
  exact (Only.mono (modCal_only _ _) rfl)

theorem openSector_only (i : Nat) (s : State) : Only [.cal] s (openSector i s) := by
  unfold openSector
  exact (Only.via (Only.mono (setFlash_only _ _ _) rfl) (modCal_only _ _) rfl)

theorem openFor_only (i : Nat) (s : State) (write : State → State) {l : List Part} (hl : within [.cal] l = true)
    (hwrite : ∀ s, Only l s (write s)) : Only l s (openFor i s write) := by
  unfold openFor
  exact (Only.ite (Only.mono (modCal_only _ _) (within_trans rfl hl)) (Only.trans (Only.mono (openSector_only _ _)
      (within_trans rfl hl)) (hwrite _)))

theorem stcmdStat_only (st : Nat) (s : State) : Only [.cal] s (stcmdStat st s) := by
  unfold stcmdStat
  exact (Only.mono (modCal_only _ _) rfl)

theorem markRetired_only (i : Nat) (s : State) : Only [.live, .flt, .cal] s (markRetired i s) := by
  unfold markRetired
  exact (Only.via (Only.via (Only.mono (setFlash_only _ _ _) rfl) (modCal_only _ _) rfl) (raiseOn_only _ _ _ _ _)
      rfl)

theorem storeFull_only (s : State) : Only [.live, .flt, .cal] s (storeFull s) := by
  unfold storeFull
  exact (Only.foldl (Only.via (Only.when (Only.via (Only.mono (modCal_only _ _) rfl) (bumpBy_only _ _ _) rfl) _ _
      (fun _ => (Only.mono (stcmdStat_only _ _) rfl))) (raiseOn_only _ _ _ _ _) rfl) _ _ (fun _ _ => (Only.mono
      (markRetired_only _ _) rfl)))

theorem programAt_only (req : CalReq) (r : Record) (s : State) : Only [.cal] s (programAt req r s) := by
  unfold programAt
  exact (Only.mono (modCal_only _ _) rfl)

theorem makeRoom_only (len : Nat) (s : State) (write : State → State) {l : List Part} (hl : within [.live, .flt,
    .cal] l = true) (hwrite : ∀ s, Only l s (write s)) : Only l s (makeRoom len s write) := by
  unfold makeRoom
  exact (Only.ite (hwrite _) (by
    split; exact (openFor_only _ _ _ (within_trans rfl hl) hwrite)
    exact (by
      (dsimp only; split)
      exact (Only.ite (Only.mono (modCal_only _ _) (within_trans rfl hl)) (Only.mono (modCal_only _ _) (within_trans
          rfl hl)))
      exact (Only.mono (storeFull_only _) (within_trans rfl hl)))))

theorem retireSector_only (i : Nat) (s : State) : Only [.live, .flt, .cal] s (retireSector i s) := by
  unfold retireSector
  exact (Only.ite (Only.via (Only.mono (markRetired_only _ _) rfl) (modCal_only _ _) rfl) (Only.ite (Only.via
      (Only.via (Only.mono (markRetired_only _ _) rfl) (modCal_only _ _) rfl) (modCal_only _ _) rfl) (Only.via
      (Only.via (Only.via (Only.mono (markRetired_only _ _) rfl) (modCal_only _ _) rfl) (bump_only _ _) rfl)
      (modCal_only _ _) rfl)))

theorem calRun_only (n : Nat) (s : State) : Only [.live, .flt, .cal] s (calRun n s) := by
  induction n generalizing s with
  | zero => exact Only.refl _ _
  | succ n ih =>
    unfold calRun
    refine Only.ite (Only.refl _ _) ?_
    split
    · exact makeRoom_only _ _ _ rfl fun s => Only.via (Only.mono (modCal_only _ _) rfl) (programAt_only _ _ _) rfl
    · split
      · split
        · exact makeRoom_only _ _ _ rfl fun s => Only.via (Only.mono (modCal_only _ _) rfl) (programAt_only _ _ _)
              rfl
        · exact Only.ite (Only.trans (Only.via (Only.mono (modCal_only _ _) rfl) (retireSector_only _ _) rfl) (ih
              _))
            ((modCal_only _ _).mono rfl)
      · split
        · exact Only.refl _ _
        · exact makeRoom_only _ _ _ rfl fun s => Only.via (Only.mono (modCal_only _ _) rfl) (programAt_only _ _ _)
              rfl

theorem calGo_only (s : State) : Only [.live, .flt, .cal] s (calGo s) := by
  unfold calGo
  exact (Only.via (Only.mono (calRun_only _ _) rfl) (calRun_only _ _) rfl)

theorem calPush_only (r : CalReq) (s : State) : Only [.live, .flt, .cal] s (calPush r s) := by
  unfold calPush
  exact (Only.ite (Only.when (Only.refl _ _) _ _ (fun _ => (Only.mono (stcmdStat_only _ _) rfl))) (Only.ite
      (Only.when (Only.mono (bump_only _ _) rfl) _ _ (fun _ => (Only.mono (stcmdStat_only _ _) rfl))) (Only.ite
      (Only.refl _ _) (Only.ite (Only.when (Only.via (Only.when (Only.refl _ _) _ _ (fun _ => (Only.mono
      (modCal_only _ _) rfl))) (bump_only _ _) rfl) _ _ (fun _ => (Only.mono (stcmdStat_only _ _) rfl))) (Only.via
      (Only.mono (modCal_only _ _) rfl) (calGo_only _) rfl)))))

theorem blockWrite_only (typ key : Nat) (s : State) : Only [.live, .flt, .cal] s (blockWrite typ key s) := by
  unfold blockWrite
  exact (Only.mono (calPush_only _ _) rfl)

theorem refresh_only (r : Record) (s : State) : Only [.live, .flt, .cal] s (refresh r s) := by
  unfold refresh
  exact (Only.ite (Only.refl _ _) (Only.mono (calPush_only _ _) rfl))

theorem judgeRead_only (corr : Nat) (r : Record) (s : State) : Only [.live, .flt, .cal] s (judgeRead corr r s) := by
  unfold judgeRead
  exact (Only.when (Only.when (Only.refl _ _) _ _ (fun _ => (Only.mono (raise_only _ _ _) rfl))) _ _ (fun _ =>
      (Only.mono (refresh_only _ _) rfl)))

theorem badRecord_only (sector : Nat) (s : State) : Only [.live, .flt] s (badRecord sector s) := by
  unfold badRecord
  exact (Only.via (Only.mono (bump_only _ _) rfl) (raiseOn_only _ _ _ _ _) rfl)

theorem oweWear_only (lost : Bool) (s : State) : Only [.sparing] s (oweWear lost s) := by
  unfold oweWear
  exact (Only.when (Only.refl _ _) _ _ (fun _ => (Only.mono (modSparing_only _ _) rfl)))

theorem discover_only (s0 : State) : Only [.sparing, .cal] s0 (discover s0) := by
  unfold discover
  exact (Only.via (Only.mono (oweWear_only _ _) rfl) (modCal_only _ _) rfl)

theorem noPart_only (src : Nat) (s : State) : Only [.live, .flt, .cal] s (noPart src s) := by
  unfold noPart
  exact (Only.via (Only.mono (modCal_only _ _) rfl) (raiseOn_only _ _ _ _ _) rfl)

theorem jedec_only (id : BitVec 24) (s : State) : Only [.live, .flt, .cal] s (jedec id s) := by
  unfold jedec
  exact (Only.ite (Only.ite (Only.mono (noPart_only _ _) rfl) (Only.mono (modCal_only _ _) rfl)) (Only.via
      (Only.mono (modCal_only _ _) rfl) (setLive_only _ _ _) rfl))

theorem scanRecord_only (x : RecordRead) (s : State) : Only [.live, .flt, .cal] s (scanRecord x s) := by
  unfold scanRecord
  exact (Only.ite (Only.via (Only.mono (modCal_only _ _) rfl) (modCal_only _ _) rfl) (Only.ite (Only.via (Only.via
      (Only.mono (modCal_only _ _) rfl) (modCal_only _ _) rfl) (bumpBy_only _ _ _) rfl) (Only.via (Only.mono
      (modCal_only _ _) rfl) (badRecord_only _ _) rfl)))

theorem scanDone_only (headers : List SectorHeader) (images : List SectorImage) (s : State) : Only [.live, .flt,
    .cal] s (scanDone headers images s) := by
  unfold scanDone
  exact (Only.via (Only.foldl (Only.via (Only.foldl (Only.via (Only.foldl (Only.mono (modCal_only _ _) rfl) _ _ (fun
      _ _ => (Only.when (Only.refl _ _) _ _ (fun _ => (Only.via (Only.mono (setFlash_only _ _ _) rfl) (modCal_only _
      _) rfl))))) (modCal_only _ _) rfl) _ _ (fun _ _ => (Only.when (Only.refl _ _) _ _ (fun _ => (Only.mono
      (scanRecord_only _ _) rfl))))) (modCal_only _ _) rfl) _ _ (fun _ _ => (Only.when (Only.refl _ _) _ _ (fun _ =>
      (Only.mono (judgeRead_only _ _ _) rfl))))) (calGo_only _) rfl)

theorem programFailed_only (p : Program) (s : State) : Only [.live, .flt, .cal] s (programFailed p s) := by
  unfold programFailed
  exact (Only.ite (Only.via (Only.mono (modCal_only _ _) rfl) (modCal_only _ _) rfl) (Only.via (by
    split; exact (Only.trans (Only.mono (modCal_only _ _) rfl) (openFor_only _ _ _ rfl (fun _ => (Only.refl _ _))))
    exact (Only.mono (modCal_only _ _) rfl)) (calGo_only _) rfl))

theorem programDone_only (p : Program) (s : State) : Only [.live, .flt, .cal] s (programDone p s) := by
  unfold programDone
  exact (Only.ite (Only.via (Only.when (Only.when (Only.via (Only.mono (modCal_only _ _) rfl) (bump_only _ _) rfl) _
      _ (fun _ => (Only.mono (bump_only _ _) rfl))) _ _ (fun _ => (Only.mono (stcmdStat_only _ _) rfl)))
      (modCal_only _ _) rfl) (Only.ite (Only.when (Only.when (Only.via (Only.mono (modCal_only _ _) rfl) (bump_only
      _ _) rfl) _ _ (fun _ => (Only.mono (bump_only _ _) rfl))) _ _ (fun _ => (Only.mono (stcmdStat_only _ _) rfl)))
      (Only.via (Only.when (Only.when (Only.via (Only.mono (modCal_only _ _) rfl) (bump_only _ _) rfl) _ _ (fun _ =>
      (Only.mono (bump_only _ _) rfl))) _ _ (fun _ => (Only.mono (stcmdStat_only _ _) rfl))) (calGo_only _) rfl)))

theorem eraseFailed_only (i : Nat) (s : State) : Only [.live, .flt, .cal] s (eraseFailed i s) := by
  unfold eraseFailed
  exact (Only.ite (Only.via (Only.via (Only.mono (modCal_only _ _) rfl) (retireSector_only _ _) rfl) (modCal_only _
      _) rfl) (Only.via (Only.via (Only.mono (modCal_only _ _) rfl) (retireSector_only _ _) rfl) (calGo_only _)
      rfl))

theorem eraseDone_only (i : Nat) (s : State) : Only [.live, .flt, .cal] s (eraseDone i s) := by
  unfold eraseDone
  exact (Only.ite (Only.via (Only.via (Only.mono (modCal_only _ _) rfl) (setFlash_only _ _ _) rfl) (modCal_only _ _)
      rfl) (Only.via (Only.via (Only.mono (modCal_only _ _) rfl) (setFlash_only _ _ _) rfl) (calGo_only _) rfl))

theorem opOver_only (s : State) : Only [.live, .flt, .boot, .cal] s (opOver s) := by
  unfold opOver
  exact (Only.ite (by
    split; exact (Only.via (Only.via (Only.mono (raiseOn_only _ _ _ _ _) rfl) (programFailed_only _ _) rfl)
        (stopCheck_only _) rfl)
    exact (Only.via (Only.via (Only.mono (raiseOn_only _ _ _ _ _) rfl) (eraseFailed_only _ _) rfl) (stopCheck_only
        _) rfl)
    exact (Only.refl _ _)) (Only.refl _ _))

theorem scrubOne_only (reads : List SectorImage) (w : Record) (s : State) : Only [.live, .flt, .cal] s (scrubOne
    reads w s) := by
  unfold scrubOne
  exact (by
    split; exact (Only.mono (judgeRead_only _ _ _) rfl)
    exact (Only.ite (Only.via (Only.mono (bumpBy_only _ _ _) rfl) (judgeRead_only _ _ _) rfl) (Only.via (Only.mono
        (modCal_only _ _) rfl) (badRecord_only _ _) rfl)))

theorem scrub_only (reads : List SectorImage) (s : State) : Only [.live, .flt, .cal] s (scrub reads s) := by
  unfold scrub
  exact (Only.foldl (Only.mono (modCal_only _ _) rfl) _ _ (fun _ _ => (Only.mono (scrubOne_only _ _ _) rfl)))

theorem beginStcmd_only (op : Nat) (s : State) : Only [.cal] s (beginStcmd op s) := by
  unfold beginStcmd
  exact (Only.mono (modCal_only _ _) rfl)

theorem saveCmd_only (scope key : Nat) (s0 : State) : Only [.live, .flt, .cal] s0 (saveCmd scope key s0) := by
  unfold saveCmd
  exact (Only.ite (Only.via (Only.via (Only.mono (beginStcmd_only _ _) rfl) (refuse_only _ _) rfl) (stcmdStat_only _
      _) rfl) (by
    split; exact (Only.via (Only.via (Only.mono (beginStcmd_only _ _) rfl) (refuse_only _ _) rfl) (stcmdStat_only _
        _) rfl)
    exact (Only.via (Only.via (Only.mono (beginStcmd_only _ _) rfl) (stcmdStat_only _ _) rfl) (calPush_only _ _)
        rfl)))

theorem tombstoneCmd_only (typ key : Nat) (s0 : State) : Only [.live, .flt, .cal] s0 (tombstoneCmd typ key s0) := by
  unfold tombstoneCmd
  exact (Only.ite (Only.via (Only.via (Only.mono (beginStcmd_only _ _) rfl) (stcmdStat_only _ _) rfl) (calPush_only
      _ _) rfl) (Only.via (Only.via (Only.mono (beginStcmd_only _ _) rfl) (refuse_only _ _) rfl) (stcmdStat_only _
      _) rfl))

theorem stCommand_only (w : Word) (reads : List SectorImage) (s : State) : Only [.live, .flt, .cal] s (stCommand w
    reads s) := by
  unfold stCommand
  exact (Only.ite (Only.mono (saveCmd_only _ _ _) rfl) (Only.ite (Only.ite (Only.via (Only.via (Only.mono
      (beginStcmd_only _ _) rfl) (scrub_only _ _) rfl) (stcmdStat_only _ _) rfl) (Only.via (Only.via (Only.mono
      (beginStcmd_only _ _) rfl) (refuse_only _ _) rfl) (stcmdStat_only _ _) rfl)) (Only.ite (Only.mono
      (tombstoneCmd_only _ _ _) rfl) (Only.refl _ _))))

theorem queueWear_only (s : State) : Only [.live, .flt, .sparing, .cal] s (queueWear s) := by
  unfold queueWear
  exact (Only.via (Only.forEach (Only.mono (modSparing_only _ _) rfl) _ _ (fun _ _ => (Only.mono (blockWrite_only _
      _ _) rfl))) (blockWrite_only _ _ _) rfl)

theorem calThermalEnd_only (s0 : State) : Only [.live, .flt, .sparing, .cal] s0 (calThermalEnd s0) := by
  unfold calThermalEnd
  exact (Only.ite (Only.refl _ _) (Only.when (Only.when (Only.foldl (Only.mono (modCal_only _ _) rfl) _ _ (fun _ _
      => (Only.mono (calPush_only _ _) rfl))) _ _ (fun _ => (Only.mono (queueWear_only _) rfl))) _ _ (fun _ =>
      (Only.mono (blockWrite_only _ _ _) rfl))))

theorem calDiscard_only (s : State) : Only [.sparing, .boot, .cal] s (calDiscard s) := by
  unfold calDiscard
  exact (Only.via (Only.when (Only.via (Only.mono (modCal_only _ _) rfl) (oweWear_only _ _) rfl) _ _ (fun _ =>
      (Only.mono (stcmdStat_only _ _) rfl))) (stopCheck_only _) rfl)

theorem reloadWord_only (off : Nat) (s : State) : Only [.shadow, .regs] s (reloadWord off s) := by
  unfold reloadWord
  exact (Only.via (Only.mono (setShadow_only _ _ _) rfl) (modRegs_only _ _ (by
    intro _; rfl) (by
    intro _; rfl) (by
    intro _; rfl)) rfl)

theorem discardWrites_only (s : State) : Only [.shadow, .live, .regs] s (discardWrites s) := by
  unfold discardWrites
  exact (Only.via (Only.via (Only.foldl (Only.refl _ _) _ _ (fun _ _ => (Only.mono (reloadWord_only _ _) rfl)))
      (modRegs_only _ _ (by
    intro _; rfl) (by
    intro _; rfl) (by
    intro _; rfl)) rfl) (setBit_only _ _ _) rfl)

theorem urgentDropped_only (q : Nat) (s : State) (u : UrgReq) : Only [.clus] s (urgentDropped q s u) := by
  unfold urgentDropped
  exact (Only.ite (Only.mono (modClu_only _ _ _) rfl) (Only.ite (Only.mono (modClu_only _ _ _) rfl) (Only.refl _
      _)))

theorem dropUrgent_only (q : Nat) (s : State) : Only [.clus, .quads] s (dropUrgent q s) := by
  unfold dropUrgent
  exact (Only.foldl (Only.mono (modQuad_only _ _ _) rfl) _ _ (fun _ _ => (Only.mono (urgentDropped_only _ _ _)
      rfl)))

theorem discardInstall_only (l : Option Load) (s0 : State) : Only [.live, .flt, .rings, .tally] s0 (discardInstall
    l s0) := by
  unfold discardInstall
  exact (by
    split; exact (Only.mono (modTally_only _ _) rfl)
    exact (Only.ite (Only.foldl (Only.mono (modTally_only _ _) rfl) _ _ (fun _ _ => (Only.mono (askShifts_only _ _ _
        _) rfl))) (Only.via (Only.mono (modTally_only _ _) rfl) (refuseLoad_only _ _) rfl)))

theorem dropStart_only (s : State) : Only [.boot] s (dropStart s) := by
  unfold dropStart
  exact (Only.when (Only.refl _ _) _ _ (fun _ => (Only.mono (State.setBoot_only _ _) rfl)))

theorem discard_only (s : State) : Only [.shadow, .live, .regs, .ports, .dbg, .cells, .clus, .secs, .trail, .flt,
    .rings, .sparing, .tally, .quads, .blk, .plan, .seat, .boot, .cal] s (discard s) := by
  unfold discard
  exact (Only.ite (Only.refl _ _) (Only.via (Only.via (Only.via (Only.via (Only.forEach (Only.via (Only.via
      (Only.via (Only.via (Only.mono (State.setFlt_only _ _) rfl) (bump_only _ _) rfl) (dropStart_only _) rfl)
      (discardWrites_only _) rfl) (modTally_only _ _) rfl) _ _ (fun _ _ => (Only.via (Only.via (Only.mono
      (ringDiscard_only _ _) rfl) (dropUrgent_only _ _) rfl) (flushWindow_only _ _ _) rfl))) (discardInstall_only _
      _) rfl) (discardMig_only _) rfl) (blanketDiscard_only _) rfl) (calDiscard_only _) rfl))

theorem modLnk_only (f : Links → Links) (s : State) : Only [.lnk] s (modLnk f s) := by
  unfold modLnk
  exact (Only.mono (State.setLnk_only _ _) rfl)

theorem setGroup_only (g st : Nat) (s : State) : Only [.live, .secs, .trail, .lnk] s (setGroup g st s) := by
  unfold setGroup
  exact (by
    split; exact (Only.refl _ _)
    exact (Only.ite (Only.via (Only.mono (modLnk_only _ _) rfl) (requestUnit_only _ _ _) rfl) (Only.ite (Only.via
        (Only.mono (modLnk_only _ _) rfl) (retainUnit_only _ _ _) rfl) (Only.via (Only.mono (modLnk_only _ _) rfl)
        (releaseUnit_only _ _ _) rfl))))

theorem linkDiscoveryStart_only (s : State) : Only [.live, .secs, .trail, .lnk] s (linkDiscoveryStart s) := by
  unfold linkDiscoveryStart
  exact (Only.foldl (Only.mono (modLnk_only _ _) rfl) _ _ (fun _ _ => (Only.mono (setGroup_only _ _ _) rfl)))

theorem unplannedGroup_only (g : Nat) (s : State) : Only [.live, .secs, .trail, .flt, .lnk] s (unplannedGroup g s)
    := by
  unfold unplannedGroup
  exact (Only.via (Only.via (Only.mono (setGroup_only _ _ _) rfl) (modLnk_only _ _) rfl) (raiseOn_only _ _ _ _ _)
      rfl)

theorem absentGroup_only (g : Nat) (s : State) : Only [.live, .secs, .trail, .flt, .lnk] s (absentGroup g s) := by
  unfold absentGroup
  exact (Only.via (Only.via (Only.mono (setGroup_only _ _ _) rfl) (modLnk_only _ _) rfl) (raiseOn_only _ _ _ _ _)
      rfl)

theorem reportedGroup_only (g cls : Nat) (s : State) : Only [.live, .secs, .trail, .flt, .lnk] s (reportedGroup g
    cls s) := by
  unfold reportedGroup
  exact (Only.ite (Only.mono (setGroup_only _ _ _) rfl) (Only.ite (Only.mono (setGroup_only _ _ _) rfl) (Only.mono
      (unplannedGroup_only _ _) rfl)))

theorem takeResult_only (timeout : Bool) (s : State) : Only [.live, .secs, .trail, .flt, .lnk] s (takeResult
    timeout s) := by
  unfold takeResult
  exact (Only.via (Only.foldl (Only.refl _ _) _ _ (fun _ _ => (by
    split; exact (Only.mono (reportedGroup_only _ _ _) rfl)
    exact (Only.ite (Only.when (Only.refl _ _) _ _ (fun _ => (Only.mono (absentGroup_only _ _) rfl))) (Only.mono
        (setGroup_only _ _ _) rfl))))) (modLnk_only _ _) rfl)

theorem linkReport_only (w : Word) (s : State) : Only [.live, .secs, .trail, .flt, .lnk] s (linkReport w s) := by
  unfold linkReport
  exact (Only.ite (Only.when (Only.when (Only.refl _ _) _ _ (fun _ => (Only.mono (modLnk_only _ _) rfl))) _ _ (fun _
      => (Only.mono (takeResult_only _ _) rfl))) (Only.ite (Only.via (Only.mono (modLnk_only _ _) rfl)
      (reportedGroup_only _ _ _) rfl) (Only.refl _ _)))

theorem linkExpiry_only (s : State) : Only [.live, .secs, .trail, .flt, .lnk] s (linkExpiry s) := by
  unfold linkExpiry
  exact (Only.ite (Only.mono (takeResult_only _ _) rfl) (Only.via (Only.foldl (Only.refl _ _) _ _ (fun _ _ =>
      (Only.when (Only.refl _ _) _ _ (fun _ => (Only.mono (absentGroup_only _ _) rfl))))) (modLnk_only _ _) rfl))

theorem discOver_only (s : State) : Only [.live, .secs, .trail, .flt, .lnk] s (discOver s) := by
  unfold discOver
  exact (Only.when (Only.refl _ _) _ _ (fun _ => (Only.mono (linkExpiry_only _) rfl)))

theorem linkTake_only (w : Word) (s : State) : Only [.live, .secs, .trail, .lnk] s (linkTake w s) := by
  unfold linkTake
  exact (Only.ite (Only.refl _ _) (Only.mono (setGroup_only _ _ _) rfl))

theorem linkRequest_only (w : Word) (s : State) : Only [.live, .secs, .trail, .lnk] s (linkRequest w s) := by
  unfold linkRequest
  exact (Only.ite (Only.mono (modLnk_only _ _) rfl) (Only.mono (linkTake_only _ _) rfl))

theorem lateRequests_only (s : State) : Only [.live, .secs, .trail, .lnk] s (lateRequests s) := by
  unfold lateRequests
  exact (Only.foldl (Only.mono (modLnk_only _ _) rfl) _ _ (fun _ _ => (Only.mono (linkTake_only _ _) rfl)))

theorem linkLeave_only (s : State) : Only [.live, .secs, .trail, .lnk] s (linkLeave s) := by
  unfold linkLeave
  exact (Only.via (Only.foldl (Only.refl _ _) _ _ (fun _ _ => (Only.mono (setGroup_only _ _ _) rfl))) (modLnk_only _
      _) rfl)

theorem slicesRun_only (s : State) : Only [.secs] s (slicesRun s) := by
  unfold slicesRun
  exact (Only.forEach (Only.refl _ _) _ _ (fun _ _ => (by
    split; exact (Only.mono (requestUnit_only _ _ _) rfl)
    exact (Only.refl _ _))))

theorem railIdle_only (d : Nat) (s : State) : Only [.stages] s (railIdle d s) := by
  unfold railIdle
  exact (Only.mono (modStage_only _ _ _) rfl)

theorem leaveRun_only (d : Nat) (s : State) : Only [.live, .secs, .trail, .blk, .lnk] s (leaveRun d s) := by
  unfold leaveRun
  exact (Only.ite (Only.mono (blanketLeave_only _) rfl) (Only.ite (Only.mono (linkLeave_only _) rfl) (Only.refl _
      _)))

theorem tripDomain_only (d : Nat) (s : State) : Only [.eng, .live, .cells, .clus, .secs, .inrush, .trail, .flt,
    .rings, .stages, .blk, .seat, .lnk, .boot] s (tripDomain d s) := by
  unfold tripDomain
  exact (Only.ite (Only.refl _ _) (Only.via (Only.when (Only.when (Only.forEach (Only.via (Only.via (Only.mono
      (railIdle_only _ _) rfl) (modStage_only _ _ _) rfl) (setEng_only _ _ _ _) rfl) _ _ (fun _ _ => (Only.mono
      (sectorDiscard_only _ _) rfl))) _ _ (fun _ => (Only.mono (leaveRun_only _ _) rfl))) _ _ (fun _ =>
      (Only.forEach (Only.refl _ _) _ _ (fun _ _ => (Only.mono (flushWindow_only _ _ _) rfl))))) (stopCheck_only _)
      rfl))

theorem protTrip_only (src bit d : Nat) (s : State) : Only [.eng, .shadow, .live, .regs, .ports, .dbg, .cells,
    .clus, .secs, .inrush, .trail, .flt, .rings, .sparing, .tally, .stages, .quads, .blk, .plan, .seat, .lnk,
    .boot, .cal] s (protTrip src bit d s) := by
  unfold protTrip
  exact (Only.via (Only.via (Only.mono (raiseOn_only _ _ _ _ _) rfl) (tripDomain_only _ _) rfl) (discard_only _)
      rfl)

theorem offsetsDue_only (at0 d : Nat) (s : State) : Only [.stages] s (offsetsDue at0 d s) := by
  unfold offsetsDue
  exact (Only.mono (modStage_only _ _ _) rfl)

theorem startDomain_only (d : Nat) (s : State) : Only [.eng, .shadow, .live, .regs, .ports, .dbg, .cells, .clus,
    .secs, .inrush, .trail, .flt, .rings, .sparing, .tally, .stages, .chans, .quads, .blk, .plan, .seat, .lnk,
    .boot, .cal] s (startDomain d s) := by
  unfold startDomain
  exact (Only.ite (Only.refl _ _) (Only.when (Only.when (Only.forEach (Only.mono (modStage_only _ _ _) rfl) _ _ (fun
      _ _ => (Only.mono (modCh_only _ _ _) rfl))) _ _ (fun _ => (Only.mono (raiseOn_only _ _ _ _ _) rfl))) _ _ (fun
      _ => (Only.mono (protTrip_only _ _ _ _) rfl))))

theorem retireChannel_only (d l cause : Nat) (s : State) : Only [.eng, .shadow, .live, .regs, .ports, .dbg, .cells,
    .clus, .secs, .inrush, .trail, .flt, .rings, .sparing, .tally, .stages, .chans, .quads, .blk, .plan, .seat,
    .lnk, .boot, .cal] s (retireChannel d l cause s) := by
  unfold retireChannel
  exact (Only.ite (Only.refl _ _) (Only.ite (Only.via (Only.via (Only.via (Only.via (Only.mono (modCh_only _ _ _)
      rfl) (setLive_only _ _ _) rfl) (pageFlt_only _ _ _) rfl) (State.setSparing_only _ _) rfl) (modStage_only _ _
      _) rfl) (by
    split; exact (Only.via (Only.via (Only.via (Only.via (Only.via (Only.mono (modCh_only _ _ _) rfl) (setLive_only
        _ _ _) rfl) (pageFlt_only _ _ _) rfl) (State.setSparing_only _ _) rfl) (modStage_only _ _ _) rfl)
        (offsetsDue_only _ _ _) rfl)
    exact (Only.when (Only.via (Only.via (Only.via (Only.via (Only.via (Only.via (Only.mono (modCh_only _ _ _) rfl)
        (setLive_only _ _ _) rfl) (pageFlt_only _ _ _) rfl) (State.setSparing_only _ _) rfl) (modStage_only _ _ _)
        rfl) (offsetsDue_only _ _ _) rfl) (raiseOn_only _ _ _ _ _) rfl) _ _ (fun _ => (Only.mono (protTrip_only _ _
        _ _) rfl))))))

theorem faultChannel_only (src d l cause : Nat) (s : State) : Only [.eng, .shadow, .live, .regs, .ports, .dbg,
    .cells, .clus, .secs, .inrush, .trail, .flt, .rings, .sparing, .tally, .stages, .chans, .quads, .blk, .plan,
    .seat, .lnk, .boot, .cal] s (faultChannel src d l cause s) := by
  unfold faultChannel
  exact (Only.via (Only.mono (raise_only _ _ _) rfl) (retireChannel_only _ _ _ _) rfl)

theorem hostClear_only (d : Nat) (s : State) : Only [.live, .recov, .stages] s (hostClear d s) := by
  unfold hostClear
  exact (Only.ite (Only.mono (refuse_only _ _) rfl) (Only.ite (Only.refl _ _) (Only.via (Only.mono (modRecov_only _
      _ _) rfl) (modStage_only _ _ _) rfl)))

theorem stgStart_only (d : Nat) (s : State) : Only [.eng, .shadow, .live, .regs, .ports, .dbg, .cells, .clus,
    .secs, .inrush, .trail, .flt, .recov, .rings, .sparing, .tally, .stages, .chans, .quads, .blk, .plan, .seat,
    .lnk, .boot, .cal] s (stgStart d s) := by
  unfold stgStart
  exact (Only.ite (Only.mono (startDomain_only _ _) rfl) (Only.mono (hostClear_only _ _) rfl))

theorem stopDomain_only (d : Nat) (s : State) : Only [.live, .secs, .trail, .stages, .blk, .lnk] s (stopDomain d s)
    := by
  unfold stopDomain
  exact (Only.via (Only.via (Only.mono (railIdle_only _ _) rfl) (modStage_only _ _ _) rfl) (leaveRun_only _ _) rfl)

theorem stgStop_only (d : Nat) (s : State) : Only [.live, .secs, .trail, .stages, .blk, .lnk] s (stgStop d s) := by
  unfold stgStop
  exact (Only.ite (Only.forEach (Only.mono (stopDomain_only _ _) rfl) _ _ (fun _ _ => (Only.mono (voidStore_only _
      _) rfl))) (Only.mono (refuse_only _ _) rfl))

theorem stgRetire_only (d l : Nat) (s : State) : Only [.eng, .shadow, .live, .regs, .ports, .dbg, .cells, .clus,
    .secs, .inrush, .trail, .flt, .rings, .sparing, .tally, .stages, .chans, .quads, .blk, .plan, .seat, .lnk,
    .boot, .cal] s (stgRetire d l s) := by
  unfold stgRetire
  exact (Only.when (Only.refl _ _) _ _ (fun _ => (Only.mono (retireChannel_only _ _ _ _) rfl)))

theorem stgReturn_only (d l : Nat) (s : State) : Only [.stages, .chans] s (stgReturn d l s) := by
  unfold stgReturn
  exact (Only.ite (Only.when (Only.mono (modCh_only _ _ _) rfl) _ _ (fun _ => (Only.mono (modStage_only _ _ _)
      rfl))) (Only.refl _ _))

theorem stgCommand_only (d : Nat) (w : Word) (s : State) : Only [.eng, .shadow, .live, .regs, .ports, .dbg, .cells,
    .clus, .secs, .inrush, .trail, .flt, .recov, .rings, .sparing, .tally, .stages, .chans, .quads, .blk, .plan,
    .seat, .lnk, .boot, .cal] s (stgCommand d w s) := by
  unfold stgCommand
  exact (Only.when (Only.when (Only.when (Only.when (Only.refl _ _) _ _ (fun _ => (Only.mono (stgStart_only _ _)
      rfl))) _ _ (fun _ => (Only.mono (stgStop_only _ _) rfl))) _ _ (fun _ => (Only.mono (stgRetire_only _ _ _)
      rfl))) _ _ (fun _ => (Only.mono (stgReturn_only _ _ _) rfl)))

theorem enterSoft_only (follow d : Nat) (s : State) : Only [.live, .flt, .stages] s (enterSoft follow d s) := by
  unfold enterSoft
  exact (Only.when (Only.via (Only.via (Only.mono (modStage_only _ _ _) rfl) (bumpF_only _ _ _ _) rfl) (setLive_only
      _ _ _) rfl) _ _ (fun _ => (Only.mono (raise_only _ _ _) rfl)))

theorem sampleChecks_only (d v : Nat) (r : Int) (s : State) : Only [.stages] s (sampleChecks d v r s) := by
  unfold sampleChecks
  exact (Only.mono (modStage_only _ _ _) rfl)

theorem refDone_only (d : Nat) (s : State) : Only [.stages, .boot] s (refDone d s) := by
  unfold refDone
  exact (Only.ite (Only.mono (modStage_only _ _ _) rfl) (Only.ite (Only.via (Only.mono (modStage_only _ _ _) rfl)
      (stopCheck_only _) rfl) (Only.refl _ _)))

theorem compStart_only (d : Nat) (s : State) : Only [.eng, .live, .stages, .boot] s (compStart d s) := by
  unfold compStart
  exact (Only.via (Only.via (Only.via (by
    split; exact (Only.via (Only.via (Only.mono (modStage_only _ _ _) rfl) (result_only _ _ _) rfl)
        (sampleChecks_only _ _ _ _) rfl)
    exact (Only.via (Only.via (Only.mono (modStage_only _ _ _) rfl) (modStage_only _ _ _) rfl) (bump_only _ _) rfl))
      (modStage_only _ _ _) rfl) (engStart_only _ _ _) rfl) (refDone_only _ _) rfl)

theorem showRail_only (d : Nat) (s : State) : Only [.live] s (showRail d s) := by
  unfold showRail
  exact (by split; exact (Only.mono (result_only _ _ _) rfl); exact (Only.refl _ _))

theorem compCommit_only (d : Nat) (s : State) : Only [.live, .stages] s (compCommit d s) := by
  unfold compCommit
  exact (by
    split; exact (Only.refl _ _)
    exact (Only.via (Only.mono (modStage_only _ _ _) rfl) (setLive_only _ _ _) rfl))

theorem bootUp_only (s : State) : Only [.live, .boot] s (bootUp s) := by
  unfold bootUp
  exact (Only.when (Only.refl _ _) _ _ (fun _ => (Only.via (Only.mono (State.setBoot_only _ _) rfl) (setLive_only _
      _ _) rfl)))

theorem askUnits_only (d : Nat) (s : State) : Only [.live, .secs, .trail, .seat, .lnk] s (askUnits d s) := by
  unfold askUnits
  exact (Only.ite (Only.refl _ _) (Only.ite (Only.mono (logicRun_only _) rfl) (Only.ite (Only.mono (arrayRun_only _)
      rfl) (Only.ite (Only.mono (linkDiscoveryStart_only _) rfl) (Only.mono (slicesRun_only _) rfl)))))

theorem enterRun_only (d : Nat) (s : State) : Only [.live, .secs, .trail, .stages, .seat, .lnk, .boot] s (enterRun
    d s) := by
  unfold enterRun
  exact (Only.via (Only.forEach (Only.via (Only.mono (modStage_only _ _ _) rfl) (askUnits_only _ _) rfl) _ _ (fun _
      _ => (Only.mono (trySwitchOn_only _ _) rfl))) (bootUp_only _) rfl)

theorem pgOver_only (d : Nat) (s : State) : Only [.eng, .shadow, .live, .regs, .ports, .dbg, .cells, .clus, .secs,
    .inrush, .trail, .flt, .rings, .sparing, .tally, .stages, .quads, .blk, .plan, .seat, .lnk, .boot, .cal] s
    (pgOver d s) := by
  unfold pgOver
  exact (Only.when (Only.refl _ _) _ _ (fun _ => (Only.mono (protTrip_only _ _ _ _) rfl)))

theorem uvOver_only (d : Nat) (s : State) : Only [.live, .flt, .stages] s (uvOver d s) := by
  unfold uvOver
  exact (Only.when (Only.refl _ _) _ _ (fun _ => (Only.via (Only.mono (modStage_only _ _ _) rfl) (raiseOn_only _ _ _
      _ _) rfl)))

theorem railResult_only (d code edge : Nat) (s : State) : Only [.stages] s (railResult d code edge s) := by
  unfold railResult
  exact (Only.mono (modStage_only _ _ _) rfl)

theorem pulseRead_only (d : Nat) (s : State) : Only [.stages] s (pulseRead d s) := by
  unfold pulseRead
  exact (Only.mono (modStage_only _ _ _) rfl)

theorem periodStart_only (d : Nat) (s00 : State) : Only [.eng, .shadow, .live, .regs, .ports, .dbg, .cells, .clus,
    .secs, .inrush, .trail, .flt, .rings, .sparing, .tally, .stages, .chans, .quads, .blk, .plan, .seat, .lnk,
    .boot, .cal] s00 (periodStart d s00) := by
  unfold periodStart
  exact (Only.ite (Only.via (Only.when (Only.mono (pulseRead_only _ _) rfl) _ _ (fun _ => (Only.mono (bump_only _ _)
      rfl))) (protTrip_only _ _ _ _) rfl) (Only.ite (Only.via (Only.via (Only.foldl (Only.when (Only.mono
      (pulseRead_only _ _) rfl) _ _ (fun _ => (Only.mono (bump_only _ _) rfl))) _ _ (fun _ _ => (Only.mono
      (faultChannel_only _ _ _ _ _) rfl))) (modStage_only _ _ _) rfl) (modStage_only _ _ _) rfl) (Only.foldl
      (Only.when (Only.mono (pulseRead_only _ _) rfl) _ _ (fun _ => (Only.mono (bump_only _ _) rfl))) _ _ (fun _ _
      => (Only.mono (faultChannel_only _ _ _ _ _) rfl)))))

theorem cycleStart_only (ch : Nat) (s : State) : Only [.chans] s (cycleStart ch s) := by
  unfold cycleStart
  exact (Only.mono (modCh_only _ _ _) rfl)

theorem fastTrip_only (ch : Nat) (s : State) : Only [.eng, .shadow, .live, .regs, .ports, .dbg, .cells, .clus,
    .secs, .inrush, .trail, .flt, .rings, .sparing, .tally, .stages, .chans, .quads, .blk, .plan, .seat, .lnk,
    .boot, .cal] s (fastTrip ch s) := by
  unfold fastTrip
  exact (Only.when (Only.via (Only.via (Only.mono (modCh_only _ _ _) rfl) (modStage_only _ _ _) rfl) (bump_only _ _)
      rfl) _ _ (fun _ => (Only.mono (faultChannel_only _ _ _ _ _) rfl)))

theorem stageChResult_only (ch code : Nat) (s : State) : Only [.eng, .shadow, .live, .regs, .ports, .dbg, .cells,
    .clus, .secs, .inrush, .trail, .flt, .rings, .sparing, .tally, .stages, .chans, .quads, .blk, .plan, .seat,
    .lnk, .boot, .cal] s (stageChResult ch code s) := by
  unfold stageChResult
  exact (Only.when (Only.via (Only.mono (result_only _ _ _) rfl) (modCh_only _ _ _) rfl) _ _ (fun _ => (Only.mono
      (faultChannel_only _ _ _ _ _) rfl)))

theorem overloadOver_only (ch : Nat) (s : State) : Only [.eng, .shadow, .live, .regs, .ports, .dbg, .cells, .clus,
    .secs, .inrush, .trail, .flt, .rings, .sparing, .tally, .stages, .chans, .quads, .blk, .plan, .seat, .lnk,
    .boot, .cal] s (overloadOver ch s) := by
  unfold overloadOver
  exact (Only.when (Only.refl _ _) _ _ (fun _ => (Only.mono (faultChannel_only _ _ _ _ _) rfl)))

theorem deDecide_only (d b : Nat) (bad : Bool) (s : State) : Only [.stages] s (deDecide d b bad s) := by
  unfold deDecide
  exact (Only.ite (Only.mono (modStage_only _ _ _) rfl) (Only.ite (Only.refl _ _) (Only.ite (Only.mono
      (modStage_only _ _ _) rfl) (Only.mono (modStage_only _ _ _) rfl))))

theorem bUpdate_only (d : Nat) (s : State) : Only [.live, .flt, .stages] s (bUpdate d s) := by
  unfold bUpdate
  exact (Only.via (Only.when (Only.via (Only.via (Only.ite (Only.via (Only.mono (modStage_only _ _ _) rfl)
      (setLive_only _ _ _) rfl) (Only.refl _ _)) (modStage_only _ _ _) rfl) (result_only _ _ _) rfl) _ _ (fun _ =>
      (Only.via (Only.mono (modStage_only _ _ _) rfl) (raiseOn_only _ _ _ _ _) rfl))) (deDecide_only _ _ _ _) rfl)

theorem railStep_only (d : Nat) (s : State) : Only [.stages] s (railStep d s) := by
  unfold railStep
  exact (Only.mono (modStage_only _ _ _) rfl)

theorem modTherm_only (f : Therm → Therm) (s : State) : Only [.therm] s (modTherm f s) := by
  unfold modTherm
  exact (Only.mono (State.setTherm_only _ _) rfl)

theorem diodeResult_only (n code : Nat) (s : State) : Only [.therm] s (diodeResult n code s) := by
  unfold diodeResult
  exact (Only.mono (modTherm_only _ _) rfl)

theorem thermResult_only (k code : Nat) (s : State) : Only [.therm] s (thermResult k code s) := by
  unfold thermResult
  exact (Only.mono (modTherm_only _ _) rfl)

theorem thermStart_only (s : State) : Only [.eng, .live, .therm] s (thermStart s) := by
  unfold thermStart
  exact (Only.via (Only.when (Only.mono (modTherm_only _ _) rfl) _ _ (fun _ => (Only.via (Only.mono (modTherm_only _
      _) rfl) (setLive_only _ _ _) rfl))) (engStart_only _ _ _) rfl)

theorem failDiode_only (n : Nat) (s : State) : Only [.sparing, .therm] s (failDiode n s) := by
  unfold failDiode
  exact (Only.ite (Only.refl _ _) (Only.via (Only.mono (modTherm_only _ _) rfl) (State.setSparing_only _ _) rfl))

theorem judgeDiode_only (x : ThermIn) (n : Nat) (s : State) : Only [.flt, .sparing, .therm] s (judgeDiode x n s) :=
    by
  unfold judgeDiode
  exact (by
    split; exact (Only.refl _ _)
    exact (Only.ite (Only.refl _ _) (Only.when (Only.mono (modTherm_only _ _) rfl) _ _ (fun _ => (Only.via
        (Only.mono (failDiode_only _ _) rfl) (raise_only _ _ _) rfl)))))

theorem judgePair_only (x : ThermIn) (site : Nat) (s : State) : Only [.flt, .therm] s (judgePair x site s) := by
  unfold judgePair
  exact (by
    split; exact (Only.ite (Only.when (Only.mono (modTherm_only _ _) rfl) _ _ (fun _ => (Only.via (Only.mono
        (modTherm_only _ _) rfl) (raise_only _ _ _) rfl))) (Only.refl _ _))
    exact (Only.refl _ _))

theorem judgeSite_only (x : ThermIn) (site : Nat) (s : State) : Only [.live, .flt, .therm] s (judgeSite x site s)
    := by
  unfold judgeSite
  exact (Only.via (Only.when (Only.refl _ _) _ _ (fun _ => (Only.via (Only.mono (modTherm_only _ _) rfl)
      (raiseOn_only _ _ _ _ _) rfl))) (setLive_only _ _ _) rfl)

theorem judgeTherm_only (x : ThermIn) (k : Nat) (s : State) : Only [.live, .flt, .therm] s (judgeTherm x k s) := by
  unfold judgeTherm
  exact (by
    split; exact (Only.refl _ _)
    exact (Only.ite (Only.refl _ _) (Only.via (Only.when (Only.mono (modTherm_only _ _) rfl) _ _ (fun _ => (Only.via
        (Only.mono (modTherm_only _ _) rfl) (raiseOn_only _ _ _ _ _) rfl))) (setLive_only _ _ _) rfl)))

theorem raiseGroups_only (old new : List Nat) (blind0 blind1 : List Bool) (s : State) : Only [.live, .flt] s
    (raiseGroups old new blind0 blind1 s) := by
  unfold raiseGroups
  exact (Only.forEach (Only.forEach (Only.forEach (Only.forEach (Only.refl _ _) _ _ (fun _ _ => (Only.when
      (Only.refl _ _) _ _ (fun _ => (Only.ite (Only.mono (raiseOn_only _ _ _ _ _) rfl) (Only.mono (raise_only _ _ _)
      rfl)))))) _ _ (fun _ _ => (Only.when (Only.refl _ _) _ _ (fun _ => (Only.ite (Only.mono (raiseOn_only _ _ _ _
      _) rfl) (Only.mono (raise_only _ _ _) rfl)))))) _ _ (fun _ _ => (Only.when (Only.refl _ _) _ _ (fun _ =>
      (Only.ite (Only.mono (raiseOn_only _ _ _ _ _) rfl) (Only.mono (raise_only _ _ _) rfl)))))) _ _ (fun _ _ =>
      (Only.when (Only.refl _ _) _ _ (fun _ => (Only.mono (raiseOn_only _ _ _ _ _) rfl)))))

theorem beginEnforce_only (g : Nat) (s : State) : Only [.live, .flt, .therm] s (beginEnforce g s) := by
  unfold beginEnforce
  exact (Only.via (Only.via (Only.mono (modTherm_only _ _) rfl) (bump_only _ _) rfl) (raiseOn_only _ _ _ _ _) rfl)

theorem nativeLatch_only (x : ThermIn) (hot : Option Nat) (told : Bool) (s : State) : Only [.live, .flt, .therm] s
    (nativeLatch x hot told s) := by
  unfold nativeLatch
  exact (by
    split; exact (Only.mono (modTherm_only _ _) rfl)
    exact (Only.ite (Only.when (Only.mono (modTherm_only _ _) rfl) _ _ (fun _ => (Only.mono (raise_only _ _ _)
        rfl))) (by
      split; exact (Only.when (Only.refl _ _) _ _ (fun _ => (Only.mono (beginEnforce_only _ _) rfl)))
      exact (Only.refl _ _))))

theorem cycleDetect_only (x : ThermIn) (site : Nat) (s : State) : Only [.wears, .therm] s (cycleDetect x site s) :=
    by
  unfold cycleDetect
  exact (by
    split; exact (Only.refl _ _)
    exact (by
      split; exact (Only.mono (modTherm_only _ _) rfl)
      exact (Only.ite (Only.foldl (Only.mono (modTherm_only _ _) rfl) _ _ (fun _ _ => (Only.foldl (Only.refl _ _) _
          _ (fun _ _ => (Only.mono (setWear_only _ _ _) rfl))))) (Only.mono (modTherm_only _ _) rfl))
      exact (Only.mono (modTherm_only _ _) rfl)))

theorem noteHot_only (x : ThermIn) (site : Nat) (s : State) : Only [.seat] s (noteHot x site s) := by
  unfold noteHot
  exact (Only.mono (modSeat_only _ _) rfl)

theorem notePeak_only (die : Option Int) (s : State) : Only [.live, .therm] s (notePeak die s) := by
  unfold notePeak
  exact (by
    split; exact (Only.refl _ _)
    exact (Only.when (Only.refl _ _) _ _ (fun _ => (Only.via (Only.mono (modTherm_only _ _) rfl) (setLive_only _ _
        _) rfl))))

theorem thermCommit_only (s : State) : Only [.live, .flt, .wears, .sparing, .therm, .seat] s (thermCommit s) := by
  unfold thermCommit
  exact (by
    split; exact (Only.refl _ _)
    exact (Only.forEach (Only.forEach (Only.ite (Only.via (Only.via (Only.via (Only.forEach (Only.via (Only.forEach
        (Only.forEach (Only.forEach (Only.forEach (Only.refl _ _) _ _ (fun _ _ => (Only.mono (judgeDiode_only _ _ _)
        rfl))) _ _ (fun _ _ => (Only.mono (judgePair_only _ _ _) rfl))) _ _ (fun _ _ => (Only.mono (judgeSite_only _
        _ _) rfl))) _ _ (fun _ _ => (Only.mono (judgeTherm_only _ _ _) rfl))) (raiseGroups_only _ _ _ _ _) rfl) _ _
        (fun _ _ => (Only.mono (result_only _ _ _) rfl))) (notePeak_only _ _) rfl) (modTherm_only _ _) rfl)
        (nativeLatch_only _ _ _ _) rfl) (Only.via (Only.via (Only.via (Only.via (Only.forEach (Only.via
        (Only.forEach (Only.forEach (Only.forEach (Only.forEach (Only.refl _ _) _ _ (fun _ _ => (Only.mono
        (judgeDiode_only _ _ _) rfl))) _ _ (fun _ _ => (Only.mono (judgePair_only _ _ _) rfl))) _ _ (fun _ _ =>
        (Only.mono (judgeSite_only _ _ _) rfl))) _ _ (fun _ _ => (Only.mono (judgeTherm_only _ _ _) rfl)))
        (raiseGroups_only _ _ _ _ _) rfl) _ _ (fun _ _ => (Only.mono (result_only _ _ _) rfl))) (notePeak_only _ _)
        rfl) (modTherm_only _ _) rfl) (modTherm_only _ _) rfl) (setLive_only _ _ _) rfl)) _ _ (fun _ _ => (Only.mono
        (cycleDetect_only _ _ _) rfl))) _ _ (fun _ _ => (Only.mono (noteHot_only _ _ _) rfl))))

theorem thmCommand_only (w : Word) (s : State) : Only [.sparing, .therm] s (thmCommand w s) := by
  unfold thmCommand
  exact (Only.when (Only.when (Only.when (Only.refl _ _) _ _ (fun _ => (Only.via (Only.mono (modTherm_only _ _) rfl)
      (failDiode_only _ _) rfl))) _ _ (fun _ => (Only.mono (modTherm_only _ _) rfl))) _ _ (fun _ => (Only.mono
      (modTherm_only _ _) rfl)))

theorem toFailed_only (n cause : Nat) (s : State) : Only [.adcs] s (toFailed n cause s) := by
  unfold toFailed
  exact (Only.mono (modAdc_only _ _ _) rfl)

theorem adcFailed_only (n cause : Nat) (s : State) : Only [.sparing, .adcs] s (adcFailed n cause s) := by
  unfold adcFailed
  exact (Only.via (Only.mono (toFailed_only _ _ _) rfl) (State.setSparing_only _ _) rfl)

theorem dropResults_only (q : Nat) (s : State) : Only [.clus, .quads] s (dropResults q s) := by
  unfold dropResults
  exact (Only.foldl (Only.mono (modQuad_only _ _ _) rfl) _ _ (fun _ _ => (by
    (dsimp only; split)
    exact (Only.ite (Only.refl _ _) (Only.mono (urgentDropped_only _ _ _) rfl))
    exact (Only.refl _ _))))

theorem telemLost_only (q : Nat) (s : State) : Only [.live, .clus, .flt, .quads] s (telemLost q s) := by
  unfold telemLost
  exact (Only.via (by
    split; exact (Only.via (Only.via (Only.via (Only.mono (dropResults_only _ _) rfl) (dropUrgent_only _ _) rfl)
        (modQuad_only _ _ _) rfl) (urgentDropped_only _ _ _) rfl)
    exact (Only.via (Only.mono (dropResults_only _ _) rfl) (dropUrgent_only _ _) rfl)) (raiseOn_only _ _ _ _ _) rfl)

theorem oweRole_only (n role : Nat) (s0 : State) : Only [.clus, .adcOwed, .quads] s0 (oweRole n role s0) := by
  unfold oweRole
  exact (Only.via (Only.ite (Only.mono (dropResults_only _ _) rfl) (Only.refl _ _)) (State.setAdcOwed_only _ _) rfl)

theorem dropAdc_only (fail : State → State) (n : Nat) (s : State) {l : List Part} (hl : within [.clus, .adcOwed,
    .quads] l = true) (hfail : ∀ s, Only l s (fail s)) : Only l s (dropAdc fail n s) := by
  unfold dropAdc
  exact (by split; exact (Only.via (hfail _) (oweRole_only _ _ _) (within_trans rfl hl)); exact (hfail _))

theorem loseAdc_only (n cause : Nat) (s : State) : Only [.clus, .sparing, .adcs, .adcOwed, .quads] s (loseAdc n
    cause s) := by
  unfold loseAdc
  exact (Only.ite (Only.refl _ _) (dropAdc_only _ _ _ rfl (fun _ => (Only.mono (adcFailed_only _ _ _) rfl))))

theorem takeRole_only (role m : Nat) (s : State) : Only [.adcs] s (takeRole role m s) := by
  unfold takeRole
  exact (Only.mono (modAdc_only _ _ _) rfl)

theorem serveRole_only (s : State) (o : Nat × Nat) : Only [.live, .clus, .flt, .adcs, .adcOwed, .quads] s
    (serveRole s o) := by
  unfold serveRole
  exact (by
    split; exact (Only.mono (takeRole_only _ _ _) rfl)
    exact (Only.ite (Only.mono (State.setAdcOwed_only _ _) rfl) (Only.ite (Only.via (Only.mono (raise_only _ _ _)
        rfl) (telemLost_only _ _) rfl) (by
      split; exact (Only.mono (raise_only _ _ _) rfl)
      exact (by
        split; exact (Only.via (Only.via (Only.mono (raise_only _ _ _) rfl) (telemLost_only _ _) rfl) (takeRole_only
            _ _ _) rfl)
        exact (Only.mono (raise_only _ _ _) rfl))))))

theorem serveOwed_only (s : State) : Only [.live, .clus, .flt, .adcs, .adcOwed, .quads] s (serveOwed s) := by
  unfold serveOwed
  exact (Only.foldl (Only.mono (State.setAdcOwed_only _ _) rfl) _ _ (fun _ _ => (Only.mono (serveRole_only _ _)
      rfl)))

theorem connectAdc_only (n role : Nat) (s : State) : Only [.live, .flt, .adcs] s (connectAdc n role s) := by
  unfold connectAdc
  exact (Only.via (Only.mono (modAdc_only _ _ _) rfl) (raiseOn_only _ _ _ _ _) rfl)

theorem leaveCal_only (n : Nat) (s : State) : Only [.adcs] s (leaveCal n s) := by
  unfold leaveCal
  exact (by split <;> exact (Only.mono (modAdc_only _ _ _) rfl))

theorem calPair_only (n rl8 rh8 : Nat) (s : State) : Only [.live, .clus, .flt, .sparing, .adcs, .adcOwed, .quads] s
    (calPair n rl8 rh8 s) := by
  unfold calPair
  generalize calOf s (if (adc s n).state = .telem then (adc s n).role - 4 else 0) rl8 rh8 = p
  obtain ⟨g, o⟩ := p
  dsimp only
  generalize hs3 : modAdc n (fun a => { a with calAt := now s - 40 }) _ = s3
  have h0 : Only [.live, .clus, .flt, .sparing, .adcs, .adcOwed, .quads] s s3 := by
    rw [← hs3]
    refine Only.via ?_ (modAdc_only _ _ _) rfl
    exact Only.ite (Only.via (Only.via (Only.mono (setLive_only _ _ _) rfl) (modAdc_only _ _ _) rfl) (bump_only _ _)
        rfl)
      (Only.via (Only.mono (setLive_only _ _ _) rfl) (raiseOn_only _ _ _ _ _) rfl)
  split
  · exact Only.ite (h0.via (leaveCal_only _ _) rfl) (h0.via (loseAdc_only _ _ _) rfl)
  · exact h0.when _ _ fun _ => (modAdc_only _ _ _).mono rfl
  · exact h0

theorem corrSamples_only (n : Nat) (bad : List Bool) (s : State) : Only [.live, .flt, .adcs] s (corrSamples n bad
    s) := by
  unfold corrSamples
  exact (Only.when (Only.via (Only.mono (modAdc_only _ _ _) rfl) (bumpBy_only _ _ _) rfl) _ _ (fun _ => (Only.mono
      (raiseOn_only _ _ _ _ _) rfl)))

theorem adcCommand_only (n : Nat) (w : Word) (s : State) : Only [.live, .clus, .sparing, .adcs, .adcOwed, .quads] s
    (adcCommand n w s) := by
  unfold adcCommand
  exact (Only.ite (Only.ite (Only.via (Only.when (Only.refl _ _) _ _ (fun _ => (Only.mono (loseAdc_only _ _ _)
      rfl))) (modAdc_only _ _ _) rfl) (Only.via (Only.when (Only.refl _ _) _ _ (fun _ => (Only.mono (loseAdc_only _
      _ _) rfl))) (refuse_only _ _) rfl)) (Only.when (Only.refl _ _) _ _ (fun _ => (Only.mono (loseAdc_only _ _ _)
      rfl))))

theorem startEntry_only (q : Nat) (s : State) : Only [.quads] s (startEntry q s) := by
  unfold startEntry
  exact (Only.mono (modQuad_only _ _ _) rfl)

theorem startUrgent_only (q : Nat) (r : UrgReq) (rest : List UrgReq) (s : State) : Only [.live, .quads] s
    (startUrgent q r rest s) := by
  unfold startUrgent
  exact (Only.when (Only.mono (modQuad_only _ _ _) rfl) _ _ (fun _ => (Only.mono (bump_only _ _) rfl)))

theorem urgCommand_only (q : Nat) (w : Word) (s : State) : Only [.live, .quads] s (urgCommand q w s) := by
  unfold urgCommand
  exact (Only.when (Only.refl _ _) _ _ (fun _ => (Only.mono (urgentPush_only _ _ _ _) rfl)))

theorem crossCheck_only (q d code : Nat) (c : Conv) (s : State) : Only [.quads] s (crossCheck q d code c s) := by
  unfold crossCheck
  exact (Only.ite (Only.refl _ _) (by split; exact (Only.refl _ _); exact (Only.mono (modQuad_only _ _ _) rfl)))

theorem deliver_only (q code : Nat) (c : Conv) (s : State) : Only [.eng, .shadow, .live, .regs, .ports, .dbg,
    .cells, .clus, .secs, .inrush, .trail, .flt, .rings, .sparing, .tally, .stages, .chans, .quads, .therm, .blk,
    .plan, .seat, .lnk, .boot, .cal] s (deliver q code c s) := by
  unfold deliver
  exact (Only.ite (Only.ite (Only.refl _ _) (Only.ite (Only.ite (Only.refl _ _) (Only.mono (result_only _ _ _) rfl))
      (Only.ite (Only.mono (result_only _ _ _) rfl) (Only.via (Only.mono (result_only _ _ _) rfl) (updateK_only _ _
      _ _) rfl)))) (Only.ite (Only.ite (Only.refl _ _) (Only.mono (diodeResult_only _ _ _) rfl)) (Only.ite
      (Only.mono (stageChResult_only _ _ _) rfl) (Only.ite (Only.mono (thermResult_only _ _ _) rfl) (Only.ite
      (Only.via (Only.mono (result_only _ _ _) rfl) (crossCheck_only _ _ _ _ _) rfl) (Only.ite (Only.mono
      (result_only _ _ _) rfl) (Only.ite (Only.mono (result_only _ _ _) rfl) (Only.ite (Only.mono (result_only _ _
      _) rfl) (Only.mono (result_only _ _ _) rfl)))))))))

theorem takeConv_only (q : Nat) (c : Conv) (sum : Nat) (s : State) : Only [.quads] s (takeConv q c sum s) := by
  unfold takeConv
  exact (Only.mono (modQuad_only _ _ _) rfl)

theorem calibAsk_only (g tap at0 : Nat) (s : State) : Only [.rings] s (calibAsk g tap at0 s) := by
  unfold calibAsk
  exact (by split; exact (Only.refl _ _); exact (Only.ite (Only.refl _ _) (Only.mono (ringAsk_only _ _ _) rfl)))

theorem answerUrgent_only (q code : Nat) (c : Conv) (s : State) : Only [.live, .regs, .cells, .clus, .flt, .rings,
    .wears, .seat] s (answerUrgent q code c s) := by
  unfold answerUrgent
  exact (by
    split; exact (Only.ite (Only.mono (modClu_only _ _ _) rfl) (Only.mono (retireSensor_only _ _ _) rfl))
    exact (Only.mono (calibAsk_only _ _ _ _) rfl)
    exact (Only.ite (Only.refl _ _) (Only.mono (result_only _ _ _) rfl))
    exact (Only.mono (retestTap_only _ _ _ _) rfl)
    exact (Only.refl _ _))

theorem autoCal_only (q n : Nat) (auto : Bool) (s : State) : Only [.live, .flt, .adcs] s (autoCal q n auto s) := by
  unfold autoCal
  exact (by
    split; exact (Only.ite (Only.mono (setLive_only _ _ _) rfl) (Only.ite (Only.via (Only.via (Only.mono
        (setLive_only _ _ _) rfl) (modAdc_only _ _ _) rfl) (bump_only _ _) rfl) (Only.via (Only.mono (setLive_only _
        _ _) rfl) (raiseOn_only _ _ _ _ _) rfl)))
    exact (Only.refl _ _))

theorem passEnd_only (q n : Nat) (p : Nat × Bool) (s : State) : Only [.live, .flt, .adcs, .quads] s (passEnd q n p
    s) := by
  unfold passEnd
  exact (Only.when (Only.via (Only.via (Only.mono (bump_only _ _) rfl) (setLive_only _ _ _) rfl) (modQuad_only _ _
      _) rfl) _ _ (fun _ => (Only.mono (autoCal_only _ _ _ _) rfl)))

theorem endEntry_only (q n : Nat) (s : State) : Only [.adcs, .quads] s (endEntry q n s) := by
  unfold endEntry
  exact (Only.via (Only.mono (modQuad_only _ _ _) rfl) (modAdc_only _ _ _) rfl)

theorem unresolved_only (d q : Nat) (s : State) : Only [.live, .flt] s (unresolved d q s) := by
  unfold unresolved
  exact (Only.via (Only.mono (bumpF_only _ _ _ _) rfl) (raiseOn_only _ _ _ _ _) rfl)

theorem clearRun_only (d q : Nat) (s : State) : Only [.quads] s (clearRun d q s) := by
  unfold clearRun
  exact (Only.mono (modQuad_only _ _ _) rfl)

theorem modFlt_only (f : Faults → Faults) (s : State) : Only [.flt] s (modFlt f s) := by
  unfold modFlt
  exact (Only.mono (State.setFlt_only _ _) rfl)

theorem contain_only (r : Reg) (s : State) : Only [.eng, .live, .clus, .secs, .trail, .flt, .rings, .sparing,
    .adcs, .adcOwed, .quads] s (contain r s) := by
  have h0 : Only [.eng, .live, .clus, .secs, .trail, .flt, .rings, .sparing, .adcs, .adcOwed, .quads] s (
    if r.src = Src.SEC_ENG_FAULT then (if r.det < sectors s then checkDark r.det (engineLost r.det r.at0 s) else s)
    else if r.src = Src.ENG_OVERRUN_RPT then
      (if r.det / 4096 = clsSector && decide (r.det % 4096 < sectors s) then
        checkDark (r.det % 4096) (engineLost (r.det % 4096) r.at0 s) else s)
    else if 64 ≤ r.src && r.src ≤ 66 then (if r.det < 12 then loseAdc r.det (r.src - 63) s else s)
    else s) := Only.ite (Only.ite (Only.via (Only.mono (engineLost_only _ _ _) rfl) (checkDark_only _ _) rfl)
        (Only.refl _ _))
    (Only.ite (Only.ite (Only.via (Only.mono (engineLost_only _ _ _) rfl) (checkDark_only _ _) rfl) (Only.refl _ _))
      (Only.ite (Only.ite ((loseAdc_only _ _ _).mono rfl) (Only.refl _ _)) (Only.refl _ _)))
  unfold contain
  dsimp only
  split
  · exact h0.via (ownerFault_only _ _ _) rfl
  · exact h0

theorem alertLost_only (seq : Nat) (s : State) : Only [.live, .flt] s (alertLost seq s) := by
  unfold alertLost
  exact (Only.mono (raiseOn_only _ _ _ _ _) rfl)

theorem sendAlert_only (s : State) : Only [.ports, .flt] s (sendAlert s) := by
  unfold sendAlert
  exact (by
    split; exact (Only.via (Only.mono (modFlt_only _ _) rfl) (initSend_only _ _ _) rfl)
    exact (Only.refl _ _))

theorem queueAlert_only (a : AlertRec) (s : State) : Only [.live, .ports, .flt] s (queueAlert a s) := by
  unfold queueAlert
  exact (Only.ite (Only.ite (Only.via (Only.mono (modFlt_only _ _) rfl) (sendAlert_only _) rfl) (Only.via (Only.via
      (Only.mono (modFlt_only _ _) rfl) (bumpF_only _ _ _ _) rfl) (alertLost_only _ _) rfl)) (Only.refl _ _))

theorem requestIbi_only (src sev seq : Nat) (s : State) : Only [.live, .flt] s (requestIbi src sev seq s) := by
  unfold requestIbi
  exact (Only.ite (by
    split; exact (Only.mono (modFlt_only _ _) rfl)
    exact (Only.via (Only.mono (modFlt_only _ _) rfl) (setBit_only _ _ _) rfl)) (Only.refl _ _))

theorem alert_only (r : Reg) (sev : Nat) (first : Bool) (s : State) : Only [.live, .ports, .flt] s (alert r sev
    first s) := by
  unfold alert
  exact (Only.via (Only.when (Only.mono (setLive_only _ _ _) rfl) _ _ (fun _ => (Only.mono (queueAlert_only _ _)
      rfl))) (requestIbi_only _ _ _ _) rfl)

theorem record_only (r : Reg) (sev : Nat) (s : State) : Only [.live, .flt] s (record r sev s) := by
  unfold record
  exact (Only.ite (Only.via (Only.via (Only.when (Only.via (Only.mono (setBit_only _ _ _) rfl) (bump_only _ _) rfl)
      _ _ (fun _ => (Only.mono (modFlt_only _ _) rfl))) (setBit_only _ _ _) rfl) (bumpF_only _ _ _ _) rfl) (Only.via
      (Only.via (Only.via (Only.when (Only.via (Only.mono (setBit_only _ _ _) rfl) (bump_only _ _) rfl) _ _ (fun _
      => (Only.mono (modFlt_only _ _) rfl))) (setLive_only _ _ _) rfl) (setLive_only _ _ _) rfl) (setLive_only _ _
      _) rfl))

theorem pendRead_only (w : Nat) (s : State) : Only [.flt] s (pendRead w s) := by
  unfold pendRead
  exact (Only.mono (modFlt_only _ _) rfl)

theorem restartQuiet_only (r : Reg) (s : State) : Only [.flt, .recov] s (restartQuiet r s) := by
  unfold restartQuiet
  exact (Only.forEach (Only.mono (modFlt_only _ _) rfl) _ _ (fun _ _ => (Only.mono (modRecov_only _ _ _) rfl)))

theorem domainOff_only (r : Reg) (sev d : Nat) (s : State) : Only [.eng, .live, .cells, .clus, .secs, .inrush,
    .trail, .flt, .recov, .rings, .stages, .blk, .seat, .lnk, .boot] s (domainOff r sev d s) := by
  unfold domainOff
  exact (Only.ite (Only.refl _ _) (Only.ite (Only.via (Only.mono (tripDomain_only _ _) rfl) (modRecov_only _ _ _)
      rfl) (Only.ite (Only.via (Only.via (Only.via (Only.mono (tripDomain_only _ _) rfl) (modRecov_only _ _ _) rfl)
      (modRecov_only _ _ _) rfl) (raiseOn_only _ _ _ _ _) rfl) (Only.via (Only.via (Only.mono (tripDomain_only _ _)
      rfl) (modRecov_only _ _ _) rfl) (modRecov_only _ _ _) rfl))))

theorem takeOff_only (r : Reg) (sev : Nat) (s : State) : Only [.eng, .live, .cells, .clus, .secs, .inrush, .trail,
    .flt, .recov, .rings, .stages, .blk, .seat, .lnk, .boot] s (takeOff r sev s) := by
  unfold takeOff
  exact (Only.ite (Only.via (Only.forEach (Only.refl _ _) _ _ (fun _ _ => (Only.mono (domainOff_only _ _ _ _) rfl)))
      (modFlt_only _ _) rfl) (Only.forEach (Only.refl _ _) _ _ (fun _ _ => (Only.mono (domainOff_only _ _ _ _)
      rfl))))

theorem actOn_only (r : Reg) (s : State) : Only [.eng, .live, .ports, .cells, .clus, .secs, .inrush, .trail, .flt,
    .recov, .rings, .sparing, .stages, .adcs, .adcOwed, .quads, .blk, .seat, .lnk, .boot] s (actOn r s) := by
  unfold actOn
  exact (Only.when (Only.when (Only.when (Only.when (Only.when (Only.refl _ _) _ _ (fun _ => (Only.mono
      (restartQuiet_only _ _) rfl))) _ _ (fun _ => (Only.mono (contain_only _ _) rfl))) _ _ (fun _ => (Only.mono
      (record_only _ _ _) rfl))) _ _ (fun _ => (Only.mono (alert_only _ _ _ _) rfl))) _ _ (fun _ => (Only.mono
      (takeOff_only _ _ _) rfl)))

theorem faultLatch_only (s : State) : Only [.eng, .shadow, .live, .regs, .ports, .dbg, .cells, .clus, .secs,
    .inrush, .trail, .flt, .recov, .rings, .sparing, .tally, .stages, .adcs, .adcOwed, .quads, .blk, .plan, .seat,
    .lnk, .boot, .cal] s (faultLatch s) := by
  unfold faultLatch
  exact (Only.when (Only.foldl (Only.when (Only.via (Only.mono (engStart_only _ _ _) rfl) (modFlt_only _ _) rfl) _ _
      (fun _ => (Only.mono (overrun_only _ _ _) rfl))) _ _ (fun _ _ => (Only.mono (actOn_only _ _) rfl))) _ _ (fun _
      => (Only.mono (discard_only _) rfl)))

theorem beginRecovery_only (d : Nat) (s : State) : Only [.eng, .shadow, .live, .regs, .ports, .dbg, .cells, .clus,
    .secs, .inrush, .trail, .flt, .recov, .rings, .sparing, .tally, .stages, .chans, .quads, .blk, .plan, .seat,
    .lnk, .boot, .cal] s (beginRecovery d s) := by
  unfold beginRecovery
  exact (Only.via (Only.mono (modRecov_only _ _ _) rfl) (startDomain_only _ _) rfl)

theorem quietOver_only (d : Nat) (s : State) : Only [.eng, .shadow, .live, .regs, .ports, .dbg, .cells, .clus,
    .secs, .inrush, .trail, .flt, .recov, .rings, .sparing, .tally, .stages, .chans, .quads, .blk, .plan, .seat,
    .lnk, .boot, .cal] s (quietOver d s) := by
  unfold quietOver
  exact (Only.when (Only.refl _ _) _ _ (fun _ => (Only.mono (beginRecovery_only _ _) rfl)))

theorem endChipOff_only (s : State) : Only [.eng, .shadow, .live, .regs, .ports, .dbg, .cells, .clus, .secs,
    .inrush, .trail, .flt, .recov, .rings, .sparing, .tally, .stages, .chans, .quads, .blk, .plan, .seat, .lnk,
    .boot, .cal] s (endChipOff s) := by
  unfold endChipOff
  exact (Only.forEach (Only.mono (modFlt_only _ _) rfl) _ _ (fun _ _ => (Only.when (Only.refl _ _) _ _ (fun _ =>
      (Only.mono (beginRecovery_only _ _) rfl)))))

theorem chipOver_only (s : State) : Only [.eng, .shadow, .live, .regs, .ports, .dbg, .cells, .clus, .secs, .inrush,
    .trail, .flt, .recov, .rings, .sparing, .tally, .stages, .chans, .quads, .blk, .plan, .seat, .lnk, .boot, .cal]
    s (chipOver s) := by
  unfold chipOver
  exact (Only.when (Only.refl _ _) _ _ (fun _ => (Only.mono (endChipOff_only _) rfl)))

theorem fltCommand_only (w : Word) (s : State) : Only [.eng, .shadow, .live, .regs, .ports, .dbg, .cells, .clus,
    .secs, .inrush, .trail, .flt, .recov, .rings, .sparing, .tally, .stages, .chans, .quads, .blk, .plan, .seat,
    .lnk, .boot, .cal] s (fltCommand w s) := by
  unfold fltCommand
  exact (Only.when (Only.forEach (Only.when (Only.refl _ _) _ _ (fun _ => (Only.via (Only.via (Only.via (Only.mono
      (setLive_only _ _ _) rfl) (setLive_only _ _ _) rfl) (setLive_only _ _ _) rfl) (setField_only _ _ _ _ _) rfl)))
      _ _ (fun _ _ => (Only.when (Only.refl _ _) _ _ (fun _ => (Only.mono (hostClear_only _ _) rfl))))) _ _ (fun _
      => (Only.ite (Only.mono (refuse_only _ _) rfl) (Only.mono (endChipOff_only _) rfl))))

theorem fltInject_only (w : Word) (s : State) : Only [.flt] s (fltInject w s) := by
  unfold fltInject
  exact (Only.when (Only.refl _ _) _ _ (fun _ => (Only.mono (raise_only _ _ _) rfl)))

theorem writeShadow_only (off : Nat) (w : Word) (s : State) : Only [.shadow, .live, .regs] s (writeShadow off w s)
    := by
  unfold writeShadow
  exact (Only.when (Only.via (Only.mono (setShadow_only _ _ _) rfl) (modRegs_only _ _ (by
    intro _; rfl) (by
    intro _; rfl) (by
    intro _; rfl)) rfl) _ _ (fun _ => (Only.mono (setField_only _ _ _ _ _) rfl)))

theorem parityNote_only (off : Nat) (act shd repaired : Bool) (s : State) : Only [.live] s (parityNote off act shd
    repaired s) := by
  unfold parityNote
  exact (Only.ite (Only.via (Only.mono (setBit_only _ _ _) rfl) (setLive_only _ _ _) rfl) (Only.via (Only.mono
      (setBit_only _ _ _) rfl) (setBit_only _ _ _) rfl))

theorem pendWrite_only (off : Nat) (w : Word) (s0 : State) : Only [.shadow, .live, .regs] s0 (pendWrite off w s0)
    := by
  unfold pendWrite
  exact (by
    (dsimp only; split) <;> exact (Only.via (Only.mono (writeShadow_only _ _ _) rfl) (modRegs_only _ _ (by
      intro _; rfl) (by
      intro _; rfl) (by
      intro _; rfl)) rfl))

theorem enterSense_only (s : State) : Only [.clus, .boot] s (enterSense s) := by
  unfold enterSense
  exact (Only.forEach (Only.mono (State.setBoot_only _ _) rfl) _ _ (fun _ _ => (Only.mono (modClu_only _ _ _) rfl)))

theorem applyHooks_only (before : State) (words : List (Nat × Word)) (s : State) : Only [.live, .clus, .secs,
    .trail, .flt, .rings, .quads, .blk, .boot] s (applyHooks before words s) := by
  unfold applyHooks
  exact (Only.via (Only.when (Only.when (Only.when (Only.via (Only.via (Only.forEach (Only.when (Only.forEach
      (Only.refl _ _) _ _ (fun _ _ => (Only.when (Only.refl _ _) _ _ (fun _ => (Only.mono (modQuad_only _ _ _)
      rfl))))) _ _ (fun _ => (Only.forEach (Only.refl _ _) _ _ (fun _ _ => (Only.mono (modRing_only _ _ _) rfl)))))
      _ _ (fun _ _ => (Only.when (Only.refl _ _) _ _ (fun _ => (Only.mono (flushWindow_only _ _ _) rfl)))))
      (blanketOff_only _) rfl) (checkShares_only _) rfl) _ _ (fun _ => (Only.forEach (Only.refl _ _) _ _ (fun _ _ =>
      (Only.mono (opTakesEffect_only _ _) rfl))))) _ _ (fun _ => (Only.mono (syncGroups_only _) rfl))) _ _ (fun _ =>
      (Only.mono (enterSense_only _) rfl))) (bootUp_only _) rfl)

theorem acceptApply_only (words : List (Nat × Word)) (s : State) : Only [.active, .live, .regs, .clus, .secs,
    .trail, .flt, .rings, .quads, .blk, .boot] s (acceptApply words s) := by
  unfold acceptApply
  exact (Only.ite (Only.refl _ _) (Only.via (Only.via (Only.via (Only.via (Only.foldl (Only.via (Only.foldl
      (Only.refl _ _) _ _ (fun _ _ => (Only.via (Only.mono (setActive_only _ _ _) rfl) (modRegs_only _ _ (by
    intro _; rfl) (by
    intro _; rfl) (by
    intro _; rfl)) rfl))) (setLive_only _ _ _) rfl) _ _ (fun _ _ => (Only.via (Only.mono (setBit_only _ _ _) rfl)
      (setLive_only _ _ _) rfl))) (setBit_only _ _ _) rfl) (setLive_only _ _ _) rfl) (State.setBoot_only _ _) rfl)
      (applyHooks_only _ _ _) rfl))

theorem parityRefused_only (bad : List Nat) (s : State) : Only [.live, .flt] s (parityRefused bad s) := by
  unfold parityRefused
  exact (by
    split; exact (Only.refl _ _)
    exact (Only.via (Only.via (Only.via (Only.foldl (Only.refl _ _) _ _ (fun _ _ => (Only.mono (parityNote_only _ _
        _ _ _) rfl))) (setBit_only _ _ _) rfl) (setField_only _ _ _ _ _) rfl) (raise_only _ _ _) rfl))

theorem freeze_only (due : Nat) (s : State) : Only [.regs] s (freeze due s) := by
  unfold freeze
  exact (Only.mono (modRegs_only _ _ (by intro _; rfl) (by intro _; rfl) (by intro _; rfl)) rfl)

theorem strobe_only (write : Bool) (s : State) : Only [.bridge, .live, .regs] s (strobe write s) := by
  unfold strobe
  exact (Only.ite (Only.mono (bumpF_only _ _ _ _) rfl) (Only.ite (Only.via (Only.when (Only.refl _ _) _ _ (fun _ =>
      (Only.mono (modRegs_only _ _ (by
    intro _; rfl) (by
    intro _; rfl) (by
    intro _; rfl)) rfl))) (setBit_only _ _ _) rfl) (by
    split; exact (Only.ite (Only.when (Only.refl _ _) _ _ (fun _ => (Only.mono (modRegs_only _ _ (by
      intro _; rfl) (by
      intro _; rfl) (by
      intro _; rfl)) rfl))) (Only.ite (Only.mono (setBit_only _ _ _) rfl) (Only.via (Only.when (Only.when (Only.refl
        _ _) _ _ (fun _ => (Only.mono (modRegs_only _ _ (by
      intro _; rfl) (by
      intro _; rfl) (by
      intro _; rfl)) rfl))) _ _ (fun _ => (Only.mono (State.setBridge_only _ _) rfl))) (freeze_only _ _) rfl)))
    exact (Only.via (Only.when (Only.when (Only.refl _ _) _ _ (fun _ => (Only.mono (modRegs_only _ _ (by
      intro _; rfl) (by
      intro _; rfl) (by
      intro _; rfl)) rfl))) _ _ (fun _ => (Only.mono (State.setBridge_only _ _) rfl))) (freeze_only _ _) rfl))))

theorem refuseSet_only (f : Frozen) (s : State) : Only [.shadow, .regs] s (refuseSet f s) := by
  unfold refuseSet
  exact (Only.foldl (Only.refl _ _) _ _ (fun _ _ => (Only.ite (Only.refl _ _) (Only.mono (reloadWord_only _ _)
      rfl))))

theorem applyFrozen_only (f : Frozen) (s0 : State) : Only [.shadow, .active, .live, .regs, .clus, .secs, .trail,
    .flt, .rings, .quads, .blk, .boot] s0 (applyFrozen f s0) := by
  unfold applyFrozen
  exact (Only.ite (Only.mono (modRegs_only _ _ (by
    intro _; rfl) (by
    intro _; rfl) (by
    intro _; rfl)) rfl) (Only.ite (Only.via (Only.mono (modRegs_only _ _ (by
    intro _; rfl) (by
    intro _; rfl) (by
    intro _; rfl)) rfl) (acceptApply_only _ _) rfl) (Only.via (Only.via (Only.when (Only.mono (modRegs_only _ _ (by
    intro _; rfl) (by
    intro _; rfl) (by
    intro _; rfl)) rfl) _ _ (fun _ => (Only.via (Only.mono (setBit_only _ _ _) rfl) (raise_only _ _ _) rfl)))
      (parityRefused_only _ _) rfl) (refuseSet_only _ _) rfl)))

theorem applyStart_only (f : Frozen) (s0 : State) : Only [.active, .live, .regs, .clus, .secs, .trail, .flt,
    .rings, .quads, .blk, .boot] s0 (applyStart f s0) := by
  unfold applyStart
  exact (Only.when (Only.via (Only.mono (modRegs_only _ _ (by
    intro _; rfl) (by
    intro _; rfl) (by
    intro _; rfl)) rfl) (acceptApply_only _ _) rfl) _ _ (fun _ => (Only.mono (enterSense_only _) rfl)))

theorem applyDue_only (s : State) : Only [.shadow, .active, .live, .regs, .clus, .secs, .trail, .flt, .rings,
    .quads, .blk, .boot] s (applyDue s) := by
  have h0 : Only [.shadow, .active, .live, .regs, .clus, .secs, .trail, .flt, .rings, .quads, .blk, .boot] s (match
      s.regs.startSet with
      | some f => when (decide (f.due ≤ now s)) (applyStart f) s
      | none => s) := by
    split
    · exact Only.when (Only.refl _ _) _ _ fun _ => (applyStart_only _ _).mono rfl
    · exact Only.refl _ _
  unfold applyDue
  dsimp only
  split
  · exact h0.when _ _ fun _ => (applyFrozen_only _ _).mono rfl
  · exact h0

theorem pagesRefused_only (bad : List Nat) (s : State) : Only [.live, .flt] s (pagesRefused bad s) := by
  unfold pagesRefused
  exact (by
    split; exact (Only.refl _ _)
    exact (Only.foldl (Only.mono (parityRefused_only _ _) rfl) _ _ (fun _ _ => (Only.mono (raise_only _ _ _) rfl))))

theorem boundaryApply_only (s : State) : Only [.shadow, .active, .live, .regs, .clus, .secs, .trail, .flt, .rings,
    .quads, .blk, .boot] s (boundaryApply s) := by
  unfold boundaryApply
  exact (Only.via (Only.foldl (Only.via (Only.mono (modRegs_only _ _ (by
    intro _; rfl) (by
    intro _; rfl) (by
    intro _; rfl)) rfl) (pagesRefused_only _ _) rfl) _ _ (fun _ _ => (Only.mono (reloadWord_only _ _) rfl)))
      (acceptApply_only _ _) rfl)

theorem lcWrite_only (off : Nat) (w : Word) (s : State) : Only [.shadow, .live, .regs] s (lcWrite off w s) := by
  unfold lcWrite
  exact (Only.via (Only.mono (writeShadow_only _ _ _) rfl) (modRegs_only _ _ (by
    intro _; rfl) (by
    intro _; rfl) (by
    intro _; rfl)) rfl)

theorem coefSync_only (sc : Nat) (s : State) : Only [.secs] s (coefSync sc s) := by
  unfold coefSync
  exact (Only.when (Only.refl _ _) _ _ (fun _ => (Only.mono (modSec_only _ _ _) rfl)))

theorem lcEffect_only (off : Nat) (s : State) : Only [.shadow, .active, .live, .regs, .secs, .flt] s (lcEffect off
    s) := by
  unfold lcEffect
  exact (Only.via (Only.ite (Only.via (Only.via (Only.mono (reloadWord_only _ _) rfl) (parityNote_only _ _ _ _ _)
      rfl) (raise_only _ _ _) rfl) (Only.via (Only.mono (setActive_only _ _ _) rfl) (modRegs_only _ _ (by
    intro _; rfl) (by
    intro _; rfl) (by
    intro _; rfl)) rfl)) (coefSync_only _ _) rfl)

theorem walkWord_only (off : Nat) (s : State) : Only [.shadow, .active, .live, .regs, .secs, .flt] s (walkWord off
    s) := by
  unfold walkWord
  exact (Only.ite (Only.refl _ _) (Only.via (Only.via (Only.when (Only.ite (Only.ite (Only.via (Only.mono
      (setActive_only _ _ _) rfl) (modRegs_only _ _ (by
    intro _; rfl) (by
    intro _; rfl) (by
    intro _; rfl)) rfl) (Only.mono (reloadWord_only _ _) rfl)) (Only.refl _ _)) _ _ (fun _ => (Only.via (Only.mono
      (modSec_only _ _ _) rfl) (pageFlt_only _ _ _) rfl))) (parityNote_only _ _ _ _ _) rfl) (raise_only _ _ _) rfl))

theorem parityWalk_only (s : State) : Only [.shadow, .active, .live, .regs, .secs, .flt] s (parityWalk s) := by
  unfold parityWalk
  exact (by
    split; exact (Only.via (Only.mono (modRegs_only _ _ (by
      intro _; rfl) (by
      intro _; rfl) (by
      intro _; rfl)) rfl) (walkWord_only _ _) rfl)
    exact (Only.refl _ _))

theorem parinjWrite_only (w : Word) (s : State) : Only [.live] s (parinjWrite w s) := by
  unfold parinjWrite
  exact (Only.mono (setLive_only _ _ _) rfl)

theorem bridgeTick_only (s : State) : Only [.bridge] s (bridgeTick s) := by
  unfold bridgeTick
  exact (Only.foldl (Only.refl _ _) _ _ (fun _ _ => (Only.mono (State.setBridge_only _ _) rfl)))

theorem modBoot_only (f : Boot → Boot) (s : State) : Only [.boot] s (modBoot f s) := by
  unfold modBoot
  exact (Only.mono (State.setBoot_only _ _) rfl)

theorem coldStart_only (s : State) : Only [.powered, .time, .held, .tb, .bridge, .eng, .shadow, .active, .live,
    .regs, .ports, .dbg, .cells, .clus, .secs, .inrush, .trail, .flt, .recov, .rings, .wears, .sparing, .tally,
    .mem, .stages, .chans, .adcs, .adcOwed, .late, .quads, .xchks, .therm, .cap, .jobs, .blk, .plan, .seat, .lnk,
    .boot, .cal] s (coldStart s) := by
  unfold coldStart
  intro p hp
  cases p <;> first | rfl | exact absurd (by decide) hp

theorem enterLoad_only (s : State) : Only [.sparing, .boot, .cal] s (enterLoad s) := by
  unfold enterLoad
  exact (Only.via (Only.mono (modBoot_only _ _) rfl) (discover_only _) rfl)

theorem calRestart_only (s : State) : Only [.adcs] s (calRestart s) := by
  unfold calRestart
  exact (Only.forEach (Only.refl _ _) _ _ (fun _ _ => (Only.mono (modAdc_only _ _ _) rfl)))

theorem firstLock_only (aGood bGood : Bool) (s : State) : Only [.tb, .bridge, .sparing, .adcs, .boot, .cal] s
    (firstLock aGood bGood s) := by
  unfold firstLock
  exact (Only.when (Only.via (Only.via (Only.via (Only.via (Only.mono (State.setTb_only _ _ (by
    exact ⟨rfl, rfl⟩) (by
    exact ⟨rfl, rfl⟩)) rfl) (modBoot_only _ _) rfl) (modSparing_only _ _) rfl) (calRestart_only _) rfl)
      (bridgeTick_only _) rfl) _ _ (fun _ => (Only.mono (enterLoad_only _) rfl)))

theorem joinGroup_only (tick : BitVec 64) (s : State) : Only [.time, .tb, .bridge, .eng, .sparing, .adcs, .boot,
    .cal] s (joinGroup tick s) := by
  unfold joinGroup
  exact (Only.when (Only.via (Only.via (Only.via (Only.mono (State.setBridge_only _ _) rfl)
      (State.setTb_only_counter _ _ (by
    exact ⟨rfl, rfl⟩)) rfl) (State.setEngs_only _ _) rfl) (calRestart_only _) rfl) _ _ (fun _ => (Only.mono
      (enterLoad_only _) rfl)))

theorem syncFrame_only (payload : BitVec 64) (s : State) : Only [.time, .tb, .bridge, .eng, .sparing, .adcs, .boot,
    .cal] s (syncFrame payload s) := by
  unfold syncFrame
  exact (Only.ite (Only.mono (State.setBridge_only _ _) rfl) (Only.mono (joinGroup_only _ _) rfl))

theorem missedSync_only (wait : Nat) (s : State) : Only [.bridge, .live] s (missedSync wait s) := by
  unfold missedSync
  exact (Only.when (Only.refl _ _) _ _ (fun _ => (Only.via (Only.mono (State.setBridge_only _ _) rfl) (bumpF_only _
      _ _ _) rfl)))

theorem strobeFrame_only (tick : BitVec 64) (s : State) : Only [.live, .regs] s (strobeFrame tick s) := by
  unfold strobeFrame
  exact (Only.ite (Only.via (Only.mono (bumpF_only _ _ _ _) rfl) (freeze_only _ _) rfl) (Only.mono (freeze_only _ _)
      rfl))

theorem ownRef_only (s : State) : Only [.tb, .live, .flt] s (ownRef s) := by
  unfold ownRef
  exact (Only.ite (by
    split; exact (Only.mono (switchRef_only _ _) rfl)
    exact (Only.mono (holdOver_only _) rfl)) (Only.refl _ _))

theorem loseBridge_only (s : State) : Only [.tb, .bridge, .live, .flt] s (loseBridge s) := by
  unfold loseBridge
  exact (Only.via (Only.via (Only.mono (State.setBridge_only _ _) rfl) (ownRef_only _) rfl) (raise_only _ _ _) rfl)

theorem bridgeOver_only (s : State) : Only [.tb, .bridge, .live, .flt] s (bridgeOver s) := by
  unfold bridgeOver
  exact (Only.when (Only.refl _ _) _ _ (fun _ => (Only.via (Only.mono (missedSync_only _ _) rfl) (loseBridge_only _)
      rfl)))

theorem joinOver_only (s : State) : Only [.time, .tb, .bridge, .live, .flt, .sparing, .adcs, .boot, .cal] s
    (joinOver s) := by
  unfold joinOver
  exact (Only.when (Only.refl _ _) _ _ (fun _ => (Only.via (Only.via (Only.via (Only.mono (State.setTb_only_counter
      _ _ (by
    exact ⟨rfl, rfl⟩)) rfl) (loseBridge_only _) rfl) (calRestart_only _) rfl) (enterLoad_only _) rfl)))

theorem placeEngine_only (sc : Nat) (s : State) : Only [.secs] s (placeEngine sc s) := by
  unfold placeEngine
  exact (Only.ite (Only.refl _ _) (Only.ite (Only.mono (modSec_only _ _ _) rfl) (Only.mono (modSec_only _ _ _)
      rfl)))

theorem failedAdc_only (n : Nat) (s : State) : Only [.clus, .adcs, .adcOwed, .quads] s (failedAdc n s) := by
  unfold failedAdc
  exact (Only.ite (Only.refl _ _) (dropAdc_only _ _ _ rfl (fun _ => (Only.mono (toFailed_only _ _ _) rfl))))

theorem loadRetire_only (p : Payload) (s : State) : Only [.cells, .clus, .secs, .sparing, .chans, .adcs, .adcOwed,
    .quads, .therm, .plan] s (loadRetire p s) := by
  unfold loadRetire
  exact (by
    split; exact (Only.foldl (Only.foldl (Only.foldl (Only.via (Only.foldl (Only.forEach (Only.foldl (Only.foldl
        (Only.foldl (Only.foldl (Only.refl _ _) _ _ (fun _ _ => (Only.ite (Only.mono (modCell_only _ _ _) rfl)
        (Only.refl _ _)))) _ _ (fun _ _ => (Only.ite (Only.mono (modCell_only _ _ _) rfl) (Only.refl _ _)))) _ _
        (fun _ _ => (Only.ite (Only.mono (modClu_only _ _ _) rfl) (Only.refl _ _)))) _ _ (fun _ _ => (Only.ite
        (Only.ite (Only.mono (modSec_only _ _ _) rfl) (Only.refl _ _)) (Only.ite (Only.mono (State.setSparing_only _
        _) rfl) (Only.refl _ _))))) _ _ (fun _ _ => (Only.mono (placeEngine_only _ _) rfl))) _ _ (fun _ _ =>
        (Only.ite (Only.mono (failedAdc_only _ _) rfl) (Only.refl _ _)))) (modTherm_only _ _) rfl) _ _ (fun _ _ =>
        (Only.ite (Only.mono (modCh_only _ _ _) rfl) (Only.refl _ _)))) _ _ (fun _ _ => (Only.ite (Only.mono
        (setRole_only _ _ _ _ _) rfl) (Only.refl _ _)))) _ _ (fun _ _ => (Only.ite (Only.mono (setRole_only _ _ _ _
        _) rfl) (Only.refl _ _))))
    exact (Only.refl _ _))

theorem loadTrims_only (q : Nat) (p : Payload) (s : State) : Only [.shadow, .active, .live, .regs] s (loadTrims q p
    s) := by
  unfold loadTrims
  exact (by
    split; exact (Only.foldl (Only.refl _ _) _ _ (fun _ _ => (Only.ite (Only.mono (storeBoth_only _ _ _) rfl)
        (Only.refl _ _))))
    exact (Only.refl _ _))

theorem loadWearAll_only (p : Payload) (s : State) : Only [.clus, .sparing, .chans, .cal] s (loadWearAll p s) := by
  unfold loadWearAll
  exact (by
    split; exact (Only.via (Only.foldl (Only.via (Only.forEach (Only.refl _ _) _ _ (fun _ _ => (Only.mono
        (modClu_only _ _ _) rfl))) (modCal_only _ _) rfl) _ _ (fun _ _ => (Only.ite (Only.mono (modCh_only _ _ _)
        rfl) (Only.refl _ _)))) (State.setSparing_only _ _) rfl)
    exact (Only.refl _ _))

theorem loadWear_only (q : Nat) (p : Payload) (s : State) : Only [.clus, .wears] s (loadWear q p s) := by
  unfold loadWear
  exact (by
    split; exact (Only.foldl (Only.foldl (Only.refl _ _) _ _ (fun _ _ => (Only.ite (Only.mono (setWear_only _ _ _)
        rfl) (Only.refl _ _)))) _ _ (fun _ _ => (Only.ite (Only.mono (modClu_only _ _ _) rfl) (Only.refl _ _))))
    exact (Only.refl _ _))

theorem loadPlan_only (p : Payload) (s : State) : Only [.plan] s (loadPlan p s) := by
  unfold loadPlan
  exact (by
    split; exact (Only.foldl (Only.forEach (Only.foldl (Only.foldl (Only.forEach (Only.foldl (Only.refl _ _) _ _
        (fun _ _ => (Only.ite (Only.mono (setLog_only _ _ _ _) rfl) (Only.refl _ _)))) _ _ (fun _ _ => (Only.ite
        (Only.refl _ _) (Only.mono (setRole_only _ _ _ _ _) rfl)))) _ _ (fun _ _ => (Only.ite (Only.mono
        (setRole_only _ _ _ _ _) rfl) (Only.refl _ _)))) _ _ (fun _ _ => (Only.ite (Only.mono (setLog_only _ _ _ _)
        rfl) (Only.refl _ _)))) _ _ (fun _ _ => (Only.ite (Only.refl _ _) (Only.mono (setRole_only _ _ _ _ _)
        rfl)))) _ _ (fun _ _ => (Only.ite (Only.mono (setRole_only _ _ _ _ _) rfl) (Only.refl _ _))))
    exact (Only.refl _ _))

theorem loadModel_only (u : Nat) (p : Payload) (s : State) : Only [.tally, .mem] s (loadModel u p s) := by
  unfold loadModel
  exact (by
    split; exact (Only.via (Only.mono (modTally_only _ _) rfl) (memWrite_only _ _ _) rfl)
    exact (Only.refl _ _))

theorem loadOne_only (f : Payload → State → State) (typ key : Nat) (s : State) {l : List Part} (hl : within [] l =
    true) (hf : ∀ x s, Only l s (f x s)) : Only l s (loadOne f typ key s) := by
  unfold loadOne
  exact (by split; exact (hf _ _); exact (Only.refl _ _))

theorem loadRecords_only (s : State) : Only [.shadow, .active, .live, .regs, .cells, .clus, .secs, .wears,
    .sparing, .tally, .mem, .chans, .adcs, .adcOwed, .quads, .therm, .plan, .cal] s (loadRecords s) := by
  have h1 : Only [.shadow, .active, .live, .regs, .cells, .clus, .secs, .wears, .sparing, .tally, .mem, .chans,
      .adcs, .adcOwed, .quads, .therm, .plan, .cal] s (if s.boot.cold then loadOne loadPlan 6 0 (forEach (upto
      (quads s)) (fun q => loadOne (loadWear q) 4 q)
      (loadOne loadWearAll 4 4 (forEach (upto (quads s)) (fun q => loadOne (loadTrims q) 3 q) (loadOne loadRetire 5
          0 s)))) else s) :=
    Only.ite (Only.trans (Only.forEach (Only.trans (Only.forEach (loadOne_only _ _ _ _ rfl fun _ _ =>
        (loadRetire_only _ _).mono rfl) _ _
      fun _ _ => loadOne_only _ _ _ _ rfl fun _ _ => (loadTrims_only _ _ _).mono rfl)
      (loadOne_only _ _ _ _ rfl fun _ _ => (loadWearAll_only _ _).mono rfl)) _ _
      fun _ _ => loadOne_only _ _ _ _ rfl fun _ _ => (loadWear_only _ _ _).mono rfl)
      (loadOne_only _ _ _ _ rfl fun _ _ => (loadPlan_only _ _).mono rfl)) (Only.refl _ _)
  unfold loadRecords
  exact Only.via (Only.forEach (h1.via (modPlan_only _ _) rfl) _ _ fun _ _ =>
    loadOne_only _ _ _ _ rfl fun _ _ => (loadModel_only _ _ _).mono rfl) (nextInstall_only _) rfl

theorem startRefused_only (cause page detail : Nat) (s : State) : Only [.live, .flt, .boot] s (startRefused cause
    page detail s) := by
  unfold startRefused
  exact (Only.via (Only.mono (modBoot_only _ _) rfl) (raiseOn_only _ _ _ _ _) rfl)

theorem checkStart_only (s0 : State) : Only [.shadow, .active, .live, .regs, .flt, .boot] s0 (checkStart s0) := by
  have h0 : Only [.shadow, .active, .live, .regs, .flt, .boot] s0 (modBoot (fun b => { b with state := .check }) s0)
      := (modBoot_only _ _).mono rfl
  unfold checkStart
  generalize modBoot (fun b => { b with state := .check }) s0 = s at h0 ⊢
  refine Only.ite (h0.via (startRefused_only _ _ _ _) rfl) ?_
  split
  · exact h0.via (startRefused_only _ _ _ _) rfl
  · rename_i config _
    generalize listOf (winner s 2 0) = p
    generalize listOf (some config) = p2
    obtain ⟨stg, stgOk⟩ := p
    obtain ⟨cfgL, cfgOk⟩ := p2
    dsimp only
    have h1 : Only [.shadow, .active, .live, .regs, .flt, .boot] s0 (modRegs (fun r => { r with sealWord :=
        config.sealCrc })
        (((stg ++ cfgL).filter (fun e => isShadowWord s.params e.1)).foldl
          (fun s e => writeShadow e.1 (storedBits s.params e.1 e.2) s) s)) :=
      (h0.foldl _ _ fun _ _ => (writeShadow_only _ _ _).mono rfl).via
        (modRegs_only _ _ (by intro _; rfl) (by intro _; rfl) (by intro _; rfl)) rfl
    generalize modRegs (fun r => { r with sealWord := config.sealCrc })
        (((stg ++ cfgL).filter (fun e => isShadowWord s.params e.1)).foldl
          (fun s e => writeShadow e.1 (storedBits s.params e.1 e.2) s) s) = s1 at h1 ⊢
    refine Only.ite (Only.via (Only.foldl h1 _ _ fun _ _ => (reloadWord_only _ _).mono rfl) (startRefused_only _ _ _
        _) rfl) ?_
    split
    · exact Only.via (Only.foldl h1 _ _ fun _ _ => (reloadWord_only _ _).mono rfl) (startRefused_only _ _ _ _) rfl
    · split
      · exact Only.via (Only.foldl (h1.via (parityRefused_only _ _) rfl) _ _ fun _ _ => (reloadWord_only _ _).mono
            rfl)
          (startRefused_only _ _ _ _) rfl
      · exact h1.via (modRegs_only _ _ (by intro _; rfl) (by intro _; rfl) (by intro _; rfl)) rfl

theorem safeProfile_only (s : State) : Only [.shadow, .active, .live, .regs, .clus, .secs, .trail, .flt, .rings,
    .quads, .blk, .boot] s (safeProfile s) := by
  unfold safeProfile
  exact (Only.via (Only.when (Only.foldl (Only.mono (acceptApply_only _ _) rfl) _ _ (fun _ _ => (Only.via (Only.mono
      (storeBoth_only _ _ _) rfl) (modRegs_only _ _ (by
    intro _; rfl) (by
    intro _; rfl) (by
    intro _; rfl)) rfl))) _ _ (fun _ => (Only.mono (enterSense_only _) rfl))) (modBoot_only _ _) rfl)

theorem startSlot_only (x : Nat) (s : State) : Only [.eng, .shadow, .live, .regs, .ports, .dbg, .cells, .clus,
    .secs, .inrush, .trail, .flt, .recov, .rings, .sparing, .tally, .stages, .chans, .quads, .blk, .plan, .seat,
    .lnk, .boot, .cal] s (startSlot x s) := by
  unfold startSlot
  exact (Only.ite (Only.refl _ _) (by
    split; exact (Only.mono (startDomain_only _ _) rfl)
    exact (Only.ite (Only.refl _ _) (Only.mono (beginRecovery_only _ _) rfl))
    exact (Only.refl _ _)))

theorem runSlots_only (n : Nat) (s : State) : Only [.eng, .shadow, .live, .regs, .ports, .dbg, .cells, .clus,
    .secs, .inrush, .trail, .flt, .recov, .rings, .sparing, .tally, .stages, .chans, .quads, .blk, .plan, .seat,
    .lnk, .boot, .cal] s (runSlots n s) := by
  induction n generalizing s with
  | zero => exact Only.refl _ _
  | succ n ih =>
    unfold runSlots
    split
    · exact Only.refl _ _
    · exact Only.ite (Only.trans (Only.via (Only.mono (modBoot_only _ _) rfl) (startSlot_only _ _) rfl) (ih _))
          (Only.refl _ _)

theorem enterPower_only (s : State) : Only [.eng, .shadow, .live, .regs, .ports, .dbg, .cells, .clus, .secs,
    .inrush, .trail, .flt, .recov, .rings, .sparing, .tally, .stages, .chans, .quads, .blk, .plan, .seat, .lnk,
    .boot, .cal] s (enterPower s) := by
  unfold enterPower
  exact (Only.via (Only.via (Only.mono (modBoot_only _ _) rfl) (runSlots_only _ _) rfl) (bootUp_only _) rfl)

theorem shutDown_only (s : State) : Only [.live, .ports, .secs, .trail, .flt, .rings, .sparing, .blk, .plan, .seat,
    .lnk, .boot, .cal] s (shutDown s) := by
  unfold shutDown
  exact (Only.via (Only.via (Only.via (Only.forEach (Only.forEach (Only.via (Only.via (Only.mono (modBoot_only _ _)
      rfl) (abandonCover_only _ _) rfl) (abandonMig_only _) rfl) _ _ (fun _ _ => (Only.mono (flushWindow_only _ _ _)
      rfl))) _ _ (fun _ _ => (Only.when (Only.refl _ _) _ _ (fun _ => (Only.mono (beginSwitchOff_only _ _) rfl)))))
      (modLnk_only _ _) rfl) (queueWear_only _) rfl) (stopCheck_only _) rfl)

theorem shutOver_only (s : State) : Only [.eng, .live, .cells, .clus, .secs, .inrush, .trail, .flt, .rings,
    .stages, .blk, .seat, .lnk, .boot] s (shutOver s) := by
  unfold shutOver
  exact (Only.when (Only.refl _ _) _ _ (fun _ => (Only.via (Only.forEach (Only.mono (modBoot_only _ _) rfl) _ _ (fun
      _ _ => (Only.when (Only.refl _ _) _ _ (fun _ => (Only.mono (tripDomain_only _ _) rfl))))) (stopCheck_only _)
      rfl)))

theorem warmRegs_only (s : State) : Only [.shadow, .active, .live, .regs] s (warmRegs s) := by
  unfold warmRegs
  exact (Only.mono (modRegs_only_all _ _) rfl)

theorem warmUnits_only (s : State) : Only [.cells, .clus, .secs, .stages, .chans, .adcs] s (warmUnits s) := by
  unfold warmUnits
  exact (Only.forEach (Only.forEach (Only.forEach (Only.forEach (Only.forEach (Only.forEach (Only.refl _ _) _ _ (fun
      _ _ => (Only.mono (modCell_only _ _ _) rfl))) _ _ (fun _ _ => (Only.mono (modClu_only _ _ _) rfl))) _ _ (fun _
      _ => (Only.mono (modSec_only _ _ _) rfl))) _ _ (fun _ _ => (Only.mono (setStage_only _ _ _) rfl))) _ _ (fun _
      _ => (Only.mono (modCh_only _ _ _) rfl))) _ _ (fun _ _ => (Only.ite (Only.mono (toFailed_only _ _ _) rfl)
      (Only.mono (setAdc_only _ _ _) rfl))))

theorem keepFlt_only (before s : State) : Only [.live] s (keepFlt before s) := by
  unfold keepFlt
  exact (Only.forEach (Only.refl _ _) _ _ (fun _ _ => (Only.mono (setLive_only _ _ _) rfl)))

theorem warmDrop_only (s0 : State) : Only [.eng, .shadow, .active, .live, .regs, .ports, .dbg, .cells, .clus,
    .secs, .inrush, .trail, .flt, .recov, .rings, .sparing, .tally, .stages, .chans, .adcs, .adcOwed, .late,
    .quads, .xchks, .jobs, .blk, .plan, .seat, .lnk, .boot, .cal] s0 (warmDrop s0) := by
  unfold warmDrop
  exact (Only.via (Only.via (Only.via (Only.when (Only.via (Only.via (Only.via (Only.via (Only.via (Only.via
      (Only.via (Only.via (Only.via (Only.via (Only.via (Only.forEach (Only.forEach (Only.mono (discard_only _) rfl)
      _ _ (fun _ _ => (Only.mono (tripDomain_only _ _) rfl))) _ _ (fun _ _ => (Only.mono (ownerReset_only _ _)
      rfl))) (ringWithdraw_only _ _) rfl) (warmRegs_only _) rfl) (warmUnits_only _) rfl) (jobsWarm_only _) rfl)
      (State.setRings_only _ _) rfl) (State.setEngs_only _ _) rfl) (State.setInrush_only _ _) rfl)
      (State.setQuads_only _ _) rfl) (State.setXchks_only _ _) rfl) (State.setRecov_only _ _) rfl) (modFlt_only _ _)
      rfl) _ _ (fun _ => (Only.via (Only.mono (modSparing_only _ _) rfl) (setLive_only _ _ _) rfl)))
      (State.setAdcOwed_only _ _) rfl) (State.setLate_only _ _) rfl) (keepFlt_only _ _) rfl)

theorem clearInstalled_only (s : State) : Only [.live, .tally, .mem] s (clearInstalled s) := by
  unfold clearInstalled
  exact (Only.via (Only.via (by
    split; exact (Only.mono (loadStat_only _ _ _) rfl)
    exact (Only.refl _ _)) (State.setTally_only _ _) rfl) (State.setMem_only _ _) rfl)

theorem endGrace_only (s : State) : Only [.plan] s (endGrace s) := by
  unfold endGrace
  exact (Only.when (Only.refl _ _) _ _ (fun _ => (Only.mono (setRole_only _ _ _ _ _) rfl)))

theorem startBridge_only (s : State) : Only [.tb, .bridge, .live, .flt, .adcs] s (startBridge s) := by
  unfold startBridge
  exact (Only.ite (Only.when (Only.via (Only.mono (State.setBridge_only _ _) rfl) (State.setTb_only _ _ (by
    exact ⟨rfl, rfl⟩) (by
    exact ⟨rfl, rfl⟩)) rfl) _ _ (fun _ => (Only.mono (switchRef_only _ _) rfl))) (Only.when (Only.via (Only.mono
      (State.setBridge_only _ _) rfl) (ownRef_only _) rfl) _ _ (fun _ => (Only.via (Only.mono (State.setTb_only _ _ (by
    exact ⟨rfl, rfl⟩) (by
    exact ⟨rfl, rfl⟩)) rfl) (calRestart_only _) rfl))))

theorem warmBegin_only (s7 : State) : Only [.tb, .bridge, .live, .ports, .secs, .flt, .sparing, .adcs, .therm,
    .cap, .blk, .plan, .seat, .lnk, .boot, .cal] s7 (warmBegin s7) := by
  unfold warmBegin
  exact (Only.via (Only.forEach (Only.via (Only.via (Only.via (Only.via (Only.forEach (Only.forEach (Only.via
      (Only.via (Only.via (Only.via (Only.via (Only.via (Only.via (Only.via (Only.mono (State.setTherm_only _ _)
      rfl) (State.setCap_only _ _) rfl) (State.setBlk_only _ _) rfl) (endGrace_only _) rfl) (modPlan_only _ _) rfl)
      (State.setSeat_only _ _) rfl) (State.setLnk_only _ _) rfl) (setLive_only _ _ _) rfl) (setLive_only _ _ _) rfl)
      _ _ (fun _ _ => (Only.mono (setField_only _ _ _ _ _) rfl))) _ _ (fun _ _ => (Only.mono (setLive_only _ _ _)
      rfl))) (startBridge_only _) rfl) (State.setPorts_only _ _) rfl) (State.setBoot_only _ _) rfl) (bump_only _ _)
      rfl) _ _ (fun _ _ => (Only.mono (placeEngine_only _ _) rfl))) (enterLoad_only _) rfl)

theorem warmReset_only (s : State) : Only [.tb, .bridge, .eng, .shadow, .active, .live, .regs, .ports, .dbg,
    .cells, .clus, .secs, .inrush, .trail, .flt, .recov, .rings, .sparing, .tally, .mem, .stages, .chans, .adcs,
    .adcOwed, .late, .quads, .xchks, .therm, .cap, .jobs, .blk, .plan, .seat, .lnk, .boot, .cal] s (warmReset s) :=
    by
  unfold warmReset
  exact (Only.via (Only.via (Only.mono (warmDrop_only _) rfl) (clearInstalled_only _) rfl) (warmBegin_only _) rfl)

theorem bootCommand_only (w : Word) (s : State) : Only [.tb, .bridge, .eng, .shadow, .active, .live, .regs, .ports,
    .dbg, .cells, .clus, .secs, .inrush, .trail, .flt, .recov, .rings, .sparing, .tally, .mem, .stages, .chans,
    .adcs, .adcOwed, .late, .quads, .xchks, .therm, .cap, .jobs, .blk, .plan, .seat, .lnk, .boot, .cal] s
    (bootCommand w s) := by
  unfold bootCommand
  exact (by
    split; exact (Only.ite (Only.mono (safeProfile_only _) rfl) (Only.mono (refuse_only _ _) rfl))
    exact (Only.ite (Only.mono (shutDown_only _) rfl) (Only.mono (refuse_only _ _) rfl))
    exact (Only.ite (Only.mono (enterPower_only _) rfl) (Only.mono (refuse_only _ _) rfl))
    exact (Only.ite (Only.mono (warmReset_only _) rfl) (Only.mono (refuse_only _ _) rfl))
    exact (Only.refl _ _))

theorem timeOver_only (l : Late) (s : State) : Only [.time, .tb, .bridge, .eng, .shadow, .live, .regs, .ports,
    .dbg, .cells, .clus, .secs, .inrush, .trail, .flt, .recov, .rings, .wears, .sparing, .tally, .stages, .chans,
    .adcs, .quads, .blk, .plan, .seat, .lnk, .boot, .cal] s (timeOver l s) := by
  unfold timeOver
  exact (by
    split; exact (Only.mono (joinOver_only _) rfl)
    exact (Only.mono (bridgeOver_only _) rfl)
    exact (Only.mono (holdoverOver_only _) rfl)
    exact (Only.mono (discOver_only _) rfl)
    exact (Only.mono (opOver_only _) rfl)
    exact (Only.mono (pushOver_only _ _) rfl)
    exact (Only.mono (copyOver_only _) rfl)
    exact (Only.mono (graceOver_only _) rfl)
    exact (Only.mono (idleOver_only _ _) rfl)
    exact (Only.mono (uvOver_only _ _) rfl)
    exact (Only.mono (pgOver_only _ _) rfl)
    exact (Only.mono (overloadOver_only _ _) rfl)
    exact (Only.mono (shutOver_only _) rfl)
    exact (Only.mono (spareOver_only _ _) rfl)
    exact (Only.mono (quietOver_only _ _) rfl)
    exact (Only.mono (chipOver_only _) rfl))

theorem endTimes_only (s : State) : Only [.time, .tb, .bridge, .eng, .shadow, .live, .regs, .ports, .dbg, .cells,
    .clus, .secs, .inrush, .trail, .flt, .recov, .rings, .wears, .sparing, .tally, .stages, .chans, .adcs, .late,
    .quads, .blk, .plan, .seat, .lnk, .boot, .cal] s (endTimes s) := by
  unfold endTimes
  exact (Only.via (Only.ite (Only.refl _ _) (Only.foldl (Only.mono (State.setLate_only _ _) rfl) _ _ (fun _ _ =>
      (Only.mono (timeOver_only _ _) rfl)))) (lateRequests_only _) rfl)

theorem settle_only (s : State) : Only [.time, .tb, .bridge, .eng, .shadow, .live, .regs, .ports, .dbg, .cells,
    .clus, .secs, .inrush, .trail, .flt, .recov, .rings, .wears, .sparing, .tally, .stages, .chans, .adcs,
    .adcOwed, .late, .quads, .blk, .plan, .seat, .lnk, .boot, .cal] s (settle s) := by
  unfold settle
  exact (Only.via (Only.via (Only.mono (missedSync_only _ _) rfl) (endTimes_only _) rfl) (serveOwed_only _) rfl)

theorem shownBy_only (s : State) (off : Nat) (bit : Option Nat) : Only [.time, .tb, .bridge, .eng, .shadow, .live,
    .regs, .ports, .dbg, .cells, .clus, .secs, .inrush, .trail, .flt, .recov, .rings, .wears, .sparing, .tally,
    .stages, .chans, .adcs, .adcOwed, .late, .quads, .blk, .plan, .seat, .lnk, .boot, .cal] s (shownBy s off bit)
    := by
  unfold shownBy
  exact (Only.ite (Only.mono (settle_only _) rfl) (Only.refl _ _))

theorem noteSeen_only (off : Nat) (bit : Option Nat) (s : State) : Only [.regs] s (noteSeen off bit s) := by
  unfold noteSeen
  exact (Only.when (Only.refl _ _) _ _ (fun _ => (Only.mono (modRegs_only _ _ (by
    intro _; rfl) (by
    intro _; rfl) (by
    intro _; rfl)) rfl)))

theorem keepSeen_only (before s : State) : Only [.live, .regs] s (keepSeen before s) := by
  unfold keepSeen
  exact (Only.via (Only.foldl (Only.refl _ _) _ _ (fun _ _ => (by
    split <;> exact (Only.mono (setLive_only _ _ _) rfl)))) (modRegs_only _ _ (by
    intro _; rfl) (by
    intro _; rfl) (by
    intro _; rfl)) rfl)

theorem endTick_only (s : State) : Only [.time, .tb, .bridge, .eng, .shadow, .live, .regs, .ports, .dbg, .cells,
    .clus, .secs, .inrush, .trail, .flt, .recov, .rings, .wears, .sparing, .tally, .stages, .chans, .adcs,
    .adcOwed, .late, .quads, .blk, .plan, .seat, .lnk, .boot, .cal] s (endTick s) := by
  unfold endTick
  exact (Only.ite (Only.mono (settle_only _) rfl) (Only.via (Only.mono (settle_only _) rfl) (keepSeen_only _ _)
      rfl))

theorem pendSeen_only (off : Nat) (bit : Option Nat) (s : State) : Only [.flt] s (pendSeen off bit s) := by
  unfold pendSeen
  exact (Only.ite (by
    split; exact (Only.mono (pendRead_only _ _) rfl)
    exact (Only.mono (modFlt_only _ _) rfl)) (Only.refl _ _))

theorem readEffect_only (p : Port) (wide : Bool) (bit : Option Nat) (off : Nat) (s : State) : Only [.held, .live,
    .regs, .flt] s (readEffect p wide bit off s) := by
  unfold readEffect
  refine Only.ite (Only.ite (Only.refl _ _) ((capture_only _ _).mono rfl)) (Only.ite (Only.ite (Only.refl _ _)
      ((readTickHi_only _ _).mono rfl))
    (Only.ite ?_ (Only.ite ((setField_only _ _ _ _ _).mono rfl) (Only.refl _ _))))
  refine Only.via (Only.via ?_ (pendSeen_only _ _ _) rfl) (noteSeen_only _ _ _) rfl
  split
  · exact (setLive_only _ _ _).mono rfl
  · exact Only.ite (Only.refl _ _) ((setLive_only _ _ _).mono rfl)

theorem readWord_only (a : Access) (wide : Bool) (bit : Option Nat) (off : Nat) (s : State) :
    Only [.held, .live, .regs, .flt] s (readWord a wide bit off s).2 := by
  unfold readWord
  split
  · exact Only.refl _ _
  · exact readEffect_only _ _ _ _ _

theorem snapshot_only (s : State) : Only [.live, .regs] s (snapshot s) := by
  unfold snapshot
  exact (Only.ite (Only.refl _ _) (Only.via (Only.via (Only.foldl (Only.refl _ _) _ _ (fun _ _ => (Only.mono
      (setLive_only _ _ _) rfl))) (modRegs_only _ _ (by
    intro _; rfl) (by
    intro _; rfl) (by
    intro _; rfl)) rfl) (setLive_only _ _ _) rfl))

theorem command_only (t : PageType) (i o : Nat) (w : Word) (s : State) : Only [.tb, .bridge, .eng, .shadow,
    .active, .live, .regs, .ports, .dbg, .cells, .clus, .secs, .inrush, .trail, .flt, .recov, .rings, .sparing,
    .tally, .mem, .stages, .chans, .adcs, .adcOwed, .late, .quads, .xchks, .therm, .cap, .jobs, .blk, .plan, .seat,
    .lnk, .boot, .cal] s (command t i o w s) := by
  unfold command
  split
  · exact Only.ite (Only.when (Only.refl _ _) _ _ fun _ => (strobe_only _ _).mono rfl) (Only.ite
      (Only.when (Only.refl _ _) _ _ fun _ => (snapshot_only _).mono rfl) (Only.ite
        (Only.mono (modRegs_only _ _ (by
          intro _; rfl) (by
          intro _; rfl) (by
          intro _; rfl)) rfl) ((bootCommand_only _ _).mono rfl)))
  · exact Only.ite ((fltCommand_only _ _).mono rfl) ((fltInject_only _ _).mono rfl)
  · exact (thmCommand_only _ _).mono rfl
  · exact Only.ite ((calCommand_only _ _).mono rfl) ((stCommand_only _ _ _).mono rfl)
  · exact (talLoad_only _ _).mono rfl
  · exact (flushCmd_only _ _).mono rfl
  · exact Only.ite ((seatAck_only _ _).mono rfl) (Only.ite ((seatCommand_only _ _).mono rfl) ((seatWake_only _
        _).mono rfl))
  · exact (blkMessage_only _ _).mono rfl
  · exact Only.ite ((linkReport_only _ _).mono rfl) ((linkRequest_only _ _).mono rfl)
  · exact Only.ite ((jobStart_only _ _).mono rfl) ((jobEnd_only _ _).mono rfl)
  · exact (dbgCommand_only _ _).mono rfl
  · exact (urgCommand_only _ _ _).mono rfl
  · exact (adcCommand_only _ _ _).mono rfl
  · exact (stgCommand_only _ _ _).mono rfl
  · exact (secCommand_only _ _ _).mono rfl
  · exact (cellCommand_only _ _ _ _).mono rfl
  all_goals exact Only.refl _ _

theorem storeWord_only (c : Cls) (off : Nat) (bit : Option Nat) (w : Word) (s : State) : Only [.shadow, .live,
    .regs] s (storeWord c off bit w s) := by
  unfold storeWord
  exact (by
    split; exact (Only.ite (Only.mono (refuse_only _ _) rfl) (Only.mono (pendWrite_only _ _ _) rfl))
    exact (Only.mono (lcWrite_only _ _ _) rfl)
    exact (Only.mono (writeShadow_only _ _ _) rfl)
    exact (Only.mono (setLive_only _ _ _) rfl)
    exact (Only.refl _ _))

theorem commandWord_only (t : PageType) (i o : Nat) (bit : Option Nat) (w : Word) (s : State) : Only [.tb, .bridge,
    .eng, .shadow, .active, .live, .regs, .ports, .dbg, .cells, .clus, .secs, .inrush, .trail, .flt, .recov,
    .rings, .sparing, .tally, .mem, .stages, .chans, .adcs, .adcOwed, .late, .quads, .xchks, .therm, .cap, .jobs,
    .blk, .plan, .seat, .lnk, .boot, .cal] s (commandWord t i o bit w s) := by
  unfold commandWord
  exact (by
    split; exact (Only.mono (command_only _ _ _ _ _) rfl)
    exact (Only.ite (Only.mono (command_only _ _ _ _ _) rfl) (Only.ite (Only.mono (command_only _ _ _ _ _) rfl)
        (Only.refl _ _))))

theorem writeWord_only (a : Access) (bit : Option Nat) (off : Nat) (w : Word) (s : State) : Only [.tb, .bridge,
    .eng, .shadow, .active, .live, .regs, .ports, .dbg, .cells, .clus, .secs, .inrush, .trail, .flt, .recov,
    .rings, .sparing, .tally, .mem, .stages, .chans, .adcs, .adcOwed, .late, .quads, .xchks, .therm, .cap, .jobs,
    .blk, .plan, .seat, .lnk, .boot, .cal] s (writeWord a bit off w s) := by
  unfold writeWord
  exact (by
    split; exact (Only.refl _ _)
    exact (by
      split; exact (Only.refl _ _)
      exact (Only.refl _ _)
      exact (Only.refl _ _)
      exact (Only.mono (storeWord_only _ _ _ _ _) rfl)
      exact (Only.when (Only.refl _ _) _ _ (fun _ => (Only.mono (storeWord_only _ _ _ _ _) rfl)))
      exact (Only.when (Only.refl _ _) _ _ (fun _ => (Only.mono (commandWord_only _ _ _ _ _ _) rfl)))
      exact (Only.when (Only.refl _ _) _ _ (fun _ => (Only.mono (commandWord_only _ _ _ _ _ _) rfl)))))

theorem noteAccess_only (a : Access) (touch : Nat → Bool) (words : List Nat) (s : State) : Only [.live] s
    (noteAccess a touch words s) := by
  unfold noteAccess
  exact (Only.when (Only.refl _ _) _ _ (fun _ => (Only.mono (countNonsec_only _ _) rfl)))

theorem readWords_only (a : Access) (wide : Bool) (l : List Nat) (s : State) : Only [.held, .live, .regs, .flt] s
    (readWords a wide l s).2 := by
  induction l generalizing s with
  | nil => exact Only.refl _ _
  | cons o r ih => exact (readWord_only _ _ _ _ _).trans (ih _)

theorem writeWords_only (a : Access) (l : List Nat) (v : Nat) (s : State) : Only [.tb, .bridge, .eng, .shadow,
    .active, .live, .regs, .ports, .dbg, .cells, .clus, .secs, .inrush, .trail, .flt, .recov, .rings, .sparing,
    .tally, .mem, .stages, .chans, .adcs, .adcOwed, .late, .quads, .xchks, .therm, .cap, .jobs, .blk, .plan, .seat,
    .lnk, .boot, .cal]
    s (writeWords a l v s) := by
  induction l generalizing v s with
  | nil => exact Only.refl _ _
  | cons o r ih => exact (writeWord_only _ _ _ _ _).trans (ih _ _)

theorem okNat_only (a : Access) (v : Nat) (s : State) : Only [.ports] s (okNat a v s) := by
  unfold okNat
  exact (Only.mono (respond_only _ _ _) rfl)

theorem readRegs_only (a : Access) (f : Form) (s : State) : Only [.held, .live, .regs, .ports, .flt] s (readRegs a
    f s) := by
  unfold readRegs
  exact Only.ite (((Only.mono (noteAccess_only _ _ _ _) rfl).via (readWords_only _ _ _ _) rfl).via (okNat_only _ _
      _) rfl)
    ((formError_only _ _).mono rfl)

theorem readTrail_only (a : Access) (f : Form) (s : State) : Only [.live, .ports] s (readTrail a f s) := by
  unfold readTrail
  exact (Only.ite (Only.ite (Only.mono (okNat_only _ _ _) rfl) (Only.ite (Only.via (Only.mono (countNonsec_only _ _)
      rfl) (okNat_only _ _ _) rfl) (Only.mono (okNat_only _ _ _) rfl))) (Only.mono (formError_only _ _) rfl))

theorem readModel_only (a : Access) (f : Form) (s : State) : Only [.live, .ports] s (readModel a f s) := by
  unfold readModel
  exact (Only.ite (Only.ite (Only.mono (okNat_only _ _ _) rfl) (Only.via (Only.when (Only.refl _ _) _ _ (fun _ =>
      (Only.mono (countNonsec_only _ _) rfl))) (okNat_only _ _ _) rfl)) (Only.mono (formError_only _ _) rfl))

theorem readSeat_only (a : Access) (f : Form) (s : State) : Only [.live, .ports] s (readSeat a f s) := by
  unfold readSeat
  exact (Only.ite (Only.ite (Only.mono (okNat_only _ _ _) rfl) (Only.via (Only.when (Only.refl _ _) _ _ (fun _ =>
      (Only.mono (countNonsec_only _ _) rfl))) (okNat_only _ _ _) rfl)) (Only.mono (formError_only _ _) rfl))

theorem readAlias_only (a : Access) (f : Form) (s : State) : Only [.held, .live, .regs, .ports, .flt] s (readAlias
    a f s) := by
  unfold readAlias
  generalize aliasOf f = p
  obtain ⟨o, b⟩ := p
  exact Only.ite (((Only.mono (noteAccess_only _ _ _ _) rfl).via (readWord_only _ _ _ _ _) rfl).via (okNat_only _ _
      _) rfl)
    ((formError_only _ _).mono rfl)

theorem readAccess_only (a : Access) (f : Form) (s : State) : Only [.held, .live, .regs, .ports, .flt] s
    (readAccess a f s) := by
  unfold readAccess
  exact (by
    split; exact (Only.mono (readRegs_only _ _ _) rfl)
    exact (Only.mono (readTrail_only _ _ _) rfl)
    exact (Only.mono (readModel_only _ _ _) rfl)
    exact (Only.mono (readSeat_only _ _ _) rfl)
    exact (Only.mono (readAlias_only _ _ _) rfl)
    exact (Only.mono (formError_only _ _) rfl))

theorem writeRegs_only (a : Access) (f : Form) (data : Nat) (s : State) : Only [.tb, .bridge, .eng, .shadow,
    .active, .live, .regs, .ports, .dbg, .cells, .clus, .secs, .inrush, .trail, .flt, .recov, .rings, .sparing,
    .tally, .mem, .stages, .chans, .adcs, .adcOwed, .late, .quads, .xchks, .therm, .cap, .jobs, .blk, .plan, .seat,
    .lnk, .boot, .cal] s (writeRegs a f data s) := by
  unfold writeRegs
  exact (Only.ite (Only.via (Only.via (Only.mono (noteAccess_only _ _ _ _) rfl) (respond_only _ _ _) rfl)
      (writeWords_only _ _ _ _) rfl) (Only.mono (formError_only _ _) rfl))

theorem writeAlias_only (a : Access) (f : Form) (data : Word) (s : State) : Only [.tb, .bridge, .eng, .shadow,
    .active, .live, .regs, .ports, .dbg, .cells, .clus, .secs, .inrush, .trail, .flt, .recov, .rings, .sparing,
    .tally, .mem, .stages, .chans, .adcs, .adcOwed, .late, .quads, .xchks, .therm, .cap, .jobs, .blk, .plan, .seat,
    .lnk, .boot, .cal] s (writeAlias a f data s) := by
  unfold writeAlias
  generalize aliasOf f = p
  obtain ⟨o, b⟩ := p
  exact Only.ite (((Only.mono (noteAccess_only _ _ _ _) rfl).via (respond_only _ _ _) rfl).via (writeWord_only _ _ _
      _ _) rfl)
    ((formError_only _ _).mono rfl)

theorem writeAccess_only (a : Access) (f : Form) (data : BitVec 128) (s : State) : Only [.tb, .bridge, .eng,
    .shadow, .active, .live, .regs, .ports, .dbg, .cells, .clus, .secs, .inrush, .trail, .flt, .recov, .rings,
    .sparing, .tally, .mem, .stages, .chans, .adcs, .adcOwed, .late, .quads, .xchks, .therm, .cap, .jobs, .blk,
    .plan, .seat, .lnk, .boot, .cal] s (writeAccess a f data s) := by
  unfold writeAccess
  exact (by
    split; exact (Only.mono (writeRegs_only _ _ _ _) rfl)
    exact (Only.mono (trailWrite_only _ _ _ _) rfl)
    exact (Only.mono (modelWrite_only _ _ _ _) rfl)
    exact (Only.mono (seatWrite_only _ _ _ _) rfl)
    exact (Only.mono (writeAlias_only _ _ _ _) rfl)
    exact (Only.mono (formError_only _ _) rfl))

theorem addAccess_only (a : Access) (f : Form) (data : Nat) (s : State) : Only [.held, .tb, .bridge, .eng, .shadow,
    .active, .live, .regs, .ports, .dbg, .cells, .clus, .secs, .inrush, .trail, .flt, .recov, .rings, .sparing,
    .tally, .mem, .stages, .chans, .adcs, .adcOwed, .late, .quads, .xchks, .therm, .cap, .jobs, .blk, .plan, .seat,
    .lnk, .boot, .cal] s (addAccess a f data s) := by
  unfold addAccess
  exact Only.ite ((((Only.mono (noteAccess_only _ _ _ _) rfl).via (readWords_only _ _ _ _) rfl).via (okNat_only _ _
      _) rfl).via
    (writeWords_only _ _ _ _) rfl) ((formError_only _ _).mono rfl)

theorem modI3c_only (f : I3c → I3c) (s : State) : Only [.ports] s (modI3c f s) := by
  unfold modI3c
  exact (Only.mono (State.setPorts_only _ _) rfl)

theorem answer_only (l : List Byte) (s : State) : Only [.ports] s (answer l s) := by
  unfold answer
  exact (Only.via (Only.mono (respond_only _ _ _) rfl) (modI3c_only _ _) rfl)

theorem takeAddr_only (addr : BitVec 7) (s : State) : Only [.ports] s (takeAddr addr s) := by
  unfold takeAddr
  exact (Only.mono (modI3c_only _ _) rfl)

theorem i3cRaise_only (det hi lo : Nat) (s : State) : Only [.live, .flt] s (i3cRaise det hi lo s) := by
  unfold i3cRaise
  exact (Only.via (Only.mono (bumpF_only _ _ _ _) rfl) (raiseOn_only _ _ _ _ _) rfl)

theorem i3cForm_only (s : State) : Only [.live, .ports, .flt] s (i3cForm s) := by
  unfold i3cForm
  exact (Only.via (Only.via (Only.mono (bumpF_only _ _ _ _) rfl) (i3cRaise_only _ _ _ _) rfl) (modI3c_only _ _) rfl)

theorem targetError_only (n : Nat) (s : State) : Only [.live, .ports, .flt] s (targetError n s) := by
  unfold targetError
  exact (Only.via (Only.mono (i3cRaise_only _ _ _ _) rfl) (modI3c_only _ _) rfl)

theorem writeData_only (off : Nat) (l : List Byte) (s : State) : Only [.tb, .bridge, .eng, .shadow, .active, .live,
    .regs, .ports, .dbg, .cells, .clus, .secs, .inrush, .trail, .flt, .recov, .rings, .sparing, .tally, .mem,
    .stages, .chans, .adcs, .adcOwed, .late, .quads, .xchks, .therm, .cap, .jobs, .blk, .plan, .seat, .lnk, .boot,
    .cal]
    s (writeData off l s) := by
  unfold writeData
  split
  · exact (Only.mono (modI3c_only _ _) rfl).via (writeAccess_only _ _ _ _) rfl
  · exact (modI3c_only _ _).mono rfl

theorem i3cData_only (s : State) : Only [.tb, .bridge, .eng, .shadow, .active, .live, .regs, .ports, .dbg, .cells,
    .clus, .secs, .inrush, .trail, .flt, .recov, .rings, .sparing, .tally, .mem, .stages, .chans, .adcs, .adcOwed,
    .late, .quads, .xchks, .therm, .cap, .jobs, .blk, .plan, .seat, .lnk, .boot, .cal] s (i3cData s) := by
  unfold i3cData
  exact (by
    split; exact (Only.when (Only.refl _ _) _ _ (fun _ => (Only.mono (writeData_only _ _ _) rfl)))
    exact (Only.refl _ _))

theorem privateWrite_only (bytes : List Byte) (s : State) : Only [.tb, .bridge, .eng, .shadow, .active, .live,
    .regs, .ports, .dbg, .cells, .clus, .secs, .inrush, .trail, .flt, .recov, .rings, .sparing, .tally, .mem,
    .stages, .chans, .adcs, .adcOwed, .late, .quads, .xchks, .therm, .cap, .jobs, .blk, .plan, .seat, .lnk, .boot,
    .cal] s (privateWrite bytes s) := by
  unfold privateWrite
  refine Only.ite ((i3cForm_only _).mono rfl) ?_
  split
  · exact Only.refl _ _
  · exact Only.ite ((i3cForm_only _).mono rfl) (Only.ite ((modI3c_only _ _).mono rfl)
      ((Only.mono (respond_only _ _ _) rfl).via (writeData_only _ _ _) rfl))

theorem i3cFetch_only (s : State) : Only [.held, .live, .regs, .ports, .flt] s (i3cFetch s) := by
  unfold i3cFetch
  exact (by
    split; exact (Only.refl _ _)
    exact (Only.ite (Only.refl _ _) (Only.ite (Only.via (Only.mono (readAccess_only _ _ _) rfl) (modI3c_only _ _)
        rfl) (Only.via (Only.mono (readAccess_only _ _ _) rfl) (modI3c_only _ _) rfl))))

theorem privateRead_only (s : State) : Only [.ports] s (privateRead s) := by
  unfold privateRead
  exact (Only.ite (Only.via (Only.mono (modI3c_only _ _) rfl) (respond_only _ _ _) rfl) (by
    split; exact (Only.via (Only.mono (answer_only _ _) rfl) (modI3c_only _ _) rfl)
    exact (Only.mono (answer_only _ _) rfl)))

theorem clearedStarts_only (s : State) : Only [.eng, .shadow, .live, .regs, .ports, .dbg, .cells, .clus, .secs,
    .inrush, .trail, .flt, .rings, .sparing, .tally, .stages, .chans, .quads, .blk, .plan, .seat, .lnk, .boot,
    .cal] s (clearedStarts s) := by
  unfold clearedStarts
  exact (Only.forEach (Only.refl _ _) _ _ (fun _ _ => (by
    split; exact (Only.when (Only.refl _ _) _ _ (fun _ => (Only.when (Only.mono (modStage_only _ _ _) rfl) _ _ (fun
        _ => (Only.mono (startDomain_only _ _) rfl)))))
    exact (Only.refl _ _))))

theorem advance_only (s : State) : Only [.time] s (advance s) := by
  unfold advance
  exact (Only.mono (State.setTb_only_time _ _ (by rfl)) rfl)

theorem finishTick_only (s : State) : Only [.time, .held, .tb, .bridge, .eng, .shadow, .active, .live, .regs,
    .ports, .dbg, .cells, .clus, .secs, .inrush, .trail, .flt, .recov, .rings, .wears, .sparing, .tally, .mem,
    .stages, .chans, .adcs, .adcOwed, .late, .quads, .xchks, .therm, .cap, .jobs, .blk, .plan, .seat, .lnk, .boot,
    .cal] s (finishTick s) := by
  unfold finishTick
  exact (Only.ite (Only.via (Only.via (Only.via (Only.mono (i3cFetch_only _) rfl) (i3cData_only _) rfl)
      (endTick_only _) rfl) (formAnswers_only _) rfl) (Only.via (Only.via (Only.via (Only.via (Only.mono
      (i3cFetch_only _) rfl) (i3cData_only _) rfl) (endTick_only _) rfl) (formAnswers_only _) rfl)
      (State.setPorts_only _ _) rfl))

theorem tickPasses_only (s : State) : Only [.time, .held, .tb, .bridge, .eng, .shadow, .active, .live, .regs,
    .ports, .dbg, .cells, .clus, .secs, .inrush, .trail, .flt, .recov, .rings, .wears, .sparing, .tally, .mem,
    .stages, .chans, .adcs, .adcOwed, .late, .quads, .xchks, .therm, .cap, .jobs, .blk, .plan, .seat, .lnk, .boot,
    .cal] s (tickPasses s) := by
  unfold tickPasses
  exact (Only.ite (Only.via (Only.via (Only.via (Only.ite (Only.mono (finishTick_only _) rfl) (Only.refl _ _))
      (advance_only _) rfl) (bridgeTick_only _) rfl) (clearedStarts_only _) rfl) (Only.refl _ _))

end Sys2Proof.Machine
end

