-- ==== Sys2Proof/Laws/Memory.lean ====
section
/-! SUPPORT. The sparse tables keep their canonical form, and what they read after a write; the operations that
change the model memory keep its canonical form and everything else of `kept`. -/

namespace Sys2Proof.Machine

/-! ### Sparse tables -/

theorem Store.rises_mono {α : Type} {m : Store α} {a b : Nat} (h : m.rises b = true) (hab : a ≤ b) : m.rises a = true := by
  cases m with
  | nil => rfl
  | cons e m =>
    simp only [Store.rises, Bool.and_eq_true, decide_eq_true_eq] at h ⊢
    exact ⟨Nat.le_trans hab h.1, h.2⟩

theorem Store.rises_put {α : Type} (m : Store α) (n lo : Nat) (v : α) (h : m.rises lo = true) (hn : lo ≤ n) :
    (m.put n v).rises lo = true := by
  induction m generalizing lo with
  | nil => simp [Store.put, Store.rises, hn]
  | cons e m ih =>
    obtain ⟨k, w⟩ := e
    simp only [Store.rises, Bool.and_eq_true, decide_eq_true_eq] at h
    simp only [Store.put]
    split
    · subst_vars; simp [Store.rises, h]
    · split
      · simp only [Store.rises, Bool.and_eq_true, decide_eq_true_eq]
        exact ⟨hn, by omega, h.2⟩
      · simp only [Store.rises, Bool.and_eq_true, decide_eq_true_eq]
        exact ⟨h.1, ih _ h.2 (by omega)⟩

theorem Store.all_put {α : Type} (p : Nat × α → Bool) (m : Store α) (n : Nat) (v : α) (h : m.all p = true)
    (hv : p (n, v) = true) : (m.put n v).all p = true := by
  induction m with
  | nil => simp [Store.put, hv]
  | cons e m ih =>
    obtain ⟨k, w⟩ := e
    simp only [List.all_cons, Bool.and_eq_true] at h
    simp only [Store.put]
    split
    · simp [hv, h.2]
    · split
      · simp [hv, h]
      · simp [h.1, ih h.2]

theorem Store.wf_filter {α : Type} [DecidableEq α] (p : Nat × α → Bool) (m : Store α) (d : α) (h : Store.wf m d = true) :
    Store.wf (m.filter p) d = true := by
  simp only [Store.wf, Bool.and_eq_true] at h
  have hr : ∀ (m : Store α) (lo : Nat), m.rises lo = true → Store.rises (m.filter p) lo = true := by
    intro m
    induction m with
    | nil => intro lo h; exact h
    | cons e m ih =>
      intro lo h
      simp only [Store.rises, Bool.and_eq_true, decide_eq_true_eq] at h
      by_cases hp : p e = true
      · rw [List.filter_cons_of_pos hp]
        simp only [Store.rises, Bool.and_eq_true, decide_eq_true_eq]
        exact ⟨h.1, ih _ h.2⟩
      · rw [List.filter_cons_of_neg hp]
        exact Store.rises_mono (ih _ h.2) (by omega)
  simp only [Store.wf, Bool.and_eq_true]
  refine ⟨hr m 0 h.1, List.all_eq_true.mpr fun e he => List.all_eq_true.mp h.2 e (List.mem_of_mem_filter he)⟩

/-- Writing keeps the canonical form. -/
theorem Store.wf_set {α : Type} [DecidableEq α] (m : Store α) (d : α) (n : Nat) (v : α) (h : Store.wf m d = true) :
    Store.wf (m.set d n v) d = true := by
  unfold Store.set
  split
  · exact Store.wf_filter _ m d h
  · rename_i hv
    simp only [Store.wf, Bool.and_eq_true] at h
    simp [Store.wf, Store.rises_put m n 0 v h.1 (Nat.zero_le _), Store.all_put _ m n v h.2 (by simpa using hv)]

theorem Store.find_put_same {α : Type} (m : Store α) (n : Nat) (v : α) : (m.put n v).find n = some v := by
  induction m with
  | nil => simp [Store.put, Store.find]
  | cons e m ih =>
    obtain ⟨k, w⟩ := e
    simp only [Store.put]
    split
    · simp [Store.find]
    · split
      · simp [Store.find]
      · simp [Store.find, *]

theorem Store.find_put_other {α : Type} (m : Store α) (n k : Nat) (v : α) (h : k ≠ n) : (m.put n v).find k = m.find k := by
  induction m with
  | nil => simp [Store.put, Store.find, h]
  | cons e m ih =>
    obtain ⟨j, w⟩ := e
    simp only [Store.put]
    split
    · subst_vars
      simp only [Store.find, if_neg h]
    · split
      · simp only [Store.find, if_neg h]
      · simp only [Store.find, ih]

theorem Store.find_del_same {α : Type} (m : Store α) (n : Nat) : (m.del n).find n = none := by
  unfold Store.del
  induction m with
  | nil => rfl
  | cons e m ih =>
    by_cases he : e.1 = n
    · rw [List.filter_cons_of_neg (by simp [he])]; exact ih
    · rw [List.filter_cons_of_pos (by simp [he]), Store.find, if_neg (fun h => he h.symm)]; exact ih

theorem Store.find_del_other {α : Type} (m : Store α) (n k : Nat) (hk : k ≠ n) : (m.del n).find k = m.find k := by
  unfold Store.del
  induction m with
  | nil => rfl
  | cons e m ih =>
    by_cases he : e.1 = n
    · rw [List.filter_cons_of_neg (by simp [he]), Store.find, if_neg (fun h => hk (h.trans he))]; exact ih
    · rw [List.filter_cons_of_pos (by simp [he]), Store.find, Store.find, ih]

/-- A number reads as it was last written. -/
@[simp] theorem Store.get_set_same {α : Type} [DecidableEq α] (m : Store α) (d : α) (n : Nat) (v : α) : (m.set d n v).get d n = v := by
  unfold Store.set Store.get
  split
  · rw [Store.find_del_same]; simp [*]
  · rw [Store.find_put_same]; rfl

/-- A write leaves every other number as it was, whatever that number holds where it is unlisted. -/
theorem Store.get_set_other {α : Type} [DecidableEq α] (m : Store α) (d e : α) (n k : Nat) (v : α) (hk : k ≠ n) :
    (m.set d n v).get e k = m.get e k := by
  unfold Store.set Store.get
  split
  · rw [Store.find_del_other m n k hk]
  · rw [Store.find_put_other m n k v hk]

/-! ### What the operations on model memory keep -/

/-- `t`'s model memory is canonical where that of `s` is. -/
def MemWf (s t : State) : Prop := Memory.wf s.mem = true → Memory.wf t.mem = true

theorem MemWf.refl (s : State) : MemWf s s := id

theorem MemWf.trans {s t u : State} (h1 : MemWf s t) (h2 : MemWf t u) : MemWf s u := fun h => h2 (h1 h)

/-- What leaves the model memory leaves its form. -/
theorem Only.memWf {l : List Part} {s t : State} (h : Only l s t) (hl : l.contains .mem = false) : MemWf s t := fun hw => by
  have hm : t.mem = s.mem := h .mem (by simpa using hl)
  rw [hm]; exact hw

theorem MemWf.ite {s a b : State} {c : Prop} [Decidable c] (ha : MemWf s a) (hb : MemWf s b) : MemWf s (if c then a else b) := by
  split
  · exact ha
  · exact hb

theorem MemWf.when {s t : State} (c : Bool) (f : State → State) (h : MemWf s t) (hf : ∀ s, MemWf s (f s)) :
    MemWf s (when c f t) := MemWf.ite (h.trans (hf t)) h

theorem MemWf.forEach {s t : State} (l : List Nat) (f : Nat → State → State) (h : MemWf s t) (hf : ∀ x s, MemWf s (f x s)) :
    MemWf s (forEach l f t) := by
  unfold Machine.forEach
  induction l generalizing t with
  | nil => exact h
  | cons x xs ih => exact ih (h.trans (hf x t))

theorem setByte_memWf (a : Nat) (b : Byte) (s : State) : MemWf s (setByte a b s) :=
  fun h => Store.wf_set s.mem 0 a b h

theorem setBytes_memWf (a : Nat) (l : List Byte) (s : State) : MemWf s (setBytes a l s) := by
  induction l generalizing a s with
  | nil => exact MemWf.refl s
  | cons b r ih => exact (setByte_memWf a b s).trans (ih _ _)

theorem memWrite_memWf (o : Nat) (l : List Byte) (s : State) : MemWf s (memWrite o l s) := by
  induction l generalizing o s with
  | nil => exact MemWf.refl s
  | cons b r ih => exact (MemWf.ite (setByte_memWf o b s) (MemWf.refl s)).trans (ih _ _)

theorem activate_memWf (l : Load) (s : State) : MemWf s (activate l s) := by
  unfold activate
  exact (setBytes_memWf _ _ _).trans (((((((setBit_only _ _ _).memWf rfl).trans ((setLive_only _ _ _).memWf rfl)).trans ((loadStat_only _ _ _).memWf rfl)).trans ((setField_only _ _ _ _ _).memWf rfl)).trans ((modTally_only _ _).memWf rfl)).trans ((nextInstall_only _).memWf rfl))

theorem modelWrite_memWf (a : Access) (f : Form) (data : BitVec 128) (s : State) : MemWf s (modelWrite a f data s) := by
  unfold modelWrite
  refine MemWf.ite ((formError_only _ _).memWf rfl) (MemWf.ite (((countNonsec_only _ _).memWf rfl).trans ((respond_only _ _ _).memWf rfl)) ?_)
  exact (memWrite_memWf _ _ _).trans ((MemWf.when _ _ (MemWf.refl _) fun _ => ((refuseLoad_only _ _).memWf rfl)).trans ((respond_only _ _ _).memWf rfl))

theorem loadModel_memWf (u : Nat) (p : Payload) (s : State) : MemWf s (loadModel u p s) := by
  unfold loadModel
  split
  · exact ((modTally_only _ _).memWf rfl).trans (memWrite_memWf _ _ _)
  · exact MemWf.refl s

theorem loadOne_memWf (f : Payload → State → State) (typ key : Nat) (s : State) (hf : ∀ p s, MemWf s (f p s)) :
    MemWf s (loadOne f typ key s) := by
  unfold loadOne
  split
  · exact hf _ _
  · exact MemWf.refl s

theorem loadRecords_memWf (s : State) : MemWf s (loadRecords s) := by
  have h : ∀ (f : Payload → State → State) (typ key : Nat) (u : State),
      (∀ p v, Only [.shadow, .active, .live, .regs, .cells, .clus, .secs, .flt, .wears, .sparing, .stages, .chans, .adcs,
        .adcOwed, .quads, .therm, .plan, .cal] v (f p v)) → MemWf u (loadOne f typ key u) :=
    fun f typ key u hf => (loadOne_only f typ key u rfl hf).memWf rfl
  have h1 : MemWf s (if s.boot.cold then loadOne loadPlan 6 0 (forEach (upto (quads s)) (fun q => loadOne (loadWear q) 4 q)
      (loadOne loadWearAll 4 4 (forEach (upto (quads s)) (fun q => loadOne (loadTrims q) 3 q) (loadOne loadRetire 5 0 s)))) else s) :=
    MemWf.ite ((MemWf.forEach _ _ ((MemWf.forEach _ _ (h _ _ _ _ fun _ _ => (loadRetire_only _ _).mono rfl)
      fun _ _ => h _ _ _ _ fun _ _ => (loadTrims_only _ _ _).mono rfl).trans (h _ _ _ _ fun _ _ => (loadWearAll_only _ _).mono rfl))
      fun _ _ => h _ _ _ _ fun _ _ => (loadWear_only _ _ _).mono rfl).trans (h _ _ _ _ fun _ _ => (loadPlan_only _ _).mono rfl))
      (MemWf.refl _)
  unfold loadRecords
  exact (MemWf.forEach _ _ (h1.trans ((modPlan_only _ _).memWf rfl)) fun u s =>
    loadOne_memWf _ _ _ _ fun p s => loadModel_memWf u p s).trans ((nextInstall_only _).memWf rfl)

theorem clearInstalled_memWf (s : State) : MemWf s (clearInstalled s) := fun h => Store.wf_filter _ _ _ h

theorem warmReset_memWf (s : State) : MemWf s (warmReset s) :=
  ((warmDrop_only s).memWf rfl).trans ((clearInstalled_memWf _).trans ((warmBegin_only _).memWf rfl))

/-! ### Accesses that can reach model memory or the warm reset -/

theorem bootCommand_memWf (w : Word) (s : State) : MemWf s (bootCommand w s) := by
  unfold bootCommand
  dsimp only
  split
  · exact (MemWf.ite ((safeProfile_only _).memWf rfl) ((refuse_only _ _).memWf rfl))
  · exact (MemWf.ite ((shutDown_only _).memWf rfl) ((refuse_only _ _).memWf rfl))
  · exact (MemWf.ite ((enterPower_only _).memWf rfl) ((refuse_only _ _).memWf rfl))
  · exact MemWf.ite (warmReset_memWf _) ((refuse_only _ _).memWf rfl)
  · exact MemWf.refl s

theorem command_memWf (t : PageType) (i o : Nat) (w : Word) (s : State) : MemWf s (command t i o w s) := by
  unfold command
  split
  · exact MemWf.ite (MemWf.when _ _ (MemWf.refl _) fun _ => ((strobe_only _ _).memWf rfl)) (MemWf.ite
      (MemWf.when _ _ (MemWf.refl _) fun _ => ((snapshot_only _).memWf rfl)) (MemWf.ite ((modRegs_only _ _ (by intro _; rfl) (by intro _; rfl) (by intro _; rfl)).memWf rfl) (bootCommand_memWf _ _)))
  · exact (MemWf.ite ((fltCommand_only _ _).memWf rfl) ((fltInject_only _ _).memWf rfl))
  · exact ((thmCommand_only _ _).memWf rfl)
  · exact (MemWf.ite ((calCommand_only _ _).memWf rfl) ((stCommand_only _ _ _).memWf rfl))
  · exact ((talLoad_only _ _).memWf rfl)
  · exact ((flushCmd_only _ _).memWf rfl)
  · exact (MemWf.ite ((seatAck_only _ _).memWf rfl) (MemWf.ite ((seatCommand_only _ _).memWf rfl) ((seatWake_only _ _).memWf rfl)))
  · exact ((blkMessage_only _ _).memWf rfl)
  · exact (MemWf.ite ((linkReport_only _ _).memWf rfl) ((linkRequest_only _ _).memWf rfl))
  · exact (MemWf.ite ((jobStart_only _ _).memWf rfl) ((jobEnd_only _ _).memWf rfl))
  · exact ((dbgCommand_only _ _).memWf rfl)
  · exact ((urgCommand_only _ _ _).memWf rfl)
  · exact ((adcCommand_only _ _ _).memWf rfl)
  · exact ((stgCommand_only _ _ _).memWf rfl)
  · exact ((secCommand_only _ _ _).memWf rfl)
  · exact ((cellCommand_only _ _ _ _).memWf rfl)
  all_goals exact MemWf.refl s

theorem commandWord_memWf (t : PageType) (i o : Nat) (bit : Option Nat) (w : Word) (s : State) :
    MemWf s (commandWord t i o bit w s) := by
  unfold commandWord
  split
  · exact command_memWf _ _ _ _ _
  · exact MemWf.ite (command_memWf _ _ _ _ _) (MemWf.ite (command_memWf _ _ _ _ _) (MemWf.refl s))

theorem writeWord_memWf (a : Access) (bit : Option Nat) (off : Nat) (w : Word) (s : State) : MemWf s (writeWord a bit off w s) := by
  unfold writeWord
  split
  · exact MemWf.refl s
  · split
    · exact MemWf.refl s
    · exact MemWf.refl s
    · exact MemWf.refl s
    · exact ((storeWord_only _ _ _ _ _).memWf rfl)
    · exact (MemWf.when _ _ (MemWf.refl _) fun _ => ((storeWord_only _ _ _ _ _).memWf rfl))
    · exact MemWf.when _ _ (MemWf.refl s) fun _ => commandWord_memWf _ _ _ _ _ _
    · exact MemWf.when _ _ (MemWf.refl s) fun _ => commandWord_memWf _ _ _ _ _ _

theorem writeWords_memWf (a : Access) (l : List Nat) (v : Nat) (s : State) : MemWf s (writeWords a l v s) := by
  induction l generalizing v s with
  | nil => exact MemWf.refl s
  | cons o r ih => exact (writeWord_memWf _ _ _ _ _).trans (ih _ _)

theorem writeRegs_memWf (a : Access) (f : Form) (data : Nat) (s : State) : MemWf s (writeRegs a f data s) := by
  unfold writeRegs
  exact MemWf.ite ((((noteAccess_only _ _ _ _).memWf rfl).trans ((respond_only _ _ _).memWf rfl)).trans (writeWords_memWf _ _ _ _))
    ((formError_only _ _).memWf rfl)

theorem writeAlias_memWf (a : Access) (f : Form) (data : Word) (s : State) : MemWf s (writeAlias a f data s) := by
  unfold writeAlias
  generalize aliasOf f = p
  obtain ⟨o, b⟩ := p
  exact MemWf.ite ((((noteAccess_only _ _ _ _).memWf rfl).trans ((respond_only _ _ _).memWf rfl)).trans (writeWord_memWf _ _ _ _ _))
    ((formError_only _ _).memWf rfl)

theorem addAccess_memWf (a : Access) (f : Form) (data : Nat) (s : State) : MemWf s (addAccess a f data s) := by
  unfold addAccess
  exact MemWf.ite (((((noteAccess_only _ _ _ _).memWf rfl).trans ((readWords_only _ _ _ _).memWf rfl)).trans ((okNat_only _ _ _).memWf rfl)).trans
    (writeWords_memWf _ _ _ _)) ((formError_only _ _).memWf rfl)

theorem writeAccess_memWf (a : Access) (f : Form) (data : BitVec 128) (s : State) : MemWf s (writeAccess a f data s) := by
  unfold writeAccess
  split
  · exact writeRegs_memWf _ _ _ _
  · exact ((trailWrite_only _ _ _ _).memWf rfl)
  · exact modelWrite_memWf _ _ _ _
  · exact ((seatWrite_only _ _ _ _).memWf rfl)
  · exact writeAlias_memWf _ _ _ _
  · exact ((formError_only _ _).memWf rfl)

theorem writeData_memWf (off : Nat) (l : List Byte) (s : State) : MemWf s (writeData off l s) := by
  unfold writeData
  split
  · exact (((modI3c_only _ _).memWf rfl)).trans (writeAccess_memWf _ _ _ _)
  · exact ((modI3c_only _ _).memWf rfl)

theorem privateWrite_memWf (bytes : List Byte) (s : State) : MemWf s (privateWrite bytes s) := by
  unfold privateWrite
  refine MemWf.ite ((i3cForm_only _).memWf rfl) ?_
  split
  · exact MemWf.refl s
  · exact MemWf.ite ((i3cForm_only _).memWf rfl) (MemWf.ite ((modI3c_only _ _).memWf rfl)
      (((respond_only _ _ _).memWf rfl).trans (writeData_memWf _ _ _)))

theorem secureCmd_memWf (a : Access) (f : State → State) (s : State) (hf : ∀ s, MemWf s (f s)) : MemWf s (secureCmd a f s) := by
  unfold secureCmd hostCmd
  exact (MemWf.ite (hf s) ((countNonsec_only _ _).memWf rfl)).trans ((respond_only _ _ _).memWf rfl)

/-! ### What `act` answers -/

/-- A command whose event can happen, on a block that is awake, runs. -/
theorem act_runs {s t : State} {ok : Bool} (hp : awake s = true) (hok : ok = true) : act s ok t = .next t := by
  simp [act, hp, hok]

/-- A command whose event cannot happen, or on a block that is not awake, changes nothing. -/
theorem act_idle {s t : State} {ok : Bool} (h : awake s = false ∨ ok = false) : act s ok t = .next s := by
  rcases h with h | h <;> simp [act, h]

/-- A block without power is not awake. -/
theorem awake_powered {s : State} (h : awake s = true) : s.powered = true := by
  simp only [awake, Bool.and_eq_true] at h
  exact h.1

theorem act_cases {s t u : State} {ok : Bool} (h : act s ok t = .next u) : u = s ∨ (awake s = true ∧ ok = true ∧ u = t) := by
  unfold act at h
  split at h
  · rename_i hc
    simp only [Bool.and_eq_true] at hc
    cases h; exact .inr ⟨hc.1, hc.2, rfl⟩
  · cases h; exact .inl rfl

theorem act_memWf {s t u : State} {ok : Bool} (ht : MemWf s t) (h : act s ok t = .next u) : MemWf s u := by
  rcases act_cases h with rfl | ⟨_, _, rfl⟩
  · exact MemWf.refl _
  · exact ht

end Sys2Proof.Machine
end

