-- ==== Sys2Proof/Laws/Word.lean ====
section
/-! SUPPORT. Fields of a word after a write of them. -/

namespace Sys2Proof

/-- A field reads as it was last written. -/
theorem Word.field_put_same (w : Word) (hi lo v : Nat) (h : lo ≤ hi) (h32 : hi < 32) :
    (w.put hi lo v).field hi lo = v % 2 ^ (hi + 1 - lo) := by
  obtain ⟨n, rfl⟩ : ∃ n, hi = lo + n := ⟨hi - lo, by omega⟩
  have e : lo + n + 1 - lo = n + 1 := by omega
  unfold Word.put Word.field
  rw [e, BitVec.toNat_ofNat, Nat.shiftRight_eq_div_pow, Nat.shiftRight_eq_div_pow]
  have hp : 0 < 2 ^ lo := Nat.two_pow_pos lo
  have hq : 0 < 2 ^ (n + 1) := Nat.two_pow_pos _
  have hw : w.toNat < 2 ^ 32 := w.isLt
  obtain ⟨m, hm⟩ : ∃ m, 32 = lo + (n + 1) + m := ⟨32 - (lo + (n + 1)), by omega⟩
  have hpow : 2 ^ 32 = 2 ^ lo * 2 ^ (n + 1) * 2 ^ m := by rw [hm, pow_add, pow_add]
  generalize w.toNat = x at hw ⊢
  generalize hA : 2 ^ lo = A at *
  generalize hB : 2 ^ (n + 1) = B at *
  generalize hC : 2 ^ m = C at *
  have h1 := Nat.div_add_mod x A
  have h2 := Nat.div_add_mod (x / A) B
  have h3 : x % A < A := Nat.mod_lt _ hp
  set y := x / A
  set f := y % B
  set b := x % A
  set a := y / B
  have hv : v % B < B := Nat.mod_lt _ hq
  generalize v % B = u at hv ⊢
  have ex : x - f * A + u * A = b + (u + B * a) * A := by
    have : x = b + (B * a + f) * A := by rw [h2]; rw [← h1]; ring
    rw [this]
    have h4 : b + (B * a + f) * A = b + B * a * A + f * A := by ring
    rw [h4, Nat.add_sub_cancel]; ring
  rw [ex, hpow]
  have ha : a < C := by
    by_contra hcon
    have : C ≤ a := by omega
    have h5 : A * B * C ≤ A * B * a := Nat.mul_le_mul_left _ this
    have h6 : x = b + (B * a + f) * A := by rw [h2]; rw [← h1]; ring
    have h7 : A * B * a ≤ x := by rw [h6]; nlinarith [Nat.zero_le (f * A), Nat.zero_le b]
    omega
  have hlt : b + (u + B * a) * A < A * B * C := by
    have h8 : u + B * a < B * C := by
      have : B * (a + 1) ≤ B * C := Nat.mul_le_mul_left _ ha
      nlinarith
    have h9 : (u + B * a + 1) * A ≤ B * C * A := Nat.mul_le_mul_right _ h8
    nlinarith
  rw [Nat.mod_eq_of_lt hlt, Nat.add_mul_div_right _ _ hp, Nat.div_eq_of_lt h3, Nat.zero_add, Nat.add_mul_mod_self_left, Nat.mod_eq_of_lt hv]

end Sys2Proof
end

