-- ==== Sys2Proof/Laws/Access.lean ====
section
/-! SUPPORT. Register words after each of their writers, and what an access of good form comes to. -/

namespace Sys2Proof.Machine

/-! ### Words after a write -/

@[simp] theorem live_setLive_same (off : Nat) (w : Word) (s : State) : live (setLive off w s) off = w :=
  Store.get_set_same _ _ _ _

theorem live_setLive_other (off o : Nat) (w : Word) (s : State) (h : o ≠ off) : live (setLive off w s) o = live s o :=
  Store.get_set_other _ _ _ _ _ _ h

@[simp] theorem shadowOf_setShadow_same (off : Nat) (w : Word) (s : State) : shadowOf (setShadow off w s) off = w :=
  Store.get_set_same _ _ _ _

theorem shadowOf_setShadow_other (off o : Nat) (w : Word) (s : State) (h : o ≠ off) :
    shadowOf (setShadow off w s) o = shadowOf s o := Store.get_set_other _ _ _ _ _ _ h

@[simp] theorem activeOf_setActive_same (off : Nat) (w : Word) (s : State) : activeOf (setActive off w s) off = w :=
  Store.get_set_same _ _ _ _

theorem activeOf_setActive_other (off o : Nat) (w : Word) (s : State) (h : o ≠ off) :
    activeOf (setActive off w s) o = activeOf s o := Store.get_set_other _ _ _ _ _ _ h

theorem live_bumpBy (off n : Nat) (s : State) :
    live (bumpBy off n s) off = BitVec.ofNat 32 (Nat.min ((live s off).toNat + n) 0xFFFFFFFF) := live_setLive_same _ _ _

theorem live_setField_same (off hi lo v : Nat) (s : State) : live (setField off hi lo v s) off = (live s off).put hi lo v :=
  live_setLive_same _ _ _

theorem live_setField_other (off hi lo v o : Nat) (s : State) (h : o ≠ off) : live (setField off hi lo v s) o = live s o :=
  live_setLive_other _ _ _ _ h

/-- A counter of a field grows by one, and no further than the field goes. -/
theorem field_bumpF (off hi lo : Nat) (s : State) (h : lo ≤ hi) (h32 : hi < 32) :
    (live (bumpF off hi lo s) off).field hi lo = Nat.min ((live s off).field hi lo + 1) (2 ^ (hi + 1 - lo) - 1) := by
  unfold bumpF
  rw [live_setField_same, Word.field_put_same _ _ _ _ h h32]
  refine Nat.mod_eq_of_lt (Nat.lt_of_le_of_lt (Nat.min_le_right _ _) ?_)
  have := Nat.two_pow_pos (hi + 1 - lo)
  omega

/-- What a frame says of the three copies of a register. -/
theorem Only.live_eq {l : List Part} {s t : State} (h : Only l s t) (hp : l.contains .params = false) (hl : l.contains .live = false)
    (off : Nat) : live t off = live s off := by
  have h1 : t.params = s.params := h .params (by simpa using hp)
  have h2 : t.regs.live = s.regs.live := h .live (by simpa using hl)
  unfold live; rw [h1, h2]

theorem Only.shadowOf_eq {l : List Part} {s t : State} (h : Only l s t) (hp : l.contains .params = false)
    (hl : l.contains .shadow = false) (off : Nat) : shadowOf t off = shadowOf s off := by
  have h1 : t.params = s.params := h .params (by simpa using hp)
  have h2 : t.regs.shadow = s.regs.shadow := h .shadow (by simpa using hl)
  unfold shadowOf; rw [h1, h2]

theorem Only.activeOf_eq {l : List Part} {s t : State} (h : Only l s t) (hp : l.contains .params = false)
    (hl : l.contains .active = false) (off : Nat) : activeOf t off = activeOf s off := by
  have h1 : t.params = s.params := h .params (by simpa using hp)
  have h2 : t.regs.active = s.regs.active := h .active (by simpa using hl)
  unfold activeOf; rw [h1, h2]

/-- A configuration word in effect depends on the parameters and the active copies alone. -/
theorem Only.cfg_eq {l : List Part} {s t : State} (h : Only l s t) (hp : l.contains .params = false)
    (hl : l.contains .active = false) (off : Nat) : cfg t off = cfg s off := by
  have h1 : t.params = s.params := h .params (by simpa using hp)
  unfold cfg; rw [h.activeOf_eq hp hl, h1]

/-- The rest of the register model under a frame that leaves it. -/
theorem Only.regs_eq {l : List Part} {s t : State} (h : Only l s t) (hl : l.contains .regs = false) :
    t.regs.pend = s.regs.pend ∧ t.regs.crc = s.regs.crc ∧ t.regs.frozen = s.regs.frozen ∧ t.regs.lc = s.regs.lc ∧
      t.regs.badShadow = s.regs.badShadow ∧ t.regs.badActive = s.regs.badActive ∧ t.regs.sealWord = s.regs.sealWord := by
  have h1 := h .regs (by simpa using hl)
  simp only [Part.same] at h1
  exact ⟨by have := congrArg Regs.pend h1; exact this, by have := congrArg Regs.crc h1; exact this,
    by have := congrArg Regs.frozen h1; exact this, by have := congrArg Regs.lc h1; exact this,
    by have := congrArg Regs.badShadow h1; exact this, by have := congrArg Regs.badActive h1; exact this,
    by have := congrArg Regs.sealWord h1; exact this⟩

/-! ### Shadow writes -/

theorem shadowOf_writeShadow_same (off : Nat) (w : Word) (s : State) : shadowOf (writeShadow off w s) off = w := by
  unfold writeShadow
  dsimp only
  generalize injArmed s (pageOf off) = b
  cases b <;> exact shadowOf_setShadow_same off w s

theorem shadowOf_writeShadow_other (off o : Nat) (w : Word) (s : State) (h : o ≠ off) :
    shadowOf (writeShadow off w s) o = shadowOf s o := by
  unfold writeShadow
  dsimp only
  generalize injArmed s (pageOf off) = b
  cases b <;> exact shadowOf_setShadow_other off o w s h

/-- The queue of pending writes and the running CRC after a write of a shadow are those before it. -/
theorem writeShadow_regs (off : Nat) (w : Word) (s : State) :
    (writeShadow off w s).regs.pend = s.regs.pend ∧ (writeShadow off w s).regs.crc = s.regs.crc := by
  unfold writeShadow
  dsimp only
  generalize injArmed s (pageOf off) = b
  cases b <;> exact ⟨rfl, rfl⟩

/-- A write that joins a frozen set: one in the tick of its strobe. -/
theorem frozenNow_writeShadow (off : Nat) (w : Word) (s : State) : frozenNow (writeShadow off w s) = frozenNow s := by
  unfold writeShadow
  dsimp only
  generalize injArmed s (pageOf off) = b
  cases b <;> rfl

/-- All that a pending write does. -/
theorem pendWrite_does (off : Nat) (w : Word) (s : State) (h : frozenNow s = none) :
    shadowOf (pendWrite off w s) off = w ∧ (∀ o, o ≠ off → shadowOf (pendWrite off w s) o = shadowOf s o) ∧
      (pendWrite off w s).regs.pend = s.regs.pend ++ [off] ∧ (pendWrite off w s).regs.crc = crcEntry s.regs.crc off w := by
  have e : pendWrite off w s = modRegs (fun r => { r with pend := r.pend ++ [off], crc := crcEntry r.crc off w }) (writeShadow off w s) := by
    unfold pendWrite
    dsimp only
    rw [frozenNow_writeShadow, h]
  rw [e]
  exact ⟨shadowOf_writeShadow_same off w s, fun o h => shadowOf_writeShadow_other off o w s h,
    congrArg (· ++ [off]) (writeShadow_regs off w s).1, congrArg (crcEntry · off w) (writeShadow_regs off w s).2⟩

/-! ### Accesses of good form -/

theorem secure_respond (a : Access) (x : Response) (s : State) : secure (respond a x s) a = secure s a := by
  unfold secure respond
  cases a.port <;> rfl

theorem secure_noteAccess (a : Access) (touch : Nat → Bool) (words : List Nat) (s : State) :
    secure (noteAccess a touch words s) a = secure s a := by
  have : (noteAccess a touch words s).ports = s.ports := (noteAccess_only a touch words s) .ports (by decide)
  unfold secure; rw [this]

/-- An access that touches no secure-only word, or is secure, is not counted. -/
theorem noteAccess_none {a : Access} {touch : Nat → Bool} {words : List Nat} {s : State}
    (h : secure s a = true ∨ words.any touch = false) : noteAccess a touch words s = s := by
  unfold noteAccess when
  rcases h with h | h <;> simp [h]

theorem regionOf_regs {f : Form} (h : f.off.toNat < 0x100000) : regionOf f = .regs := by
  unfold regionOf
  dsimp only
  rw [if_pos h]

theorem formOk_word {f : Form} (hf : f.full = true) (hw : f.width = 32) (ha : f.off.toNat % 4 = 0) : formOk f [32, 64] = true := by
  unfold formOk
  simp [hf, hw, ha]

theorem regWords_word {f : Form} (hw : f.width = 32) : regWords f = [canonical f.off.toNat] := by
  unfold regWords
  rw [if_neg (by rw [hw]; decide)]

/-- A 32-bit register write comes to the write of one word. -/
theorem writeAccess_word {a : Access} {f : Form} (hf : f.full = true) (hw : f.width = 32) (ha : f.off.toNat % 4 = 0)
    (ho : f.off.toNat < 0x100000) (d : BitVec 128) (s : State) :
    writeAccess a f d s = writeWord a none (canonical f.off.toNat) (d.setWidth 32)
      (respond a (.ok 0) (noteAccess a (secureWrite s) [canonical f.off.toNat] s)) := by
  unfold writeAccess
  rw [regionOf_regs ho]
  unfold writeRegs
  rw [if_pos (formOk_word hf hw ha), regWords_word hw]
  show writeWord _ _ _ _ _ = _
  congr 1

/-- A 32-bit register read comes to the read of one word. -/
theorem readAccess_word {a : Access} {f : Form} (hf : f.full = true) (hw : f.width = 32) (ha : f.off.toNat % 4 = 0)
    (ho : f.off.toNat < 0x100000) (s : State) :
    readAccess a f s = okNat a (readWord a false none (canonical f.off.toNat)
        (noteAccess a (secureWord s) [canonical f.off.toNat] s)).1.toNat
      (readWord a false none (canonical f.off.toNat) (noteAccess a (secureWord s) [canonical f.off.toNat] s)).2 := by
  unfold readAccess
  rw [regionOf_regs ho]
  unfold readRegs
  rw [if_pos (formOk_word hf hw ha), regWords_word hw, show (f.width == 64) = false by rw [hw]; rfl]
  rfl

end Sys2Proof.Machine
end

