-- ==== Sys2Proof/Laws/Commands.lean ====
section
/-! SUPPORT. The frame of every command: the parts of the state it can change. -/

namespace Sys2Proof.Machine

theorem execColdStart_only {s t : State} (h : execColdStart s = .next t) : Only (anywhere ++ [.powered, .time,
    .held, .wears, .late]) s t := by
  unfold execColdStart at h
  exact Only.next (Only.ite (Only.refl _ _) (Only.mono (coldStart_only _) rfl)) h

theorem execPowerLoss_only {s t : State} (h : execPowerLoss s = .next t) : Only [.powered] s t := by
  unfold execPowerLoss at h
  exact Only.next (Only.mono (State.setPower_only _ _) rfl) h

theorem execPllFirstLock_only (aGood : Bool) (bGood : Bool) {s t : State} (h : execPllFirstLock aGood bGood s =
    .next t) : Only [.tb, .bridge, .sparing, .adcs, .boot, .cal] s t := by
  unfold execPllFirstLock at h
  exact Only.act (Only.mono (firstLock_only _ _ _) rfl) h

theorem execTbPllUnlock_only {s t : State} (h : execTbPllUnlock s = .next t) : Only [.tb, .flt] s t := by
  unfold execTbPllUnlock at h
  exact Only.act (Only.via (Only.mono (State.setTb_only _ _ (by
    exact ⟨rfl, rfl⟩) (by
    exact ⟨rfl, rfl⟩)) rfl) (raise_only _ _ _) rfl) h

theorem execTbRefLost_only (x : RefLoss) {s t : State} (h : execTbRefLost x s = .next t) : Only [.tb, .live, .flt]
    s t := by
  unfold execTbRefLost at h
  exact Only.act (Only.mono (loseRef_only _ _) rfl) h

theorem execRefGoodAgain_only (x : RefReturn) {s t : State} (h : execRefGoodAgain x s = .next t) : Only [.tb,
    .live] s t := by
  unfold execRefGoodAgain at h
  exact Only.act (Only.mono (regainRef_only _ _) rfl) h

theorem execTbHoldoverExpired_only {s t : State} (h : execTbHoldoverExpired s = .next t) : Only [.late] s t := by
  unfold execTbHoldoverExpired at h
  exact Only.act (Only.mono (expire_only _ _) rfl) h

theorem execTbTickLoRead_only (a : Access) (wide : Bool) {s t : State} (h : execTbTickLoRead a wide s = .next t) :
    Only [.held, .ports] s t := by
  unfold execTbTickLoRead at h
  exact Only.act (Only.ite (Only.mono (respond_only _ _ _) rfl) (Only.via (Only.mono (capture_only _ _) rfl)
      (okWord_only _ _ _) rfl)) h

theorem execTbTickHiRead_only (a : Access) {s t : State} (h : execTbTickHiRead a s = .next t) : Only [.held,
    .ports] s t := by
  unfold execTbTickHiRead at h
  exact Only.act (Only.via (Only.mono (readTickHi_only _ _) rfl) (okWord_only _ _ _) rfl) h

theorem execTbSlackRead_only (a : Access) (other : Bool) {s t : State} (h : execTbSlackRead a other s = .next t) :
    Only [.live, .ports] s t := by
  unfold execTbSlackRead at h
  exact Only.act (Only.via (Only.mono (setLive_only _ _ _) rfl) (okWord_only _ _ _) rfl) h

theorem execEngineCompletion_only (e : EngineId) {s t : State} (h : execEngineCompletion e s = .next t) : Only
    [.eng, .live, .flt] s t := by
  unfold execEngineCompletion at h
  exact Only.act (by
    split; exact (Only.mono (complete_only _ _ _) rfl)
    exact (Only.mono (complete_only _ _ _) rfl)
    exact (Only.mono (complete_only _ _ _) rfl)
    exact (Only.mono (complete_only _ _ _) rfl)
    exact (Only.mono (complete_only _ _ _) rfl)
    exact (Only.mono (complete_only _ _ _) rfl)
    exact (Only.mono (completeFaults_only _) rfl)) h

theorem execBridgeSyncFrame_only (payload : BitVec 64) (crc : Byte) {s t : State} (h : execBridgeSyncFrame payload
    crc s = .next t) : Only [.time, .tb, .bridge, .eng, .live, .sparing, .adcs, .boot, .cal] s t := by
  unfold execBridgeSyncFrame at h
  exact Only.act (Only.ite (Only.via (Only.mono (State.setBridge_only _ _) rfl) (syncFrame_only _ _) rfl) (Only.via
      (Only.mono (State.setBridge_only _ _) rfl) (bumpF_only _ _ _ _) rfl)) h

theorem execBridgeStrobeFrame_only (tick : BitVec 64) (crc : Byte) {s t : State} (h : execBridgeStrobeFrame tick
    crc s = .next t) : Only [.live, .regs] s t := by
  unfold execBridgeStrobeFrame at h
  exact Only.act (Only.mono (strobeFrame_only _ _) rfl) h

theorem execBridgeCapFrame_only (cap : BitVec 13) (crc : Byte) {s t : State} (h : execBridgeCapFrame cap crc s =
    .next t) : Only [.bridge] s t := by
  unfold execBridgeCapFrame at h
  exact Only.act (Only.mono (State.setBridge_only _ _) rfl) h

theorem execBridgeEnergyFrame_only (inst : Nat) (inc : BitVec 48) (k : BitVec 16) (crc : Byte) {s t : State} (h :
    execBridgeEnergyFrame inst inc k crc s = .next t) : Only [.cap] s t := by
  unfold execBridgeEnergyFrame at h
  exact Only.act (Only.mono (modCap_only _ _) rfl) h

theorem execBrgSyncLost_only {s t : State} (h : execBrgSyncLost s = .next t) : Only [.late] s t := by
  unfold execBrgSyncLost at h
  exact Only.act (Only.mono (expire_only _ _) rfl) h

theorem execSecondaryLockTimeout_only {s t : State} (h : execSecondaryLockTimeout s = .next t) : Only [.late] s t
    := by
  unfold execSecondaryLockTimeout at h
  exact Only.act (Only.mono (expire_only _ _) rfl) h

theorem execRegisterWrite_only (a : Access) (f : Form) (data : BitVec 64) {s t : State} (h : execRegisterWrite a f
    data s = .next t) : Only (anywhere ++ [.late]) s t := by
  unfold execRegisterWrite at h
  exact Only.act (Only.mono (writeAccess_only _ _ _ _) rfl) h

theorem execAtomicAdd_only (a : Access) (f : Form) (data : BitVec 64) {s t : State} (h : execAtomicAdd a f data s =
    .next t) : Only (anywhere ++ [.held, .late]) s t := by
  unfold execAtomicAdd at h
  exact Only.act (Only.mono (addAccess_only _ _ _ _) rfl) h

theorem execBitAliasWrite_only (a : Access) (f : Form) (data : Word) {s t : State} (h : execBitAliasWrite a f data
    s = .next t) : Only (anywhere ++ [.late]) s t := by
  unfold execBitAliasWrite at h
  exact Only.act (Only.mono (writeAlias_only _ _ _ _) rfl) h

theorem execRcRegisterRead_only (a : Access) (f : Form) {s t : State} (h : execRcRegisterRead a f s = .next t) :
    Only [.held, .live, .regs, .ports, .flt] s t := by
  unfold execRcRegisterRead at h
  exact Only.act (Only.mono (readAccess_only _ _ _) rfl) h

theorem execResultRegisterRead_only (a : Access) (f : Form) {s t : State} (h : execResultRegisterRead a f s = .next
    t) : Only [.held, .live, .regs, .ports, .flt] s t := by
  unfold execResultRegisterRead at h
  exact Only.act (Only.mono (readAccess_only _ _ _) rfl) h

theorem execGenUpdateGo_only (a : Access) {s t : State} (h : execGenUpdateGo a s = .next t) : Only [.bridge, .live,
    .regs, .ports] s t := by
  unfold execGenUpdateGo at h
  exact Only.act (hostCmd_only _ _ _ rfl (fun _ => (Only.mono (strobe_only _ _) rfl))) h

theorem execUpdStrobeEdge_only {s t : State} (h : execUpdStrobeEdge s = .next t) : Only [.bridge, .live, .regs] s t
    := by
  unfold execUpdStrobeEdge at h
  exact Only.act (Only.mono (strobe_only _ _) rfl) h

theorem execStrobeApplyTick_only {s t : State} (h : execStrobeApplyTick s = .next t) : Only [.shadow, .active,
    .live, .regs, .clus, .secs, .trail, .flt, .rings, .quads, .blk, .boot] s t := by
  unfold execStrobeApplyTick at h
  exact Only.act (Only.mono (applyDue_only _) rfl) h

theorem execBoundaryApply_only {s t : State} (h : execBoundaryApply s = .next t) : Only [.shadow, .active, .live,
    .regs, .clus, .secs, .trail, .flt, .rings, .quads, .blk, .boot] s t := by
  unfold execBoundaryApply at h
  exact Only.act (Only.mono (boundaryApply_only _) rfl) h

theorem execLcTakeEffect_only {s t : State} (h : execLcTakeEffect s = .next t) : Only [.shadow, .active, .live,
    .regs, .secs, .flt] s t := by
  unfold execLcTakeEffect at h
  exact Only.act (Only.foldl (Only.mono (modRegs_only _ _ (by
    intro _; rfl) (by
    intro _; rfl) (by
    intro _; rfl)) rfl) _ _ (fun _ _ => (Only.mono (lcEffect_only _ _) rfl))) h

theorem execParityWalk_only {s t : State} (h : execParityWalk s = .next t) : Only [.shadow, .active, .live, .regs,
    .secs, .flt] s t := by
  unfold execParityWalk at h
  exact Only.act (Only.mono (parityWalk_only _) rfl) h

theorem execGenParinjWrite_only (a : Access) (page : BitVec 8) (go : Bool) {s t : State} (h : execGenParinjWrite a
    page go s = .next t) : Only [.live, .ports] s t := by
  unfold execGenParinjWrite at h
  exact Only.act (secureCmd_only _ _ _ rfl (fun _ => (Only.mono (parinjWrite_only _ _) rfl))) h

theorem execGenSnapGo_only (a : Access) {s t : State} (h : execGenSnapGo a s = .next t) : Only [.live, .regs,
    .ports] s t := by
  unfold execGenSnapGo at h
  exact Only.act (hostCmd_only _ _ _ rfl (fun _ => (Only.mono (snapshot_only _) rfl))) h

theorem execLegStuckOff_only (n : Nat) (pos : Nat) {s t : State} (h : execLegStuckOff n pos s = .next t) : Only
    [.live, .regs, .cells, .clus, .flt, .rings, .wears, .seat] s t := by
  unfold execLegStuckOff at h
  exact Only.act (Only.ite (Only.mono (setCell_only _ _ _) rfl) (Only.mono (legsExhausted_only _ _) rfl)) h

theorem execCellLegSpared_only (n : Nat) {s t : State} (h : execCellLegSpared n s = .next t) : Only [.cells, .flt]
    s t := by
  unfold execCellLegSpared at h
  dsimp only at h
  split at h
  · exact Only.act (Only.via (Only.mono (setCell_only _ _ _) rfl) (raise_only _ _ _) rfl) h
  · exact Only.act (Only.refl _ _) h

theorem execCellLegStuckOn_only (n : Nat) {s t : State} (h : execCellLegStuckOn n s = .next t) : Only [.live,
    .regs, .cells, .clus, .flt, .rings, .wears, .seat] s t := by
  unfold execCellLegStuckOn at h
  exact Only.act (Only.mono (cellFault_only _ _ _ _) rfl) h

theorem execCellStep_only (n : Nat) (side : Side) {s t : State} (h : execCellStep n side s = .next t) : Only
    [.cells] s t := by
  unfold execCellStep at h
  exact Only.act (Only.mono (modCell_only _ _ _) rfl) h

theorem execCellStartDone_only (n : Nat) {s t : State} (h : execCellStartDone n s = .next t) : Only [.live, .cells,
    .clus, .flt, .rings, .seat] s t := by
  unfold execCellStartDone at h
  exact Only.act (Only.via (by
    split; exact (by
      split; exact (Only.via (Only.mono (setCell_only _ _ _) rfl) (takeoverDone_only _ _ _) rfl)
      exact (Only.via (Only.mono (setCell_only _ _ _) rfl) (dropTake_only _ _ _) rfl)
      exact (Only.via (Only.mono (setCell_only _ _ _) rfl) (ringAsk_only _ _ _) rfl))
    exact (Only.mono (setCell_only _ _ _) rfl)) (judgeBeyond_only _ _) rfl) h

theorem execCellOvercurrent_only (n : Nat) {s t : State} (h : execCellOvercurrent n s = .next t) : Only [.live,
    .regs, .cells, .clus, .flt, .rings, .wears, .seat] s t := by
  unfold execCellOvercurrent at h
  exact Only.act (Only.mono (cellFault_only _ _ _ _) rfl) h

theorem execCellCmpConflict_only (n : Nat) {s t : State} (h : execCellCmpConflict n s = .next t) : Only [.live,
    .regs, .cells, .clus, .flt, .rings, .wears, .seat] s t := by
  unfold execCellCmpConflict at h
  exact Only.act (Only.mono (cellFault_only _ _ _ _) rfl) h

theorem execCluSpareTimeout_only (g : Nat) {s t : State} (h : execCluSpareTimeout g s = .next t) : Only [.late] s t
    := by
  unfold execCluSpareTimeout at h
  exact Only.act (Only.mono (expire_only _ _) rfl) h

theorem execCluSensorDisagree_only (g : Nat) {s t : State} (h : execCluSensorDisagree g s = .next t) : Only [.live,
    .clus, .quads] s t := by
  unfold execCluSensorDisagree at h
  exact Only.act (Only.mono (askTap_only _ _) rfl) h

theorem execCluSensorLost_only (g : Nat) {s t : State} (h : execCluSensorLost g s = .next t) : Only [.live, .clus,
    .flt] s t := by
  unfold execCluSensorLost at h
  exact Only.act (Only.via (Only.mono (setClu_only _ _ _) rfl) (raiseOn_only _ _ _ _ _) rfl) h

theorem execDroopTrip_only (g : Nat) {s t : State} (h : execDroopTrip g s = .next t) : Only [.live, .cells, .clus,
    .flt] s t := by
  unfold execDroopTrip at h
  exact Only.act (Only.mono (droopEffect_only _ _) rfl) h

theorem execSchussForceEnd_only (g : Nat) (inside : Bool) {s t : State} (h : execSchussForceEnd g inside s = .next
    t) : Only [.clus] s t := by
  unfold execSchussForceEnd at h
  exact Only.act (Only.mono (modClu_only _ _ _) rfl) h

theorem execSchussRelease_only (g : Nat) {s t : State} (h : execSchussRelease g s = .next t) : Only [.live, .clus]
    s t := by
  unfold execSchussRelease at h
  exact Only.act (Only.mono (releaseSchuss_only _ _) rfl) h

theorem execSchussLong_only (g : Nat) {s t : State} (h : execSchussLong g s = .next t) : Only [.live, .clus, .flt]
    s t := by
  unfold execSchussLong at h
  exact Only.act (Only.via (Only.mono (modClu_only _ _ _) rfl) (raiseOn_only _ _ _ _ _) rfl) h

theorem execCluCellcmdIsolate_only (a : Access) (sc : Nat) (k : BitVec 6) {s t : State} (h : execCluCellcmdIsolate
    a sc k s = .next t) : Only [.live, .ports, .rings] s t := by
  unfold execCluCellcmdIsolate at h
  exact Only.act (secureCmd_only _ _ _ rfl (fun _ => (Only.mono (cellCommand_only _ _ _ _) rfl))) h

theorem execCluCellcmdRetest_only (a : Access) (sc : Nat) (k : BitVec 6) {s t : State} (h : execCluCellcmdRetest a
    sc k s = .next t) : Only [.live, .ports, .rings] s t := by
  unfold execCluCellcmdRetest at h
  exact Only.act (secureCmd_only _ _ _ rfl (fun _ => (Only.mono (cellCommand_only _ _ _ _) rfl))) h

theorem execCluCellcmdPass_only (a : Access) (sc : Nat) (k : BitVec 6) {s t : State} (h : execCluCellcmdPass a sc k
    s = .next t) : Only [.live, .ports, .rings] s t := by
  unfold execCluCellcmdPass at h
  exact Only.act (secureCmd_only _ _ _ rfl (fun _ => (Only.mono (cellCommand_only _ _ _ _) rfl))) h

theorem execCluCellcmdFail_only (a : Access) (sc : Nat) (k : BitVec 6) {s t : State} (h : execCluCellcmdFail a sc k
    s = .next t) : Only [.live, .ports, .rings] s t := by
  unfold execCluCellcmdFail at h
  exact Only.act (secureCmd_only _ _ _ rfl (fun _ => (Only.mono (cellCommand_only _ _ _ _) rfl))) h

theorem execCluCellcmdRotate_only (a : Access) (sc : Nat) (k : BitVec 6) {s t : State} (h : execCluCellcmdRotate a
    sc k s = .next t) : Only [.live, .ports, .rings] s t := by
  unfold execCluCellcmdRotate at h
  exact Only.act (secureCmd_only _ _ _ rfl (fun _ => (Only.mono (cellCommand_only _ _ _ _) rfl))) h

theorem execCluTrimWrite_only (n : Nat) {s t : State} (h : execCluTrimWrite n s = .next t) : Only [.shadow,
    .active, .live, .regs, .cells, .clus, .flt, .rings, .seat, .cal] s t := by
  unfold execCluTrimWrite at h
  split at h
  · exact Only.act (Only.refl _ _) h
  · exact Only.act (Only.when (Only.when (Only.via (Only.mono (State.setRegs_only _ _ (by
      rfl) (by
      rfl) (by
      rfl)) rfl) (storeBoth_only _ _ _) rfl) _ _ (fun _ => (Only.via (Only.mono (modClu_only _ _ _) rfl) (bump_only
        _ _) rfl))) _ _ (fun _ => (Only.via (Only.mono (enterStandby_only _ _ _) rfl) (owedTrim_only _ _) rfl))) h

theorem execSectorEngineStart_only (sc : Nat) (i : SectorSense) {s t : State} (h : execSectorEngineStart sc i s =
    .next t) : Only [.eng, .live, .clus, .secs, .flt, .wears] s t := by
  unfold execSectorEngineStart at h
  exact Only.act (Only.when (Only.foldl (Only.refl _ _) _ _ (fun _ _ => (Only.mono (sampleClu_only _ _ _) rfl))) _ _
      (fun _ => (Only.via (Only.when (Only.refl _ _) _ _ (fun _ => (Only.mono (raiseOn_only _ _ _ _ _) rfl)))
      (engineStart_only _ _) rfl))) h

theorem execSectorEngineLatch_only (sc : Nat) {s t : State} (h : execSectorEngineLatch sc s = .next t) : Only
    [.eng, .live, .cells, .clus, .secs, .trail, .flt, .seat] s t := by
  unfold execSectorEngineLatch at h
  exact Only.act (Only.ite (latch_only _ _ _ _ _ rfl (fun _ => (Only.mono (engineCommit_only _ _) rfl)) (fun _ =>
      (Only.mono (engineMissed_only _ _) rfl))) (Only.mono (heldLatch_only _ _) rfl)) h

theorem execSecBandReadback_only (sc : Nat) (bad : Bool) {s t : State} (h : execSecBandReadback sc bad s = .next t)
    : Only [.live, .secs, .flt] s t := by
  unfold execSecBandReadback at h
  exact Only.act (Only.when (Only.mono (modSec_only _ _ _) rfl) _ _ (fun _ => (Only.mono (raiseOn_only _ _ _ _ _)
      rfl))) h

theorem execSecTrimLimit_only (g : Nat) {s t : State} (h : execSecTrimLimit g s = .next t) : Only [.live, .clus,
    .flt] s t := by
  unfold execSecTrimLimit at h
  exact Only.act (Only.via (Only.mono (modClu_only _ _ _) rfl) (raiseOn_only _ _ _ _ _) rfl) h

theorem execSecCmdPlausClear_only (a : Access) (sc : Nat) {s t : State} (h : execSecCmdPlausClear a sc s = .next t)
    : Only [.eng, .live, .ports, .secs] s t := by
  unfold execSecCmdPlausClear at h
  exact Only.act (secureCmd_only _ _ _ rfl (fun _ => (Only.mono (secCommand_only _ _ _) rfl))) h

theorem execSecCmdToSpare_only (a : Access) (sc : Nat) {s t : State} (h : execSecCmdToSpare a sc s = .next t) :
    Only [.eng, .live, .ports, .secs] s t := by
  unfold execSecCmdToSpare at h
  exact Only.act (secureCmd_only _ _ _ rfl (fun _ => (Only.mono (secCommand_only _ _ _) rfl))) h

theorem execSecCmdHandback_only (a : Access) (sc : Nat) {s t : State} (h : execSecCmdHandback a sc s = .next t) :
    Only [.eng, .live, .ports, .secs] s t := by
  unfold execSecCmdHandback at h
  exact Only.act (secureCmd_only _ _ _ rfl (fun _ => (Only.mono (secCommand_only _ _ _) rfl))) h

theorem execSpareEngineSwitch_only (sc : Nat) {s t : State} (h : execSpareEngineSwitch sc s = .next t) : Only
    [.eng, .live, .secs, .flt] s t := by
  unfold execSpareEngineSwitch at h
  split at h
  · exact Only.act (Only.mono (engineSwitch_only _ _ _) rfl) h
  · exact Only.act (Only.refl _ _) h

theorem execChairliftSectorStep_only (sc : Nat) {s t : State} (h : execChairliftSectorStep sc s = .next t) : Only
    [.live, .secs, .trail] s t := by
  unfold execChairliftSectorStep at h
  exact Only.act (Only.ite (Only.mono (setSec_only _ _ _) rfl) (Only.mono (sectorStep_only _ _) rfl)) h

theorem execChairliftRailStep_only (d : Nat) {s t : State} (h : execChairliftRailStep d s = .next t) : Only
    [.stages] s t := by
  unfold execChairliftRailStep at h
  exact Only.act (Only.mono (railStep_only _ _) rfl) h

theorem execChlIlkTimeout_only (sc : Nat) {s t : State} (h : execChlIlkTimeout sc s = .next t) : Only [.secs, .flt]
    s t := by
  unfold execChlIlkTimeout at h
  exact Only.act (Only.via (Only.mono (setSec_only _ _ _) rfl) (raise_only _ _ _) rfl) h

theorem execChlSettleTimeout_only (sc : Nat) {s t : State} (h : execChlSettleTimeout sc s = .next t) : Only [.secs,
    .flt] s t := by
  unfold execChlSettleTimeout at h
  exact Only.act (Only.via (Only.mono (setSec_only _ _ _) rfl) (raise_only _ _ _) rfl) h

theorem execInrushGrant_only (q : Nat) {s t : State} (h : execInrushGrant q s = .next t) : Only [.live, .secs,
    .inrush] s t := by
  unfold execInrushGrant at h
  split at h
  · exact Only.act (Only.mono (grantUnit_only _ _ _) rfl) h
  · exact Only.act (Only.refl _ _) h

theorem execInrushReservationEnd_only (q : Nat) {s t : State} (h : execInrushReservationEnd q s = .next t) : Only
    [.inrush] s t := by
  unfold execInrushReservationEnd at h
  exact Only.act (Only.mono (setInr_only _ _ _) rfl) h

theorem execNeighbourCheck_only (sc : Nat) (unit : Nat) {s t : State} (h : execNeighbourCheck sc unit s = .next t)
    : Only [.secs, .flt] s t := by
  unfold execNeighbourCheck at h
  split at h
  · exact Only.act (Only.mono (checkUnit_only _ _ _) rfl) h
  · exact Only.act (Only.refl _ _) h

theorem execClusterEnable_only (g : Nat) {s t : State} (h : execClusterEnable g s = .next t) : Only [.live, .cells,
    .clus, .secs, .flt, .seat] s t := by
  unfold execClusterEnable at h
  exact Only.act (Only.via (Only.when (Only.refl _ _) _ _ (fun _ => (Only.mono (engineWake_only _ _) rfl)))
      (enableCluster_only _ _ _) rfl) h

theorem execSwitchOffComplete_only (sc : Nat) {s t : State} (h : execSwitchOffComplete sc s = .next t) : Only
    [.eng, .live, .cells, .clus, .secs, .trail, .flt, .rings, .seat] s t := by
  unfold execSwitchOffComplete at h
  split at h
  · exact Only.act (Only.mono (switchOffDone_only _ _) rfl) h
  · exact Only.act (Only.refl _ _) h

theorem execTrailPush_only (a : Access) (f : Form) (b : BitVec 128) {s t : State} (h : execTrailPush a f b s =
    .next t) : Only [.live, .ports, .secs, .trail, .flt] s t := by
  unfold execTrailPush at h
  exact Only.act (Only.mono (trailWrite_only _ _ _ _) rfl) h

theorem execTrailCancel_only (a : Access) (f : Form) (b : BitVec 128) {s t : State} (h : execTrailCancel a f b s =
    .next t) : Only [.live, .ports, .secs, .trail, .flt] s t := by
  unfold execTrailCancel at h
  exact Only.act (Only.mono (trailWrite_only _ _ _ _) rfl) h

theorem execTrailHeldPushAccept_only (q : Nat) {s t : State} (h : execTrailHeldPushAccept q s = .next t) : Only
    [.live, .ports, .secs, .trail, .flt] s t := by
  unfold execTrailHeldPushAccept at h
  split at h
  · exact Only.act (Only.refl _ _) h
  · exact Only.act (Only.mono (takeHeld_only _ _) rfl) h

theorem execTrailPushTimeout_only (q : Nat) {s t : State} (h : execTrailPushTimeout q s = .next t) : Only [.late] s
    t := by
  unfold execTrailPushTimeout at h
  exact Only.act (Only.mono (expire_only _ _) rfl) h

theorem execTrailArm_only (q : Nat) (i : Nat) {s t : State} (h : execTrailArm q i s = .next t) : Only [.live,
    .trail] s t := by
  unfold execTrailArm at h
  split at h
  · split at h
    · exact Only.act (Only.ite (Only.via (Only.mono (dropSlot_only _ _ _) rfl) (bump_only _ _) rfl) (Only.mono
          (setSlot_only _ _ _ _) rfl)) h
    · exact Only.act (Only.refl _ _) h
  · exact Only.act (Only.refl _ _) h

theorem execTrailPresent_only (q : Nat) (i : Nat) {s t : State} (h : execTrailPresent q i s = .next t) : Only
    [.live, .secs, .trail] s t := by
  unfold execTrailPresent at h
  split at h
  · split at h
    · exact Only.act (Only.mono (presentSlot_only _ _ _ _ _) rfl) h
    · exact Only.act (Only.refl _ _) h
  · exact Only.act (Only.refl _ _) h

theorem execTrailExpire_only (q : Nat) (i : Nat) {s t : State} (h : execTrailExpire q i s = .next t) : Only [.live,
    .trail] s t := by
  unfold execTrailExpire at h
  split at h
  · exact Only.act (Only.via (Only.via (Only.mono (dropSlot_only _ _ _) rfl) (bump_only _ _) rfl) (bump_only _ _)
        rfl) h
  · exact Only.act (Only.refl _ _) h

theorem execTrailMiss_only (q : Nat) (i : Nat) {s t : State} (h : execTrailMiss q i s = .next t) : Only [.live,
    .secs, .trail] s t := by
  unfold execTrailMiss at h
  split at h
  · exact Only.act (Only.via (Only.via (Only.via (Only.mono (dropSlot_only _ _ _) rfl) (bump_only _ _) rfl)
        (report_only _ _ _ _) rfl) (retarget_only _ _) rfl) h
  · exact Only.act (Only.refl _ _) h

theorem execTrailHoldEnd_only (q : Nat) (i : Nat) {s t : State} (h : execTrailHoldEnd q i s = .next t) : Only
    [.secs, .trail] s t := by
  unfold execTrailHoldEnd at h
  split at h
  · exact Only.act (Only.via (Only.mono (dropSlot_only _ _ _) rfl) (retarget_only _ _) rfl) h
  · exact Only.act (Only.refl _ _) h

theorem execTrailCmdFlush_only (a : Access) (mask : BitVec 4) {s t : State} (h : execTrailCmdFlush a mask s = .next
    t) : Only [.live, .ports, .secs, .trail] s t := by
  unfold execTrailCmdFlush at h
  exact Only.act (secureCmd_only _ _ _ rfl (fun _ => (Only.mono (flushCmd_only _ _) rfl))) h

theorem execActivityMessage_only (lane : Nat) (w : Word) {s t : State} (h : execActivityMessage lane w s = .next t)
    : Only [.live, .secs, .trail, .flt, .tally, .seat] s t := by
  unfold execActivityMessage at h
  exact Only.act (Only.mono (activity_only _ _ _) rfl) h

theorem execTallyStart_only (speed : BitVec 10) {s t : State} (h : execTallyStart speed s = .next t) : Only [.eng,
    .live, .trail, .tally] s t := by
  unfold execTallyStart at h
  exact Only.act (Only.mono (tallyStart_only _ _) rfl) h

theorem execTallyLatch_only {s t : State} (h : execTallyLatch s = .next t) : Only [.eng, .live, .secs, .trail,
    .flt, .tally, .quads, .cap, .seat] s t := by
  unfold execTallyLatch at h
  exact Only.act (latch_only _ _ _ _ _ rfl (fun _ => (Only.mono (tallyCommit_only _) rfl)) (fun _ => (Only.mono
      (tallyMissed_only _) rfl))) h

theorem execModelStagingWrite_only (a : Access) (f : Form) (data : BitVec 128) {s t : State} (h :
    execModelStagingWrite a f data s = .next t) : Only [.live, .ports, .flt, .rings, .tally, .mem] s t := by
  unfold execModelStagingWrite at h
  exact Only.act (Only.mono (modelWrite_only _ _ _ _) rfl) h

theorem execTalLoadInstall_only (a : Access) (u : BitVec 4) {s t : State} (h : execTalLoadInstall a u s = .next t)
    : Only [.live, .ports, .flt, .rings, .tally] s t := by
  unfold execTalLoadInstall at h
  exact Only.act (secureCmd_only _ _ _ rfl (fun _ => (Only.mono (talLoad_only _ _) rfl))) h

theorem execTalLoadAbort_only (a : Access) {s t : State} (h : execTalLoadAbort a s = .next t) : Only [.live,
    .ports, .flt, .rings, .tally] s t := by
  unfold execTalLoadAbort at h
  exact Only.act (secureCmd_only _ _ _ rfl (fun _ => (Only.mono (talLoad_only _ _) rfl))) h

theorem execTallyInstallCheckDone_only {s t : State} (h : execTallyInstallCheckDone s = .next t) : Only [.live,
    .flt, .rings, .tally] s t := by
  unfold execTallyInstallCheckDone at h
  split at h
  · exact Only.act (Only.mono (checkDone_only _ _) rfl) h
  · exact Only.act (Only.refl _ _) h

theorem execTallyInstallActivate_only {s t : State} (h : execTallyInstallActivate s = .next t) : Only [.live,
    .tally, .mem] s t := by
  unfold execTallyInstallActivate at h
  split at h
  · exact Only.act (Only.mono (activate_only _ _) rfl) h
  · exact Only.act (Only.refl _ _) h

theorem execStgCmdStart_only (a : Access) (d : Nat) {s t : State} (h : execStgCmdStart a d s = .next t) : Only
    (unitsOff ++ [.ports, .recov, .chans]) s t := by
  unfold execStgCmdStart at h
  exact Only.act (secureCmd_only _ _ _ rfl (fun _ => (Only.mono (stgCommand_only _ _ _) rfl))) h

theorem execStgCmdStop_only (a : Access) (d : Nat) {s t : State} (h : execStgCmdStop a d s = .next t) : Only
    (unitsOff ++ [.ports, .recov, .chans]) s t := by
  unfold execStgCmdStop at h
  exact Only.act (secureCmd_only _ _ _ rfl (fun _ => (Only.mono (stgCommand_only _ _ _) rfl))) h

theorem execStgCmdRetire_only (a : Access) (d : Nat) (ch : BitVec 6) {s t : State} (h : execStgCmdRetire a d ch s =
    .next t) : Only (unitsOff ++ [.ports, .recov, .chans]) s t := by
  unfold execStgCmdRetire at h
  exact Only.act (secureCmd_only _ _ _ rfl (fun _ => (Only.mono (stgCommand_only _ _ _) rfl))) h

theorem execStgCmdReturn_only (a : Access) (d : Nat) (ch : BitVec 6) {s t : State} (h : execStgCmdReturn a d ch s =
    .next t) : Only (unitsOff ++ [.ports, .recov, .chans]) s t := by
  unfold execStgCmdReturn at h
  exact Only.act (secureCmd_only _ _ _ rfl (fun _ => (Only.mono (stgCommand_only _ _ _) rfl))) h

theorem execStgSoftEntry_only (d : Nat) {s t : State} (h : execStgSoftEntry d s = .next t) : Only [.live, .flt,
    .stages] s t := by
  unfold execStgSoftEntry at h
  split at h
  · exact Only.act (Only.mono (enterSoft_only _ _ _) rfl) h
  · exact Only.act (Only.refl _ _) h

theorem execCompensatorStart_only (d : Nat) {s t : State} (h : execCompensatorStart d s = .next t) : Only [.eng,
    .live, .stages, .boot] s t := by
  unfold execCompensatorStart at h
  exact Only.act (Only.ite (Only.mono (showRail_only _ _) rfl) (Only.mono (compStart_only _ _) rfl)) h

theorem execCompensatorLatch_only (d : Nat) {s t : State} (h : execCompensatorLatch d s = .next t) : Only [.eng,
    .live, .flt, .stages] s t := by
  unfold execCompensatorLatch at h
  exact Only.act (latch_only _ _ _ _ _ rfl (fun _ => (Only.mono (compCommit_only _ _) rfl)) (fun _ => (Only.mono
      (modStage_only _ _ _) rfl))) h

theorem execStgConfirmDone_only (d : Nat) {s t : State} (h : execStgConfirmDone d s = .next t) : Only [.live,
    .secs, .trail, .stages, .seat, .lnk, .boot] s t := by
  unfold execStgConfirmDone at h
  exact Only.act (Only.mono (enterRun_only _ _) rfl) h

theorem execStgPgTimeout_only (d : Nat) {s t : State} (h : execStgPgTimeout d s = .next t) : Only [.late] s t := by
  unfold execStgPgTimeout at h
  exact Only.act (Only.mono (expire_only _ _) rfl) h

theorem execStgSsShort_only (d : Nat) {s t : State} (h : execStgSsShort d s = .next t) : Only (unitsOff ++
    [.ports]) s t := by
  unfold execStgSsShort at h
  exact Only.act (Only.via (Only.mono (bumpF_only _ _ _ _) rfl) (protTrip_only _ _ _ _) rfl) h

theorem execSwitchingPeriodStart_only (d : Nat) {s t : State} (h : execSwitchingPeriodStart d s = .next t) : Only
    (unitsOff ++ [.ports, .chans]) s t := by
  unfold execSwitchingPeriodStart at h
  exact Only.act (Only.mono (periodStart_only _ _) rfl) h

theorem execSwitchingCycleStart_only (ch : Nat) {s t : State} (h : execSwitchingCycleStart ch s = .next t) : Only
    [.chans] s t := by
  unfold execSwitchingCycleStart at h
  exact Only.act (Only.mono (cycleStart_only _ _) rfl) h

theorem execFastLimitTrip_only (ch : Nat) {s t : State} (h : execFastLimitTrip ch s = .next t) : Only (unitsOff ++
    [.ports, .chans]) s t := by
  unfold execFastLimitTrip at h
  exact Only.act (Only.mono (fastTrip_only _ _) rfl) h

theorem execZeroCrossing_only (ch : Nat) {s t : State} (h : execZeroCrossing ch s = .next t) : Only [.chans] s t :=
    by
  unfold execZeroCrossing at h
  exact Only.act (Only.mono (modCh_only _ _ _) rfl) h

theorem execStgBUpdate_only (d : Nat) {s t : State} (h : execStgBUpdate d s = .next t) : Only [.live, .flt,
    .stages] s t := by
  unfold execStgBUpdate at h
  exact Only.act (Only.mono (bUpdate_only _ _) rfl) h

theorem execStgChOverload_only (ch : Nat) {s t : State} (h : execStgChOverload ch s = .next t) : Only [.late] s t
    := by
  unfold execStgChOverload at h
  exact Only.act (Only.mono (expire_only _ _) rfl) h

theorem execStgUv_only (d : Nat) {s t : State} (h : execStgUv d s = .next t) : Only [.late] s t := by
  unfold execStgUv at h
  exact Only.act (Only.mono (expire_only _ _) rfl) h

theorem execStgOv_only (d : Nat) {s t : State} (h : execStgOv d s = .next t) : Only (unitsOff ++ [.ports]) s t := by
  unfold execStgOv at h
  exact Only.act (Only.via (Only.mono (protTrip_only _ _ _ _) rfl) (modStage_only _ _ _) rfl) h

theorem execStgSenseLost_only (d : Nat) {s t : State} (h : execStgSenseLost d s = .next t) : Only (unitsOff ++
    [.ports]) s t := by
  unfold execStgSenseLost at h
  exact Only.act (Only.mono (protTrip_only _ _ _ _) rfl) h

theorem execRailTargetUpdate_only (d : Nat) {s t : State} (h : execRailTargetUpdate d s = .next t) : Only [.stages]
    s t := by
  unfold execRailTargetUpdate at h
  exact Only.act (Only.mono (modStage_only _ _ _) rfl) h

theorem execAdcCalPair_only (n : Nat) (rl8 : Nat) (rh8 : Nat) {s t : State} (h : execAdcCalPair n rl8 rh8 s = .next
    t) : Only [.live, .clus, .flt, .sparing, .adcs, .adcOwed, .quads] s t := by
  unfold execAdcCalPair at h
  exact Only.act (Only.mono (calPair_only _ _ _ _) rfl) h

theorem execTelemetryResult_only (q : Nat) (raws : List Nat) {s t : State} (h : execTelemetryResult q raws s =
    .next t) : Only (unitsOff ++ [.ports, .chans, .therm]) s t := by
  unfold execTelemetryResult at h
  split at h
  · exact Only.act (Only.via (Only.mono (takeConv_only _ _ _ _) rfl) (deliver_only _ _ _ _) rfl) h
  · exact Only.act (Only.refl _ _) h

theorem execSequencePassEnd_only (q : Nat) {s t : State} (h : execSequencePassEnd q s = .next t) : Only [.live,
    .flt, .adcs, .quads] s t := by
  unfold execSequencePassEnd at h
  split at h
  · exact Only.act (Only.when (Only.mono (passEnd_only _ _ _ _) rfl) _ _ (fun _ => (Only.mono (endEntry_only _ _ _)
        rfl))) h
  · exact Only.act (Only.refl _ _) h

theorem execUrgentRequest_only (q : Nat) (who : Nat) (chan : BitVec 8) {s t : State} (h : execUrgentRequest q who
    chan s = .next t) : Only [.live, .clus, .quads] s t := by
  unfold execUrgentRequest at h
  exact Only.act (Only.ite (Only.mono (askTap_only _ _) rfl) (Only.mono (urgentPush_only _ _ _ _) rfl)) h

theorem execQdUrgreqGo_only (a : Access) (q : Nat) (chan : BitVec 8) {s t : State} (h : execQdUrgreqGo a q chan s =
    .next t) : Only [.live, .ports, .quads] s t := by
  unfold execQdUrgreqGo at h
  exact Only.act (secureCmd_only _ _ _ rfl (fun _ => (Only.mono (urgCommand_only _ _ _) rfl))) h

theorem execUrgentConversionStart_only (q : Nat) {s t : State} (h : execUrgentConversionStart q s = .next t) : Only
    [.live, .quads] s t := by
  unfold execUrgentConversionStart at h
  dsimp only at h
  split at h
  · exact Only.act (Only.mono (startUrgent_only _ _ _ _) rfl) h
  · exact Only.act (Only.mono (startUrgent_only _ _ _ _) rfl) h
  · exact Only.act (Only.refl _ _) h

theorem execUrgentResult_only (q : Nat) (raws : List Nat) {s t : State} (h : execUrgentResult q raws s = .next t) :
    Only (unitsOff ++ [.ports, .wears, .chans, .therm]) s t := by
  unfold execUrgentResult at h
  split at h
  · exact Only.act (Only.via (Only.via (Only.via (Only.mono (takeConv_only _ _ _ _) rfl) (bump_only _ _) rfl)
        (deliver_only _ _ _ _) rfl) (answerUrgent_only _ _ _ _) rfl) h
  · exact Only.act (Only.refl _ _) h

theorem execAdcCorrErr_only (x : CorrSamples) {s t : State} (h : execAdcCorrErr x s = .next t) : Only [.live, .flt,
    .adcs] s t := by
  unfold execAdcCorrErr at h
  exact Only.act (Only.mono (corrSamples_only _ _ _) rfl) h

theorem execAdcXchkArbitration_only (d : Nat) (q : Nat) {s t : State} (h : execAdcXchkArbitration d q s = .next t)
    : Only [.live, .flt, .quads, .xchks] s t := by
  unfold execAdcXchkArbitration at h
  exact Only.act (by
    split; exact (Only.via (Only.mono (bumpF_only _ _ _ _) rfl) (State.setXchks_only _ _) rfl)
    exact (Only.via (Only.via (Only.mono (bumpF_only _ _ _ _) rfl) (clearRun_only _ _ _) rfl) (unresolved_only _ _
        _) rfl)) h

theorem execAdcXchkResult_only (d : Nat) (raws : List Nat) {s t : State} (h : execAdcXchkResult d raws s = .next t)
    : Only [.live, .flt, .adcs, .quads, .xchks] s t := by
  unfold execAdcXchkResult at h
  split at h
  · exact Only.act (Only.refl _ _) h
  · exact Only.act (Only.ite (Only.via (Only.via (Only.via (Only.mono (State.setXchks_only _ _) rfl) (modAdc_only _
        _ _) rfl) (clearRun_only _ _ _) rfl) (unresolved_only _ _ _) rfl) (Only.ite (by
      (dsimp only; split)
      exact (Only.via (Only.via (Only.via (Only.mono (State.setXchks_only _ _) rfl) (modAdc_only _ _ _) rfl)
          (clearRun_only _ _ _) rfl) (raiseOn_only _ _ _ _ _) rfl)
      exact (Only.via (Only.via (Only.via (Only.mono (State.setXchks_only _ _) rfl) (modAdc_only _ _ _) rfl)
          (clearRun_only _ _ _) rfl) (unresolved_only _ _ _) rfl)) (Only.ite (by
      (dsimp only; split)
      exact (Only.via (Only.via (Only.via (Only.mono (State.setXchks_only _ _) rfl) (modAdc_only _ _ _) rfl)
          (clearRun_only _ _ _) rfl) (raiseOn_only _ _ _ _ _) rfl)
      exact (Only.via (Only.via (Only.via (Only.mono (State.setXchks_only _ _) rfl) (modAdc_only _ _ _) rfl)
          (clearRun_only _ _ _) rfl) (unresolved_only _ _ _) rfl)) (Only.via (Only.via (Only.via (Only.mono
        (State.setXchks_only _ _) rfl) (modAdc_only _ _ _) rfl) (clearRun_only _ _ _) rfl) (unresolved_only _ _ _)
        rfl)))) h

theorem execAdcReplaceConnect_only (role : Nat) {s t : State} (h : execAdcReplaceConnect role s = .next t) : Only
    [.live, .flt, .adcs] s t := by
  unfold execAdcReplaceConnect at h
  split at h
  · exact Only.act (Only.mono (connectAdc_only _ _ _) rfl) h
  · exact Only.act (Only.refl _ _) h

theorem execAdcCmdRetire_only (a : Access) (n : Nat) {s t : State} (h : execAdcCmdRetire a n s = .next t) : Only
    [.live, .ports, .clus, .sparing, .adcs, .adcOwed, .quads] s t := by
  unfold execAdcCmdRetire at h
  exact Only.act (secureCmd_only _ _ _ rfl (fun _ => (Only.mono (adcCommand_only _ _ _) rfl))) h

theorem execAdcCmdRetest_only (a : Access) (n : Nat) {s t : State} (h : execAdcCmdRetest a n s = .next t) : Only
    [.live, .ports, .clus, .sparing, .adcs, .adcOwed, .quads] s t := by
  unfold execAdcCmdRetest at h
  exact Only.act (secureCmd_only _ _ _ rfl (fun _ => (Only.mono (adcCommand_only _ _ _) rfl))) h

theorem execAdcRetestDone_only (n : Nat) {s t : State} (h : execAdcRetestDone n s = .next t) : Only [.sparing,
    .adcs] s t := by
  unfold execAdcRetestDone at h
  exact Only.act (Only.ite (Only.mono (modAdc_only _ _ _) rfl) (Only.mono (adcFailed_only _ _ _) rfl)) h

theorem execThermalStart_only {s t : State} (h : execThermalStart s = .next t) : Only [.eng, .live, .flt, .sparing,
    .therm, .boot, .cal] s t := by
  unfold execThermalStart at h
  exact Only.act (Only.via (Only.when (Only.refl _ _) _ _ (fun _ => (Only.via (Only.mono (State.setBoot_only _ _)
      rfl) (thermStart_only _) rfl))) (calThermalEnd_only _) rfl) h

theorem execThermalLatch_only {s t : State} (h : execThermalLatch s = .next t) : Only [.eng, .live, .flt, .wears,
    .sparing, .therm, .seat] s t := by
  unfold execThermalLatch at h
  exact Only.act (latch_only _ _ _ _ _ rfl (fun _ => (Only.mono (thermCommit_only _) rfl)) (fun _ => (Only.mono
      (modTherm_only _ _) rfl))) h

theorem execThermalGraceExpiry_only {s t : State} (h : execThermalGraceExpiry s = .next t) : Only [.live, .flt,
    .therm] s t := by
  unfold execThermalGraceExpiry at h
  split at h
  · exact Only.act (by
      split; exact (Only.mono (beginEnforce_only _ _) rfl)
      exact (Only.mono (modTherm_only _ _) rfl)) h
  · exact Only.act (Only.refl _ _) h

theorem execEnforceStep_only {s t : State} (h : execEnforceStep s = .next t) : Only [.live, .therm] s t := by
  unfold execEnforceStep at h
  exact Only.act (Only.via (Only.mono (modTherm_only _ _) rfl) (bump_only _ _) rfl) h

theorem execThmCmdRetire_only (a : Access) (n : BitVec 7) {s t : State} (h : execThmCmdRetire a n s = .next t) :
    Only [.live, .ports, .sparing, .therm] s t := by
  unfold execThmCmdRetire at h
  exact Only.act (secureCmd_only _ _ _ rfl (fun _ => (Only.mono (thmCommand_only _ _) rfl))) h

theorem execThmCmdReturn_only (a : Access) (n : BitVec 7) {s t : State} (h : execThmCmdReturn a n s = .next t) :
    Only [.live, .ports, .sparing, .therm] s t := by
  unfold execThmCmdReturn at h
  exact Only.act (secureCmd_only _ _ _ rfl (fun _ => (Only.mono (thmCommand_only _ _) rfl))) h

theorem execThmCmdTreturn_only (a : Access) (k : BitVec 3) {s t : State} (h : execThmCmdTreturn a k s = .next t) :
    Only [.live, .ports, .sparing, .therm] s t := by
  unfold execThmCmdTreturn at h
  exact Only.act (secureCmd_only _ _ _ rfl (fun _ => (Only.mono (thmCommand_only _ _) rfl))) h

theorem execCapLoopStart_only {s t : State} (h : execCapLoopStart s = .next t) : Only [.bridge, .eng, .live, .cap]
    s t := by
  unfold execCapLoopStart at h
  exact Only.act (Only.mono (capStart_only _) rfl) h

theorem execCapLoopLatch_only {s t : State} (h : execCapLoopLatch s = .next t) : Only [.eng, .live, .secs, .flt,
    .cap] s t := by
  unfold execCapLoopLatch at h
  exact Only.act (latch_only _ _ _ _ _ rfl (fun _ => (Only.mono (capCommit_only _) rfl)) (fun _ => (Only.mono
      (modCap_only _ _) rfl))) h

theorem execEnergyAccumulate_only {s t : State} (h : execEnergyAccumulate s = .next t) : Only [.bridge, .live,
    .flt, .cap] s t := by
  unfold execEnergyAccumulate at h
  exact Only.act (Only.mono (energyAdd_only _) rfl) h

theorem execJobEnergyAdd_only {s t : State} (h : execJobEnergyAdd s = .next t) : Only [.live, .flt, .cap, .jobs] s
    t := by
  unfold execJobEnergyAdd at h
  exact Only.act (Only.mono (jobEnergyAdd_only _) rfl) h

theorem execHostJobstart_only (a : Access) (id : Word) {s t : State} (h : execHostJobstart a id s = .next t) : Only
    [.live, .ports, .flt, .jobs] s t := by
  unfold execHostJobstart at h
  exact Only.act (hostCmd_only _ _ _ rfl (fun _ => (Only.mono (jobStart_only _ _) rfl))) h

theorem execHostJobend_only (a : Access) (id : Word) {s t : State} (h : execHostJobend a id s = .next t) : Only
    [.live, .ports, .jobs] s t := by
  unfold execHostJobend at h
  exact Only.act (hostCmd_only _ _ _ rfl (fun _ => (Only.mono (jobEnd_only _ _) rfl))) h

theorem execBlanketEvaluation_only {s t : State} (h : execBlanketEvaluation s = .next t) : Only [.live, .flt, .blk]
    s t := by
  unfold execBlanketEvaluation at h
  exact Only.act (Only.mono (blkEvaluate_only _) rfl) h

theorem execBlanketLevelDrive_only {s t : State} (h : execBlanketLevelDrive s = .next t) : Only [.blk] s t := by
  unfold execBlanketLevelDrive at h
  exact Only.act (Only.mono (driveLevels_only _) rfl) h

theorem execBlkMsgEnter_only (a : Access) {s t : State} (h : execBlkMsgEnter a s = .next t) : Only [.ports, .blk] s
    t := by
  unfold execBlkMsgEnter at h
  exact Only.act (hostCmd_only _ _ _ rfl (fun _ => (Only.mono (blkMessage_only _ _) rfl))) h

theorem execBlkMsgExit_only (a : Access) {s t : State} (h : execBlkMsgExit a s = .next t) : Only [.ports, .blk] s t
    := by
  unfold execBlkMsgExit at h
  exact Only.act (hostCmd_only _ _ _ rfl (fun _ => (Only.mono (blkMessage_only _ _) rfl))) h

theorem execLookupQuery_only (port : Nat) (k : UnitKind) (index : BitVec 13) (epoch : BitVec 8) {s t : State} (h :
    execLookupQuery port k index epoch s = .next t) : Only [.seat] s t := by
  unfold execLookupQuery at h
  exact Only.act (Only.mono (State.setSeat_only _ _) rfl) h

theorem execLookupAnswer_only (port : Nat) {s t : State} (h : execLookupAnswer port s = .next t) : Only [.seat] s t
    := by
  unfold execLookupAnswer at h
  split at h
  · exact Only.act (Only.mono (State.setSeat_only _ _) rfl) h
  · exact Only.act (Only.refl _ _) h

theorem execSeatEntryWrite_only (a : Access) (f : Form) (data : BitVec 64) {s t : State} (h : execSeatEntryWrite a
    f data s = .next t) : Only [.live, .ports, .secs, .trail, .plan] s t := by
  unfold execSeatEntryWrite at h
  exact Only.act (Only.mono (seatWrite_only _ _ _ _) rfl) h

theorem execPlacementDecision_only {s t : State} (h : execPlacementDecision s = .next t) : Only [.live, .secs,
    .trail, .flt, .plan, .seat] s t := by
  unfold execPlacementDecision at h
  exact Only.act (Only.mono (placement_only _) rfl) h

theorem execMigrationDestReady_only {s t : State} (h : execMigrationDestReady s = .next t) : Only [.ports, .seat] s
    t := by
  unfold execMigrationDestReady at h
  exact Only.act (Only.via (Only.mono (modMig_only _ _) rfl) (sendMig_only _ _) rfl) h

theorem execMigrationPowerTimeout_only {s t : State} (h : execMigrationPowerTimeout s = .next t) : Only [.live,
    .ports, .secs, .trail, .flt, .rings, .plan, .seat] s t := by
  unfold execMigrationPowerTimeout at h
  exact Only.act (Only.via (Only.mono (abortCount_only _ _ _) rfl) (abandonMig_only _) rfl) h

theorem execMigrationCopyTimeout_only {s t : State} (h : execMigrationCopyTimeout s = .next t) : Only [.late] s t
    := by
  unfold execMigrationCopyTimeout at h
  exact Only.act (Only.mono (expire_only _ _) rfl) h

theorem execSeatMigack_only (a : Access) (seq : BitVec 8) (st : BitVec 2) {s t : State} (h : execSeatMigack a seq
    st s = .next t) : Only [.live, .ports, .secs, .trail, .flt, .rings, .plan, .seat] s t := by
  unfold execSeatMigack at h
  exact Only.act (hostCmd_only _ _ _ rfl (fun _ => (Only.mono (seatAck_only _ _) rfl))) h

theorem execSeatFlip_only {s t : State} (h : execSeatFlip s = .next t) : Only [.live, .secs, .trail, .flt, .plan,
    .seat] s t := by
  unfold execSeatFlip at h
  exact Only.act (Only.ite (Only.mono (flip_only _) rfl) (Only.mono (revert_only _) rfl)) h

theorem execSeatGraceEnd_only {s t : State} (h : execSeatGraceEnd s = .next t) : Only [.late] s t := by
  unfold execSeatGraceEnd at h
  exact Only.act (Only.mono (expire_only _ _) rfl) h

theorem execSeatCmdMove_only (a : Access) (k : UnitKind) (i : BitVec 13) {s t : State} (h : execSeatCmdMove a k i s
    = .next t) : Only [.live, .ports, .secs, .trail, .flt, .rings, .plan, .seat] s t := by
  unfold execSeatCmdMove at h
  exact Only.act (secureCmd_only _ _ _ rfl (fun _ => (Only.mono (seatCommand_only _ _) rfl))) h

theorem execSeatCmdRetire_only (a : Access) (k : UnitKind) (i : BitVec 13) {s t : State} (h : execSeatCmdRetire a k
    i s = .next t) : Only [.live, .ports, .secs, .trail, .flt, .rings, .plan, .seat] s t := by
  unfold execSeatCmdRetire at h
  exact Only.act (secureCmd_only _ _ _ rfl (fun _ => (Only.mono (seatCommand_only _ _) rfl))) h

theorem execSeatCmdReturn_only (a : Access) (k : UnitKind) (i : BitVec 13) {s t : State} (h : execSeatCmdReturn a k
    i s = .next t) : Only [.live, .ports, .secs, .trail, .flt, .rings, .plan, .seat] s t := by
  unfold execSeatCmdReturn at h
  exact Only.act (secureCmd_only _ _ _ rfl (fun _ => (Only.mono (seatCommand_only _ _) rfl))) h

theorem execSeatCmdScrub_only (a : Access) (tag : BitVec 8) {s t : State} (h : execSeatCmdScrub a tag s = .next t)
    : Only [.live, .ports, .secs, .trail, .flt, .rings, .plan, .seat] s t := by
  unfold execSeatCmdScrub at h
  exact Only.act (secureCmd_only _ _ _ rfl (fun _ => (Only.mono (seatCommand_only _ _) rfl))) h

theorem execSeatCmdAbort_only (a : Access) {s t : State} (h : execSeatCmdAbort a s = .next t) : Only [.live,
    .ports, .secs, .trail, .flt, .rings, .plan, .seat] s t := by
  unfold execSeatCmdAbort at h
  exact Only.act (secureCmd_only _ _ _ rfl (fun _ => (Only.mono (seatCommand_only _ _) rfl))) h

theorem execScrubHoldEnd_only {s t : State} (h : execScrubHoldEnd s = .next t) : Only [.live, .secs, .trail, .flt,
    .seat] s t := by
  unfold execScrubHoldEnd at h
  exact Only.act (Only.when (Only.foldl (Only.mono (modSeat_only _ _) rfl) _ _ (fun _ _ => (Only.mono
      (syncGroup_only _ _) rfl))) _ _ (fun _ => (Only.via (Only.mono (modSeat_only _ _) rfl) (raiseOn_only _ _ _ _
      _) rfl))) h

theorem execSeatWake_only (a : Access) (g : BitVec 7) {s t : State} (h : execSeatWake a g s = .next t) : Only
    [.live, .ports, .secs, .trail, .seat] s t := by
  unfold execSeatWake at h
  exact Only.act (hostCmd_only _ _ _ rfl (fun _ => (Only.mono (seatWake_only _ _) rfl))) h

theorem execBankGroupIdle_only (g : Nat) {s t : State} (h : execBankGroupIdle g s = .next t) : Only [.late] s t :=
    by
  unfold execBankGroupIdle at h
  exact Only.act (Only.mono (expire_only _ _) rfl) h

theorem execMigRecordResponse_only (_ok : Bool) {s t : State} (h : execMigRecordResponse _ok s = .next t) : Only
    [.ports, .seat] s t := by
  unfold execMigRecordResponse at h
  exact Only.act (by
    (dsimp only; split)
    exact (Only.via (Only.mono (modSeat_only _ _) rfl) (initSend_only _ _ _) rfl)
    exact (Only.mono (modSeat_only _ _) rfl)) h

theorem execPoweredSecond_only {s t : State} (h : execPoweredSecond s = .next t) : Only [.sparing, .cal] s t := by
  unfold execPoweredSecond at h
  exact Only.act (Only.via (Only.mono (State.setCal_only _ _) rfl) (modSparing_only _ _) rfl) h

theorem execWearSaveDue_only {s t : State} (h : execWearSaveDue s = .next t) : Only [.live, .flt, .sparing, .cal] s
    t := by
  unfold execWearSaveDue at h
  exact Only.act (Only.via (Only.mono (modCal_only _ _) rfl) (queueWear_only _) rfl) h

theorem execRotationStart_only {s t : State} (h : execRotationStart s = .next t) : Only [.clus, .rings, .sparing] s
    t := by
  unfold execRotationStart at h
  split at h
  · exact Only.act (Only.refl _ _) h
  · split at h
    · exact Only.act (Only.via (Only.mono (modSparing_only _ _) rfl) (beginRotation_only _ _ _ _) rfl) h
    · exact Only.act (Only.refl _ _) h

theorem execRetestStepDone_only (g : Nat) (ok : Bool) {s t : State} (h : execRetestStepDone g ok s = .next t) :
    Only [.live, .regs, .cells, .clus, .flt, .rings, .wears, .quads, .seat] s t := by
  unfold execRetestStepDone at h
  split at h
  · exact Only.act (Only.mono (retestStep_only _ _ _ _) rfl) h
  · exact Only.act (Only.refl _ _) h

theorem execCalCmdSelftestSector_only (a : Access) (i : BitVec 6) {s t : State} (h : execCalCmdSelftestSector a i s
    = .next t) : Only [.live, .ports, .sparing] s t := by
  unfold execCalCmdSelftestSector at h
  exact Only.act (secureCmd_only _ _ _ rfl (fun _ => (Only.mono (calCommand_only _ _) rfl))) h

theorem execCalCmdSelftestSpare_only (a : Access) (i : BitVec 6) {s t : State} (h : execCalCmdSelftestSpare a i s =
    .next t) : Only [.live, .ports, .sparing] s t := by
  unfold execCalCmdSelftestSpare at h
  exact Only.act (secureCmd_only _ _ _ rfl (fun _ => (Only.mono (calCommand_only _ _) rfl))) h

theorem execSelfTestDone_only (pass : Bool) {s t : State} (h : execSelfTestDone pass s = .next t) : Only [.live,
    .secs, .sparing] s t := by
  unfold execSelfTestDone at h
  split at h
  · exact Only.act (Only.mono (selfTestEnd_only _ _ _) rfl) h
  · exact Only.act (Only.refl _ _) h

theorem execRingPresent_only (q : Nat) (req : Nat) (stop : Nat) (reg : Nat) (write : Bool) (data : Word) (opn :
    Bool) (cls : Bool) {s t : State} (h : execRingPresent q req stop reg write data opn cls s = .next t) : Only
    [.rings] s t := by
  unfold execRingPresent at h
  exact Only.act (Only.ite (Only.mono (presentIso_only _ _ _) rfl) (Only.mono (ringAsk_only _ _ _) rfl)) h

theorem execArbiterDrawStart_only (q : Nat) {s t : State} (h : execArbiterDrawStart q s = .next t) : Only [.eng,
    .live, .flt, .rings, .tally] s t := by
  unfold execArbiterDrawStart at h
  exact Only.act (Only.mono (drawStart_only _ _) rfl) h

theorem execArbiterDrawLatch_only (q : Nat) {s t : State} (h : execArbiterDrawLatch q s = .next t) : Only [.eng,
    .live, .flt, .rings] s t := by
  unfold execArbiterDrawLatch at h
  exact Only.act (latch_only _ _ _ _ _ rfl (fun _ => (Only.mono (drawCommit_only _ _) rfl)) (fun _ => (Only.mono
      (modRing_only _ _ _) rfl))) h

theorem execRingTransactionComplete_only (q : Nat) (rdata : Word) {s t : State} (h : execRingTransactionComplete q
    rdata s = .next t) : Only [.live, .regs, .dbg, .cells, .clus, .flt, .rings, .wears, .tally, .seat] s t := by
  unfold execRingTransactionComplete at h
  split at h
  · exact Only.act (Only.mono (completeTxn_only _ _ _ _) rfl) h
  · exact Only.act (Only.refl _ _) h

theorem execLockLimitExpiry_only (q : Nat) {s t : State} (h : execLockLimitExpiry q s = .next t) : Only [.live,
    .flt, .rings, .tally] s t := by
  unfold execLockLimitExpiry at h
  exact Only.act (Only.mono (expireLock_only _ _) rfl) h

theorem execDbgCmd_only (a : Access) (cmd : BitVec 20) {s t : State} (h : execDbgCmd a cmd s = .next t) : Only
    [.live, .ports, .dbg, .rings] s t := by
  unfold execDbgCmd at h
  exact Only.act (secureCmd_only _ _ _ rfl (fun _ => (Only.mono (dbgCommand_only _ _) rfl))) h

theorem execFaultLatch_only {s t : State} (h : execFaultLatch s = .next t) : Only (unitsOff ++ [.ports, .recov,
    .adcs, .adcOwed]) s t := by
  unfold execFaultLatch at h
  exact Only.act (Only.mono (faultLatch_only _) rfl) h

theorem execFltInject_only (a : Access) (src : BitVec 7) (detail : BitVec 16) {s t : State} (h : execFltInject a
    src detail s = .next t) : Only [.live, .ports, .flt] s t := by
  unfold execFltInject at h
  exact Only.act (secureCmd_only _ _ _ rfl (fun _ => (Only.mono (fltInject_only _ _) rfl))) h

theorem execAliveToggle_only {s t : State} (h : execAliveToggle s = .next t) : Only [.flt] s t := by
  unfold execAliveToggle at h
  exact Only.act (Only.when (Only.refl _ _) _ _ (fun _ => (Only.mono (modFlt_only _ _) rfl))) h

theorem execAlertWriteResponse_only (ok : Bool) {s t : State} (h : execAlertWriteResponse ok s = .next t) : Only
    [.live, .ports, .flt] s t := by
  unfold execAlertWriteResponse at h
  split at h
  · exact Only.act (Only.refl _ _) h
  · exact Only.act (Only.via (Only.ite (Only.mono (modFlt_only _ _) rfl) (Only.via (Only.via (Only.mono (modFlt_only
        _ _) rfl) (bumpF_only _ _ _ _) rfl) (alertLost_only _ _) rfl)) (sendAlert_only _) rfl) h

theorem execIbiComplete_only {s t : State} (h : execIbiComplete s = .next t) : Only [.flt] s t := by
  unfold execIbiComplete at h
  exact Only.act (Only.mono (modFlt_only _ _) rfl) h

theorem execQuietPeriodEnd_only (d : Nat) {s t : State} (h : execQuietPeriodEnd d s = .next t) : Only [.late] s t
    := by
  unfold execQuietPeriodEnd at h
  exact Only.act (Only.mono (expire_only _ _) rfl) h

theorem execChipQuietEnd_only {s t : State} (h : execChipQuietEnd s = .next t) : Only [.late] s t := by
  unfold execChipQuietEnd at h
  exact Only.act (Only.mono (expire_only _ _) rfl) h

theorem execFltCmdRearm_only (a : Access) {s t : State} (h : execFltCmdRearm a s = .next t) : Only (unitsOff ++
    [.ports, .recov, .chans]) s t := by
  unfold execFltCmdRearm at h
  exact Only.act (secureCmd_only _ _ _ rfl (fun _ => (Only.mono (fltCommand_only _ _) rfl))) h

theorem execFltCmdClear_only (a : Access) (mask : BitVec 4) {s t : State} (h : execFltCmdClear a mask s = .next t)
    : Only (unitsOff ++ [.ports, .recov, .chans]) s t := by
  unfold execFltCmdClear at h
  exact Only.act (secureCmd_only _ _ _ rfl (fun _ => (Only.mono (fltCommand_only _ _) rfl))) h

theorem execFltCmdClearChip_only (a : Access) {s t : State} (h : execFltCmdClearChip a s = .next t) : Only
    (unitsOff ++ [.ports, .recov, .chans]) s t := by
  unfold execFltCmdClearChip at h
  exact Only.act (secureCmd_only _ _ _ rfl (fun _ => (Only.mono (fltCommand_only _ _) rfl))) h

theorem execFlashResetWaitEnd_only {s t : State} (h : execFlashResetWaitEnd s = .next t) : Only [.cal] s t := by
  unfold execFlashResetWaitEnd at h
  exact Only.act (Only.mono (modCal_only _ _) rfl) h

theorem execFlashJedecId_only (id : BitVec 24) {s t : State} (h : execFlashJedecId id s = .next t) : Only [.live,
    .flt, .cal] s t := by
  unfold execFlashJedecId at h
  exact Only.act (Only.mono (jedec_only _ _) rfl) h

theorem execFlashSfdpRead_only (info : SfdpInfo) {s t : State} (h : execFlashSfdpRead info s = .next t) : Only
    [.live, .flt, .cal] s t := by
  unfold execFlashSfdpRead at h
  exact Only.act (Only.ite (Only.mono (modCal_only _ _) rfl) (Only.mono (noPart_only _ _) rfl)) h

theorem execFlashScanDone_only (headers : List SectorHeader) (images : List SectorImage) {s t : State} (h :
    execFlashScanDone headers images s = .next t) : Only [.live, .flt, .cal] s t := by
  unfold execFlashScanDone at h
  exact Only.act (Only.mono (scanDone_only _ _ _) rfl) h

theorem execCalWriteRequest_only (typ : Nat) (key : Nat) {s t : State} (h : execCalWriteRequest typ key s = .next
    t) : Only [.live, .flt, .cal] s t := by
  unfold execCalWriteRequest at h
  exact Only.act (Only.via (Only.mono (modCal_only _ _) rfl) (blockWrite_only _ _ _) rfl) h

theorem execFlashProgramDone_only (report : ProgramReport) {s t : State} (h : execFlashProgramDone report s = .next
    t) : Only [.live, .flt, .boot, .cal] s t := by
  unfold execFlashProgramDone at h
  split at h
  · exact Only.act (Only.refl _ _) h
  · split at h
    · exact Only.act (Only.mono (modCal_only _ _) rfl) h
    · exact Only.act (Only.via (Only.mono (programFailed_only _ _) rfl) (stopCheck_only _) rfl) h
    · exact Only.act (Only.via (Only.ite (Only.mono (programDone_only _ _) rfl) (Only.mono (programFailed_only _ _)
          rfl)) (stopCheck_only _) rfl) h

theorem execFlashEraseDone_only (ok : Bool) {s t : State} (h : execFlashEraseDone ok s = .next t) : Only [.live,
    .flt, .boot, .cal] s t := by
  unfold execFlashEraseDone at h
  split at h
  · exact Only.act (Only.via (Only.ite (Only.mono (eraseDone_only _ _) rfl) (Only.mono (eraseFailed_only _ _) rfl))
        (stopCheck_only _) rfl) h
  · exact Only.act (Only.refl _ _) h

theorem execCalOpTimeout_only {s t : State} (h : execCalOpTimeout s = .next t) : Only [.late] s t := by
  unfold execCalOpTimeout at h
  exact Only.act (Only.mono (expire_only _ _) rfl) h

theorem execCalReclaim_only {s t : State} (h : execCalReclaim s = .next t) : Only [.live, .flt, .cal] s t := by
  unfold execCalReclaim at h
  split at h
  · exact Only.act (Only.via (Only.mono (modCal_only _ _) rfl) (calGo_only _) rfl) h
  · exact Only.act (Only.refl _ _) h

theorem execCalScrubDue_only (reads : List SectorImage) {s t : State} (h : execCalScrubDue reads s = .next t) :
    Only [.live, .flt, .cal] s t := by
  unfold execCalScrubDue at h
  exact Only.act (Only.mono (scrub_only _ _) rfl) h

theorem execCalStcmdSave_only (a : Access) (scope : BitVec 3) (key : BitVec 4) {s t : State} (h : execCalStcmdSave
    a scope key s = .next t) : Only [.live, .ports, .flt, .cal] s t := by
  unfold execCalStcmdSave at h
  exact Only.act (secureCmd_only _ _ _ rfl (fun _ => (Only.mono (stCommand_only _ _ _) rfl))) h

theorem execCalStcmdScrub_only (a : Access) (reads : List SectorImage) {s t : State} (h : execCalStcmdScrub a reads
    s = .next t) : Only [.live, .ports, .flt, .cal] s t := by
  unfold execCalStcmdScrub at h
  exact Only.act (secureCmd_only _ _ _ rfl (fun _ => (Only.mono (stCommand_only _ _ _) rfl))) h

theorem execCalStcmdTombstone_only (a : Access) (typ : BitVec 4) (key : BitVec 4) {s t : State} (h :
    execCalStcmdTombstone a typ key s = .next t) : Only [.live, .ports, .flt, .cal] s t := by
  unfold execCalStcmdTombstone at h
  exact Only.act (secureCmd_only _ _ _ rfl (fun _ => (Only.mono (stCommand_only _ _ _) rfl))) h

theorem execBootLoadDone_only {s t : State} (h : execBootLoadDone s = .next t) : Only [.shadow, .active, .live,
    .regs, .cells, .clus, .secs, .flt, .wears, .sparing, .tally, .mem, .chans, .adcs, .adcOwed, .quads, .therm,
    .plan, .boot, .cal] s t := by
  unfold execBootLoadDone at h
  exact Only.act (Only.via (Only.mono (loadRecords_only _) rfl) (checkStart_only _) rfl) h

theorem execGenBootcmdSafeProfile_only (a : Access) {s t : State} (h : execGenBootcmdSafeProfile a s = .next t) :
    Only (anywhere ++ [.late]) s t := by
  unfold execGenBootcmdSafeProfile at h
  exact Only.act (secureCmd_only _ _ _ rfl (fun _ => (Only.mono (bootCommand_only _ _) rfl))) h

theorem execGenBootcmdShutdown_only (a : Access) {s t : State} (h : execGenBootcmdShutdown a s = .next t) : Only
    (anywhere ++ [.late]) s t := by
  unfold execGenBootcmdShutdown at h
  exact Only.act (secureCmd_only _ _ _ rfl (fun _ => (Only.mono (bootCommand_only _ _) rfl))) h

theorem execGenBootcmdRestart_only (a : Access) {s t : State} (h : execGenBootcmdRestart a s = .next t) : Only
    (anywhere ++ [.late]) s t := by
  unfold execGenBootcmdRestart at h
  exact Only.act (secureCmd_only _ _ _ rfl (fun _ => (Only.mono (bootCommand_only _ _) rfl))) h

theorem execGenBootcmdWarmReset_only (a : Access) (key : Byte) {s t : State} (h : execGenBootcmdWarmReset a key s =
    .next t) : Only (anywhere ++ [.late]) s t := by
  unfold execGenBootcmdWarmReset at h
  exact Only.act (secureCmd_only _ _ _ rfl (fun _ => (Only.mono (bootCommand_only _ _) rfl))) h

theorem execBootSenseDone_only {s t : State} (h : execBootSenseDone s = .next t) : Only (unitsOff ++ [.ports,
    .recov, .chans]) s t := by
  unfold execBootSenseDone at h
  exact Only.act (Only.mono (enterPower_only _) rfl) h

theorem execBootSlotStart_only {s t : State} (h : execBootSlotStart s = .next t) : Only (unitsOff ++ [.ports,
    .recov, .chans]) s t := by
  unfold execBootSlotStart at h
  exact Only.act (Only.mono (runSlots_only _ _) rfl) h

theorem execShutdownDomainStop_only (d : Nat) {s t : State} (h : execShutdownDomainStop d s = .next t) : Only
    [.live, .secs, .trail, .stages, .blk, .lnk] s t := by
  unfold execShutdownDomainStop at h
  exact Only.act (Only.mono (stgStop_only _ _) rfl) h

theorem execShutdownTimeout_only {s t : State} (h : execShutdownTimeout s = .next t) : Only [.late] s t := by
  unfold execShutdownTimeout at h
  exact Only.act (Only.mono (expire_only _ _) rfl) h

theorem execLnkDiscPresent_only (a : Access) (g : BitVec 4) (cls : BitVec 2) {s t : State} (h : execLnkDiscPresent
    a g cls s = .next t) : Only [.live, .ports, .secs, .trail, .flt, .lnk] s t := by
  unfold execLnkDiscPresent at h
  exact Only.act (hostCmd_only _ _ _ rfl (fun _ => (Only.mono (linkReport_only _ _) rfl))) h

theorem execLnkDiscDone_only (a : Access) {s t : State} (h : execLnkDiscDone a s = .next t) : Only [.live, .ports,
    .secs, .trail, .flt, .lnk] s t := by
  unfold execLnkDiscDone at h
  exact Only.act (hostCmd_only _ _ _ rfl (fun _ => (Only.mono (linkReport_only _ _) rfl))) h

theorem execLnkDiscTimeout_only {s t : State} (h : execLnkDiscTimeout s = .next t) : Only [.late] s t := by
  unfold execLnkDiscTimeout at h
  exact Only.act (Only.mono (expire_only _ _) rfl) h

theorem execLnkUnplannedOff_only (g : Nat) {s t : State} (h : execLnkUnplannedOff g s = .next t) : Only [.live,
    .secs, .trail, .lnk] s t := by
  unfold execLnkUnplannedOff at h
  split at h
  · exact Only.act (Only.mono (setGroup_only _ _ _) rfl) h
  · exact Only.act (Only.refl _ _) h

theorem execLnkReqOn_only (a : Access) (g : BitVec 4) {s t : State} (h : execLnkReqOn a g s = .next t) : Only
    [.live, .ports, .secs, .trail, .lnk] s t := by
  unfold execLnkReqOn at h
  exact Only.act (hostCmd_only _ _ _ rfl (fun _ => (Only.mono (linkRequest_only _ _) rfl))) h

theorem execLnkReqOff_only (a : Access) (g : BitVec 4) {s t : State} (h : execLnkReqOff a g s = .next t) : Only
    [.live, .ports, .secs, .trail, .lnk] s t := by
  unfold execLnkReqOff at h
  exact Only.act (hostCmd_only _ _ _ rfl (fun _ => (Only.mono (linkRequest_only _ _) rfl))) h

theorem execI3cEnec_only (direct : Bool) (events : Byte) {s t : State} (h : execI3cEnec direct events s = .next t)
    : Only [.ports] s t := by
  unfold execI3cEnec at h
  exact Only.act (Only.mono (modI3c_only _ _) rfl) h

theorem execI3cDisec_only (direct : Bool) (events : Byte) {s t : State} (h : execI3cDisec direct events s = .next
    t) : Only [.ports] s t := by
  unfold execI3cDisec at h
  exact Only.act (Only.mono (modI3c_only _ _) rfl) h

theorem execI3cRstdaa_only {s t : State} (h : execI3cRstdaa s = .next t) : Only [.ports] s t := by
  unfold execI3cRstdaa at h
  exact Only.act (Only.mono (modI3c_only _ _) rfl) h

theorem execI3cEntdaa_only (addr : BitVec 7) {s t : State} (h : execI3cEntdaa addr s = .next t) : Only [.ports] s t
    := by
  unfold execI3cEntdaa at h
  exact Only.act (Only.mono (takeAddr_only _ _) rfl) h

theorem execI3cSetdasa_only (static : BitVec 7) (addr : BitVec 7) {s t : State} (h : execI3cSetdasa static addr s =
    .next t) : Only [.ports] s t := by
  unfold execI3cSetdasa at h
  exact Only.act (Only.mono (takeAddr_only _ _) rfl) h

theorem execI3cSetnewda_only (addr : BitVec 7) {s t : State} (h : execI3cSetnewda addr s = .next t) : Only [.ports]
    s t := by
  unfold execI3cSetnewda at h
  exact Only.act (Only.mono (takeAddr_only _ _) rfl) h

theorem execI3cSetmwl_only (len : BitVec 16) {s t : State} (h : execI3cSetmwl len s = .next t) : Only [.ports] s t
    := by
  unfold execI3cSetmwl at h
  exact Only.act (Only.mono (modI3c_only _ _) rfl) h

theorem execI3cGetmwl_only {s t : State} (h : execI3cGetmwl s = .next t) : Only [.ports] s t := by
  unfold execI3cGetmwl at h
  exact Only.act (Only.mono (answer_only _ _) rfl) h

theorem execI3cSetmrl_only (len : BitVec 16) {s t : State} (h : execI3cSetmrl len s = .next t) : Only [.ports] s t
    := by
  unfold execI3cSetmrl at h
  exact Only.act (Only.mono (modI3c_only _ _) rfl) h

theorem execI3cGetmrl_only {s t : State} (h : execI3cGetmrl s = .next t) : Only [.ports] s t := by
  unfold execI3cGetmrl at h
  exact Only.act (Only.mono (answer_only _ _) rfl) h

theorem execI3cGetpid_only {s t : State} (h : execI3cGetpid s = .next t) : Only [.ports] s t := by
  unfold execI3cGetpid at h
  exact Only.act (Only.mono (answer_only _ _) rfl) h

theorem execI3cGetbcr_only {s t : State} (h : execI3cGetbcr s = .next t) : Only [.ports] s t := by
  unfold execI3cGetbcr at h
  exact Only.act (Only.mono (answer_only _ _) rfl) h

theorem execI3cGetdcr_only {s t : State} (h : execI3cGetdcr s = .next t) : Only [.ports] s t := by
  unfold execI3cGetdcr at h
  exact Only.act (Only.mono (answer_only _ _) rfl) h

theorem execI3cGetstatus_only {s t : State} (h : execI3cGetstatus s = .next t) : Only [.ports] s t := by
  unfold execI3cGetstatus at h
  exact Only.act (Only.via (Only.mono (answer_only _ _) rfl) (modI3c_only _ _) rfl) h

theorem execI3cEnthdr_only {s t : State} (h : execI3cEnthdr s = .next t) : Only [.ports] s t := by
  unfold execI3cEnthdr at h
  exact Only.act (Only.mono (modI3c_only _ _) rfl) h

theorem execI3cHdrExit_only {s t : State} (h : execI3cHdrExit s = .next t) : Only [.ports] s t := by
  unfold execI3cHdrExit at h
  exact Only.act (Only.mono (modI3c_only _ _) rfl) h

theorem execI3cPrivateWrite_only (bytes : List Byte) {s t : State} (h : execI3cPrivateWrite bytes s = .next t) :
    Only (anywhere ++ [.late]) s t := by
  unfold execI3cPrivateWrite at h
  exact Only.act (Only.mono (privateWrite_only _ _) rfl) h

theorem execI3cReadHeader_only (bytes : List Byte) {s t : State} (h : execI3cReadHeader bytes s = .next t) : Only
    (anywhere ++ [.late]) s t := by
  unfold execI3cReadHeader at h
  exact Only.act (Only.mono (privateWrite_only _ _) rfl) h

theorem execI3cPrivateRead_only {s t : State} (h : execI3cPrivateRead s = .next t) : Only [.ports] s t := by
  unfold execI3cPrivateRead at h
  exact Only.act (Only.mono (privateRead_only _) rfl) h

theorem execI3cError_only (kind : I3cFault) {s t : State} (h : execI3cError kind s = .next t) : Only [.live,
    .ports, .flt] s t := by
  unfold execI3cError at h
  split at h
  · exact Only.act (Only.mono (targetError_only _ _) rfl) h
  · exact Only.act (Only.mono (i3cForm_only _) rfl) h
  · exact Only.act (Only.mono (respond_only _ _ _) rfl) h

theorem execTestLogicReset_only {s t : State} (h : execTestLogicReset s = .next t) : Only [.dbg, .rings] s t := by
  unfold execTestLogicReset at h
  exact Only.act (Only.mono (debugReset_only _) rfl) h

theorem execRailConverterResult_only (n : Nat) (raw : BitVec 12) {s t : State} (h : execRailConverterResult n raw s
    = .next t) : Only [.stages] s t := by
  unfold execRailConverterResult at h
  exact Only.act (Only.mono (railResult_only _ _ _ _) rfl) h

theorem execSequenceEntryStart_only (q : Nat) {s t : State} (h : execSequenceEntryStart q s = .next t) : Only
    [.quads] s t := by
  unfold execSequenceEntryStart at h
  exact Only.act (Only.mono (startEntry_only _ _) rfl) h

end Sys2Proof.Machine
end

