-- ==== Sys2Proof/Laws/State.lean ====
section
/-! SUPPORT. What each setter of the state changes and what it leaves, one lemma a field. -/

namespace Sys2Proof.Machine

@[simp] theorem State.setPower_params (s : State) (x : Bool) : (s.setPower x).params = s.params := rfl
@[simp] theorem State.setPower_powered (s : State) (x : Bool) : (s.setPower x).powered = x := rfl
@[simp] theorem State.setPower_tb (s : State) (x : Bool) : (s.setPower x).tb = s.tb := rfl
@[simp] theorem State.setPower_bridge (s : State) (x : Bool) : (s.setPower x).bridge = s.bridge := rfl
@[simp] theorem State.setPower_eng (s : State) (x : Bool) : (s.setPower x).eng = s.eng := rfl
@[simp] theorem State.setPower_regs (s : State) (x : Bool) : (s.setPower x).regs = s.regs := rfl
@[simp] theorem State.setPower_ports (s : State) (x : Bool) : (s.setPower x).ports = s.ports := rfl
@[simp] theorem State.setPower_dbg (s : State) (x : Bool) : (s.setPower x).dbg = s.dbg := rfl
@[simp] theorem State.setPower_cells (s : State) (x : Bool) : (s.setPower x).cells = s.cells := rfl
@[simp] theorem State.setPower_clus (s : State) (x : Bool) : (s.setPower x).clus = s.clus := rfl
@[simp] theorem State.setPower_secs (s : State) (x : Bool) : (s.setPower x).secs = s.secs := rfl
@[simp] theorem State.setPower_inrush (s : State) (x : Bool) : (s.setPower x).inrush = s.inrush := rfl
@[simp] theorem State.setPower_trail (s : State) (x : Bool) : (s.setPower x).trail = s.trail := rfl
@[simp] theorem State.setPower_flt (s : State) (x : Bool) : (s.setPower x).flt = s.flt := rfl
@[simp] theorem State.setPower_recov (s : State) (x : Bool) : (s.setPower x).recov = s.recov := rfl
@[simp] theorem State.setPower_rings (s : State) (x : Bool) : (s.setPower x).rings = s.rings := rfl
@[simp] theorem State.setPower_wears (s : State) (x : Bool) : (s.setPower x).wears = s.wears := rfl
@[simp] theorem State.setPower_sparing (s : State) (x : Bool) : (s.setPower x).sparing = s.sparing := rfl
@[simp] theorem State.setPower_tally (s : State) (x : Bool) : (s.setPower x).tally = s.tally := rfl
@[simp] theorem State.setPower_mem (s : State) (x : Bool) : (s.setPower x).mem = s.mem := rfl
@[simp] theorem State.setPower_stages (s : State) (x : Bool) : (s.setPower x).stages = s.stages := rfl
@[simp] theorem State.setPower_chans (s : State) (x : Bool) : (s.setPower x).chans = s.chans := rfl
@[simp] theorem State.setPower_adcs (s : State) (x : Bool) : (s.setPower x).adcs = s.adcs := rfl
@[simp] theorem State.setPower_adcOwed (s : State) (x : Bool) : (s.setPower x).adcOwed = s.adcOwed := rfl
@[simp] theorem State.setPower_late (s : State) (x : Bool) : (s.setPower x).late = s.late := rfl
@[simp] theorem State.setPower_quads (s : State) (x : Bool) : (s.setPower x).quads = s.quads := rfl
@[simp] theorem State.setPower_xchks (s : State) (x : Bool) : (s.setPower x).xchks = s.xchks := rfl
@[simp] theorem State.setPower_therm (s : State) (x : Bool) : (s.setPower x).therm = s.therm := rfl
@[simp] theorem State.setPower_cap (s : State) (x : Bool) : (s.setPower x).cap = s.cap := rfl
@[simp] theorem State.setPower_jobs (s : State) (x : Bool) : (s.setPower x).jobs = s.jobs := rfl
@[simp] theorem State.setPower_blk (s : State) (x : Bool) : (s.setPower x).blk = s.blk := rfl
@[simp] theorem State.setPower_plan (s : State) (x : Bool) : (s.setPower x).plan = s.plan := rfl
@[simp] theorem State.setPower_seat (s : State) (x : Bool) : (s.setPower x).seat = s.seat := rfl
@[simp] theorem State.setPower_lnk (s : State) (x : Bool) : (s.setPower x).lnk = s.lnk := rfl
@[simp] theorem State.setPower_boot (s : State) (x : Bool) : (s.setPower x).boot = s.boot := rfl
@[simp] theorem State.setPower_cal (s : State) (x : Bool) : (s.setPower x).cal = s.cal := rfl
@[simp] theorem State.setPower_pending (s : State) (x : Bool) : (s.setPower x).pending = s.pending := rfl
@[simp] theorem State.setTb_params (s : State) (x : TimeBase) : (s.setTb x).params = s.params := rfl
@[simp] theorem State.setTb_powered (s : State) (x : TimeBase) : (s.setTb x).powered = s.powered := rfl
@[simp] theorem State.setTb_tb (s : State) (x : TimeBase) : (s.setTb x).tb = x := rfl
@[simp] theorem State.setTb_bridge (s : State) (x : TimeBase) : (s.setTb x).bridge = s.bridge := rfl
@[simp] theorem State.setTb_eng (s : State) (x : TimeBase) : (s.setTb x).eng = s.eng := rfl
@[simp] theorem State.setTb_regs (s : State) (x : TimeBase) : (s.setTb x).regs = s.regs := rfl
@[simp] theorem State.setTb_ports (s : State) (x : TimeBase) : (s.setTb x).ports = s.ports := rfl
@[simp] theorem State.setTb_dbg (s : State) (x : TimeBase) : (s.setTb x).dbg = s.dbg := rfl
@[simp] theorem State.setTb_cells (s : State) (x : TimeBase) : (s.setTb x).cells = s.cells := rfl
@[simp] theorem State.setTb_clus (s : State) (x : TimeBase) : (s.setTb x).clus = s.clus := rfl
@[simp] theorem State.setTb_secs (s : State) (x : TimeBase) : (s.setTb x).secs = s.secs := rfl
@[simp] theorem State.setTb_inrush (s : State) (x : TimeBase) : (s.setTb x).inrush = s.inrush := rfl
@[simp] theorem State.setTb_trail (s : State) (x : TimeBase) : (s.setTb x).trail = s.trail := rfl
@[simp] theorem State.setTb_flt (s : State) (x : TimeBase) : (s.setTb x).flt = s.flt := rfl
@[simp] theorem State.setTb_recov (s : State) (x : TimeBase) : (s.setTb x).recov = s.recov := rfl
@[simp] theorem State.setTb_rings (s : State) (x : TimeBase) : (s.setTb x).rings = s.rings := rfl
@[simp] theorem State.setTb_wears (s : State) (x : TimeBase) : (s.setTb x).wears = s.wears := rfl
@[simp] theorem State.setTb_sparing (s : State) (x : TimeBase) : (s.setTb x).sparing = s.sparing := rfl
@[simp] theorem State.setTb_tally (s : State) (x : TimeBase) : (s.setTb x).tally = s.tally := rfl
@[simp] theorem State.setTb_mem (s : State) (x : TimeBase) : (s.setTb x).mem = s.mem := rfl
@[simp] theorem State.setTb_stages (s : State) (x : TimeBase) : (s.setTb x).stages = s.stages := rfl
@[simp] theorem State.setTb_chans (s : State) (x : TimeBase) : (s.setTb x).chans = s.chans := rfl
@[simp] theorem State.setTb_adcs (s : State) (x : TimeBase) : (s.setTb x).adcs = s.adcs := rfl
@[simp] theorem State.setTb_adcOwed (s : State) (x : TimeBase) : (s.setTb x).adcOwed = s.adcOwed := rfl
@[simp] theorem State.setTb_late (s : State) (x : TimeBase) : (s.setTb x).late = s.late := rfl
@[simp] theorem State.setTb_quads (s : State) (x : TimeBase) : (s.setTb x).quads = s.quads := rfl
@[simp] theorem State.setTb_xchks (s : State) (x : TimeBase) : (s.setTb x).xchks = s.xchks := rfl
@[simp] theorem State.setTb_therm (s : State) (x : TimeBase) : (s.setTb x).therm = s.therm := rfl
@[simp] theorem State.setTb_cap (s : State) (x : TimeBase) : (s.setTb x).cap = s.cap := rfl
@[simp] theorem State.setTb_jobs (s : State) (x : TimeBase) : (s.setTb x).jobs = s.jobs := rfl
@[simp] theorem State.setTb_blk (s : State) (x : TimeBase) : (s.setTb x).blk = s.blk := rfl
@[simp] theorem State.setTb_plan (s : State) (x : TimeBase) : (s.setTb x).plan = s.plan := rfl
@[simp] theorem State.setTb_seat (s : State) (x : TimeBase) : (s.setTb x).seat = s.seat := rfl
@[simp] theorem State.setTb_lnk (s : State) (x : TimeBase) : (s.setTb x).lnk = s.lnk := rfl
@[simp] theorem State.setTb_boot (s : State) (x : TimeBase) : (s.setTb x).boot = s.boot := rfl
@[simp] theorem State.setTb_cal (s : State) (x : TimeBase) : (s.setTb x).cal = s.cal := rfl
@[simp] theorem State.setTb_pending (s : State) (x : TimeBase) : (s.setTb x).pending = s.pending := rfl
@[simp] theorem State.setBridge_params (s : State) (x : Bridge) : (s.setBridge x).params = s.params := rfl
@[simp] theorem State.setBridge_powered (s : State) (x : Bridge) : (s.setBridge x).powered = s.powered := rfl
@[simp] theorem State.setBridge_tb (s : State) (x : Bridge) : (s.setBridge x).tb = s.tb := rfl
@[simp] theorem State.setBridge_bridge (s : State) (x : Bridge) : (s.setBridge x).bridge = x := rfl
@[simp] theorem State.setBridge_eng (s : State) (x : Bridge) : (s.setBridge x).eng = s.eng := rfl
@[simp] theorem State.setBridge_regs (s : State) (x : Bridge) : (s.setBridge x).regs = s.regs := rfl
@[simp] theorem State.setBridge_ports (s : State) (x : Bridge) : (s.setBridge x).ports = s.ports := rfl
@[simp] theorem State.setBridge_dbg (s : State) (x : Bridge) : (s.setBridge x).dbg = s.dbg := rfl
@[simp] theorem State.setBridge_cells (s : State) (x : Bridge) : (s.setBridge x).cells = s.cells := rfl
@[simp] theorem State.setBridge_clus (s : State) (x : Bridge) : (s.setBridge x).clus = s.clus := rfl
@[simp] theorem State.setBridge_secs (s : State) (x : Bridge) : (s.setBridge x).secs = s.secs := rfl
@[simp] theorem State.setBridge_inrush (s : State) (x : Bridge) : (s.setBridge x).inrush = s.inrush := rfl
@[simp] theorem State.setBridge_trail (s : State) (x : Bridge) : (s.setBridge x).trail = s.trail := rfl
@[simp] theorem State.setBridge_flt (s : State) (x : Bridge) : (s.setBridge x).flt = s.flt := rfl
@[simp] theorem State.setBridge_recov (s : State) (x : Bridge) : (s.setBridge x).recov = s.recov := rfl
@[simp] theorem State.setBridge_rings (s : State) (x : Bridge) : (s.setBridge x).rings = s.rings := rfl
@[simp] theorem State.setBridge_wears (s : State) (x : Bridge) : (s.setBridge x).wears = s.wears := rfl
@[simp] theorem State.setBridge_sparing (s : State) (x : Bridge) : (s.setBridge x).sparing = s.sparing := rfl
@[simp] theorem State.setBridge_tally (s : State) (x : Bridge) : (s.setBridge x).tally = s.tally := rfl
@[simp] theorem State.setBridge_mem (s : State) (x : Bridge) : (s.setBridge x).mem = s.mem := rfl
@[simp] theorem State.setBridge_stages (s : State) (x : Bridge) : (s.setBridge x).stages = s.stages := rfl
@[simp] theorem State.setBridge_chans (s : State) (x : Bridge) : (s.setBridge x).chans = s.chans := rfl
@[simp] theorem State.setBridge_adcs (s : State) (x : Bridge) : (s.setBridge x).adcs = s.adcs := rfl
@[simp] theorem State.setBridge_adcOwed (s : State) (x : Bridge) : (s.setBridge x).adcOwed = s.adcOwed := rfl
@[simp] theorem State.setBridge_late (s : State) (x : Bridge) : (s.setBridge x).late = s.late := rfl
@[simp] theorem State.setBridge_quads (s : State) (x : Bridge) : (s.setBridge x).quads = s.quads := rfl
@[simp] theorem State.setBridge_xchks (s : State) (x : Bridge) : (s.setBridge x).xchks = s.xchks := rfl
@[simp] theorem State.setBridge_therm (s : State) (x : Bridge) : (s.setBridge x).therm = s.therm := rfl
@[simp] theorem State.setBridge_cap (s : State) (x : Bridge) : (s.setBridge x).cap = s.cap := rfl
@[simp] theorem State.setBridge_jobs (s : State) (x : Bridge) : (s.setBridge x).jobs = s.jobs := rfl
@[simp] theorem State.setBridge_blk (s : State) (x : Bridge) : (s.setBridge x).blk = s.blk := rfl
@[simp] theorem State.setBridge_plan (s : State) (x : Bridge) : (s.setBridge x).plan = s.plan := rfl
@[simp] theorem State.setBridge_seat (s : State) (x : Bridge) : (s.setBridge x).seat = s.seat := rfl
@[simp] theorem State.setBridge_lnk (s : State) (x : Bridge) : (s.setBridge x).lnk = s.lnk := rfl
@[simp] theorem State.setBridge_boot (s : State) (x : Bridge) : (s.setBridge x).boot = s.boot := rfl
@[simp] theorem State.setBridge_cal (s : State) (x : Bridge) : (s.setBridge x).cal = s.cal := rfl
@[simp] theorem State.setBridge_pending (s : State) (x : Bridge) : (s.setBridge x).pending = s.pending := rfl
@[simp] theorem State.setEngs_params (s : State) (x : Store EngRun) : (s.setEngs x).params = s.params := rfl
@[simp] theorem State.setEngs_powered (s : State) (x : Store EngRun) : (s.setEngs x).powered = s.powered := rfl
@[simp] theorem State.setEngs_tb (s : State) (x : Store EngRun) : (s.setEngs x).tb = s.tb := rfl
@[simp] theorem State.setEngs_bridge (s : State) (x : Store EngRun) : (s.setEngs x).bridge = s.bridge := rfl
@[simp] theorem State.setEngs_eng (s : State) (x : Store EngRun) : (s.setEngs x).eng = x := rfl
@[simp] theorem State.setEngs_regs (s : State) (x : Store EngRun) : (s.setEngs x).regs = s.regs := rfl
@[simp] theorem State.setEngs_ports (s : State) (x : Store EngRun) : (s.setEngs x).ports = s.ports := rfl
@[simp] theorem State.setEngs_dbg (s : State) (x : Store EngRun) : (s.setEngs x).dbg = s.dbg := rfl
@[simp] theorem State.setEngs_cells (s : State) (x : Store EngRun) : (s.setEngs x).cells = s.cells := rfl
@[simp] theorem State.setEngs_clus (s : State) (x : Store EngRun) : (s.setEngs x).clus = s.clus := rfl
@[simp] theorem State.setEngs_secs (s : State) (x : Store EngRun) : (s.setEngs x).secs = s.secs := rfl
@[simp] theorem State.setEngs_inrush (s : State) (x : Store EngRun) : (s.setEngs x).inrush = s.inrush := rfl
@[simp] theorem State.setEngs_trail (s : State) (x : Store EngRun) : (s.setEngs x).trail = s.trail := rfl
@[simp] theorem State.setEngs_flt (s : State) (x : Store EngRun) : (s.setEngs x).flt = s.flt := rfl
@[simp] theorem State.setEngs_recov (s : State) (x : Store EngRun) : (s.setEngs x).recov = s.recov := rfl
@[simp] theorem State.setEngs_rings (s : State) (x : Store EngRun) : (s.setEngs x).rings = s.rings := rfl
@[simp] theorem State.setEngs_wears (s : State) (x : Store EngRun) : (s.setEngs x).wears = s.wears := rfl
@[simp] theorem State.setEngs_sparing (s : State) (x : Store EngRun) : (s.setEngs x).sparing = s.sparing := rfl
@[simp] theorem State.setEngs_tally (s : State) (x : Store EngRun) : (s.setEngs x).tally = s.tally := rfl
@[simp] theorem State.setEngs_mem (s : State) (x : Store EngRun) : (s.setEngs x).mem = s.mem := rfl
@[simp] theorem State.setEngs_stages (s : State) (x : Store EngRun) : (s.setEngs x).stages = s.stages := rfl
@[simp] theorem State.setEngs_chans (s : State) (x : Store EngRun) : (s.setEngs x).chans = s.chans := rfl
@[simp] theorem State.setEngs_adcs (s : State) (x : Store EngRun) : (s.setEngs x).adcs = s.adcs := rfl
@[simp] theorem State.setEngs_adcOwed (s : State) (x : Store EngRun) : (s.setEngs x).adcOwed = s.adcOwed := rfl
@[simp] theorem State.setEngs_late (s : State) (x : Store EngRun) : (s.setEngs x).late = s.late := rfl
@[simp] theorem State.setEngs_quads (s : State) (x : Store EngRun) : (s.setEngs x).quads = s.quads := rfl
@[simp] theorem State.setEngs_xchks (s : State) (x : Store EngRun) : (s.setEngs x).xchks = s.xchks := rfl
@[simp] theorem State.setEngs_therm (s : State) (x : Store EngRun) : (s.setEngs x).therm = s.therm := rfl
@[simp] theorem State.setEngs_cap (s : State) (x : Store EngRun) : (s.setEngs x).cap = s.cap := rfl
@[simp] theorem State.setEngs_jobs (s : State) (x : Store EngRun) : (s.setEngs x).jobs = s.jobs := rfl
@[simp] theorem State.setEngs_blk (s : State) (x : Store EngRun) : (s.setEngs x).blk = s.blk := rfl
@[simp] theorem State.setEngs_plan (s : State) (x : Store EngRun) : (s.setEngs x).plan = s.plan := rfl
@[simp] theorem State.setEngs_seat (s : State) (x : Store EngRun) : (s.setEngs x).seat = s.seat := rfl
@[simp] theorem State.setEngs_lnk (s : State) (x : Store EngRun) : (s.setEngs x).lnk = s.lnk := rfl
@[simp] theorem State.setEngs_boot (s : State) (x : Store EngRun) : (s.setEngs x).boot = s.boot := rfl
@[simp] theorem State.setEngs_cal (s : State) (x : Store EngRun) : (s.setEngs x).cal = s.cal := rfl
@[simp] theorem State.setEngs_pending (s : State) (x : Store EngRun) : (s.setEngs x).pending = s.pending := rfl
@[simp] theorem State.setRegs_params (s : State) (x : Regs) : (s.setRegs x).params = s.params := rfl
@[simp] theorem State.setRegs_powered (s : State) (x : Regs) : (s.setRegs x).powered = s.powered := rfl
@[simp] theorem State.setRegs_tb (s : State) (x : Regs) : (s.setRegs x).tb = s.tb := rfl
@[simp] theorem State.setRegs_bridge (s : State) (x : Regs) : (s.setRegs x).bridge = s.bridge := rfl
@[simp] theorem State.setRegs_eng (s : State) (x : Regs) : (s.setRegs x).eng = s.eng := rfl
@[simp] theorem State.setRegs_regs (s : State) (x : Regs) : (s.setRegs x).regs = x := rfl
@[simp] theorem State.setRegs_ports (s : State) (x : Regs) : (s.setRegs x).ports = s.ports := rfl
@[simp] theorem State.setRegs_dbg (s : State) (x : Regs) : (s.setRegs x).dbg = s.dbg := rfl
@[simp] theorem State.setRegs_cells (s : State) (x : Regs) : (s.setRegs x).cells = s.cells := rfl
@[simp] theorem State.setRegs_clus (s : State) (x : Regs) : (s.setRegs x).clus = s.clus := rfl
@[simp] theorem State.setRegs_secs (s : State) (x : Regs) : (s.setRegs x).secs = s.secs := rfl
@[simp] theorem State.setRegs_inrush (s : State) (x : Regs) : (s.setRegs x).inrush = s.inrush := rfl
@[simp] theorem State.setRegs_trail (s : State) (x : Regs) : (s.setRegs x).trail = s.trail := rfl
@[simp] theorem State.setRegs_flt (s : State) (x : Regs) : (s.setRegs x).flt = s.flt := rfl
@[simp] theorem State.setRegs_recov (s : State) (x : Regs) : (s.setRegs x).recov = s.recov := rfl
@[simp] theorem State.setRegs_rings (s : State) (x : Regs) : (s.setRegs x).rings = s.rings := rfl
@[simp] theorem State.setRegs_wears (s : State) (x : Regs) : (s.setRegs x).wears = s.wears := rfl
@[simp] theorem State.setRegs_sparing (s : State) (x : Regs) : (s.setRegs x).sparing = s.sparing := rfl
@[simp] theorem State.setRegs_tally (s : State) (x : Regs) : (s.setRegs x).tally = s.tally := rfl
@[simp] theorem State.setRegs_mem (s : State) (x : Regs) : (s.setRegs x).mem = s.mem := rfl
@[simp] theorem State.setRegs_stages (s : State) (x : Regs) : (s.setRegs x).stages = s.stages := rfl
@[simp] theorem State.setRegs_chans (s : State) (x : Regs) : (s.setRegs x).chans = s.chans := rfl
@[simp] theorem State.setRegs_adcs (s : State) (x : Regs) : (s.setRegs x).adcs = s.adcs := rfl
@[simp] theorem State.setRegs_adcOwed (s : State) (x : Regs) : (s.setRegs x).adcOwed = s.adcOwed := rfl
@[simp] theorem State.setRegs_late (s : State) (x : Regs) : (s.setRegs x).late = s.late := rfl
@[simp] theorem State.setRegs_quads (s : State) (x : Regs) : (s.setRegs x).quads = s.quads := rfl
@[simp] theorem State.setRegs_xchks (s : State) (x : Regs) : (s.setRegs x).xchks = s.xchks := rfl
@[simp] theorem State.setRegs_therm (s : State) (x : Regs) : (s.setRegs x).therm = s.therm := rfl
@[simp] theorem State.setRegs_cap (s : State) (x : Regs) : (s.setRegs x).cap = s.cap := rfl
@[simp] theorem State.setRegs_jobs (s : State) (x : Regs) : (s.setRegs x).jobs = s.jobs := rfl
@[simp] theorem State.setRegs_blk (s : State) (x : Regs) : (s.setRegs x).blk = s.blk := rfl
@[simp] theorem State.setRegs_plan (s : State) (x : Regs) : (s.setRegs x).plan = s.plan := rfl
@[simp] theorem State.setRegs_seat (s : State) (x : Regs) : (s.setRegs x).seat = s.seat := rfl
@[simp] theorem State.setRegs_lnk (s : State) (x : Regs) : (s.setRegs x).lnk = s.lnk := rfl
@[simp] theorem State.setRegs_boot (s : State) (x : Regs) : (s.setRegs x).boot = s.boot := rfl
@[simp] theorem State.setRegs_cal (s : State) (x : Regs) : (s.setRegs x).cal = s.cal := rfl
@[simp] theorem State.setRegs_pending (s : State) (x : Regs) : (s.setRegs x).pending = s.pending := rfl
@[simp] theorem State.setPorts_params (s : State) (x : HostPorts) : (s.setPorts x).params = s.params := rfl
@[simp] theorem State.setPorts_powered (s : State) (x : HostPorts) : (s.setPorts x).powered = s.powered := rfl
@[simp] theorem State.setPorts_tb (s : State) (x : HostPorts) : (s.setPorts x).tb = s.tb := rfl
@[simp] theorem State.setPorts_bridge (s : State) (x : HostPorts) : (s.setPorts x).bridge = s.bridge := rfl
@[simp] theorem State.setPorts_eng (s : State) (x : HostPorts) : (s.setPorts x).eng = s.eng := rfl
@[simp] theorem State.setPorts_regs (s : State) (x : HostPorts) : (s.setPorts x).regs = s.regs := rfl
@[simp] theorem State.setPorts_ports (s : State) (x : HostPorts) : (s.setPorts x).ports = x := rfl
@[simp] theorem State.setPorts_dbg (s : State) (x : HostPorts) : (s.setPorts x).dbg = s.dbg := rfl
@[simp] theorem State.setPorts_cells (s : State) (x : HostPorts) : (s.setPorts x).cells = s.cells := rfl
@[simp] theorem State.setPorts_clus (s : State) (x : HostPorts) : (s.setPorts x).clus = s.clus := rfl
@[simp] theorem State.setPorts_secs (s : State) (x : HostPorts) : (s.setPorts x).secs = s.secs := rfl
@[simp] theorem State.setPorts_inrush (s : State) (x : HostPorts) : (s.setPorts x).inrush = s.inrush := rfl
@[simp] theorem State.setPorts_trail (s : State) (x : HostPorts) : (s.setPorts x).trail = s.trail := rfl
@[simp] theorem State.setPorts_flt (s : State) (x : HostPorts) : (s.setPorts x).flt = s.flt := rfl
@[simp] theorem State.setPorts_recov (s : State) (x : HostPorts) : (s.setPorts x).recov = s.recov := rfl
@[simp] theorem State.setPorts_rings (s : State) (x : HostPorts) : (s.setPorts x).rings = s.rings := rfl
@[simp] theorem State.setPorts_wears (s : State) (x : HostPorts) : (s.setPorts x).wears = s.wears := rfl
@[simp] theorem State.setPorts_sparing (s : State) (x : HostPorts) : (s.setPorts x).sparing = s.sparing := rfl
@[simp] theorem State.setPorts_tally (s : State) (x : HostPorts) : (s.setPorts x).tally = s.tally := rfl
@[simp] theorem State.setPorts_mem (s : State) (x : HostPorts) : (s.setPorts x).mem = s.mem := rfl
@[simp] theorem State.setPorts_stages (s : State) (x : HostPorts) : (s.setPorts x).stages = s.stages := rfl
@[simp] theorem State.setPorts_chans (s : State) (x : HostPorts) : (s.setPorts x).chans = s.chans := rfl
@[simp] theorem State.setPorts_adcs (s : State) (x : HostPorts) : (s.setPorts x).adcs = s.adcs := rfl
@[simp] theorem State.setPorts_adcOwed (s : State) (x : HostPorts) : (s.setPorts x).adcOwed = s.adcOwed := rfl
@[simp] theorem State.setPorts_late (s : State) (x : HostPorts) : (s.setPorts x).late = s.late := rfl
@[simp] theorem State.setPorts_quads (s : State) (x : HostPorts) : (s.setPorts x).quads = s.quads := rfl
@[simp] theorem State.setPorts_xchks (s : State) (x : HostPorts) : (s.setPorts x).xchks = s.xchks := rfl
@[simp] theorem State.setPorts_therm (s : State) (x : HostPorts) : (s.setPorts x).therm = s.therm := rfl
@[simp] theorem State.setPorts_cap (s : State) (x : HostPorts) : (s.setPorts x).cap = s.cap := rfl
@[simp] theorem State.setPorts_jobs (s : State) (x : HostPorts) : (s.setPorts x).jobs = s.jobs := rfl
@[simp] theorem State.setPorts_blk (s : State) (x : HostPorts) : (s.setPorts x).blk = s.blk := rfl
@[simp] theorem State.setPorts_plan (s : State) (x : HostPorts) : (s.setPorts x).plan = s.plan := rfl
@[simp] theorem State.setPorts_seat (s : State) (x : HostPorts) : (s.setPorts x).seat = s.seat := rfl
@[simp] theorem State.setPorts_lnk (s : State) (x : HostPorts) : (s.setPorts x).lnk = s.lnk := rfl
@[simp] theorem State.setPorts_boot (s : State) (x : HostPorts) : (s.setPorts x).boot = s.boot := rfl
@[simp] theorem State.setPorts_cal (s : State) (x : HostPorts) : (s.setPorts x).cal = s.cal := rfl
@[simp] theorem State.setPorts_pending (s : State) (x : HostPorts) : (s.setPorts x).pending = s.pending := rfl
@[simp] theorem State.setDbg_params (s : State) (x : Debug) : (s.setDbg x).params = s.params := rfl
@[simp] theorem State.setDbg_powered (s : State) (x : Debug) : (s.setDbg x).powered = s.powered := rfl
@[simp] theorem State.setDbg_tb (s : State) (x : Debug) : (s.setDbg x).tb = s.tb := rfl
@[simp] theorem State.setDbg_bridge (s : State) (x : Debug) : (s.setDbg x).bridge = s.bridge := rfl
@[simp] theorem State.setDbg_eng (s : State) (x : Debug) : (s.setDbg x).eng = s.eng := rfl
@[simp] theorem State.setDbg_regs (s : State) (x : Debug) : (s.setDbg x).regs = s.regs := rfl
@[simp] theorem State.setDbg_ports (s : State) (x : Debug) : (s.setDbg x).ports = s.ports := rfl
@[simp] theorem State.setDbg_dbg (s : State) (x : Debug) : (s.setDbg x).dbg = x := rfl
@[simp] theorem State.setDbg_cells (s : State) (x : Debug) : (s.setDbg x).cells = s.cells := rfl
@[simp] theorem State.setDbg_clus (s : State) (x : Debug) : (s.setDbg x).clus = s.clus := rfl
@[simp] theorem State.setDbg_secs (s : State) (x : Debug) : (s.setDbg x).secs = s.secs := rfl
@[simp] theorem State.setDbg_inrush (s : State) (x : Debug) : (s.setDbg x).inrush = s.inrush := rfl
@[simp] theorem State.setDbg_trail (s : State) (x : Debug) : (s.setDbg x).trail = s.trail := rfl
@[simp] theorem State.setDbg_flt (s : State) (x : Debug) : (s.setDbg x).flt = s.flt := rfl
@[simp] theorem State.setDbg_recov (s : State) (x : Debug) : (s.setDbg x).recov = s.recov := rfl
@[simp] theorem State.setDbg_rings (s : State) (x : Debug) : (s.setDbg x).rings = s.rings := rfl
@[simp] theorem State.setDbg_wears (s : State) (x : Debug) : (s.setDbg x).wears = s.wears := rfl
@[simp] theorem State.setDbg_sparing (s : State) (x : Debug) : (s.setDbg x).sparing = s.sparing := rfl
@[simp] theorem State.setDbg_tally (s : State) (x : Debug) : (s.setDbg x).tally = s.tally := rfl
@[simp] theorem State.setDbg_mem (s : State) (x : Debug) : (s.setDbg x).mem = s.mem := rfl
@[simp] theorem State.setDbg_stages (s : State) (x : Debug) : (s.setDbg x).stages = s.stages := rfl
@[simp] theorem State.setDbg_chans (s : State) (x : Debug) : (s.setDbg x).chans = s.chans := rfl
@[simp] theorem State.setDbg_adcs (s : State) (x : Debug) : (s.setDbg x).adcs = s.adcs := rfl
@[simp] theorem State.setDbg_adcOwed (s : State) (x : Debug) : (s.setDbg x).adcOwed = s.adcOwed := rfl
@[simp] theorem State.setDbg_late (s : State) (x : Debug) : (s.setDbg x).late = s.late := rfl
@[simp] theorem State.setDbg_quads (s : State) (x : Debug) : (s.setDbg x).quads = s.quads := rfl
@[simp] theorem State.setDbg_xchks (s : State) (x : Debug) : (s.setDbg x).xchks = s.xchks := rfl
@[simp] theorem State.setDbg_therm (s : State) (x : Debug) : (s.setDbg x).therm = s.therm := rfl
@[simp] theorem State.setDbg_cap (s : State) (x : Debug) : (s.setDbg x).cap = s.cap := rfl
@[simp] theorem State.setDbg_jobs (s : State) (x : Debug) : (s.setDbg x).jobs = s.jobs := rfl
@[simp] theorem State.setDbg_blk (s : State) (x : Debug) : (s.setDbg x).blk = s.blk := rfl
@[simp] theorem State.setDbg_plan (s : State) (x : Debug) : (s.setDbg x).plan = s.plan := rfl
@[simp] theorem State.setDbg_seat (s : State) (x : Debug) : (s.setDbg x).seat = s.seat := rfl
@[simp] theorem State.setDbg_lnk (s : State) (x : Debug) : (s.setDbg x).lnk = s.lnk := rfl
@[simp] theorem State.setDbg_boot (s : State) (x : Debug) : (s.setDbg x).boot = s.boot := rfl
@[simp] theorem State.setDbg_cal (s : State) (x : Debug) : (s.setDbg x).cal = s.cal := rfl
@[simp] theorem State.setDbg_pending (s : State) (x : Debug) : (s.setDbg x).pending = s.pending := rfl
@[simp] theorem State.setCells_params (s : State) (x : Store Cell) : (s.setCells x).params = s.params := rfl
@[simp] theorem State.setCells_powered (s : State) (x : Store Cell) : (s.setCells x).powered = s.powered := rfl
@[simp] theorem State.setCells_tb (s : State) (x : Store Cell) : (s.setCells x).tb = s.tb := rfl
@[simp] theorem State.setCells_bridge (s : State) (x : Store Cell) : (s.setCells x).bridge = s.bridge := rfl
@[simp] theorem State.setCells_eng (s : State) (x : Store Cell) : (s.setCells x).eng = s.eng := rfl
@[simp] theorem State.setCells_regs (s : State) (x : Store Cell) : (s.setCells x).regs = s.regs := rfl
@[simp] theorem State.setCells_ports (s : State) (x : Store Cell) : (s.setCells x).ports = s.ports := rfl
@[simp] theorem State.setCells_dbg (s : State) (x : Store Cell) : (s.setCells x).dbg = s.dbg := rfl
@[simp] theorem State.setCells_cells (s : State) (x : Store Cell) : (s.setCells x).cells = x := rfl
@[simp] theorem State.setCells_clus (s : State) (x : Store Cell) : (s.setCells x).clus = s.clus := rfl
@[simp] theorem State.setCells_secs (s : State) (x : Store Cell) : (s.setCells x).secs = s.secs := rfl
@[simp] theorem State.setCells_inrush (s : State) (x : Store Cell) : (s.setCells x).inrush = s.inrush := rfl
@[simp] theorem State.setCells_trail (s : State) (x : Store Cell) : (s.setCells x).trail = s.trail := rfl
@[simp] theorem State.setCells_flt (s : State) (x : Store Cell) : (s.setCells x).flt = s.flt := rfl
@[simp] theorem State.setCells_recov (s : State) (x : Store Cell) : (s.setCells x).recov = s.recov := rfl
@[simp] theorem State.setCells_rings (s : State) (x : Store Cell) : (s.setCells x).rings = s.rings := rfl
@[simp] theorem State.setCells_wears (s : State) (x : Store Cell) : (s.setCells x).wears = s.wears := rfl
@[simp] theorem State.setCells_sparing (s : State) (x : Store Cell) : (s.setCells x).sparing = s.sparing := rfl
@[simp] theorem State.setCells_tally (s : State) (x : Store Cell) : (s.setCells x).tally = s.tally := rfl
@[simp] theorem State.setCells_mem (s : State) (x : Store Cell) : (s.setCells x).mem = s.mem := rfl
@[simp] theorem State.setCells_stages (s : State) (x : Store Cell) : (s.setCells x).stages = s.stages := rfl
@[simp] theorem State.setCells_chans (s : State) (x : Store Cell) : (s.setCells x).chans = s.chans := rfl
@[simp] theorem State.setCells_adcs (s : State) (x : Store Cell) : (s.setCells x).adcs = s.adcs := rfl
@[simp] theorem State.setCells_adcOwed (s : State) (x : Store Cell) : (s.setCells x).adcOwed = s.adcOwed := rfl
@[simp] theorem State.setCells_late (s : State) (x : Store Cell) : (s.setCells x).late = s.late := rfl
@[simp] theorem State.setCells_quads (s : State) (x : Store Cell) : (s.setCells x).quads = s.quads := rfl
@[simp] theorem State.setCells_xchks (s : State) (x : Store Cell) : (s.setCells x).xchks = s.xchks := rfl
@[simp] theorem State.setCells_therm (s : State) (x : Store Cell) : (s.setCells x).therm = s.therm := rfl
@[simp] theorem State.setCells_cap (s : State) (x : Store Cell) : (s.setCells x).cap = s.cap := rfl
@[simp] theorem State.setCells_jobs (s : State) (x : Store Cell) : (s.setCells x).jobs = s.jobs := rfl
@[simp] theorem State.setCells_blk (s : State) (x : Store Cell) : (s.setCells x).blk = s.blk := rfl
@[simp] theorem State.setCells_plan (s : State) (x : Store Cell) : (s.setCells x).plan = s.plan := rfl
@[simp] theorem State.setCells_seat (s : State) (x : Store Cell) : (s.setCells x).seat = s.seat := rfl
@[simp] theorem State.setCells_lnk (s : State) (x : Store Cell) : (s.setCells x).lnk = s.lnk := rfl
@[simp] theorem State.setCells_boot (s : State) (x : Store Cell) : (s.setCells x).boot = s.boot := rfl
@[simp] theorem State.setCells_cal (s : State) (x : Store Cell) : (s.setCells x).cal = s.cal := rfl
@[simp] theorem State.setCells_pending (s : State) (x : Store Cell) : (s.setCells x).pending = s.pending := rfl
@[simp] theorem State.setClus_params (s : State) (x : Store Cluster) : (s.setClus x).params = s.params := rfl
@[simp] theorem State.setClus_powered (s : State) (x : Store Cluster) : (s.setClus x).powered = s.powered := rfl
@[simp] theorem State.setClus_tb (s : State) (x : Store Cluster) : (s.setClus x).tb = s.tb := rfl
@[simp] theorem State.setClus_bridge (s : State) (x : Store Cluster) : (s.setClus x).bridge = s.bridge := rfl
@[simp] theorem State.setClus_eng (s : State) (x : Store Cluster) : (s.setClus x).eng = s.eng := rfl
@[simp] theorem State.setClus_regs (s : State) (x : Store Cluster) : (s.setClus x).regs = s.regs := rfl
@[simp] theorem State.setClus_ports (s : State) (x : Store Cluster) : (s.setClus x).ports = s.ports := rfl
@[simp] theorem State.setClus_dbg (s : State) (x : Store Cluster) : (s.setClus x).dbg = s.dbg := rfl
@[simp] theorem State.setClus_cells (s : State) (x : Store Cluster) : (s.setClus x).cells = s.cells := rfl
@[simp] theorem State.setClus_clus (s : State) (x : Store Cluster) : (s.setClus x).clus = x := rfl
@[simp] theorem State.setClus_secs (s : State) (x : Store Cluster) : (s.setClus x).secs = s.secs := rfl
@[simp] theorem State.setClus_inrush (s : State) (x : Store Cluster) : (s.setClus x).inrush = s.inrush := rfl
@[simp] theorem State.setClus_trail (s : State) (x : Store Cluster) : (s.setClus x).trail = s.trail := rfl
@[simp] theorem State.setClus_flt (s : State) (x : Store Cluster) : (s.setClus x).flt = s.flt := rfl
@[simp] theorem State.setClus_recov (s : State) (x : Store Cluster) : (s.setClus x).recov = s.recov := rfl
@[simp] theorem State.setClus_rings (s : State) (x : Store Cluster) : (s.setClus x).rings = s.rings := rfl
@[simp] theorem State.setClus_wears (s : State) (x : Store Cluster) : (s.setClus x).wears = s.wears := rfl
@[simp] theorem State.setClus_sparing (s : State) (x : Store Cluster) : (s.setClus x).sparing = s.sparing := rfl
@[simp] theorem State.setClus_tally (s : State) (x : Store Cluster) : (s.setClus x).tally = s.tally := rfl
@[simp] theorem State.setClus_mem (s : State) (x : Store Cluster) : (s.setClus x).mem = s.mem := rfl
@[simp] theorem State.setClus_stages (s : State) (x : Store Cluster) : (s.setClus x).stages = s.stages := rfl
@[simp] theorem State.setClus_chans (s : State) (x : Store Cluster) : (s.setClus x).chans = s.chans := rfl
@[simp] theorem State.setClus_adcs (s : State) (x : Store Cluster) : (s.setClus x).adcs = s.adcs := rfl
@[simp] theorem State.setClus_adcOwed (s : State) (x : Store Cluster) : (s.setClus x).adcOwed = s.adcOwed := rfl
@[simp] theorem State.setClus_late (s : State) (x : Store Cluster) : (s.setClus x).late = s.late := rfl
@[simp] theorem State.setClus_quads (s : State) (x : Store Cluster) : (s.setClus x).quads = s.quads := rfl
@[simp] theorem State.setClus_xchks (s : State) (x : Store Cluster) : (s.setClus x).xchks = s.xchks := rfl
@[simp] theorem State.setClus_therm (s : State) (x : Store Cluster) : (s.setClus x).therm = s.therm := rfl
@[simp] theorem State.setClus_cap (s : State) (x : Store Cluster) : (s.setClus x).cap = s.cap := rfl
@[simp] theorem State.setClus_jobs (s : State) (x : Store Cluster) : (s.setClus x).jobs = s.jobs := rfl
@[simp] theorem State.setClus_blk (s : State) (x : Store Cluster) : (s.setClus x).blk = s.blk := rfl
@[simp] theorem State.setClus_plan (s : State) (x : Store Cluster) : (s.setClus x).plan = s.plan := rfl
@[simp] theorem State.setClus_seat (s : State) (x : Store Cluster) : (s.setClus x).seat = s.seat := rfl
@[simp] theorem State.setClus_lnk (s : State) (x : Store Cluster) : (s.setClus x).lnk = s.lnk := rfl
@[simp] theorem State.setClus_boot (s : State) (x : Store Cluster) : (s.setClus x).boot = s.boot := rfl
@[simp] theorem State.setClus_cal (s : State) (x : Store Cluster) : (s.setClus x).cal = s.cal := rfl
@[simp] theorem State.setClus_pending (s : State) (x : Store Cluster) : (s.setClus x).pending = s.pending := rfl
@[simp] theorem State.setSecs_params (s : State) (x : Store Sector) : (s.setSecs x).params = s.params := rfl
@[simp] theorem State.setSecs_powered (s : State) (x : Store Sector) : (s.setSecs x).powered = s.powered := rfl
@[simp] theorem State.setSecs_tb (s : State) (x : Store Sector) : (s.setSecs x).tb = s.tb := rfl
@[simp] theorem State.setSecs_bridge (s : State) (x : Store Sector) : (s.setSecs x).bridge = s.bridge := rfl
@[simp] theorem State.setSecs_eng (s : State) (x : Store Sector) : (s.setSecs x).eng = s.eng := rfl
@[simp] theorem State.setSecs_regs (s : State) (x : Store Sector) : (s.setSecs x).regs = s.regs := rfl
@[simp] theorem State.setSecs_ports (s : State) (x : Store Sector) : (s.setSecs x).ports = s.ports := rfl
@[simp] theorem State.setSecs_dbg (s : State) (x : Store Sector) : (s.setSecs x).dbg = s.dbg := rfl
@[simp] theorem State.setSecs_cells (s : State) (x : Store Sector) : (s.setSecs x).cells = s.cells := rfl
@[simp] theorem State.setSecs_clus (s : State) (x : Store Sector) : (s.setSecs x).clus = s.clus := rfl
@[simp] theorem State.setSecs_secs (s : State) (x : Store Sector) : (s.setSecs x).secs = x := rfl
@[simp] theorem State.setSecs_inrush (s : State) (x : Store Sector) : (s.setSecs x).inrush = s.inrush := rfl
@[simp] theorem State.setSecs_trail (s : State) (x : Store Sector) : (s.setSecs x).trail = s.trail := rfl
@[simp] theorem State.setSecs_flt (s : State) (x : Store Sector) : (s.setSecs x).flt = s.flt := rfl
@[simp] theorem State.setSecs_recov (s : State) (x : Store Sector) : (s.setSecs x).recov = s.recov := rfl
@[simp] theorem State.setSecs_rings (s : State) (x : Store Sector) : (s.setSecs x).rings = s.rings := rfl
@[simp] theorem State.setSecs_wears (s : State) (x : Store Sector) : (s.setSecs x).wears = s.wears := rfl
@[simp] theorem State.setSecs_sparing (s : State) (x : Store Sector) : (s.setSecs x).sparing = s.sparing := rfl
@[simp] theorem State.setSecs_tally (s : State) (x : Store Sector) : (s.setSecs x).tally = s.tally := rfl
@[simp] theorem State.setSecs_mem (s : State) (x : Store Sector) : (s.setSecs x).mem = s.mem := rfl
@[simp] theorem State.setSecs_stages (s : State) (x : Store Sector) : (s.setSecs x).stages = s.stages := rfl
@[simp] theorem State.setSecs_chans (s : State) (x : Store Sector) : (s.setSecs x).chans = s.chans := rfl
@[simp] theorem State.setSecs_adcs (s : State) (x : Store Sector) : (s.setSecs x).adcs = s.adcs := rfl
@[simp] theorem State.setSecs_adcOwed (s : State) (x : Store Sector) : (s.setSecs x).adcOwed = s.adcOwed := rfl
@[simp] theorem State.setSecs_late (s : State) (x : Store Sector) : (s.setSecs x).late = s.late := rfl
@[simp] theorem State.setSecs_quads (s : State) (x : Store Sector) : (s.setSecs x).quads = s.quads := rfl
@[simp] theorem State.setSecs_xchks (s : State) (x : Store Sector) : (s.setSecs x).xchks = s.xchks := rfl
@[simp] theorem State.setSecs_therm (s : State) (x : Store Sector) : (s.setSecs x).therm = s.therm := rfl
@[simp] theorem State.setSecs_cap (s : State) (x : Store Sector) : (s.setSecs x).cap = s.cap := rfl
@[simp] theorem State.setSecs_jobs (s : State) (x : Store Sector) : (s.setSecs x).jobs = s.jobs := rfl
@[simp] theorem State.setSecs_blk (s : State) (x : Store Sector) : (s.setSecs x).blk = s.blk := rfl
@[simp] theorem State.setSecs_plan (s : State) (x : Store Sector) : (s.setSecs x).plan = s.plan := rfl
@[simp] theorem State.setSecs_seat (s : State) (x : Store Sector) : (s.setSecs x).seat = s.seat := rfl
@[simp] theorem State.setSecs_lnk (s : State) (x : Store Sector) : (s.setSecs x).lnk = s.lnk := rfl
@[simp] theorem State.setSecs_boot (s : State) (x : Store Sector) : (s.setSecs x).boot = s.boot := rfl
@[simp] theorem State.setSecs_cal (s : State) (x : Store Sector) : (s.setSecs x).cal = s.cal := rfl
@[simp] theorem State.setSecs_pending (s : State) (x : Store Sector) : (s.setSecs x).pending = s.pending := rfl
@[simp] theorem State.setInrush_params (s : State) (x : Store Inrush) : (s.setInrush x).params = s.params := rfl
@[simp] theorem State.setInrush_powered (s : State) (x : Store Inrush) : (s.setInrush x).powered = s.powered := rfl
@[simp] theorem State.setInrush_tb (s : State) (x : Store Inrush) : (s.setInrush x).tb = s.tb := rfl
@[simp] theorem State.setInrush_bridge (s : State) (x : Store Inrush) : (s.setInrush x).bridge = s.bridge := rfl
@[simp] theorem State.setInrush_eng (s : State) (x : Store Inrush) : (s.setInrush x).eng = s.eng := rfl
@[simp] theorem State.setInrush_regs (s : State) (x : Store Inrush) : (s.setInrush x).regs = s.regs := rfl
@[simp] theorem State.setInrush_ports (s : State) (x : Store Inrush) : (s.setInrush x).ports = s.ports := rfl
@[simp] theorem State.setInrush_dbg (s : State) (x : Store Inrush) : (s.setInrush x).dbg = s.dbg := rfl
@[simp] theorem State.setInrush_cells (s : State) (x : Store Inrush) : (s.setInrush x).cells = s.cells := rfl
@[simp] theorem State.setInrush_clus (s : State) (x : Store Inrush) : (s.setInrush x).clus = s.clus := rfl
@[simp] theorem State.setInrush_secs (s : State) (x : Store Inrush) : (s.setInrush x).secs = s.secs := rfl
@[simp] theorem State.setInrush_inrush (s : State) (x : Store Inrush) : (s.setInrush x).inrush = x := rfl
@[simp] theorem State.setInrush_trail (s : State) (x : Store Inrush) : (s.setInrush x).trail = s.trail := rfl
@[simp] theorem State.setInrush_flt (s : State) (x : Store Inrush) : (s.setInrush x).flt = s.flt := rfl
@[simp] theorem State.setInrush_recov (s : State) (x : Store Inrush) : (s.setInrush x).recov = s.recov := rfl
@[simp] theorem State.setInrush_rings (s : State) (x : Store Inrush) : (s.setInrush x).rings = s.rings := rfl
@[simp] theorem State.setInrush_wears (s : State) (x : Store Inrush) : (s.setInrush x).wears = s.wears := rfl
@[simp] theorem State.setInrush_sparing (s : State) (x : Store Inrush) : (s.setInrush x).sparing = s.sparing := rfl
@[simp] theorem State.setInrush_tally (s : State) (x : Store Inrush) : (s.setInrush x).tally = s.tally := rfl
@[simp] theorem State.setInrush_mem (s : State) (x : Store Inrush) : (s.setInrush x).mem = s.mem := rfl
@[simp] theorem State.setInrush_stages (s : State) (x : Store Inrush) : (s.setInrush x).stages = s.stages := rfl
@[simp] theorem State.setInrush_chans (s : State) (x : Store Inrush) : (s.setInrush x).chans = s.chans := rfl
@[simp] theorem State.setInrush_adcs (s : State) (x : Store Inrush) : (s.setInrush x).adcs = s.adcs := rfl
@[simp] theorem State.setInrush_adcOwed (s : State) (x : Store Inrush) : (s.setInrush x).adcOwed = s.adcOwed := rfl
@[simp] theorem State.setInrush_late (s : State) (x : Store Inrush) : (s.setInrush x).late = s.late := rfl
@[simp] theorem State.setInrush_quads (s : State) (x : Store Inrush) : (s.setInrush x).quads = s.quads := rfl
@[simp] theorem State.setInrush_xchks (s : State) (x : Store Inrush) : (s.setInrush x).xchks = s.xchks := rfl
@[simp] theorem State.setInrush_therm (s : State) (x : Store Inrush) : (s.setInrush x).therm = s.therm := rfl
@[simp] theorem State.setInrush_cap (s : State) (x : Store Inrush) : (s.setInrush x).cap = s.cap := rfl
@[simp] theorem State.setInrush_jobs (s : State) (x : Store Inrush) : (s.setInrush x).jobs = s.jobs := rfl
@[simp] theorem State.setInrush_blk (s : State) (x : Store Inrush) : (s.setInrush x).blk = s.blk := rfl
@[simp] theorem State.setInrush_plan (s : State) (x : Store Inrush) : (s.setInrush x).plan = s.plan := rfl
@[simp] theorem State.setInrush_seat (s : State) (x : Store Inrush) : (s.setInrush x).seat = s.seat := rfl
@[simp] theorem State.setInrush_lnk (s : State) (x : Store Inrush) : (s.setInrush x).lnk = s.lnk := rfl
@[simp] theorem State.setInrush_boot (s : State) (x : Store Inrush) : (s.setInrush x).boot = s.boot := rfl
@[simp] theorem State.setInrush_cal (s : State) (x : Store Inrush) : (s.setInrush x).cal = s.cal := rfl
@[simp] theorem State.setInrush_pending (s : State) (x : Store Inrush) : (s.setInrush x).pending = s.pending := rfl
@[simp] theorem State.setTrail_params (s : State) (x : Store TrailWin) : (s.setTrail x).params = s.params := rfl
@[simp] theorem State.setTrail_powered (s : State) (x : Store TrailWin) : (s.setTrail x).powered = s.powered := rfl
@[simp] theorem State.setTrail_tb (s : State) (x : Store TrailWin) : (s.setTrail x).tb = s.tb := rfl
@[simp] theorem State.setTrail_bridge (s : State) (x : Store TrailWin) : (s.setTrail x).bridge = s.bridge := rfl
@[simp] theorem State.setTrail_eng (s : State) (x : Store TrailWin) : (s.setTrail x).eng = s.eng := rfl
@[simp] theorem State.setTrail_regs (s : State) (x : Store TrailWin) : (s.setTrail x).regs = s.regs := rfl
@[simp] theorem State.setTrail_ports (s : State) (x : Store TrailWin) : (s.setTrail x).ports = s.ports := rfl
@[simp] theorem State.setTrail_dbg (s : State) (x : Store TrailWin) : (s.setTrail x).dbg = s.dbg := rfl
@[simp] theorem State.setTrail_cells (s : State) (x : Store TrailWin) : (s.setTrail x).cells = s.cells := rfl
@[simp] theorem State.setTrail_clus (s : State) (x : Store TrailWin) : (s.setTrail x).clus = s.clus := rfl
@[simp] theorem State.setTrail_secs (s : State) (x : Store TrailWin) : (s.setTrail x).secs = s.secs := rfl
@[simp] theorem State.setTrail_inrush (s : State) (x : Store TrailWin) : (s.setTrail x).inrush = s.inrush := rfl
@[simp] theorem State.setTrail_trail (s : State) (x : Store TrailWin) : (s.setTrail x).trail = x := rfl
@[simp] theorem State.setTrail_flt (s : State) (x : Store TrailWin) : (s.setTrail x).flt = s.flt := rfl
@[simp] theorem State.setTrail_recov (s : State) (x : Store TrailWin) : (s.setTrail x).recov = s.recov := rfl
@[simp] theorem State.setTrail_rings (s : State) (x : Store TrailWin) : (s.setTrail x).rings = s.rings := rfl
@[simp] theorem State.setTrail_wears (s : State) (x : Store TrailWin) : (s.setTrail x).wears = s.wears := rfl
@[simp] theorem State.setTrail_sparing (s : State) (x : Store TrailWin) : (s.setTrail x).sparing = s.sparing := rfl
@[simp] theorem State.setTrail_tally (s : State) (x : Store TrailWin) : (s.setTrail x).tally = s.tally := rfl
@[simp] theorem State.setTrail_mem (s : State) (x : Store TrailWin) : (s.setTrail x).mem = s.mem := rfl
@[simp] theorem State.setTrail_stages (s : State) (x : Store TrailWin) : (s.setTrail x).stages = s.stages := rfl
@[simp] theorem State.setTrail_chans (s : State) (x : Store TrailWin) : (s.setTrail x).chans = s.chans := rfl
@[simp] theorem State.setTrail_adcs (s : State) (x : Store TrailWin) : (s.setTrail x).adcs = s.adcs := rfl
@[simp] theorem State.setTrail_adcOwed (s : State) (x : Store TrailWin) : (s.setTrail x).adcOwed = s.adcOwed := rfl
@[simp] theorem State.setTrail_late (s : State) (x : Store TrailWin) : (s.setTrail x).late = s.late := rfl
@[simp] theorem State.setTrail_quads (s : State) (x : Store TrailWin) : (s.setTrail x).quads = s.quads := rfl
@[simp] theorem State.setTrail_xchks (s : State) (x : Store TrailWin) : (s.setTrail x).xchks = s.xchks := rfl
@[simp] theorem State.setTrail_therm (s : State) (x : Store TrailWin) : (s.setTrail x).therm = s.therm := rfl
@[simp] theorem State.setTrail_cap (s : State) (x : Store TrailWin) : (s.setTrail x).cap = s.cap := rfl
@[simp] theorem State.setTrail_jobs (s : State) (x : Store TrailWin) : (s.setTrail x).jobs = s.jobs := rfl
@[simp] theorem State.setTrail_blk (s : State) (x : Store TrailWin) : (s.setTrail x).blk = s.blk := rfl
@[simp] theorem State.setTrail_plan (s : State) (x : Store TrailWin) : (s.setTrail x).plan = s.plan := rfl
@[simp] theorem State.setTrail_seat (s : State) (x : Store TrailWin) : (s.setTrail x).seat = s.seat := rfl
@[simp] theorem State.setTrail_lnk (s : State) (x : Store TrailWin) : (s.setTrail x).lnk = s.lnk := rfl
@[simp] theorem State.setTrail_boot (s : State) (x : Store TrailWin) : (s.setTrail x).boot = s.boot := rfl
@[simp] theorem State.setTrail_cal (s : State) (x : Store TrailWin) : (s.setTrail x).cal = s.cal := rfl
@[simp] theorem State.setTrail_pending (s : State) (x : Store TrailWin) : (s.setTrail x).pending = s.pending := rfl
@[simp] theorem State.setFlt_params (s : State) (x : Faults) : (s.setFlt x).params = s.params := rfl
@[simp] theorem State.setFlt_powered (s : State) (x : Faults) : (s.setFlt x).powered = s.powered := rfl
@[simp] theorem State.setFlt_tb (s : State) (x : Faults) : (s.setFlt x).tb = s.tb := rfl
@[simp] theorem State.setFlt_bridge (s : State) (x : Faults) : (s.setFlt x).bridge = s.bridge := rfl
@[simp] theorem State.setFlt_eng (s : State) (x : Faults) : (s.setFlt x).eng = s.eng := rfl
@[simp] theorem State.setFlt_regs (s : State) (x : Faults) : (s.setFlt x).regs = s.regs := rfl
@[simp] theorem State.setFlt_ports (s : State) (x : Faults) : (s.setFlt x).ports = s.ports := rfl
@[simp] theorem State.setFlt_dbg (s : State) (x : Faults) : (s.setFlt x).dbg = s.dbg := rfl
@[simp] theorem State.setFlt_cells (s : State) (x : Faults) : (s.setFlt x).cells = s.cells := rfl
@[simp] theorem State.setFlt_clus (s : State) (x : Faults) : (s.setFlt x).clus = s.clus := rfl
@[simp] theorem State.setFlt_secs (s : State) (x : Faults) : (s.setFlt x).secs = s.secs := rfl
@[simp] theorem State.setFlt_inrush (s : State) (x : Faults) : (s.setFlt x).inrush = s.inrush := rfl
@[simp] theorem State.setFlt_trail (s : State) (x : Faults) : (s.setFlt x).trail = s.trail := rfl
@[simp] theorem State.setFlt_flt (s : State) (x : Faults) : (s.setFlt x).flt = x := rfl
@[simp] theorem State.setFlt_recov (s : State) (x : Faults) : (s.setFlt x).recov = s.recov := rfl
@[simp] theorem State.setFlt_rings (s : State) (x : Faults) : (s.setFlt x).rings = s.rings := rfl
@[simp] theorem State.setFlt_wears (s : State) (x : Faults) : (s.setFlt x).wears = s.wears := rfl
@[simp] theorem State.setFlt_sparing (s : State) (x : Faults) : (s.setFlt x).sparing = s.sparing := rfl
@[simp] theorem State.setFlt_tally (s : State) (x : Faults) : (s.setFlt x).tally = s.tally := rfl
@[simp] theorem State.setFlt_mem (s : State) (x : Faults) : (s.setFlt x).mem = s.mem := rfl
@[simp] theorem State.setFlt_stages (s : State) (x : Faults) : (s.setFlt x).stages = s.stages := rfl
@[simp] theorem State.setFlt_chans (s : State) (x : Faults) : (s.setFlt x).chans = s.chans := rfl
@[simp] theorem State.setFlt_adcs (s : State) (x : Faults) : (s.setFlt x).adcs = s.adcs := rfl
@[simp] theorem State.setFlt_adcOwed (s : State) (x : Faults) : (s.setFlt x).adcOwed = s.adcOwed := rfl
@[simp] theorem State.setFlt_late (s : State) (x : Faults) : (s.setFlt x).late = s.late := rfl
@[simp] theorem State.setFlt_quads (s : State) (x : Faults) : (s.setFlt x).quads = s.quads := rfl
@[simp] theorem State.setFlt_xchks (s : State) (x : Faults) : (s.setFlt x).xchks = s.xchks := rfl
@[simp] theorem State.setFlt_therm (s : State) (x : Faults) : (s.setFlt x).therm = s.therm := rfl
@[simp] theorem State.setFlt_cap (s : State) (x : Faults) : (s.setFlt x).cap = s.cap := rfl
@[simp] theorem State.setFlt_jobs (s : State) (x : Faults) : (s.setFlt x).jobs = s.jobs := rfl
@[simp] theorem State.setFlt_blk (s : State) (x : Faults) : (s.setFlt x).blk = s.blk := rfl
@[simp] theorem State.setFlt_plan (s : State) (x : Faults) : (s.setFlt x).plan = s.plan := rfl
@[simp] theorem State.setFlt_seat (s : State) (x : Faults) : (s.setFlt x).seat = s.seat := rfl
@[simp] theorem State.setFlt_lnk (s : State) (x : Faults) : (s.setFlt x).lnk = s.lnk := rfl
@[simp] theorem State.setFlt_boot (s : State) (x : Faults) : (s.setFlt x).boot = s.boot := rfl
@[simp] theorem State.setFlt_cal (s : State) (x : Faults) : (s.setFlt x).cal = s.cal := rfl
@[simp] theorem State.setFlt_pending (s : State) (x : Faults) : (s.setFlt x).pending = s.pending := rfl
@[simp] theorem State.setRecov_params (s : State) (x : Store Recovery) : (s.setRecov x).params = s.params := rfl
@[simp] theorem State.setRecov_powered (s : State) (x : Store Recovery) : (s.setRecov x).powered = s.powered := rfl
@[simp] theorem State.setRecov_tb (s : State) (x : Store Recovery) : (s.setRecov x).tb = s.tb := rfl
@[simp] theorem State.setRecov_bridge (s : State) (x : Store Recovery) : (s.setRecov x).bridge = s.bridge := rfl
@[simp] theorem State.setRecov_eng (s : State) (x : Store Recovery) : (s.setRecov x).eng = s.eng := rfl
@[simp] theorem State.setRecov_regs (s : State) (x : Store Recovery) : (s.setRecov x).regs = s.regs := rfl
@[simp] theorem State.setRecov_ports (s : State) (x : Store Recovery) : (s.setRecov x).ports = s.ports := rfl
@[simp] theorem State.setRecov_dbg (s : State) (x : Store Recovery) : (s.setRecov x).dbg = s.dbg := rfl
@[simp] theorem State.setRecov_cells (s : State) (x : Store Recovery) : (s.setRecov x).cells = s.cells := rfl
@[simp] theorem State.setRecov_clus (s : State) (x : Store Recovery) : (s.setRecov x).clus = s.clus := rfl
@[simp] theorem State.setRecov_secs (s : State) (x : Store Recovery) : (s.setRecov x).secs = s.secs := rfl
@[simp] theorem State.setRecov_inrush (s : State) (x : Store Recovery) : (s.setRecov x).inrush = s.inrush := rfl
@[simp] theorem State.setRecov_trail (s : State) (x : Store Recovery) : (s.setRecov x).trail = s.trail := rfl
@[simp] theorem State.setRecov_flt (s : State) (x : Store Recovery) : (s.setRecov x).flt = s.flt := rfl
@[simp] theorem State.setRecov_recov (s : State) (x : Store Recovery) : (s.setRecov x).recov = x := rfl
@[simp] theorem State.setRecov_rings (s : State) (x : Store Recovery) : (s.setRecov x).rings = s.rings := rfl
@[simp] theorem State.setRecov_wears (s : State) (x : Store Recovery) : (s.setRecov x).wears = s.wears := rfl
@[simp] theorem State.setRecov_sparing (s : State) (x : Store Recovery) : (s.setRecov x).sparing = s.sparing := rfl
@[simp] theorem State.setRecov_tally (s : State) (x : Store Recovery) : (s.setRecov x).tally = s.tally := rfl
@[simp] theorem State.setRecov_mem (s : State) (x : Store Recovery) : (s.setRecov x).mem = s.mem := rfl
@[simp] theorem State.setRecov_stages (s : State) (x : Store Recovery) : (s.setRecov x).stages = s.stages := rfl
@[simp] theorem State.setRecov_chans (s : State) (x : Store Recovery) : (s.setRecov x).chans = s.chans := rfl
@[simp] theorem State.setRecov_adcs (s : State) (x : Store Recovery) : (s.setRecov x).adcs = s.adcs := rfl
@[simp] theorem State.setRecov_adcOwed (s : State) (x : Store Recovery) : (s.setRecov x).adcOwed = s.adcOwed := rfl
@[simp] theorem State.setRecov_late (s : State) (x : Store Recovery) : (s.setRecov x).late = s.late := rfl
@[simp] theorem State.setRecov_quads (s : State) (x : Store Recovery) : (s.setRecov x).quads = s.quads := rfl
@[simp] theorem State.setRecov_xchks (s : State) (x : Store Recovery) : (s.setRecov x).xchks = s.xchks := rfl
@[simp] theorem State.setRecov_therm (s : State) (x : Store Recovery) : (s.setRecov x).therm = s.therm := rfl
@[simp] theorem State.setRecov_cap (s : State) (x : Store Recovery) : (s.setRecov x).cap = s.cap := rfl
@[simp] theorem State.setRecov_jobs (s : State) (x : Store Recovery) : (s.setRecov x).jobs = s.jobs := rfl
@[simp] theorem State.setRecov_blk (s : State) (x : Store Recovery) : (s.setRecov x).blk = s.blk := rfl
@[simp] theorem State.setRecov_plan (s : State) (x : Store Recovery) : (s.setRecov x).plan = s.plan := rfl
@[simp] theorem State.setRecov_seat (s : State) (x : Store Recovery) : (s.setRecov x).seat = s.seat := rfl
@[simp] theorem State.setRecov_lnk (s : State) (x : Store Recovery) : (s.setRecov x).lnk = s.lnk := rfl
@[simp] theorem State.setRecov_boot (s : State) (x : Store Recovery) : (s.setRecov x).boot = s.boot := rfl
@[simp] theorem State.setRecov_cal (s : State) (x : Store Recovery) : (s.setRecov x).cal = s.cal := rfl
@[simp] theorem State.setRecov_pending (s : State) (x : Store Recovery) : (s.setRecov x).pending = s.pending := rfl
@[simp] theorem State.setRings_params (s : State) (x : Store Ring) : (s.setRings x).params = s.params := rfl
@[simp] theorem State.setRings_powered (s : State) (x : Store Ring) : (s.setRings x).powered = s.powered := rfl
@[simp] theorem State.setRings_tb (s : State) (x : Store Ring) : (s.setRings x).tb = s.tb := rfl
@[simp] theorem State.setRings_bridge (s : State) (x : Store Ring) : (s.setRings x).bridge = s.bridge := rfl
@[simp] theorem State.setRings_eng (s : State) (x : Store Ring) : (s.setRings x).eng = s.eng := rfl
@[simp] theorem State.setRings_regs (s : State) (x : Store Ring) : (s.setRings x).regs = s.regs := rfl
@[simp] theorem State.setRings_ports (s : State) (x : Store Ring) : (s.setRings x).ports = s.ports := rfl
@[simp] theorem State.setRings_dbg (s : State) (x : Store Ring) : (s.setRings x).dbg = s.dbg := rfl
@[simp] theorem State.setRings_cells (s : State) (x : Store Ring) : (s.setRings x).cells = s.cells := rfl
@[simp] theorem State.setRings_clus (s : State) (x : Store Ring) : (s.setRings x).clus = s.clus := rfl
@[simp] theorem State.setRings_secs (s : State) (x : Store Ring) : (s.setRings x).secs = s.secs := rfl
@[simp] theorem State.setRings_inrush (s : State) (x : Store Ring) : (s.setRings x).inrush = s.inrush := rfl
@[simp] theorem State.setRings_trail (s : State) (x : Store Ring) : (s.setRings x).trail = s.trail := rfl
@[simp] theorem State.setRings_flt (s : State) (x : Store Ring) : (s.setRings x).flt = s.flt := rfl
@[simp] theorem State.setRings_recov (s : State) (x : Store Ring) : (s.setRings x).recov = s.recov := rfl
@[simp] theorem State.setRings_rings (s : State) (x : Store Ring) : (s.setRings x).rings = x := rfl
@[simp] theorem State.setRings_wears (s : State) (x : Store Ring) : (s.setRings x).wears = s.wears := rfl
@[simp] theorem State.setRings_sparing (s : State) (x : Store Ring) : (s.setRings x).sparing = s.sparing := rfl
@[simp] theorem State.setRings_tally (s : State) (x : Store Ring) : (s.setRings x).tally = s.tally := rfl
@[simp] theorem State.setRings_mem (s : State) (x : Store Ring) : (s.setRings x).mem = s.mem := rfl
@[simp] theorem State.setRings_stages (s : State) (x : Store Ring) : (s.setRings x).stages = s.stages := rfl
@[simp] theorem State.setRings_chans (s : State) (x : Store Ring) : (s.setRings x).chans = s.chans := rfl
@[simp] theorem State.setRings_adcs (s : State) (x : Store Ring) : (s.setRings x).adcs = s.adcs := rfl
@[simp] theorem State.setRings_adcOwed (s : State) (x : Store Ring) : (s.setRings x).adcOwed = s.adcOwed := rfl
@[simp] theorem State.setRings_late (s : State) (x : Store Ring) : (s.setRings x).late = s.late := rfl
@[simp] theorem State.setRings_quads (s : State) (x : Store Ring) : (s.setRings x).quads = s.quads := rfl
@[simp] theorem State.setRings_xchks (s : State) (x : Store Ring) : (s.setRings x).xchks = s.xchks := rfl
@[simp] theorem State.setRings_therm (s : State) (x : Store Ring) : (s.setRings x).therm = s.therm := rfl
@[simp] theorem State.setRings_cap (s : State) (x : Store Ring) : (s.setRings x).cap = s.cap := rfl
@[simp] theorem State.setRings_jobs (s : State) (x : Store Ring) : (s.setRings x).jobs = s.jobs := rfl
@[simp] theorem State.setRings_blk (s : State) (x : Store Ring) : (s.setRings x).blk = s.blk := rfl
@[simp] theorem State.setRings_plan (s : State) (x : Store Ring) : (s.setRings x).plan = s.plan := rfl
@[simp] theorem State.setRings_seat (s : State) (x : Store Ring) : (s.setRings x).seat = s.seat := rfl
@[simp] theorem State.setRings_lnk (s : State) (x : Store Ring) : (s.setRings x).lnk = s.lnk := rfl
@[simp] theorem State.setRings_boot (s : State) (x : Store Ring) : (s.setRings x).boot = s.boot := rfl
@[simp] theorem State.setRings_cal (s : State) (x : Store Ring) : (s.setRings x).cal = s.cal := rfl
@[simp] theorem State.setRings_pending (s : State) (x : Store Ring) : (s.setRings x).pending = s.pending := rfl
@[simp] theorem State.setWears_params (s : State) (x : Store Wear) : (s.setWears x).params = s.params := rfl
@[simp] theorem State.setWears_powered (s : State) (x : Store Wear) : (s.setWears x).powered = s.powered := rfl
@[simp] theorem State.setWears_tb (s : State) (x : Store Wear) : (s.setWears x).tb = s.tb := rfl
@[simp] theorem State.setWears_bridge (s : State) (x : Store Wear) : (s.setWears x).bridge = s.bridge := rfl
@[simp] theorem State.setWears_eng (s : State) (x : Store Wear) : (s.setWears x).eng = s.eng := rfl
@[simp] theorem State.setWears_regs (s : State) (x : Store Wear) : (s.setWears x).regs = s.regs := rfl
@[simp] theorem State.setWears_ports (s : State) (x : Store Wear) : (s.setWears x).ports = s.ports := rfl
@[simp] theorem State.setWears_dbg (s : State) (x : Store Wear) : (s.setWears x).dbg = s.dbg := rfl
@[simp] theorem State.setWears_cells (s : State) (x : Store Wear) : (s.setWears x).cells = s.cells := rfl
@[simp] theorem State.setWears_clus (s : State) (x : Store Wear) : (s.setWears x).clus = s.clus := rfl
@[simp] theorem State.setWears_secs (s : State) (x : Store Wear) : (s.setWears x).secs = s.secs := rfl
@[simp] theorem State.setWears_inrush (s : State) (x : Store Wear) : (s.setWears x).inrush = s.inrush := rfl
@[simp] theorem State.setWears_trail (s : State) (x : Store Wear) : (s.setWears x).trail = s.trail := rfl
@[simp] theorem State.setWears_flt (s : State) (x : Store Wear) : (s.setWears x).flt = s.flt := rfl
@[simp] theorem State.setWears_recov (s : State) (x : Store Wear) : (s.setWears x).recov = s.recov := rfl
@[simp] theorem State.setWears_rings (s : State) (x : Store Wear) : (s.setWears x).rings = s.rings := rfl
@[simp] theorem State.setWears_wears (s : State) (x : Store Wear) : (s.setWears x).wears = x := rfl
@[simp] theorem State.setWears_sparing (s : State) (x : Store Wear) : (s.setWears x).sparing = s.sparing := rfl
@[simp] theorem State.setWears_tally (s : State) (x : Store Wear) : (s.setWears x).tally = s.tally := rfl
@[simp] theorem State.setWears_mem (s : State) (x : Store Wear) : (s.setWears x).mem = s.mem := rfl
@[simp] theorem State.setWears_stages (s : State) (x : Store Wear) : (s.setWears x).stages = s.stages := rfl
@[simp] theorem State.setWears_chans (s : State) (x : Store Wear) : (s.setWears x).chans = s.chans := rfl
@[simp] theorem State.setWears_adcs (s : State) (x : Store Wear) : (s.setWears x).adcs = s.adcs := rfl
@[simp] theorem State.setWears_adcOwed (s : State) (x : Store Wear) : (s.setWears x).adcOwed = s.adcOwed := rfl
@[simp] theorem State.setWears_late (s : State) (x : Store Wear) : (s.setWears x).late = s.late := rfl
@[simp] theorem State.setWears_quads (s : State) (x : Store Wear) : (s.setWears x).quads = s.quads := rfl
@[simp] theorem State.setWears_xchks (s : State) (x : Store Wear) : (s.setWears x).xchks = s.xchks := rfl
@[simp] theorem State.setWears_therm (s : State) (x : Store Wear) : (s.setWears x).therm = s.therm := rfl
@[simp] theorem State.setWears_cap (s : State) (x : Store Wear) : (s.setWears x).cap = s.cap := rfl
@[simp] theorem State.setWears_jobs (s : State) (x : Store Wear) : (s.setWears x).jobs = s.jobs := rfl
@[simp] theorem State.setWears_blk (s : State) (x : Store Wear) : (s.setWears x).blk = s.blk := rfl
@[simp] theorem State.setWears_plan (s : State) (x : Store Wear) : (s.setWears x).plan = s.plan := rfl
@[simp] theorem State.setWears_seat (s : State) (x : Store Wear) : (s.setWears x).seat = s.seat := rfl
@[simp] theorem State.setWears_lnk (s : State) (x : Store Wear) : (s.setWears x).lnk = s.lnk := rfl
@[simp] theorem State.setWears_boot (s : State) (x : Store Wear) : (s.setWears x).boot = s.boot := rfl
@[simp] theorem State.setWears_cal (s : State) (x : Store Wear) : (s.setWears x).cal = s.cal := rfl
@[simp] theorem State.setWears_pending (s : State) (x : Store Wear) : (s.setWears x).pending = s.pending := rfl
@[simp] theorem State.setSparing_params (s : State) (x : Sparing) : (s.setSparing x).params = s.params := rfl
@[simp] theorem State.setSparing_powered (s : State) (x : Sparing) : (s.setSparing x).powered = s.powered := rfl
@[simp] theorem State.setSparing_tb (s : State) (x : Sparing) : (s.setSparing x).tb = s.tb := rfl
@[simp] theorem State.setSparing_bridge (s : State) (x : Sparing) : (s.setSparing x).bridge = s.bridge := rfl
@[simp] theorem State.setSparing_eng (s : State) (x : Sparing) : (s.setSparing x).eng = s.eng := rfl
@[simp] theorem State.setSparing_regs (s : State) (x : Sparing) : (s.setSparing x).regs = s.regs := rfl
@[simp] theorem State.setSparing_ports (s : State) (x : Sparing) : (s.setSparing x).ports = s.ports := rfl
@[simp] theorem State.setSparing_dbg (s : State) (x : Sparing) : (s.setSparing x).dbg = s.dbg := rfl
@[simp] theorem State.setSparing_cells (s : State) (x : Sparing) : (s.setSparing x).cells = s.cells := rfl
@[simp] theorem State.setSparing_clus (s : State) (x : Sparing) : (s.setSparing x).clus = s.clus := rfl
@[simp] theorem State.setSparing_secs (s : State) (x : Sparing) : (s.setSparing x).secs = s.secs := rfl
@[simp] theorem State.setSparing_inrush (s : State) (x : Sparing) : (s.setSparing x).inrush = s.inrush := rfl
@[simp] theorem State.setSparing_trail (s : State) (x : Sparing) : (s.setSparing x).trail = s.trail := rfl
@[simp] theorem State.setSparing_flt (s : State) (x : Sparing) : (s.setSparing x).flt = s.flt := rfl
@[simp] theorem State.setSparing_recov (s : State) (x : Sparing) : (s.setSparing x).recov = s.recov := rfl
@[simp] theorem State.setSparing_rings (s : State) (x : Sparing) : (s.setSparing x).rings = s.rings := rfl
@[simp] theorem State.setSparing_wears (s : State) (x : Sparing) : (s.setSparing x).wears = s.wears := rfl
@[simp] theorem State.setSparing_sparing (s : State) (x : Sparing) : (s.setSparing x).sparing = x := rfl
@[simp] theorem State.setSparing_tally (s : State) (x : Sparing) : (s.setSparing x).tally = s.tally := rfl
@[simp] theorem State.setSparing_mem (s : State) (x : Sparing) : (s.setSparing x).mem = s.mem := rfl
@[simp] theorem State.setSparing_stages (s : State) (x : Sparing) : (s.setSparing x).stages = s.stages := rfl
@[simp] theorem State.setSparing_chans (s : State) (x : Sparing) : (s.setSparing x).chans = s.chans := rfl
@[simp] theorem State.setSparing_adcs (s : State) (x : Sparing) : (s.setSparing x).adcs = s.adcs := rfl
@[simp] theorem State.setSparing_adcOwed (s : State) (x : Sparing) : (s.setSparing x).adcOwed = s.adcOwed := rfl
@[simp] theorem State.setSparing_late (s : State) (x : Sparing) : (s.setSparing x).late = s.late := rfl
@[simp] theorem State.setSparing_quads (s : State) (x : Sparing) : (s.setSparing x).quads = s.quads := rfl
@[simp] theorem State.setSparing_xchks (s : State) (x : Sparing) : (s.setSparing x).xchks = s.xchks := rfl
@[simp] theorem State.setSparing_therm (s : State) (x : Sparing) : (s.setSparing x).therm = s.therm := rfl
@[simp] theorem State.setSparing_cap (s : State) (x : Sparing) : (s.setSparing x).cap = s.cap := rfl
@[simp] theorem State.setSparing_jobs (s : State) (x : Sparing) : (s.setSparing x).jobs = s.jobs := rfl
@[simp] theorem State.setSparing_blk (s : State) (x : Sparing) : (s.setSparing x).blk = s.blk := rfl
@[simp] theorem State.setSparing_plan (s : State) (x : Sparing) : (s.setSparing x).plan = s.plan := rfl
@[simp] theorem State.setSparing_seat (s : State) (x : Sparing) : (s.setSparing x).seat = s.seat := rfl
@[simp] theorem State.setSparing_lnk (s : State) (x : Sparing) : (s.setSparing x).lnk = s.lnk := rfl
@[simp] theorem State.setSparing_boot (s : State) (x : Sparing) : (s.setSparing x).boot = s.boot := rfl
@[simp] theorem State.setSparing_cal (s : State) (x : Sparing) : (s.setSparing x).cal = s.cal := rfl
@[simp] theorem State.setSparing_pending (s : State) (x : Sparing) : (s.setSparing x).pending = s.pending := rfl
@[simp] theorem State.setTally_params (s : State) (x : Tally) : (s.setTally x).params = s.params := rfl
@[simp] theorem State.setTally_powered (s : State) (x : Tally) : (s.setTally x).powered = s.powered := rfl
@[simp] theorem State.setTally_tb (s : State) (x : Tally) : (s.setTally x).tb = s.tb := rfl
@[simp] theorem State.setTally_bridge (s : State) (x : Tally) : (s.setTally x).bridge = s.bridge := rfl
@[simp] theorem State.setTally_eng (s : State) (x : Tally) : (s.setTally x).eng = s.eng := rfl
@[simp] theorem State.setTally_regs (s : State) (x : Tally) : (s.setTally x).regs = s.regs := rfl
@[simp] theorem State.setTally_ports (s : State) (x : Tally) : (s.setTally x).ports = s.ports := rfl
@[simp] theorem State.setTally_dbg (s : State) (x : Tally) : (s.setTally x).dbg = s.dbg := rfl
@[simp] theorem State.setTally_cells (s : State) (x : Tally) : (s.setTally x).cells = s.cells := rfl
@[simp] theorem State.setTally_clus (s : State) (x : Tally) : (s.setTally x).clus = s.clus := rfl
@[simp] theorem State.setTally_secs (s : State) (x : Tally) : (s.setTally x).secs = s.secs := rfl
@[simp] theorem State.setTally_inrush (s : State) (x : Tally) : (s.setTally x).inrush = s.inrush := rfl
@[simp] theorem State.setTally_trail (s : State) (x : Tally) : (s.setTally x).trail = s.trail := rfl
@[simp] theorem State.setTally_flt (s : State) (x : Tally) : (s.setTally x).flt = s.flt := rfl
@[simp] theorem State.setTally_recov (s : State) (x : Tally) : (s.setTally x).recov = s.recov := rfl
@[simp] theorem State.setTally_rings (s : State) (x : Tally) : (s.setTally x).rings = s.rings := rfl
@[simp] theorem State.setTally_wears (s : State) (x : Tally) : (s.setTally x).wears = s.wears := rfl
@[simp] theorem State.setTally_sparing (s : State) (x : Tally) : (s.setTally x).sparing = s.sparing := rfl
@[simp] theorem State.setTally_tally (s : State) (x : Tally) : (s.setTally x).tally = x := rfl
@[simp] theorem State.setTally_mem (s : State) (x : Tally) : (s.setTally x).mem = s.mem := rfl
@[simp] theorem State.setTally_stages (s : State) (x : Tally) : (s.setTally x).stages = s.stages := rfl
@[simp] theorem State.setTally_chans (s : State) (x : Tally) : (s.setTally x).chans = s.chans := rfl
@[simp] theorem State.setTally_adcs (s : State) (x : Tally) : (s.setTally x).adcs = s.adcs := rfl
@[simp] theorem State.setTally_adcOwed (s : State) (x : Tally) : (s.setTally x).adcOwed = s.adcOwed := rfl
@[simp] theorem State.setTally_late (s : State) (x : Tally) : (s.setTally x).late = s.late := rfl
@[simp] theorem State.setTally_quads (s : State) (x : Tally) : (s.setTally x).quads = s.quads := rfl
@[simp] theorem State.setTally_xchks (s : State) (x : Tally) : (s.setTally x).xchks = s.xchks := rfl
@[simp] theorem State.setTally_therm (s : State) (x : Tally) : (s.setTally x).therm = s.therm := rfl
@[simp] theorem State.setTally_cap (s : State) (x : Tally) : (s.setTally x).cap = s.cap := rfl
@[simp] theorem State.setTally_jobs (s : State) (x : Tally) : (s.setTally x).jobs = s.jobs := rfl
@[simp] theorem State.setTally_blk (s : State) (x : Tally) : (s.setTally x).blk = s.blk := rfl
@[simp] theorem State.setTally_plan (s : State) (x : Tally) : (s.setTally x).plan = s.plan := rfl
@[simp] theorem State.setTally_seat (s : State) (x : Tally) : (s.setTally x).seat = s.seat := rfl
@[simp] theorem State.setTally_lnk (s : State) (x : Tally) : (s.setTally x).lnk = s.lnk := rfl
@[simp] theorem State.setTally_boot (s : State) (x : Tally) : (s.setTally x).boot = s.boot := rfl
@[simp] theorem State.setTally_cal (s : State) (x : Tally) : (s.setTally x).cal = s.cal := rfl
@[simp] theorem State.setTally_pending (s : State) (x : Tally) : (s.setTally x).pending = s.pending := rfl
@[simp] theorem State.setMem_params (s : State) (x : Memory) : (s.setMem x).params = s.params := rfl
@[simp] theorem State.setMem_powered (s : State) (x : Memory) : (s.setMem x).powered = s.powered := rfl
@[simp] theorem State.setMem_tb (s : State) (x : Memory) : (s.setMem x).tb = s.tb := rfl
@[simp] theorem State.setMem_bridge (s : State) (x : Memory) : (s.setMem x).bridge = s.bridge := rfl
@[simp] theorem State.setMem_eng (s : State) (x : Memory) : (s.setMem x).eng = s.eng := rfl
@[simp] theorem State.setMem_regs (s : State) (x : Memory) : (s.setMem x).regs = s.regs := rfl
@[simp] theorem State.setMem_ports (s : State) (x : Memory) : (s.setMem x).ports = s.ports := rfl
@[simp] theorem State.setMem_dbg (s : State) (x : Memory) : (s.setMem x).dbg = s.dbg := rfl
@[simp] theorem State.setMem_cells (s : State) (x : Memory) : (s.setMem x).cells = s.cells := rfl
@[simp] theorem State.setMem_clus (s : State) (x : Memory) : (s.setMem x).clus = s.clus := rfl
@[simp] theorem State.setMem_secs (s : State) (x : Memory) : (s.setMem x).secs = s.secs := rfl
@[simp] theorem State.setMem_inrush (s : State) (x : Memory) : (s.setMem x).inrush = s.inrush := rfl
@[simp] theorem State.setMem_trail (s : State) (x : Memory) : (s.setMem x).trail = s.trail := rfl
@[simp] theorem State.setMem_flt (s : State) (x : Memory) : (s.setMem x).flt = s.flt := rfl
@[simp] theorem State.setMem_recov (s : State) (x : Memory) : (s.setMem x).recov = s.recov := rfl
@[simp] theorem State.setMem_rings (s : State) (x : Memory) : (s.setMem x).rings = s.rings := rfl
@[simp] theorem State.setMem_wears (s : State) (x : Memory) : (s.setMem x).wears = s.wears := rfl
@[simp] theorem State.setMem_sparing (s : State) (x : Memory) : (s.setMem x).sparing = s.sparing := rfl
@[simp] theorem State.setMem_tally (s : State) (x : Memory) : (s.setMem x).tally = s.tally := rfl
@[simp] theorem State.setMem_mem (s : State) (x : Memory) : (s.setMem x).mem = x := rfl
@[simp] theorem State.setMem_stages (s : State) (x : Memory) : (s.setMem x).stages = s.stages := rfl
@[simp] theorem State.setMem_chans (s : State) (x : Memory) : (s.setMem x).chans = s.chans := rfl
@[simp] theorem State.setMem_adcs (s : State) (x : Memory) : (s.setMem x).adcs = s.adcs := rfl
@[simp] theorem State.setMem_adcOwed (s : State) (x : Memory) : (s.setMem x).adcOwed = s.adcOwed := rfl
@[simp] theorem State.setMem_late (s : State) (x : Memory) : (s.setMem x).late = s.late := rfl
@[simp] theorem State.setMem_quads (s : State) (x : Memory) : (s.setMem x).quads = s.quads := rfl
@[simp] theorem State.setMem_xchks (s : State) (x : Memory) : (s.setMem x).xchks = s.xchks := rfl
@[simp] theorem State.setMem_therm (s : State) (x : Memory) : (s.setMem x).therm = s.therm := rfl
@[simp] theorem State.setMem_cap (s : State) (x : Memory) : (s.setMem x).cap = s.cap := rfl
@[simp] theorem State.setMem_jobs (s : State) (x : Memory) : (s.setMem x).jobs = s.jobs := rfl
@[simp] theorem State.setMem_blk (s : State) (x : Memory) : (s.setMem x).blk = s.blk := rfl
@[simp] theorem State.setMem_plan (s : State) (x : Memory) : (s.setMem x).plan = s.plan := rfl
@[simp] theorem State.setMem_seat (s : State) (x : Memory) : (s.setMem x).seat = s.seat := rfl
@[simp] theorem State.setMem_lnk (s : State) (x : Memory) : (s.setMem x).lnk = s.lnk := rfl
@[simp] theorem State.setMem_boot (s : State) (x : Memory) : (s.setMem x).boot = s.boot := rfl
@[simp] theorem State.setMem_cal (s : State) (x : Memory) : (s.setMem x).cal = s.cal := rfl
@[simp] theorem State.setMem_pending (s : State) (x : Memory) : (s.setMem x).pending = s.pending := rfl
@[simp] theorem State.setStages_params (s : State) (x : Store Stage) : (s.setStages x).params = s.params := rfl
@[simp] theorem State.setStages_powered (s : State) (x : Store Stage) : (s.setStages x).powered = s.powered := rfl
@[simp] theorem State.setStages_tb (s : State) (x : Store Stage) : (s.setStages x).tb = s.tb := rfl
@[simp] theorem State.setStages_bridge (s : State) (x : Store Stage) : (s.setStages x).bridge = s.bridge := rfl
@[simp] theorem State.setStages_eng (s : State) (x : Store Stage) : (s.setStages x).eng = s.eng := rfl
@[simp] theorem State.setStages_regs (s : State) (x : Store Stage) : (s.setStages x).regs = s.regs := rfl
@[simp] theorem State.setStages_ports (s : State) (x : Store Stage) : (s.setStages x).ports = s.ports := rfl
@[simp] theorem State.setStages_dbg (s : State) (x : Store Stage) : (s.setStages x).dbg = s.dbg := rfl
@[simp] theorem State.setStages_cells (s : State) (x : Store Stage) : (s.setStages x).cells = s.cells := rfl
@[simp] theorem State.setStages_clus (s : State) (x : Store Stage) : (s.setStages x).clus = s.clus := rfl
@[simp] theorem State.setStages_secs (s : State) (x : Store Stage) : (s.setStages x).secs = s.secs := rfl
@[simp] theorem State.setStages_inrush (s : State) (x : Store Stage) : (s.setStages x).inrush = s.inrush := rfl
@[simp] theorem State.setStages_trail (s : State) (x : Store Stage) : (s.setStages x).trail = s.trail := rfl
@[simp] theorem State.setStages_flt (s : State) (x : Store Stage) : (s.setStages x).flt = s.flt := rfl
@[simp] theorem State.setStages_recov (s : State) (x : Store Stage) : (s.setStages x).recov = s.recov := rfl
@[simp] theorem State.setStages_rings (s : State) (x : Store Stage) : (s.setStages x).rings = s.rings := rfl
@[simp] theorem State.setStages_wears (s : State) (x : Store Stage) : (s.setStages x).wears = s.wears := rfl
@[simp] theorem State.setStages_sparing (s : State) (x : Store Stage) : (s.setStages x).sparing = s.sparing := rfl
@[simp] theorem State.setStages_tally (s : State) (x : Store Stage) : (s.setStages x).tally = s.tally := rfl
@[simp] theorem State.setStages_mem (s : State) (x : Store Stage) : (s.setStages x).mem = s.mem := rfl
@[simp] theorem State.setStages_stages (s : State) (x : Store Stage) : (s.setStages x).stages = x := rfl
@[simp] theorem State.setStages_chans (s : State) (x : Store Stage) : (s.setStages x).chans = s.chans := rfl
@[simp] theorem State.setStages_adcs (s : State) (x : Store Stage) : (s.setStages x).adcs = s.adcs := rfl
@[simp] theorem State.setStages_adcOwed (s : State) (x : Store Stage) : (s.setStages x).adcOwed = s.adcOwed := rfl
@[simp] theorem State.setStages_late (s : State) (x : Store Stage) : (s.setStages x).late = s.late := rfl
@[simp] theorem State.setStages_quads (s : State) (x : Store Stage) : (s.setStages x).quads = s.quads := rfl
@[simp] theorem State.setStages_xchks (s : State) (x : Store Stage) : (s.setStages x).xchks = s.xchks := rfl
@[simp] theorem State.setStages_therm (s : State) (x : Store Stage) : (s.setStages x).therm = s.therm := rfl
@[simp] theorem State.setStages_cap (s : State) (x : Store Stage) : (s.setStages x).cap = s.cap := rfl
@[simp] theorem State.setStages_jobs (s : State) (x : Store Stage) : (s.setStages x).jobs = s.jobs := rfl
@[simp] theorem State.setStages_blk (s : State) (x : Store Stage) : (s.setStages x).blk = s.blk := rfl
@[simp] theorem State.setStages_plan (s : State) (x : Store Stage) : (s.setStages x).plan = s.plan := rfl
@[simp] theorem State.setStages_seat (s : State) (x : Store Stage) : (s.setStages x).seat = s.seat := rfl
@[simp] theorem State.setStages_lnk (s : State) (x : Store Stage) : (s.setStages x).lnk = s.lnk := rfl
@[simp] theorem State.setStages_boot (s : State) (x : Store Stage) : (s.setStages x).boot = s.boot := rfl
@[simp] theorem State.setStages_cal (s : State) (x : Store Stage) : (s.setStages x).cal = s.cal := rfl
@[simp] theorem State.setStages_pending (s : State) (x : Store Stage) : (s.setStages x).pending = s.pending := rfl
@[simp] theorem State.setChans_params (s : State) (x : Store StgCh) : (s.setChans x).params = s.params := rfl
@[simp] theorem State.setChans_powered (s : State) (x : Store StgCh) : (s.setChans x).powered = s.powered := rfl
@[simp] theorem State.setChans_tb (s : State) (x : Store StgCh) : (s.setChans x).tb = s.tb := rfl
@[simp] theorem State.setChans_bridge (s : State) (x : Store StgCh) : (s.setChans x).bridge = s.bridge := rfl
@[simp] theorem State.setChans_eng (s : State) (x : Store StgCh) : (s.setChans x).eng = s.eng := rfl
@[simp] theorem State.setChans_regs (s : State) (x : Store StgCh) : (s.setChans x).regs = s.regs := rfl
@[simp] theorem State.setChans_ports (s : State) (x : Store StgCh) : (s.setChans x).ports = s.ports := rfl
@[simp] theorem State.setChans_dbg (s : State) (x : Store StgCh) : (s.setChans x).dbg = s.dbg := rfl
@[simp] theorem State.setChans_cells (s : State) (x : Store StgCh) : (s.setChans x).cells = s.cells := rfl
@[simp] theorem State.setChans_clus (s : State) (x : Store StgCh) : (s.setChans x).clus = s.clus := rfl
@[simp] theorem State.setChans_secs (s : State) (x : Store StgCh) : (s.setChans x).secs = s.secs := rfl
@[simp] theorem State.setChans_inrush (s : State) (x : Store StgCh) : (s.setChans x).inrush = s.inrush := rfl
@[simp] theorem State.setChans_trail (s : State) (x : Store StgCh) : (s.setChans x).trail = s.trail := rfl
@[simp] theorem State.setChans_flt (s : State) (x : Store StgCh) : (s.setChans x).flt = s.flt := rfl
@[simp] theorem State.setChans_recov (s : State) (x : Store StgCh) : (s.setChans x).recov = s.recov := rfl
@[simp] theorem State.setChans_rings (s : State) (x : Store StgCh) : (s.setChans x).rings = s.rings := rfl
@[simp] theorem State.setChans_wears (s : State) (x : Store StgCh) : (s.setChans x).wears = s.wears := rfl
@[simp] theorem State.setChans_sparing (s : State) (x : Store StgCh) : (s.setChans x).sparing = s.sparing := rfl
@[simp] theorem State.setChans_tally (s : State) (x : Store StgCh) : (s.setChans x).tally = s.tally := rfl
@[simp] theorem State.setChans_mem (s : State) (x : Store StgCh) : (s.setChans x).mem = s.mem := rfl
@[simp] theorem State.setChans_stages (s : State) (x : Store StgCh) : (s.setChans x).stages = s.stages := rfl
@[simp] theorem State.setChans_chans (s : State) (x : Store StgCh) : (s.setChans x).chans = x := rfl
@[simp] theorem State.setChans_adcs (s : State) (x : Store StgCh) : (s.setChans x).adcs = s.adcs := rfl
@[simp] theorem State.setChans_adcOwed (s : State) (x : Store StgCh) : (s.setChans x).adcOwed = s.adcOwed := rfl
@[simp] theorem State.setChans_late (s : State) (x : Store StgCh) : (s.setChans x).late = s.late := rfl
@[simp] theorem State.setChans_quads (s : State) (x : Store StgCh) : (s.setChans x).quads = s.quads := rfl
@[simp] theorem State.setChans_xchks (s : State) (x : Store StgCh) : (s.setChans x).xchks = s.xchks := rfl
@[simp] theorem State.setChans_therm (s : State) (x : Store StgCh) : (s.setChans x).therm = s.therm := rfl
@[simp] theorem State.setChans_cap (s : State) (x : Store StgCh) : (s.setChans x).cap = s.cap := rfl
@[simp] theorem State.setChans_jobs (s : State) (x : Store StgCh) : (s.setChans x).jobs = s.jobs := rfl
@[simp] theorem State.setChans_blk (s : State) (x : Store StgCh) : (s.setChans x).blk = s.blk := rfl
@[simp] theorem State.setChans_plan (s : State) (x : Store StgCh) : (s.setChans x).plan = s.plan := rfl
@[simp] theorem State.setChans_seat (s : State) (x : Store StgCh) : (s.setChans x).seat = s.seat := rfl
@[simp] theorem State.setChans_lnk (s : State) (x : Store StgCh) : (s.setChans x).lnk = s.lnk := rfl
@[simp] theorem State.setChans_boot (s : State) (x : Store StgCh) : (s.setChans x).boot = s.boot := rfl
@[simp] theorem State.setChans_cal (s : State) (x : Store StgCh) : (s.setChans x).cal = s.cal := rfl
@[simp] theorem State.setChans_pending (s : State) (x : Store StgCh) : (s.setChans x).pending = s.pending := rfl
@[simp] theorem State.setAdcs_params (s : State) (x : Store Adc) : (s.setAdcs x).params = s.params := rfl
@[simp] theorem State.setAdcs_powered (s : State) (x : Store Adc) : (s.setAdcs x).powered = s.powered := rfl
@[simp] theorem State.setAdcs_tb (s : State) (x : Store Adc) : (s.setAdcs x).tb = s.tb := rfl
@[simp] theorem State.setAdcs_bridge (s : State) (x : Store Adc) : (s.setAdcs x).bridge = s.bridge := rfl
@[simp] theorem State.setAdcs_eng (s : State) (x : Store Adc) : (s.setAdcs x).eng = s.eng := rfl
@[simp] theorem State.setAdcs_regs (s : State) (x : Store Adc) : (s.setAdcs x).regs = s.regs := rfl
@[simp] theorem State.setAdcs_ports (s : State) (x : Store Adc) : (s.setAdcs x).ports = s.ports := rfl
@[simp] theorem State.setAdcs_dbg (s : State) (x : Store Adc) : (s.setAdcs x).dbg = s.dbg := rfl
@[simp] theorem State.setAdcs_cells (s : State) (x : Store Adc) : (s.setAdcs x).cells = s.cells := rfl
@[simp] theorem State.setAdcs_clus (s : State) (x : Store Adc) : (s.setAdcs x).clus = s.clus := rfl
@[simp] theorem State.setAdcs_secs (s : State) (x : Store Adc) : (s.setAdcs x).secs = s.secs := rfl
@[simp] theorem State.setAdcs_inrush (s : State) (x : Store Adc) : (s.setAdcs x).inrush = s.inrush := rfl
@[simp] theorem State.setAdcs_trail (s : State) (x : Store Adc) : (s.setAdcs x).trail = s.trail := rfl
@[simp] theorem State.setAdcs_flt (s : State) (x : Store Adc) : (s.setAdcs x).flt = s.flt := rfl
@[simp] theorem State.setAdcs_recov (s : State) (x : Store Adc) : (s.setAdcs x).recov = s.recov := rfl
@[simp] theorem State.setAdcs_rings (s : State) (x : Store Adc) : (s.setAdcs x).rings = s.rings := rfl
@[simp] theorem State.setAdcs_wears (s : State) (x : Store Adc) : (s.setAdcs x).wears = s.wears := rfl
@[simp] theorem State.setAdcs_sparing (s : State) (x : Store Adc) : (s.setAdcs x).sparing = s.sparing := rfl
@[simp] theorem State.setAdcs_tally (s : State) (x : Store Adc) : (s.setAdcs x).tally = s.tally := rfl
@[simp] theorem State.setAdcs_mem (s : State) (x : Store Adc) : (s.setAdcs x).mem = s.mem := rfl
@[simp] theorem State.setAdcs_stages (s : State) (x : Store Adc) : (s.setAdcs x).stages = s.stages := rfl
@[simp] theorem State.setAdcs_chans (s : State) (x : Store Adc) : (s.setAdcs x).chans = s.chans := rfl
@[simp] theorem State.setAdcs_adcs (s : State) (x : Store Adc) : (s.setAdcs x).adcs = x := rfl
@[simp] theorem State.setAdcs_adcOwed (s : State) (x : Store Adc) : (s.setAdcs x).adcOwed = s.adcOwed := rfl
@[simp] theorem State.setAdcs_late (s : State) (x : Store Adc) : (s.setAdcs x).late = s.late := rfl
@[simp] theorem State.setAdcs_quads (s : State) (x : Store Adc) : (s.setAdcs x).quads = s.quads := rfl
@[simp] theorem State.setAdcs_xchks (s : State) (x : Store Adc) : (s.setAdcs x).xchks = s.xchks := rfl
@[simp] theorem State.setAdcs_therm (s : State) (x : Store Adc) : (s.setAdcs x).therm = s.therm := rfl
@[simp] theorem State.setAdcs_cap (s : State) (x : Store Adc) : (s.setAdcs x).cap = s.cap := rfl
@[simp] theorem State.setAdcs_jobs (s : State) (x : Store Adc) : (s.setAdcs x).jobs = s.jobs := rfl
@[simp] theorem State.setAdcs_blk (s : State) (x : Store Adc) : (s.setAdcs x).blk = s.blk := rfl
@[simp] theorem State.setAdcs_plan (s : State) (x : Store Adc) : (s.setAdcs x).plan = s.plan := rfl
@[simp] theorem State.setAdcs_seat (s : State) (x : Store Adc) : (s.setAdcs x).seat = s.seat := rfl
@[simp] theorem State.setAdcs_lnk (s : State) (x : Store Adc) : (s.setAdcs x).lnk = s.lnk := rfl
@[simp] theorem State.setAdcs_boot (s : State) (x : Store Adc) : (s.setAdcs x).boot = s.boot := rfl
@[simp] theorem State.setAdcs_cal (s : State) (x : Store Adc) : (s.setAdcs x).cal = s.cal := rfl
@[simp] theorem State.setAdcs_pending (s : State) (x : Store Adc) : (s.setAdcs x).pending = s.pending := rfl
@[simp] theorem State.setAdcOwed_params (s : State) (x : List (Nat × Nat)) : (s.setAdcOwed x).params = s.params := rfl
@[simp] theorem State.setAdcOwed_powered (s : State) (x : List (Nat × Nat)) : (s.setAdcOwed x).powered = s.powered := rfl
@[simp] theorem State.setAdcOwed_tb (s : State) (x : List (Nat × Nat)) : (s.setAdcOwed x).tb = s.tb := rfl
@[simp] theorem State.setAdcOwed_bridge (s : State) (x : List (Nat × Nat)) : (s.setAdcOwed x).bridge = s.bridge := rfl
@[simp] theorem State.setAdcOwed_eng (s : State) (x : List (Nat × Nat)) : (s.setAdcOwed x).eng = s.eng := rfl
@[simp] theorem State.setAdcOwed_regs (s : State) (x : List (Nat × Nat)) : (s.setAdcOwed x).regs = s.regs := rfl
@[simp] theorem State.setAdcOwed_ports (s : State) (x : List (Nat × Nat)) : (s.setAdcOwed x).ports = s.ports := rfl
@[simp] theorem State.setAdcOwed_dbg (s : State) (x : List (Nat × Nat)) : (s.setAdcOwed x).dbg = s.dbg := rfl
@[simp] theorem State.setAdcOwed_cells (s : State) (x : List (Nat × Nat)) : (s.setAdcOwed x).cells = s.cells := rfl
@[simp] theorem State.setAdcOwed_clus (s : State) (x : List (Nat × Nat)) : (s.setAdcOwed x).clus = s.clus := rfl
@[simp] theorem State.setAdcOwed_secs (s : State) (x : List (Nat × Nat)) : (s.setAdcOwed x).secs = s.secs := rfl
@[simp] theorem State.setAdcOwed_inrush (s : State) (x : List (Nat × Nat)) : (s.setAdcOwed x).inrush = s.inrush := rfl
@[simp] theorem State.setAdcOwed_trail (s : State) (x : List (Nat × Nat)) : (s.setAdcOwed x).trail = s.trail := rfl
@[simp] theorem State.setAdcOwed_flt (s : State) (x : List (Nat × Nat)) : (s.setAdcOwed x).flt = s.flt := rfl
@[simp] theorem State.setAdcOwed_recov (s : State) (x : List (Nat × Nat)) : (s.setAdcOwed x).recov = s.recov := rfl
@[simp] theorem State.setAdcOwed_rings (s : State) (x : List (Nat × Nat)) : (s.setAdcOwed x).rings = s.rings := rfl
@[simp] theorem State.setAdcOwed_wears (s : State) (x : List (Nat × Nat)) : (s.setAdcOwed x).wears = s.wears := rfl
@[simp] theorem State.setAdcOwed_sparing (s : State) (x : List (Nat × Nat)) : (s.setAdcOwed x).sparing = s.sparing := rfl
@[simp] theorem State.setAdcOwed_tally (s : State) (x : List (Nat × Nat)) : (s.setAdcOwed x).tally = s.tally := rfl
@[simp] theorem State.setAdcOwed_mem (s : State) (x : List (Nat × Nat)) : (s.setAdcOwed x).mem = s.mem := rfl
@[simp] theorem State.setAdcOwed_stages (s : State) (x : List (Nat × Nat)) : (s.setAdcOwed x).stages = s.stages := rfl
@[simp] theorem State.setAdcOwed_chans (s : State) (x : List (Nat × Nat)) : (s.setAdcOwed x).chans = s.chans := rfl
@[simp] theorem State.setAdcOwed_adcs (s : State) (x : List (Nat × Nat)) : (s.setAdcOwed x).adcs = s.adcs := rfl
@[simp] theorem State.setAdcOwed_adcOwed (s : State) (x : List (Nat × Nat)) : (s.setAdcOwed x).adcOwed = x := rfl
@[simp] theorem State.setAdcOwed_late (s : State) (x : List (Nat × Nat)) : (s.setAdcOwed x).late = s.late := rfl
@[simp] theorem State.setAdcOwed_quads (s : State) (x : List (Nat × Nat)) : (s.setAdcOwed x).quads = s.quads := rfl
@[simp] theorem State.setAdcOwed_xchks (s : State) (x : List (Nat × Nat)) : (s.setAdcOwed x).xchks = s.xchks := rfl
@[simp] theorem State.setAdcOwed_therm (s : State) (x : List (Nat × Nat)) : (s.setAdcOwed x).therm = s.therm := rfl
@[simp] theorem State.setAdcOwed_cap (s : State) (x : List (Nat × Nat)) : (s.setAdcOwed x).cap = s.cap := rfl
@[simp] theorem State.setAdcOwed_jobs (s : State) (x : List (Nat × Nat)) : (s.setAdcOwed x).jobs = s.jobs := rfl
@[simp] theorem State.setAdcOwed_blk (s : State) (x : List (Nat × Nat)) : (s.setAdcOwed x).blk = s.blk := rfl
@[simp] theorem State.setAdcOwed_plan (s : State) (x : List (Nat × Nat)) : (s.setAdcOwed x).plan = s.plan := rfl
@[simp] theorem State.setAdcOwed_seat (s : State) (x : List (Nat × Nat)) : (s.setAdcOwed x).seat = s.seat := rfl
@[simp] theorem State.setAdcOwed_lnk (s : State) (x : List (Nat × Nat)) : (s.setAdcOwed x).lnk = s.lnk := rfl
@[simp] theorem State.setAdcOwed_boot (s : State) (x : List (Nat × Nat)) : (s.setAdcOwed x).boot = s.boot := rfl
@[simp] theorem State.setAdcOwed_cal (s : State) (x : List (Nat × Nat)) : (s.setAdcOwed x).cal = s.cal := rfl
@[simp] theorem State.setAdcOwed_pending (s : State) (x : List (Nat × Nat)) : (s.setAdcOwed x).pending = s.pending := rfl
@[simp] theorem State.setLate_params (s : State) (x : List Late) : (s.setLate x).params = s.params := rfl
@[simp] theorem State.setLate_powered (s : State) (x : List Late) : (s.setLate x).powered = s.powered := rfl
@[simp] theorem State.setLate_tb (s : State) (x : List Late) : (s.setLate x).tb = s.tb := rfl
@[simp] theorem State.setLate_bridge (s : State) (x : List Late) : (s.setLate x).bridge = s.bridge := rfl
@[simp] theorem State.setLate_eng (s : State) (x : List Late) : (s.setLate x).eng = s.eng := rfl
@[simp] theorem State.setLate_regs (s : State) (x : List Late) : (s.setLate x).regs = s.regs := rfl
@[simp] theorem State.setLate_ports (s : State) (x : List Late) : (s.setLate x).ports = s.ports := rfl
@[simp] theorem State.setLate_dbg (s : State) (x : List Late) : (s.setLate x).dbg = s.dbg := rfl
@[simp] theorem State.setLate_cells (s : State) (x : List Late) : (s.setLate x).cells = s.cells := rfl
@[simp] theorem State.setLate_clus (s : State) (x : List Late) : (s.setLate x).clus = s.clus := rfl
@[simp] theorem State.setLate_secs (s : State) (x : List Late) : (s.setLate x).secs = s.secs := rfl
@[simp] theorem State.setLate_inrush (s : State) (x : List Late) : (s.setLate x).inrush = s.inrush := rfl
@[simp] theorem State.setLate_trail (s : State) (x : List Late) : (s.setLate x).trail = s.trail := rfl
@[simp] theorem State.setLate_flt (s : State) (x : List Late) : (s.setLate x).flt = s.flt := rfl
@[simp] theorem State.setLate_recov (s : State) (x : List Late) : (s.setLate x).recov = s.recov := rfl
@[simp] theorem State.setLate_rings (s : State) (x : List Late) : (s.setLate x).rings = s.rings := rfl
@[simp] theorem State.setLate_wears (s : State) (x : List Late) : (s.setLate x).wears = s.wears := rfl
@[simp] theorem State.setLate_sparing (s : State) (x : List Late) : (s.setLate x).sparing = s.sparing := rfl
@[simp] theorem State.setLate_tally (s : State) (x : List Late) : (s.setLate x).tally = s.tally := rfl
@[simp] theorem State.setLate_mem (s : State) (x : List Late) : (s.setLate x).mem = s.mem := rfl
@[simp] theorem State.setLate_stages (s : State) (x : List Late) : (s.setLate x).stages = s.stages := rfl
@[simp] theorem State.setLate_chans (s : State) (x : List Late) : (s.setLate x).chans = s.chans := rfl
@[simp] theorem State.setLate_adcs (s : State) (x : List Late) : (s.setLate x).adcs = s.adcs := rfl
@[simp] theorem State.setLate_adcOwed (s : State) (x : List Late) : (s.setLate x).adcOwed = s.adcOwed := rfl
@[simp] theorem State.setLate_late (s : State) (x : List Late) : (s.setLate x).late = x := rfl
@[simp] theorem State.setLate_quads (s : State) (x : List Late) : (s.setLate x).quads = s.quads := rfl
@[simp] theorem State.setLate_xchks (s : State) (x : List Late) : (s.setLate x).xchks = s.xchks := rfl
@[simp] theorem State.setLate_therm (s : State) (x : List Late) : (s.setLate x).therm = s.therm := rfl
@[simp] theorem State.setLate_cap (s : State) (x : List Late) : (s.setLate x).cap = s.cap := rfl
@[simp] theorem State.setLate_jobs (s : State) (x : List Late) : (s.setLate x).jobs = s.jobs := rfl
@[simp] theorem State.setLate_blk (s : State) (x : List Late) : (s.setLate x).blk = s.blk := rfl
@[simp] theorem State.setLate_plan (s : State) (x : List Late) : (s.setLate x).plan = s.plan := rfl
@[simp] theorem State.setLate_seat (s : State) (x : List Late) : (s.setLate x).seat = s.seat := rfl
@[simp] theorem State.setLate_lnk (s : State) (x : List Late) : (s.setLate x).lnk = s.lnk := rfl
@[simp] theorem State.setLate_boot (s : State) (x : List Late) : (s.setLate x).boot = s.boot := rfl
@[simp] theorem State.setLate_cal (s : State) (x : List Late) : (s.setLate x).cal = s.cal := rfl
@[simp] theorem State.setLate_pending (s : State) (x : List Late) : (s.setLate x).pending = s.pending := rfl
@[simp] theorem State.setQuads_params (s : State) (x : Store Quad) : (s.setQuads x).params = s.params := rfl
@[simp] theorem State.setQuads_powered (s : State) (x : Store Quad) : (s.setQuads x).powered = s.powered := rfl
@[simp] theorem State.setQuads_tb (s : State) (x : Store Quad) : (s.setQuads x).tb = s.tb := rfl
@[simp] theorem State.setQuads_bridge (s : State) (x : Store Quad) : (s.setQuads x).bridge = s.bridge := rfl
@[simp] theorem State.setQuads_eng (s : State) (x : Store Quad) : (s.setQuads x).eng = s.eng := rfl
@[simp] theorem State.setQuads_regs (s : State) (x : Store Quad) : (s.setQuads x).regs = s.regs := rfl
@[simp] theorem State.setQuads_ports (s : State) (x : Store Quad) : (s.setQuads x).ports = s.ports := rfl
@[simp] theorem State.setQuads_dbg (s : State) (x : Store Quad) : (s.setQuads x).dbg = s.dbg := rfl
@[simp] theorem State.setQuads_cells (s : State) (x : Store Quad) : (s.setQuads x).cells = s.cells := rfl
@[simp] theorem State.setQuads_clus (s : State) (x : Store Quad) : (s.setQuads x).clus = s.clus := rfl
@[simp] theorem State.setQuads_secs (s : State) (x : Store Quad) : (s.setQuads x).secs = s.secs := rfl
@[simp] theorem State.setQuads_inrush (s : State) (x : Store Quad) : (s.setQuads x).inrush = s.inrush := rfl
@[simp] theorem State.setQuads_trail (s : State) (x : Store Quad) : (s.setQuads x).trail = s.trail := rfl
@[simp] theorem State.setQuads_flt (s : State) (x : Store Quad) : (s.setQuads x).flt = s.flt := rfl
@[simp] theorem State.setQuads_recov (s : State) (x : Store Quad) : (s.setQuads x).recov = s.recov := rfl
@[simp] theorem State.setQuads_rings (s : State) (x : Store Quad) : (s.setQuads x).rings = s.rings := rfl
@[simp] theorem State.setQuads_wears (s : State) (x : Store Quad) : (s.setQuads x).wears = s.wears := rfl
@[simp] theorem State.setQuads_sparing (s : State) (x : Store Quad) : (s.setQuads x).sparing = s.sparing := rfl
@[simp] theorem State.setQuads_tally (s : State) (x : Store Quad) : (s.setQuads x).tally = s.tally := rfl
@[simp] theorem State.setQuads_mem (s : State) (x : Store Quad) : (s.setQuads x).mem = s.mem := rfl
@[simp] theorem State.setQuads_stages (s : State) (x : Store Quad) : (s.setQuads x).stages = s.stages := rfl
@[simp] theorem State.setQuads_chans (s : State) (x : Store Quad) : (s.setQuads x).chans = s.chans := rfl
@[simp] theorem State.setQuads_adcs (s : State) (x : Store Quad) : (s.setQuads x).adcs = s.adcs := rfl
@[simp] theorem State.setQuads_adcOwed (s : State) (x : Store Quad) : (s.setQuads x).adcOwed = s.adcOwed := rfl
@[simp] theorem State.setQuads_late (s : State) (x : Store Quad) : (s.setQuads x).late = s.late := rfl
@[simp] theorem State.setQuads_quads (s : State) (x : Store Quad) : (s.setQuads x).quads = x := rfl
@[simp] theorem State.setQuads_xchks (s : State) (x : Store Quad) : (s.setQuads x).xchks = s.xchks := rfl
@[simp] theorem State.setQuads_therm (s : State) (x : Store Quad) : (s.setQuads x).therm = s.therm := rfl
@[simp] theorem State.setQuads_cap (s : State) (x : Store Quad) : (s.setQuads x).cap = s.cap := rfl
@[simp] theorem State.setQuads_jobs (s : State) (x : Store Quad) : (s.setQuads x).jobs = s.jobs := rfl
@[simp] theorem State.setQuads_blk (s : State) (x : Store Quad) : (s.setQuads x).blk = s.blk := rfl
@[simp] theorem State.setQuads_plan (s : State) (x : Store Quad) : (s.setQuads x).plan = s.plan := rfl
@[simp] theorem State.setQuads_seat (s : State) (x : Store Quad) : (s.setQuads x).seat = s.seat := rfl
@[simp] theorem State.setQuads_lnk (s : State) (x : Store Quad) : (s.setQuads x).lnk = s.lnk := rfl
@[simp] theorem State.setQuads_boot (s : State) (x : Store Quad) : (s.setQuads x).boot = s.boot := rfl
@[simp] theorem State.setQuads_cal (s : State) (x : Store Quad) : (s.setQuads x).cal = s.cal := rfl
@[simp] theorem State.setQuads_pending (s : State) (x : Store Quad) : (s.setQuads x).pending = s.pending := rfl
@[simp] theorem State.setXchks_params (s : State) (x : Store Xchk) : (s.setXchks x).params = s.params := rfl
@[simp] theorem State.setXchks_powered (s : State) (x : Store Xchk) : (s.setXchks x).powered = s.powered := rfl
@[simp] theorem State.setXchks_tb (s : State) (x : Store Xchk) : (s.setXchks x).tb = s.tb := rfl
@[simp] theorem State.setXchks_bridge (s : State) (x : Store Xchk) : (s.setXchks x).bridge = s.bridge := rfl
@[simp] theorem State.setXchks_eng (s : State) (x : Store Xchk) : (s.setXchks x).eng = s.eng := rfl
@[simp] theorem State.setXchks_regs (s : State) (x : Store Xchk) : (s.setXchks x).regs = s.regs := rfl
@[simp] theorem State.setXchks_ports (s : State) (x : Store Xchk) : (s.setXchks x).ports = s.ports := rfl
@[simp] theorem State.setXchks_dbg (s : State) (x : Store Xchk) : (s.setXchks x).dbg = s.dbg := rfl
@[simp] theorem State.setXchks_cells (s : State) (x : Store Xchk) : (s.setXchks x).cells = s.cells := rfl
@[simp] theorem State.setXchks_clus (s : State) (x : Store Xchk) : (s.setXchks x).clus = s.clus := rfl
@[simp] theorem State.setXchks_secs (s : State) (x : Store Xchk) : (s.setXchks x).secs = s.secs := rfl
@[simp] theorem State.setXchks_inrush (s : State) (x : Store Xchk) : (s.setXchks x).inrush = s.inrush := rfl
@[simp] theorem State.setXchks_trail (s : State) (x : Store Xchk) : (s.setXchks x).trail = s.trail := rfl
@[simp] theorem State.setXchks_flt (s : State) (x : Store Xchk) : (s.setXchks x).flt = s.flt := rfl
@[simp] theorem State.setXchks_recov (s : State) (x : Store Xchk) : (s.setXchks x).recov = s.recov := rfl
@[simp] theorem State.setXchks_rings (s : State) (x : Store Xchk) : (s.setXchks x).rings = s.rings := rfl
@[simp] theorem State.setXchks_wears (s : State) (x : Store Xchk) : (s.setXchks x).wears = s.wears := rfl
@[simp] theorem State.setXchks_sparing (s : State) (x : Store Xchk) : (s.setXchks x).sparing = s.sparing := rfl
@[simp] theorem State.setXchks_tally (s : State) (x : Store Xchk) : (s.setXchks x).tally = s.tally := rfl
@[simp] theorem State.setXchks_mem (s : State) (x : Store Xchk) : (s.setXchks x).mem = s.mem := rfl
@[simp] theorem State.setXchks_stages (s : State) (x : Store Xchk) : (s.setXchks x).stages = s.stages := rfl
@[simp] theorem State.setXchks_chans (s : State) (x : Store Xchk) : (s.setXchks x).chans = s.chans := rfl
@[simp] theorem State.setXchks_adcs (s : State) (x : Store Xchk) : (s.setXchks x).adcs = s.adcs := rfl
@[simp] theorem State.setXchks_adcOwed (s : State) (x : Store Xchk) : (s.setXchks x).adcOwed = s.adcOwed := rfl
@[simp] theorem State.setXchks_late (s : State) (x : Store Xchk) : (s.setXchks x).late = s.late := rfl
@[simp] theorem State.setXchks_quads (s : State) (x : Store Xchk) : (s.setXchks x).quads = s.quads := rfl
@[simp] theorem State.setXchks_xchks (s : State) (x : Store Xchk) : (s.setXchks x).xchks = x := rfl
@[simp] theorem State.setXchks_therm (s : State) (x : Store Xchk) : (s.setXchks x).therm = s.therm := rfl
@[simp] theorem State.setXchks_cap (s : State) (x : Store Xchk) : (s.setXchks x).cap = s.cap := rfl
@[simp] theorem State.setXchks_jobs (s : State) (x : Store Xchk) : (s.setXchks x).jobs = s.jobs := rfl
@[simp] theorem State.setXchks_blk (s : State) (x : Store Xchk) : (s.setXchks x).blk = s.blk := rfl
@[simp] theorem State.setXchks_plan (s : State) (x : Store Xchk) : (s.setXchks x).plan = s.plan := rfl
@[simp] theorem State.setXchks_seat (s : State) (x : Store Xchk) : (s.setXchks x).seat = s.seat := rfl
@[simp] theorem State.setXchks_lnk (s : State) (x : Store Xchk) : (s.setXchks x).lnk = s.lnk := rfl
@[simp] theorem State.setXchks_boot (s : State) (x : Store Xchk) : (s.setXchks x).boot = s.boot := rfl
@[simp] theorem State.setXchks_cal (s : State) (x : Store Xchk) : (s.setXchks x).cal = s.cal := rfl
@[simp] theorem State.setXchks_pending (s : State) (x : Store Xchk) : (s.setXchks x).pending = s.pending := rfl
@[simp] theorem State.setTherm_params (s : State) (x : Therm) : (s.setTherm x).params = s.params := rfl
@[simp] theorem State.setTherm_powered (s : State) (x : Therm) : (s.setTherm x).powered = s.powered := rfl
@[simp] theorem State.setTherm_tb (s : State) (x : Therm) : (s.setTherm x).tb = s.tb := rfl
@[simp] theorem State.setTherm_bridge (s : State) (x : Therm) : (s.setTherm x).bridge = s.bridge := rfl
@[simp] theorem State.setTherm_eng (s : State) (x : Therm) : (s.setTherm x).eng = s.eng := rfl
@[simp] theorem State.setTherm_regs (s : State) (x : Therm) : (s.setTherm x).regs = s.regs := rfl
@[simp] theorem State.setTherm_ports (s : State) (x : Therm) : (s.setTherm x).ports = s.ports := rfl
@[simp] theorem State.setTherm_dbg (s : State) (x : Therm) : (s.setTherm x).dbg = s.dbg := rfl
@[simp] theorem State.setTherm_cells (s : State) (x : Therm) : (s.setTherm x).cells = s.cells := rfl
@[simp] theorem State.setTherm_clus (s : State) (x : Therm) : (s.setTherm x).clus = s.clus := rfl
@[simp] theorem State.setTherm_secs (s : State) (x : Therm) : (s.setTherm x).secs = s.secs := rfl
@[simp] theorem State.setTherm_inrush (s : State) (x : Therm) : (s.setTherm x).inrush = s.inrush := rfl
@[simp] theorem State.setTherm_trail (s : State) (x : Therm) : (s.setTherm x).trail = s.trail := rfl
@[simp] theorem State.setTherm_flt (s : State) (x : Therm) : (s.setTherm x).flt = s.flt := rfl
@[simp] theorem State.setTherm_recov (s : State) (x : Therm) : (s.setTherm x).recov = s.recov := rfl
@[simp] theorem State.setTherm_rings (s : State) (x : Therm) : (s.setTherm x).rings = s.rings := rfl
@[simp] theorem State.setTherm_wears (s : State) (x : Therm) : (s.setTherm x).wears = s.wears := rfl
@[simp] theorem State.setTherm_sparing (s : State) (x : Therm) : (s.setTherm x).sparing = s.sparing := rfl
@[simp] theorem State.setTherm_tally (s : State) (x : Therm) : (s.setTherm x).tally = s.tally := rfl
@[simp] theorem State.setTherm_mem (s : State) (x : Therm) : (s.setTherm x).mem = s.mem := rfl
@[simp] theorem State.setTherm_stages (s : State) (x : Therm) : (s.setTherm x).stages = s.stages := rfl
@[simp] theorem State.setTherm_chans (s : State) (x : Therm) : (s.setTherm x).chans = s.chans := rfl
@[simp] theorem State.setTherm_adcs (s : State) (x : Therm) : (s.setTherm x).adcs = s.adcs := rfl
@[simp] theorem State.setTherm_adcOwed (s : State) (x : Therm) : (s.setTherm x).adcOwed = s.adcOwed := rfl
@[simp] theorem State.setTherm_late (s : State) (x : Therm) : (s.setTherm x).late = s.late := rfl
@[simp] theorem State.setTherm_quads (s : State) (x : Therm) : (s.setTherm x).quads = s.quads := rfl
@[simp] theorem State.setTherm_xchks (s : State) (x : Therm) : (s.setTherm x).xchks = s.xchks := rfl
@[simp] theorem State.setTherm_therm (s : State) (x : Therm) : (s.setTherm x).therm = x := rfl
@[simp] theorem State.setTherm_cap (s : State) (x : Therm) : (s.setTherm x).cap = s.cap := rfl
@[simp] theorem State.setTherm_jobs (s : State) (x : Therm) : (s.setTherm x).jobs = s.jobs := rfl
@[simp] theorem State.setTherm_blk (s : State) (x : Therm) : (s.setTherm x).blk = s.blk := rfl
@[simp] theorem State.setTherm_plan (s : State) (x : Therm) : (s.setTherm x).plan = s.plan := rfl
@[simp] theorem State.setTherm_seat (s : State) (x : Therm) : (s.setTherm x).seat = s.seat := rfl
@[simp] theorem State.setTherm_lnk (s : State) (x : Therm) : (s.setTherm x).lnk = s.lnk := rfl
@[simp] theorem State.setTherm_boot (s : State) (x : Therm) : (s.setTherm x).boot = s.boot := rfl
@[simp] theorem State.setTherm_cal (s : State) (x : Therm) : (s.setTherm x).cal = s.cal := rfl
@[simp] theorem State.setTherm_pending (s : State) (x : Therm) : (s.setTherm x).pending = s.pending := rfl
@[simp] theorem State.setCap_params (s : State) (x : CapLoop) : (s.setCap x).params = s.params := rfl
@[simp] theorem State.setCap_powered (s : State) (x : CapLoop) : (s.setCap x).powered = s.powered := rfl
@[simp] theorem State.setCap_tb (s : State) (x : CapLoop) : (s.setCap x).tb = s.tb := rfl
@[simp] theorem State.setCap_bridge (s : State) (x : CapLoop) : (s.setCap x).bridge = s.bridge := rfl
@[simp] theorem State.setCap_eng (s : State) (x : CapLoop) : (s.setCap x).eng = s.eng := rfl
@[simp] theorem State.setCap_regs (s : State) (x : CapLoop) : (s.setCap x).regs = s.regs := rfl
@[simp] theorem State.setCap_ports (s : State) (x : CapLoop) : (s.setCap x).ports = s.ports := rfl
@[simp] theorem State.setCap_dbg (s : State) (x : CapLoop) : (s.setCap x).dbg = s.dbg := rfl
@[simp] theorem State.setCap_cells (s : State) (x : CapLoop) : (s.setCap x).cells = s.cells := rfl
@[simp] theorem State.setCap_clus (s : State) (x : CapLoop) : (s.setCap x).clus = s.clus := rfl
@[simp] theorem State.setCap_secs (s : State) (x : CapLoop) : (s.setCap x).secs = s.secs := rfl
@[simp] theorem State.setCap_inrush (s : State) (x : CapLoop) : (s.setCap x).inrush = s.inrush := rfl
@[simp] theorem State.setCap_trail (s : State) (x : CapLoop) : (s.setCap x).trail = s.trail := rfl
@[simp] theorem State.setCap_flt (s : State) (x : CapLoop) : (s.setCap x).flt = s.flt := rfl
@[simp] theorem State.setCap_recov (s : State) (x : CapLoop) : (s.setCap x).recov = s.recov := rfl
@[simp] theorem State.setCap_rings (s : State) (x : CapLoop) : (s.setCap x).rings = s.rings := rfl
@[simp] theorem State.setCap_wears (s : State) (x : CapLoop) : (s.setCap x).wears = s.wears := rfl
@[simp] theorem State.setCap_sparing (s : State) (x : CapLoop) : (s.setCap x).sparing = s.sparing := rfl
@[simp] theorem State.setCap_tally (s : State) (x : CapLoop) : (s.setCap x).tally = s.tally := rfl
@[simp] theorem State.setCap_mem (s : State) (x : CapLoop) : (s.setCap x).mem = s.mem := rfl
@[simp] theorem State.setCap_stages (s : State) (x : CapLoop) : (s.setCap x).stages = s.stages := rfl
@[simp] theorem State.setCap_chans (s : State) (x : CapLoop) : (s.setCap x).chans = s.chans := rfl
@[simp] theorem State.setCap_adcs (s : State) (x : CapLoop) : (s.setCap x).adcs = s.adcs := rfl
@[simp] theorem State.setCap_adcOwed (s : State) (x : CapLoop) : (s.setCap x).adcOwed = s.adcOwed := rfl
@[simp] theorem State.setCap_late (s : State) (x : CapLoop) : (s.setCap x).late = s.late := rfl
@[simp] theorem State.setCap_quads (s : State) (x : CapLoop) : (s.setCap x).quads = s.quads := rfl
@[simp] theorem State.setCap_xchks (s : State) (x : CapLoop) : (s.setCap x).xchks = s.xchks := rfl
@[simp] theorem State.setCap_therm (s : State) (x : CapLoop) : (s.setCap x).therm = s.therm := rfl
@[simp] theorem State.setCap_cap (s : State) (x : CapLoop) : (s.setCap x).cap = x := rfl
@[simp] theorem State.setCap_jobs (s : State) (x : CapLoop) : (s.setCap x).jobs = s.jobs := rfl
@[simp] theorem State.setCap_blk (s : State) (x : CapLoop) : (s.setCap x).blk = s.blk := rfl
@[simp] theorem State.setCap_plan (s : State) (x : CapLoop) : (s.setCap x).plan = s.plan := rfl
@[simp] theorem State.setCap_seat (s : State) (x : CapLoop) : (s.setCap x).seat = s.seat := rfl
@[simp] theorem State.setCap_lnk (s : State) (x : CapLoop) : (s.setCap x).lnk = s.lnk := rfl
@[simp] theorem State.setCap_boot (s : State) (x : CapLoop) : (s.setCap x).boot = s.boot := rfl
@[simp] theorem State.setCap_cal (s : State) (x : CapLoop) : (s.setCap x).cal = s.cal := rfl
@[simp] theorem State.setCap_pending (s : State) (x : CapLoop) : (s.setCap x).pending = s.pending := rfl
@[simp] theorem State.setJobs_params (s : State) (x : Store JobSlot) : (s.setJobs x).params = s.params := rfl
@[simp] theorem State.setJobs_powered (s : State) (x : Store JobSlot) : (s.setJobs x).powered = s.powered := rfl
@[simp] theorem State.setJobs_tb (s : State) (x : Store JobSlot) : (s.setJobs x).tb = s.tb := rfl
@[simp] theorem State.setJobs_bridge (s : State) (x : Store JobSlot) : (s.setJobs x).bridge = s.bridge := rfl
@[simp] theorem State.setJobs_eng (s : State) (x : Store JobSlot) : (s.setJobs x).eng = s.eng := rfl
@[simp] theorem State.setJobs_regs (s : State) (x : Store JobSlot) : (s.setJobs x).regs = s.regs := rfl
@[simp] theorem State.setJobs_ports (s : State) (x : Store JobSlot) : (s.setJobs x).ports = s.ports := rfl
@[simp] theorem State.setJobs_dbg (s : State) (x : Store JobSlot) : (s.setJobs x).dbg = s.dbg := rfl
@[simp] theorem State.setJobs_cells (s : State) (x : Store JobSlot) : (s.setJobs x).cells = s.cells := rfl
@[simp] theorem State.setJobs_clus (s : State) (x : Store JobSlot) : (s.setJobs x).clus = s.clus := rfl
@[simp] theorem State.setJobs_secs (s : State) (x : Store JobSlot) : (s.setJobs x).secs = s.secs := rfl
@[simp] theorem State.setJobs_inrush (s : State) (x : Store JobSlot) : (s.setJobs x).inrush = s.inrush := rfl
@[simp] theorem State.setJobs_trail (s : State) (x : Store JobSlot) : (s.setJobs x).trail = s.trail := rfl
@[simp] theorem State.setJobs_flt (s : State) (x : Store JobSlot) : (s.setJobs x).flt = s.flt := rfl
@[simp] theorem State.setJobs_recov (s : State) (x : Store JobSlot) : (s.setJobs x).recov = s.recov := rfl
@[simp] theorem State.setJobs_rings (s : State) (x : Store JobSlot) : (s.setJobs x).rings = s.rings := rfl
@[simp] theorem State.setJobs_wears (s : State) (x : Store JobSlot) : (s.setJobs x).wears = s.wears := rfl
@[simp] theorem State.setJobs_sparing (s : State) (x : Store JobSlot) : (s.setJobs x).sparing = s.sparing := rfl
@[simp] theorem State.setJobs_tally (s : State) (x : Store JobSlot) : (s.setJobs x).tally = s.tally := rfl
@[simp] theorem State.setJobs_mem (s : State) (x : Store JobSlot) : (s.setJobs x).mem = s.mem := rfl
@[simp] theorem State.setJobs_stages (s : State) (x : Store JobSlot) : (s.setJobs x).stages = s.stages := rfl
@[simp] theorem State.setJobs_chans (s : State) (x : Store JobSlot) : (s.setJobs x).chans = s.chans := rfl
@[simp] theorem State.setJobs_adcs (s : State) (x : Store JobSlot) : (s.setJobs x).adcs = s.adcs := rfl
@[simp] theorem State.setJobs_adcOwed (s : State) (x : Store JobSlot) : (s.setJobs x).adcOwed = s.adcOwed := rfl
@[simp] theorem State.setJobs_late (s : State) (x : Store JobSlot) : (s.setJobs x).late = s.late := rfl
@[simp] theorem State.setJobs_quads (s : State) (x : Store JobSlot) : (s.setJobs x).quads = s.quads := rfl
@[simp] theorem State.setJobs_xchks (s : State) (x : Store JobSlot) : (s.setJobs x).xchks = s.xchks := rfl
@[simp] theorem State.setJobs_therm (s : State) (x : Store JobSlot) : (s.setJobs x).therm = s.therm := rfl
@[simp] theorem State.setJobs_cap (s : State) (x : Store JobSlot) : (s.setJobs x).cap = s.cap := rfl
@[simp] theorem State.setJobs_jobs (s : State) (x : Store JobSlot) : (s.setJobs x).jobs = x := rfl
@[simp] theorem State.setJobs_blk (s : State) (x : Store JobSlot) : (s.setJobs x).blk = s.blk := rfl
@[simp] theorem State.setJobs_plan (s : State) (x : Store JobSlot) : (s.setJobs x).plan = s.plan := rfl
@[simp] theorem State.setJobs_seat (s : State) (x : Store JobSlot) : (s.setJobs x).seat = s.seat := rfl
@[simp] theorem State.setJobs_lnk (s : State) (x : Store JobSlot) : (s.setJobs x).lnk = s.lnk := rfl
@[simp] theorem State.setJobs_boot (s : State) (x : Store JobSlot) : (s.setJobs x).boot = s.boot := rfl
@[simp] theorem State.setJobs_cal (s : State) (x : Store JobSlot) : (s.setJobs x).cal = s.cal := rfl
@[simp] theorem State.setJobs_pending (s : State) (x : Store JobSlot) : (s.setJobs x).pending = s.pending := rfl
@[simp] theorem State.setBlk_params (s : State) (x : Blanket) : (s.setBlk x).params = s.params := rfl
@[simp] theorem State.setBlk_powered (s : State) (x : Blanket) : (s.setBlk x).powered = s.powered := rfl
@[simp] theorem State.setBlk_tb (s : State) (x : Blanket) : (s.setBlk x).tb = s.tb := rfl
@[simp] theorem State.setBlk_bridge (s : State) (x : Blanket) : (s.setBlk x).bridge = s.bridge := rfl
@[simp] theorem State.setBlk_eng (s : State) (x : Blanket) : (s.setBlk x).eng = s.eng := rfl
@[simp] theorem State.setBlk_regs (s : State) (x : Blanket) : (s.setBlk x).regs = s.regs := rfl
@[simp] theorem State.setBlk_ports (s : State) (x : Blanket) : (s.setBlk x).ports = s.ports := rfl
@[simp] theorem State.setBlk_dbg (s : State) (x : Blanket) : (s.setBlk x).dbg = s.dbg := rfl
@[simp] theorem State.setBlk_cells (s : State) (x : Blanket) : (s.setBlk x).cells = s.cells := rfl
@[simp] theorem State.setBlk_clus (s : State) (x : Blanket) : (s.setBlk x).clus = s.clus := rfl
@[simp] theorem State.setBlk_secs (s : State) (x : Blanket) : (s.setBlk x).secs = s.secs := rfl
@[simp] theorem State.setBlk_inrush (s : State) (x : Blanket) : (s.setBlk x).inrush = s.inrush := rfl
@[simp] theorem State.setBlk_trail (s : State) (x : Blanket) : (s.setBlk x).trail = s.trail := rfl
@[simp] theorem State.setBlk_flt (s : State) (x : Blanket) : (s.setBlk x).flt = s.flt := rfl
@[simp] theorem State.setBlk_recov (s : State) (x : Blanket) : (s.setBlk x).recov = s.recov := rfl
@[simp] theorem State.setBlk_rings (s : State) (x : Blanket) : (s.setBlk x).rings = s.rings := rfl
@[simp] theorem State.setBlk_wears (s : State) (x : Blanket) : (s.setBlk x).wears = s.wears := rfl
@[simp] theorem State.setBlk_sparing (s : State) (x : Blanket) : (s.setBlk x).sparing = s.sparing := rfl
@[simp] theorem State.setBlk_tally (s : State) (x : Blanket) : (s.setBlk x).tally = s.tally := rfl
@[simp] theorem State.setBlk_mem (s : State) (x : Blanket) : (s.setBlk x).mem = s.mem := rfl
@[simp] theorem State.setBlk_stages (s : State) (x : Blanket) : (s.setBlk x).stages = s.stages := rfl
@[simp] theorem State.setBlk_chans (s : State) (x : Blanket) : (s.setBlk x).chans = s.chans := rfl
@[simp] theorem State.setBlk_adcs (s : State) (x : Blanket) : (s.setBlk x).adcs = s.adcs := rfl
@[simp] theorem State.setBlk_adcOwed (s : State) (x : Blanket) : (s.setBlk x).adcOwed = s.adcOwed := rfl
@[simp] theorem State.setBlk_late (s : State) (x : Blanket) : (s.setBlk x).late = s.late := rfl
@[simp] theorem State.setBlk_quads (s : State) (x : Blanket) : (s.setBlk x).quads = s.quads := rfl
@[simp] theorem State.setBlk_xchks (s : State) (x : Blanket) : (s.setBlk x).xchks = s.xchks := rfl
@[simp] theorem State.setBlk_therm (s : State) (x : Blanket) : (s.setBlk x).therm = s.therm := rfl
@[simp] theorem State.setBlk_cap (s : State) (x : Blanket) : (s.setBlk x).cap = s.cap := rfl
@[simp] theorem State.setBlk_jobs (s : State) (x : Blanket) : (s.setBlk x).jobs = s.jobs := rfl
@[simp] theorem State.setBlk_blk (s : State) (x : Blanket) : (s.setBlk x).blk = x := rfl
@[simp] theorem State.setBlk_plan (s : State) (x : Blanket) : (s.setBlk x).plan = s.plan := rfl
@[simp] theorem State.setBlk_seat (s : State) (x : Blanket) : (s.setBlk x).seat = s.seat := rfl
@[simp] theorem State.setBlk_lnk (s : State) (x : Blanket) : (s.setBlk x).lnk = s.lnk := rfl
@[simp] theorem State.setBlk_boot (s : State) (x : Blanket) : (s.setBlk x).boot = s.boot := rfl
@[simp] theorem State.setBlk_cal (s : State) (x : Blanket) : (s.setBlk x).cal = s.cal := rfl
@[simp] theorem State.setBlk_pending (s : State) (x : Blanket) : (s.setBlk x).pending = s.pending := rfl
@[simp] theorem State.setPlan_params (s : State) (x : Plan) : (s.setPlan x).params = s.params := rfl
@[simp] theorem State.setPlan_powered (s : State) (x : Plan) : (s.setPlan x).powered = s.powered := rfl
@[simp] theorem State.setPlan_tb (s : State) (x : Plan) : (s.setPlan x).tb = s.tb := rfl
@[simp] theorem State.setPlan_bridge (s : State) (x : Plan) : (s.setPlan x).bridge = s.bridge := rfl
@[simp] theorem State.setPlan_eng (s : State) (x : Plan) : (s.setPlan x).eng = s.eng := rfl
@[simp] theorem State.setPlan_regs (s : State) (x : Plan) : (s.setPlan x).regs = s.regs := rfl
@[simp] theorem State.setPlan_ports (s : State) (x : Plan) : (s.setPlan x).ports = s.ports := rfl
@[simp] theorem State.setPlan_dbg (s : State) (x : Plan) : (s.setPlan x).dbg = s.dbg := rfl
@[simp] theorem State.setPlan_cells (s : State) (x : Plan) : (s.setPlan x).cells = s.cells := rfl
@[simp] theorem State.setPlan_clus (s : State) (x : Plan) : (s.setPlan x).clus = s.clus := rfl
@[simp] theorem State.setPlan_secs (s : State) (x : Plan) : (s.setPlan x).secs = s.secs := rfl
@[simp] theorem State.setPlan_inrush (s : State) (x : Plan) : (s.setPlan x).inrush = s.inrush := rfl
@[simp] theorem State.setPlan_trail (s : State) (x : Plan) : (s.setPlan x).trail = s.trail := rfl
@[simp] theorem State.setPlan_flt (s : State) (x : Plan) : (s.setPlan x).flt = s.flt := rfl
@[simp] theorem State.setPlan_recov (s : State) (x : Plan) : (s.setPlan x).recov = s.recov := rfl
@[simp] theorem State.setPlan_rings (s : State) (x : Plan) : (s.setPlan x).rings = s.rings := rfl
@[simp] theorem State.setPlan_wears (s : State) (x : Plan) : (s.setPlan x).wears = s.wears := rfl
@[simp] theorem State.setPlan_sparing (s : State) (x : Plan) : (s.setPlan x).sparing = s.sparing := rfl
@[simp] theorem State.setPlan_tally (s : State) (x : Plan) : (s.setPlan x).tally = s.tally := rfl
@[simp] theorem State.setPlan_mem (s : State) (x : Plan) : (s.setPlan x).mem = s.mem := rfl
@[simp] theorem State.setPlan_stages (s : State) (x : Plan) : (s.setPlan x).stages = s.stages := rfl
@[simp] theorem State.setPlan_chans (s : State) (x : Plan) : (s.setPlan x).chans = s.chans := rfl
@[simp] theorem State.setPlan_adcs (s : State) (x : Plan) : (s.setPlan x).adcs = s.adcs := rfl
@[simp] theorem State.setPlan_adcOwed (s : State) (x : Plan) : (s.setPlan x).adcOwed = s.adcOwed := rfl
@[simp] theorem State.setPlan_late (s : State) (x : Plan) : (s.setPlan x).late = s.late := rfl
@[simp] theorem State.setPlan_quads (s : State) (x : Plan) : (s.setPlan x).quads = s.quads := rfl
@[simp] theorem State.setPlan_xchks (s : State) (x : Plan) : (s.setPlan x).xchks = s.xchks := rfl
@[simp] theorem State.setPlan_therm (s : State) (x : Plan) : (s.setPlan x).therm = s.therm := rfl
@[simp] theorem State.setPlan_cap (s : State) (x : Plan) : (s.setPlan x).cap = s.cap := rfl
@[simp] theorem State.setPlan_jobs (s : State) (x : Plan) : (s.setPlan x).jobs = s.jobs := rfl
@[simp] theorem State.setPlan_blk (s : State) (x : Plan) : (s.setPlan x).blk = s.blk := rfl
@[simp] theorem State.setPlan_plan (s : State) (x : Plan) : (s.setPlan x).plan = x := rfl
@[simp] theorem State.setPlan_seat (s : State) (x : Plan) : (s.setPlan x).seat = s.seat := rfl
@[simp] theorem State.setPlan_lnk (s : State) (x : Plan) : (s.setPlan x).lnk = s.lnk := rfl
@[simp] theorem State.setPlan_boot (s : State) (x : Plan) : (s.setPlan x).boot = s.boot := rfl
@[simp] theorem State.setPlan_cal (s : State) (x : Plan) : (s.setPlan x).cal = s.cal := rfl
@[simp] theorem State.setPlan_pending (s : State) (x : Plan) : (s.setPlan x).pending = s.pending := rfl
@[simp] theorem State.setSeat_params (s : State) (x : Seat) : (s.setSeat x).params = s.params := rfl
@[simp] theorem State.setSeat_powered (s : State) (x : Seat) : (s.setSeat x).powered = s.powered := rfl
@[simp] theorem State.setSeat_tb (s : State) (x : Seat) : (s.setSeat x).tb = s.tb := rfl
@[simp] theorem State.setSeat_bridge (s : State) (x : Seat) : (s.setSeat x).bridge = s.bridge := rfl
@[simp] theorem State.setSeat_eng (s : State) (x : Seat) : (s.setSeat x).eng = s.eng := rfl
@[simp] theorem State.setSeat_regs (s : State) (x : Seat) : (s.setSeat x).regs = s.regs := rfl
@[simp] theorem State.setSeat_ports (s : State) (x : Seat) : (s.setSeat x).ports = s.ports := rfl
@[simp] theorem State.setSeat_dbg (s : State) (x : Seat) : (s.setSeat x).dbg = s.dbg := rfl
@[simp] theorem State.setSeat_cells (s : State) (x : Seat) : (s.setSeat x).cells = s.cells := rfl
@[simp] theorem State.setSeat_clus (s : State) (x : Seat) : (s.setSeat x).clus = s.clus := rfl
@[simp] theorem State.setSeat_secs (s : State) (x : Seat) : (s.setSeat x).secs = s.secs := rfl
@[simp] theorem State.setSeat_inrush (s : State) (x : Seat) : (s.setSeat x).inrush = s.inrush := rfl
@[simp] theorem State.setSeat_trail (s : State) (x : Seat) : (s.setSeat x).trail = s.trail := rfl
@[simp] theorem State.setSeat_flt (s : State) (x : Seat) : (s.setSeat x).flt = s.flt := rfl
@[simp] theorem State.setSeat_recov (s : State) (x : Seat) : (s.setSeat x).recov = s.recov := rfl
@[simp] theorem State.setSeat_rings (s : State) (x : Seat) : (s.setSeat x).rings = s.rings := rfl
@[simp] theorem State.setSeat_wears (s : State) (x : Seat) : (s.setSeat x).wears = s.wears := rfl
@[simp] theorem State.setSeat_sparing (s : State) (x : Seat) : (s.setSeat x).sparing = s.sparing := rfl
@[simp] theorem State.setSeat_tally (s : State) (x : Seat) : (s.setSeat x).tally = s.tally := rfl
@[simp] theorem State.setSeat_mem (s : State) (x : Seat) : (s.setSeat x).mem = s.mem := rfl
@[simp] theorem State.setSeat_stages (s : State) (x : Seat) : (s.setSeat x).stages = s.stages := rfl
@[simp] theorem State.setSeat_chans (s : State) (x : Seat) : (s.setSeat x).chans = s.chans := rfl
@[simp] theorem State.setSeat_adcs (s : State) (x : Seat) : (s.setSeat x).adcs = s.adcs := rfl
@[simp] theorem State.setSeat_adcOwed (s : State) (x : Seat) : (s.setSeat x).adcOwed = s.adcOwed := rfl
@[simp] theorem State.setSeat_late (s : State) (x : Seat) : (s.setSeat x).late = s.late := rfl
@[simp] theorem State.setSeat_quads (s : State) (x : Seat) : (s.setSeat x).quads = s.quads := rfl
@[simp] theorem State.setSeat_xchks (s : State) (x : Seat) : (s.setSeat x).xchks = s.xchks := rfl
@[simp] theorem State.setSeat_therm (s : State) (x : Seat) : (s.setSeat x).therm = s.therm := rfl
@[simp] theorem State.setSeat_cap (s : State) (x : Seat) : (s.setSeat x).cap = s.cap := rfl
@[simp] theorem State.setSeat_jobs (s : State) (x : Seat) : (s.setSeat x).jobs = s.jobs := rfl
@[simp] theorem State.setSeat_blk (s : State) (x : Seat) : (s.setSeat x).blk = s.blk := rfl
@[simp] theorem State.setSeat_plan (s : State) (x : Seat) : (s.setSeat x).plan = s.plan := rfl
@[simp] theorem State.setSeat_seat (s : State) (x : Seat) : (s.setSeat x).seat = x := rfl
@[simp] theorem State.setSeat_lnk (s : State) (x : Seat) : (s.setSeat x).lnk = s.lnk := rfl
@[simp] theorem State.setSeat_boot (s : State) (x : Seat) : (s.setSeat x).boot = s.boot := rfl
@[simp] theorem State.setSeat_cal (s : State) (x : Seat) : (s.setSeat x).cal = s.cal := rfl
@[simp] theorem State.setSeat_pending (s : State) (x : Seat) : (s.setSeat x).pending = s.pending := rfl
@[simp] theorem State.setLnk_params (s : State) (x : Links) : (s.setLnk x).params = s.params := rfl
@[simp] theorem State.setLnk_powered (s : State) (x : Links) : (s.setLnk x).powered = s.powered := rfl
@[simp] theorem State.setLnk_tb (s : State) (x : Links) : (s.setLnk x).tb = s.tb := rfl
@[simp] theorem State.setLnk_bridge (s : State) (x : Links) : (s.setLnk x).bridge = s.bridge := rfl
@[simp] theorem State.setLnk_eng (s : State) (x : Links) : (s.setLnk x).eng = s.eng := rfl
@[simp] theorem State.setLnk_regs (s : State) (x : Links) : (s.setLnk x).regs = s.regs := rfl
@[simp] theorem State.setLnk_ports (s : State) (x : Links) : (s.setLnk x).ports = s.ports := rfl
@[simp] theorem State.setLnk_dbg (s : State) (x : Links) : (s.setLnk x).dbg = s.dbg := rfl
@[simp] theorem State.setLnk_cells (s : State) (x : Links) : (s.setLnk x).cells = s.cells := rfl
@[simp] theorem State.setLnk_clus (s : State) (x : Links) : (s.setLnk x).clus = s.clus := rfl
@[simp] theorem State.setLnk_secs (s : State) (x : Links) : (s.setLnk x).secs = s.secs := rfl
@[simp] theorem State.setLnk_inrush (s : State) (x : Links) : (s.setLnk x).inrush = s.inrush := rfl
@[simp] theorem State.setLnk_trail (s : State) (x : Links) : (s.setLnk x).trail = s.trail := rfl
@[simp] theorem State.setLnk_flt (s : State) (x : Links) : (s.setLnk x).flt = s.flt := rfl
@[simp] theorem State.setLnk_recov (s : State) (x : Links) : (s.setLnk x).recov = s.recov := rfl
@[simp] theorem State.setLnk_rings (s : State) (x : Links) : (s.setLnk x).rings = s.rings := rfl
@[simp] theorem State.setLnk_wears (s : State) (x : Links) : (s.setLnk x).wears = s.wears := rfl
@[simp] theorem State.setLnk_sparing (s : State) (x : Links) : (s.setLnk x).sparing = s.sparing := rfl
@[simp] theorem State.setLnk_tally (s : State) (x : Links) : (s.setLnk x).tally = s.tally := rfl
@[simp] theorem State.setLnk_mem (s : State) (x : Links) : (s.setLnk x).mem = s.mem := rfl
@[simp] theorem State.setLnk_stages (s : State) (x : Links) : (s.setLnk x).stages = s.stages := rfl
@[simp] theorem State.setLnk_chans (s : State) (x : Links) : (s.setLnk x).chans = s.chans := rfl
@[simp] theorem State.setLnk_adcs (s : State) (x : Links) : (s.setLnk x).adcs = s.adcs := rfl
@[simp] theorem State.setLnk_adcOwed (s : State) (x : Links) : (s.setLnk x).adcOwed = s.adcOwed := rfl
@[simp] theorem State.setLnk_late (s : State) (x : Links) : (s.setLnk x).late = s.late := rfl
@[simp] theorem State.setLnk_quads (s : State) (x : Links) : (s.setLnk x).quads = s.quads := rfl
@[simp] theorem State.setLnk_xchks (s : State) (x : Links) : (s.setLnk x).xchks = s.xchks := rfl
@[simp] theorem State.setLnk_therm (s : State) (x : Links) : (s.setLnk x).therm = s.therm := rfl
@[simp] theorem State.setLnk_cap (s : State) (x : Links) : (s.setLnk x).cap = s.cap := rfl
@[simp] theorem State.setLnk_jobs (s : State) (x : Links) : (s.setLnk x).jobs = s.jobs := rfl
@[simp] theorem State.setLnk_blk (s : State) (x : Links) : (s.setLnk x).blk = s.blk := rfl
@[simp] theorem State.setLnk_plan (s : State) (x : Links) : (s.setLnk x).plan = s.plan := rfl
@[simp] theorem State.setLnk_seat (s : State) (x : Links) : (s.setLnk x).seat = s.seat := rfl
@[simp] theorem State.setLnk_lnk (s : State) (x : Links) : (s.setLnk x).lnk = x := rfl
@[simp] theorem State.setLnk_boot (s : State) (x : Links) : (s.setLnk x).boot = s.boot := rfl
@[simp] theorem State.setLnk_cal (s : State) (x : Links) : (s.setLnk x).cal = s.cal := rfl
@[simp] theorem State.setLnk_pending (s : State) (x : Links) : (s.setLnk x).pending = s.pending := rfl
@[simp] theorem State.setBoot_params (s : State) (x : Boot) : (s.setBoot x).params = s.params := rfl
@[simp] theorem State.setBoot_powered (s : State) (x : Boot) : (s.setBoot x).powered = s.powered := rfl
@[simp] theorem State.setBoot_tb (s : State) (x : Boot) : (s.setBoot x).tb = s.tb := rfl
@[simp] theorem State.setBoot_bridge (s : State) (x : Boot) : (s.setBoot x).bridge = s.bridge := rfl
@[simp] theorem State.setBoot_eng (s : State) (x : Boot) : (s.setBoot x).eng = s.eng := rfl
@[simp] theorem State.setBoot_regs (s : State) (x : Boot) : (s.setBoot x).regs = s.regs := rfl
@[simp] theorem State.setBoot_ports (s : State) (x : Boot) : (s.setBoot x).ports = s.ports := rfl
@[simp] theorem State.setBoot_dbg (s : State) (x : Boot) : (s.setBoot x).dbg = s.dbg := rfl
@[simp] theorem State.setBoot_cells (s : State) (x : Boot) : (s.setBoot x).cells = s.cells := rfl
@[simp] theorem State.setBoot_clus (s : State) (x : Boot) : (s.setBoot x).clus = s.clus := rfl
@[simp] theorem State.setBoot_secs (s : State) (x : Boot) : (s.setBoot x).secs = s.secs := rfl
@[simp] theorem State.setBoot_inrush (s : State) (x : Boot) : (s.setBoot x).inrush = s.inrush := rfl
@[simp] theorem State.setBoot_trail (s : State) (x : Boot) : (s.setBoot x).trail = s.trail := rfl
@[simp] theorem State.setBoot_flt (s : State) (x : Boot) : (s.setBoot x).flt = s.flt := rfl
@[simp] theorem State.setBoot_recov (s : State) (x : Boot) : (s.setBoot x).recov = s.recov := rfl
@[simp] theorem State.setBoot_rings (s : State) (x : Boot) : (s.setBoot x).rings = s.rings := rfl
@[simp] theorem State.setBoot_wears (s : State) (x : Boot) : (s.setBoot x).wears = s.wears := rfl
@[simp] theorem State.setBoot_sparing (s : State) (x : Boot) : (s.setBoot x).sparing = s.sparing := rfl
@[simp] theorem State.setBoot_tally (s : State) (x : Boot) : (s.setBoot x).tally = s.tally := rfl
@[simp] theorem State.setBoot_mem (s : State) (x : Boot) : (s.setBoot x).mem = s.mem := rfl
@[simp] theorem State.setBoot_stages (s : State) (x : Boot) : (s.setBoot x).stages = s.stages := rfl
@[simp] theorem State.setBoot_chans (s : State) (x : Boot) : (s.setBoot x).chans = s.chans := rfl
@[simp] theorem State.setBoot_adcs (s : State) (x : Boot) : (s.setBoot x).adcs = s.adcs := rfl
@[simp] theorem State.setBoot_adcOwed (s : State) (x : Boot) : (s.setBoot x).adcOwed = s.adcOwed := rfl
@[simp] theorem State.setBoot_late (s : State) (x : Boot) : (s.setBoot x).late = s.late := rfl
@[simp] theorem State.setBoot_quads (s : State) (x : Boot) : (s.setBoot x).quads = s.quads := rfl
@[simp] theorem State.setBoot_xchks (s : State) (x : Boot) : (s.setBoot x).xchks = s.xchks := rfl
@[simp] theorem State.setBoot_therm (s : State) (x : Boot) : (s.setBoot x).therm = s.therm := rfl
@[simp] theorem State.setBoot_cap (s : State) (x : Boot) : (s.setBoot x).cap = s.cap := rfl
@[simp] theorem State.setBoot_jobs (s : State) (x : Boot) : (s.setBoot x).jobs = s.jobs := rfl
@[simp] theorem State.setBoot_blk (s : State) (x : Boot) : (s.setBoot x).blk = s.blk := rfl
@[simp] theorem State.setBoot_plan (s : State) (x : Boot) : (s.setBoot x).plan = s.plan := rfl
@[simp] theorem State.setBoot_seat (s : State) (x : Boot) : (s.setBoot x).seat = s.seat := rfl
@[simp] theorem State.setBoot_lnk (s : State) (x : Boot) : (s.setBoot x).lnk = s.lnk := rfl
@[simp] theorem State.setBoot_boot (s : State) (x : Boot) : (s.setBoot x).boot = x := rfl
@[simp] theorem State.setBoot_cal (s : State) (x : Boot) : (s.setBoot x).cal = s.cal := rfl
@[simp] theorem State.setBoot_pending (s : State) (x : Boot) : (s.setBoot x).pending = s.pending := rfl
@[simp] theorem State.setCal_params (s : State) (x : CalStore) : (s.setCal x).params = s.params := rfl
@[simp] theorem State.setCal_powered (s : State) (x : CalStore) : (s.setCal x).powered = s.powered := rfl
@[simp] theorem State.setCal_tb (s : State) (x : CalStore) : (s.setCal x).tb = s.tb := rfl
@[simp] theorem State.setCal_bridge (s : State) (x : CalStore) : (s.setCal x).bridge = s.bridge := rfl
@[simp] theorem State.setCal_eng (s : State) (x : CalStore) : (s.setCal x).eng = s.eng := rfl
@[simp] theorem State.setCal_regs (s : State) (x : CalStore) : (s.setCal x).regs = s.regs := rfl
@[simp] theorem State.setCal_ports (s : State) (x : CalStore) : (s.setCal x).ports = s.ports := rfl
@[simp] theorem State.setCal_dbg (s : State) (x : CalStore) : (s.setCal x).dbg = s.dbg := rfl
@[simp] theorem State.setCal_cells (s : State) (x : CalStore) : (s.setCal x).cells = s.cells := rfl
@[simp] theorem State.setCal_clus (s : State) (x : CalStore) : (s.setCal x).clus = s.clus := rfl
@[simp] theorem State.setCal_secs (s : State) (x : CalStore) : (s.setCal x).secs = s.secs := rfl
@[simp] theorem State.setCal_inrush (s : State) (x : CalStore) : (s.setCal x).inrush = s.inrush := rfl
@[simp] theorem State.setCal_trail (s : State) (x : CalStore) : (s.setCal x).trail = s.trail := rfl
@[simp] theorem State.setCal_flt (s : State) (x : CalStore) : (s.setCal x).flt = s.flt := rfl
@[simp] theorem State.setCal_recov (s : State) (x : CalStore) : (s.setCal x).recov = s.recov := rfl
@[simp] theorem State.setCal_rings (s : State) (x : CalStore) : (s.setCal x).rings = s.rings := rfl
@[simp] theorem State.setCal_wears (s : State) (x : CalStore) : (s.setCal x).wears = s.wears := rfl
@[simp] theorem State.setCal_sparing (s : State) (x : CalStore) : (s.setCal x).sparing = s.sparing := rfl
@[simp] theorem State.setCal_tally (s : State) (x : CalStore) : (s.setCal x).tally = s.tally := rfl
@[simp] theorem State.setCal_mem (s : State) (x : CalStore) : (s.setCal x).mem = s.mem := rfl
@[simp] theorem State.setCal_stages (s : State) (x : CalStore) : (s.setCal x).stages = s.stages := rfl
@[simp] theorem State.setCal_chans (s : State) (x : CalStore) : (s.setCal x).chans = s.chans := rfl
@[simp] theorem State.setCal_adcs (s : State) (x : CalStore) : (s.setCal x).adcs = s.adcs := rfl
@[simp] theorem State.setCal_adcOwed (s : State) (x : CalStore) : (s.setCal x).adcOwed = s.adcOwed := rfl
@[simp] theorem State.setCal_late (s : State) (x : CalStore) : (s.setCal x).late = s.late := rfl
@[simp] theorem State.setCal_quads (s : State) (x : CalStore) : (s.setCal x).quads = s.quads := rfl
@[simp] theorem State.setCal_xchks (s : State) (x : CalStore) : (s.setCal x).xchks = s.xchks := rfl
@[simp] theorem State.setCal_therm (s : State) (x : CalStore) : (s.setCal x).therm = s.therm := rfl
@[simp] theorem State.setCal_cap (s : State) (x : CalStore) : (s.setCal x).cap = s.cap := rfl
@[simp] theorem State.setCal_jobs (s : State) (x : CalStore) : (s.setCal x).jobs = s.jobs := rfl
@[simp] theorem State.setCal_blk (s : State) (x : CalStore) : (s.setCal x).blk = s.blk := rfl
@[simp] theorem State.setCal_plan (s : State) (x : CalStore) : (s.setCal x).plan = s.plan := rfl
@[simp] theorem State.setCal_seat (s : State) (x : CalStore) : (s.setCal x).seat = s.seat := rfl
@[simp] theorem State.setCal_lnk (s : State) (x : CalStore) : (s.setCal x).lnk = s.lnk := rfl
@[simp] theorem State.setCal_boot (s : State) (x : CalStore) : (s.setCal x).boot = s.boot := rfl
@[simp] theorem State.setCal_cal (s : State) (x : CalStore) : (s.setCal x).cal = x := rfl
@[simp] theorem State.setCal_pending (s : State) (x : CalStore) : (s.setCal x).pending = s.pending := rfl
@[simp] theorem State.setPending_params (s : State) (x : List Instr) : (s.setPending x).params = s.params := rfl
@[simp] theorem State.setPending_powered (s : State) (x : List Instr) : (s.setPending x).powered = s.powered := rfl
@[simp] theorem State.setPending_tb (s : State) (x : List Instr) : (s.setPending x).tb = s.tb := rfl
@[simp] theorem State.setPending_bridge (s : State) (x : List Instr) : (s.setPending x).bridge = s.bridge := rfl
@[simp] theorem State.setPending_eng (s : State) (x : List Instr) : (s.setPending x).eng = s.eng := rfl
@[simp] theorem State.setPending_regs (s : State) (x : List Instr) : (s.setPending x).regs = s.regs := rfl
@[simp] theorem State.setPending_ports (s : State) (x : List Instr) : (s.setPending x).ports = s.ports := rfl
@[simp] theorem State.setPending_dbg (s : State) (x : List Instr) : (s.setPending x).dbg = s.dbg := rfl
@[simp] theorem State.setPending_cells (s : State) (x : List Instr) : (s.setPending x).cells = s.cells := rfl
@[simp] theorem State.setPending_clus (s : State) (x : List Instr) : (s.setPending x).clus = s.clus := rfl
@[simp] theorem State.setPending_secs (s : State) (x : List Instr) : (s.setPending x).secs = s.secs := rfl
@[simp] theorem State.setPending_inrush (s : State) (x : List Instr) : (s.setPending x).inrush = s.inrush := rfl
@[simp] theorem State.setPending_trail (s : State) (x : List Instr) : (s.setPending x).trail = s.trail := rfl
@[simp] theorem State.setPending_flt (s : State) (x : List Instr) : (s.setPending x).flt = s.flt := rfl
@[simp] theorem State.setPending_recov (s : State) (x : List Instr) : (s.setPending x).recov = s.recov := rfl
@[simp] theorem State.setPending_rings (s : State) (x : List Instr) : (s.setPending x).rings = s.rings := rfl
@[simp] theorem State.setPending_wears (s : State) (x : List Instr) : (s.setPending x).wears = s.wears := rfl
@[simp] theorem State.setPending_sparing (s : State) (x : List Instr) : (s.setPending x).sparing = s.sparing := rfl
@[simp] theorem State.setPending_tally (s : State) (x : List Instr) : (s.setPending x).tally = s.tally := rfl
@[simp] theorem State.setPending_mem (s : State) (x : List Instr) : (s.setPending x).mem = s.mem := rfl
@[simp] theorem State.setPending_stages (s : State) (x : List Instr) : (s.setPending x).stages = s.stages := rfl
@[simp] theorem State.setPending_chans (s : State) (x : List Instr) : (s.setPending x).chans = s.chans := rfl
@[simp] theorem State.setPending_adcs (s : State) (x : List Instr) : (s.setPending x).adcs = s.adcs := rfl
@[simp] theorem State.setPending_adcOwed (s : State) (x : List Instr) : (s.setPending x).adcOwed = s.adcOwed := rfl
@[simp] theorem State.setPending_late (s : State) (x : List Instr) : (s.setPending x).late = s.late := rfl
@[simp] theorem State.setPending_quads (s : State) (x : List Instr) : (s.setPending x).quads = s.quads := rfl
@[simp] theorem State.setPending_xchks (s : State) (x : List Instr) : (s.setPending x).xchks = s.xchks := rfl
@[simp] theorem State.setPending_therm (s : State) (x : List Instr) : (s.setPending x).therm = s.therm := rfl
@[simp] theorem State.setPending_cap (s : State) (x : List Instr) : (s.setPending x).cap = s.cap := rfl
@[simp] theorem State.setPending_jobs (s : State) (x : List Instr) : (s.setPending x).jobs = s.jobs := rfl
@[simp] theorem State.setPending_blk (s : State) (x : List Instr) : (s.setPending x).blk = s.blk := rfl
@[simp] theorem State.setPending_plan (s : State) (x : List Instr) : (s.setPending x).plan = s.plan := rfl
@[simp] theorem State.setPending_seat (s : State) (x : List Instr) : (s.setPending x).seat = s.seat := rfl
@[simp] theorem State.setPending_lnk (s : State) (x : List Instr) : (s.setPending x).lnk = s.lnk := rfl
@[simp] theorem State.setPending_boot (s : State) (x : List Instr) : (s.setPending x).boot = s.boot := rfl
@[simp] theorem State.setPending_cal (s : State) (x : List Instr) : (s.setPending x).cal = s.cal := rfl
@[simp] theorem State.setPending_pending (s : State) (x : List Instr) : (s.setPending x).pending = x := rfl

end Sys2Proof.Machine
end

