-- ==== Sys2Proof/WellFormed.lean ====
section
/-! DEFINITION. Well-formed commands: every numbered operand names a unit of the largest build (R3, R7), and every access
has a width that the fabric has (R560). -/

namespace Sys2Proof

def isSector (n : Nat) : Bool := decide (n < 64)
def isCluster (n : Nat) : Bool := decide (n < 256)
def isCell (n : Nat) : Bool := decide (n < 4096)
def isQuad (n : Nat) : Bool := decide (n < 4)
def isDomain (n : Nat) : Bool := decide (n < 4)
def isChannel (n : Nat) : Bool := decide (n < 80)
def isConverter (n : Nat) : Bool := decide (n < 12)
def isForm (f : Form) : Bool := [8, 16, 32, 64, 128].contains f.width

/-- An engine of R49 that exists in the largest build. -/
def EngineId.ok (e : EngineId) : Bool :=
  match e with
  | .sector s => isSector s
  | .compensator d => isDomain d
  | .arbiter q => isQuad q
  | .tally | .capLoop | .thermal | .faultMgr => true

/-- A target error of the I3C Basic specification. -/
def I3cFault.ok (k : I3cFault) : Bool :=
  match k with
  | .te n => decide (n < 7)
  | .form | .unlisted _ => true

/-- The operands of a command are within the ranges of the largest build. -/
def Instr.wellFormed (i : Instr) : Bool :=
  match i with
  | .engineCompletion e => e.ok
  | .bridgeEnergyFrame inst _ _ _ => decide (inst < 4)
  | .registerWrite _ f _ | .atomicAdd _ f _ | .bitAliasWrite _ f _ | .rcRegisterRead _ f | .resultRegisterRead _ f
  | .trailPush _ f _ | .trailCancel _ f _ | .modelStagingWrite _ f _ | .seatEntryWrite _ f _ => isForm f
  | .legStuckOff c p => isCell c && decide (p < 64)
  | .cellLegSpared c | .cellLegStuckOn c | .cellStep c _ | .cellStartDone c | .cellOvercurrent c
  | .cellCmpConflict c | .cluTrimWrite c => isCell c
  | .cluSpareTimeout g | .cluSensorDisagree g | .cluSensorLost g | .droopTrip g | .schussForceEnd g _
  | .schussRelease g | .schussLong g | .secTrimLimit g | .clusterEnable g | .retestStepDone g _ => isCluster g
  | .cluCellcmdIsolate _ s _ | .cluCellcmdRetest _ s _ | .cluCellcmdPass _ s _ | .cluCellcmdFail _ s _
  | .cluCellcmdRotate _ s _ | .sectorEngineStart s _ | .sectorEngineLatch s | .secBandReadback s _
  | .secCmdPlausClear _ s | .secCmdToSpare _ s | .secCmdHandback _ s | .spareEngineSwitch s | .chairliftSectorStep s
  | .chlIlkTimeout s | .chlSettleTimeout s | .neighbourCheck s _ | .switchOffComplete s => isSector s
  | .inrushGrant q | .inrushReservationEnd q | .trailHeldPushAccept q | .trailPushTimeout q | .telemetryResult q _
  | .sequencePassEnd q | .urgentRequest q _ _ | .qdUrgreqGo _ q _ | .urgentConversionStart q | .urgentResult q _
  | .ringPresent q _ _ _ _ _ _ _ | .arbiterDrawStart q | .arbiterDrawLatch q | .ringTransactionComplete q _
  | .lockLimitExpiry q | .sequenceEntryStart q => isQuad q
  | .trailArm q i | .trailPresent q i | .trailExpire q i | .trailMiss q i | .trailHoldEnd q i => isQuad q && decide (i < 256)
  | .activityMessage l _ => decide (l < 16)
  | .chairliftRailStep d | .stgCmdStart _ d | .stgCmdStop _ d | .stgCmdRetire _ d _ | .stgCmdReturn _ d _
  | .stgSoftEntry d | .compensatorStart d | .compensatorLatch d | .stgConfirmDone d | .stgPgTimeout d | .stgSsShort d
  | .switchingPeriodStart d | .stgBUpdate d | .stgUv d | .stgOv d | .stgSenseLost d | .railTargetUpdate d
  | .adcXchkResult d _ | .quietPeriodEnd d | .shutdownDomainStop d => isDomain d
  | .adcXchkArbitration d q => isDomain d && isQuad q
  | .switchingCycleStart c | .fastLimitTrip c | .zeroCrossing c | .stgChOverload c => isChannel c
  | .adcCalPair n _ _ | .adcCmdRetire _ n | .adcCmdRetest _ n | .adcRetestDone n
  | .railConverterResult n _ => isConverter n
  | .adcCorrErr x => isConverter x.conv
  | .adcReplaceConnect r => decide (r < 8)
  | .lookupQuery p _ _ _ | .lookupAnswer p => decide (p < 8)
  | .bankGroupIdle g => decide (g < 128)
  | .lnkUnplannedOff g => decide (g < 16)
  | .calWriteRequest t k => decide (t < 16) && decide (k < 16)
  | .i3cError k => k.ok
  | .coldStart | .powerLoss | .pllFirstLock _ _ | .tbPllUnlock | .tbRefLost _ | .refGoodAgain _ | .tbHoldoverExpired
  | .tbTickLoRead _ _ | .tbTickHiRead _ | .tbSlackRead _ _ | .bridgeSyncFrame _ _ | .bridgeStrobeFrame _ _
  | .bridgeCapFrame _ _ | .brgSyncLost | .secondaryLockTimeout | .genUpdateGo _ | .updStrobeEdge | .strobeApplyTick
  | .boundaryApply | .lcTakeEffect | .parityWalk | .genParinjWrite _ _ _ | .genSnapGo _ | .trailCmdFlush _ _
  | .tallyStart _ | .tallyLatch | .talLoadInstall _ _ | .talLoadAbort _ | .tallyInstallCheckDone | .tallyInstallActivate
  | .thermalStart | .thermalLatch | .thermalGraceExpiry | .enforceStep | .thmCmdRetire _ _ | .thmCmdReturn _ _
  | .thmCmdTreturn _ _ | .capLoopStart | .capLoopLatch | .energyAccumulate | .jobEnergyAdd | .hostJobstart _ _
  | .hostJobend _ _ | .blanketEvaluation | .blanketLevelDrive | .blkMsgEnter _ | .blkMsgExit _ | .placementDecision
  | .migrationDestReady | .migrationPowerTimeout | .migrationCopyTimeout | .seatMigack _ _ _ | .seatFlip | .seatGraceEnd
  | .seatCmdMove _ _ _ | .seatCmdRetire _ _ _ | .seatCmdReturn _ _ _ | .seatCmdScrub _ _ | .seatCmdAbort _ | .scrubHoldEnd
  | .seatWake _ _ | .migRecordResponse _ | .poweredSecond | .wearSaveDue | .rotationStart | .calCmdSelftestSector _ _
  | .calCmdSelftestSpare _ _ | .selfTestDone _ | .dbgCmd _ _ | .faultLatch | .fltInject _ _ _ | .aliveToggle
  | .alertWriteResponse _ | .ibiComplete | .chipQuietEnd | .fltCmdRearm _ | .fltCmdClear _ _ | .fltCmdClearChip _
  | .flashResetWaitEnd | .flashJedecId _ | .flashSfdpRead _ | .flashScanDone _ _ | .flashProgramDone _ | .flashEraseDone _
  | .calOpTimeout | .calReclaim | .calScrubDue _ | .calStcmdSave _ _ _ | .calStcmdScrub _ _ | .calStcmdTombstone _ _ _
  | .bootLoadDone | .genBootcmdSafeProfile _ | .genBootcmdShutdown _ | .genBootcmdRestart _ | .genBootcmdWarmReset _ _
  | .bootSenseDone | .bootSlotStart | .shutdownTimeout | .lnkDiscPresent _ _ _ | .lnkDiscDone _ | .lnkDiscTimeout
  | .lnkReqOn _ _ | .lnkReqOff _ _ | .i3cEnec _ _ | .i3cDisec _ _ | .i3cRstdaa | .i3cEntdaa _ | .i3cSetdasa _ _
  | .i3cSetnewda _ | .i3cSetmwl _ | .i3cGetmwl | .i3cSetmrl _ | .i3cGetmrl | .i3cGetpid | .i3cGetbcr | .i3cGetdcr
  | .i3cGetstatus | .i3cEnthdr | .i3cHdrExit | .i3cPrivateWrite _ | .i3cReadHeader _ | .i3cPrivateRead
  | .testLogicReset => true

end Sys2Proof
end

