-- ==== Sys2Proof/Tests/Slice0.lean ====
section
/-! SUPPORT. Tests of the model, and witnesses of the statements' hypotheses: each `witness_<Statement>` shows states and operands
that meet them, with what the statement concludes there. -/

namespace Sys2Proof.Tests

set_option Elab.async false

open Sys2Proof.Machine

/-! ## Helpers -/

/-- The next state that a command answers. -/
def run (c : Instr) (s : State) : State :=
  match exec c s with
  | .next t => t
  | _ => s

abbrev R : State := State.reset
/-- The secure master and another one, at the fabric port. -/
def sm : Access := { port := .fabric, attr := true }
def nm : Access := { port := .fabric, attr := false }
/-- A word access of good form. -/
def word (off : Nat) : Form := ⟨BitVec.ofNat 24 off, 32, true⟩
/-- The counter runs and stands at `n`. -/
def at0 (n : Nat) (s : State) : State := s.setTb { s.tb with running := true, tick := BitVec.ofNat 64 n, elapsed := n }
/-- A configuration word with both copies `w`. -/
def conf (off : Nat) (w : Word) (s : State) : State := setActive off w (setShadow off w s)
/-- Nothing but the parts of `l` changes, evaluated. -/
def same (p : Part) (s t : State) : Bool := @decide (p.same s t) (by cases p <;> unfold Part.same <;> infer_instance)
def only (l : List Part) (s t : State) : Bool :=
  ([.params, .powered, .time, .held, .tb, .bridge, .eng, .shadow, .active, .live, .regs, .ports, .dbg, .cells, .clus, .secs, .inrush,
    .trail, .flt, .recov, .rings, .wears, .sparing, .tally, .mem, .stages, .chans, .adcs, .adcOwed, .late, .quads, .xchks, .therm, .cap,
    .jobs, .blk, .plan, .seat, .lnk, .boot, .cal, .pending] : List Part).all (fun p => l.contains p || same p s t)
/-- The registration of a source in `s`. -/
def regOf (src det : Nat) (s : State) : Reg := ⟨src, det, s.tb.tick, now s, now s + 8, false⟩
def raised (src det : Nat) (s t : State) : Bool := t.flt.regq == s.flt.regq ++ [regOf src det s]
def among (src det : Nat) (s t : State) : Bool := t.flt.regq.contains (regOf src det s)
/-- A counter grew by one. -/
def counted (off : Nat) (s t : State) : Bool := (live t off).toNat == (live s off).toNat + 1
def countedF (off hi lo : Nat) (s t : State) : Bool := (live t off).field hi lo == (live s off).field hi lo + 1
/-- A command answered with the state it leaves. -/
def answers (c : Instr) (s t : State) : Bool :=
  match exec c s with
  | .next u => u == t
  | _ => false

/-! ## Well-formed commands: each check refuses an ill-formed term -/

theorem test_sector_in_range : Instr.wellFormed (.sectorEngineLatch 64) = false := by decide +kernel
theorem test_cluster_in_range : Instr.wellFormed (.cluSensorLost 256) = false := by decide +kernel
theorem test_cell_in_range : Instr.wellFormed (.cellStartDone 4096) = false := by decide +kernel
theorem test_leg_in_range : Instr.wellFormed (.legStuckOff 0 64) = false := by decide +kernel
theorem test_quadrant_in_range : Instr.wellFormed (.inrushGrant 4) = false := by decide +kernel
theorem test_slot_in_range : Instr.wellFormed (.trailArm 0 256) = false := by decide +kernel
theorem test_domain_in_range : Instr.wellFormed (.stgUv 4) = false := by decide +kernel
theorem test_channel_in_range : Instr.wellFormed (.zeroCrossing 80) = false := by decide +kernel
theorem test_converter_in_range : Instr.wellFormed (.adcRetestDone 12) = false := by decide +kernel
theorem test_role_in_range : Instr.wellFormed (.adcReplaceConnect 8) = false := by decide +kernel
theorem test_form_width : Instr.wellFormed (.registerWrite sm ⟨0, 24, true⟩ 0) = false := by decide +kernel
theorem test_engine_in_range : Instr.wellFormed (.engineCompletion (.compensator 4)) = false := by decide +kernel
theorem test_instance_in_range : Instr.wellFormed (.bridgeEnergyFrame 4 0 0 0) = false := by decide +kernel
theorem test_lane_in_range : Instr.wellFormed (.activityMessage 16 0) = false := by decide +kernel
theorem test_port_in_range : Instr.wellFormed (.lookupAnswer 8) = false := by decide +kernel
theorem test_bank_group_in_range : Instr.wellFormed (.bankGroupIdle 128) = false := by decide +kernel
theorem test_link_group_in_range : Instr.wellFormed (.lnkUnplannedOff 16) = false := by decide +kernel
theorem test_record_type_in_range : Instr.wellFormed (.calWriteRequest 16 0) = false := by decide +kernel
theorem test_i3c_error_code : Instr.wellFormed (.i3cError (.te 7)) = false := by decide +kernel
theorem test_well_formed : Instr.wellFormed (.registerWrite sm (word 0x8040) 1) = true := by decide +kernel

/-! ## Steps, registers and accesses -/

theorem witness_steps_run_front : ∃ t, step { R with pending := [.tbPllUnlock, .powerLoss] } = .next t ∧ t.pending = [.powerLoss] := by
  exact ⟨_, rfl, rfl⟩

/-- Two ticks of idling, without power and with. -/
theorem witness_idle_step : (∃ t, step R = .next t ∧ t.tb.elapsed = 1 ∧ t.tb.tick = 0) ∧
    (∃ t, step (at0 4 R) = .next t ∧ t.tb.elapsed = 5 ∧ t.tb.tick = 5) ∧ step { R with powered := false } = .next { R with powered := false } := by
  exact ⟨⟨_, rfl, rfl, rfl⟩, ⟨_, rfl, rfl, rfl⟩, rfl⟩

def lateHold : State := (conf (tbO Reg.TB_HOLDOVER) 1 (at0 1250000 (R.setTb { R.tb with hold := true }))).setLate [.holdover]
theorem witness_late_time : .holdover ∈ lateOrder lateHold ∧ syncMissed (estP / 2) lateHold = false ∧
    ((match step lateHold with | .next t => t | _ => R).tb.expired) = true ∧
    ((match step { lateHold with boot := { lateHold.boot with resetAt := some 1250000 } } with | .next t => t | _ => R).tb.expired) = false := by
  decide +kernel

/-- `TAL_CTL`-like Shadow words: `FLT_SEV0` is RWS, and so a Shadow word of a secure master. -/
theorem witness_shadow_write : (word 0x2040).full = true ∧ (word 0x2040).off.toNat = 0x2040 ∧ (placed R.params 0x2040).map (fun x => (x.1.acc, x.1.cls)) = some (.rws, .shadow) ∧
    frozenNow R = none ∧ shadowOf (run (.registerWrite sm (word 0x2040) 0x11111111) R) 0x2040 = 0x01111111 ∧
    activeOf (run (.registerWrite sm (word 0x2040) 0x11111111) R) 0x2040 = 0x02315522 ∧
    (run (.registerWrite sm (word 0x2040) 0x11111111) R).regs.pend = [0x2040] ∧
    only [.shadow, .regs, .live, .ports] R (run (.registerWrite sm (word 0x2040) 0x11111111) R) = true := by decide +kernel

def shares : State := conf (pwrO Reg.PWR_CTL) 1 R
theorem witness_share_refused : cfgB shares (pwrO Reg.PWR_CTL) 0 = true ∧
    (run (.registerWrite sm (word (pwrO Reg.PWR_DSHARE)) 5) shares).regs.pend = [] ∧
    countedF (pwrO PAGE_STAT) 15 8 shares (run (.registerWrite sm (word (pwrO Reg.PWR_DSHARE)) 5) shares) = true := by decide +kernel

theorem witness_shadow_read : answers (.rcRegisterRead sm (word 0x2040)) R (respond sm (.ok 0x02315522) R) = true := by decide +kernel

theorem witness_nonsecure : secure R nm = false ∧ answers (.registerWrite nm (word 0x2040) 0) R (respond nm (.ok 0) (countNonsec nm R)) = true ∧
    answers (.resultRegisterRead nm (word 0x2040)) R (respond nm (.ok 0) (countNonsec nm R)) = true := by decide +kernel

def counters : State := setLive (tbO Reg.TB_FAILOVERS) 7 (setLive (qdO 0 Reg.QD_GND) 0x80000123 (setLive (genO Reg.GEN_ACCERR) 5 R))
theorem witness_rc_read : rcWord R.params (genO Reg.GEN_ACCERR) = true ∧
    (run (.rcRegisterRead sm (word (genO Reg.GEN_ACCERR))) counters).ports.fab = .ok 5 ∧
    live (run (.rcRegisterRead sm (word (genO Reg.GEN_ACCERR))) counters) (genO Reg.GEN_ACCERR) = 0 := by decide +kernel
theorem witness_result_read : resultWord R.params (qdO 0 Reg.QD_GND) = true ∧
    (run (.resultRegisterRead sm (word (qdO 0 Reg.QD_GND))) counters).ports.fab = .ok 0x80000123 ∧
    live (run (.resultRegisterRead sm (word (qdO 0 Reg.QD_GND))) counters) (qdO 0 Reg.QD_GND) = 0x123 := by decide +kernel

/-- Read in the tick in which a time ran out: the read shows what that brings, and it stays cleared. -/
def lateRead : State := at0 1250000 (setLive (tbO PAGE_FLT) 1 lateHold)
theorem witness_late_read : waiting lateRead = true ∧ wasSeen lateRead (tbO PAGE_FLT) none = false ∧
    (run (.rcRegisterRead sm (word (tbO PAGE_FLT))) lateRead).regs.seen = [(tbO PAGE_FLT, none)] ∧
    live (endTick (run (.rcRegisterRead sm (word (tbO PAGE_FLT))) lateRead)) (tbO PAGE_FLT) = 0 := by decide +kernel

theorem witness_wide_write : shadowOf (run (.registerWrite sm ⟨0x2048, 64, true⟩ 0x1111111122222222) R) 0x2048 =
    storedBits R.params 0x2048 0x22222222 ∧
    shadowOf (run (.registerWrite sm ⟨0x2048, 64, true⟩ 0x1111111122222222) R) 0x204C =
    storedBits R.params 0x204C 0x11111111 := by decide +kernel
theorem witness_bad_form : formOk ⟨0x2042, 32, true⟩ [32, 64] = false ∧
    answers (.registerWrite sm ⟨0x2042, 32, true⟩ 0) R (formError sm R) = true ∧
    answers (.atomicAdd sm ⟨0x104000, 32, true⟩ 0) R (formError sm R) = true ∧
    countedF (genO Reg.GEN_ACCERR) 7 0 R (formError sm R) = true := by decide +kernel

theorem witness_atomic_add : (placed R.params (genO Reg.GEN_RDSEL)).map (fun x => (x.1.acc, x.1.cls)) = some (.rw, .imm) ∧
    live (run (.atomicAdd sm (word (genO Reg.GEN_RDSEL)) 3) R) (genO Reg.GEN_RDSEL) = 3 ∧
    live (run (.atomicAdd sm (word (genO Reg.GEN_RDSEL)) 0xFFFFFFFF) R) (genO Reg.GEN_RDSEL) = 3 := by decide +kernel
/-- Bit 4 of `FLT_SEV0`. -/
theorem witness_alias_write : aliasOf (word (0x800000 + 0x2040 * 32 + 4 * 4)) = (0x2040, 4) ∧
    shadowOf (run (.bitAliasWrite sm (word (0x800000 + 0x2040 * 32 + 4 * 4)) 1) R) 0x2040 = 0x02315532 := by decide +kernel
/-- Through their aliases: `GEN_RDSEL` and `GEN_SNAP`; and the alias of the window's last bit. -/
theorem witness_alias_classes : aliasOf (word 0xFFFFFC) = (0x233FC, 31) ∧
    (run (.bitAliasWrite sm (word (0x800000 + genO Reg.GEN_RDSEL * 32)) 1) R).ports.fab = .ok 0 ∧
    live (run (.bitAliasWrite sm (word (0x800000 + genO Reg.GEN_RDSEL * 32)) 1) R) (genO Reg.GEN_RDSEL) = 1 ∧
    answers (.bitAliasWrite sm (word (0x800000 + genO Reg.GEN_SNAP * 32)) 1) R (run (.registerWrite sm (word (genO Reg.GEN_SNAP)) 1) R) = true ∧
    answers (.bitAliasWrite sm (word (0x800000 + genO Reg.GEN_SNAP * 32)) 0) R (respond sm (.ok 0) R) = true := by decide +kernel
theorem witness_aliases : canonical 0x80048 = canonical 0x80048 := by decide +kernel

def small : State := State.resetWith { Params.reference with build := .f16 }
theorem witness_absent_page : pageType small.params (canonical 0x11000 / 0x1000) = none ∧
    pageType small.params ((aliasOf (word (0x800000 + 0x11000 * 32))).1 / 0x1000) = none ∧
    answers (.registerWrite sm (word 0x11000) 5) small (respond sm (.ok 0) small) = true ∧
    answers (.bitAliasWrite nm (word (0x800000 + 0x11000 * 32)) 1) small (respond nm (.ok 0) small) = true := by decide +kernel

theorem witness_counter_saturates : live (bumpBy 0x1000 5 (setLive 0x1000 0xFFFFFFFE R)) 0x1000 = 0xFFFFFFFF ∧
    (live (bumpBy 0x1000 0 R) 0x1000).toNat = 0 := by decide +kernel
theorem test_rounding : roundDiv 5 2 = 3 ∧ roundDiv (-5) 2 = -3 ∧ roundDiv 4 3 = 1 ∧ clamp 7 0 5 = 5 ∧ clamp (-1) 0 5 = 0 ∧ clamp 0 0 0 = 0 := by
  decide +kernel
/-! ## Supply, time base, bridge -/

def dark : State := conf (bridgeO Reg.BRIDGE_CTL) 2 { R with powered := false }
theorem witness_cold_start : (run .coldStart dark).powered = true ∧ activeOf (run .coldStart dark) (bridgeO Reg.BRIDGE_CTL) = 2 ∧
    (run .powerLoss R).powered = false ∧ answers (.pllFirstLock true true) dark dark = true := by decide +kernel
def secondary : State := R.setBridge { R.bridge with role := 2, inst := 1 }
theorem witness_first_lock : (run (.pllFirstLock false true) R).tb.sel = 1 ∧ (run (.pllFirstLock false true) R).tb.running = true ∧
    (run (.pllFirstLock false true) R).boot.state = .load ∧
    (run (.pllFirstLock true true) secondary).tb.sel = 2 ∧ (run (.pllFirstLock true true) secondary).tb.running = false := by decide +kernel

/-- Locked to A with B good. -/
def locked : State := at0 100 (R.setTb { R.tb with aOk := true, bOk := true, lock := true })
def badW : RefWindow := ⟨8189, 0⟩
def goodW : RefWindow := ⟨8190, 31⟩
theorem test_reference_limits : refMeets ⟨8194, 31⟩ = true ∧ refMeets ⟨8195, 0⟩ = false ∧ refMeets ⟨8192, 32⟩ = false ∧
    refMeets badW = false ∧ refMeets goodW = true := by decide +kernel
theorem witness_reference_lost : answers (.tbRefLost ⟨.a, goodW⟩) locked locked = true ∧
    (run (.tbRefLost ⟨.b, badW⟩) locked).tb.sel = 0 ∧ raised Src.TB_REF_LOST 0 locked (run (.tbRefLost ⟨.b, badW⟩) locked) = true ∧
    goodRef (setRef .a false locked) = some .b ∧ (run (.tbRefLost ⟨.a, badW⟩) locked).tb.sel = 1 ∧
    counted (tbO Reg.TB_FAILOVERS) locked (run (.tbRefLost ⟨.a, badW⟩) locked) = true := by decide +kernel
def alone : State := locked.setTb { locked.tb with bOk := false }
theorem witness_holdover : goodRef (setRef .a false alone) = none ∧ (run (.tbRefLost ⟨.a, badW⟩) alone).tb.hold = true ∧
    raised Src.TB_HOLDOVER 0 alone (run (.tbRefLost ⟨.a, badW⟩) alone) = true := by decide +kernel
/-- Holdover, 16 windows after the loss of both. -/
def held : State := at0 regainTicks (R.setTb { R.tb with hold := true, lock := true })
def good16 : List RefWindow := [goodW, goodW, goodW, goodW, goodW, goodW, goodW, goodW, goodW, goodW, goodW, goodW, goodW, goodW, goodW, goodW]
theorem witness_good_again : (run (.refGoodAgain ⟨.b, good16⟩) held).tb.hold = false ∧ (run (.refGoodAgain ⟨.b, good16⟩) held).tb.sel = 1 ∧
    answers (.refGoodAgain ⟨.b, (good16.drop 1)⟩) held held = true ∧
    answers (.refGoodAgain ⟨.b, good16⟩) (at0 (regainTicks - 1) held) (at0 (regainTicks - 1) held) = true := by decide +kernel
/-- On A, with B good again; `REVERT` and `PREF` select B. -/
def onA : State := held.setTb { held.tb with hold := false, aOk := true }
def reverting : State := conf (tbO Reg.TB_REFCTL) 3 (onA.setBoot { onA.boot with lockAt := some 0 })
theorem witness_no_revert : cfgB onA (tbO Reg.TB_REFCTL) 1 = false ∧ (run (.refGoodAgain ⟨.b, good16⟩) onA).tb.sel = 0 ∧
    prefRef reverting = .b ∧ (run (.refGoodAgain ⟨.b, good16⟩) reverting).tb.sel = 1 := by decide +kernel
def heldLong : State := conf (tbO Reg.TB_HOLDOVER) 1 (at0 1250000 (R.setTb { R.tb with hold := true }))
theorem witness_holdover_time : holdoverDue heldLong = true ∧ answers .tbHoldoverExpired heldLong (expire .holdover heldLong) = true ∧
    (holdoverOver heldLong).tb.expired = true ∧ raised Src.TB_HOLDOVER_EXPIRED 0 heldLong (holdoverOver heldLong) = true := by decide +kernel
theorem witness_unlock : (run .tbPllUnlock locked).tb.lock = false ∧ raised Src.TB_PLL_UNLOCK 0 locked (run .tbPllUnlock locked) = true := by
  decide +kernel

theorem witness_tick_reads : (run (.tbTickLoRead sm false) (at0 0x500000007 R)).ports.fab = .ok 7 ∧
    (run (.tbTickLoRead sm false) (at0 0x500000007 R)).tb.heldFab = some 5 ∧
    (run (.tbTickHiRead sm) (at0 0x900000000 (run (.tbTickLoRead sm false) (at0 0x500000007 R)))).ports.fab = .ok 5 ∧
    (run (.tbTickHiRead sm) (at0 0x900000000 R)).ports.fab = .ok 9 := by decide +kernel
def slack : State := setLive (tbO Reg.TB_SLACK_OTH) 0x20009 R
theorem witness_slack_read : (run (.tbSlackRead nm true) slack).ports.fab = .ok 0x20009 ∧
    live (run (.tbSlackRead nm true) slack) (tbO Reg.TB_SLACK_OTH) = 0xFF := by decide +kernel

/-- The engine of sector 3 has run since tick 40. -/
def running3 (n : Nat) : State := at0 n (setEng clsSector 3 { eng0 with start := some 40 } R)
theorem witness_completion : (eng (run (.engineCompletion (.sector 3)) (running3 70)) clsSector 3).done = some 70 ∧
    answers (.engineCompletion (.sector 3)) (running3 71) (running3 71) = true := by decide +kernel
/-- A registration not yet latched. -/
def reg1 (n : Nat) : State := at0 n (R.setFlt { R.flt with regq := [⟨9, 2, 0, 0, 8, false⟩] })
theorem witness_fault_completion : (run (.engineCompletion .faultMgr) (reg1 8)).flt.regq = [⟨9, 2, 0, 0, 8, true⟩] ∧
    (run (.engineCompletion .faultMgr) (reg1 9)).flt.regq = [⟨9, 2, 0, 0, 8, false⟩] := by decide +kernel

/-- A secondary in LOCK and one that has joined. -/
def unjoined : State := secondary.setBoot { secondary.boot with lockAt := some 0 }
def joined : State := at0 5000 ((secondary.setBridge { secondary.bridge with joined := true }).setBoot
  { R.boot with lockAt := some 0, state := .up })
theorem witness_join : (run (.bridgeSyncFrame 1279 (frameCrc frameSync 1279)) unjoined).tb.tick = 1279 ∧ (run (.bridgeSyncFrame 1279 (frameCrc frameSync 1279)) unjoined).bridge.joined = true ∧
    (run (.bridgeSyncFrame 1279 (frameCrc frameSync 1279)) unjoined).boot.state = .load ∧
    (run (.bridgeSyncFrame 1 (frameCrc frameSync 1)) joined).bridge.lastSync = 5000 ∧ only [.bridge] joined (run (.bridgeSyncFrame 1 (frameCrc frameSync 1)) joined) = true ∧
    countedF (bridgeO Reg.BRIDGE_ERR) 23 16 joined (run (.bridgeSyncFrame 1 (frameCrc frameSync 1 + 1)) joined) = true := by decide +kernel
theorem witness_bridge_strobe : (run (.bridgeStrobeFrame 5000 (frameCrc frameStrobe 5000)) joined).regs.frozen.map (·.due) = some 5000 ∧
    (run (.bridgeStrobeFrame 5010 (frameCrc frameStrobe 5010)) joined).regs.frozen.map (·.due) = some 5010 ∧
    (run (.bridgeStrobeFrame 4999 (frameCrc frameStrobe 4999)) joined).regs.frozen.map (·.due) = some 5000 ∧
    countedF (bridgeO Reg.BRIDGE_ERR) 15 8 joined (run (.bridgeStrobeFrame 4999 (frameCrc frameStrobe 4999)) joined) = true := by decide +kernel
def primary : State := R.setBridge { R.bridge with role := 1, peers := 2 }
theorem witness_bridge_frames : (run (.bridgeCapFrame 700 (frameCrc frameCap 700)) joined).bridge.capRecv = 700 ∧
    (run (.bridgeEnergyFrame 1 77 5 (frameCrc frameEnergy (energyPayload 77 5))) primary).cap.recv.find 1 = some (5, 77) := by decide +kernel
/-- Frames of bad CRC, and the lanes: a cap loop's frame abandoned for a strobe, and the next frame after a whole one. -/
def lane (f : Nat) : BrgLink := { cur := some ⟨frameCap, 700, f⟩, wait := [frameSync] }
def strobing : State := at0 5010 (R.setRegs { R.regs with strobe := some (5009, 5060) } |>.setBridge { R.bridge with role := 1, peers := 2, sent := some 5060 })
theorem witness_lanes : answers (.bridgeStrobeFrame 5000 0) joined joined = true ∧ frameCrc frameStrobe 5000 ≠ 0 ∧
    answers (.bridgeCapFrame 700 0) joined joined = true ∧ frameCrc frameCap 700 ≠ 0 ∧
    answers (.bridgeEnergyFrame 1 77 5 0) primary primary = true ∧ frameCrc frameEnergy (energyPayload 77 5) ≠ 0 ∧
    strobeSent strobing = true ∧ laneTick strobing 0 (lane 5000) = ⟨some ⟨frameStrobe, 5060, 5010⟩, [frameCap, frameSync]⟩ ∧
    laneTick (at0 5010 primary) 0 (lane 5000) = lane 5000 ∧
    (laneTick (at0 5020 primary) 0 (lane 5000)).cur = some ⟨frameSync, 5039, 5020⟩ ∧
    (frameBits frameCap 700).length = 4 * frameTicks := by decide +kernel
theorem witness_bridge_lost : bridgeDue (at0 5119 joined) = false ∧ bridgeDue (at0 5120 joined) = true ∧
    answers .brgSyncLost (at0 5120 joined) (expire .bridge (at0 5120 joined)) = true ∧
    (bridgeOver (at0 5120 joined)).bridge.lost = true ∧
    among Src.BRG_SYNC_LOST 1 (at0 5120 joined) (bridgeOver (at0 5120 joined)) = true := by decide +kernel
def waited : State := unjoined.setTb { unjoined.tb with elapsed := 125000000 }
theorem witness_join_timeout : joinDue waited = true ∧ (joinOver waited).tb.running = true ∧ (joinOver waited).boot.state = .load ∧
    among Src.BRG_SYNC_LOST 1 waited (joinOver waited) = true := by decide +kernel

/-! ## Strobes, applies and parity -/

def smallest : State := State.resetWith { Params.reference with build := .f16 }
def bpend : State := run (.registerWrite sm (word 0x4044) 1) (run (.registerWrite sm (word 0x2040) 0x01111111) smallest)
/-- One pending write. -/
def pend1 : State := at0 100 (run (.registerWrite sm (word 0x2040) 0x01111111) R)
theorem witness_strobe : boundaryMode pend1 = false ∧ (run (.genUpdateGo sm) pend1).regs.pend = [] ∧
    (run (.genUpdateGo sm) pend1).regs.frozen = some ⟨[⟨0x2040, 0x01111111, false⟩], pend1.regs.crc,
      100 + cfgF pend1 (bridgeO Reg.BRIDGE_STRB) 7 0⟩ ∧ (run .updStrobeEdge pend1).regs.drove = none ∧
    (run .updStrobeEdge pend1).regs.pend = [] := by decide +kernel
def strobed (n : Nat) : State := at0 n (run (.genUpdateGo sm) pend1)
theorem witness_strobe_busy : (live (run (.genUpdateGo sm) (strobed 101)) (genO Reg.GEN_APPLYSTAT)).bit 4 = true ∧
    (run (.genUpdateGo sm) (strobed 101)).regs.frozen = (strobed 101).regs.frozen ∧
    ((pendWrite 0x2044 5 (strobed 100)).regs.frozen.map (·.words.length)) = some 2 ∧
    boundaryMode smallest = true ∧ (live (run (.genUpdateGo sm) smallest) (genO Reg.GEN_APPLYSTAT)).bit 5 = true ∧
    countedF (bridgeO Reg.BRIDGE_ERR) 7 0 joined (run .updStrobeEdge joined) = true := by decide +kernel
/-- The apply tick, with the right seal, a wrong one, and bad parity. -/
def sealed : State := let s := strobed 100
  (at0 (100 + cfgF s (bridgeO Reg.BRIDGE_STRB) 7 0) s).setRegs { s.regs with sealWord := s.regs.crc ^^^ 0xFFFFFFFF }
def right : State := sealed.setRegs { sealed.regs with sealWord := pend1.regs.crc ^^^ 0xFFFFFFFF }
def wrong : State := sealed.setRegs { sealed.regs with sealWord := 1 }
theorem witness_apply : activeOf (run .strobeApplyTick right) 0x2040 = 0x01111111 ∧ activeOf (run .strobeApplyTick right) 0x2044 = activeOf right 0x2044 ∧
    (run .strobeApplyTick right).regs.frozen = none := by decide +kernel
/-- The start set of CHECK, with a host's set frozen beside it. -/
def checked : State := (strobed 100).setRegs { (strobed 100).regs with startSet := some ⟨[⟨0x2044, 7, false⟩], 0, 100⟩ } |>.setBoot { R.boot with state := .check }
theorem witness_start_applies : setDue checked checked.regs.startSet = true ∧ setDue checked checked.regs.frozen = false ∧
    (run .strobeApplyTick checked).regs.startSet = none ∧ (run .strobeApplyTick checked).regs.frozen = checked.regs.frozen ∧
    activeOf (run .strobeApplyTick checked) 0x2044 = 7 ∧ (run .strobeApplyTick checked).boot.state = .sense := by decide +kernel
theorem witness_refused_set : activeOf (run .strobeApplyTick wrong) 0x2040 = 0x02315522 ∧ shadowOf (run .strobeApplyTick wrong) 0x2040 = 0x02315522 ∧
    (run .strobeApplyTick wrong).flt.regq.map (·.src) = [Src.CFG_SEAL_BAD] := by decide +kernel
theorem witness_boundary : boundaryMode (at0 1280 (bpend)) = true ∧ activeOf (run .boundaryApply (at0 1280 bpend)) 0x2040 = 0x01111111 ∧
    (run .boundaryApply (at0 1280 bpend)).regs.pend = [0x4044] := by decide +kernel
def lcWrite : State := at0 40 (R.setRegs { R.regs with lc := [0x80048], shadow := [(0x80048, 5)] })
theorem witness_live_coefficient : (run .lcTakeEffect lcWrite).regs.lc = [] ∧ activeOf (run .lcTakeEffect lcWrite) 0x80048 = 5 := by decide +kernel

/-- The walker's next word. -/
def walkAt : State := at0 8 R
theorem witness_walker : walkNext R.params 200 R.regs.walker = some (1, 0x14) ∧ (run .parityWalk walkAt).regs.walker = 1 ∧
    only [.regs] walkAt (run .parityWalk walkAt) = true := by decide +kernel
def badA : State := setActive 0x14 9 (walkAt.setRegs { R.regs with badActive := [0x14] })
def badS : State := setShadow 0x14 9 (walkAt.setRegs { R.regs with badShadow := [0x14] })
theorem witness_repair : activeOf (run .parityWalk badA) 0x14 = 0 ∧ raised Src.CFG_PARITY 0 badA (run .parityWalk badA) = true ∧
    shadowOf (run .parityWalk badS) 0x14 = 0 ∧ raised Src.CFG_PARITY 0 badS (run .parityWalk badS) = true := by decide +kernel
theorem witness_injection : live (run (.genParinjWrite sm 2 true) R) (genO Reg.GEN_PARINJ) = 0x102 ∧
    answers (.genParinjWrite nm 2 true) R (respond nm (.ok 0) (countNonsec nm R)) = true ∧
    injArmed (run (.genParinjWrite sm 2 true) R) 2 = true ∧
    (writeShadow 0x2040 0 (run (.genParinjWrite sm 2 true) R)).regs.badShadow = [0x2040] ∧
    injArmed (writeShadow 0x2040 0 (run (.genParinjWrite sm 2 true) R)) 2 = false := by decide +kernel
def many : State := at0 9 (setLive (fltO Reg.FLT_RAISED) 5 R)
theorem witness_snapshot : live (run (.genSnapGo sm) many) (fltO Reg.FLT_SNAP_RAISED) = 5 ∧ live (run (.genSnapGo sm) many) (genO Reg.GEN_SNAPSEQ) = 1 ∧
    live (run (.genSnapGo sm) many) (tbO Reg.TB_SNAP_LO) = 9 ∧
    answers (.genSnapGo sm) (run (.genSnapGo sm) many) (respond sm (.ok 0) (run (.genSnapGo sm) many)) = true := by decide +kernel
/-! ## Cells, clusters and sector engines -/

/-- Cluster 0 in service: fifteen cells regulate with 30 legs, cell 15 stands by. -/
def duty : State := setClu 0 { clu0 with enabled := true }
  (forEach (upto 15) (fun n s => setCell n { cell0 n with state := .regulate, legs := 30 } s) (at0 400 R))
def spared4 : State := modCell 3 (fun c => { c with map := [1, 2, 3, 4] }) duty
def legWaits : State := modCell 3 (fun c => { c with waiting := [(7, 392)] }) duty
def isol (n cause : Nat) (s t : State) : Bool :=
  (cell t n).state == .isolated && (cell t n).legs == 0 && (cell t n).cause == cause && (wear t n).isol == (wear s n).isol + 1 &&
    (upto 16).all (fun m => m == n || cell t m == cell s m)
theorem witness_legs : (cell (run (.legStuckOff 3 29) duty) 3).waiting = [(29, 400)] ∧
    isol 3 2 spared4 (run (.legStuckOff 3 29) spared4) = true ∧ among Src.CELL_LEGS_EXHAUSTED 3 spared4 (run (.legStuckOff 3 29) spared4) = true ∧
    (cell (run (.cellLegSpared 3) legWaits) 3).map = [7] ∧ raised Src.CELL_LEG_SPARED 3 legWaits (run (.cellLegSpared 3) legWaits) = true := by
  decide +kernel
/-- Step 1 of a retest of cell 3, its legs on. -/
def retesting : State := modClu 0 (fun c => { c with retest := some ⟨3, 1, 396, false, false, false⟩ }) (modCell 3 (fun c => { c with state := .retest }) spared4)
theorem witness_retest_legs : (clu (run (.legStuckOff 3 63) retesting) 0).retest = some ⟨3, 1, 396, false, false, true⟩ ∧
    (cell (run (.legStuckOff 3 63) (modCell 3 (fun c => { c with map := [] }) retesting)) 3).waiting = [(63, 400)] := by decide +kernel
theorem witness_cell_faults : isol 3 1 duty (run (.cellLegStuckOn 3) duty) = true ∧ isol 3 3 duty (run (.cellOvercurrent 3) duty) = true ∧
    isol 15 4 duty (run (.cellCmpConflict 15) duty) = true ∧ among Src.CELL_CMP_CONFLICT 15 duty (run (.cellCmpConflict 15) duty) = true := by
  decide +kernel
theorem witness_takeover : callable duty 0 = [15] ∧ takeFor (clu (run (.cellOvercurrent 3) duty) 0) 15 = some ⟨15, 3, 400, .takeover⟩ ∧
    (ring (run (.cellOvercurrent 3) duty) 0).iso = [jobTxn 7 0 (.markFailed 3) 408, jobTxn 7 0 (.startSpare 0 15) 408] := by decide +kernel
/-- A rotation of cell 15 for cell 4, whose cell 3 is lost; and the transactions of a takeover, complete. -/
def rotating : State := modClu 0 (fun c => { c with takes := [⟨15, 4, 380, .rotation⟩] }) duty
def ringDone (j : Job) : State := modRing 0 (fun r => { r with current := some (jobTxn 7 0 j 392) })
  (modClu 0 (fun c => { c with takes := [⟨15, 3, 384, .takeover⟩], legMed := 30 }) (at0 407 duty))
theorem witness_takeover_done : takeFor (clu (run (.cellOvercurrent 3) rotating) 0) 15 = some ⟨15, 3, 380, .takeover⟩ ∧
    (ring (run (.cellOvercurrent 3) rotating) 0).iso = [jobTxn 7 0 (.markFailed 3) 408, jobTxn 7 0 (.startSpare 0 15) 408] ∧
    ringAt (ringDone (.markFailed 3)) 7 = true ∧ (ring (run (.ringTransactionComplete 0 0) (ringDone (.markFailed 3))) 0).current = none ∧
    (cell (run (.ringTransactionComplete 0 0) (ringDone (.startSpare 0 15))) 15).state = .start ∧
    (cell (run (.ringTransactionComplete 0 0) (ringDone (.startSpare 0 15))) 15).legs = 30 ∧
    (cell (run (.ringTransactionComplete 0 0) (ringDone (.startSpare 0 15))) 15).spdes = false ∧
    (cell (run (.ringTransactionComplete 0 0) (ringDone (.cellCmd 1 5))) 5).cause = 6 := by decide +kernel
def calledAt (n : Nat) : State := at0 n (modClu 0 (fun c => { c with takes := [⟨15, 3, 400, .takeover⟩] }) duty)
theorem witness_late_spare : lateSpares (calledAt 2899) 0 = [] ∧ lateSpares (calledAt 2900) 0 = [15] ∧
    answers (.cluSpareTimeout 0) (calledAt 2900) (expire (.spare 0) (calledAt 2900)) = true ∧
    isol 15 5 (calledAt 2900) (timeOver (.spare 0) (calledAt 2900)) = true ∧
    among Src.CLU_SPARE_TIMEOUT 0 (calledAt 2900) (timeOver (.spare 0) (calledAt 2900)) = true := by decide +kernel
def legs (n : Nat) : State := modCell 3 (fun c => { c with legs := n }) duty
def starting : State := modCell 3 (fun c => { c with state := .start, startAt := 0 }) (at0 1200 (calledAt 400))
def incoming : State := modCell 15 (fun c => { c with state := .start, startAt := 0 }) (at0 1200 (calledAt 400))
theorem witness_regulation : (cell (run (.cellStep 3 .below) (legs 63)) 3).legs = 64 ∧ (cell (run (.cellStep 3 .below) (legs 64)) 3).legs = 64 ∧
    (cell (run (.cellStep 3 .above) (legs 0)) 3).legs = 0 ∧ (cell (run (.cellStep 3 .above) (legs 1)) 3).legs = 0 ∧
    (cell (run (.cellStartDone 3) starting) 3).state = .regulate ∧ takeFor (clu (run (.cellStartDone 15) incoming) 0) 15 = none ∧
    among Src.CLU_SPARE_TAKEOVER 0 incoming (run (.cellStartDone 15) incoming) = true := by decide +kernel
def phase (x : Schuss) : State := modClu 0 (fun c => { c with schuss := x, tripAt := 300 }) duty
theorem witness_schuss : droopActive duty 0 = true ∧ (clu (run (.droopTrip 0) duty) 0).schuss = .force ∧
    (cell (run (.droopTrip 0) duty) 14).legs = 64 ∧ cell (run (.droopTrip 0) duty) 15 = cell duty 15 ∧
    raised Src.SCHUSS_TRIP 0 duty (run (.droopTrip 0) duty) = true ∧
    (clu (run (.droopTrip 0) (phase .hold)) 0).tripAt = 300 ∧ only [.cells, .clus] (phase .hold) (run (.droopTrip 0) (phase .hold)) = true ∧
    (clu (run (.schussForceEnd 0 true) (phase .force)) 0).holdFrom = 415 ∧ (clu (run (.schussForceEnd 0 false) (phase .force)) 0).holdFrom = 416 ∧
    answers (.cellStep 3 .below) (phase .force) (phase .force) = true := by decide +kernel
theorem witness_schuss_end : (clu (run (.schussRelease 0) (phase .hold)) 0).schuss = .idle ∧
    live (run (.schussRelease 0) (phase .hold)) (cluReg 0 0x218 32) = 100 ∧
    only [.clus, .live] (phase .hold) (run (.schussRelease 0) (phase .hold)) = true ∧
    (clu (run (.schussLong 0) (at0 1000000 (phase .hold))) 0).longSaid = true ∧
    only [.clus, .live, .flt] (at0 1000000 (phase .hold)) (run (.schussLong 0) (at0 1000000 (phase .hold))) = true := by decide +kernel
def differ : State := modClu 0 (fun c => { c with disRun := 15 }) duty
def full0 (s : State) : State := modQuad 0 (fun x => { x with queue := [⟨1, 0, 0⟩, ⟨2, 0, 0⟩, ⟨3, 0, 0⟩, ⟨4, 0, 0⟩, ⟨5, 0, 0⟩, ⟨6, 0, 0⟩, ⟨7, 0, 0⟩, ⟨8, 0, 0⟩] }) s
/-- The quadrant's converter serves. -/
def conv0 (s : State) : State := modAdc 4 (fun a => { a with state := .telem }) s
def lostB : State := modClu 0 (fun c => { c with bFail := true, lostRun := 4 }) duty
theorem witness_sensors : sensorsDiffer (conv0 differ) 0 = true ∧ urgentFits (conv0 differ) 0 = true ∧
    (clu (run (.cluSensorDisagree 0) (conv0 differ)) 0).tapWait = true ∧
    (quad (run (.cluSensorDisagree 0) (conv0 differ)) 0).queue = [⟨0, 0, 400⟩] ∧
    only [.clus, .quads] (conv0 differ) (run (.cluSensorDisagree 0) (conv0 differ)) = true ∧ urgentFits (conv0 (full0 differ)) 0 = false ∧
    answers (.cluSensorDisagree 0) (conv0 (full0 differ)) (bump (qdO 0 Reg.QD_URGREFUSED) (conv0 (full0 differ))) = true ∧
    (clu (run (.cluSensorLost 0) lostB) 0).aFail = true ∧ only [.clus, .live, .flt] lostB (run (.cluSensorLost 0) lostB) = true := by decide +kernel
theorem witness_cell_commands : cellCmdOk duty sm 0 = true ∧
    answers (.cluCellcmdIsolate sm 0 5) duty (respond sm (.ok 0) (ringAsk 0 (jobTxn 0 0 (.cellCmd 1 5) 400) duty)) = true ∧
    answers (.cluCellcmdRotate sm 0 15) duty (respond sm (.ok 0) (ringAsk 0 (jobTxn 0 0 (.cellCmd 5 15) 400) duty)) = true ∧
    answers (.cluCellcmdRetest sm 0 5) duty (respond sm (.ok 0) (refuse 0x80 duty)) = true ∧
    answers (.cluCellcmdPass sm 0 5) duty (respond sm (.ok 0) (refuse 0x80 duty)) = true ∧
    answers (.cluCellcmdFail sm 0 5) duty (respond sm (.ok 0) (refuse 0x80 duty)) = true ∧
    answers (.cluCellcmdIsolate nm 0 5) duty (respond nm (.ok 0) (countNonsec nm duty)) = true := by decide +kernel
def trimWaits : State := duty.setRegs { R.regs with trims := [⟨5, 0x1234⟩] }
theorem witness_trim : activeOf (run (.cluTrimWrite 5) trimWaits) (cluO 0 (Reg.CLU_GTRIM 5)) = 0x1234 ∧
    shadowOf (run (.cluTrimWrite 5) trimWaits) (cluO 0 (Reg.CLU_GTRIM 5)) = 0x1234 ∧ (run (.cluTrimWrite 5) trimWaits).regs.trims = [] := by decide +kernel
def failed5 : State := modCell 5 (fun c => { c with state := .isolated, cause := 3 }) duty
def tested5 : State := setLive (cluO 0 Reg.CLU_RETESTRES) 0x12340305 (modCell 5 (fun c => { c with state := .retest }) duty)
theorem witness_command_effects : isol 5 6 duty (cellCmdEffect 1 5 duty) = true ∧ retestFits failed5 5 = true ∧
    (cell (cellCmdEffect 2 5 failed5) 5).state = .retest ∧ (clu (cellCmdEffect 2 5 failed5) 0).retest = some ⟨5, 1, 400, false, false, false⟩ ∧
    takeFor (clu (cellCmdEffect 5 15 failed5) 0) 15 = some ⟨15, 15, 400, .duty⟩ ∧ passFits tested5 5 = true ∧
    (cell (cellCmdEffect 3 5 tested5) 5).passWait = true ∧ failFits tested5 5 = true ∧ (cell (cellCmdEffect 4 5 tested5) 5).cause = 7 := by
  decide +kernel
def sense (a : Nat) : ClusterSense := ⟨BitVec.ofNat 7 a, 33, .inside⟩
def engineOn : State := modSec 0 (fun x => { x with mode := .run }) duty
theorem witness_engine_start : (clu (run (.sectorEngineStart 0 ⟨[sense 40, sense 41, sense 42, sense 43], true⟩) engineOn) 3).codeA = 43 ∧
    (clu (run (.sectorEngineStart 0 ⟨[sense 40, sense 41, sense 42, sense 43], true⟩) engineOn) 0).legMed = 30 ∧ engineServes engineOn 0 = true ∧
    (eng (run (.sectorEngineStart 0 ⟨[sense 40, sense 41, sense 42, sense 43], true⟩) engineOn) clsSector 0).start = some 400 ∧
    raised Src.SEC_ENG_FAULT 0 engineOn (run (.sectorEngineStart 0 ⟨[sense 40, sense 41, sense 42, sense 43], true⟩) engineOn) = true ∧
    engineServes duty 0 = false ∧ (run (.sectorEngineStart 0 ⟨[sense 0, sense 1, sense 2, sense 3], false⟩) duty).flt = duty.flt := by decide +kernel
def started : State := at0 430 (run (.sectorEngineStart 0 ⟨[sense 40, sense 41, sense 42, sense 43], false⟩) engineOn)
def finished : State := setEng clsSector 0 { eng started clsSector 0 with done := some 420 } started
theorem witness_engine_latch : engDue finished clsSector 0 = true ∧ (sec finished 0).res.isSome = true ∧
    some (clu (run (.sectorEngineLatch 0) finished) 2).integ = (sec finished 0).res.map (fun r => nth r.integ 2) ∧
    some (clu (run (.sectorEngineLatch 0) finished) 2).centre = (sec finished 0).res.map (fun r => r.centre.getD 2 0) ∧
    (eng (run (.sectorEngineLatch 0) finished) clsSector 0).start = none := by decide +kernel
theorem witness_engine_overrun : (run (.sectorEngineLatch 0) started).cells = started.cells ∧
    (clu (run (.sectorEngineLatch 0) started) 0).integ = (clu started 0).integ ∧
    among Src.ENG_OVERRUN (engKey clsSector 0) started (run (.sectorEngineLatch 0) started) = true := by decide +kernel
theorem witness_integrator : trimLo R 0 ≤ trimHi R 0 ∧ integHeld { clu0 with codeA := 64 } .run 5 = false ∧ integHeld clu0 .run 5 = true := by decide +kernel

def readback : State := modSec 0 (fun x => { x with rbAt := some 400 }) duty
def limited : State := modClu 0 (fun c => { c with limRun := 256 }) duty
theorem witness_readback : (sec (run (.secBandReadback 0 true) readback) 0).rbAt = none ∧
    raised Src.SEC_ENG_FAULT 0 readback (run (.secBandReadback 0 true) readback) = true ∧ (run (.secBandReadback 0 false) readback).flt = readback.flt ∧
    (clu (run (.secTrimLimit 0) limited) 0).limRun = 257 ∧ raised Src.SEC_TRIM_LIMIT 0 limited (run (.secTrimLimit 0) limited) = true ∧
    only [.clus, .live, .flt] limited (run (.secTrimLimit 0) limited) = true := by decide +kernel
def suspect : State := modSec 0 (fun x => { x with suspect := true, disRun := 9 }) engineOn
def onSpare0 : State := modSec 0 (fun x => { x with onSpare := true }) engineOn
theorem witness_engine_commands : secCmdOk suspect sm 0 = true ∧ (sec (run (.secCmdPlausClear sm 0) suspect) 0).suspect = false ∧
    only [.secs, .ports] suspect (run (.secCmdPlausClear sm 0) suspect) = true ∧ spareFree engineOn 0 = true ∧
    (sec (run (.secCmdToSpare sm 0) engineOn) 0).engSw = some (416, true) ∧
    only [.secs, .eng, .ports] engineOn (run (.secCmdToSpare sm 0) engineOn) = true ∧ spareFree onSpare0 0 = false ∧
    countedF (secO 0 PAGE_STAT) 15 8 onSpare0 (run (.secCmdToSpare sm 0) onSpare0) = true ∧
    (sec (run (.secCmdHandback sm 0) onSpare0) 0).engSw = some (416, false) ∧
    countedF (secO 0 PAGE_STAT) 15 8 engineOn (run (.secCmdHandback sm 0) engineOn) = true := by decide +kernel
def swapping (b : Bool) : State := modSec 0 (fun x => { x with engSw := some (400, b), onSpare := !b }) engineOn
theorem witness_engine_switch : (sec (run (.spareEngineSwitch 0) (swapping true)) 0).onSpare = true ∧
    (sec (run (.spareEngineSwitch 0) (swapping true)) 0).mode = .wake ∧
    raised Src.SEC_SPARE_TAKEOVER 0 (swapping true) (run (.spareEngineSwitch 0) (swapping true)) = true ∧
    (sec (run (.spareEngineSwitch 0) (swapping false)) 0).onSpare = false ∧ (run (.spareEngineSwitch 0) (swapping false)).flt = R.flt := by decide +kernel

/-! ## Chairlift, inrush and switching -/

theorem witness_sector_step : (sec (run (.chairliftSectorStep 0) engineOn) 0).spDue = 440 ∧
    (sec (run (.chairliftSectorStep 0) engineOn) 0).sp = presented engineOn 0 ∧
    (sec (run (.chairliftSectorStep 0) (modSec 0 (fun x => { x with mode := .dark }) duty)) 0).sp = 0 := by decide +kernel
def raiseWaits : State := modSec 0 (fun x => { x with base := { chan0 with wait := some 0 }, prof := .settling, settleAt := 0 }) (at0 (usTicks 5000 + 1) R)
theorem witness_chairlift_limits : stepTaken raiseWaits 0 = true ∧ (sec (run (.chlIlkTimeout 0) raiseWaits) 0).base.said = true ∧
    raised Src.CHL_ILK_TIMEOUT 0 raiseWaits (run (.chlIlkTimeout 0) raiseWaits) = true ∧
    (sec (run (.chlSettleTimeout 0) raiseWaits) 0).settleSaid = true ∧ stepTaken (at0 (usTicks 5000) raiseWaits) 0 = false ∧
    answers (.chlIlkTimeout 0) (at0 (usTicks 5000) raiseWaits) (at0 (usTicks 5000) raiseWaits) = true := by decide +kernel
/-- Sector 2 in GATES with two requests, of full and of no rate. -/
def gating : State := modSec 2 (fun x => { x with sw := .gates, reqs := [⟨8, 380, some 390, 1⟩, ⟨9, 381, none, 0⟩] }) (at0 400 R)
theorem witness_inrush : nextGrant gating 0 = some (2, ⟨8, 380, some 390, 1⟩) ∧
    (sec (run (.inrushGrant 0) gating) 2).granted = [(8, false, 400)] ∧ (inrush (run (.inrushGrant 0) gating) 0).last = some 400 ∧
    (inrush (run (.inrushGrant 0) gating) 0).resv.length = 1 ∧ counted (qdO 0 Reg.QD_GRANTS) gating (run (.inrushGrant 0) gating) = true ∧
    (inrush (run (.inrushReservationEnd 0) (at0 4000000 (run (.inrushGrant 0) gating))) 0).resv = [] ∧
    ((sec (run (.neighbourCheck 2 9) gating) 2).reqs.map (fun r => (r.unit, r.first, r.rate))) = [(8, some 390, 1), (9, some 400, 1)] := by decide +kernel
/-- Sector 3 beside it is busy: the first check, one that repeats it, and the last. -/
def busy3 (n : Nat) : State := modSec 2 (fun x => { x with sw := .gates, reqs := [⟨9, 381, if n = 400 then none else some 400, 0⟩] })
  (at0 n { (setLive (secO 3 Reg.SEC_MSUM) 65535 R) with params := { R.params with sectorAdj := [(2, [3])] } })
def lastCheck : Nat := 400 + usTicks (cfgF R (qdO 0 Reg.QD_NBRMAX) 7 0)
theorem witness_neighbours : (sec (run (.neighbourCheck 2 9) (busy3 400)) 2).reqs.map (fun r => (r.first, r.rate)) = [(some 400, 0)] ∧
    (sec (run (.neighbourCheck 2 9) (busy3 1650)) 2).reqs.map (fun r => (r.first, r.rate)) = [(some 400, 0)] ∧
    (run (.neighbourCheck 2 9) (busy3 1650)).flt = R.flt ∧ (lastCheck - 400) % 1250 = 0 ∧ 1650 < lastCheck ∧
    (sec (run (.neighbourCheck 2 9) (busy3 lastCheck)) 2).reqs.map (fun r => (r.first, r.rate)) = [(some 400, 2)] ∧
    (sec (run (.neighbourCheck 2 9) (busy3 lastCheck)) 2).halfRate = true ∧
    raised Src.CHL_INRUSH_DEFER 2 (busy3 lastCheck) (run (.neighbourCheck 2 9) (busy3 lastCheck)) = true := by decide +kernel
/-- A cell that starts from STANDBY takes the median, the others the preset. -/
def cells0 : State := modSec 0 (fun x => { x with sw := .cells, swAt := 360 }) (at0 400 R)
theorem witness_cluster_enable : (upto 16).all (fun k => (cell cells0 k).spdes == decide (k = 15)) = true ∧
    (run (.clusterEnable 0) cells0).clus.map (·.1) = [0] ∧ (cell (run (.clusterEnable 0) cells0) 14).state = .start ∧
    (cell (run (.clusterEnable 0) cells0) 14).startAt = 400 ∧ (cell (run (.clusterEnable 0) cells0) 15).state = .standby ∧
    (clu (run (.clusterEnable 0) cells0) 0).enabled = true ∧
    (cell (run (.clusterEnable 0) (modCell 15 (fun c => { c with state := .off }) cells0)) 15).state = .standby ∧
    (cell (run (.clusterEnable 0) cells0) 14).legs = cfgF R (secO 0 Reg.SEC_SWON) 6 0 ∧
    (cell (run (.clusterEnable 0) (modCell 14 (fun c => { c with state := .standby }) (modClu 0 (fun c => { c with legMed := 21 }) cells0))) 14).legs = 21 := by
  decide +kernel
def leaving : State := modSec 0 (fun x => { x with offAt := some 400, sw := .on }) engineOn
theorem witness_switch_off : (sec (run (.switchOffComplete 0) leaving) 0).sw = .off ∧ (cell (run (.switchOffComplete 0) leaving) 3).state = .off ∧
    (clu (run (.switchOffComplete 0) leaving) 0).enabled = false ∧ (sec (run (.switchOffComplete 0) leaving) 0).mode = .off := by decide +kernel
/-! ## Trail -/

/-- A push of logical tile 0: step 512 ticks after its arrival, hold 1, `SEQ` 5; and its cancel. -/
def push0 : BitVec 128 := 0x10000000000501000001020000000000#128
def cancel0 : BitVec 128 := 0x10000000000502000000000000000000#128
def trailForm : Form := ⟨0x100000, 128, true⟩
def slot0 : Slot :=
  { state := .pending, w0 := 0, w1 := 0x00010200, w2 := 0x00050100, arrive := 0, stepAt := 512, preAt := 362, sector := 0,
    clu := 0, phys := 0, taken := none, pred := some 9000, present := 0, base := 0, need := 0, dead := 0, amount := 0, limit := 0,
    issued := false, admitted := false, qual := false, judged := none, holdEnd := 0 }
/-- The tail slot is full, and so are the held pushes. -/
def tailFull (k : Nat) : State := setWin 0 ⟨[(0, slot0)], 0, List.replicate k ⟨push0, 400, 150, some (some 0)⟩⟩ engineOn
theorem witness_push : (recOf push0).kind = 1 ∧ (recOf push0).malformed = false ∧ recTile engineOn (recOf push0) = some (some 0) ∧
    tileServes engineOn 0 = true ∧ (run (.trailPush sm trailForm push0) engineOn).ports.fab = .ok 0 ∧
    (win (run (.trailPush sm trailForm push0) engineOn) 0).tail = 1 ∧
    (slot (run (.trailPush sm trailForm push0) engineOn) 0 0).map (fun x => (x.state, x.stepAt, x.preAt)) = some (.pending, 912, 762) := by
  decide +kernel
theorem witness_push_waits : (run (.trailPush sm trailForm push0) (tailFull 3)).ports.fab = .none ∧
    (win (run (.trailPush sm trailForm push0) (tailFull 3)) 0).held.length = 4 ∧
    (run (.trailPush sm trailForm push0) (tailFull 4)).ports.fab = .retry ∧
    raised Src.TRAIL_OVERFLOW 0 (tailFull 4) (run (.trailPush sm trailForm push0) (tailFull 4)) = true := by decide +kernel
def tailFree (k : Nat) : State := at0 k (modWin 0 (fun w => { w with slots := [] }) (tailFull 1))
theorem witness_held_push : (win (run (.trailHeldPushAccept 0) (tailFree 1650)) 0).held = [] ∧
    (slot (run (.trailHeldPushAccept 0) (tailFree 1650)) 0 0).map (fun x => (x.arrive, x.stepAt, x.preAt)) = some (400, 912, 762) ∧
    answers (.trailPushTimeout 0) (at0 1650 (tailFull 1)) (expire (.push 0) (at0 1650 (tailFull 1))) = true ∧
    (timeOver (.push 0) (at0 1650 (tailFull 1))).ports.fab = .retry ∧ (win (timeOver (.push 0) (at0 1650 (tailFull 1))) 0).held = [] ∧
    (timeOver (.push 0) (tailFree 1650)).ports.fab = .ok 0 ∧ (win (timeOver (.push 0) (tailFree 1650)) 0).tail = 1 ∧
    answers (.trailPushTimeout 0) (at0 1649 (tailFull 1)) (at0 1649 (tailFull 1)) = true := by decide +kernel
theorem witness_trail_form : (run (.trailPush sm ⟨0x101000, 64, true⟩ push0) engineOn).ports.fab = .error ∧
    raised Src.TRAIL_FORM 1 engineOn (run (.trailPush sm ⟨0x101000, 64, true⟩ push0) engineOn) = true ∧
    counted (trailO (Reg.TRAIL_DFORM 1)) engineOn (run (.trailPush sm ⟨0x101000, 64, true⟩ push0) engineOn) = true ∧
    countedF (genO Reg.GEN_ACCERR) 7 0 engineOn (run (.trailPush sm ⟨0x101000, 64, true⟩ push0) engineOn) = true := by decide +kernel
def twoSlots : State := setWin 0 ⟨[(0, slot0), (1, { slot0 with w2 := 0x00060100 })], 2, []⟩ engineOn
theorem witness_cancel : (slot (run (.trailCancel sm trailForm cancel0) twoSlots) 0 0).isNone = true ∧
    slot (run (.trailCancel sm trailForm cancel0) twoSlots) 0 1 = slot twoSlots 0 1 ∧ (win twoSlots 0).slots.rises 0 = true ∧
    (win (run (.trailCmdFlush sm 1) twoSlots) 0).slots = [] ∧ win (run (.trailCmdFlush sm 2) twoSlots) 0 = win twoSlots 0 := by decide +kernel
def slotIs (n : Nat) (x : Slot) : State := conf (trailO Reg.TRAIL_CFG) 0x00643202 (at0 n (setWin 0 ⟨[(7, x)], 8, []⟩ (modSec 0 (fun y => { y with sp := 1800 }) engineOn)))
theorem witness_arm : (slot (run (.trailArm 0 7) (slotIs 1240 slot0)) 0 7).map (·.state) = some .armed ∧
    (slot (run (.trailArm 0 7) (slotIs 1240 { slot0 with pred := some 99 })) 0 7) = none ∧
    (slot (run (.trailArm 0 7) (slotIs 1240 { slot0 with pred := some 100 })) 0 7).map (·.state) = some .armed := by decide +kernel
def armed (k : Nat) : Slot := { slot0 with state := .armed, preAt := 400, stepAt := k }
def open0 (s : State) : State := conf (secO 0 Reg.SEC_FF) 0x200 s
theorem witness_present : preposOpen (open0 (slotIs 400 (armed 512))) 0 = true ∧ inTime (slotIs 400 (armed 400)) (armed 400) = true ∧
    ((slot (run (.trailPresent 0 7) (open0 (slotIs 400 (armed 512)))) 0 7).map (fun x => (x.state, x.need, x.dead))) = some (.opened, 4500, 592) ∧
    (sec (run (.trailPresent 0 7) (open0 (slotIs 400 (armed 512)))) 0).asked = [⟨7, 0, 9000⟩] ∧
    preposOpen (conf (secO 0 Reg.SEC_FF) 0 (slotIs 400 (armed 512))) 0 = false ∧
    slot (run (.trailPresent 0 7) (conf (secO 0 Reg.SEC_FF) 0 (slotIs 400 (armed 512)))) 0 7 = none := by decide +kernel
theorem witness_expire : slot (run (.trailExpire 0 7) (slotIs 400 (armed 399))) 0 7 = none ∧
    counted (trailO (Reg.TRAIL_EXPIRED 0)) (slotIs 400 (armed 399)) (run (.trailExpire 0 7) (slotIs 400 (armed 399))) = true ∧
    answers (.trailExpire 0 7) (slotIs 400 (armed 400)) (slotIs 400 (armed 400)) = true ∧
    inTime (slotIs 1240 (armed 1200)) (armed 1200) = true ∧ inTime (slotIs 1280 (armed 1200)) (armed 1200) = false := by decide +kernel
def opened (k : Nat) : Slot := { slot0 with state := .opened, dead := k, judged := some 430 }
theorem witness_miss : slot (run (.trailMiss 0 7) (slotIs 430 (opened 430))) 0 7 = none ∧
    (sec (run (.trailMiss 0 7) (slotIs 430 (opened 430))) 0).reports = [(7, true)] ∧
    answers (.trailMiss 0 7) (slotIs 430 (opened 431)) (slotIs 430 (opened 431)) = true ∧
    slot (run (.trailHoldEnd 0 7) (slotIs 430 { slot0 with state := .held, holdEnd := 430 })) 0 7 = none ∧
    (sec (run (.trailHoldEnd 0 7) (slotIs 430 { slot0 with state := .held, holdEnd := 430 })) 0).cmdPre.isSome = true := by decide +kernel

/-! ## Tally -/

/-- A message of unit 0 of kind 0, feature 3, count 7, of good and of bad parity, and one of a LINK unit on another lane. -/
def msg (w : Word) : Word := if parityOk w then w else w ^^^ 0x10000000
def message : Word := msg (BitVec.ofNat 32 (1 + 3 * 8192 + 7 * 1048576))
theorem witness_message : message.field 27 20 = 7 ∧ parityOk message = true ∧ busSector R.params 0 0 = some 0 ∧
    Store.get (run (.activityMessage 0 message) R).tally.feat 0 3 = 7 ∧ parityOk (message ^^^ 0x10000000) = false ∧
    (run (.activityMessage 0 (message ^^^ 0x10000000)) R).tally.featBad = [0] ∧
    raised Src.TALLY_FEAT_ERR 0 R (run (.activityMessage 0 (message ^^^ 0x10000000)) R) = true ∧
    (run (.activityMessage 1 message) R).tally = R.tally ∧
    countedF (talO Reg.TAL_FEATERR) 31 16 R (run (.activityMessage 1 message) R) = true := by decide +kernel
def tallied (ok : Bool) : State := at0 1200 ((setEng clsTally 0 { eng0 with start := some 0, done := if ok then some 9 else none } R).setTally
  { R.tally with run := some ⟨0, 0, [⟨0, 77, true, true, []⟩, ⟨1, 5, false, true, []⟩], 0, 0⟩ })
theorem witness_tally : live (run (.tallyStart 600) (at0 1280 R)) (tbO Reg.TB_SPEED) = 600 ∧
    (eng (run (.tallyStart 600) (at0 1280 R)) clsTally 0).start = some 1280 ∧
    ((run (.tallyStart 600) (at0 1280 R)).tally.run.map (fun r => r.secs.length)) = some 64 ∧
    (run .tallyLatch (tallied true)).tally.est = [(0, 77)] ∧ (run .tallyLatch (tallied true)).tally.good = [0] ∧
    (run .tallyLatch (tallied false)).tally.est = [] ∧ (run .tallyLatch (tallied false)).tally.ovr = true ∧
    (live (run .tallyLatch (tallied false)) (talO Reg.TAL_INVALID)).toNat = 64 ∧
    among Src.ENG_OVERRUN (engKey clsTally 0) (tallied false) (run .tallyLatch (tallied false)) = true := by decide +kernel
def loading (u st : Nat) : State := at0 1280 (R.setTally { R.tally with load := some ⟨u, st, 0, [], none⟩ })
theorem witness_model_write : inModel ⟨0x2008F8, 64, true⟩ = true ∧
    memByte (run (.modelStagingWrite sm ⟨0x2008F8, 64, true⟩ 0x8877665544332211) R) 0x8FB = 0x44 ∧
    memByte (run (.modelStagingWrite sm ⟨0x2008F8, 64, true⟩ 0x8877665544332211) R) 0x8FF = 0x88 ∧
    only [.mem, .ports] R (run (.modelStagingWrite sm ⟨0x2008F8, 64, true⟩ 0x8877665544332211) R) = true ∧
    Memory.wf (run (.modelStagingWrite sm ⟨0x2008F8, 64, true⟩ 0x8800665544332211) R).mem = true ∧
    (run (.modelStagingWrite sm ⟨0x200000, 32, true⟩ 1) (loading 0 1)).tally.load = none ∧
    raised Src.TALLY_IMAGE_BAD 0 (loading 0 1) (run (.modelStagingWrite sm ⟨0x200000, 32, true⟩ 1) (loading 0 1)) = true ∧
    answers (.modelStagingWrite nm ⟨0x200000, 32, true⟩ 1) R (respond nm (.ok 0) (countNonsec nm R)) = true := by decide +kernel
theorem witness_installs : (run (.talLoadInstall sm 3) (at0 5 R)).tally.load = some ⟨3, 1, 5, [], none⟩ ∧
    countedF (talO PAGE_STAT) 15 8 (loading 3 1) (run (.talLoadInstall sm 4) (loading 3 1)) = true ∧
    (run (.talLoadAbort sm) (loading 3 1)).tally.load = none ∧ (run (.talLoadAbort sm) (loading 3 1)).flt = R.flt ∧
    (live (run (.talLoadAbort sm) (loading 3 1)) (talO Reg.TAL_LOADSTAT)).field 11 8 = 9 ∧
    (run .tallyInstallCheckDone (loading 3 1)).tally.load = none ∧
    raised Src.TALLY_IMAGE_BAD 3 (loading 3 1) (run .tallyInstallCheckDone (loading 3 1)) = true ∧
    (run .tallyInstallActivate (loading 3 3)).tally.load = none ∧
    live (run .tallyInstallActivate (loading 3 3)) (talO Reg.TAL_SETSTAT) = 8 := by decide +kernel
/-! ## Board stages -/

/-- Domain 1 in a state, with ten channels active and two spare. -/
def dom1 (x : DomState) (n : Nat) : State := at0 n (modStage 1 (fun y => { y with
  state := x, active := upto 10, spares := [10, 11], rail := some 1800, hist := [(n - 45, 1800)], duty := 32768, latched := some 90,
  chan := { chan0 with pos := 1800 * q32, tgt := 1800, adm := 1800 }, target := 1800,
  pulse := { (stage R 1).pulse with tonMin := 0, fastN := 6 } }) (smallest.setBoot { R.boot with state := .up }))
/-- A block that is up. -/
def up0 (n : Nat) : State := at0 n (R.setBoot { R.boot with state := .up })
theorem witness_start : stgCmdOk (up0 7) sm 1 = true ∧ (available R 1).length = 12 ∧
    (stage (run (.stgCmdStart sm 1) (up0 7)) 1).state = .armed ∧ (stage (run (.stgCmdStart sm 1) (up0 7)) 1).armedAt = 7 ∧
    (stage (run (.stgCmdStart sm 1) (up0 7)) 1).active.length + (stage (run (.stgCmdStart sm 1) (up0 7)) 1).spares.length = 12 ∧
    only [.stages, .chans, .ports] (up0 7) (run (.stgCmdStart sm 1) (up0 7)) = true := by decide +kernel
def noCh : State := forEach (upto 12) (fun k s => modCh (domBase 1 + k) (fun c => { c with failed := true }) s) (at0 7 (smallest.setBoot { R.boot with state := .up }))
theorem witness_too_few : (available noCh 1).length < cfgF noCh (stgO 1 Reg.STG_CFG) 22 16 ∧
    (stage (run (.stgCmdStart sm 1) noCh) 1).state = .tripped ∧ among Src.STG_TOO_FEW 1 noCh (run (.stgCmdStart sm 1) noCh) = true := by
  decide +kernel
theorem witness_stop : allOff (dom1 .run 400) 1 = true ∧ (stage (run (.stgCmdStop sm 1) (dom1 .run 400)) 1).state = .stop ∧
    (stage (run (.stgCmdStop sm 1) (dom1 .run 400)) 1).ref = 1800 * q32 ∧ (run (.stgCmdStop sm 1) (dom1 .soft 400)).stages = (dom1 .soft 400).stages ∧
    countedF (stgO 1 PAGE_STAT) 15 8 (dom1 .soft 400) (run (.stgCmdStop sm 1) (dom1 .soft 400)) = true := by decide +kernel
/-- Domain 1 with no spare, and with few active channels and none spare. -/
def bare (x : DomState) : State := modStage 1 (fun y => { y with spares := [] }) (dom1 x 400)
def few (k : Nat) : State := modStage 1 (fun y => { y with active := upto k, spares := [] }) (dom1 .run 400)
def retired : State := modCh (domBase 1 + 3) (fun c => { c with failed := true }) (dom1 .off 400)
theorem witness_channels : (stage (run (.stgCmdRetire sm 1 3) (dom1 .run 400)) 1).active = [0, 1, 2, 4, 5, 6, 7, 8, 9, 10] ∧
    (stage (run (.stgCmdRetire sm 1 3) (dom1 .run 400)) 1).spares = [11] ∧ (stage (run (.stgCmdRetire sm 1 3) (dom1 .run 400)) 1).offDue = some 500 ∧
    (stgCh (run (.stgCmdRetire sm 1 3) (dom1 .run 400)) (domBase 1 + 3)).failed = true ∧
    (stgCh (run (.stgCmdReturn sm 1 3) retired) (domBase 1 + 3)).failed = false ∧
    (stage (run (.stgCmdReturn sm 1 3) retired) 1).spares = [10, 11] ∧
    (stage (run (.stgCmdReturn sm 1 3) (modStage 1 (fun y => { y with pop := upto 12 }) retired)) 1).spares = [3, 10, 11] ∧
    among Src.STG_SPARE_EXHAUSTED 1 (bare .off) (run (.stgCmdRetire sm 1 3) (bare .off)) = true ∧
    (stage (run (.stgCmdRetire sm 1 3) (bare .off)) 1).state = .off ∧ (stage (run (.stgCmdRetire sm 1 0) (few 1)) 1).state = .tripped ∧
    among Src.STG_TOO_FEW 1 (few 1) (run (.stgCmdRetire sm 1 0) (few 1)) = true := by decide +kernel
/-- START of a domain in recovery: the host clear, whose START is the next tick's; and START where no domain may start. -/
def faulted : State := modRecov 1 (fun x => { x with state := .held }) (up0 7)
theorem witness_start_clears : stgCmdOk faulted sm 1 = true ∧ thmShutdown faulted = false ∧
    (recov (run (.stgCmdStart sm 1) faulted) 1).state = .normal ∧
    stage (run (.stgCmdStart sm 1) faulted) 1 = { stage faulted 1 with startDue := some 8 } ∧ mayStart (at0 7 R) = false ∧
    only [.ports] (at0 7 R) (run (.stgCmdStart sm 1) (at0 7 R)) = true ∧
    (stage (clearedStarts (at0 8 (run (.stgCmdStart sm 1) faulted))) 1).state = .armed ∧
    (stage (clearedStarts (at0 8 (run (.stgCmdStart sm 1) faulted))) 1).armedAt = 8 ∧
    (match step (run (.stgCmdStart sm 1) faulted) with | .next t => (stage t 1).state | _ => .off) = .armed := by decide +kernel
def overloaded (l : Nat) : State := modCh (domBase 1 + l) (fun c => { c with highAt := some 0 }) (dom1 .run 100000000)
def over10 : State := timeOver (.overload (domBase 1 + 10)) (overloaded 10)
theorem witness_overload : judged (overloaded 10) 1 10 = true ∧
    answers (.stgChOverload (domBase 1 + 10)) (overloaded 10) (expire (.overload (domBase 1 + 10)) (overloaded 10)) = true ∧
    (stgCh over10 (domBase 1 + 10)).failed = true ∧ (stage over10 1).spares = [11] ∧
    among Src.STG_CH_OVERLOAD (domBase 1 + 10) (overloaded 10) over10 = true ∧
    (timeOver (.overload (domBase 1 + 10)) (at0 0 (overloaded 10)) == at0 0 (overloaded 10)) = true := by decide +kernel
theorem witness_soft_entry : softEntry (dom1 .armed 100000000) 1 = some 0 ∧ softReady (dom1 .armed 100000000) 1 = true ∧
    (stage (run (.stgSoftEntry 1) (dom1 .armed 100000000)) 1).state = .soft ∧
    (stage (run (.stgSoftEntry 1) (dom1 .armed 100000000)) 1).ref = (Nat.min (vss R 1) 1800 : Nat) * q32 := by decide +kernel
def softAtEnd : State := modStage 1 (fun y => { y with ref := (vss R 1 : Int) * q32 }) (dom1 .soft 400)
def stopAtEnd : State := modStage 1 (fun y => { y with ref := 0, hist := [(355, 0)], rail := some 0 }) (dom1 .stop 400)
theorem witness_compensator : stgSwitching (dom1 .soft 400) 1 = true ∧ (stage (run (.compensatorStart 1) (dom1 .soft 400)) 1).state = .soft ∧
    (refStep (dom1 .soft 400) 1).1 < (vss R 1 * q32 : Int) ∧ (eng (run (.compensatorStart 1) (dom1 .soft 400)) clsComp 1).start = some 400 ∧
    (stage (run (.compensatorStart 1) softAtEnd) 1).state = .confirm ∧ (stage (run (.compensatorStart 1) stopAtEnd) 1).state = .off ∧
    (stage (run (.compensatorStart 1) (dom1 .run 400)) 1).state = .run := by decide +kernel
def confirmed (k : Nat) : State := modStage 1 (fun y => { y with pgRun := k }) (dom1 .confirm 400)
theorem witness_confirm : tripDue (confirmed 16) 1 = false ∧ (stage (run (.stgConfirmDone 1) (confirmed 16)) 1).state = .run ∧
    (stage (run (.stgConfirmDone 1) (confirmed 16)) 1).chan.pos = (vss R 1 : Int) * q32 ∧
    tripDue (modStage 1 (fun y => { y with ovRun := 3 }) (confirmed 16)) 1 = true ∧
    answers (.stgConfirmDone 1) (confirmed 15) (confirmed 15) = true := by decide +kernel
def compDue (ok : Bool) : State := setEng clsComp 1 { eng0 with start := some 310, done := if ok then some 350 else none }
  (modStage 1 (fun y => { y with comp := some ⟨5, 6, 7, 8, 9000, false, false, false⟩ }) (dom1 .run 400))
theorem witness_comp_latch : engDue (compDue true) clsComp 1 = true ∧ (stage (run (.compensatorLatch 1) (compDue true)) 1).duty = 9000 ∧
    (stage (run (.compensatorLatch 1) (compDue true)) 1).ePrev = 8 ∧ (stage (run (.compensatorLatch 1) (compDue false)) 1).duty = 32768 ∧
    among Src.ENG_OVERRUN (engKey clsComp 1) (compDue false) (run (.compensatorLatch 1) (compDue false)) = true := by decide +kernel
theorem witness_duty : cfgF R (stgO 1 Reg.STG_DLIM) 15 0 ≤ cfgF R (stgO 1 Reg.STG_DLIM) 31 16 ∧
    (pid (dom1 .run 400) 1 1700 (1800 * q32)).duty ≤ cfgF R (stgO 1 Reg.STG_DLIM) 31 16 := by decide +kernel
def ailing (x : DomState) : State := modStage 1 (fun y => { y with ovRun := 3, gapRun := 255, uvFrom := some 0 }) (dom1 x 100000000)
def tripped1 (src : Nat) (s t : State) : Bool := (stage t 1).state == .tripped && among src 1 s t
theorem witness_trips : answers (.stgPgTimeout 1) (ailing .confirm) (expire (.pg 1) (ailing .confirm)) = true ∧
    tripped1 Src.STG_PG_TIMEOUT (ailing .confirm) (timeOver (.pg 1) (ailing .confirm)) = true ∧
    (timeOver (.pg 1) (confirmed 16) == confirmed 16) = true ∧ (timeOver (.uv 1) (dom1 .run 400) == dom1 .run 400) = true ∧
    tripped1 Src.STG_OV (ailing .armed) (run (.stgOv 1) (ailing .armed)) = true ∧
    tripped1 Src.STG_SENSE_LOST (ailing .soft) (run (.stgSenseLost 1) (ailing .soft)) = true ∧
    answers (.stgUv 1) (ailing .run) (expire (.uv 1) (ailing .run)) = true ∧
    (stage (timeOver (.uv 1) (ailing .run)) 1).uvSaid = true ∧ raised Src.STG_UV 1 (ailing .run) (timeOver (.uv 1) (ailing .run)) = true := by
  decide +kernel
def shorted : State := modStage 1 (fun y => { y with lagRun := 4 }) (dom1 .soft 400)
theorem witness_short : ssTrips shorted 1 = true ∧ tripped1 Src.STG_SS_SHORT shorted (run (.stgSsShort 1) shorted) = true := by decide +kernel
/-- A sector of domain 1 in service, and its trip. -/
def served : State := modSec 12 (fun x => { x with mode := .run, sw := .on, sp := 1800, prof := .done }) (setCell 770 { cell0 770 with state := .regulate }
  (setClu 48 { clu0 with enabled := true } (dom1 .run 400)))
theorem witness_trip_sectors : (domSectors R 1).contains 12 = true ∧ (sec (tripDomain 1 served) 12).sw = .off ∧ (sec (tripDomain 1 served) 12).sp = 0 ∧
    (sec (tripDomain 1 served) 12).mode = .off ∧ (clu (tripDomain 1 served) 48).enabled = false ∧ (cell (tripDomain 1 served) 770).state = .off := by
  decide +kernel
def offsDue : State := modStage 1 (fun y => { y with offDue := some 2500 }) (dom1 .run 2500)
def allTrip : State := forEach (upto 10) (fun l => modCh (domBase 1 + l) (fun c => { c with trips := 4 })) (dom1 .run 2500)
/-- Half of the active channels with four trips, and fewer. -/
def someTrip (k : Nat) : State := forEach (upto k) (fun l => modCh (domBase 1 + l) (fun c => { c with trips := 4 })) (dom1 .run 2500)
theorem witness_rail_short : (stage (run (.switchingPeriodStart 1) (someTrip 5)) 1).state = .tripped ∧
    (stage (run (.switchingPeriodStart 1) (someTrip 4)) 1).state = .run := by decide +kernel
theorem witness_period : (stage (run (.switchingPeriodStart 1) offsDue) 1).offDue = none ∧
    (stage (run (.switchingPeriodStart 1) offsDue) 1).offs.length = 10 ∧ (run (.switchingPeriodStart 1) offsDue).flt = R.flt ∧
    (stage (run (.switchingPeriodStart 1) allTrip) 1).state = .tripped ∧
    among Src.STG_RAIL_SHORT 1 allTrip (run (.switchingPeriodStart 1) allTrip) = true := by decide +kernel
def cycling : State := run (.switchingPeriodStart 1) offsDue
def inCycle (k : Nat) : State := at0 k (run (.switchingCycleStart (domBase 1)) cycling)
theorem witness_cycle : cycleDue cycling (domBase 1) = true ∧ (stgCh (inCycle 2500) (domBase 1)).cycAt = some 80000 ∧
    (stgCh (inCycle 2500) (domBase 1)).tOn = 16 * pswOf (stage R 1).fsw ∧ pwmLevel (inCycle 2510) (domBase 1) = .high ∧
    (stgCh (run (.fastLimitTrip (domBase 1)) (inCycle 2504)) (domBase 1)).tripped = true ∧
    pwmLevel (run (.fastLimitTrip (domBase 1)) (inCycle 2504)) (domBase 1) = .low ∧
    answers (.fastLimitTrip (domBase 1)) (inCycle 2503) (inCycle 2503) = true := by decide +kernel
/-- A fifth trip in a row against a `FAST_N` of 5 retires the channel. -/
def fifth : State := modStage 1 (fun y => { y with pulse := { y.pulse with fastN := 5 } }) (modCh (domBase 1) (fun c => { c with trips := 4 }) (inCycle 2504))
theorem witness_fast_retires : (stgCh (run (.fastLimitTrip (domBase 1)) fifth) (domBase 1)).failed = true ∧
    pwmLevel (run (.fastLimitTrip (domBase 1)) fifth) (domBase 1) = .mid ∧
    among Src.STG_CH_SHORT (domBase 1) fifth (run (.fastLimitTrip (domBase 1)) fifth) = true := by decide +kernel
def emulating : State := modCh (domBase 1) (fun c => { c with de := true }) (modStage 1 (fun y => { y with de := true }) (inCycle 3400))
theorem witness_zero_crossing : chDe (conf (stgO 1 Reg.STG_CFG) ((cfg R (stgO 1 Reg.STG_CFG)).put 24 24 1) emulating) (domBase 1) = true ∧
    pwmLevel emulating (domBase 1) = .low ∧ pwmLevel (run (.zeroCrossing (domBase 1)) (conf (stgO 1 Reg.STG_CFG)
      ((cfg R (stgO 1 Reg.STG_CFG)).put 24 24 1) emulating)) (domBase 1) = .mid := by decide +kernel
theorem witness_pwm : pwmLevel R 0 = .mid ∧ pwmLevel (inCycle 2500) (domBase 1 + 1) = .mid ∧
    pwmLevel (modStage 1 (fun y => { y with state := .tripped, ovLow := true }) (inCycle 2510)) (domBase 1) ≠ .high := by decide +kernel
theorem witness_rail : (stage (run (.stgBUpdate 1) (dom1 .armed 1280)) 1).bCode = 0 ∧ (stage (run (.stgBUpdate 1) (dom1 .run 1280)) 1).bCode = (formB (dom1 .run 1280) 1).1 ∧
    (stage (run (.railTargetUpdate 1) (dom1 .run 20480)) 1).cmd = some (railTarget (dom1 .run 20480) 1) ∧
    only [.stages] (dom1 .run 20480) (run (.railTargetUpdate 1) (dom1 .run 20480)) = true ∧ (1100 ≤ railTarget (dom1 .run 20480) 1) ∧
    (stage (run (.chairliftRailStep 1) (modStage 1 (fun y => { y with cmd := some 1850, stepAt := 300 }) (dom1 .run 400))) 1).chan.tgt = 1850 := by decide +kernel
/-! ## Converters and telemetry -/

def adcIn (n : Nat) (x : AdcState) (s : State) : State := modAdc n (fun a => { a with state := x, role := if x = .rail then 1 else if x = .telem then n else 15 }) s
/-- Every converter in service: rail roles, the four quadrants, and four spares. -/
def service (k : Nat) : State := at0 k (forEach (upto 12) (fun n s => modAdc n (fun a => { a with
  state := if n < 4 then .rail else if n < 8 then .telem else .spare, role := if n < 8 then n else 15 }) s) R)
theorem witness_calibration : pairDue (service 300) 9 = true ∧ calInRange (calOf R 0 4000 28000) = true ∧ calInRange (calOf R 0 4000 20000) = false ∧
    (adc (run (.adcCalPair 9 4008 28008) (service 300)) 9).gain = 16384 ∧ (adc (run (.adcCalPair 9 4008 28008) (service 300)) 9).offs = -4 ∧
    (adc (run (.adcCalPair 9 4008 28008) (service 300)) 9).state = .spare ∧
    adc (run (.adcCalPair 9 4000 20000) (service 300)) 9 = { adc (service 300) 9 with calAt := 260 } ∧
    raised Src.ADC_CAL_RANGE 9 (service 300) (run (.adcCalPair 9 4000 20000) (service 300)) = true ∧ adcCode (service 300) 9 1 0xFFF ≤ 4095 := by
  decide +kernel
theorem witness_cal : pairDue (at0 300 R) 2 = true ∧ (adc (run (.adcCalPair 2 4000 28000) (at0 300 R)) 2).state = .rail ∧
    (adc (run (.adcCalPair 2 4000 28000) (at0 300 R)) 2).role = 2 ∧ (adc (run (.adcCalPair 7 4000 28000) (at0 300 R)) 7).state = .telem ∧
    (adc (run (.adcCalPair 7 4000 20000) (at0 300 R)) 7).state = .failed ∧ (adc (run (.adcCalPair 7 4000 20000) (at0 300 R)) 7).cause = 1 ∧
    among Src.ADC_CAL_RANGE 7 (at0 300 R) (run (.adcCalPair 7 4000 20000) (at0 300 R)) = true ∧
    (adc (run (.adcCalPair 8 4000 28000) (at0 300 R)) 8).state = .spare := by decide +kernel
theorem witness_overflows : (adc (run (.adcCorrErr ⟨4, [true, false, true, true, true, true]⟩) (service 300)) 4).corrRun = 4 ∧
    raised Src.ADC_CORR_ERR 4 (service 300) (run (.adcCorrErr ⟨4, [true, false, true, true, true, true]⟩) (service 300)) = true ∧
    (live (run (.adcCorrErr ⟨4, [true, false, true, true, true, true]⟩) (service 300)) (adcO 4 Reg.ADC_CORRERR)).toNat = 5 ∧
    (run (.adcCorrErr ⟨4, [true, true, true, false, true]⟩) (service 300)).flt = R.flt := by decide +kernel
def tested16 (ok : Bool) : State := modAdc 9 (fun a => { a with state := .retest, pairs := 16, gMin := 16384, gMax := 16384, pairOk := ok }) (service 300)
theorem witness_converter_retest : (adc (run (.adcCmdRetest sm 9) (adcIn 9 .failed (service 300))) 9).state = .retest ∧
    countedF (adcO 9 PAGE_STAT) 15 8 (service 300) (run (.adcCmdRetest sm 9) (service 300)) = true ∧
    (adc (run (.adcRetestDone 9) (tested16 true)) 9).state = .spare ∧ (adc (run (.adcRetestDone 9) (tested16 false)) 9).state = .failed ∧
    (adc (run (.adcRetestDone 9) (tested16 false)) 9).cause = 5 := by decide +kernel
def taking9 (role : Nat) : State := modAdc 9 (fun a => { a with taking := some (role, 284) }) (service 300)
theorem witness_connect : (adc (run (.adcReplaceConnect 5) (taking9 5)) 9).state = .telem ∧ (adc (run (.adcReplaceConnect 5) (taking9 5)) 9).keep = 300 ∧
    (adc (run (.adcReplaceConnect 2) (taking9 2)) 9).state = .rail ∧ (adc (run (.adcReplaceConnect 2) (taking9 2)) 9).keep = 340 ∧
    raised Src.ADC_REPLACED 9 (taking9 2) (run (.adcReplaceConnect 2) (taking9 2)) = true := by decide +kernel
theorem witness_converter_retire : (adc (run (.adcCmdRetire sm 9) (service 300)) 9).state = .failed ∧
    Store.get (run (.adcCmdRetire sm 9) (service 300)).sparing.adcIsol 0 9 = 1 ∧ (run (.adcCmdRetire sm 9) (service 300)).adcOwed = [] ∧
    (run (.adcCmdRetire sm 5) (service 300)).adcOwed = [(5, 5)] ∧ (adc (run (.adcCmdRetire sm 5) (service 300)) 5).cause = 4 := by decide +kernel
def noSpares : State := forEach [8, 9, 10, 11] (fun n s => adcIn n .failed s) (service 300)
theorem witness_serve : (adc (serveRole (service 300) (5, 5)) 8).taking = some (5, 316) ∧
    among Src.ADC_SPARE_EXHAUSTED 5 noSpares (serveRole noSpares (5, 5)) = true ∧ among Src.ADC_TELEM_LOST 1 noSpares (serveRole noSpares (5, 5)) = true ∧
    quadConv noSpares 3 = some 7 ∧ among Src.ADC_TELEM_LOST 3 noSpares (serveRole noSpares (1, 1)) = true ∧
    (adc (serveRole noSpares (1, 1)) 7).taking = some (1, 316) := by decide +kernel
theorem witness_owed_step : (match step ((service 300).setAdcOwed [(5, 5)]) with | .next t => (adc t 8).taking | _ => none) = some (5, 316) := by
  decide +kernel
def differs : State := modQuad 1 (fun x => { x with xrun := [(2, 4)], xlast := [(2, (Frac.ofInt 1800, 1900))] }) (service 300)
def allBusy : State := forEach [8, 9, 10, 11] (fun n s => adcIn n .failed s) differs
def arbitrating : State := at0 500 (run (.adcXchkArbitration 2 1) differs)
theorem witness_arbitration : (xchk arbitrating 2).map (fun x => (x.quad, x.conv, x.from0)) = some (1, 8, 300) ∧
    countedF (qdO 1 Reg.QD_XCHK) 15 0 differs arbitrating = true ∧ arbitrating.flt = differs.flt ∧
    raised Src.ADC_XCHK_UNRESOLVED 2 allBusy (run (.adcXchkArbitration 2 1) allBusy) = true ∧
    Store.get (quad (run (.adcXchkArbitration 2 1) allBusy) 1).xrun 0 2 = 0 := by decide +kernel
def eight (v : Nat) : List Nat := [v, v, v, v, v, v, v, v]
theorem witness_arbitrated : xchk (run (.adcXchkResult 2 (eight 1800)) arbitrating) 2 = none ∧
    raised Src.ADC_XCHK_FAIL 5 arbitrating (run (.adcXchkResult 2 (eight 1800)) arbitrating) = true ∧
    raised Src.ADC_XCHK_FAIL 2 arbitrating (run (.adcXchkResult 2 (eight 1900)) arbitrating) = true ∧
    raised Src.ADC_XCHK_UNRESOLVED 2 arbitrating (run (.adcXchkResult 2 (eight 0)) arbitrating) = true ∧
    Store.get (quad (run (.adcXchkResult 2 (eight 0)) arbitrating) 1).xrun 0 2 = 0 := by decide +kernel
def railUp : State := modStage 1 (fun y => { y with state := .armed, armedAt := 0 }) (service 300)
theorem witness_rail_result : (stage (run (.railConverterResult 1 1234) railUp) 1).rail = some 1234 ∧
    (stage (run (.railConverterResult 1 1234) railUp) 1).hist = [(255, 1234)] ∧ only [.stages] railUp (run (.railConverterResult 1 1234) railUp) = true := by
  decide +kernel
/-- The results of a sequence: its first entry begun, and due. -/
def entry0 : State := conf (qdO 0 (Reg.QD_SEQ 0)) 0xFE (service 300)
def begun : State := run (.sequenceEntryStart 0) entry0
def dueAt : Nat := (begun.quads.find 0).map (fun x => (x.due.map (·.due)).headD 0) |>.getD 0
theorem witness_entry : quadEdge entry0 0 = true ∧ entryFree (quad entry0 0) 300 = true ∧ seqEntry entry0 0 0 = (254, 0) ∧
    (quad begun 0).cur = some (0, 300, 325) ∧ (quad begun 0).next = 1 ∧ (quad begun 0).due.map (·.chan) = [254] ∧ dueAt = 365 ∧
    (live (run (.telemetryResult 0 [777]) (at0 365 begun)) (qdO 0 Reg.QD_GND)).field 11 0 = 777 ∧
    (live (run (.telemetryResult 0 [777]) (at0 365 begun)) (qdO 0 Reg.QD_GND)).bit 31 = true ∧
    (quad (run (.telemetryResult 0 [777]) (at0 365 begun)) 0).due = [] := by decide +kernel
/-- The same conversion of other channels: a tap, a current tap, a diode, a stage channel's current, a thermistor, a rail's tap. -/
def ofChan (c : Nat) (v : Nat) : State :=
  run (.telemetryResult 0 [v]) (modQuad 0 (fun x => { x with due := x.due.map (fun y => { y with chan := c }) }) (at0 365 begun))
theorem witness_destinations : (live (ofChan 5 777) (cluO 1 (Reg.CLU_VTAP 1))).field 11 0 = 777 ∧
    (live (ofChan 70 777) (cluO 1 (Reg.CLU_ITAP 2))).field 11 0 = 777 ∧ (ofChan 133 777).therm.dRes.find 5 = some (365, 777) ∧
    (stgCh (ofChan 163 777) 3).res.head? = some (365, clamp (roundDiv ((777 - 2 * ((cfg R (stgO 0 Reg.STG_IMONCAL)).field 11 0 : Int)) * 5000)
      ((cfg R (stgO 0 Reg.STG_IMONCAL)).field 27 16)) (-32768) 32767) ∧
    (ofChan 242 777).therm.tRes.find 2 = some (365, 777) ∧ (live (ofChan 249 777) (qdO 0 (Reg.QD_RAILTAP 1))).field 11 0 = 777 ∧
    (live (ofChan 252 777) (qdO 0 Reg.QD_REFLO)).bit 31 = true ∧ (live (ofChan 253 777) (qdO 0 Reg.QD_REFHI)).field 11 0 = 777 ∧
    (live (ofChan 255 777) (qdO 0 Reg.QD_VAON)).field 23 16 = 1 := by decide +kernel
def passDone (b : Bool) : State := conf (qdO 0 Reg.QD_SEQCTL) 0x301
  (modQuad 0 (fun x => { x with passEnd := some (70000, b), refLo := some (4000, 8), refHi := some (27000, 8) }) (service 300))
theorem witness_pass : passOver (passDone true) 0 (quad (passDone true) 0) = some (70000, true) ∧
    live (run (.sequencePassEnd 0) (passDone true)) (qdO 0 Reg.QD_PASSTIME) = 4464 ∧
    counted (qdO 0 Reg.QD_PASSES) (passDone true) (run (.sequencePassEnd 0) (passDone true)) = true ∧
    calInRange (calOf R 0 4000 27000) = true ∧ (adc (run (.sequencePassEnd 0) (passDone true)) 4).gain = 16473 ∧
    (run (.sequencePassEnd 0) (passDone false)).adcs = (passDone false).adcs ∧ (quad (run (.sequencePassEnd 0) (passDone false)) 0).passEnd = none := by
  decide +kernel
theorem witness_urgent : urgentFits (service 300) 0 = true ∧ urgentFits (full0 (service 300)) 0 = false ∧
    (quad (run (.urgentRequest 0 2 130) (service 300)) 0).queue = [⟨130, 2, 300⟩] ∧
    (quad (run (.urgentRequest 0 1 70) (service 300)) 0).queue = [⟨70, 1, 300⟩] ∧
    counted (qdO 0 Reg.QD_URGREFUSED) (full0 (service 300)) (run (.urgentRequest 0 1 70) (full0 (service 300))) = true ∧
    (quad (run (.qdUrgreqGo sm 0 254) (service 300)) 0).queue = [⟨254, 3, 300⟩] ∧ (run (.qdUrgreqGo nm 0 254) (service 300)).quads = (service 300).quads := by
  decide +kernel
def urgStarted : State := run (.urgentConversionStart 0) (run (.qdUrgreqGo sm 0 254) (service 300))
def redone : State := modQuad 0 (fun x => { x with redo := some ⟨254, 3, 290⟩, queue := [⟨1, 0, 295⟩] }) (service 300)
theorem witness_urgent_start : (quad urgStarted 0).urgent = some (320, ⟨254, 3, 300⟩) ∧ (quad urgStarted 0).queue = [] ∧
    (quad urgStarted 0).due.map (fun c => (c.chan, c.due, c.avg)) = [(254, 360, 2)] ∧
    (quad (run (.urgentConversionStart 0) redone) 0).queue = [⟨1, 0, 295⟩] ∧ (quad (run (.urgentConversionStart 0) redone) 0).redo = none ∧
    (live (run (.urgentResult 0 [700, 702]) (at0 360 urgStarted)) (qdO 0 Reg.QD_URGRES)).field 11 0 = 701 ∧
    counted (qdO 0 Reg.QD_URGDONE) urgStarted (run (.urgentResult 0 [700, 702]) (at0 360 urgStarted)) = true := by decide +kernel
/-! ## Thermal manager -/

def thermIn (t : Int) : ThermIn := ⟨[(0, t), (1, t)], [], (upto 30).map (fun i => cfg R (thmO (0x040 + 4 * i)))⟩
def warm (f : Therm → Therm) (k : Nat) : State := at0 k (modTherm f (smallest.setBoot { smallest.boot with thermOn := true }))
def asked (t : Therm) : Therm := { t with req := true, grace := some 2500, above := some 1, mode := 1 }
theorem witness_therm_start : atTick (warm asked 1280000) thermP 0 = true ∧ thermMayRun (warm asked 1280000) = true ∧
    (eng (run .thermalStart (warm asked 1280000)) clsTherm 0).start = some 1280000 ∧
    (run .thermalStart (warm asked 1280000)).therm.run.isSome = true ∧ (run .thermalStart (warm asked 1280000)).therm.req = false ∧
    (run .thermalStart (warm asked 1280000)).therm.mode = 0 ∧ thermMayRun (at0 1280000 smallest) = false ∧
    answers .thermalStart (at0 1280000 smallest) (at0 1280000 smallest) = true := by decide +kernel
def judging (t : Int) (ok : Bool) : State := at0 1200000 (setEng clsTherm 0 { eng0 with start := some 0, done := if ok then some 700000 else none }
  (modTherm (fun y => { y with run := some (thermIn t) }) smallest))
theorem witness_therm_latch : engDue (judging 7000 true) clsTherm 0 = true ∧ (run .thermalLatch (judging 7000 true)).therm.gstate = [2, 0, 0] ∧
    (run .thermalLatch (judging 7000 true)).therm.req = true ∧ (run .thermalLatch (judging 7000 true)).therm.grace = some 3700000 ∧
    among Src.THM_THROTTLE 0 (judging 7000 true) (run .thermalLatch (judging 7000 true)) = true ∧
    (run .thermalLatch (judging 3000 true)).therm.gstate = [0, 0, 0] ∧ (run .thermalLatch (judging 3000 true)).therm.req = false := by decide +kernel
theorem witness_therm_hot : (run .thermalLatch (judging 8000 true)).therm.gstate = [3, 0, 0] ∧
    among Src.THM_SHUTDOWN 0 (judging 8000 true) (run .thermalLatch (judging 8000 true)) = true ∧
    among Src.THM_THROTTLE 0 (judging 8000 true) (run .thermalLatch (judging 8000 true)) = true ∧
    (run .thermalLatch (judging 7000 false)).therm = (modTherm (fun y => { y with run := none }) (judging 7000 false)).therm ∧
    among Src.ENG_OVERRUN (engKey clsTherm 0) (judging 7000 false) (run .thermalLatch (judging 7000 false)) = true := by decide +kernel
def graceOut (a : Option Nat) : State := warm (fun t => { asked t with above := a }) 2500
theorem witness_grace : (run .thermalGraceExpiry (graceOut (some 1))).therm.enf = true ∧ (run .thermalGraceExpiry (graceOut (some 1))).therm.grace = none ∧
    raised Src.THM_ENFORCE 1 (graceOut (some 1)) (run .thermalGraceExpiry (graceOut (some 1))) = true ∧
    counted (thmO Reg.THM_THROTTLES) (graceOut (some 1)) (run .thermalGraceExpiry (graceOut (some 1))) = true ∧
    (run .thermalGraceExpiry (graceOut none)).therm.await = true ∧ (run .thermalGraceExpiry (graceOut none)).flt = smallest.flt ∧
    answers .thermalGraceExpiry (modTherm (fun t => { t with grace := some 9 }) (judging 7000 true)) (modTherm (fun t => { t with grace := some 9 }) (judging 7000 true)) = true := by
  decide +kernel
def enforcing : State := modCap (fun c => { c with point := 5 }) (warm (fun t => { t with enf := true, opMin := 4 }) 640000)
theorem witness_enforce : (run .enforceStep enforcing).therm.ceil = some 4 ∧ (run .enforceStep (run .enforceStep enforcing)).therm.ceil = some 4 ∧
    counted (thmO Reg.THM_STEPS) enforcing (run .enforceStep enforcing) = true ∧ only [.therm, .live] enforcing (run .enforceStep enforcing) = true := by
  decide +kernel
def retired7 : State := warm (fun t => { t with dFail := [7], maxed := [3], tFail := [2] }) 100
theorem witness_thermal_sensors : (run (.thmCmdRetire sm 5) retired7).therm.dFail = [5, 7] ∧ Store.get (run (.thmCmdRetire sm 5) retired7).sparing.dioIsol 0 5 = 1 ∧
    (run (.thmCmdReturn sm 7) retired7).therm.dFail = [] ∧ (run (.thmCmdReturn sm 7) retired7).therm.maxed = [] ∧
    (run (.thmCmdTreturn sm 2) retired7).therm.tFail = [] ∧ (run (.thmCmdTreturn sm 2) retired7).therm.dFail = [7] := by decide +kernel
theorem witness_group_states : groupState (thermIn 0) 0 0 8000 = 3 ∧ groupState (thermIn 0) 0 0 7999 = 2 ∧ groupState (thermIn 0) 0 3 7999 = 3 ∧
    stvFactor (thermIn 0) [(2, some 7000, false), (0, none, false), (0, none, false)] < 32768 ∧ stvFactor (thermIn 0) [] = 32768 ∧
    ntcTemp 150 [(100, 6400), (300, 6398)] = 6400 := by decide +kernel

/-! ## Capping, energy and Blanket -/

/-- A primary of a group of three at a capping period's tick 0. -/
def capping : State := conf (pwrO Reg.PWR_ISHARE) 0x00404080 (at0 20480 (smallest.setBridge { smallest.bridge with role := 1, peers := 7 }))
theorem witness_cap_start : atTick capping capP 0 = true ∧ (run .capLoopStart capping).cap.run = some (capCompute capping) ∧
    (eng (run .capLoopStart capping) clsCap 0).start = some 20480 ∧ live (run .capLoopStart capping) (pwrO Reg.PWR_ICAP) = 4096 ∧
    peersOf capping = [1, 2] ∧ (run .capLoopStart capping).bridge.capSent = [(1, 2048), (2, 2048)] ∧
    (run .capLoopStart (capping.setBridge bridge0)).bridge = bridge0 := by decide +kernel
def capDone (ok : Bool) : State := at0 40480 (setEng clsCap 0 { eng0 with start := some 20480, done := if ok then some 30000 else none }
  (modCap (fun c => { c with run := some { capCompute capping with point := 3, unmet := true } }) capping))
theorem witness_cap_latch : engDue (capDone true) clsCap 0 = true ∧ (run .capLoopLatch (capDone true)).cap.point = 3 ∧
    (run .capLoopLatch (capDone true)).cap.run = none ∧ (run .capLoopLatch (capDone true)).cap.last.isSome = true ∧
    among Src.PWR_CAP_UNMET 0 (capDone true) (run .capLoopLatch (capDone true)) = true ∧
    (run .capLoopLatch (capDone false)).cap = { (capDone false).cap with run := none } ∧
    among Src.ENG_OVERRUN (engKey clsCap 0) (capDone false) (run .capLoopLatch (capDone false)) = true := by decide +kernel
/-- Ample power, and none, with capping on and a ceiling. -/
def capped (w : Word) : State := conf (pwrO Reg.PWR_CAP) w (conf (pwrO Reg.PWR_CTL) 0x201 (modStage 0 (fun y => { y with rail := some 1000 })
  (modCap (fun c => { c with figPer := 0, figSum := [(0, 160000)] }) (modTherm (fun t => { t with ceil := some 3 }) (at0 20480 smallest)))))
theorem witness_selection : cfgB (capped 1) (pwrO Reg.PWR_CTL) 0 = true ∧ (capCompute (capped 8000)).unmet = false ∧
    (capCompute (capped 8000)).upper ≤ 3 ∧ (capCompute (capped 8000)).point ≤ (capCompute (capped 8000)).upper ∧
    fails (capped 8000) (measure (capped 8000)) (effCap (capped 8000)) 0 (capCompute (capped 8000)).point = (false, false) ∧
    (capCompute (capped 1)).unmet = true ∧ (capCompute (capped 1)).point = 0 := by decide +kernel
def metering (role n : Nat) : State := modStage 0 (fun y => { y with bCode := 100, v0 := some 2000 })
  (at0 n (smallest.setBridge { smallest.bridge with role := role, peers := 3, inst := if role = 2 then 1 else 0, joined := true }))
theorem witness_energy : (run .energyAccumulate (metering 0 2480)).cap.acc = 64000000 ∧ (run .energyAccumulate (metering 0 2480)).cap.inc = some ⟨0, 64000000, false, false⟩ ∧
    (run .energyAccumulate (metering 2 2480)).bridge.enSent = some (64000000, 0) ∧ (run .energyAccumulate (metering 0 2480)).flt = smallest.flt ∧
    (run .energyAccumulate (modStage 0 (fun y => { y with bFail := true, bGood := 90 }) (metering 0 2480))).cap.subst = true ∧
    raised Src.PWR_ENERGY_EST 0 (modStage 0 (fun y => { y with bFail := true, bGood := 90 }) (metering 0 2480))
      (run .energyAccumulate (modStage 0 (fun y => { y with bFail := true, bGood := 90 }) (metering 0 2480))) = true := by decide +kernel
def job (x : JobState) (id : Word) : JobSlot := { job0 with state := x, id := id, acc := 5, stop := 2500 }
/-- Slot 3 counts, slot 4 ends, in the estimate period from tick 1,280 on. -/
def jobs (role : Nat) : State := modCap (fun c => { c with inc := some ⟨1, 700, false, false⟩, recv := [(1, (1, 300))] })
  (setJob 3 (job .active 7) (setJob 4 (job .ending 8) (metering role 3800)))
theorem witness_job_energy : (jobSlot (run .jobEnergyAdd (jobs 0)) 3).acc = 705 ∧ (jobSlot (run .jobEnergyAdd (jobs 1)) 3).acc = 1005 ∧
    (jobSlot (run .jobEnergyAdd (jobs 0)) 4).state = .ended ∧ (jobSlot (run .jobEnergyAdd (jobs 0)) 3).state = .active ∧
    (jobSlot (run .jobEnergyAdd (jobs 0)) 5).acc = 0 := by decide +kernel
def allJobs : State := forEach (upto 16) (fun j s => setJob j (job .active (BitVec.ofNat 32 (100 + j))) s) smallest
theorem witness_jobs : jobSlot (run (.hostJobstart nm 9) (jobs 0)) 0 = { job0 with state := .active, id := 9, seq := 1, start := 3800 } ∧
    raised Src.JOB_SLOTS_FULL 0 allJobs (run (.hostJobstart nm 9) allJobs) = true ∧ (run (.hostJobstart nm 9) allJobs).jobs = allJobs.jobs ∧
    (jobSlot (run (.hostJobend nm 7) (jobs 0)) 3).state = .ending ∧ (jobSlot (run (.hostJobend nm 7) (jobs 0)) 3).stop = 3800 ∧
    countedF (hostO Reg.HOST_JOBERR) 23 16 (jobs 0) (run (.hostJobend nm 99) (jobs 0)) = true ∧
    (run (.hostJobstart nm 9) (jobs 2)).jobs = (jobs 2).jobs := by decide +kernel
/-- No slot is free and three have ended, slot 6 first; and a warm reset over an active and an ending slot. -/
def endedJobs : State := at0 5000 (forEach [2, 6, 9] (fun j s => setJob j { job .ended 7 with ended := if j = 2 then 90 else 80 } s) allJobs)
theorem witness_job_slots : jobSlot (run (.hostJobstart nm 9) endedJobs) 6 = { job0 with state := .active, id := 9, seq := 1, start := 5000 } ∧
    jobSlot (run (.hostJobstart nm 9) endedJobs) 9 = jobSlot endedJobs 9 ∧ jobSlot (jobsWarm (jobs 0)) 3 =
      { job .active 7 with state := .ended, part := true, ended := 3800 } ∧ jobSlot (jobsWarm (jobs 0)) 4 = job .ending 8 := by decide +kernel
def endedJob : State := setJob 0 { job .ended 7 with acc := 6250000 * 0x300000002 } smallest
theorem witness_final_energy : (run (.resultRegisterRead nm (word (hostO (Reg.HOST_JOBE_LO 0)))) endedJob).ports.fab = .ok 2 ∧
    (run (.resultRegisterRead nm (word (hostO (Reg.HOST_JOBE_HI 0)))) endedJob).ports.fab = .ok 3 ∧
    (run (.resultRegisterRead nm (word (hostO (Reg.HOST_JOBE_LO 3)))) (jobs 0)).ports.fab = .ok 0 := by decide +kernel
def covering (n : Nat) : State := at0 n (modBlk (fun b => { b with state := .cover, f0 := Frac.ofInt 90000000, window := [Frac.ofInt 90000000] })
  (modStage 0 (fun y => { y with state := .run }) (conf (blkO Reg.BLK_CTL) 7 smallest)))
def idle (n : Nat) : State := modBlk (fun b => { b with state := .idle, msgs := [(true, 2000)] }) (covering n)
theorem witness_messages : (run (.blkMsgExit nm) (idle 2000)).blk.msgs = [(true, 2000), (false, 2000)] ∧
    (run (.blkMsgEnter nm) (idle 2100)).blk.msgs = [(true, 2000), (true, 2100)] := by decide +kernel
def feeding : State := conf (pwrO Reg.PWR_CTL) 0 (conf (blkO (Reg.BLK_GMASK 0)) 0xFF (setLive (pwrO Reg.PWR_CAPEFF) 0xFFFF
  (modSec 0 (fun x => { x with mode := .run, sw := .on }) (covering 2480))))
theorem witness_evaluation : (run .blanketEvaluation (idle 2480)).blk.state = .cover ∧ (run .blanketEvaluation (idle 2480)).blk.msgs = [] ∧
    (run .blanketEvaluation (modBlk (fun b => { b with state := .wait }) (idle 2480))).blk.state ≠ .cover ∧
    (run .blanketEvaluation (modBlk (fun b => { b with state := .wait }) (idle 2480))).blk.next = some ([], [0, 0, 0, 0]) ∧
    eligible feeding 0 = true ∧ (formLevels (blkPowers feeding) feeding).1.find 0 = some 15 := by decide +kernel
theorem witness_levels : (run .blanketLevelDrive (modBlk (fun b => { b with next := some ([(0, 3)], [3, 0, 0, 0]) }) (covering 2560))).blk.drv = [(0, 3)] ∧
    (run .blanketLevelDrive (modBlk (fun b => { b with bus := [(0, 3)], drv := [(0, 2)] }) (covering 2560))).blk.drvOld = [(0, 2)] ∧
    (run .blanketLevelDrive (modBlk (fun b => { b with bus := [(0, 3)] }) (covering 2560))).blk.drv = [(0, 3)] := by decide +kernel
/-! ## The seating plan -/

/-- The plan in service at a tick 0 of a capping and an estimate period, sectors 0 and 12 in RUN, with a stream address. -/
def seated (n : Nat) : State := conf (seatO Reg.SEAT_MIGADDR_LO) 0x1000 (at0 n (forEach [0, 12] (fun sc s => modSec sc (fun x =>
  { x with mode := .run, sw := .on }) s) (modStage 1 (fun y => { y with state := .run }) (modStage 0 (fun y => { y with state := .run })
    ((smallest.setPlan { smallest.plan with ready := true }).setBoot { smallest.boot with state := .up })))))
def queried : State := run (.lookupQuery 0 .tile 25 0) (seated 100)
theorem witness_lookup : queried.seat.pend = [⟨0, 103, .tile, 25, 0, none⟩] ∧ (lookup R .tile 25 0).valid = false ∧
    (formAnswers queried).seat.pend = [⟨0, 103, .tile, 25, 0, some (lookup queried .tile 25 0)⟩] ∧
    (lookup queried .tile 25 0).phys = 26 ∧ (lookup queried .tile 25 0).valid = true ∧
    (match step queried with | .next t => t.seat.pend | _ => []) = (formAnswers queried).seat.pend ∧
    (run (.lookupAnswer 0) (at0 103 (formAnswers queried))).seat.answers = [(0, lookup queried .tile 25 0)] := by
  decide +kernel
/-- Logical tile 0 has flipped from physical tile 0 to 20, and the plan before is kept. -/
def migratingIn (x : MigState) (n : Nat) : State := setRole .tile 20 5 0 (modSeat (fun y => { y with
  mig := { mig0 with state := x, src := 0, dst := 20, cause := 2, seq := 9, from0 := 100 } }) (seated n))
def flipped : State := run .seatFlip (migratingIn .flip 20480)
theorem witness_flip : flipped.plan.epoch = 1 ∧ flipped.plan.kept = true ∧ entryPhys (logEntry flipped .tile 0) = 20 ∧
    logEntry flipped .tile 1 = logEntry (seated 0) .tile 1 ∧ role flipped .tile 0 = 3 ∧ role flipped .tile 20 = 1 ∧
    flipped.seat.mig.state = .grace ∧ flipped.seat.lastMov = some 16 ∧
    (lookup flipped .tile 0 0).phys = 0 ∧ (lookup flipped .tile 0 0).epoch = 0 ∧ (lookup flipped .tile 0 1).phys = 20 ∧
    (lookup flipped .tile 0 7).phys = 20 := by decide +kernel
def reverting8 : State := modMig (fun m => { m with revert := true }) (at0 21760 flipped)
theorem witness_revert : (run .seatFlip reverting8).plan.epoch = 0 ∧ (run .seatFlip reverting8).plan.prev = 1 ∧
    (run .seatFlip reverting8).plan.reverted = true ∧ (run .seatFlip reverting8).plan.kept = false ∧
    role (run .seatFlip reverting8) .tile 0 = 1 ∧ role (run .seatFlip reverting8) .tile 20 = 2 ∧
    (run .seatFlip reverting8).seat.mig.state = .idle ∧ among Src.SEAT_MIG_ABORT 0 reverting8 (run .seatFlip reverting8) = true := by decide +kernel
def graceOver8 : State := at0 25600 flipped
theorem witness_grace_end : answers .seatGraceEnd graceOver8 (expire .grace graceOver8) = true ∧ (timeOver .grace graceOver8).plan.kept = false ∧
    (graceOver graceOver8).seat.mig.state = .idle ∧ role (graceOver graceOver8) .tile 0 = 2 ∧ role (graceOver graceOver8) .tile 20 = 1 ∧
    role (graceOver (modMig (fun m => { m with retire := true }) graceOver8)) .tile 0 = 4 ∧ (graceOver graceOver8).plan.epoch = 1 := by decide +kernel
theorem witness_entry_write : logEntry (run (.seatEntryWrite sm (word 0x400008) 0xFFFFFFFF) (seated 100)) .tile 2 = 0x18002 ∧
    logEntry (run (.seatEntryWrite sm (word 0x400008) 0xFFFFFFFF) (seated 100)) .tile 3 = logEntry R .tile 3 ∧
    (run (.seatEntryWrite nm (word 0x400008) 0xFFFFFFFF) (seated 100)).plan = (seated 100).plan ∧
    (run (.seatEntryWrite sm ⟨0x400008, 32, false⟩ 1) (seated 100)).ports.fab = .error := by decide +kernel
def moving (w : Word) : State := conf (seatO Reg.SEAT_CTL) w (run (.seatCmdMove sm .tile 0) (seated 20480))
theorem witness_decision : findDest (modSeat (fun x => { x with cmds := [] }) (moving 1)) ⟨2, .tile, 0, 0, false⟩ = some 20 ∧
    (run .placementDecision (moving 1)).seat.mig.state = .power ∧ (run .placementDecision (moving 1)).seat.mig.dst = 20 ∧
    (run .placementDecision (moving 1)).seat.mig.seq = 1 ∧ (run .placementDecision (moving 1)).seat.cmds = [] ∧
    role (run .placementDecision (moving 1)) .tile 20 = 5 ∧ role (run .placementDecision (moving 1)) .tile 0 = 1 ∧
    (run .placementDecision (moving 1)).plan.tiles = [] := by decide +kernel
def unmoved : State := conf (seatO Reg.SEAT_CTL) 0 (seated 20480)
theorem witness_no_decision : (run .placementDecision unmoved).seat.mig = mig0 ∧ (run .placementDecision unmoved).plan = unmoved.plan := by decide +kernel
/-- The destination of a migration in POWER, granted at tick 100. -/
def powering (n : Nat) : State := modSec 0 (fun x => { x with granted := [(20, (false, 100))] }) (migratingIn .power n)
theorem witness_ready : destReady (powering 200000) = true ∧ (run .migrationDestReady (powering 200000)).seat.mig.state = .copy ∧
    (run .migrationDestReady (powering 200000)).seat.recNow.map (fun w => (w.addr, w.words)) =
      some (0x1000, [0x00010901, 0, 0x00140000, 0x10000000]) ∧
    (run .migrationDestReady (powering 200000)).ports.out.map (fun w => (w.secure, w.chip, w.tile, w.shared)) =
      [(true, R.params.chip, R.params.fjTile, !cfgB R (hostO Reg.HOST_INITCFG) 1)] ∧
    destReady (migratingIn .power 1250100) = false ∧ (run .migrationPowerTimeout (migratingIn .power 1250100)).seat.mig.state = .idle ∧
    role (run .migrationPowerTimeout (migratingIn .power 1250100)) .tile 20 = 2 ∧
    among Src.SEAT_MIG_ABORT 0 (migratingIn .power 1250100) (run .migrationPowerTimeout (migratingIn .power 1250100)) = true := by decide +kernel
def copying (n : Nat) : State := migratingIn .copy n
theorem witness_copy_timeout : answers .migrationCopyTimeout (copying 12500100) (expire .copy (copying 12500100)) = true ∧
    (copyOver (copying 12500100)).seat.mig.state = .idle ∧ role (copyOver (copying 12500100)) .tile 20 = 2 ∧
    among Src.SEAT_MIG_ABORT 0 (copying 12500100) (copyOver (copying 12500100)) = true := by decide +kernel
theorem witness_ack : (run (.seatMigack nm 9 1) (copying 300)).seat.mig.state = .flip ∧ (run (.seatMigack nm 9 1) (copying 300)).seat.mig.from0 = 300 ∧
    (run (.seatMigack nm 9 2) (copying 300)).seat.mig.state = .idle ∧
    among Src.SEAT_MIG_ABORT 0 (copying 300) (run (.seatMigack nm 9 2) (copying 300)) = true ∧
    countedF (seatO Reg.SEAT_MIGERR) 15 0 (copying 300) (run (.seatMigack nm 8 1) (copying 300)) = true ∧
    countedF (seatO Reg.SEAT_MIGERR) 31 16 (seated 300) (run (.seatMigack nm 9 1) (seated 300)) = true := by decide +kernel
def sentWord (k : Nat) : InitWrite := { addr := k, shared := true, chip := 0, tile := 0, secure := true, words := [BitVec.ofNat 32 k] }
def outstanding : State := modSeat (fun x => { x with recNow := some (sentWord 8), recs := [sentWord 9] }) (seated 300)
theorem witness_record : (run (.migRecordResponse false) outstanding).seat.recNow = some (sentWord 9) ∧
    (run (.migRecordResponse false) outstanding).ports.out = [sentWord 9] ∧
    (run (.migRecordResponse true) outstanding).seat.recs = [] := by decide +kernel
theorem witness_units : role (seated 9) .tile 20 = 2 ∧ role (run (.seatCmdRetire sm .tile 20) (seated 9)) .tile 20 = 4 ∧
    (run (.seatCmdRetire sm .bank 3) (seated 9)).seat.cmds = [⟨true, .bank, 3⟩] ∧ (run (.seatCmdMove sm .bank 3) (seated 9)).seat.cmds = [⟨false, .bank, 3⟩] ∧
    role (run (.seatCmdReturn sm .tile 20) (run (.seatCmdRetire sm .tile 20) (seated 9))) .tile 20 = 2 ∧
    countedF (seatO PAGE_STAT) 15 8 (seated 9) (run (.seatCmdReturn sm .tile 19) (seated 9)) = true := by decide +kernel
/-- The banks of group 0 belong to owner 5; a scrub of theirs. -/
def owned : State := (upto 48).foldl (fun s b => setLog .bank b ((logEntry s .bank b).put 31 24 5) s) (seated 9)
def scrubbed : State := run (.seatCmdScrub sm 5) owned
theorem witness_scrub : scrubGroups owned 5 = [0] ∧ scrubbed.seat.scrubN = 1 ∧ scrubbed.seat.scrubOk = false ∧
    scrubbed.seat.holds = [(0, 62509)] ∧ (run (.seatCmdScrub sm 6) scrubbed).seat = scrubbed.seat ∧
    (run .scrubHoldEnd (at0 62509 scrubbed)).seat.holds = [] ∧ (run .scrubHoldEnd (at0 62509 scrubbed)).seat.scrubOk = true ∧
    among Src.SEAT_SCRUB_DONE 5 (at0 62509 scrubbed) (run .scrubHoldEnd (at0 62509 scrubbed)) = true := by decide +kernel
theorem witness_abort : (run (.seatCmdAbort sm) (copying 300)).seat.mig.state = .idle ∧
    among Src.SEAT_MIG_ABORT 0 (copying 300) (run (.seatCmdAbort sm) (copying 300)) = true ∧
    (run (.seatCmdAbort sm) (seated 300)).seat = (seated 300).seat ∧ (run (.seatCmdAbort nm) (copying 300)).seat = (copying 300).seat := by decide +kernel
def wakened : State := run (.seatWake nm 3) (seated 9)
theorem witness_wake : wakened.seat.awake = [(3, 9)] ∧ answers (.seatWake nm 127) (seated 9) (respond nm (.ok 0) (seated 9)) = true ∧
    answers (.bankGroupIdle 3) (at0 1250009 wakened) (expire (.idle 3) (at0 1250009 wakened)) = true ∧
    (timeOver (.idle 3) (at0 1250009 wakened)).seat.awake = [] ∧ (timeOver (.idle 3) (at0 1250008 wakened) == at0 1250008 wakened) = true ∧
    (timeOver (.idle 3) (run (.seatWake nm 3) (at0 1250009 wakened))).seat.awake = [(3, 1250009)] ∧ answers (.bankGroupIdle 3) (at0 1250008 wakened) (at0 1250008 wakened) = true := by
  decide +kernel
/-! ## Spares and wear -/

def powered9 (n secs : Nat) : State := at0 n (modCal (fun c => { c with powered := secs }) (smallest.setBoot { smallest.boot with lockAt := some 0, state := .up }))
theorem witness_second : (run .poweredSecond (powered9 secondT 5)).cal.powered = 6 ∧ (run .poweredSecond (powered9 secondT 5)).sparing.secTicks = secondT ∧
    only [.sparing, .cal] (powered9 secondT 5) (run .poweredSecond (powered9 secondT 5)) = true ∧
    answers .poweredSecond (powered9 (secondT - 1) 5) (powered9 (secondT - 1) 5) = true ∧
    pastLoad (powered9 9 86400) = true ∧ (run .wearSaveDue (powered9 9 86400)).cal.saved = 86400 ∧ (run .wearSaveDue (powered9 9 86401)).cal.saved = 0 := by
  decide +kernel
/-- Cluster 0 is due for a rotation: its cell 4 is the most stressed, its cell 15 stands by. -/
def turning : State := setWear 4 { wear smallest 4 with stress := Frac.ofInt 9 } (modCell 15 (fun c => { c with state := .standby, spdes := true })
  (setClu 0 { clu0 with enabled := true } (forEach (upto 15) (fun n s => setCell n { cell0 n with state := .regulate, legs := 30 } s)
    (modSec 0 (fun x => { x with mode := .run, sw := .on }) (modStage 0 (fun y => { y with state := .run }) (powered9 20480 700000))))))
def turned : State := run .rotationStart turning
theorem witness_rotation : nextRotation turning = some 0 ∧ (standbys turning 0).head? = some 15 ∧ mostStressed turning 0 = some 4 ∧
    (clu turned 0).takes = [⟨15, 4, 20480, .rotation⟩] ∧ turned.cells = turning.cells ∧ turned.sparing.rotTick = some 20480 ∧
    answers .rotationStart turned turned = true := by decide +kernel
def retest9 (step : Nat) (retrim : Bool) : State := setClu 0 { clu0 with enabled := true, retest := some ⟨3, step, 392, false, retrim, false⟩ }
  (modCell 3 (fun c => { c with state := .retest, legs := 20 }) (conv0 (at0 (if step = 3 then 1592 else 400) smallest)))
theorem witness_retest_steps : (clu (run (.retestStepDone 0 true) (retest9 1 true)) 0).retest = some ⟨3, 2, 400, false, true, false⟩ ∧
    (cell (run (.retestStepDone 0 false) (retest9 1 true)) 3).state = .isolated ∧ (cell (run (.retestStepDone 0 false) (retest9 1 true)) 3).cause = 7 ∧
    among Src.CELL_RETRIM_FAIL 3 (retest9 1 true) (run (.retestStepDone 0 false) (retest9 1 true)) = true ∧
    (clu (run (.retestStepDone 0 false) (retest9 1 false)) 0).retest = none ∧
    live (run (.retestStepDone 0 false) (retest9 1 false)) (cluO 0 Reg.CLU_RETESTRES) = 0x503 := by decide +kernel
theorem witness_retest_load : overCurrent (retest9 2 true) 3 = false ∧
    (clu (run (.retestStepDone 0 true) (retest9 2 true)) 0).retest = some ⟨3, 3, 400, false, true, false⟩ ∧
    (cell (run (.retestStepDone 0 true) (retest9 2 true)) 3).legs = 64 ∧ urgentFits (retest9 3 true) 0 = true ∧
    (clu (run (.retestStepDone 0 true) (retest9 3 true)) 0).retest = some ⟨3, 3, 392, true, true, false⟩ ∧
    (quad (run (.retestStepDone 0 true) (retest9 3 true)) 0).queue = [⟨0, 4, 1592⟩] := by decide +kernel
def broken : State := modSparing (fun x => { x with spareFail := [0] }) (modSec 2 (fun x => { x with mode := .dark, ownFailed := true }) (at0 9 smallest))
def testing (spare : Bool) : State := at0 40969 (run (if spare then .calCmdSelftestSpare sm 0 else .calCmdSelftestSector sm 2) broken)
theorem witness_self_test : ownServes broken 2 = false ∧ (testing false).sparing.selfTest = some ⟨2, false, 9⟩ ∧ spareServes broken 0 = false ∧
    (testing true).sparing.selfTest = some ⟨0, true, 9⟩ ∧ ownServes broken 3 = true ∧
    live (run (.calCmdSelftestSector sm 3) broken) (calO Reg.CAL_CMDSTAT) = 0x304 ∧
    (sec (run (.selfTestDone true) (testing false)) 2).ownFailed = false ∧ (run (.selfTestDone true) (testing true)).sparing.spareFail = [] ∧
    live (run (.calCmdSelftestSector sm 2) (testing true)) (calO Reg.CAL_CMDSTAT) = 0x204 ∧
    (run (.selfTestDone true) (testing false)).sparing.selfTest = none ∧ (run (.selfTestDone false) (testing false)).secs = (testing false).secs := by
  decide +kernel

/-! ## The command ring -/

def txn (r stamp : Nat) (w opn cls : Bool) (j : Job) : Txn := ⟨r, 5, 0, w, 7, opn, cls, stamp, j⟩
def ringIn (n : Nat) (f : Ring → Ring) : State := modRing 1 f (at0 n R)
theorem witness_ring_present : (ring (run (.ringPresent 1 2 5 0 true 7 false false) (at0 9 R)) 1).pres = [txn 2 9 true false false .raw] ∧
    (ring (run (.ringPresent 1 7 5 0 true 7 false false) (at0 9 R)) 1).iso = [txn 7 9 true false false .raw] ∧
    only [.rings] (at0 9 R) (run (.ringPresent 1 2 5 0 true 7 false false) (at0 9 R)) = true ∧
    (ring (run (.ringPresent 1 7 5 0 true 7 false false) (ringIn 9 (fun x => { x with iso := [txn 7 8 true false false .raw, txn 7 16 true false false .raw] }))) 1).iso =
      [txn 7 8 true false false .raw, txn 7 9 true false false .raw, txn 7 16 true false false .raw] := by decide +kernel
def drawing (f : Ring → Ring) : State := ringIn 16 (fun x => f { x with pres := [txn 2 3 true false false .raw, txn 4 3 true false false .raw] })
def drawn (f : Ring → Ring) : State := run (.arbiterDrawStart 1) (drawing f)
theorem witness_draw_start : (ring (drawn (fun x => { x with iso := [txn 7 8 true false false .raw] })) 1).current = some (txn 7 8 true false false .raw) ∧
    (ring (drawn (fun x => { x with iso := [txn 7 8 true false false .raw] })) 1).iso = [] ∧
    (ring (drawn (fun x => { x with iso := [txn 7 9 true false false .raw] })) 1).current = none ∧
    (eng (drawn id) clsArb 1).start = some 16 ∧ (ring (drawn id) 1).draw = some (makeDraw (drawing id) 1) ∧
    ((makeDraw (drawing id) 1).won = some 2 ∨ (makeDraw (drawing id) 1).won = some 4) ∧
    (ring (drawn (fun x => { x with grants := [4, 2] })) 1).current = some (txn 4 3 true false false .raw) ∧
    (ring (drawn (fun x => { x with grants := [4, 2] })) 1).grants = [2] := by decide +kernel
def lockBy (r count from0 : Nat) (staged : List Txn) : Lock := ⟨r, count, from0, staged, false, false⟩
theorem witness_draw_lock : (ring (drawn (fun x => { x with lock := some (lockBy 2 3 10 []), grants := [4] })) 1).current = some (txn 2 3 true false false .raw) ∧
    (ring (drawn (fun x => { x with lock := some (lockBy 2 3 10 []), grants := [4] })) 1).lock = some (lockBy 2 4 10 []) ∧
    (ring (drawn (fun x => { x with lock := some (lockBy 2 3 10 []), grants := [4] })) 1).grants = [4] ∧
    (ring (drawn (fun x => { x with lock := some (lockBy 2 3 10 []), grants := [4] })) 1).draw = none := by decide +kernel
def drawDone (ok void : Bool) : State := at0 22 (setEng clsArb 1 { eng0 with start := some 16, done := if ok then some 20 else none }
  (ringIn 16 (fun x => { x with loss := [(2, 3)], draw := some ⟨some 2, [4], 9, false, void, 2, 3⟩ })))
theorem witness_draw_latch : (ring (run (.arbiterDrawLatch 1) (drawDone true false)) 1).grants = [2] ∧
    (ring (run (.arbiterDrawLatch 1) (drawDone true false)) 1).lfsr = 9 ∧ Store.get (ring (run (.arbiterDrawLatch 1) (drawDone true false)) 1).loss 0 2 = 0 ∧
    Store.get (ring (run (.arbiterDrawLatch 1) (drawDone true false)) 1).loss 0 4 = 1 ∧
    Store.get (ring (run (.arbiterDrawLatch 1) (drawDone true false)) 1).wait 0 4 = 5 ∧
    (ring (run (.arbiterDrawLatch 1) (drawDone true true)) 1).grants = [] ∧ (ring (run (.arbiterDrawLatch 1) (drawDone true true)) 1).lfsr = 9 ∧
    (ring (run (.arbiterDrawLatch 1) (drawDone false false)) 1).lfsr = (ring R 1).lfsr ∧
    among Src.ENG_OVERRUN (engKey clsArb 1) (drawDone false false) (run (.arbiterDrawLatch 1) (drawDone false false)) = true := by decide +kernel
def ending9 (x : Txn) (l : Option Lock) : State := ringIn 23 (fun y => { y with current := some x, lock := l })
def ended9 (x : Txn) (l : Option Lock) : State := run (.ringTransactionComplete 1 0x55) (ending9 x l)
theorem witness_complete : (ring (ended9 (txn 2 3 true false false .raw) none) 1).current = none ∧
    (ended9 (txn 1 3 true false false (.trim 5 9)) none).regs.trims = [⟨5, 9⟩] ∧
    live (ended9 (txn 6 3 false false false .debug) none) (dbgO Reg.DBG_RDATA) = 0x55 ∧ (ended9 (txn 6 3 false false false .debug) none).dbg.seq = 1 ∧
    live (ended9 ⟨6, 100, 0, false, 7, false, false, 3, .debug⟩ none) (dbgO Reg.DBG_RDATA) = 0 := by decide +kernel
theorem witness_locked : (ring (ended9 (txn 2 3 true false false .raw) (some (lockBy 2 3 10 []))) 1).lock = some (lockBy 2 3 10 [txn 2 3 true false false .raw]) ∧
    (ring (ended9 (txn 2 3 true false true .raw) (some (lockBy 2 3 10 []))) 1).lock = none ∧
    (ring (ended9 (txn 2 3 true false true .raw) (some (lockBy 2 3 10 []))) 1).broken = 0 ∧
    (ring (ended9 (txn 2 3 true false false .raw) (some (lockBy 2 64 10 []))) 1).lock = none ∧
    among Src.ARB_LOCK_BROKEN 1 (ending9 (txn 2 3 true false false .raw) (some (lockBy 2 64 10 []))) (ended9 (txn 2 3 true false false .raw) (some (lockBy 2 64 10 []))) = true := by
  decide +kernel
def lapsed : State := ringIn 6256 (fun x => { x with lock := some (lockBy 2 3 6 []) })
/-- An owner's `OPEN` and `CLOSE` in its open lock is a plain transaction; a write staged before reaches its stop with the
`CLOSE`; a `CLOSE` after the limit comes too late; and an owner that was reset. -/
theorem witness_locks : closes (lockBy 2 3 10 []) (txn 2 3 true true true .raw) = false ∧
    (ring (ended9 (txn 2 3 true true true .raw) (some (lockBy 2 3 10 []))) 1).lock = some (lockBy 2 3 10 [txn 2 3 true true true .raw]) ∧
    (ended9 (txn 1 3 false false true .raw) (some (lockBy 1 3 10 [txn 1 3 true false false (.trim 5 9)]))).regs.trims = [⟨5, 9⟩] ∧
    (ring (run (.ringTransactionComplete 1 0) (at0 6263 (ending9 (txn 2 3 true false true .raw) (some (lockBy 2 3 10 []))))) 1).lock =
      some { lockBy 2 3 10 [txn 2 3 true false true .raw] with closed := true } ∧
    (ring (ended9 (txn 2 3 true false false .raw) (some { lockBy 2 3 10 [] with reset := true })) 1).lock = none := by decide +kernel
/-- At the limit the owner's transaction runs void; after a late `CLOSE` the cycle is another's. -/
def lapsing (b : Bool) : State := ringIn 6256 (fun x => { x with pres := [txn 2 3 true false false .raw], lock := some { lockBy 2 3 5 [] with closed := b } })
theorem witness_lock_over : (ring (run (.lockLimitExpiry 1) (lapsing false)) 1).current = some (txn 2 3 true false false .raw) ∧
    (ring (run (.lockLimitExpiry 1) (lapsing false)) 1).voidWr = true ∧ (ring (run (.lockLimitExpiry 1) (lapsing true)) 1).current = none := by decide +kernel
theorem witness_lock_limit : lockExpired lapsed 1 = true ∧ (ring (run (.lockLimitExpiry 1) lapsed) 1).lock = none ∧
    (ring (run (.lockLimitExpiry 1) lapsed) 1).broken = 1 ∧ among Src.ARB_LOCK_BROKEN 1 lapsed (run (.lockLimitExpiry 1) lapsed) = true := by decide +kernel
def debugOn : State := conf (dbgO Reg.DBG_CTL) 1 (at0 9 R)
theorem witness_debug : (run (.dbgCmd sm 0x20001) debugOn).dbg = { R.dbg with busy := true } ∧
    (ring (run (.dbgCmd sm 0x20001) debugOn) 1).pres.map (·.req) = [6] ∧ (run (.dbgCmd sm 0x20001) (at0 9 R)).dbg = { R.dbg with refused := true } ∧
    countedF (dbgO PAGE_STAT) 15 8 R (run (.dbgCmd sm 0x20001) R) = true := by decide +kernel
def resetting : State := modRing 1 (fun x => { x with lock := some (lockBy 6 1 0 []) }) (modRing 2 (fun x => { x with lock := some (lockBy 2 1 0 []) })
  (run (.dbgCmd sm 0x20001) debugOn))
theorem witness_debug_reset : (ring (run .testLogicReset resetting) 1).pres = [] ∧ (run .testLogicReset resetting).dbg.withdrawn = true ∧
    (ring (run .testLogicReset resetting) 1).lock = some ⟨6, 1, 0, [], true, false⟩ ∧ (ring (run .testLogicReset resetting) 2).lock = some (lockBy 2 1 0 []) := by
  decide +kernel
/-! ## The fault manager -/

/-- A registration of `STG_OV` on domain 1, due at tick 408, with the severity set for it. -/
def reg10 (ok : Bool) : Reg := ⟨Src.STG_OV, 1, 400, 400, 408, ok⟩
def setSev (v : Nat) (s : State) : State :=
  let o := fltO (Reg.FLT_SEV (Src.STG_OV / 8))
  conf o ((cfg s o).put (4 * (Src.STG_OV % 8) + 2) (4 * (Src.STG_OV % 8)) v) s
def faulty (v : Nat) (ok : Bool) : State := modStage 1 (fun y => { y with state := .run })
  (modFlt (fun f => { f with regq := [reg10 ok] }) (setSev v (at0 408 smallest)))
def latched (v : Nat) : State := run .faultLatch (faulty v true)
theorem witness_severity_1 : sevOf (faulty 0 true) Src.STG_OV = 0 ∧ (latched 0).flt = { (faulty 0 true).flt with regq := [] } ∧
    only [.eng, .flt] (faulty 0 true) (latched 0) = true ∧ (latched 1).flt.present = [(Src.STG_OV, 1)] ∧
    (live (latched 1) (fltO (Reg.FLT_PEND (Src.STG_OV / 32)))).bit (Src.STG_OV % 32) = true ∧ (live (latched 1) (fltO Reg.FLT_RAISED)).toNat = 1 ∧
    live (latched 1) (fltO Reg.FLT_FIRST) = BitVec.ofNat 32 (Src.STG_OV + 0x18100) ∧ live (latched 1) (fltO Reg.FLT_FIRST_TLO) = 400 ∧
    (live (run .faultLatch (setLive (fltO Reg.FLT_FIRST) 0x8101 (faulty 1 true))) (fltO Reg.FLT_OVERFLOW)).bit 0 = true := by decide +kernel
theorem witness_severity_4 : namedDom Src.STG_OV 1 = some 1 ∧ (stage (latched 4) 1).state = .tripped ∧ (recov (latched 4) 1).state = .quiet ∧
    (latched 4).flt.chipOff = false ∧ (latched 5).flt.chipOff = true ∧ (stage (latched 5) 1).state = .tripped := by decide +kernel
/-- Severity 2, with an alert address, alerts and in-band interrupts on and a write in flight; 3 of a converter and of a domain's
source; 4 of a source that names no domain. -/
def src10 (src det sev : Nat) (s : State) : State :=
  let o := fltO (Reg.FLT_SEV (src / 8))
  conf o ((cfg s o).put (4 * (src % 8) + 2) (4 * (src % 8)) sev) (modFlt (fun f => { f with regq := [⟨src, det, 400, 400, 408, true⟩] }) s)
def two10 : State := src10 Src.STG_OV 1 2 (conf (hostO Reg.HOST_ALERTCTL) 3 (conf (hostO Reg.HOST_ALERTADDR_LO) 0x1000
  (modFlt (fun f => { f with inflight := some { addr := 0, shared := false, chip := 0, tile := 0, secure := true, words := [] } })
    (at0 408 (smallest.setPorts { smallest.ports with target := { smallest.ports.target with enint := true } })))))
def three10 (src det : Nat) : State := run .faultLatch (src10 src det 3 (at0 408 smallest))
theorem witness_severity_2 : sevOf two10 Src.STG_OV = 2 ∧ (run .faultLatch two10).flt.alerts =
      [⟨[BitVec.ofNat 32 (Src.STG_OV + 0x10200), 400, 0, 0x10100001], 1⟩] ∧
    (run .faultLatch two10).flt.ibi = some [BitVec.ofNat 8 Src.STG_OV, 2, 1, 0] ∧
    live (run .faultLatch two10) (hostO Reg.HOST_ALERTSEQ) = 1 := by decide +kernel
theorem witness_severity_3 : contains3 64 9 = true ∧ (adc (three10 64 9) 9).state = .failed ∧ (adc (three10 64 9) 9).cause = 1 ∧
    contains3 Src.STG_OV 1 = false ∧ (three10 Src.STG_OV 1).stages = smallest.stages ∧
    live (three10 Src.STG_OV 1) (hostO Reg.HOST_ALERTSEQ) = 1 ∧ sourceOwner 64 9 = none ∧
    namedDom Src.TB_HOLDOVER 0 = none ∧
    (stage (run .faultLatch (src10 Src.TB_HOLDOVER 0 4 (modStage 1 (fun y => { y with state := .run }) (at0 408 smallest)))) 1).state = .tripped ∧
    (recov (run .faultLatch (src10 Src.TB_HOLDOVER 0 4 (modStage 1 (fun y => { y with state := .run }) (at0 408 smallest)))) 1).state ≠ .normal := by
  decide +kernel
theorem witness_late_fault : (run .faultLatch (faulty 4 false)).flt.regq.contains { reg10 false with due := 416 } = true ∧
    among Src.ENG_OVERRUN (engKey clsFault 0) (faulty 4 false) (run .faultLatch (faulty 4 false)) = true ∧
    (stage (run .faultLatch (faulty 4 false)) 1).state = .run := by decide +kernel
theorem witness_inject : faultId Src.STG_OV = true ∧ raised Src.STG_OV 77 R (run (.fltInject sm (BitVec.ofNat 7 Src.STG_OV) 77) R) = true ∧
    faultId 7 = false ∧ (run (.fltInject sm 7 77) R).flt = R.flt ∧ (run (.fltInject nm (BitVec.ofNat 7 Src.STG_OV) 77) R).flt = R.flt := by decide +kernel
theorem witness_alive : (run .aliveToggle (at0 640000 R)).flt.alive = true ∧ alivePat (at0 640000 R) = 0 ∧
    alivePat (modFlt (fun f => { f with chipOff := true }) (at0 640000 R)) = 1 ∧
    (run .aliveToggle (modFlt (fun f => { f with chipOff := true }) (at0 640000 R))).flt.alive = false := by decide +kernel
def write10 (n : Word) : InitWrite := { addr := 0, shared := false, chip := 0, tile := 0, secure := true, words := [0, 0, 0, n] }
def alerting (l : List AlertRec) : State := modFlt (fun f => { f with inflight := some (write10 7), alerts := l }) R
theorem witness_alerts : (run (.alertWriteResponse true) (alerting [])).flt.inflight = none ∧
    (run (.alertWriteResponse true) (alerting [⟨[1, 2, 3, 4], 8⟩])).flt.alerts = [] ∧
    (run (.alertWriteResponse true) (alerting [⟨[1, 2, 3, 4], 8⟩])).flt.inflight.isSome = true ∧
    ((run (.alertWriteResponse true) (alerting [⟨[1, 2, 3, 4], 8⟩])).ports.out.map (fun w => (w.secure, w.words))) = [(true, [1, 2, 3, 4])] ∧
    raised Src.FLT_ALERT_WRITE 7 (alerting []) (run (.alertWriteResponse false) (alerting [])) = true ∧
    countedF (hostO Reg.HOST_ALERTDROP) 31 16 (alerting []) (run (.alertWriteResponse false) (alerting [])) = true ∧
    (run .ibiComplete (modFlt (fun f => { f with ibi := some [1], ibiNext := some [2] }) R)).flt.ibi = some [2] := by decide +kernel
def quietIn (n : Nat) : State := modRecov 1 (fun x => { x with state := .quiet, sev := 4 }) (at0 n (smallest.setBoot { smallest.boot with state := .up }))
def chipQuiet (n : Nat) : State := modFlt (fun f => { f with chipOff := true }) (quietIn n)
theorem witness_quiet : mayRecover (quietIn (quietTicks R)) 1 = true ∧ answers (.quietPeriodEnd 1) (quietIn (quietTicks R)) (expire (.quiet 1) (quietIn (quietTicks R))) = true ∧
    (recov (timeOver (.quiet 1) (quietIn (quietTicks R))) 1).state = .normal ∧
    (recov (timeOver (.quiet 1) (quietIn (quietTicks R))) 1).history = [quietTicks R] ∧
    mayRecover (quietIn (quietTicks R - 1)) 1 = false ∧ answers .chipQuietEnd (chipQuiet (quietTicks R)) (expire .chipQuiet (chipQuiet (quietTicks R))) = true ∧
    (timeOver .chipQuiet (chipQuiet (quietTicks R))).flt.chipOff = false := by decide +kernel
def hot10 : State := modTherm (fun t => { t with gstate := [3, 0, 0] }) (chipQuiet 9)
theorem witness_flt_cmd : live (run (.fltCmdRearm sm) (latched 1)) (fltO Reg.FLT_FIRST) = BitVec.ofNat 32 (Src.STG_OV + 0x10100) ∧
    live (run (.fltCmdRearm sm) (latched 1)) (fltO Reg.FLT_FIRST_TLO) = 0 ∧
    (stage (run (.fltCmdClear sm 2) (quietIn 9)) 1).startDue = some 10 ∧ live (run (.fltCmdRearm sm) (latched 1)) (fltO Reg.FLT_OVERFLOW) = 0 ∧
    (recov (run (.fltCmdClear sm 2) (quietIn 9)) 1).state = .normal ∧ (recov (run (.fltCmdClear sm 2) (quietIn 9)) 1).history = [] ∧
    (run (.fltCmdClearChip sm) (chipQuiet 9)).flt.chipOff = false ∧ thmShutdown hot10 = true ∧ (run (.fltCmdClearChip sm) hot10).flt.chipOff = true ∧
    countedF (fltO PAGE_STAT) 15 8 hot10 (run (.fltCmdClearChip sm) hot10) = true := by decide +kernel

/-! ## The calibration store -/

def store (f : CalStore → CalStore) : State := modCal (fun c => f { c with state := .ready, density := 6 }) (at0 125000 smallest)
def finding (step tries : Nat) : State := store (fun c => { c with state := .discover, step := step, tries := tries })
theorem witness_jedec : (run .flashResetWaitEnd (finding 0 0)).cal.step = 1 ∧ (run (.flashJedecId 0xEF4018) (finding 1 0)).cal.step = 2 ∧
    live (run (.flashJedecId 0xEF4018) (finding 1 0)) (calO Reg.CAL_JEDECID) = 0xEF4018 ∧ (run (.flashJedecId 0) (finding 1 1)).cal.tries = 2 ∧
    (run (.flashJedecId 0xFFFFFF) (finding 1 2)).cal.state = .absent ∧
    raised Src.CAL_FLASH_ABSENT 0 (finding 1 2) (run (.flashJedecId 0xFFFFFF) (finding 1 2)) = true := by decide +kernel
def sfdp10 (d : Word) : SfdpInfo := ⟨0x50444653, 1, [0, d, 0, 0, 0, 0, 0, 0xD810], []⟩
/-- The instructions of discovery, and the part as it is driven after it. -/
theorem witness_instructions : flashDiv (finding 0 0) = 125 ∧ (flashOps (finding 0 0)).map (·.instr) = [0x66, 0x99] ∧
    (flashOps (finding 1 0)).map (·.instr) = [0x9F] ∧ (flashOps (finding 2 0)).map (fun o => (o.instr, o.dummies)) = [(0x5A, 8)] ∧
    flashDiv (store id) = cfgF R (calO Reg.CAL_FCLK) 7 0 ∧ (sfdpDrive (sfdp10 0x07FFFFFF)).read = 0x0B ∧
    (sfdpDrive (sfdp10 0x07FFFFFF)).erase = 0xD8 ∧ (sfdpDrive (sfdp10 0x07FFFFFF)).page = 256 := by decide +kernel
theorem witness_sfdp : sfdpErases (sfdp10 0x07FFFFFF) = true ∧ sfdpDensity (sfdp10 0x07FFFFFF) = some 7 ∧
    (run (.flashSfdpRead (sfdp10 0x07FFFFFF)) (finding 2 0)).cal.state = .scan ∧ (run (.flashSfdpRead (sfdp10 0x07FFFFFF)) (finding 2 0)).cal.density = 7 ∧
    sfdpDensity (sfdp10 0x01FFFFFF) = none ∧ (run (.flashSfdpRead (sfdp10 0x01FFFFFF)) (finding 2 0)).cal.state = .absent ∧
    raised Src.CAL_SFDP_BAD 0 (finding 2 0) (run (.flashSfdpRead (sfdp10 0x01FFFFFF)) (finding 2 0)) = true ∧
    (run (.flashScanDone [] []) (store (fun c => { c with state := .scan }))).cal.state = .ready := by decide +kernel
def rec10 (seq : Nat) : Record := ⟨5, 0, 1, 0, 8, seq, 0, 0, .sealed [(0x2040, 1)], true⟩
/-- A record in a sector's first block, and a sector's header, as they are read back. -/
def written10 : Record := { rec10 3 with sector := 3, block := 0 }
theorem witness_scan : recordGood written10 = true ∧
    readHead 3 0 ((recordImage written10).headD []) = some { written10 with payload := .empty, valid := false } ∧
    sectorHead (headBytes 5 2) = some (5, 2) ∧ blockAt 2 = 1120 ∧ (store id).boot.cold = true := by decide +kernel
theorem witness_winner : winnerRaw [rec10 3, rec10 9, { rec10 12 with valid := false }, rec10 4] 1 0 = some (rec10 9) ∧
    payloadFits .empty 7 8 = true ∧ payloadFits .empty 1 1 = false := by decide +kernel
def req10 : CalReq := ⟨1, 0, false, some (.sealed [(0x2040, 1)]), 0, true, true⟩
def programming (copy : Bool) (f : CalStore → CalStore) : State := store (fun c => f { c with active := some 5, prog := some ⟨{ req10 with copy := copy }, rec10 3, 0, 0⟩ })
theorem witness_owed : (run (.calWriteRequest 3 0) (programming false (fun c => { c with owed := [(3, 0)] }))).cal.queue = [⟨3, 0, false, none, 0, false, false⟩] ∧
    (run (.calWriteRequest 3 0) (programming false (fun c => { c with owed := [(3, 0)] }))).cal.owed = [] := by decide +kernel
def written (copy : Bool) : State := stopCheck (programDone ⟨{ req10 with copy := copy }, rec10 3, 0, 0⟩ (programming copy id))
theorem witness_program : ∀ copy, exec (.flashProgramDone (.readBack (recordImage (rec10 3)))) (programming copy id) = .next (written copy) := by
  intro copy
  have h : (programming copy id).cal.prog = some ⟨{ req10 with copy := copy }, rec10 3, 0, 0⟩ := by cases copy <;> rfl
  have hp : awake (programming copy id) = true := by cases copy <;> rfl
  simp [exec, execFlashProgramDone, h, act, hp, written]
theorem witness_page : pageCount (programming false id).cal.drive.page (rec10 3) = 3 ∧
    (run (.flashProgramDone .page) (programming false id)).cal.prog = some ⟨{ req10 with copy := false }, rec10 3, 1, 125000⟩ := by decide +kernel
theorem witness_written : (written false).cal.prog = none ∧ (written false).cal.recs = [rec10 3] ∧ (written false).cal.ptr = 1 ∧
    (written false).cal.cmdStat = 2 ∧ counted (calO Reg.CAL_WRITES) R (written false) = true ∧ counted (calO Reg.CAL_REWRITES) R (written true) = true := by
  decide +kernel
def unwritten : State := run (.flashProgramDone .failed) (programming false id)
/-- The next erased sector holds a block that is not erased. -/
def dirty10 : State := setFlash 0 { flashSec smallest 0 with dirty := true } (programming false id)
theorem witness_dirty : openable dirty10 = some 0 ∧ (run (.flashProgramDone .failed) dirty10).cal.erase = some (0, 125000) ∧
    (run (.flashProgramDone .failed) dirty10).cal.redo = some ({ req10 with copy := false }, rec10 3) := by decide +kernel
theorem witness_unwritten : openable (programming false id) = some 0 ∧ unwritten.cal.active = some 0 ∧ unwritten.cal.drain = [(5, true)] ∧
    unwritten.cal.prog.map (·.record) = some { rec10 3 with sector := 0, block := 0 } ∧ unwritten.cal.recs = [] := by decide +kernel
def redisc : State := programming false (fun c => { c with state := .discover, step := 9 })
theorem witness_rediscovered : (run (.flashProgramDone .failed) redisc).cal.step = 0 ∧
    (run (.flashProgramDone .failed) redisc).cal.redo = some ({ req10 with copy := false }, rec10 3) ∧
    (run (.flashProgramDone .failed) redisc).cal.drain = [(5, true)] ∧ (run (.flashProgramDone .failed) redisc).cal.prog = none := by decide +kernel
def late10 : State := at0 100000000000 (programming false id)
def erasing (st : StoreState) : State := store (fun c => { c with state := st, drain := [(5, false)], erase := some (5, 0), recs := [rec10 3] })
theorem witness_op_timeout : answers .calOpTimeout late10 (expire .storeOp late10) = true ∧ among Src.CAL_OP_TIMEOUT 5 late10 (timeOver .storeOp late10) = true ∧
    among Src.CAL_OP_TIMEOUT 5 (at0 100000000000 (erasing .ready)) (timeOver .storeOp (at0 100000000000 (erasing .ready))) = true ∧
    answers .calOpTimeout (programming false id) (programming false id) = true := by decide +kernel
theorem witness_erase : (run (.flashEraseDone true) (erasing .ready)).cal.erase = none ∧ (run (.flashEraseDone true) (erasing .ready)).cal.drain = [] ∧
    (flashSec (run (.flashEraseDone true) (erasing .ready)) 5).erases = 1 ∧ (run (.flashEraseDone true) (erasing .ready)).cal.recs = [] ∧
    (flashSec (run (.flashEraseDone false) (erasing .discover)) 5).retired = true ∧
    raised Src.CAL_SECTOR_RETIRED 5 (erasing .discover) (run (.flashEraseDone false) (erasing .discover)) = true := by decide +kernel
/-- Every sector but 7 is open, so that sector 3, the oldest, is to be reclaimed. -/
def crowded : State := store (fun c => { c with active := some 6, secs := ((upto 128).filter (· != 7)).map (fun i => (i, ⟨[], 1, if i = 3 then 1 else 9, false, false, false⟩)) })
theorem witness_reclaim : reclaimPick crowded = some 3 ∧ winnersIn crowded 3 = [] ∧ (run .calReclaim crowded).cal.erase = some (3, 125000) ∧
    (run .calReclaim crowded).cal.drain = [(3, false)] ∧
    (run (.calScrubDue []) (modCal (fun c => { c with powered := 1000000 }) crowded)).cal.scrubAt = 1000000 := by decide +kernel
/-- A winner too old, where its sector is not supplied, is copied. -/
def aged : State := programming false (fun c => { c with powered := 999999999, recs := [rec10 3] })
theorem witness_refresh : winners aged = [rec10 3] ∧ (run (.calScrubDue []) aged).cal.queue = [⟨1, 0, true, none, 0, false, false⟩] ∧
    (run (.calScrubDue []) (programming false (fun c => { c with powered := 1000000, recs := [{ rec10 3 with written := 999999 }] }))).cal.queue = [] := by
  decide +kernel
def busy10 (capt : Bool) : State := programming false (fun c => { c with capture := capt, powered := 99 })
theorem witness_save : (run (.calStcmdSave sm 0 0) (busy10 false)).cal.cmdStat = 1 ∧ (run (.calStcmdSave sm 0 0) (busy10 false)).cal.capture = true ∧
    (run (.calStcmdSave sm 0 0) (busy10 false)).cal.queue.length = 1 ∧ (run (.calStcmdSave sm 0 0) (busy10 true)).cal.cmdStat = 3 ∧
    (run (.calStcmdSave sm 0 0) (busy10 true)).cal.queue = [] ∧ countedF (calO PAGE_STAT) 15 8 R (run (.calStcmdSave sm 0 0) (busy10 true)) = true := by
  decide +kernel
theorem witness_store_commands : (run (.calStcmdScrub sm []) (busy10 true)).cal.scrubAt = 99 ∧ (run (.calStcmdScrub sm []) (busy10 true)).cal.cmdOp = 2 ∧
    (run (.calStcmdTombstone sm 7 8) (busy10 true)).cal.queue = [⟨7, 8, false, some .empty, 0, false, true⟩] ∧
    (run (.calStcmdTombstone sm 1 1) (busy10 true)).cal.cmdStat = 3 ∧ (run (.calStcmdTombstone sm 1 1) (busy10 true)).cal.queue = [] := by decide +kernel

/-! ### The code of R508 and the bytes of a record -/

/-- A record takes whole blocks of 528 bytes, and begins with its magic, type, key and version (R510). -/
theorem test_record_image : (recordImage (rec10 3)).length = 1 ∧ ((recordImage (rec10 3)).map (·.length)) = [528] ∧
    (recordHead (rec10 3)).take 8 = [0x43, 0x4A, 0x52, 0x31, 1, 0, 1, 0] := by decide +kernel
/-- The generator has degree 104 and the roots of R508; two errors of a word, at degrees 3 and 17, are located. -/
def twoErrors : List Bool := (upto 32).map (fun i => i == 14 || i == 28)
theorem test_bch : bchGenerator.length = 105 ∧ (upto 16).all (fun i => polyEval bchGenerator (gfExp (i + 1)) == 0) = true ∧
    (locator (syndromes twoErrors)).len = 2 ∧ errorDegrees (locator (syndromes twoErrors)).c 32 0 1 = [3, 17] := by decide +kernel
/-! ## Start-up, shut-down and reset -/

def booting (st : BootState) (n : Nat) : State := at0 n (smallest.setBoot { smallest.boot with state := st, lockAt := some 0 })
/-- The start set in a record: the words of a sealed list. -/
def startSet (l : List SealEntry) (crc : Word) : State := modCal (fun c => { c with
  state := .ready, recs := [{ rec10 3 with payload := .sealed l, sealCrc := crc }] }) (booting .load 500)
def offered : State := run .bootLoadDone (startSet [(0x2040, 1)] (listSeal [(0x2040, 1)]))
def mismatched : State := run .bootLoadDone (startSet [(0x2040, 1)] 0)
theorem witness_start_set : (winner (startSet [(0x2040, 1)] 0) 1 0).isSome = true ∧ offered.boot.state = .check ∧ offered.plan.ready = true ∧
    offered.regs.startSet.map (fun f => (f.due, f.words.length)) = some (501, 1) ∧ offered.regs.frozen = none ∧ mismatched.boot.state = .await ∧ mismatched.boot.cause = 3 ∧
    among Src.CFG_START_BAD 0x103 (startSet [(0x2040, 1)] 0) mismatched = true := by decide +kernel
def empty11 : State := modCal (fun c => { c with state := .ready }) (booting .load 500)
theorem witness_no_start_set : (run .bootLoadDone (booting .load 500)).boot.state = .await ∧ (run .bootLoadDone (booting .load 500)).boot.cause = 1 ∧
    among Src.CFG_START_BAD 0x101 (booting .load 500) (run .bootLoadDone (booting .load 500)) = true ∧ (run .bootLoadDone empty11).boot.cause = 2 ∧
    among Src.CFG_START_BAD 0x102 empty11 (run .bootLoadDone empty11) = true := by decide +kernel
theorem witness_boot_commands : (run (.genBootcmdSafeProfile sm) (booting .await 500)).boot.state = .sense ∧
    (run (.genBootcmdSafeProfile sm) (booting .await 500)).boot.safe = true ∧
    countedF (genO PAGE_STAT) 15 8 (booting .up 500) (run (.genBootcmdSafeProfile sm) (booting .up 500)) = true ∧
    (run (.genBootcmdShutdown sm) (booting .up 500)).boot.state = .stopped ∧ (run (.genBootcmdShutdown sm) (booting .up 500)).boot.shutAt = 500 ∧
    (run (.genBootcmdShutdown sm) (booting .load 500)).boot = (booting .load 500).boot ∧
    (run (.genBootcmdRestart sm) (booting .stopped 500)).boot.state = .power ∧
    countedF (genO PAGE_STAT) 15 8 (booting .up 500) (run (.genBootcmdRestart sm) (booting .up 500)) = true := by decide +kernel
def warm11 : State := run (.genBootcmdWarmReset sm 0x5A) (booting .up 500)
set_option maxRecDepth 20000 in
theorem witness_warm_reset : warm11.boot.state = .load ∧ Machine.awake warm11 = false ∧ warm11.powered = true ∧ warm11.boot.cold = false ∧ warm11.boot.lockAt = some 0 ∧ warm11.flt.chipOff = false ∧
    (upto 4).all (fun d => (stage warm11 d).state == .tripped) = true ∧ warm11.regs.pend = [] ∧ warm11.tb.tick = 500 ∧
    (run (.genBootcmdWarmReset sm 0x5B) (booting .up 500)).boot = (booting .up 500).boot := by decide +kernel
def sensing : State := conf (genO Reg.GEN_STARTSEQ) 0x10FE4 (modTherm (fun t => { t with valid := true }) ((service 500).setBoot { R.boot with state := .sense }))
def slotted : State := run .bootSenseDone sensing
theorem witness_sense : thmShutdown sensing = false ∧ slotted.boot.state = .power ∧ (stage slotted 0).state = .armed ∧ slotted.boot.slots = [1, 2, 3] ∧
    slotted.boot.slotAt = 13000 ∧ (run .bootSlotStart (at0 13000 slotted)).boot.slots = [2, 3] := by decide +kernel
def stopping11 : State := modStage 3 (fun y => { y with state := .run, latched := some 0 }) ((booting .stopping 500).setBoot
  { smallest.boot with state := .stopping, shutOn := true, shutAt := 0 })
theorem witness_stopping : nextStopped stopping11 3 = true ∧ allOff stopping11 3 = true ∧ (stage (run (.shutdownDomainStop 3) stopping11) 3).state = .stop ∧
    answers .shutdownTimeout (at0 125000000 stopping11) (expire .shutdown (at0 125000000 stopping11)) = true ∧
    (timeOver .shutdown (at0 125000000 stopping11)).boot.forced = true ∧
    (stage (timeOver .shutdown (at0 125000000 stopping11)) 3).state = .tripped := by decide +kernel

/-! ## Link lane groups -/

def links (disc n : Nat) : State := modLnk (fun l => { l with disc := disc, found := [(0, 0)], from0 := 0 }) (at0 n smallest)
def late11 (disc : Nat) : State := links disc 62500000
theorem witness_discovery : (run (.lnkDiscPresent nm 2 1) (links 1 9)).lnk.found = [(0, 0), (2, 1)] ∧ (run (.lnkDiscDone nm) (links 1 9)).lnk.disc = 2 ∧
    planned smallest 0 = true ∧ clsOn smallest 0 = true ∧ Store.get (run (.lnkDiscDone nm) (links 1 9)).lnk.group 0 0 = 2 ∧
    stillAbsent (links 1 9) 1 = true := by decide +kernel
def expired11 (disc : Nat) : State := timeOver .discovery (late11 disc)
theorem witness_expiry : answers .lnkDiscTimeout (late11 1) (expire .discovery (late11 1)) = true ∧ (expired11 1).lnk.disc = 3 ∧
    (expired11 1).lnk.timeout = true ∧ (expired11 1).lnk.absent = [1, 2, 3] ∧ (expired11 2).lnk.disc = 3 ∧
    among Src.LNK_ABSENT 1 (late11 2) (expired11 2) = true ∧ (run (.lnkReqOn nm 1) (late11 2)).lnk.reqs = [0x201] ∧
    (run (.lnkReqOff nm 1) (late11 2)).lnk.reqs = [0x101] ∧ discDue (links 1 62499999) = false := by decide +kernel
def unplanned : State := modLnk (fun l => { l with group := [(1, 1), (2, 1)], offAt := [(1, 400)] }) (links 3 400)
theorem witness_link_requests : Store.get (run (.lnkUnplannedOff 1) unplanned).lnk.group 0 1 = 0 ∧ (run (.lnkUnplannedOff 1) unplanned).lnk.offAt = [] ∧
    Store.get (run (.lnkUnplannedOff 1) unplanned).lnk.group 0 2 = 1 ∧ Store.get (run (.lnkReqOn nm 1) unplanned).lnk.group 0 1 = 2 ∧
    Store.get (run (.lnkReqOff nm 2) unplanned).lnk.group 0 2 = 0 ∧ (run (.lnkReqOn nm 1) (links 1 9)).lnk.reqs = [0x201] ∧
    (match step (run (.lnkReqOff nm 1) (modLnk (fun l => { l with group := [(1, 2)] }) (links 2 9))) with
      | .next t => (t.lnk.reqs, Store.get t.lnk.group 0 1) | _ => ([], 9)) = ([], 0) ∧
    (linkTake 0x201 (links 1 9) == links 1 9) = true := by
  decide +kernel

/-! ## The I3C target -/

def i3c11 (f : I3c → I3c) : State := modI3c (fun t => f { t with da := 9, daValid := true }) (conf (hostO Reg.HOST_I3CCFG) 1 (at0 9 R))
def bus11 : State := i3c11 id
theorem witness_events : addressed bus11 = true ∧ (run (.i3cEnec false 1) bus11).ports.target.enint = true ∧
    (run (.i3cDisec true 1) (i3c11 (fun t => { t with enint := true }))).ports.target.enint = false ∧
    (run .i3cRstdaa bus11).ports.target.daValid = false ∧ (run (.i3cSetnewda 12) bus11).ports.target.da = 12 ∧
    (run (.i3cEntdaa 12) (run .i3cRstdaa bus11)).ports.target.da = 12 ∧
    (run (.i3cSetdasa R.params.i3cSaddr 12) (run .i3cRstdaa bus11)).ports.target.daValid = true ∧
    (run (.i3cSetdasa (R.params.i3cSaddr + 1) 12) (run .i3cRstdaa bus11)).ports.target.daValid = false := by decide +kernel
theorem witness_lengths : (run (.i3cSetmwl 40) bus11).ports.target.mwl = 40 ∧ (run (.i3cSetmrl 5) bus11).ports.target.mrl = 5 ∧
    (run .i3cGetmwl bus11).ports.target.answer = [0, 69] ∧ (run .i3cGetmrl bus11).ports.target.answer = [0, 65, 4] ∧
    (run .i3cGetbcr bus11).ports.target.answer = [6] ∧ (run .i3cGetdcr bus11).ports.target.answer = [R.params.i3cDcr] ∧
    (run .i3cGetpid bus11).ports.target.answer.length = 6 ∧ (run .i3cGetstatus (i3c11 (fun t => { t with protErr := true }))).ports.target.answer = [0, 0x20] := by
  decide +kernel
theorem witness_hdr : (run .i3cEnthdr bus11).ports.target.hdr = true ∧ listens (run .i3cEnthdr bus11) = false ∧
    (run .i3cHdrExit (run .i3cEnthdr bus11)).ports.target.hdr = false ∧ raised Src.HOST_I3C_ERR 3 bus11 (run (.i3cError (.te 3)) bus11) = true ∧
    (run (.i3cError (.te 3)) bus11).ports.target.protErr = true ∧ (run (.i3cError (.te 3)) bus11).ports.target.hdr = false ∧
    countedF (hostO Reg.HOST_I3CERR) 15 0 bus11 (run (.i3cError (.te 3)) bus11) = true ∧
    (run (.i3cError (.te 1)) bus11).ports.target.hdr = true := by decide +kernel
theorem witness_i3c_errors : raised Src.HOST_I3C_ERR 8 bus11 (run (.i3cError .form) bus11) = true ∧
    countedF (hostO Reg.HOST_I3CERR) 31 16 bus11 (run (.i3cError .form) bus11) = true ∧
    (run (.i3cError .form) bus11).ports.target.reply = some [1] ∧ (run (.i3cError (.unlisted true)) bus11).ports.i3c = .nack ∧
    answers (.i3cError (.unlisted false)) bus11 bus11 = true := by decide +kernel
theorem witness_private_read : (run .i3cPrivateRead (i3c11 (fun t => { t with reply := some [1, 2, 0] }))).ports.target.answer = [1, 2, 0] ∧
    (run .i3cPrivateRead (i3c11 (fun t => { t with reply := some [1, 2, 0] }))).ports.target.reply = none ∧
    (run .i3cPrivateRead bus11).ports.target.answer = [2] ∧
    (run .i3cPrivateRead (i3c11 (fun t => { t with fetch := some ⟨0, 1, 9, [], false⟩ }))).ports.i3c = .nack := by decide +kernel
def sealBytes : List Byte := [2, 0x10, 0x40, 0, 1, 0x78, 0x56, 0x34, 0x12]
/-- A write of two words: the second takes its place when its last byte has come. -/
def pair11 : State := run (.i3cPrivateWrite [2, 0x10, 0x40, 0, 2, 1, 0, 0, 0, 2, 0, 0, 0]) bus11
theorem witness_private_words : pair11.ports.target.data = some ⟨0x4014, [2, 0, 0, 0], 9 + wordTicks⟩ ∧ listens pair11 = false ∧
    i3cData pair11 = pair11 ∧ (i3cData (at0 (9 + wordTicks) pair11)).ports.target.data = none := by decide +kernel
theorem witness_private_write : exec (.i3cPrivateWrite sealBytes) bus11 = .next (writeAccess i3cAccess (wordForm 0x4010) 0x12345678
      (respond i3cAccess (.ok 0) bus11)) ∧
    (run (.i3cReadHeader [1, 0, 0, 0, 2]) bus11).ports.target.fetch = some ⟨0, 2, 9, [], false⟩ ∧
    (run (.i3cPrivateWrite [3, 0, 0, 0, 1]) bus11).ports.target.reply = some [1] ∧
    raised Src.HOST_I3C_ERR 8 bus11 (run (.i3cPrivateWrite [1, 2, 0, 0, 1]) bus11) = true ∧
    countedF (genO Reg.GEN_ACCERR) 7 0 bus11 (run (.i3cPrivateWrite [1, 0, 0, 0, 17]) bus11) = true := by
  refine ⟨rfl, ?_⟩
  decide +kernel

end Sys2Proof.Tests
end

section
/-! SUPPORT. Rounding and saturation by R11. -/

namespace Sys2Proof

theorem roundDiv_of_nonneg {n : Int} (hn : 0 ≤ n) (d : Nat) : roundDiv n d = (2 * n + d) / (2 * (d : Int)) := if_pos hn

/-- Rounding is symmetric about zero. -/
theorem roundDiv_neg (n : Int) (d : Nat) : roundDiv (-n) d = -roundDiv n d := by
  have hzero : (d : Int) / (2 * (d : Int)) = 0 := by
    rcases Nat.eq_zero_or_pos d with rfl | hd
    · rfl
    · exact Int.ediv_eq_zero_of_lt (by omega) (by omega)
  unfold roundDiv
  rcases lt_trichotomy n 0 with h | rfl | h
  · rw [if_pos (by omega), if_neg (by omega), neg_neg]
  · simp [hzero]
  · rw [if_neg (by omega), if_pos (by omega), neg_neg]

/-- A number not below zero is off its rounded value by at most half the divisor, and where by half, below it. -/
theorem roundDiv_error_of_nonneg {n : Int} (hn : 0 ≤ n) {d : Nat} (hd : 0 < d) :
    -(d : Int) ≤ 2 * (n - roundDiv n d * d) ∧ 2 * (n - roundDiv n d * d) < d := by
  have hdiv := Int.mul_ediv_add_emod (2 * n + d) (2 * (d : Int))
  have hlo := Int.emod_nonneg (2 * n + d) (b := 2 * (d : Int)) (by omega)
  have hhi := Int.emod_lt_of_pos (2 * n + d) (b := 2 * (d : Int)) (by omega)
  rw [← roundDiv_of_nonneg hn, mul_assoc, mul_comm (d : Int)] at hdiv
  omega

/-- R11's rounding: to the nearest, and of two equally near to the one further from zero. -/
theorem roundDiv_nearest (n : Int) {d : Nat} (hd : 0 < d) : 2 * |n - roundDiv n d * d| ≤ d ∧
    (2 * |n - roundDiv n d * d| = d → |n| ≤ |roundDiv n d * d|) := by
  simp only [Int.abs_eq_natAbs]
  rcases le_total 0 n with hn | hn
  · have := roundDiv_error_of_nonneg hn hd
    omega
  · have herr := roundDiv_error_of_nonneg (n := -n) (by omega) hd
    rw [roundDiv_neg, neg_mul] at herr
    omega

end Sys2Proof

namespace Sys2Proof.Machine

theorem clamp_of_lt {x lo : Int} (hi : Int) (h : x < lo) : clamp x lo hi = lo := if_pos h

theorem clamp_of_mem {x lo hi : Int} (hlo : lo ≤ x) (hhi : x ≤ hi) : clamp x lo hi = x := by
  unfold clamp
  rw [if_neg (by omega), if_neg (by omega)]

theorem clamp_of_gt {x lo hi : Int} (hle : lo ≤ hi) (h : hi < x) : clamp x lo hi = hi := by
  unfold clamp
  rw [if_neg (by omega), if_pos h]

theorem clamp_mem (x : Int) {lo hi : Int} (hle : lo ≤ hi) : lo ≤ clamp x lo hi ∧ clamp x lo hi ≤ hi := by
  rcases lt_or_ge x lo with h | hlo
  · simp [clamp_of_lt hi h, hle]
  · rcases le_or_gt x hi with hhi | h
    · simp [clamp_of_mem hlo hhi, hlo, hhi]
    · simp [clamp_of_gt hle h, hle]

/-- Settles O17: the error of a rounding from the division with remainder, by symmetry for numbers below zero. -/
theorem roundingAndSaturation : Obligations.RoundingAndSaturation :=
  ⟨fun n _ hd => roundDiv_nearest n hd, fun x _ hi hle =>
    ⟨(clamp_mem x hle).1, (clamp_mem x hle).2, clamp_of_mem, clamp_of_lt hi, clamp_of_gt hle⟩⟩

end Sys2Proof.Machine
end

section
/-! SUPPORT. The words of a page that is absent (R6): none is placed, each reads zero and takes no write, and so an access
of good form to them leaves only its response. -/

namespace Sys2Proof.Machine

/-! ### One word of an absent page -/

section
variable {p : Params} {off : Nat} (h : pageType p (off / 0x1000) = none)
include h

theorem placed_absent : placed p off = none := by
  simp [placed, regAt, h]

theorem rcWord_absent : rcWord p off = false := by
  simp [rcWord, placed_absent h, h]

theorem resultWord_absent : resultWord p off = false := by
  simp [resultWord, placed_absent h]

/-- The page of the time base is never absent. -/
theorem absent_ne_tb {o : Nat} (ho : o < 0x1000) : off ≠ tbO o := by
  rintro rfl
  rw [show tbO o / 0x1000 = 1 by unfold tbO pg; omega] at h
  exact absurd h (by simp [pageType])

end

section
variable {s : State} {off : Nat} (h : pageType s.params (off / 0x1000) = none)
include h

theorem secureWord_absent : secureWord s off = false := by
  simp [secureWord, placed_absent h]

theorem secureWrite_absent : secureWrite s off = false := by
  simp [secureWrite, secureWord_absent h, placed_absent h]

theorem viewWord_absent (p : Port) : viewWord s p off = 0 := by
  simp [viewWord, placed_absent h, h]

theorem readEffect_absent (p : Port) (wide : Bool) (bit : Option Nat) : readEffect p wide bit off s = s := by
  simp [readEffect, absent_ne_tb h (o := Reg.TB_TICK_LO) (by decide), absent_ne_tb h (o := Reg.TB_TICK_HI) (by decide),
    rcWord_absent h, resultWord_absent h]

/-- A word of an absent page reads zero, with no effect of the read. -/
theorem readWord_absent (a : Access) (wide : Bool) (bit : Option Nat) : readWord a wide bit off s = (0, s) := by
  simp [readWord, secureWord_absent h, absent_ne_tb h (o := Reg.TB_TICK_HI) (by decide), rcWord_absent h, viewWord_absent h,
    readEffect_absent h]

/-- A word of an absent page ignores a write. -/
theorem writeWord_absent (a : Access) (bit : Option Nat) (w : Word) : writeWord a bit off w s = s := by
  simp [writeWord, placed_absent h]

end

/-! ### The words of one access -/

section
variable {s : State} {words : List Nat} (h : ∀ o ∈ words, pageType s.params (o / 0x1000) = none)
include h

theorem noteAccess_read_absent (a : Access) : noteAccess a (secureWord s) words s = s :=
  noteAccess_none (.inr (List.any_eq_false.2 fun o ho => by simp [secureWord_absent (h o ho)]))

theorem noteAccess_write_absent (a : Access) : noteAccess a (secureWrite s) words s = s :=
  noteAccess_none (.inr (List.any_eq_false.2 fun o ho => by simp [secureWrite_absent (h o ho)]))

theorem readWords_absent (a : Access) (wide : Bool) : readWords a wide words s = (0, s) := by
  induction words with
  | nil => rfl
  | cons o rest ih =>
    obtain ⟨ho, hrest⟩ := List.forall_mem_cons.1 h
    simp [readWords, readWord_absent ho, ih hrest]

theorem writeWords_absent (a : Access) (v : Nat) : writeWords a words v s = s := by
  induction words generalizing v with
  | nil => rfl
  | cons o rest ih =>
    obtain ⟨ho, hrest⟩ := List.forall_mem_cons.1 h
    simp [writeWords, writeWord_absent ho, ih hrest]

end

/-! ### Where an access of good form goes -/

/-- The two words of an aligned 64-bit access lie in one page, through an alias page as well. -/
theorem canonical_upper_page {off : Nat} (h8 : off % 8 = 0) : canonical (off + 4) / 0x1000 = canonical off / 0x1000 := by
  have hpage : (off + 4) / 0x1000 = off / 0x1000 := by omega
  unfold canonical pg
  rw [hpage]
  dsimp only
  split_ifs <;> omega

theorem formOk_aligned {f : Form} {widths : List Nat} (h : formOk f widths = true) : f.off.toNat % (f.width / 8) = 0 := by
  simp only [formOk, Bool.and_eq_true, beq_iff_eq] at h
  exact h.2

theorem regWords_absent {p : Params} {f : Form} (hok : formOk f [32, 64] = true)
    (h : pageType p (canonical f.off.toNat / 0x1000) = none) : ∀ o ∈ regWords f, pageType p (o / 0x1000) = none := by
  unfold regWords
  split
  next hw =>
    have h8 := formOk_aligned hok
    rw [hw] at h8
    simp [canonical_upper_page h8, h]
  next => simpa using h

theorem regionOf_bits {f : Form} (h : 0x800000 ≤ f.off.toNat) : regionOf f = .bits := by
  unfold regionOf
  dsimp only
  iterate 7 rw [if_neg (by omega)]

theorem respond_params (a : Access) (r : Response) (s : State) : (respond a r s).params = s.params :=
  respond_only a r s .params (by decide)

theorem word_bit_zero (b : Nat) : Word.bit 0 b = false := by
  simp [Word.bit]

/-! ### Accesses to an absent page -/

section
variable {s : State} {f : Form} (hok : formOk f [32, 64] = true) (h : pageType s.params (canonical f.off.toNat / 0x1000) = none)
include hok h

theorem readRegs_absent (a : Access) : readRegs a f s = respond a (.ok 0) s := by
  have hw := regWords_absent hok h
  simp [readRegs, hok, noteAccess_read_absent hw, readWords_absent hw, okNat]

theorem writeWords_respond_absent (a : Access) (r : Response) (v : Nat) :
    writeWords a (regWords f) v (respond a r s) = respond a r s :=
  writeWords_absent (by rw [respond_params]; exact regWords_absent hok h) a v

theorem writeRegs_absent (a : Access) (v : Nat) : writeRegs a f v s = respond a (.ok 0) s := by
  simp [writeRegs, hok, noteAccess_write_absent (regWords_absent hok h), writeWords_respond_absent hok h]

theorem addAccess_absent (ho : f.off.toNat < 0x100000) (a : Access) (v : Nat) : addAccess a f v s = respond a (.ok 0) s := by
  have hw := regWords_absent hok h
  simp [addAccess, regionOf_regs ho, hok, noteAccess_write_absent hw, readWords_absent hw, okNat, writeWords_respond_absent hok h]

end

section
variable {s : State} {f : Form} (hok : formOk f [32] = true)
include hok

/-- A read through the alias window comes to the read of one bit of a word. -/
theorem readAlias_bit {o b : Nat} (hw : aliasOf f = (o, b)) (a : Access) :
    readAlias a f s = okNat a (b2n ((readWord a false (some b) o (noteAccess a (secureWord s) [o] s)).1.bit b))
      (readWord a false (some b) o (noteAccess a (secureWord s) [o] s)).2 := by
  rw [readAlias, if_pos hok, hw]

/-- A write through the alias window comes to the write of one bit of a word. -/
theorem writeAlias_bit {o b : Nat} (hw : aliasOf f = (o, b)) (a : Access) (d : Word) :
    writeAlias a f d s = writeWord a (some b) o d (respond a (.ok 0) (noteAccess a (secureWrite s) [o] s)) := by
  rw [writeAlias, if_pos hok, hw]

variable (h : pageType s.params ((aliasOf f).1 / 0x1000) = none)
include h

theorem readAlias_absent (a : Access) : readAlias a f s = respond a (.ok 0) s := by
  rcases hw : aliasOf f with ⟨o, b⟩
  rw [hw] at h
  rw [readAlias_bit hok hw, noteAccess_read_absent (List.forall_mem_singleton.2 h), readWord_absent h, word_bit_zero]
  rfl

theorem writeAlias_absent (a : Access) (d : Word) : writeAlias a f d s = respond a (.ok 0) s := by
  rcases hw : aliasOf f with ⟨o, b⟩
  rw [hw] at h
  rw [writeAlias_bit hok hw, noteAccess_write_absent (List.forall_mem_singleton.2 h),
    writeWord_absent (by rwa [respond_params])]

end

/-- Settles O18: the two words of a wide access lie in one page, and a word of an absent page is neither counted, read as
anything but zero nor written. -/
theorem absentPageIsInert : Obligations.AbsentPageIsInert := by
  unfold Obligations.AbsentPageIsInert
  constructor
  · intro s a f d hawake hreach hok hoff habs
    have hread : readAccess a f s = respond a (.ok 0) s := by
      simp only [readAccess, regionOf_regs hoff, readRegs_absent hok habs]
    have hwrite : writeAccess a f (d.setWidth 128) s = respond a (.ok 0) s := by
      simp only [writeAccess, regionOf_regs hoff, writeRegs_absent hok habs]
    refine ⟨?_, ?_, ?_, fun hport => ?_⟩
    · exact (act_runs hawake hreach).trans (congrArg _ hread)
    · exact (act_runs hawake hreach).trans (congrArg _ hread)
    · exact (act_runs hawake hreach).trans (congrArg _ hwrite)
    · exact (act_runs hawake (by simp [hport])).trans (congrArg _ (addAccess_absent hok habs hoff a d.toNat))
  · intro s a f d hawake hreach hok hoff habs
    have hbits := regionOf_bits hoff
    have hread : readAccess a f s = respond a (.ok 0) s := by
      simp only [readAccess, hbits, readAlias_absent hok habs]
    constructor
    · exact (act_runs hawake hreach).trans (congrArg _ hread)
    · exact (act_runs hawake (by simp [hreach, hbits])).trans (congrArg _ (writeAlias_absent hok habs a d))

end Sys2Proof.Machine
end

section
/-! SUPPORT. The captured upper halves of the tick counter, one for each port (R41): what a read of either half does to
them, and what the port that read is given. -/

namespace Sys2Proof.Machine

/-! ### What a response gives its port, and what it leaves -/

theorem respond_tb (a : Access) (r : Response) (s : State) : (respond a r s).tb = s.tb := by
  unfold respond
  split <;> exact State.setPorts_tb _ _

/-- The port that made the access holds the response. -/
theorem responseOf_respond (a : Access) (r : Response) (s : State) : responseOf (respond a r s) a = r := by
  cases hp : a.port <;> simp [responseOf, respond, hp]

theorem responseOf_okWord (a : Access) (w : Word) (s : State) : responseOf (okWord a w s) a = .ok (w.setWidth 128) :=
  responseOf_respond a _ s

theorem responseOf_fabric {a : Access} (hp : a.port = .fabric) (s : State) : responseOf s a = s.ports.fab := by
  simp [responseOf, hp]

theorem responseOf_i3c {a : Access} (hp : a.port = .i3c) (s : State) : responseOf s a = s.ports.i3c := by
  simp [responseOf, hp]

/-! ### The captured half of a port -/

/-- The upper half that a read by port `p` captured, if one is captured. -/
def heldHalf (p : Port) (s : State) : Option Word :=
  match p with
  | .fabric => s.tb.heldFab
  | .i3c => s.tb.heldI3c

theorem heldHalf_fabric (s : State) : heldHalf .fabric s = s.tb.heldFab := rfl

theorem heldHalf_i3c (s : State) : heldHalf .i3c s = s.tb.heldI3c := rfl

theorem heldHalf_okWord (q : Port) (a : Access) (w : Word) (s : State) : heldHalf q (okWord a w s) = heldHalf q s := by
  simp [heldHalf, okWord, respond_tb]

/-- A capture is for its own port alone. -/
theorem heldHalf_capture (q p : Port) (s : State) :
    heldHalf q (capture p s) = if q = p then some (tickHi s) else heldHalf q s := by
  cases p <;> cases q <;> rfl

/-- A read of the upper half returns the captured one, and with none captured that of the present tick. -/
theorem readTickHi_value (p : Port) (s : State) : (readTickHi p s).1 = (heldHalf p s).getD (tickHi s) := by
  cases p <;> rfl

/-- A read of the upper half ends the capture of its own port alone. -/
theorem heldHalf_readTickHi (q p : Port) (s : State) :
    heldHalf q (readTickHi p s).2 = if q = p then none else heldHalf q s := by
  cases p <;> cases q <;> rfl

/-- Settles O21: each read is `act` on a block that is awake, and the rules of `capture` and `readTickHi` say what becomes
of the half that each port holds. -/
theorem tickReads : Obligations.TickReads := by
  unfold Obligations.TickReads
  intro s a hawake hreach
  refine ⟨act_runs hawake hreach,
    ⟨okWord a (tickLo s) (capture a.port s), act_runs hawake hreach, responseOf_okWord .., fun hp => ?_, fun hp => ?_⟩,
    ⟨okWord a (readTickHi a.port s).1 (readTickHi a.port s).2, act_runs hawake hreach, fun hp => ?_, fun hp => ?_⟩⟩
  · simp [← heldHalf_fabric, ← heldHalf_i3c, heldHalf_okWord, heldHalf_capture, hp, tickHi]
  · simp [← heldHalf_fabric, ← heldHalf_i3c, heldHalf_okWord, heldHalf_capture, hp, tickHi]
  · rw [← responseOf_fabric hp, responseOf_okWord, readTickHi_value]
    simp [← heldHalf_fabric, ← heldHalf_i3c, heldHalf_okWord, heldHalf_readTickHi, hp, tickHi]
  · rw [← responseOf_i3c hp, responseOf_okWord, readTickHi_value]
    simp [← heldHalf_fabric, ← heldHalf_i3c, heldHalf_okWord, heldHalf_readTickHi, hp, tickHi]

end Sys2Proof.Machine
end

section
/-! SUPPORT. What every command has in common: it is one event that happens or does not, it answers a next state, and its
frame is the one that `touches` names. -/

namespace Sys2Proof.Machine

/-! ### The frame of a command -/

/-- No command changes a part of the state that `touches` does not name for it. -/
theorem exec_only : ∀ (c : Instr) {s t : State}, exec c s = .next t → Only (touches c) s t
  | .coldStart, _, _, h => execColdStart_only h
  | .powerLoss, _, _, h => execPowerLoss_only h
  | .pllFirstLock _ _, _, _, h => execPllFirstLock_only _ _ h
  | .tbPllUnlock, _, _, h => execTbPllUnlock_only h
  | .tbRefLost _, _, _, h => execTbRefLost_only _ h
  | .refGoodAgain _, _, _, h => execRefGoodAgain_only _ h
  | .tbHoldoverExpired, _, _, h => execTbHoldoverExpired_only h
  | .tbTickLoRead _ _, _, _, h => execTbTickLoRead_only _ _ h
  | .tbTickHiRead _, _, _, h => execTbTickHiRead_only _ h
  | .tbSlackRead _ _, _, _, h => execTbSlackRead_only _ _ h
  | .engineCompletion _, _, _, h => execEngineCompletion_only _ h
  | .bridgeSyncFrame _ _, _, _, h => execBridgeSyncFrame_only _ _ h
  | .bridgeStrobeFrame _ _, _, _, h => execBridgeStrobeFrame_only _ _ h
  | .bridgeCapFrame _ _, _, _, h => execBridgeCapFrame_only _ _ h
  | .bridgeEnergyFrame _ _ _ _, _, _, h => execBridgeEnergyFrame_only _ _ _ _ h
  | .brgSyncLost, _, _, h => execBrgSyncLost_only h
  | .secondaryLockTimeout, _, _, h => execSecondaryLockTimeout_only h
  | .registerWrite _ _ _, _, _, h => execRegisterWrite_only _ _ _ h
  | .atomicAdd _ _ _, _, _, h => execAtomicAdd_only _ _ _ h
  | .bitAliasWrite _ _ _, _, _, h => execBitAliasWrite_only _ _ _ h
  | .rcRegisterRead _ _, _, _, h => execRcRegisterRead_only _ _ h
  | .resultRegisterRead _ _, _, _, h => execResultRegisterRead_only _ _ h
  | .genUpdateGo _, _, _, h => execGenUpdateGo_only _ h
  | .updStrobeEdge, _, _, h => execUpdStrobeEdge_only h
  | .strobeApplyTick, _, _, h => execStrobeApplyTick_only h
  | .boundaryApply, _, _, h => execBoundaryApply_only h
  | .lcTakeEffect, _, _, h => execLcTakeEffect_only h
  | .parityWalk, _, _, h => execParityWalk_only h
  | .genParinjWrite _ _ _, _, _, h => execGenParinjWrite_only _ _ _ h
  | .genSnapGo _, _, _, h => execGenSnapGo_only _ h
  | .legStuckOff _ _, _, _, h => execLegStuckOff_only _ _ h
  | .cellLegSpared _, _, _, h => execCellLegSpared_only _ h
  | .cellLegStuckOn _, _, _, h => execCellLegStuckOn_only _ h
  | .cellStep _ _, _, _, h => execCellStep_only _ _ h
  | .cellStartDone _, _, _, h => execCellStartDone_only _ h
  | .cellOvercurrent _, _, _, h => execCellOvercurrent_only _ h
  | .cellCmpConflict _, _, _, h => execCellCmpConflict_only _ h
  | .cluSpareTimeout _, _, _, h => execCluSpareTimeout_only _ h
  | .cluSensorDisagree _, _, _, h => execCluSensorDisagree_only _ h
  | .cluSensorLost _, _, _, h => execCluSensorLost_only _ h
  | .droopTrip _, _, _, h => execDroopTrip_only _ h
  | .schussForceEnd _ _, _, _, h => execSchussForceEnd_only _ _ h
  | .schussRelease _, _, _, h => execSchussRelease_only _ h
  | .schussLong _, _, _, h => execSchussLong_only _ h
  | .cluCellcmdIsolate _ _ _, _, _, h => execCluCellcmdIsolate_only _ _ _ h
  | .cluCellcmdRetest _ _ _, _, _, h => execCluCellcmdRetest_only _ _ _ h
  | .cluCellcmdPass _ _ _, _, _, h => execCluCellcmdPass_only _ _ _ h
  | .cluCellcmdFail _ _ _, _, _, h => execCluCellcmdFail_only _ _ _ h
  | .cluCellcmdRotate _ _ _, _, _, h => execCluCellcmdRotate_only _ _ _ h
  | .cluTrimWrite _, _, _, h => execCluTrimWrite_only _ h
  | .sectorEngineStart _ _, _, _, h => execSectorEngineStart_only _ _ h
  | .sectorEngineLatch _, _, _, h => execSectorEngineLatch_only _ h
  | .secBandReadback _ _, _, _, h => execSecBandReadback_only _ _ h
  | .secTrimLimit _, _, _, h => execSecTrimLimit_only _ h
  | .secCmdPlausClear _ _, _, _, h => execSecCmdPlausClear_only _ _ h
  | .secCmdToSpare _ _, _, _, h => execSecCmdToSpare_only _ _ h
  | .secCmdHandback _ _, _, _, h => execSecCmdHandback_only _ _ h
  | .spareEngineSwitch _, _, _, h => execSpareEngineSwitch_only _ h
  | .chairliftSectorStep _, _, _, h => execChairliftSectorStep_only _ h
  | .chairliftRailStep _, _, _, h => execChairliftRailStep_only _ h
  | .chlIlkTimeout _, _, _, h => execChlIlkTimeout_only _ h
  | .chlSettleTimeout _, _, _, h => execChlSettleTimeout_only _ h
  | .inrushGrant _, _, _, h => execInrushGrant_only _ h
  | .inrushReservationEnd _, _, _, h => execInrushReservationEnd_only _ h
  | .neighbourCheck _ _, _, _, h => execNeighbourCheck_only _ _ h
  | .clusterEnable _, _, _, h => execClusterEnable_only _ h
  | .switchOffComplete _, _, _, h => execSwitchOffComplete_only _ h
  | .trailPush _ _ _, _, _, h => execTrailPush_only _ _ _ h
  | .trailCancel _ _ _, _, _, h => execTrailCancel_only _ _ _ h
  | .trailHeldPushAccept _, _, _, h => execTrailHeldPushAccept_only _ h
  | .trailPushTimeout _, _, _, h => execTrailPushTimeout_only _ h
  | .trailArm _ _, _, _, h => execTrailArm_only _ _ h
  | .trailPresent _ _, _, _, h => execTrailPresent_only _ _ h
  | .trailExpire _ _, _, _, h => execTrailExpire_only _ _ h
  | .trailMiss _ _, _, _, h => execTrailMiss_only _ _ h
  | .trailHoldEnd _ _, _, _, h => execTrailHoldEnd_only _ _ h
  | .trailCmdFlush _ _, _, _, h => execTrailCmdFlush_only _ _ h
  | .activityMessage _ _, _, _, h => execActivityMessage_only _ _ h
  | .tallyStart _, _, _, h => execTallyStart_only _ h
  | .tallyLatch, _, _, h => execTallyLatch_only h
  | .modelStagingWrite _ _ _, _, _, h => execModelStagingWrite_only _ _ _ h
  | .talLoadInstall _ _, _, _, h => execTalLoadInstall_only _ _ h
  | .talLoadAbort _, _, _, h => execTalLoadAbort_only _ h
  | .tallyInstallCheckDone, _, _, h => execTallyInstallCheckDone_only h
  | .tallyInstallActivate, _, _, h => execTallyInstallActivate_only h
  | .stgCmdStart _ _, _, _, h => execStgCmdStart_only _ _ h
  | .stgCmdStop _ _, _, _, h => execStgCmdStop_only _ _ h
  | .stgCmdRetire _ _ _, _, _, h => execStgCmdRetire_only _ _ _ h
  | .stgCmdReturn _ _ _, _, _, h => execStgCmdReturn_only _ _ _ h
  | .stgSoftEntry _, _, _, h => execStgSoftEntry_only _ h
  | .compensatorStart _, _, _, h => execCompensatorStart_only _ h
  | .compensatorLatch _, _, _, h => execCompensatorLatch_only _ h
  | .stgConfirmDone _, _, _, h => execStgConfirmDone_only _ h
  | .stgPgTimeout _, _, _, h => execStgPgTimeout_only _ h
  | .stgSsShort _, _, _, h => execStgSsShort_only _ h
  | .switchingPeriodStart _, _, _, h => execSwitchingPeriodStart_only _ h
  | .switchingCycleStart _, _, _, h => execSwitchingCycleStart_only _ h
  | .fastLimitTrip _, _, _, h => execFastLimitTrip_only _ h
  | .zeroCrossing _, _, _, h => execZeroCrossing_only _ h
  | .stgBUpdate _, _, _, h => execStgBUpdate_only _ h
  | .stgChOverload _, _, _, h => execStgChOverload_only _ h
  | .stgUv _, _, _, h => execStgUv_only _ h
  | .stgOv _, _, _, h => execStgOv_only _ h
  | .stgSenseLost _, _, _, h => execStgSenseLost_only _ h
  | .railTargetUpdate _, _, _, h => execRailTargetUpdate_only _ h
  | .adcCalPair _ _ _, _, _, h => execAdcCalPair_only _ _ _ h
  | .telemetryResult _ _, _, _, h => execTelemetryResult_only _ _ h
  | .sequencePassEnd _, _, _, h => execSequencePassEnd_only _ h
  | .urgentRequest _ _ _, _, _, h => execUrgentRequest_only _ _ _ h
  | .qdUrgreqGo _ _ _, _, _, h => execQdUrgreqGo_only _ _ _ h
  | .urgentConversionStart _, _, _, h => execUrgentConversionStart_only _ h
  | .urgentResult _ _, _, _, h => execUrgentResult_only _ _ h
  | .adcCorrErr _, _, _, h => execAdcCorrErr_only _ h
  | .adcXchkArbitration _ _, _, _, h => execAdcXchkArbitration_only _ _ h
  | .adcXchkResult _ _, _, _, h => execAdcXchkResult_only _ _ h
  | .adcReplaceConnect _, _, _, h => execAdcReplaceConnect_only _ h
  | .adcCmdRetire _ _, _, _, h => execAdcCmdRetire_only _ _ h
  | .adcCmdRetest _ _, _, _, h => execAdcCmdRetest_only _ _ h
  | .adcRetestDone _, _, _, h => execAdcRetestDone_only _ h
  | .thermalStart, _, _, h => execThermalStart_only h
  | .thermalLatch, _, _, h => execThermalLatch_only h
  | .thermalGraceExpiry, _, _, h => execThermalGraceExpiry_only h
  | .enforceStep, _, _, h => execEnforceStep_only h
  | .thmCmdRetire _ _, _, _, h => execThmCmdRetire_only _ _ h
  | .thmCmdReturn _ _, _, _, h => execThmCmdReturn_only _ _ h
  | .thmCmdTreturn _ _, _, _, h => execThmCmdTreturn_only _ _ h
  | .capLoopStart, _, _, h => execCapLoopStart_only h
  | .capLoopLatch, _, _, h => execCapLoopLatch_only h
  | .energyAccumulate, _, _, h => execEnergyAccumulate_only h
  | .jobEnergyAdd, _, _, h => execJobEnergyAdd_only h
  | .hostJobstart _ _, _, _, h => execHostJobstart_only _ _ h
  | .hostJobend _ _, _, _, h => execHostJobend_only _ _ h
  | .blanketEvaluation, _, _, h => execBlanketEvaluation_only h
  | .blanketLevelDrive, _, _, h => execBlanketLevelDrive_only h
  | .blkMsgEnter _, _, _, h => execBlkMsgEnter_only _ h
  | .blkMsgExit _, _, _, h => execBlkMsgExit_only _ h
  | .lookupQuery _ _ _ _, _, _, h => execLookupQuery_only _ _ _ _ h
  | .lookupAnswer _, _, _, h => execLookupAnswer_only _ h
  | .seatEntryWrite _ _ _, _, _, h => execSeatEntryWrite_only _ _ _ h
  | .placementDecision, _, _, h => execPlacementDecision_only h
  | .migrationDestReady, _, _, h => execMigrationDestReady_only h
  | .migrationPowerTimeout, _, _, h => execMigrationPowerTimeout_only h
  | .migrationCopyTimeout, _, _, h => execMigrationCopyTimeout_only h
  | .seatMigack _ _ _, _, _, h => execSeatMigack_only _ _ _ h
  | .seatFlip, _, _, h => execSeatFlip_only h
  | .seatGraceEnd, _, _, h => execSeatGraceEnd_only h
  | .seatCmdMove _ _ _, _, _, h => execSeatCmdMove_only _ _ _ h
  | .seatCmdRetire _ _ _, _, _, h => execSeatCmdRetire_only _ _ _ h
  | .seatCmdReturn _ _ _, _, _, h => execSeatCmdReturn_only _ _ _ h
  | .seatCmdScrub _ _, _, _, h => execSeatCmdScrub_only _ _ h
  | .seatCmdAbort _, _, _, h => execSeatCmdAbort_only _ h
  | .scrubHoldEnd, _, _, h => execScrubHoldEnd_only h
  | .seatWake _ _, _, _, h => execSeatWake_only _ _ h
  | .bankGroupIdle _, _, _, h => execBankGroupIdle_only _ h
  | .migRecordResponse ok, _, _, h => execMigRecordResponse_only ok h
  | .poweredSecond, _, _, h => execPoweredSecond_only h
  | .wearSaveDue, _, _, h => execWearSaveDue_only h
  | .rotationStart, _, _, h => execRotationStart_only h
  | .retestStepDone _ _, _, _, h => execRetestStepDone_only _ _ h
  | .calCmdSelftestSector _ _, _, _, h => execCalCmdSelftestSector_only _ _ h
  | .calCmdSelftestSpare _ _, _, _, h => execCalCmdSelftestSpare_only _ _ h
  | .selfTestDone _, _, _, h => execSelfTestDone_only _ h
  | .ringPresent _ _ _ _ _ _ _ _, _, _, h => execRingPresent_only _ _ _ _ _ _ _ _ h
  | .arbiterDrawStart _, _, _, h => execArbiterDrawStart_only _ h
  | .arbiterDrawLatch _, _, _, h => execArbiterDrawLatch_only _ h
  | .ringTransactionComplete _ _, _, _, h => execRingTransactionComplete_only _ _ h
  | .lockLimitExpiry _, _, _, h => execLockLimitExpiry_only _ h
  | .dbgCmd _ _, _, _, h => execDbgCmd_only _ _ h
  | .faultLatch, _, _, h => execFaultLatch_only h
  | .fltInject _ _ _, _, _, h => execFltInject_only _ _ _ h
  | .aliveToggle, _, _, h => execAliveToggle_only h
  | .alertWriteResponse _, _, _, h => execAlertWriteResponse_only _ h
  | .ibiComplete, _, _, h => execIbiComplete_only h
  | .quietPeriodEnd _, _, _, h => execQuietPeriodEnd_only _ h
  | .chipQuietEnd, _, _, h => execChipQuietEnd_only h
  | .fltCmdRearm _, _, _, h => execFltCmdRearm_only _ h
  | .fltCmdClear _ _, _, _, h => execFltCmdClear_only _ _ h
  | .fltCmdClearChip _, _, _, h => execFltCmdClearChip_only _ h
  | .flashResetWaitEnd, _, _, h => execFlashResetWaitEnd_only h
  | .flashJedecId _, _, _, h => execFlashJedecId_only _ h
  | .flashSfdpRead _, _, _, h => execFlashSfdpRead_only _ h
  | .flashScanDone _ _, _, _, h => execFlashScanDone_only _ _ h
  | .calWriteRequest _ _, _, _, h => execCalWriteRequest_only _ _ h
  | .flashProgramDone _, _, _, h => execFlashProgramDone_only _ h
  | .flashEraseDone _, _, _, h => execFlashEraseDone_only _ h
  | .calOpTimeout, _, _, h => execCalOpTimeout_only h
  | .calReclaim, _, _, h => execCalReclaim_only h
  | .calScrubDue _, _, _, h => execCalScrubDue_only _ h
  | .calStcmdSave _ _ _, _, _, h => execCalStcmdSave_only _ _ _ h
  | .calStcmdScrub _ _, _, _, h => execCalStcmdScrub_only _ _ h
  | .calStcmdTombstone _ _ _, _, _, h => execCalStcmdTombstone_only _ _ _ h
  | .bootLoadDone, _, _, h => execBootLoadDone_only h
  | .genBootcmdSafeProfile _, _, _, h => execGenBootcmdSafeProfile_only _ h
  | .genBootcmdShutdown _, _, _, h => execGenBootcmdShutdown_only _ h
  | .genBootcmdRestart _, _, _, h => execGenBootcmdRestart_only _ h
  | .genBootcmdWarmReset _ _, _, _, h => execGenBootcmdWarmReset_only _ _ h
  | .bootSenseDone, _, _, h => execBootSenseDone_only h
  | .bootSlotStart, _, _, h => execBootSlotStart_only h
  | .shutdownDomainStop _, _, _, h => execShutdownDomainStop_only _ h
  | .shutdownTimeout, _, _, h => execShutdownTimeout_only h
  | .lnkDiscPresent _ _ _, _, _, h => execLnkDiscPresent_only _ _ _ h
  | .lnkDiscDone _, _, _, h => execLnkDiscDone_only _ h
  | .lnkDiscTimeout, _, _, h => execLnkDiscTimeout_only h
  | .lnkUnplannedOff _, _, _, h => execLnkUnplannedOff_only _ h
  | .lnkReqOn _ _, _, _, h => execLnkReqOn_only _ _ h
  | .lnkReqOff _ _, _, _, h => execLnkReqOff_only _ _ h
  | .i3cEnec _ _, _, _, h => execI3cEnec_only _ _ h
  | .i3cDisec _ _, _, _, h => execI3cDisec_only _ _ h
  | .i3cRstdaa, _, _, h => execI3cRstdaa_only h
  | .i3cEntdaa _, _, _, h => execI3cEntdaa_only _ h
  | .i3cSetdasa _ _, _, _, h => execI3cSetdasa_only _ _ h
  | .i3cSetnewda _, _, _, h => execI3cSetnewda_only _ h
  | .i3cSetmwl _, _, _, h => execI3cSetmwl_only _ h
  | .i3cGetmwl, _, _, h => execI3cGetmwl_only h
  | .i3cSetmrl _, _, _, h => execI3cSetmrl_only _ h
  | .i3cGetmrl, _, _, h => execI3cGetmrl_only h
  | .i3cGetpid, _, _, h => execI3cGetpid_only h
  | .i3cGetbcr, _, _, h => execI3cGetbcr_only h
  | .i3cGetdcr, _, _, h => execI3cGetdcr_only h
  | .i3cGetstatus, _, _, h => execI3cGetstatus_only h
  | .i3cEnthdr, _, _, h => execI3cEnthdr_only h
  | .i3cHdrExit, _, _, h => execI3cHdrExit_only h
  | .i3cPrivateWrite _, _, _, h => execI3cPrivateWrite_only _ h
  | .i3cReadHeader _, _, _, h => execI3cReadHeader_only _ h
  | .i3cPrivateRead, _, _, h => execI3cPrivateRead_only h
  | .i3cError _, _, _, h => execI3cError_only _ h
  | .testLogicReset, _, _, h => execTestLogicReset_only h
  | .railConverterResult _ _, _, _, h => execRailConverterResult_only _ _ h
  | .sequenceEntryStart _, _, _, h => execSequenceEntryStart_only _ h
/-- Settles O6: each command's own frame lemma. -/
theorem eachCommandTouchesOnly : Obligations.EachCommandTouchesOnly := fun c _ _ h => exec_only c h

/-! ### Every command is one event -/

/-- An outcome that is one event, which happens or leaves the state as it is. -/
def OneEvent (s : State) (o : Host.Outcome State Fault Refusal) : Prop := ∃ ok t, o = act s ok t

theorem OneEvent.answers {s : State} {o : Host.Outcome State Fault Refusal} (h : OneEvent s o) : ∃ t, o = .next t := by
  obtain ⟨ok, t, rfl⟩ := h
  unfold act
  split
  · exact ⟨t, rfl⟩
  · exact ⟨s, rfl⟩

/-- Without power no event happens. -/
theorem OneEvent.idle {s : State} {o : Host.Outcome State Fault Refusal} (h : OneEvent s o) (hs : s.powered = false) :
    o = .next s := by
  obtain ⟨ok, t, rfl⟩ := h
  exact act_idle (.inl (by simp [awake, hs]))

theorem OneEvent.act {s : State} (ok : Bool) (t : State) : OneEvent s (act s ok t) := ⟨ok, t, rfl⟩

/-- A command that serves what waits first (a leg, a record, an entry, a job) has one event for what it finds, and none
where it finds nothing. -/
theorem exec_oneEvent (c : Instr) (s : State) (hcold : c ≠ .coldStart) (hloss : c ≠ .powerLoss) : OneEvent s (exec c s) := by
  cases c with
  | coldStart => exact absurd rfl hcold
  | powerLoss => exact absurd rfl hloss
  | adcReplaceConnect | adcXchkResult | alertWriteResponse | calReclaim | cellLegSpared | cluTrimWrite | flashEraseDone
  | i3cError | inrushGrant | lnkUnplannedOff | lookupAnswer | neighbourCheck | retestStepDone | ringTransactionComplete
  | selfTestDone | sequencePassEnd | spareEngineSwitch | stgSoftEntry | switchOffComplete | tallyInstallActivate |
  tallyInstallCheckDone | telemetryResult | thermalGraceExpiry | trailExpire | trailHeldPushAccept | trailHoldEnd |
  trailMiss | urgentConversionStart | urgentResult =>
    simp only [exec, execAdcReplaceConnect, execAdcXchkResult, execAlertWriteResponse, execCalReclaim,
      execCellLegSpared, execCluTrimWrite, execFlashEraseDone, execI3cError, execInrushGrant, execLnkUnplannedOff,
      execLookupAnswer, execNeighbourCheck, execRetestStepDone, execRingTransactionComplete, execSelfTestDone,
      execSequencePassEnd, execSpareEngineSwitch, execStgSoftEntry, execSwitchOffComplete, execTallyInstallActivate,
      execTallyInstallCheckDone, execTelemetryResult, execThermalGraceExpiry, execTrailExpire, execTrailHeldPushAccept,
      execTrailHoldEnd, execTrailMiss, execUrgentConversionStart, execUrgentResult]
    split <;> exact .act _ _
  | trailArm | trailPresent =>
    simp only [exec, execTrailArm, execTrailPresent]
    split
    on_goal 1 => split
    all_goals exact .act _ _
  | flashProgramDone | rotationStart =>
    simp only [exec, execFlashProgramDone, execRotationStart]
    split
    on_goal 2 => split
    all_goals exact .act _ _
  | _ => exact .act _ _

/-- A cold start happens on a block without power alone, and a loss of power always. -/
theorem exec_answers (c : Instr) (s : State) : ∃ t, exec c s = .next t := by
  by_cases hcold : c = .coldStart
  · exact hcold ▸ ⟨_, rfl⟩
  by_cases hloss : c = .powerLoss
  · exact hloss ▸ ⟨_, rfl⟩
  exact (exec_oneEvent c s hcold hloss).answers

/-- Without power no command but a cold start has any effect. -/
theorem exec_unpowered {c : Instr} {s : State} (hs : s.powered = false) (hcold : c ≠ .coldStart) : exec c s = .next s := by
  by_cases hloss : c = .powerLoss
  · subst hloss
    exact congrArg _ (show s.setPower false = s by rw [← hs]; rfl)
  · exact (exec_oneEvent c s hcold hloss).idle hs

theorem step_runs (s : State) : Runs s := by
  unfold Runs step
  split
  · exact exec_answers _ _
  · exact ⟨_, rfl⟩

/-- Settles O8: every step answers a next state, so every state that steps reach does. -/
theorem noRunStops : Obligations.NoRunStops := fun _ _ t _ => step_runs t

/-! ### The parts that no command, or hardly one, can change -/

/-- That a part is not in a list is found by computing. -/
theorem not_mem_of_contains {p : Part} {l : List Part} (h : l.contains p = false) : p ∉ l := by simpa using h

theorem touches_not_pending (c : Instr) : .pending ∉ touches c := by
  cases c <;> exact not_mem_of_contains rfl

theorem touches_not_params (c : Instr) : .params ∉ touches c := by
  cases c <;> exact not_mem_of_contains rfl

theorem exec_pending {c : Instr} {s t : State} (h : exec c s = .next t) : t.pending = s.pending :=
  exec_only c h .pending (touches_not_pending c)

theorem exec_params {c : Instr} {s t : State} (h : exec c s = .next t) : t.params = s.params :=
  exec_only c h .params (touches_not_params c)

/-- A step takes the queue's front, and a tick leaves an empty queue. -/
theorem step_pending {s t : State} (h : step s = .next t) : t.pending = s.pending.drop 1 ∧ t.params = s.params := by
  unfold step at h
  split at h
  next c rest hq => exact ⟨by rw [hq]; exact exec_pending h, (exec_params h).trans rfl⟩
  next hq =>
    cases h
    rw [hq]
    exact ⟨(tickPasses_only s .pending (by decide)).trans hq, tickPasses_only s .params (by decide)⟩

theorem exec_powers {c : Instr} {s t : State} (h : exec c s = .next t) (hs : s.powered = false) (ht : t.powered = true) :
    c = .coldStart := by
  by_contra hcold
  rw [exec_unpowered hs hcold] at h
  cases h
  rw [hs] at ht
  cases ht

theorem touches_powered {c : Instr} (h : .powered ∈ touches c) : c = .coldStart ∨ c = .powerLoss := by
  cases c with
  | coldStart => exact .inl rfl
  | powerLoss => exact .inr rfl
  | _ => exact absurd h (not_mem_of_contains rfl)

theorem exec_unpowers {c : Instr} {s t : State} (h : exec c s = .next t) (hs : s.powered = true) (ht : t.powered = false) :
    c = .powerLoss := by
  have hp : .powered ∈ touches c := by
    by_contra hn
    have hsame : t.powered = s.powered := exec_only c h .powered hn
    rw [hs, ht] at hsame
    cases hsame
  rcases touches_powered hp with rfl | rfl
  · simp only [exec, execColdStart, hs, if_true] at h
    cases h
    rw [hs] at ht
    cases ht
  · rfl

/-- Settles O7: by the frames of the commands, and by what a command does without power. -/
theorem queueParametersAndSupply : Obligations.QueueParametersAndSupply :=
  ⟨⟨fun _ _ _ h => ⟨exec_pending h, exec_params h⟩, fun _ _ => step_pending⟩, fun _ _ => exec_unpowered,
    fun _ _ _ h => ⟨exec_powers h, exec_unpowers h⟩⟩

/-! ### What can load the counter, an active copy or the model memory -/

theorem touches_time {c : Instr} (h : .time ∈ touches c) : c = .coldStart ∨ ∃ p ok, c = .bridgeSyncFrame p ok := by
  cases c with
  | coldStart | bridgeSyncFrame => simp
  | _ => exact absurd h (not_mem_of_contains rfl)

theorem touches_active {c : Instr} (h : .active ∈ touches c) :
    c = .coldStart ∨ c = .strobeApplyTick ∨ c = .boundaryApply ∨ c = .lcTakeEffect ∨ c = .parityWalk ∨ (∃ n, c = .cluTrimWrite n) ∨
    c = .bootLoadDone ∨ (∃ a f d, c = .registerWrite a f d) ∨ (∃ a f d, c = .atomicAdd a f d) ∨ (∃ a f d, c = .bitAliasWrite a f d) ∨
    (∃ b, c = .i3cPrivateWrite b) ∨ (∃ b, c = .i3cReadHeader b) ∨ (∃ a, c = .genBootcmdSafeProfile a) ∨
    (∃ a, c = .genBootcmdShutdown a) ∨ (∃ a, c = .genBootcmdRestart a) ∨ (∃ a k, c = .genBootcmdWarmReset a k) := by
  cases c with
  | coldStart | strobeApplyTick | boundaryApply | lcTakeEffect | parityWalk | cluTrimWrite | bootLoadDone | registerWrite
  | atomicAdd | bitAliasWrite | i3cPrivateWrite | i3cReadHeader | genBootcmdSafeProfile | genBootcmdShutdown
  | genBootcmdRestart | genBootcmdWarmReset => simp
  | _ => exact absurd h (not_mem_of_contains rfl)

theorem touches_mem {c : Instr} (h : .mem ∈ touches c) :
    c = .coldStart ∨ (∃ a f d, c = .modelStagingWrite a f d) ∨ c = .tallyInstallActivate ∨ c = .bootLoadDone ∨
    (∃ a f d, c = .registerWrite a f d) ∨ (∃ a f d, c = .atomicAdd a f d) ∨ (∃ a f d, c = .bitAliasWrite a f d) ∨
    (∃ b, c = .i3cPrivateWrite b) ∨ (∃ b, c = .i3cReadHeader b) ∨ (∃ a, c = .genBootcmdSafeProfile a) ∨
    (∃ a, c = .genBootcmdShutdown a) ∨ (∃ a, c = .genBootcmdRestart a) ∨ (∃ a k, c = .genBootcmdWarmReset a k) := by
  cases c with
  | coldStart | modelStagingWrite | tallyInstallActivate | bootLoadDone | registerWrite | atomicAdd | bitAliasWrite
  | i3cPrivateWrite | i3cReadHeader | genBootcmdSafeProfile | genBootcmdShutdown | genBootcmdRestart
  | genBootcmdWarmReset => simp
  | _ => exact absurd h (not_mem_of_contains rfl)

theorem touched {p : Part} {c : Instr} {s t : State} (h : exec c s = .next t) (hp : ¬ p.same s t) : p ∈ touches c :=
  by_contra fun hn => hp (exec_only c h p hn)

/-- Settles O9: the counter, the active copies and the model memory are parts of the frames of these commands alone. -/
theorem stateChangesOnlyBy : Obligations.StateChangesOnlyBy := by
  refine ⟨fun c s t h hne => touches_time (touched h ?_), fun c s t h hne => touches_active (touched h hne),
    fun c s t h hne => touches_mem (touched h hne)⟩
  rintro ⟨htick, helapsed⟩
  exact hne.elim (· htick) (· helapsed)

end Sys2Proof.Machine
end

section
/-! SUPPORT. The canonical form of the model memory through every command and every tick. -/

namespace Sys2Proof.Machine

/-- Reset holds no byte of model memory. -/
theorem reset_memWf (p : Params) : Memory.wf (State.resetWith p).mem = true := rfl

/-- Settles O4. -/
theorem memoryCanonicalAtReset : Obligations.MemoryCanonicalAtReset := reset_memWf _

theorem coldStart_memWf (s : State) : MemWf s (coldStart s) := fun _ => reset_memWf s.params

/-- What a command that can change the model memory leaves of its form; every other command leaves the memory itself. -/
theorem exec_memWf {c : Instr} {s t : State} (h : exec c s = .next t) : MemWf s t := by
  by_cases hc : .mem ∈ touches c
  · rcases touches_mem hc with rfl | ⟨a, f, d, rfl⟩ | rfl | rfl | ⟨a, f, d, rfl⟩ | ⟨a, f, d, rfl⟩ | ⟨a, f, d, rfl⟩ | ⟨b, rfl⟩ |
      ⟨b, rfl⟩ | ⟨a, rfl⟩ | ⟨a, rfl⟩ | ⟨a, rfl⟩ | ⟨a, k, rfl⟩
    case inl =>
      cases h
      exact MemWf.ite (MemWf.refl s) (coldStart_memWf s)
    · exact act_memWf (modelWrite_memWf a f d s) h
    · simp only [exec, execTallyInstallActivate] at h
      split at h
      · exact act_memWf (activate_memWf _ s) h
      · exact act_memWf (MemWf.refl s) h
    · exact act_memWf ((loadRecords_memWf s).trans ((checkStart_only _).memWf rfl)) h
    · exact act_memWf (writeAccess_memWf a f _ s) h
    · exact act_memWf (addAccess_memWf a f _ s) h
    · exact act_memWf (writeAlias_memWf a f d s) h
    · exact act_memWf (privateWrite_memWf b s) h
    · exact act_memWf (privateWrite_memWf b s) h
    all_goals exact act_memWf (secureCmd_memWf a _ s fun s => bootCommand_memWf _ s) h
  · exact fun hw => by rwa [show t.mem = s.mem from exec_only c h .mem hc]

theorem i3cData_memWf (s : State) : MemWf s (i3cData s) := by
  unfold i3cData
  split
  · exact MemWf.when _ _ (MemWf.refl s) fun s => writeData_memWf _ _ s
  · exact MemWf.refl s

/-- Of what the end of a tick brings, a word of an I3C write alone can reach the model memory. -/
theorem finishTick_memWf (s : State) : MemWf s (finishTick s) := by
  have h : MemWf s (formAnswers (endTick (i3cData (i3cFetch s)))) :=
    (((i3cFetch_only s).memWf rfl).trans (i3cData_memWf _)).trans
      (((endTick_only _).memWf rfl).trans ((formAnswers_only _).memWf rfl))
  exact MemWf.ite h (h.trans ((State.setPorts_only _ _).memWf rfl))

theorem tickPasses_memWf (s : State) : MemWf s (tickPasses s) := by
  have h : MemWf s (if awake s then finishTick s else s) := MemWf.ite (finishTick_memWf s) (MemWf.refl s)
  exact MemWf.ite (h.trans (((advance_only _).memWf rfl).trans (((bridgeTick_only _).memWf rfl).trans
    ((clearedStarts_only _).memWf rfl)))) (MemWf.refl s)

/-- Settles O5: a step is a command or a tick, and either keeps the form. -/
theorem memoryStaysCanonical : Obligations.MemoryStaysCanonical := by
  intro s t hw h
  unfold step at h
  split at h
  next c rest _ => exact exec_memWf h hw
  next => cases h; exact tickPasses_memWf s hw

end Sys2Proof.Machine
end

section
/-! SUPPORT. A step that runs a command, what holds after reset, and a tick with little or nothing to bring. -/

namespace Sys2Proof.Machine

/-! ### A step, and the reset state -/

theorem step_runs_front {s : State} {c : Instr} {rest : List Instr} (h : s.pending = c :: rest) :
    step s = exec c (s.setPending rest) := by
  simp only [step, h]

theorem step_ticks {s : State} (h : s.pending = []) : step s = .next (tickPasses s) := by
  simp only [step, h]

/-- Settles O1. -/
theorem stepRunsFront : Obligations.StepRunsFront := fun _ _ _ h => step_runs_front h

/-- No word has been written at reset, so that each of its copies is its reset value. -/
theorem reset_word (off : Nat) : shadowOf State.reset off = resetAt State.reset.params off ∧
    activeOf State.reset off = resetAt State.reset.params off ∧ live State.reset off = resetAt State.reset.params off :=
  ⟨rfl, rfl, rfl⟩

/-- Settles O3: the stores of the reset state list nothing, and the table gives each word's value. -/
theorem resetState : Obligations.ResetState := by
  refine ⟨⟨rfl, rfl, rfl, rfl, reset_word, rfl, rfl, rfl, fun _ => rfl, fun _ => rfl⟩, ?_⟩
  rintro s rfl
  simp only [(reset_word _).2.1, (reset_word _).2.2]
  decide +kernel

/-! ### What a frame leaves -/

/-- A part that the list does not name stays. -/
theorem Only.keeps {l : List Part} {s t : State} (h : Only l s t) (p : Part) (hp : l.contains p = false) : p.same s t :=
  h p (not_mem_of_contains hp)

theorem Only.stage_eq {l : List Part} {s t : State} (h : Only l s t) (hp : l.contains .stages = false) (d : Nat) :
    stage t d = stage s d := by
  unfold stage
  rw [show t.stages = s.stages from h.keeps .stages hp]

/-! ### The steps of a tick's end where nothing waits for them -/

theorem endTimes_none {s : State} (h : s.late = []) : endTimes s = lateRequests s := by
  unfold endTimes
  rw [h]
  rfl

theorem lateRequests_none {s : State} (h : s.lnk.reqs = []) : lateRequests s = s := by
  have hl : { s.lnk with reqs := [] } = s.lnk := by rw [← h]
  calc lateRequests s = s.setLnk { s.lnk with reqs := [] } := by unfold lateRequests; rw [h]; rfl
    _ = s := by rw [hl]; rfl

theorem serveOwed_none {s : State} (h : s.adcOwed = []) : serveOwed s = s := by
  unfold serveOwed
  rw [h, List.foldl_nil, ← h]
  rfl

theorem missedSync_none {s : State} {wait : Nat} (h : syncMissed wait s = false) : missedSync wait s = s := by
  simp only [missedSync, h, when, Bool.false_eq_true, if_false]

theorem endTick_unseen {s : State} (h : s.regs.seen = []) : endTick s = settle s := by
  simp only [endTick, h, List.isEmpty_nil, if_true]

theorem i3cFetch_none {s : State} (h : s.ports.target.fetch = none) : i3cFetch s = s := by
  simp only [i3cFetch, h]

theorem i3cData_none {s : State} (h : s.ports.target.data = none) : i3cData s = s := by
  simp only [i3cData, h]

theorem forEach_id {σ : Type} {l : List Nat} {f : Nat → σ → σ} {s : σ} (h : ∀ x ∈ l, f x s = s) : forEach l f s = s := by
  unfold forEach
  induction l with
  | nil => rfl
  | cons x xs ih =>
    rw [List.foldl_cons, h x (by simp), ih fun y hy => h y (by simp [hy])]

theorem clearedStarts_none {s : State} (h : ∀ d, (stage s d).startDue = none) : clearedStarts s = s :=
  forEach_id fun d _ => by simp only [h d]

/-- Where no time ran out, no request and no role waits, the tick's end brings a missed sync word at most. -/
theorem settle_quiet {s : State} (hlate : s.late = []) (howed : s.adcOwed = []) (hreqs : s.lnk.reqs = []) :
    settle s = missedSync (estP / 2) s := by
  have h := missedSync_only (estP / 2) s
  unfold settle
  rw [endTimes_none (Eq.trans (h.keeps .late rfl) hlate),
    lateRequests_none (by rw [show (missedSync (estP / 2) s).lnk = s.lnk from h.keeps .lnk rfl, hreqs]),
    serveOwed_none (Eq.trans (h.keeps .adcOwed rfl) howed)]

/-! ### A read changes its response and little else -/

theorem respond_target (a : Access) (r : Response) (s : State) : (respond a r s).ports.target = s.ports.target := by
  unfold respond
  split <;> rfl

/-- `x` is `s` with the response to `a`'s port, after what a read may change beside it. -/
def Responds (a : Access) (s x : State) : Prop := ∃ r u, x = respond a r u ∧ Only [.held, .live, .regs, .flt] s u

theorem Responds.of {a : Access} {s u : State} (r : Response) (h : Only [.held, .live, .regs, .flt] s u) :
    Responds a s (respond a r u) := ⟨r, u, rfl, h⟩

theorem Responds.ite {a : Access} {s x y : State} {c : Prop} [Decidable c] (hx : Responds a s x) (hy : Responds a s y) :
    Responds a s (if c then x else y) := by
  split
  · exact hx
  · exact hy

theorem formError_responds (a : Access) (s : State) : Responds a s (formError a s) :=
  .of _ ((bumpF_only _ _ _ _).mono rfl)

theorem okNat_responds (a : Access) (v : Nat) {s u : State} (h : Only [.held, .live, .regs, .flt] s u) :
    Responds a s (okNat a v u) := .of _ h

theorem countNonsec_read (a : Access) (s : State) : Only [.held, .live, .regs, .flt] s (countNonsec a s) :=
  (countNonsec_only a s).mono rfl

theorem readRegs_responds (a : Access) (f : Form) (s : State) : Responds a s (readRegs a f s) := by
  unfold readRegs
  exact .ite (okNat_responds a _ (((noteAccess_only _ _ _ _).mono rfl).trans (readWords_only _ _ _ _)))
    (formError_responds a s)

theorem readTrail_responds (a : Access) (f : Form) (s : State) : Responds a s (readTrail a f s) := by
  unfold readTrail
  dsimp only
  exact .ite (.ite (okNat_responds a _ (Only.refl _ s)) (.ite (okNat_responds a _ (countNonsec_read a s))
    (okNat_responds a _ (Only.refl _ s)))) (formError_responds a s)

theorem readModel_responds (a : Access) (f : Form) (s : State) : Responds a s (readModel a f s) := by
  unfold readModel
  dsimp only
  exact .ite (.ite (okNat_responds a _ (Only.refl _ s)) (okNat_responds a _ ((Only.refl _ s).when _ _ (countNonsec_read a))))
    (formError_responds a s)

theorem readSeat_responds (a : Access) (f : Form) (s : State) : Responds a s (readSeat a f s) := by
  unfold readSeat
  dsimp only
  exact .ite (.ite (okNat_responds a _ (Only.refl _ s)) (okNat_responds a _ ((Only.refl _ s).when _ _ (countNonsec_read a))))
    (formError_responds a s)

theorem readAlias_responds (a : Access) (f : Form) (s : State) : Responds a s (readAlias a f s) := by
  unfold readAlias
  generalize aliasOf f = p
  obtain ⟨o, b⟩ := p
  exact .ite (okNat_responds a _ (((noteAccess_only _ _ _ _).mono rfl).trans (readWord_only _ _ _ _ _)))
    (formError_responds a s)

/-- A read ends in the response to its port; before it a read changes neither port. -/
theorem readAccess_responds (a : Access) (f : Form) (s : State) : Responds a s (readAccess a f s) := by
  unfold readAccess
  split
  · exact readRegs_responds a f s
  · exact readTrail_responds a f s
  · exact readModel_responds a f s
  · exact readSeat_responds a f s
  · exact readAlias_responds a f s
  · exact formError_responds a s

theorem readAccess_target (a : Access) (f : Form) (s : State) : (readAccess a f s).ports.target = s.ports.target := by
  obtain ⟨r, u, hr, hu⟩ := readAccess_responds a f s
  rw [hr, respond_target, show u.ports = s.ports from hu.keeps .ports rfl]

/-- The words of a read leave the data of an I3C write that is on its way. -/
theorem i3cFetch_data (s : State) : (i3cFetch s).ports.target.data = s.ports.target.data := by
  unfold i3cFetch
  split
  · rfl
  · dsimp only
    split
    · rfl
    · have hread := congrArg I3c.data (readAccess_target i3cAccess (wordForm ‹Fetch›.off) s)
      split <;> exact hread

/-! ### Elapsed time -/

theorem Only.elapsed_eq {l : List Part} {s t : State} (h : Only l s t) (hp : l.contains .time = false) :
    t.tb.elapsed = s.tb.elapsed := (h.keeps .time hp).2

theorem joinOver_elapsed (s : State) : (joinOver s).tb.elapsed = s.tb.elapsed := by
  unfold joinOver when
  split
  · exact (((loseBridge_only _).mono rfl).trans (((calRestart_only _).mono rfl).via (enterLoad_only _) rfl) :
      Only [.tb, .bridge, .live, .flt, .sparing, .adcs, .boot, .cal] _ _).elapsed_eq rfl
  · rfl

theorem timeOver_elapsed (l : Late) (s : State) : (timeOver l s).tb.elapsed = s.tb.elapsed := by
  cases l with
  | joinWait => exact joinOver_elapsed s
  | bridge => exact (bridgeOver_only s).elapsed_eq rfl
  | holdover => exact (holdoverOver_only s).elapsed_eq rfl
  | discovery => exact (discOver_only s).elapsed_eq rfl
  | storeOp => exact (opOver_only s).elapsed_eq rfl
  | copy => exact (copyOver_only s).elapsed_eq rfl
  | grace => exact (graceOver_only s).elapsed_eq rfl
  | shutdown => exact (shutOver_only s).elapsed_eq rfl
  | push q => exact (pushOver_only q s).elapsed_eq rfl
  | idle g => exact (idleOver_only g s).elapsed_eq rfl
  | uv d => exact (uvOver_only d s).elapsed_eq rfl
  | pg d => exact (pgOver_only d s).elapsed_eq rfl
  | overload ch => exact (overloadOver_only ch s).elapsed_eq rfl
  | spare g => exact (spareOver_only g s).elapsed_eq rfl
  | quiet d => exact (quietOver_only d s).elapsed_eq rfl
  | chipQuiet => exact (chipOver_only s).elapsed_eq rfl

/-- What holds of `f` after each step of a fold holds after the fold. -/
theorem foldl_keeps {α β γ : Type} {f : β → γ} {g : β → α → β} (h : ∀ b a, f (g b a) = f b) (l : List α) (b : β) :
    f (l.foldl g b) = f b := by
  induction l generalizing b with
  | nil => rfl
  | cons a l ih => rw [List.foldl_cons, ih, h]

theorem endTimes_elapsed (s : State) : (endTimes s).tb.elapsed = s.tb.elapsed := by
  unfold endTimes
  rw [(lateRequests_only _).elapsed_eq rfl]
  split
  · rfl
  · exact foldl_keeps (f := fun s => s.tb.elapsed) (fun s l => timeOver_elapsed l s) _ _

theorem settle_elapsed (s : State) : (settle s).tb.elapsed = s.tb.elapsed := by
  unfold settle
  rw [(serveOwed_only _).elapsed_eq rfl, endTimes_elapsed, (missedSync_only _ _).elapsed_eq rfl]

theorem keepSeen_time (b s : State) : (keepSeen b s).tb.elapsed = s.tb.elapsed :=
  (keepSeen_only b s).elapsed_eq rfl

theorem endTick_elapsed (s : State) : (endTick s).tb.elapsed = s.tb.elapsed := by
  unfold endTick
  split
  · exact settle_elapsed s
  · rw [keepSeen_time, settle_elapsed]

theorem finishTick_elapsed (s : State) : (finishTick s).tb.elapsed = s.tb.elapsed := by
  have h : (formAnswers (endTick (i3cData (i3cFetch s)))).tb.elapsed = s.tb.elapsed := by
    rw [(formAnswers_only _).elapsed_eq rfl, endTick_elapsed, (i3cData_only _).elapsed_eq rfl, (i3cFetch_only s).elapsed_eq rfl]
  unfold finishTick
  dsimp only
  split <;> exact h

/-! ### What a tick comes to -/

theorem tickPasses_powered {s : State} (h : s.powered = true) :
    tickPasses s = clearedStarts (bridgeTick (advance (if awake s then finishTick s else s))) := by
  simp only [tickPasses, h, if_true]

theorem tickPasses_elapsed {s : State} (h : s.powered = true) : (tickPasses s).tb.elapsed = s.tb.elapsed + 1 := by
  rw [tickPasses_powered h, (clearedStarts_only _).elapsed_eq rfl, (bridgeTick_only _).elapsed_eq rfl]
  show (if awake s then finishTick s else s).tb.elapsed + 1 = _
  split
  · rw [finishTick_elapsed]
  · rfl

/-- Time and the bridge go on, and nothing else does where no START is due. -/
theorem advance_bridgeTick_only (s : State) : Only [.time, .bridge] s (bridgeTick (advance s)) :=
  ((advance_only s).mono rfl).via (bridgeTick_only _) rfl

theorem clearedStarts_after {s : State} (h : ∀ d, (stage s d).startDue = none) :
    clearedStarts (bridgeTick (advance s)) = bridgeTick (advance s) :=
  clearedStarts_none fun d => by rw [(advance_bridgeTick_only s).stage_eq rfl, h d]

/-- The end of the tick judges every time that ran out. -/
theorem endTimes_late (s : State) : (endTimes s).late = [] := by
  unfold endTimes
  rw [show ∀ u, (lateRequests u).late = u.late from fun u => (lateRequests_only u).keeps .late rfl]
  split
  next h => exact List.isEmpty_iff.1 h
  next => exact foldl_keeps (f := State.late) (fun s l => (timeOver_only l s).keeps .late rfl) _ _

theorem endTick_late (s : State) : (endTick s).late = [] := by
  have h : (settle s).late = [] := Eq.trans ((serveOwed_only _).keeps .late rfl) (endTimes_late _)
  unfold endTick
  split
  · exact h
  · exact Eq.trans ((keepSeen_only s _).keeps .late rfl) h

theorem finishTick_only_ports (s : State) :
    Only [.ports, .seat] (endTick (i3cData (i3cFetch s))) (finishTick s) := by
  have h := (formAnswers_only (endTick (i3cData (i3cFetch s)))).mono (l := [.ports, .seat]) rfl
  exact Only.ite h (h.via (State.setPorts_only _ _) rfl)

theorem tickPasses_late {s : State} (h : awake s = true) : (tickPasses s).late = [] := by
  rw [tickPasses_powered (awake_powered h), if_pos h]
  exact Eq.trans ((clearedStarts_only _).keeps .late rfl) (Eq.trans ((advance_bridgeTick_only _).keeps .late rfl)
    (Eq.trans ((finishTick_only_ports s).keeps .late rfl) (endTick_late _)))

/-- A tick of an awake block from the end of the tick, where that leaves no START due. -/
theorem tickPasses_only_of_endTick {s u : State} (h : awake s = true) (hu : endTick (i3cData (i3cFetch s)) = u)
    (hstart : ∀ d, (stage u d).startDue = none) : Only [.time, .bridge, .ports, .seat] u (tickPasses s) := by
  subst hu
  have hfin := finishTick_only_ports s
  rw [tickPasses_powered (awake_powered h), if_pos h, clearedStarts_after fun d => by rw [hfin.stage_eq rfl, hstart d]]
  exact (hfin.mono rfl).via (advance_bridgeTick_only _) rfl

/-! ### A tick with nothing to bring -/

/-- The end of a tick in which nothing waits: the words of the I3C port and a missed sync word. -/
theorem endTick_quiet_only {s : State} (hlate : s.late = []) (howed : s.adcOwed = []) (hreqs : s.lnk.reqs = []) :
    Only [.bridge, .live, .regs] s (endTick s) := by
  have h : Only [.bridge, .live, .regs] s (settle s) := by
    rw [settle_quiet hlate howed hreqs]
    exact (missedSync_only _ _).mono rfl
  exact Only.ite h (h.via (keepSeen_only s _) rfl)

theorem quietTick_only {s : State} (hlate : s.late = []) (howed : s.adcOwed = []) (hreqs : s.lnk.reqs = [])
    (hdata : s.ports.target.data = none) :
    Only [.held, .bridge, .live, .regs, .ports, .flt] s (endTick (i3cData (i3cFetch s))) := by
  have hf := i3cFetch_only s
  rw [i3cData_none ((i3cFetch_data s).trans hdata)]
  exact (hf.mono rfl).via (endTick_quiet_only (Eq.trans (hf.keeps .late rfl) hlate) (Eq.trans (hf.keeps .adcOwed rfl) howed)
    (by rw [show (i3cFetch s).lnk = s.lnk from hf.keeps .lnk rfl, hreqs])) rfl

theorem tickPasses_tick {s : State} (h : awake s = true) (hf : Only [.held, .bridge, .live, .regs, .ports, .flt, .seat] s (finishTick s)) :
    (tickPasses s).tb.tick = if s.tb.running then s.tb.tick + 1 else s.tb.tick := by
  rw [tickPasses_powered (awake_powered h), if_pos h, ((clearedStarts_only _).keeps .time rfl).1,
    ((bridgeTick_only _).keeps .time rfl).1]
  have htick := (hf.keeps .time rfl).1
  have hrun := congrArg TimeBase.running (hf.keeps .tb rfl)
  dsimp only at hrun
  rw [← htick, ← hrun]
  rfl

theorem quietTick {s : State} (h : awake s = true) (hlate : s.late = []) (howed : s.adcOwed = []) (hreqs : s.lnk.reqs = [])
    (hdata : s.ports.target.data = none) (hstart : ∀ d, (stage s d).startDue = none) :
    (tickPasses s).tb.tick = (if s.tb.running then s.tb.tick + 1 else s.tb.tick) ∧
      Only [.time, .held, .bridge, .live, .regs, .ports, .flt, .seat] s (tickPasses s) := by
  have hq := quietTick_only hlate howed hreqs hdata
  exact ⟨tickPasses_tick h ((hq.mono rfl).via (finishTick_only_ports s) rfl),
    (hq.mono rfl).via (tickPasses_only_of_endTick h rfl fun d => by rw [hq.stage_eq rfl, hstart d]) rfl⟩

/-- A tick that a warm reset took. -/
theorem resetTick_only {s : State} (hp : s.powered = true) (h : awake s = false) (hstart : ∀ d, (stage s d).startDue = none) :
    Only [.time, .bridge] s (tickPasses s) := by
  rw [tickPasses_powered hp, if_neg (by simp [h]), clearedStarts_after hstart]
  exact advance_bridgeTick_only s

/-! ### A tick in which one time ran out -/

theorem slotOrder_nodup (s : State) : (slotOrder s).Nodup := by
  have h : ∀ (l : List Nat) (acc : List Nat), acc.Nodup →
      (l.foldl (fun l d => if l.contains d then l else l ++ [d]) acc).Nodup := by
    intro l
    induction l with
    | nil => exact fun _ h => h
    | cons d l ih =>
      intro acc hacc
      refine ih _ ?_
      dsimp only
      split
      · exact hacc
      next hd => exact List.nodup_append.2 ⟨hacc, List.nodup_singleton d, by simpa using fun a ha (e : a = d) => hd (by simpa [e] using ha)⟩
  exact h _ [] List.nodup_nil

/-- Each time has one place in the order. -/
theorem lateOrder_nodup (s : State) : (lateOrder s).Nodup := by
  have hmap : ∀ {f : Nat → Late} (n : Nat), (∀ x y, f x = f y → x = y) → ((List.range n).map f).Nodup :=
    fun n hf => List.nodup_range.map hf
  have hpush := hmap 4 fun x y => Late.push.inj
  have hidle := hmap (groupCount s.params) fun x y => Late.idle.inj
  have huv := hmap 4 fun x y => Late.uv.inj
  have hpg := hmap 4 fun x y => Late.pg.inj
  have hover := hmap 80 fun x y => Late.overload.inj
  have hspare := hmap (4 * sectors s) fun x y => Late.spare.inj
  have hquiet : ((slotOrder s).map Late.quiet).Nodup := (slotOrder_nodup s).map fun x y => Late.quiet.inj
  unfold lateOrder upto
  simp [List.nodup_append, hpush, hidle, huv, hpg, hover, hspare, hquiet, or_imp, forall_and]

/-- With one time run out, the end of the tick judges that one. -/
theorem lateOrder_filter {s : State} {l : Late} (h : l ∈ lateOrder s) : (lateOrder s).filter [l].contains = [l] := by
  have hc : [l].contains = (· == l) := by
    funext x
    simp [beq_eq_decide]
  rw [hc, List.filter_beq, List.count_eq_one_of_mem (lateOrder_nodup s) h]
  rfl

theorem endTimes_one {s : State} {l : Late} (h : l ∈ lateOrder s) (hl : s.late = [l]) :
    endTimes s = lateRequests (timeOver l (s.setLate [])) := by
  unfold endTimes
  rw [hl, lateOrder_filter h]
  rfl

/-- Settles O2: the steps of a tick, where nothing waits for its end and where one time ran out in it. -/
theorem idleStepIsOneTick : Obligations.IdleStepIsOneTick := by
  constructor
  · intro s hq
    refine ⟨_, step_ticks hq, tickPasses_elapsed, fun h => ⟨tickPasses_late h, fun h1 h2 h3 h4 h5 => quietTick h h1 h2 h3 h4 h5⟩,
      resetTick_only, fun h => ?_⟩
    simp only [tickPasses, h, Bool.false_eq_true, if_false]
  · intro s l hq h hl hlate howed hseen hfetch hdata hsync hstart
    have hend : endTick (i3cData (i3cFetch s)) = serveOwed (lateRequests (timeOver l (s.setLate []))) := by
      rw [i3cFetch_none hfetch, i3cData_none hdata, endTick_unseen hseen, settle, missedSync_none hsync, endTimes_one hl hlate]
    exact ⟨_, step_ticks hq, tickPasses_only_of_endTick h hend hstart⟩

end Sys2Proof.Machine
end

section
/-! SUPPORT. One word of the register pages: what the tables say of it, and what a permitted access of it comes to. -/

namespace Sys2Proof.Machine

/-! ### What the tables say of a word -/

/-- The low half of the counter is no word that an access can write or clear; nor is the high half. -/
theorem placed_tickLo (p : Params) :
    (placed p (tbO Reg.TB_TICK_LO)).map (fun x => (x.1.acc, x.1.result)) = some (.ro, false) := rfl

theorem placed_tickHi (p : Params) :
    (placed p (tbO Reg.TB_TICK_HI)).map (fun x => (x.1.acc, x.1.result)) = some (.ro, false) := rfl

theorem findRow_mem {rs : List Row} {o : Nat} {x : Row × Nat} (h : findRow rs o = some x) : x.1 ∈ rs := by
  induction rs with
  | nil => cases h
  | cons r rs ih =>
    unfold findRow at h
    split at h
    · cases h; exact List.mem_cons_self
    · exact List.mem_cons_of_mem _ (ih h)

theorem regAt_row {p : Params} {off k i : Nat} {r : Row} {t : PageType} (h : regAt p off = some (r, k, t, i)) :
    r = fltMaskRow ∨ r ∈ RegTable.rows t := by
  unfold regAt at h
  split at h
  · cases h
  · split at h
    · cases h; exact .inl rfl
    · obtain ⟨x, hx, he⟩ := Option.map_eq_some_iff.1 h
      cases he
      exact .inr (findRow_mem hx)

theorem placed_regAt {p : Params} {off : Nat} {x : Row × Nat × PageType × Nat} (h : placed p off = some x) : regAt p off = some x := by
  unfold placed at h
  split at h
  next hr =>
    split at h
    · cases h
    · rw [hr]; exact h
  next => cases h

/-- A result register is read-only, and no read of it clears the whole. -/
theorem rows_result (t : PageType) : ∀ r ∈ RegTable.rows t, r.result = true → r.acc = .ro ∨ r.acc = .ros := by
  cases t <;> decide

theorem placed_result {p : Params} {off k i : Nat} {r : Row} {t : PageType} (h : placed p off = some (r, k, t, i))
    (hres : r.result = true) : r.acc = .ro ∨ r.acc = .ros := by
  rcases regAt_row (placed_regAt h) with rfl | hr
  · cases hres
  · exact rows_result t r hr hres

/-- A word that a permitted host access reads and writes: RW, or RWS by the secure master. -/
def Permitted (s : State) (a : Access) (r : Row) : Prop := r.acc = .rw ∨ r.acc = .rws ∧ secure s a = true

section
variable {s : State} {a : Access} {off k i : Nat} {r : Row} {t : PageType} (h : placed s.params off = some (r, k, t, i))
include h

/-- A writable word is not one of the counter's halves, clears nothing when it is read, and is no result. -/
theorem writable_plain (hr : r.acc = .rw ∨ r.acc = .rws) :
    off ≠ tbO Reg.TB_TICK_LO ∧ off ≠ tbO Reg.TB_TICK_HI ∧ rcWord s.params off = false ∧ resultWord s.params off = false := by
  have hres : r.result = false := by
    by_contra hn
    rcases placed_result h (by simpa using hn) with h1 | h1 <;> rcases hr with h2 | h2 <;> rw [h1] at h2 <;> cases h2
  refine ⟨?_, ?_, ?_, ?_⟩
  · rintro rfl
    have hlo := placed_tickLo s.params
    rw [h] at hlo
    rcases hr with h2 | h2 <;> simp [h2] at hlo
  · rintro rfl
    have hhi := placed_tickHi s.params
    rw [h] at hhi
    rcases hr with h2 | h2 <;> simp [h2] at hhi
  · rcases hr with h2 | h2 <;> simp [rcWord, h, h2]
  · simp [resultWord, h, hres]

theorem secureWord_of_placed : secureWord s off = (r.acc == .rws || (r.acc == .ros && !endedEnergy s t r.off k)) := by
  simp only [secureWord, h]

/-- A permitted access of a writable word is not counted. -/
theorem noteAccess_permitted (hp : Permitted s a r) :
    noteAccess a (secureWord s) [off] s = s ∧ noteAccess a (secureWrite s) [off] s = s := by
  rcases hp with hr | ⟨_, hs⟩
  · constructor
    · exact noteAccess_none (.inr (by simp [secureWord_of_placed h, hr]))
    · exact noteAccess_none (.inr (by simp [secureWrite, secureWord_of_placed h, h, hr]))
  · exact ⟨noteAccess_none (.inl hs), noteAccess_none (.inl hs)⟩

/-- A permitted write of a writable word stores it by its class. -/
theorem writeWord_permitted (hp : Permitted s a r) (bit : Option Nat) (w : Word) :
    writeWord a bit off w s = storeWord r.cls off bit w s := by
  rcases hp with hr | ⟨hr, hs⟩
  · simp only [writeWord, h, hr]
  · simp only [writeWord, h, hr, hs, when, if_true]

/-- A permitted read of a writable word returns what it reads as, and clears nothing. -/
theorem readWord_permitted (hp : Permitted s a r) (wide : Bool) (bit : Option Nat) :
    readWord a wide bit off s = (viewWord s a.port off, s) := by
  have hacc : r.acc = .rw ∨ r.acc = .rws := hp.imp id And.left
  obtain ⟨hlo, hhi, hrc, hres⟩ := writable_plain h hacc
  have hsec : (secureWord s off && !secure s a) = false := by
    rcases hp with hr | ⟨_, hs⟩
    · simp [secureWord_of_placed h, hr]
    · simp [hs]
  simp [readWord, hsec, hlo, hhi, hrc, hres, readEffect]

theorem viewWord_writable (hr : r.acc = .rw ∨ r.acc = .rws) (p : Port) : viewWord s p off =
    if r.cls = .imm then asRead s.params off (live s off)
    else asRead s.params off (if rdActive s p then activeOf s off else shadowOf s off) := by
  rcases hr with hr | hr <;> simp only [viewWord, h, hr]

end

/-! ### One response -/

theorem okNat_word (a : Access) (w : Word) (s : State) : okNat a w.toNat s = okWord a w s := by
  unfold okNat okWord
  rw [BitVec.ofNat_toNat]

theorem Permitted.respond {s : State} {a : Access} {r : Row} (h : Permitted s a r) (x : Response) :
    Permitted (respond a x s) a r := h.imp id (And.imp id fun hs => (secure_respond a x s).trans hs)

/-- A response leaves every register word. -/
theorem live_respond (a : Access) (x : Response) (s : State) (off : Nat) : live (respond a x s) off = live s off :=
  (respond_only a x s).live_eq rfl rfl off

theorem respond_regs (a : Access) (x : Response) (s : State) : (respond a x s).regs = s.regs := by
  unfold respond
  split <;> rfl

/-! ### Accesses of one permitted word -/

section
variable {s : State} {a : Access} {f : Form} {off k i : Nat} {r : Row} {t : PageType}
  (hawake : awake s = true) (hreach : reaches s a = true)
include hawake hreach

theorem exec_registerWrite (d : BitVec 64) (hf : wordForm32 f) : exec (.registerWrite a f d) s =
    .next (writeWord a none (canonical f.off.toNat) (d.setWidth 32)
      (respond a (.ok 0) (noteAccess a (secureWrite s) [canonical f.off.toNat] s))) := by
  obtain ⟨hfull, hw, halign, hoff⟩ := hf
  refine (act_runs hawake hreach).trans (congrArg _ ?_)
  rw [writeAccess_word hfull hw halign hoff]
  simp

theorem exec_registerRead (hf : wordForm32 f) {v : Word} {u : State}
    (hread : readWord a false none (canonical f.off.toNat) (noteAccess a (secureWord s) [canonical f.off.toNat] s) = (v, u)) :
    exec (.rcRegisterRead a f) s = .next (okWord a v u) ∧ exec (.resultRegisterRead a f) s = .next (okWord a v u) := by
  obtain ⟨hfull, hw, halign, hoff⟩ := hf
  have h : readAccess a f s = okWord a v u := by rw [readAccess_word hfull hw halign hoff, hread, okNat_word]
  exact ⟨(act_runs hawake hreach).trans (congrArg _ h), (act_runs hawake hreach).trans (congrArg _ h)⟩

variable (hf : wordForm32 f) (hoff : off = canonical f.off.toNat) (h : placed s.params off = some (r, k, t, i))
  (hp : Permitted s a r)
include hf hoff h hp

theorem registerWrite_permitted (d : BitVec 64) : exec (.registerWrite a f d) s =
    .next (storeWord r.cls off none (d.setWidth 32) (respond a (.ok 0) s)) := by
  rw [exec_registerWrite hawake hreach d hf, ← hoff, (noteAccess_permitted h hp).2,
    writeWord_permitted (by rwa [respond_params]) (hp.respond _)]

theorem registerRead_permitted : exec (.rcRegisterRead a f) s = .next (okWord a (viewWord s a.port off) s) := by
  refine (exec_registerRead hawake hreach hf ?_).1
  rw [← hoff, (noteAccess_permitted h hp).1, readWord_permitted h hp]

end

end Sys2Proof.Machine
end

section
/-! SUPPORT. What accesses of the register pages do: writes and reads of configuration words, refusals, reads that clear,
wide accesses, atomic adds, bit aliases, counters and snapshots. -/

namespace Sys2Proof.Machine

/-! ### Writes of a Shadow word -/

theorem Only.cfgB_eq {l : List Part} {s t : State} (h : Only l s t) (hp : l.contains .params = false)
    (ha : l.contains .active = false) (off i : Nat) : cfgB t off i = cfgB s off i := by
  unfold cfgB
  rw [h.cfg_eq hp ha]

theorem cfgB_respond (a : Access) (x : Response) (s : State) (off i : Nat) : cfgB (respond a x s) off i = cfgB s off i :=
  (respond_only a x s).cfgB_eq rfl rfl off i

theorem frozenNow_respond (a : Access) (x : Response) (s : State) : frozenNow (respond a x s) = frozenNow s := by
  unfold frozenNow now
  rw [respond_regs, respond_tb]

theorem shadowOf_respond (a : Access) (x : Response) (s : State) (off : Nat) : shadowOf (respond a x s) off = shadowOf s off :=
  (respond_only a x s).shadowOf_eq rfl rfl off

theorem pendWrite_keeps_active (off : Nat) (w : Word) (s : State) : (pendWrite off w s).regs.active = s.regs.active :=
  (pendWrite_only off w s).keeps .active rfl

theorem storeWord_shadow {s : State} {off : Nat} (h : (shareWord off && cfgB s (pwrO Reg.PWR_CTL) 0) = false) (bit : Option Nat)
    (w : Word) : storeWord .shadow off bit w s = pendWrite off (storedBits s.params off (newWord (shadowOf s off) bit w)) s := by
  simp only [storeWord, h, Bool.false_eq_true, if_false]

/-- A pending write behind the response to its access. -/
theorem pendWrite_respond (a : Access) (x : Response) (off : Nat) (w : Word) {s : State} (h : frozenNow s = none) :
    let t := pendWrite off w (respond a x s)
    shadowOf t off = w ∧ (∀ o, o ≠ off → shadowOf t o = shadowOf s o) ∧ t.regs.active = s.regs.active ∧
      t.regs.pend = s.regs.pend ++ [off] ∧ t.regs.crc = crcEntry s.regs.crc off w ∧ Only [.shadow, .regs, .live, .ports] s t := by
  obtain ⟨hsame, hother, hpend, hcrc⟩ := pendWrite_does off w (respond a x s) ((frozenNow_respond a x s).trans h)
  rw [respond_regs] at hpend hcrc
  refine ⟨hsame, fun o ho => (hother o ho).trans (shadowOf_respond a x s o), ?_, hpend, hcrc,
    ((respond_only a x s).mono rfl).via (pendWrite_only off w _) rfl⟩
  rw [pendWrite_keeps_active, respond_regs]

/-- Settles O10: a permitted write comes to `storeWord`, which refuses a share or leaves the word pending. -/
theorem shadowWrites : Obligations.ShadowWrites := by
  constructor
  · intro s a f d r k i pt off hawake hreach hf hoff hplaced hcls hp hshare hfrozen
    refine ⟨_, registerWrite_permitted hawake hreach hf hoff hplaced hp d, ?_⟩
    rw [hcls, storeWord_shadow (by rwa [cfgB_respond]), respond_params]
    obtain ⟨hsame, hother, hact, hpend, hcrc, honly⟩ := pendWrite_respond a (.ok 0) off (storedBits s.params off (d.setWidth 32)) hfrozen
    refine ⟨hsame, ?_, hpend, hcrc, hother, hact, honly⟩
    exact honly.activeOf_eq rfl rfl off
  · intro s a f d r k i pt off hawake hreach hf hoff hplaced hcls hp hshare hctl
    refine ⟨_, registerWrite_permitted hawake hreach hf hoff hplaced hp d, ?_⟩
    have hstore : storeWord r.cls off none (d.setWidth 32) (respond a (.ok 0) s) = refuse 0x04 (respond a (.ok 0) s) := by
      simp only [hcls, storeWord, cfgB_respond, hshare, hctl, Bool.and_self, if_true]
    rw [hstore]
    have honly := ((respond_only a (.ok 0) s).mono (l := [.live, .ports]) rfl).via (refuse_only 0x04 _) rfl
    refine ⟨honly.keeps .shadow rfl, honly.keeps .active rfl, (honly.regs_eq rfl).1, ?_⟩
    unfold refuse
    rw [field_bumpF _ _ _ _ (by decide) (by decide), live_respond]
    rfl

/-! ### Reads of a configuration word, and accesses of one canonical address -/

/-- Two accesses of one form whose offsets have one canonical address write one word, read one, and add to one. -/
theorem writeAccess_canonical {f g : Form} (hf : wordForm32 f) (hg : wordForm32 g) (h : canonical f.off.toNat = canonical g.off.toNat)
    (a : Access) (d : BitVec 128) (s : State) : writeAccess a f d s = writeAccess a g d s := by
  obtain ⟨hfull, hwidth, halign, hoff⟩ := hf
  obtain ⟨gfull, gwidth, galign, goff⟩ := hg
  rw [writeAccess_word hfull hwidth halign hoff, writeAccess_word gfull gwidth galign goff, h]

theorem readAccess_canonical {f g : Form} (hf : wordForm32 f) (hg : wordForm32 g) (h : canonical f.off.toNat = canonical g.off.toNat)
    (a : Access) (s : State) : readAccess a f s = readAccess a g s := by
  obtain ⟨hfull, hwidth, halign, hoff⟩ := hf
  obtain ⟨gfull, gwidth, galign, goff⟩ := hg
  rw [readAccess_word hfull hwidth halign hoff, readAccess_word gfull gwidth galign goff, h]

/-- A 32-bit atomic add comes to the read and the write of one word. -/
theorem addAccess_word {f : Form} (hf : wordForm32 f) (a : Access) (d : Nat) (s : State) :
    addAccess a f d s =
      (let x := readWord a false none (canonical f.off.toNat) (noteAccess a (secureWrite s) [canonical f.off.toNat] s)
       writeWord a none (canonical f.off.toNat) (BitVec.ofNat 32 (x.1.toNat + d)) (okWord a x.1 x.2)) := by
  obtain ⟨hfull, hw, halign, hoff⟩ := hf
  simp [addAccess, regionOf_regs hoff, formOk_word hfull hw halign, regWords_word hw, hw, readWords, writeWords, okNat_word]

theorem addAccess_canonical {f g : Form} (hf : wordForm32 f) (hg : wordForm32 g) (h : canonical f.off.toNat = canonical g.off.toNat)
    (a : Access) (d : Nat) (s : State) : addAccess a f d s = addAccess a g d s := by
  rw [addAccess_word hf, addAccess_word hg, h]

/-- Settles O11: by the words that an access comes to. -/
theorem shadowReads : Obligations.ShadowReads := by
  refine ⟨fun s a f r k i pt off hawake hreach hf hoff hplaced hcls hp => ?_, fun s a f g d hf hg h => ⟨?_, ?_, ?_⟩⟩
  · rw [registerRead_permitted hawake hreach hf hoff hplaced hp, viewWord_writable hplaced (hp.imp id And.left), if_neg hcls]
    rfl
  · exact congrArg (Machine.act s (reaches s a)) (writeAccess_canonical hf hg h a _ s)
  · exact congrArg (Machine.act s (reaches s a)) (readAccess_canonical hf hg h a s)
  · exact congrArg (Machine.act s (a.port == .fabric)) (addAccess_canonical hf hg h a _ s)

/-! ### Non-secure accesses -/

theorem noteAccess_counted {a : Access} {touch : Nat → Bool} {words : List Nat} {s : State} (hs : secure s a = false)
    (h : words.any touch = true) : noteAccess a touch words s = countNonsec a s := by
  simp only [noteAccess, hs, h, when, Bool.not_false, Bool.and_self, if_true]

theorem secure_countNonsec (a : Access) (s : State) : secure (countNonsec a s) a = secure s a := by
  unfold secure
  rw [show (countNonsec a s).ports = s.ports from (countNonsec_only a s).keeps .ports rfl]

theorem countNonsec_params (a : Access) (s : State) : (countNonsec a s).params = s.params :=
  (countNonsec_only a s).keeps .params rfl

/-- A secure-only word: RWS, or ROS where it is not the energy of a job that has ended. -/
theorem secureWord_only {s : State} {off k i : Nat} {r : Row} {t : PageType} (h : placed s.params off = some (r, k, t, i))
    (hr : r.acc = .rws ∨ r.acc = .ros ∧ endedEnergy s t r.off k = false) : secureWord s off = true := by
  rcases hr with hr | ⟨hr, he⟩
  · simp [secureWord_of_placed h, hr]
  · simp [secureWord_of_placed h, hr, he]

theorem Only.jobEnded_eq {l : List Part} {s t : State} (h : Only l s t) (hj : l.contains .jobs = false) (k : Nat) :
    jobEnded t k = jobEnded s k := by
  unfold jobEnded jobSlot
  rw [show t.jobs = s.jobs from h.keeps .jobs hj]

theorem secureWord_countNonsec (a : Access) (s : State) (off : Nat) : secureWord (countNonsec a s) off = secureWord s off := by
  unfold secureWord endedEnergy
  rw [countNonsec_params]
  simp only [(countNonsec_only a s).jobEnded_eq rfl]

/-- A write of a secure-only word by another than the secure master stores nothing. -/
theorem writeWord_secureOnly {s : State} {a : Access} {off k i : Nat} {r : Row} {t : PageType}
    (h : placed s.params off = some (r, k, t, i)) (hr : r.acc = .rws ∨ r.acc = .ros) (hs : secure s a = false) (bit : Option Nat)
    (w : Word) : writeWord a bit off w s = s := by
  rcases hr with hr | hr <;> simp [writeWord, h, hr, hs, when]

/-- Settles O12: both accesses are counted, and then neither writes nor reads the word. -/
theorem nonsecureAccesses : Obligations.NonsecureAccesses := by
  constructor
  · intro s a f d r k i pt off hawake hreach hf hoff hplaced hacc hs
    have hsec := secureWord_only hplaced hacc
    rw [exec_registerWrite hawake hreach d hf, ← hoff, noteAccess_counted hs (by simp [secureWrite, hsec]),
      writeWord_secureOnly (by rwa [respond_params, countNonsec_params]) (hacc.imp id And.left)
        (by rw [secure_respond, secure_countNonsec, hs])]
  · intro s a f r k i pt off hawake hreach hf hoff hplaced hacc hs
    have hsec := secureWord_only hplaced hacc
    refine (exec_registerRead hawake hreach hf (v := 0) (u := countNonsec a s) ?_).2
    rw [← hoff, noteAccess_counted hs (by simp [hsec]), readWord, secureWord_countNonsec, secure_countNonsec, hsec, hs]
    rfl

end Sys2Proof.Machine
end

section
/-! SUPPORT. Reads that clear what they show, accesses of two words and of bad form, atomic adds, single bits, counters and
snapshots. -/

namespace Sys2Proof.Machine

/-! ### What a read clears -/

/-- A word that a read clears is not one of the counter's halves, and no secure-only word. -/
theorem rcWord_plain {s : State} {off : Nat} (h : rcWord s.params off = true) :
    off ≠ tbO Reg.TB_TICK_LO ∧ off ≠ tbO Reg.TB_TICK_HI ∧ secureWord s off = false := by
  have hacc : ∀ r k t i, placed s.params off = some (r, k, t, i) → r.acc = .rc := fun r k t i hr => by
    simpa [rcWord, hr] using h
  refine ⟨?_, ?_, ?_⟩
  · rintro rfl
    obtain ⟨⟨r, k, t, i⟩, hr, he⟩ := Option.map_eq_some_iff.1 (placed_tickLo s.params)
    simp [hacc r k t i hr] at he
  · rintro rfl
    obtain ⟨⟨r, k, t, i⟩, hr, he⟩ := Option.map_eq_some_iff.1 (placed_tickHi s.params)
    simp [hacc r k t i hr] at he
  · cases hr : placed s.params off with
    | none => simp [secureWord, hr]
    | some x =>
      obtain ⟨r, k, t, i⟩ := x
      simp [secureWord_of_placed hr, hacc r k t i hr]

/-- The state after a read of an RC word: its reset value, and a note where the end of the tick has something to bring. -/
def cleared (off : Nat) (s : State) : State := noteSeen off none (pendSeen off none (setLive off (resetAt s.params off) s))

theorem readWord_rc {s : State} {off : Nat} (h : rcWord s.params off = true) (a : Access) :
    readWord a false none off s = (viewWord (shownBy s off none) a.port off, cleared off s) := by
  obtain ⟨hlo, hhi, hsec⟩ := rcWord_plain h
  simp [readWord, readEffect, hlo, hhi, hsec, h, cleared]

theorem cleared_only_after (off : Nat) (s : State) :
    Only [.regs, .flt] (setLive off (resetAt s.params off) s) (cleared off s) :=
  ((pendSeen_only off none _).mono rfl).via (noteSeen_only off none _) rfl

theorem live_cleared_same (off : Nat) (s : State) : live (cleared off s) off = resetAt s.params off := by
  rw [(cleared_only_after off s).live_eq rfl rfl, live_setLive_same]

theorem live_cleared_other {off o : Nat} (ho : o ≠ off) (s : State) : live (cleared off s) o = live s o := by
  rw [(cleared_only_after off s).live_eq rfl rfl, live_setLive_other _ _ _ _ ho]

/-- What waits for the end of the tick is in none of the parts that a read clears. -/
theorem Only.waiting_eq {l : List Part} {s t : State} (h : Only l s t)
    (hl : within l [.held, .live, .regs, .ports, .flt] = true) : waiting t = waiting s := by
  have h' := h.mono hl
  have hlate : t.late = s.late := h'.keeps .late rfl
  have howed : t.adcOwed = s.adcOwed := h'.keeps .adcOwed rfl
  have hlnk : t.lnk = s.lnk := h'.keeps .lnk rfl
  have hbridge : t.bridge = s.bridge := h'.keeps .bridge rfl
  have hboot : t.boot = s.boot := h'.keeps .boot rfl
  have htime : t.tb.elapsed = s.tb.elapsed := h'.elapsed_eq rfl
  unfold waiting syncMissed bridged now
  rw [hlate, howed, hlnk, hbridge, hboot, htime]

theorem seen_cleared {s : State} {off : Nat} (h : waiting s = true) : (off, none) ∈ (cleared off s).regs.seen := by
  have hw : waiting (pendSeen off none (setLive off (resetAt s.params off) s)) = true := by
    rw [(pendSeen_only off none _).waiting_eq rfl, (setLive_only off _ s).waiting_eq rfl, h]
  unfold cleared noteSeen
  rw [hw]
  exact List.mem_append_right _ (List.mem_singleton_self _)

theorem shownBy_idle {s : State} (h : waiting s = false) (off : Nat) (bit : Option Nat) : shownBy s off bit = s := by
  simp [shownBy, h]

theorem shownBy_waiting {s : State} {off : Nat} {bit : Option Nat} (h : waiting s = true) (hseen : wasSeen s off bit = false) :
    shownBy s off bit = settle s := by
  simp [shownBy, h, hseen]

/-- What a read of the tick has cleared stays as the read left it. -/
theorem endTick_seen {s : State} {off : Nat} (h : s.regs.seen = [(off, none)]) :
    live (endTick s) off = live s off ∧ (endTick s).regs.seen = [] := by
  have he : endTick s = modRegs (fun r => { r with seen := [] }) (setLive off (live s off) (settle s)) := by
    simp [endTick, keepSeen, h]
  rw [he]
  exact ⟨live_setLive_same _ _ _, rfl⟩

/-- A permitted read of a result register returns it and clears `VALID`. -/
theorem readWord_result {s : State} {a : Access} {off : Nat} (h : resultWord s.params off = true)
    (hsec : secureWord s off = true → secure s a = true) :
    readWord a false none off s = (viewWord s a.port off, setField off 31 31 0 s) := by
  cases hr : placed s.params off with
  | none => simp [resultWord, hr] at h
  | some x =>
    obtain ⟨r, k, t, i⟩ := x
    have hres : r.result = true := by simpa [resultWord, hr] using h
    have hrc : rcWord s.params off = false := by
      rcases placed_result hr hres with hacc | hacc <;> simp [rcWord, hr, hacc]
    have hlo : off ≠ tbO Reg.TB_TICK_LO := by
      rintro rfl
      have := placed_tickLo s.params
      simp [hr, hres] at this
    have hhi : off ≠ tbO Reg.TB_TICK_HI := by
      rintro rfl
      have := placed_tickHi s.params
      simp [hr, hres] at this
    have hok : (secureWord s off && !secure s a) = false := by
      cases hw : secureWord s off with
      | false => rfl
      | true => simp [hsec hw]
    simp [readWord, readEffect, hok, hlo, hhi, hrc, h]

theorem live_okWord (a : Access) (w : Word) (s : State) (off : Nat) : live (okWord a w s) off = live s off :=
  live_respond a _ s off

/-- Settles O13: by what `readWord` returns and leaves for each of the three kinds of word. -/
theorem readsThatClear : Obligations.ReadsThatClear := by
  refine ⟨⟨fun s a f off hawake hreach hf hoff hrc => ?_, fun s off h => endTick_seen h⟩, fun s a other hawake hreach => ?_,
    fun s a f off hawake hreach hf hoff hres hsec => ?_⟩
  · have hnote : noteAccess a (secureWord s) [off] s = s := noteAccess_none (.inr (by simp [(rcWord_plain hrc).2.2]))
    refine ⟨_, (exec_registerRead hawake hreach hf (by rw [← hoff, hnote, readWord_rc hrc])).1, fun hw => ?_, fun hw hseen => ?_,
      fun hw => ?_, ?_, fun o ho => ?_⟩
    · rw [responseOf_okWord, shownBy_idle hw]
    · rw [responseOf_okWord, shownBy_waiting hw hseen]
    · rw [okWord, respond_regs]
      exact seen_cleared hw
    · rw [live_okWord, live_cleared_same]
    · rw [live_okWord, live_cleared_other ho]
  · refine ⟨_, act_runs hawake hreach, responseOf_okWord .., ?_, ((setLive_only _ _ s).mono rfl).via (okWord_only a _ _) rfl⟩
    rw [live_okWord, live_setLive_same]
  · have hnote : noteAccess a (secureWord s) [off] s = s := noteAccess_none (by
      cases hw : secureWord s off with
      | false => exact .inr (by simp [hw])
      | true => exact .inl (hsec hw))
    refine ⟨_, (exec_registerRead hawake hreach hf (by rw [← hoff, hnote, readWord_result hres hsec])).2,
      responseOf_okWord .., ?_, fun o ho => ?_⟩
    · rw [live_okWord, live_setField_same]
    · rw [live_okWord, live_setField_other _ _ _ _ _ _ ho]

/-! ### Accesses of two words and of bad form -/

theorem regionOf_unmapped {f : Form} (h : 0x104000 ≤ f.off.toNat ∧ f.off.toNat < 0x200000 ∨
    0x240000 ≤ f.off.toNat ∧ f.off.toNat < 0x400000 ∨ 0x480000 ≤ f.off.toNat ∧ f.off.toNat < 0x800000) :
    regionOf f = .unmapped := by
  unfold regionOf
  dsimp only
  split_ifs <;> first | rfl | omega

/-- An access of the register pages in bad form, or outside every range. -/
def BadForm (f : Form) : Prop :=
  f.off.toNat < 0x100000 ∧ formOk f [32, 64] = false ∨ 0x104000 ≤ f.off.toNat ∧ f.off.toNat < 0x200000 ∨
    0x240000 ≤ f.off.toNat ∧ f.off.toNat < 0x400000 ∨ 0x480000 ≤ f.off.toNat ∧ f.off.toNat < 0x800000

theorem writeAccess_badForm {f : Form} (h : BadForm f) (a : Access) (d : BitVec 128) (s : State) :
    writeAccess a f d s = formError a s := by
  rcases h with ⟨hoff, hform⟩ | h
  · simp [writeAccess, regionOf_regs hoff, writeRegs, hform]
  · simp [writeAccess, regionOf_unmapped h]

theorem readAccess_badForm {f : Form} (h : BadForm f) (a : Access) (s : State) : readAccess a f s = formError a s := by
  rcases h with ⟨hoff, hform⟩ | h
  · simp [readAccess, regionOf_regs hoff, readRegs, hform]
  · simp [readAccess, regionOf_unmapped h]

theorem addAccess_badForm {f : Form} (h : BadForm f) (a : Access) (d : Nat) (s : State) : addAccess a f d s = formError a s := by
  rcases h with ⟨hoff, hform⟩ | h
  · simp [addAccess, hform]
  · simp [addAccess, regionOf_unmapped h]

/-- A 64-bit register write comes to the writes of its two words, the lower first. -/
theorem writeAccess_wide {f : Form} (hfull : f.full = true) (hw : f.width = 64) (halign : f.off.toNat % 8 = 0)
    (hoff : f.off.toNat < 0x100000) (a : Access) (d : BitVec 64) (s : State) :
    writeAccess a f (d.setWidth 128) s =
      writeWord a none (canonical (f.off.toNat + 4)) ((d >>> 32).setWidth 32)
        (writeWord a none (canonical f.off.toNat) (d.setWidth 32)
          (respond a (.ok 0) (noteAccess a (secureWrite s) [canonical f.off.toNat, canonical (f.off.toNat + 4)] s))) := by
  have hform : formOk f [32, 64] = true := by simp [formOk, hfull, hw, halign]
  have hwords : regWords f = [canonical f.off.toNat, canonical (f.off.toNat + 4)] := by simp [regWords, hw]
  have hlow : BitVec.ofNat 32 (d.setWidth 128).toNat = d.setWidth 32 := by
    apply BitVec.eq_of_toNat_eq
    simp
  have hhigh : BitVec.ofNat 32 ((d.setWidth 128).toNat / 0x100000000) = (d >>> 32).setWidth 32 := by
    apply BitVec.eq_of_toNat_eq
    simp [Nat.shiftRight_eq_div_pow]
    omega
  simp only [writeAccess, regionOf_regs hoff, writeRegs, hform, hwords, if_true, writeWords, hlow, hhigh]

/-- Settles O14. -/
theorem accessForms : Obligations.AccessForms := by
  refine ⟨fun s a f d hawake hreach hfull hw halign hoff => ?_, fun s a f d hawake hreach h => ⟨?_, ?_, ?_, fun hport => ?_⟩⟩
  · exact (act_runs hawake hreach).trans (congrArg _ (writeAccess_wide hfull hw halign hoff a d s))
  · exact (act_runs hawake hreach).trans (congrArg _ (writeAccess_badForm h a _ s))
  · exact (act_runs hawake hreach).trans (congrArg _ (readAccess_badForm h a s))
  · exact (act_runs hawake hreach).trans (congrArg _ (readAccess_badForm h a s))
  · exact (act_runs hawake (by simp [hport])).trans (congrArg _ (addAccess_badForm h a _ s))

/-! ### Atomic adds and single bits -/

theorem storeWord_imm (off : Nat) (bit : Option Nat) (w : Word) (s : State) :
    storeWord .imm off bit w s = setLive off (storedBits s.params off (newWord (live s off) bit w)) s := rfl

/-- A 32-bit access of the bit window of good form that names bit `b` of the word at `off`. -/
structure NamesBit (f : Form) (off b : Nat) : Prop where
  full : f.full = true
  width : f.width = 32
  aligned : f.off.toNat % 4 = 0
  window : 0x800000 ≤ f.off.toNat
  names : aliasOf f = (off, b)

/-- A write through the bit window comes to the write of the bit that it names. -/
theorem exec_bitAliasWrite {s : State} {a : Access} {f : Form} {off b : Nat} (hawake : awake s = true) (hreach : reaches s a = true)
    (h : NamesBit f off b) (d : Word) : exec (.bitAliasWrite a f d) s =
      .next (writeWord a (some b) off d (respond a (.ok 0) (noteAccess a (secureWrite s) [off] s))) := by
  have hform : formOk f [32] = true := by simp [formOk, h.full, h.width, h.aligned]
  have hok : (reaches s a && regionOf f == .bits) = true := by simp [hreach, regionOf_bits h.window]
  exact (act_runs hawake hok).trans (congrArg _ (writeAlias_bit hform h.names a d))

theorem bitAliasWrite_permitted {s : State} {a : Access} {f : Form} {off b k i : Nat} {r : Row} {t : PageType}
    (hawake : awake s = true) (hreach : reaches s a = true) (h : NamesBit f off b)
    (hplaced : placed s.params off = some (r, k, t, i)) (hp : Permitted s a r) (d : Word) :
    exec (.bitAliasWrite a f d) s = .next (storeWord r.cls off (some b) d (respond a (.ok 0) s)) := by
  rw [exec_bitAliasWrite hawake hreach h d, (noteAccess_permitted hplaced hp).2,
    writeWord_permitted (by rwa [respond_params]) (hp.respond _)]

/-- A write of a command register is the secure master's command. -/
theorem writeWord_command {s : State} {a : Access} {off k i : Nat} {r : Row} {t : PageType}
    (hplaced : placed s.params off = some (r, k, t, i)) (hacc : r.acc = .wo ∨ r.acc = .w1p) (hs : secure s a = true)
    (bit : Option Nat) (w : Word) : writeWord a bit off w s = commandWord t i r.off bit w s := by
  rcases hacc with hacc | hacc <;> simp [writeWord, hplaced, hacc, hs, when]

/-- A word of which bit `b` alone is set, in the form in which an access carries it. -/
theorem put_bit_zero (b : Nat) : (0 : Word).put b b 1 = (((1 <<< b : Nat) : BitVec 64)).setWidth 32 := by
  apply BitVec.eq_of_toNat_eq
  simp [Word.put, Word.field, Nat.shiftLeft_eq]

/-- A 1 written to a bit of a command register acts as a write of that bit alone. -/
theorem commandWord_pulse {t : PageType} {o : Nat} (h : t ≠ .gen ∨ o ≠ Reg.GEN_SEAL) {w : Word} (hw : w.bit 0 = true) (i b : Nat)
    (s : State) : commandWord t i o (some b) w s = commandWord t i o none (newWord 0 (some b) w) s := by
  have hn : ¬ (t = .gen ∧ o = Reg.GEN_SEAL) := fun hc => h.elim (· hc.1) (· hc.2)
  simp [commandWord, hn, hw]

/-- A 0 written to a bit of a command register does nothing, where no page counts it. -/
theorem commandWord_zero {t : PageType} {o : Nat} (h : t ≠ .gen ∨ o ≠ Reg.GEN_SEAL) (hhost : t ≠ .host) (hseat : t ≠ .seat) {w : Word}
    (hw : w.bit 0 = false) (i b : Nat) (s : State) : commandWord t i o (some b) w s = s := by
  have hn : ¬ (t = .gen ∧ o = Reg.GEN_SEAL) := fun hc => h.elim (· hc.1) (· hc.2)
  simp [commandWord, hn, hw, hhost, hseat]

theorem addAccess_sum (v : Word) (d : BitVec 64) : BitVec.ofNat 32 (v.toNat + d.toNat) = v + d.setWidth 32 := by
  apply BitVec.eq_of_toNat_eq
  simp [Nat.add_mod]

/-- Settles O15: an add and a write of one bit come to `storeWord`, and of a command register to the command. -/
theorem atomicAddsAndAliases : Obligations.AtomicAddsAndAliases := by
  refine ⟨fun s a f d r k i pt off hawake hport hf hoff hplaced hcls hp => ?_,
    fun s a f d r k i pt off b hawake hreach hfull hw halign hwin hname hplaced hp => ⟨fun hcls hshare hfrozen => ?_, fun hcls => ?_⟩,
    fun s a f g d r k i pt off b hawake hreach hs hfull hw halign hwin hname hplaced hacc hseal => ⟨fun hg hcan => ?_, fun hhost hseat hd => ?_⟩⟩
  · have hview : viewWord s a.port off = asRead s.params off (live s off) := by
      rw [viewWord_writable hplaced (hp.imp id And.left), if_pos hcls]
    have hadd : addAccess a f d.toNat s = setLive off (storedBits s.params off (asRead s.params off (live s off) + d.setWidth 32))
        (okWord a (asRead s.params off (live s off)) s) := by
      have hp' : Permitted (okWord a (asRead s.params off (live s off)) s) a r := Permitted.respond hp _
      rw [addAccess_word hf, ← hoff, (noteAccess_permitted hplaced hp).2, readWord_permitted hplaced hp, hview]
      dsimp only
      rw [writeWord_permitted (by rwa [okWord, respond_params]) hp', hcls, storeWord_imm, okWord, respond_params, addAccess_sum]
      rfl
    refine ⟨_, (act_runs hawake (by simp [hport])).trans (congrArg _ hadd), ?_, ?_, fun o ho => ?_⟩
    · exact (responseOf_fabric hport _).symm.trans (responseOf_okWord a _ s)
    · rw [live_setLive_same]
    · rw [live_setLive_other _ _ _ _ ho, live_okWord]
  · refine ⟨_, bitAliasWrite_permitted hawake hreach ⟨hfull, hw, halign, hwin, hname⟩ hplaced hp d, ?_⟩
    rw [hcls, storeWord_shadow (by simp [hshare]), respond_params, shadowOf_respond]
    obtain ⟨hsame, hother, hact, hpend, -, -⟩ :=
      pendWrite_respond a (.ok 0) off (storedBits s.params off ((shadowOf s off).put b b (d.toNat % 2))) hfrozen
    exact ⟨hsame, hact, hpend, hother⟩
  · refine ⟨_, bitAliasWrite_permitted hawake hreach ⟨hfull, hw, halign, hwin, hname⟩ hplaced hp d, ?_⟩
    rw [hcls, storeWord_imm, respond_params, live_respond]
    exact ⟨live_setLive_same _ _ _, fun o ho => (live_setLive_other _ _ _ _ ho).trans (live_respond a _ s o),
      ((respond_only a _ s).mono rfl).via (setLive_only _ _ _) rfl⟩
  · have hb : NamesBit f off b := ⟨hfull, hw, halign, hwin, hname⟩
    have hplaced' : placed (respond a (.ok 0) s).params off = some (r, k, pt, i) := by rwa [respond_params]
    have hs' : secure (respond a (.ok 0) s) a = true := (secure_respond a _ s).trans hs
    rw [exec_bitAliasWrite hawake hreach hb, exec_registerWrite hawake hreach _ hg, hcan, noteAccess_none (.inl hs),
      writeWord_command hplaced' hacc hs', writeWord_command hplaced' hacc hs', commandWord_pulse hseal (by decide)]
    exact congrArg (fun w => Host.Outcome.next (commandWord pt i r.off none w _)) (put_bit_zero b)
  · rw [exec_bitAliasWrite hawake hreach ⟨hfull, hw, halign, hwin, hname⟩, noteAccess_none (.inl hs),
      writeWord_command (by rwa [respond_params]) hacc ((secure_respond a _ s).trans hs), commandWord_zero hseal hhost hseat hd]

/-! ### Counters and snapshots -/

theorem bumpBy_toNat (off n : Nat) (s : State) :
    (live (bumpBy off n s) off).toNat = Nat.min ((live s off).toNat + n) 0xFFFFFFFF := by
  rw [live_bumpBy, BitVec.toNat_ofNat]
  exact Nat.mod_eq_of_lt (Nat.lt_of_le_of_lt (Nat.min_le_right _ _) (by decide))

theorem live_bumpBy_other {off o : Nat} (ho : o ≠ off) (n : Nat) (s : State) : live (bumpBy off n s) o = live s o :=
  live_setLive_other _ _ _ _ ho

/-- Words written one after another: one that the list does not name stays. -/
theorem live_foldl_other (l : List (Nat × Word)) {o : Nat} (ho : o ∉ l.map (·.1)) (s : State) :
    live (l.foldl (fun s e => setLive e.1 e.2 s) s) o = live s o := by
  induction l generalizing s with
  | nil => rfl
  | cons e l ih =>
    simp only [List.map_cons, List.mem_cons, not_or] at ho
    rw [List.foldl_cons, ih ho.2, live_setLive_other _ _ _ _ ho.1]

/-- A word that the list gives one value reads as that value. -/
theorem live_foldl_same (l : List (Nat × Word)) {o : Nat} {v : Word} (h : (o, v) ∈ l) (huniq : ∀ w, (o, w) ∈ l → w = v) (s : State) :
    live (l.foldl (fun s e => setLive e.1 e.2 s) s) o = v := by
  induction l generalizing s with
  | nil => cases h
  | cons e l ih =>
    rw [List.foldl_cons]
    by_cases hl : o ∈ l.map (·.1)
    · obtain ⟨⟨o', w⟩, hmem, rfl⟩ := List.mem_map.1 hl
      have hw : w = v := huniq w (List.mem_cons_of_mem _ hmem)
      exact ih (hw ▸ hmem) (fun w hw => huniq w (List.mem_cons_of_mem _ hw)) _
    · rw [live_foldl_other l hl]
      rcases List.mem_cons.1 h with rfl | hmem
      · exact live_setLive_same _ _ _
      · exact absurd (List.mem_map_of_mem hmem) hl

/-- Every counter's copy taken. -/
def copied (s : State) : State := (snapWords s).foldl (fun s e => setLive e.1 e.2 s) s

/-- The copies with the tick that they were taken in, before the snapshot itself is counted. -/
def snapped (s : State) : State := modRegs (fun r => { r with snapAt := some (now s) }) (copied s)

theorem modRegs_live_eq (f : Regs → Regs) (s : State) (h : (f s.regs).live = s.regs.live) (o : Nat) :
    live (modRegs f s) o = live s o := by
  unfold live modRegs
  rw [State.setRegs_params, State.setRegs_regs, h]

theorem live_snapped (s : State) (o : Nat) : live (snapped s) o = live (copied s) o := modRegs_live_eq _ _ rfl o

theorem snapshot_first {s : State} (h : s.regs.snapAt ≠ some (now s)) :
    snapshot s = setLive (genO Reg.GEN_SNAPSEQ) (live s (genO Reg.GEN_SNAPSEQ) + 1) (snapped s) := by
  rw [snapshot, if_neg h]
  rfl

theorem snapshot_again {s : State} (h : s.regs.snapAt = some (now s)) : snapshot s = s := by
  rw [snapshot, if_pos h]

/-- Settles O16: `setLive` writes one word, and a snapshot is a fold of it. -/
theorem countersAndSnapshots : Obligations.CountersAndSnapshots := by
  refine ⟨fun off n s => ⟨bumpBy_toNat off n s, fun o ho => live_bumpBy_other ho n s, bumpBy_only off n s⟩,
    fun s a hawake hreach hsnap => ⟨respond a (.ok 0) (snapshot s), act_runs hawake hreach, ?_, ?_, fun o v hmem huniq ho => ?_, fun o hmem ho => ?_,
      ((snapshot_only s).mono rfl).via (respond_only a _ _) rfl⟩, fun s a hawake hreach hsnap => ?_⟩
  · rw [live_respond, snapshot_first hsnap, live_setLive_same]
  · rw [respond_regs, snapshot_first hsnap]
    rfl
  · rw [live_respond, snapshot_first hsnap, live_setLive_other _ _ _ _ ho, live_snapped, copied, live_foldl_same _ hmem huniq]
  · rw [live_respond, snapshot_first hsnap, live_setLive_other _ _ _ _ ho, live_snapped, copied, live_foldl_other _ hmem]
  · exact (act_runs hawake hreach).trans (congrArg (fun u => Host.Outcome.next (respond a (.ok 0) u)) (snapshot_again hsnap))

end Sys2Proof.Machine
end

section
/-! SUPPORT. The numbered units of the state: what each of them is after a write of it, after a write of another, and under a
frame; and the fault sources that a state registers. -/

namespace Sys2Proof.Machine

/-! ### A unit after a write -/

@[simp] theorem cell_setCell_same (n : Nat) (x : Cell) (s : State) : cell (setCell n x s) n = x := Store.get_set_same _ _ _ _

theorem cell_setCell_other {m n : Nat} (h : m ≠ n) (x : Cell) (s : State) : cell (setCell n x s) m = cell s m :=
  Store.get_set_other _ _ _ _ _ _ h

@[simp] theorem cell_modCell_same (n : Nat) (f : Cell → Cell) (s : State) : cell (modCell n f s) n = f (cell s n) :=
  cell_setCell_same _ _ _

theorem cell_modCell_other {m n : Nat} (h : m ≠ n) (f : Cell → Cell) (s : State) : cell (modCell n f s) m = cell s m :=
  cell_setCell_other h _ _

@[simp] theorem clu_setClu_same (n : Nat) (x : Cluster) (s : State) : clu (setClu n x s) n = x := Store.get_set_same _ _ _ _

theorem clu_setClu_other {m n : Nat} (h : m ≠ n) (x : Cluster) (s : State) : clu (setClu n x s) m = clu s m :=
  Store.get_set_other _ _ _ _ _ _ h

@[simp] theorem clu_modClu_same (n : Nat) (f : Cluster → Cluster) (s : State) : clu (modClu n f s) n = f (clu s n) :=
  clu_setClu_same _ _ _

theorem clu_modClu_other {m n : Nat} (h : m ≠ n) (f : Cluster → Cluster) (s : State) : clu (modClu n f s) m = clu s m :=
  clu_setClu_other h _ _

@[simp] theorem sec_setSec_same (n : Nat) (x : Sector) (s : State) : sec (setSec n x s) n = x := Store.get_set_same _ _ _ _

theorem sec_setSec_other {m n : Nat} (h : m ≠ n) (x : Sector) (s : State) : sec (setSec n x s) m = sec s m :=
  Store.get_set_other _ _ _ _ _ _ h

@[simp] theorem sec_modSec_same (n : Nat) (f : Sector → Sector) (s : State) : sec (modSec n f s) n = f (sec s n) :=
  sec_setSec_same _ _ _

theorem sec_modSec_other {m n : Nat} (h : m ≠ n) (f : Sector → Sector) (s : State) : sec (modSec n f s) m = sec s m :=
  sec_setSec_other h _ _

@[simp] theorem stage_setStage_same (n : Nat) (x : Stage) (s : State) : stage (setStage n x s) n = x := Store.get_set_same _ _ _ _

theorem stage_setStage_other {m n : Nat} (h : m ≠ n) (x : Stage) (s : State) : stage (setStage n x s) m = stage s m :=
  Store.get_set_other _ _ _ _ _ _ h

@[simp] theorem stage_modStage_same (n : Nat) (f : Stage → Stage) (s : State) : stage (modStage n f s) n = f (stage s n) :=
  stage_setStage_same _ _ _

theorem stage_modStage_other {m n : Nat} (h : m ≠ n) (f : Stage → Stage) (s : State) : stage (modStage n f s) m = stage s m :=
  stage_setStage_other h _ _

@[simp] theorem stgCh_setCh_same (n : Nat) (x : StgCh) (s : State) : stgCh (setCh n x s) n = x := Store.get_set_same _ _ _ _

theorem stgCh_setCh_other {m n : Nat} (h : m ≠ n) (x : StgCh) (s : State) : stgCh (setCh n x s) m = stgCh s m :=
  Store.get_set_other _ _ _ _ _ _ h

@[simp] theorem stgCh_modCh_same (n : Nat) (f : StgCh → StgCh) (s : State) : stgCh (modCh n f s) n = f (stgCh s n) :=
  stgCh_setCh_same _ _ _

theorem stgCh_modCh_other {m n : Nat} (h : m ≠ n) (f : StgCh → StgCh) (s : State) : stgCh (modCh n f s) m = stgCh s m :=
  stgCh_setCh_other h _ _

@[simp] theorem quad_setQuad_same (n : Nat) (x : Quad) (s : State) : quad (setQuad n x s) n = x := Store.get_set_same _ _ _ _

@[simp] theorem quad_modQuad_same (n : Nat) (f : Quad → Quad) (s : State) : quad (modQuad n f s) n = f (quad s n) :=
  quad_setQuad_same _ _ _

@[simp] theorem ring_setRing_same (n : Nat) (x : Ring) (s : State) : ring (setRing n x s) n = x := Store.get_set_same _ _ _ _

theorem ring_setRing_other {m n : Nat} (h : m ≠ n) (x : Ring) (s : State) : ring (setRing n x s) m = ring s m :=
  Store.get_set_other _ _ _ _ _ _ h

@[simp] theorem ring_modRing_same (n : Nat) (f : Ring → Ring) (s : State) : ring (modRing n f s) n = f (ring s n) :=
  ring_setRing_same _ _ _

theorem ring_modRing_other {m n : Nat} (h : m ≠ n) (f : Ring → Ring) (s : State) : ring (modRing n f s) m = ring s m :=
  ring_setRing_other h _ _

@[simp] theorem win_setWin_same (n : Nat) (x : TrailWin) (s : State) : win (setWin n x s) n = x := Store.get_set_same _ _ _ _

theorem win_setWin_other {m n : Nat} (h : m ≠ n) (x : TrailWin) (s : State) : win (setWin n x s) m = win s m :=
  Store.get_set_other _ _ _ _ _ _ h

@[simp] theorem win_modWin_same (n : Nat) (f : TrailWin → TrailWin) (s : State) : win (modWin n f s) n = f (win s n) :=
  win_setWin_same _ _ _

theorem win_modWin_other {m n : Nat} (h : m ≠ n) (f : TrailWin → TrailWin) (s : State) : win (modWin n f s) m = win s m :=
  win_setWin_other h _ _

@[simp] theorem inrush_setInr_same (n : Nat) (x : Inrush) (s : State) : inrush (setInr n x s) n = x := Store.get_set_same _ _ _ _

theorem inrush_setInr_other {m n : Nat} (h : m ≠ n) (x : Inrush) (s : State) : inrush (setInr n x s) m = inrush s m :=
  Store.get_set_other _ _ _ _ _ _ h

@[simp] theorem jobSlot_setJob_same (n : Nat) (x : JobSlot) (s : State) : jobSlot (setJob n x s) n = x := Store.get_set_same _ _ _ _

theorem jobSlot_setJob_other {m n : Nat} (h : m ≠ n) (x : JobSlot) (s : State) : jobSlot (setJob n x s) m = jobSlot s m :=
  Store.get_set_other _ _ _ _ _ _ h

@[simp] theorem wear_setWear_same (n : Nat) (x : Wear) (s : State) : wear (setWear n x s) n = x := Store.get_set_same _ _ _ _

@[simp] theorem adc_setAdc_same (n : Nat) (x : Adc) (s : State) : adc (setAdc n x s) n = x := Store.get_set_same _ _ _ _

theorem adc_setAdc_other {m n : Nat} (h : m ≠ n) (x : Adc) (s : State) : adc (setAdc n x s) m = adc s m :=
  Store.get_set_other _ _ _ _ _ _ h

@[simp] theorem adc_modAdc_same (n : Nat) (f : Adc → Adc) (s : State) : adc (modAdc n f s) n = f (adc s n) :=
  adc_setAdc_same _ _ _

theorem adc_modAdc_other {m n : Nat} (h : m ≠ n) (f : Adc → Adc) (s : State) : adc (modAdc n f s) m = adc s m :=
  adc_setAdc_other h _ _

@[simp] theorem recov_modRecov_same (d : Nat) (f : Recovery → Recovery) (s : State) : recov (modRecov d f s) d = f (recov s d) :=
  Store.get_set_same _ _ _ _

theorem recov_modRecov_other {d e : Nat} (h : e ≠ d) (f : Recovery → Recovery) (s : State) :
    recov (modRecov d f s) e = recov s e := Store.get_set_other _ _ _ _ _ _ h

@[simp] theorem eng_setEng_same (cls i : Nat) (e : EngRun) (s : State) : eng (setEng cls i e s) cls i = e :=
  Store.get_set_same _ _ _ _

/-! ### A unit under a frame -/

section
variable {l : List Part} {s t : State} (h : Only l s t)
include h

theorem Only.cell_eq (hp : l.contains .cells = false) (n : Nat) : cell t n = cell s n := by
  unfold cell
  rw [show t.cells = s.cells from h.keeps .cells hp]

theorem Only.clu_eq (hp : l.contains .clus = false) (n : Nat) : clu t n = clu s n := by
  unfold clu
  rw [show t.clus = s.clus from h.keeps .clus hp]

theorem Only.sec_eq (hp : l.contains .secs = false) (n : Nat) : sec t n = sec s n := by
  unfold sec
  rw [show t.secs = s.secs from h.keeps .secs hp]

theorem Only.stgCh_eq (hp : l.contains .chans = false) (n : Nat) : stgCh t n = stgCh s n := by
  unfold stgCh
  rw [show t.chans = s.chans from h.keeps .chans hp]

theorem Only.quad_eq (hp : l.contains .quads = false) (n : Nat) : quad t n = quad s n := by
  unfold quad
  rw [show t.quads = s.quads from h.keeps .quads hp]

theorem Only.ring_eq (hp : l.contains .rings = false) (n : Nat) : ring t n = ring s n := by
  unfold ring
  rw [show t.rings = s.rings from h.keeps .rings hp]

theorem Only.win_eq (hp : l.contains .trail = false) (n : Nat) : win t n = win s n := by
  unfold win
  rw [show t.trail = s.trail from h.keeps .trail hp]

theorem Only.inrush_eq (hp : l.contains .inrush = false) (n : Nat) : inrush t n = inrush s n := by
  unfold inrush
  rw [show t.inrush = s.inrush from h.keeps .inrush hp]

theorem Only.jobSlot_eq (hp : l.contains .jobs = false) (n : Nat) : jobSlot t n = jobSlot s n := by
  unfold jobSlot
  rw [show t.jobs = s.jobs from h.keeps .jobs hp]

theorem Only.wear_eq (hp : l.contains .wears = false) (n : Nat) : wear t n = wear s n := by
  unfold wear
  rw [show t.wears = s.wears from h.keeps .wears hp]

theorem Only.recov_eq (hp : l.contains .recov = false) (n : Nat) : recov t n = recov s n := by
  unfold recov
  rw [show t.recov = s.recov from h.keeps .recov hp]

theorem Only.sectors_eq (hp : l.contains .params = false) : sectors t = sectors s := by
  unfold sectors
  rw [show t.params = s.params from h.keeps .params hp]

theorem Only.quads_eq (hp : l.contains .params = false) : quads t = quads s := by
  unfold quads
  rw [h.sectors_eq hp]

theorem Only.adc_eq (hp : l.contains .params = false) (ha : l.contains .adcs = false) (n : Nat) : adc t n = adc s n := by
  unfold adc
  rw [show t.adcs = s.adcs from h.keeps .adcs ha, h.quads_eq hp]

theorem Only.eng_eq (hp : l.contains .eng = false) (cls i : Nat) : eng t cls i = eng s cls i := by
  unfold eng
  rw [show t.eng = s.eng from h.keeps .eng hp]

theorem Only.now_eq (hp : l.contains .time = false) : now t = now s := h.elapsed_eq hp

theorem Only.tick_eq (hp : l.contains .time = false) : t.tb.tick = s.tb.tick := (h.keeps .time hp).1

theorem Only.cfgF_eq (hp : l.contains .params = false) (ha : l.contains .active = false) (off hi lo : Nat) :
    cfgF t off hi lo = cfgF s off hi lo := by
  unfold cfgF
  rw [h.cfg_eq hp ha]

end

/-! ### Counters -/

/-- A full word that counts. -/
theorem bump_toNat (off : Nat) (s : State) : (live (bump off s) off).toNat = Nat.min ((live s off).toNat + 1) 0xFFFFFFFF :=
  bumpBy_toNat off 1 s

/-- A refused command is counted in its page. -/
theorem field_refuse (page : Nat) (s : State) : (live (refuse page s) (pg page PAGE_STAT)).field 15 8 =
    Nat.min ((live s (pg page PAGE_STAT)).field 15 8 + 1) 255 := field_bumpF _ _ _ _ (by decide) (by decide)

/-! ### Fault sources -/

theorem raise_raised (src det : Nat) (s : State) : Raised src det s (raise src det s) := rfl

theorem raiseOn_flt (src det page bit : Nat) (s : State) : (raiseOn src det page bit s).flt = (raise src det s).flt :=
  (pageFlt_only page bit (raise src det s)).keeps .flt rfl

theorem raiseOn_raised (src det page bit : Nat) (s : State) : Raised src det s (raiseOn src det page bit s) := by
  unfold Raised
  rw [raiseOn_flt]
  rfl

/-- A source raised after operations that raise none, and that let no time pass. -/
theorem Raised.after {l : List Part} {src det : Nat} {s t u : State} (h : Raised src det t u) (hl : Only l s t)
    (hf : l.contains .flt = false) (ht : l.contains .time = false) : Raised src det s u := by
  unfold Raised at h ⊢
  rw [h, hl.now_eq ht, hl.tick_eq ht, show t.flt = s.flt from hl.keeps .flt hf]

/-- A source raised before operations that raise none. -/
theorem Raised.before {l : List Part} {src det : Nat} {s t u : State} (h : Raised src det s t) (hl : Only l t u)
    (hf : l.contains .flt = false) : Raised src det s u := by
  unfold Raised
  rw [show u.flt = t.flt from hl.keeps .flt hf, h]

theorem Raised.among {src det : Nat} {s t : State} (h : Raised src det s t) : RaisedAmong src det s t := by
  unfold RaisedAmong
  rw [h]
  exact List.mem_append_right _ (List.mem_singleton_self _)

theorem RaisedAmong.before {l : List Part} {src det : Nat} {s t u : State} (h : RaisedAmong src det s t) (hl : Only l t u)
    (hf : l.contains .flt = false) : RaisedAmong src det s u := by
  unfold RaisedAmong at h ⊢
  rwa [show u.flt = t.flt from hl.keeps .flt hf]

/-! ### Commands of a host port -/

theorem secureCmd_secure {s : State} {a : Access} (h : secure s a = true) (f : State → State) :
    secureCmd a f s = respond a (.ok 0) (f s) := by
  simp only [secureCmd, hostCmd, h, if_true]

theorem secureCmd_nonsecure {s : State} {a : Access} (h : secure s a = false) (f : State → State) :
    secureCmd a f s = respond a (.ok 0) (countNonsec a s) := by
  simp only [secureCmd, hostCmd, h, Bool.false_eq_true, if_false]

/-- A refused command of a host: counted in its page, and answered. -/
theorem field_refuse_respond (a : Access) (x : Response) (page : Nat) (s : State) :
    (live (respond a x (refuse page s)) (pg page PAGE_STAT)).field 15 8 = Nat.min ((live s (pg page PAGE_STAT)).field 15 8 + 1) 255 := by
  rw [live_respond, field_refuse]

end Sys2Proof.Machine
end

section
/-! SUPPORT. The time base: the supply, the references, the self-timed engines and the bridge. -/

namespace Sys2Proof.Machine

/-! ### The time base under a frame -/

section
variable {l : List Part} {s t : State} (h : Only l s t)
include h

theorem Only.tb_eq (hc : l.contains .time = false) (hb : l.contains .tb = false) (hh : l.contains .held = false) :
    t.tb = s.tb := by
  obtain ⟨htick, helapsed⟩ := h.keeps .time hc
  obtain ⟨hfab, hi3c⟩ := h.keeps .held hh
  have htb := h.keeps .tb hb
  unfold Part.same at htb
  rwa [← htick, ← helapsed, ← hfab, ← hi3c] at htb

theorem Only.running_eq (hb : l.contains .tb = false) : t.tb.running = s.tb.running := by
  have htb := congrArg TimeBase.running (h.keeps .tb hb)
  exact htb

end

/-! ### Supply (O19) -/

theorem activeOf_setShadow (off o : Nat) (w : Word) (s : State) : activeOf (setShadow off w s) o = activeOf s o := rfl
theorem shadowOf_setActive (off o : Nat) (w : Word) (s : State) : shadowOf (setActive off w s) o = shadowOf s o := rfl

theorem activeOf_coldStart_same (s : State) :
    activeOf (coldStart s) (bridgeO Reg.BRIDGE_CTL) = shadowOf s (bridgeO Reg.BRIDGE_CTL) :=
  activeOf_setActive_same _ _ _

theorem activeOf_coldStart_other (s : State) {off : Nat} (h : off ≠ bridgeO Reg.BRIDGE_CTL) :
    activeOf (coldStart s) off = resetAt s.params off :=
  activeOf_setActive_other _ _ _ _ h

theorem shadowOf_coldStart_other (s : State) {off : Nat} (h : off ≠ bridgeO Reg.BRIDGE_CTL) :
    shadowOf (coldStart s) off = resetAt s.params off :=
  shadowOf_setShadow_other (bridgeO Reg.BRIDGE_CTL) off (shadowOf s (bridgeO Reg.BRIDGE_CTL))
    ((State.resetWith s.params).setPending s.pending) h

theorem enterLoad_state (s : State) : (enterLoad s).boot.state = .load := by
  have h : (enterLoad s).boot = (modBoot (fun b => { b with state := .load }) s).boot := (discover_only _).keeps .boot rfl
  rw [h]
  rfl

theorem enterLoad_lockAt (s : State) : (enterLoad s).boot.lockAt = s.boot.lockAt := by
  have h : (enterLoad s).boot = (modBoot (fun b => { b with state := .load }) s).boot := (discover_only _).keeps .boot rfl
  rw [h]
  rfl

/-- The state that `firstLock` leaves to the store's discovery and the bridge's lanes. -/
def lockedState (aGood bGood : Bool) (s : State) : State :=
  calRestart (modSparing (fun x => { x with secTicks := now s }) (modBoot (fun b => { b with lockAt := some (now s) })
    (s.setTb { s.tb with
      aOk := aGood, bOk := bGood, bridgeOk := s.bridge.role == 2, lock := true, running := !(s.bridge.role == 2),
      sel := if s.bridge.role == 2 then 2 else if aGood then 0 else 1 })))

theorem firstLock_eq (aGood bGood : Bool) (s : State) : firstLock aGood bGood s =
    when (!(s.bridge.role == 2) && s.boot.state == BootState.lock) enterLoad (bridgeTick (lockedState aGood bGood s)) := rfl

theorem lockedState_tb (aGood bGood : Bool) (s : State) : (lockedState aGood bGood s).tb = { s.tb with
      aOk := aGood, bOk := bGood, bridgeOk := s.bridge.role == 2, lock := true, running := !(s.bridge.role == 2),
      sel := if s.bridge.role == 2 then 2 else if aGood then 0 else 1 } :=
  (calRestart_only _).tb_eq rfl rfl rfl

theorem lockedState_boot (aGood bGood : Bool) (s : State) :
    (lockedState aGood bGood s).boot = { s.boot with lockAt := some (now s) } := (calRestart_only _).keeps .boot rfl

/-- What follows the lock leaves the time base. -/
theorem firstLock_tb (aGood bGood : Bool) (s : State) : (firstLock aGood bGood s).tb = (lockedState aGood bGood s).tb := by
  have h : Only [.bridge, .sparing, .boot, .cal] (lockedState aGood bGood s) (firstLock aGood bGood s) := by
    rw [firstLock_eq]
    exact ((bridgeTick_only _).mono rfl).when _ _ fun u => (enterLoad_only u).mono rfl
  exact h.tb_eq rfl rfl rfl

theorem bridgeTick_boot (s : State) : (bridgeTick s).boot = s.boot := (bridgeTick_only s).keeps .boot rfl

theorem firstLock_lockAt (aGood bGood : Bool) (s : State) : (firstLock aGood bGood s).boot.lockAt = some (now s) := by
  rw [firstLock_eq]
  unfold when
  split
  · rw [enterLoad_lockAt, bridgeTick_boot, lockedState_boot]
  · rw [bridgeTick_boot, lockedState_boot]

/-- Settles O19: what a cold start, a loss of power and a first lock leave. -/
theorem supplyCommands : Obligations.SupplyCommands := by
  refine ⟨fun s h => ?_, fun s _ => ?_, fun s aGood bGood hawake hlock hgood hrole => ?_,
    fun s aGood bGood hawake hlock hrole => ?_⟩
  · refine ⟨coldStart s, ?_, rfl, rfl, rfl, rfl, rfl, rfl, rfl, rfl, activeOf_coldStart_same s,
      fun off ho => ⟨activeOf_coldStart_other s ho, shadowOf_coldStart_other s ho⟩⟩
    unfold exec execColdStart
    rw [h]
    rfl
  · exact ⟨s.setPower false, rfl, rfl, State.setPower_only _ _⟩
  · have htwo : (s.bridge.role == 2) = false := by simpa using hrole
    have htb := (firstLock_tb aGood bGood s).trans (lockedState_tb aGood bGood s)
    refine ⟨_, act_runs hawake (by simp [hlock, hgood]), ?_, ?_, ?_, ?_, ?_, ?_, firstLock_lockAt .., fun hst => ?_⟩
    · rw [htb]
    · rw [htb]; simp [htwo]
    · rw [htb]
    · rw [htb]; simp [htwo]
    · rw [htb]
    · rw [htb]
    · rw [firstLock_eq, htwo, hst]
      exact enterLoad_state _
  · have htwo : (s.bridge.role == 2) = true := by simpa using hrole
    have htb := (firstLock_tb aGood bGood s).trans (lockedState_tb aGood bGood s)
    refine ⟨_, act_runs hawake (by simp [hlock, htwo]), ?_, ?_, ?_, firstLock_lockAt .., ?_⟩
    · rw [htb]
    · rw [htb]; simp [htwo]
    · rw [htb]; simp [htwo]
    · rw [firstLock_eq, htwo]
      have hboot := (bridgeTick_boot _).trans (lockedState_boot aGood bGood s)
      show (bridgeTick (lockedState aGood bGood s)).boot.state = s.boot.state
      rw [hboot]

/-! ### References (O20) -/

theorem refOk_setRef (r : Ref) (v : Bool) (s : State) : refOk (setRef r v s) r = v := by cases r <;> rfl

theorem refOk_setLostAt (r q : Ref) (n : Nat) (s : State) : refOk (setLostAt r n s) q = refOk s q := by
  cases r <;> cases q <;> rfl

theorem sel_setRef (r : Ref) (v : Bool) (s : State) : (setRef r v s).tb.sel = s.tb.sel := by cases r <;> rfl

theorem sel_setLostAt (r : Ref) (n : Nat) (s : State) : (setLostAt r n s).tb.sel = s.tb.sel := by cases r <;> rfl

/-- The reference to go to depends on the good references, the preference and the bridge. -/
theorem goodRef_setLostAt (r : Ref) (n : Nat) (s : State) : goodRef (setLostAt r n s) = goodRef s := by cases r <;> rfl

theorem refOk_switchRef (r q : Ref) (s : State) : refOk (switchRef r s) q = refOk s q := by cases q <;> rfl

theorem refOk_holdOver (q : Ref) (s : State) : refOk (holdOver s) q = refOk s q := by cases q <;> rfl

theorem refOk_raise (src det : Nat) (q : Ref) (s : State) : refOk (raise src det s) q = refOk s q := by cases q <;> rfl

/-- The reference is marked lost at this tick, before the PLL does anything about it. -/
def lostRef (r : Ref) (s : State) : State := setLostAt r (now s) (setRef r false s)

theorem lostRef_only (r : Ref) (s : State) : Only [.tb] s (lostRef r s) :=
  (setRef_only r false s).trans (setLostAt_only _ _ _)

theorem refOk_lostRef (r : Ref) (s : State) : refOk (lostRef r s) r = false :=
  (refOk_setLostAt _ _ _ _).trans (refOk_setRef _ _ _)

theorem sel_lostRef (r : Ref) (s : State) : (lostRef r s).tb.sel = s.tb.sel :=
  (sel_setLostAt _ _ _).trans (sel_setRef _ _ _)

theorem running_lostRef (r : Ref) (s : State) : (lostRef r s).tb.running = s.tb.running := by cases r <;> rfl

theorem loseRef_other {r : Ref} {s : State} (h : s.tb.sel ≠ refSel r) :
    loseRef r s = raise Src.TB_REF_LOST 0 (lostRef r s) := by
  unfold loseRef lostRef
  dsimp only
  rw [if_neg h]

theorem loseRef_moves {r o : Ref} {s : State} (h : s.tb.sel = refSel r) (ho : goodRef (setRef r false s) = some o) :
    loseRef r s = raise Src.TB_REF_LOST 0 (switchRef o (lostRef r s)) := by
  unfold loseRef
  dsimp only
  rw [if_pos h, goodRef_setLostAt, ho]
  rfl

theorem loseRef_holds {r : Ref} {s : State} (h : s.tb.sel = refSel r) (ho : goodRef (setRef r false s) = none) :
    loseRef r s = holdOver (lostRef r s) := by
  unfold loseRef
  dsimp only
  rw [if_pos h, goodRef_setLostAt, ho]
  rfl

theorem exec_tbRefLost {s : State} {r : Ref} {w : RefWindow} (hawake : awake s = true) (hok : refOk s r = true)
    (hw : refMeets w = false) : exec (.tbRefLost ⟨r, w⟩) s = .next (loseRef r s) :=
  act_runs hawake (by simp [hok, hw])

theorem exec_refGoodAgain {s : State} {r : Ref} {l : List RefWindow} (hawake : awake s = true) (hok : refOk s r = false)
    (hl : l.length = 16) (hm : l.all refMeets = true) (ht : refLostAt s r + regainTicks ≤ now s) :
    exec (.refGoodAgain ⟨r, l⟩) s = .next (regainRef r s) :=
  act_runs hawake (by simp only [hok, hl, hm, decide_eq_true ht]; rfl)

theorem regainRef_fromHold {r : Ref} {s : State} (hh : s.tb.hold = true) (hr : r ≠ .bridge ∨ bridged s = true) :
    regainRef r s = switchRef r ((setRef r true s).setTb
      { (setRef r true s).tb with hold := false, expired := false, goodAt := now s }) := by
  unfold regainRef
  dsimp only
  exact if_pos (by simpa [hh] using hr)

theorem regainRef_stays {r : Ref} {s : State} (hh : s.tb.hold = false) (hc : cfgB s (tbO Reg.TB_REFCTL) 1 = false) :
    regainRef r s = setRef r true s := by
  unfold regainRef
  dsimp only
  rw [if_neg (by simp [hh]), if_neg (by simp [hc])]

theorem regainRef_reverts {r : Ref} {s : State} (hh : s.tb.hold = false) (hc : cfgB s (tbO Reg.TB_REFCTL) 1 = true)
    (hp : r = prefRef s) (h2 : s.tb.sel ≠ 2) (hsel : s.tb.sel ≠ refSel r) (hl : s.boot.lockAt.isSome = true) :
    regainRef r s = switchRef r (setRef r true s) := by
  unfold regainRef
  dsimp only
  rw [if_neg (by simp [hh]), if_pos (by simp [hc, ← hp, h2, hsel, hl])]

theorem holdoverOver_due {s : State} (h : holdoverDue s = true) :
    holdoverOver s = raise Src.TB_HOLDOVER_EXPIRED 0 (s.setTb { s.tb with expired := true }) := if_pos h

/-- Settles O20. -/
theorem referenceCommands : Obligations.ReferenceCommands := by
  refine ⟨fun s r w _ hw => act_idle (.inr (by simp [hw])), fun s r w hawake hok hw hsel => ?_,
    fun s r o w hawake hok hw hsel ho => ?_, fun s r w hawake hok hw hsel ho => ?_,
    fun s r l hawake hok hl hm ht hh hr => ?_, fun s r l hawake hok hl hm ht hh hc => ?_,
    fun s r l hawake hok hl hm ht hh hc hp h2 hsel hlock => ?_, fun s r l h => act_idle (.inr ?_),
    fun s hawake hdue => act_runs hawake hdue, fun s hh he ht => ?_, fun s hawake hl hh => ?_⟩
  · refine ⟨_, exec_tbRefLost hawake hok hw, ?_⟩
    rw [loseRef_other hsel]
    exact ⟨(refOk_raise ..).trans (refOk_lostRef r s), sel_lostRef r s, (raise_raised _ _ _).after (lostRef_only r s) rfl rfl⟩
  · refine ⟨_, exec_tbRefLost hawake hok hw, ?_⟩
    rw [loseRef_moves hsel ho]
    refine ⟨?_, rfl, (raise_raised _ _ _).after (((lostRef_only r s).mono rfl).trans (switchRef_only o _)) rfl rfl, ?_⟩
    · rw [refOk_raise, refOk_switchRef, refOk_lostRef]
    · have h := bump_toNat (tbO Reg.TB_FAILOVERS) ((lostRef r s).setTb { (lostRef r s).tb with sel := refSel o, lock := true })
      have hlive : live (lostRef r s) (tbO Reg.TB_FAILOVERS) = live s (tbO Reg.TB_FAILOVERS) := (lostRef_only r s).live_eq rfl rfl _
      rw [← hlive]
      exact h
  · refine ⟨_, exec_tbRefLost hawake hok hw, ?_⟩
    rw [loseRef_holds hsel ho]
    have hl := lostRef_only r s
    refine ⟨(refOk_holdOver r _).trans (refOk_lostRef r s), rfl, hl.now_eq rfl, running_lostRef r s, hl.tick_eq rfl, ?_⟩
    exact Raised.after (raise_raised _ _ ((lostRef r s).setTb _)) (hl.trans (State.setTb_only _ _ ⟨rfl, rfl⟩ ⟨rfl, rfl⟩)) rfl rfl
  · refine ⟨_, exec_refGoodAgain hawake hok hl hm ht, ?_⟩
    rw [regainRef_fromHold hh hr]
    refine ⟨?_, rfl, rfl, rfl, rfl, (setRef_only r true s).tick_eq rfl⟩
    cases r <;> rfl
  · refine ⟨_, exec_refGoodAgain hawake hok hl hm ht, ?_⟩
    rw [regainRef_stays hh hc]
    exact ⟨refOk_setRef .., sel_setRef .., setRef_only r true s⟩
  · refine ⟨_, exec_refGoodAgain hawake hok hl hm ht, ?_⟩
    rw [regainRef_reverts hh hc hp h2 hsel hlock]
    exact ⟨(refOk_switchRef ..).trans (refOk_setRef ..), rfl⟩
  · rcases h with h | h | h
    · simp [h]
    · simp [h]
    · simp [Nat.not_le.mpr h]
  · have hdue : holdoverDue s = true := by simp [holdoverDue, hh, he, ht]
    show (holdoverOver s).tb.expired = true ∧ (holdoverOver s).tb.hold = true ∧ (holdoverOver s).tb.tick = s.tb.tick ∧
      Raised Src.TB_HOLDOVER_EXPIRED 0 s (holdoverOver s)
    rw [holdoverOver_due hdue]
    exact ⟨rfl, hh, rfl, rfl⟩
  · exact ⟨_, act_runs hawake (by simp [hl, hh]), rfl, rfl, rfl, rfl⟩

/-! ### Self-timed engines (O22) -/

theorem eng_recordSlack (cls n : Nat) (s : State) (c i : Nat) : eng (recordSlack cls n s) c i = eng s c i :=
  (recordSlack_only cls n s).eng_eq rfl c i

theorem complete_runs {s : State} {cls i t0 : Nat} (hs : (eng s cls i).start = some t0) (hd : (eng s cls i).done = none)
    (ht : now s ≤ t0 + latchTick cls) : eng (complete cls i s) cls i = { eng s cls i with done := some (now s) } := by
  unfold complete
  dsimp only
  rw [hs, hd]
  dsimp only
  rw [if_pos (by simpa using ht), eng_recordSlack, eng_setEng_same]

theorem complete_late {s : State} {cls i t0 : Nat} (hs : (eng s cls i).start = some t0) (ht : t0 + latchTick cls < now s) :
    complete cls i s = s := by
  unfold complete
  dsimp only
  rw [hs]
  exact if_neg (by simp [Nat.not_le.mpr ht])

theorem completeFaults_flt (s : State) : (completeFaults s).flt =
    { s.flt with regq := s.flt.regq.map fun r => { r with done := r.done || decide (now s ≤ r.due) } } := by
  unfold completeFaults
  exact ((Only.refl [.live] _).foldl _ _ fun _ _ => recordSlack_only _ _ _).keeps .flt rfl

/-- Settles O22. -/
theorem engineCompletions : Obligations.EngineCompletions := by
  refine ⟨fun s cls i t0 hs hd ht => ?_, fun s cls i t0 hs ht => complete_late hs ht, fun s i hawake => act_runs hawake rfl,
    fun s d hawake => act_runs hawake rfl, fun s hawake => ⟨act_runs hawake rfl, act_runs hawake rfl, act_runs hawake rfl⟩,
    fun s q hawake => act_runs hawake rfl, fun s hawake => ⟨_, act_runs hawake rfl, ?_⟩⟩
  · rw [complete_runs hs hd ht]
    exact ⟨rfl, hs⟩
  · show (completeFaults s).flt.regq = _
    rw [completeFaults_flt]

/-! ### The bridge (O23) -/

/-- A source raised after operations that let no time pass is among those registered. -/
theorem Only.raise_among {l : List Part} {s t : State} (h : Only l s t) (ht : l.contains .time = false) (src det : Nat) :
    RaisedAmong src det s (raise src det t) := by
  have hr := (raise_raised src det t).among
  unfold RaisedAmong at hr ⊢
  rwa [h.now_eq ht, h.tick_eq ht] at hr

theorem bridge_ownRef (s : State) : (ownRef s).bridge = s.bridge := (ownRef_only s).keeps .bridge rfl

theorem refSel_prefRef (s : State) : refSel (prefRef s) ≠ 2 := by
  unfold prefRef
  split <;> decide

/-- A block without the bridge goes to a reference of its own. -/
theorem goodRef_own {s : State} {r : Ref} (hb : bridged s = false) (h : goodRef s = some r) : refSel r ≠ 2 := by
  unfold goodRef at h
  rw [hb] at h
  split at h
  · cases h
    exact refSel_prefRef s
  · split at h
    · cases h; decide
    · split at h
      · cases h; decide
      · cases h

theorem ownRef_sel {s : State} (hb : bridged s = false) (h : s.tb.sel = 2) : (ownRef s).tb.sel ≠ 2 := by
  unfold ownRef
  rw [if_pos h]
  cases hg : goodRef s with
  | some r => exact goodRef_own hb hg
  | none => exact (by decide : (3 : Nat) ≠ 2)

theorem loseBridge_bridge (s : State) : (loseBridge s).bridge = { s.bridge with lost := true } := bridge_ownRef _

theorem loseBridge_among (s : State) : RaisedAmong Src.BRG_SYNC_LOST s.bridge.inst s (loseBridge s) :=
  (((State.setBridge_only s { s.bridge with lost := true }).mono rfl).trans ((ownRef_only _).mono rfl) :
    Only [.tb, .bridge, .live, .flt] s _).raise_among rfl _ _

theorem ownRef_running (s : State) : (ownRef s).tb.running = s.tb.running := by
  unfold ownRef
  split
  · split <;> rfl
  · rfl

theorem loseBridge_running (s : State) : (loseBridge s).tb.running = s.tb.running := ownRef_running _

theorem bridged_lost (s : State) : bridged (s.setBridge { s.bridge with lost := true }) = false := by
  unfold bridged
  exact Bool.and_false _

theorem loseBridge_sel {s : State} (h : s.tb.sel = 2) : (loseBridge s).tb.sel ≠ 2 := ownRef_sel (bridged_lost s) h

theorem missedSync_inst (n : Nat) (s : State) : (missedSync n s).bridge.inst = s.bridge.inst := by
  unfold missedSync when
  split <;> rfl

theorem bridgeOver_due {s : State} (h : bridgeDue s = true) : bridgeOver s = loseBridge (missedSync 0 s) := if_pos h

theorem joinOver_due {s : State} (h : joinDue s = true) :
    joinOver s = enterLoad (calRestart (loseBridge (s.setTb { s.tb with tick := 0, running := true }))) := if_pos h

/-- A secondary that gives the bridge up starts its own time and loads. -/
theorem joinOver_after (s : State) : Only [.sparing, .adcs, .boot, .cal] (loseBridge s) (enterLoad (calRestart (loseBridge s))) :=
  ((calRestart_only _).mono rfl).trans ((enterLoad_only _).mono rfl)

theorem syncFrame_joins {s : State} (p : BitVec 64) (h : s.bridge.joined = false) :
    syncFrame p s = joinGroup (p + BitVec.ofNat 64 (s.params.brgFlight.getD 0 0)) s := by
  unfold syncFrame
  dsimp only
  rw [if_neg (by simp [h])]

theorem syncFrame_refreshes {s : State} (p : BitVec 64) (h : s.bridge.joined = true) :
    ∃ o, syncFrame p s = s.setBridge { s.bridge with lastSync := now s, offset := o } := by
  refine ⟨_, if_pos h⟩

/-- What a secondary's join leaves to the converters, the engines and the store. -/
theorem joinGroup_only_after (k : BitVec 64) (s : State) : Only [.eng, .sparing, .adcs, .boot, .cal]
    ((s.setBridge { s.bridge with joined := true, lastSync := now s, offset := 0 }).setTb
      { s.tb with tick := k, running := true, loaded := some k.toNat }) (joinGroup k s) := by
  unfold joinGroup
  exact (((State.setEngs_only _ _).mono rfl).via (calRestart_only _) rfl).when _ _ fun u => (enterLoad_only u).mono rfl

theorem exec_syncFrame_good {s : State} (p : BitVec 64) (hawake : awake s = true) (hb : bridged s = true)
    (hl : s.boot.lockAt.isSome = true) : exec (.bridgeSyncFrame p (frameCrc frameSync p)) s =
      .next (syncFrame p (s.setBridge { s.bridge with syncDue := now s + estP })) :=
  (act_runs hawake (by simp [hb, hl])).trans (congrArg _ (if_pos rfl))

theorem exec_syncFrame_bad {s : State} {p : BitVec 64} {crc : Byte} (hawake : awake s = true) (hb : bridged s = true)
    (hl : s.boot.lockAt.isSome = true) (hc : crc ≠ frameCrc frameSync p) : exec (.bridgeSyncFrame p crc) s =
      .next (bumpF (bridgeO Reg.BRIDGE_ERR) 23 16 (s.setBridge { s.bridge with syncDue := now s + estP })) :=
  (act_runs hawake (by simp [hb, hl])).trans (congrArg _ (if_neg hc))

theorem exec_strobeFrame_good {s : State} (k : BitVec 64) (hawake : awake s = true) (hb : bridged s = true)
    (hj : s.bridge.joined = true) : exec (.bridgeStrobeFrame k (frameCrc frameStrobe k)) s = .next (strobeFrame k s) :=
  act_runs hawake (by simp [hb, hj])

theorem strobeFrame_ahead {s : State} {k : BitVec 64} (h : s.tb.tick.toNat ≤ k.toNat) :
    strobeFrame k s = freeze (now s + (k.toNat - s.tb.tick.toNat)) s := if_neg (Nat.not_lt.mpr h)

theorem strobeFrame_late {s : State} {k : BitVec 64} (h : k.toNat < s.tb.tick.toNat) :
    strobeFrame k s = freeze (now s) (bumpF (bridgeO Reg.BRIDGE_ERR) 15 8 s) := if_pos h

theorem bitsMsb_length (n v : Nat) : (bitsMsb n v).length = n := by
  simp [bitsMsb, bitsLsb, upto]

theorem frameBits_length (typ : Nat) (p : BitVec 64) : (frameBits typ p).length = 4 * frameTicks := by
  simp [frameBits, frameBody, bitsMsb_length, bitsLsb, upto, frameTicks]

theorem laneTick_strobe {s : State} {l : Nat} {x : BrgLink} {f : Sending} (hs : strobeSent s = true) (hc : x.cur = some f)
    (ht : now s < f.from0 + frameTicks) :
    laneTick s l x = { cur := some (beginFrame s l frameStrobe), wait := f.typ :: (x.wait ++ framesDue s) } := by
  simp [laneTick, hs, hc, Option.filter, ht]

theorem laneTick_busy {s : State} {l : Nat} {x : BrgLink} {f : Sending} (hs : strobeSent s = false) (hc : x.cur = some f)
    (ht : now s < f.from0 + frameTicks) : laneTick s l x = { cur := some f, wait := x.wait ++ framesDue s } := by
  simp [laneTick, hs, hc, Option.filter, ht]

theorem laneTick_next {s : State} {l : Nat} {x : BrgLink} {f : Sending} {n : Nat} {rest : List Nat} (hs : strobeSent s = false)
    (hc : x.cur = some f) (ht : f.from0 + frameTicks ≤ now s) (hw : x.wait ++ framesDue s = n :: rest) :
    laneTick s l x = { cur := some (beginFrame s l n), wait := rest } := by
  simp [laneTick, hs, hc, Option.filter, Nat.not_lt.mpr ht, hw]

/-- Settles O23. -/
theorem bridgeCommands : Obligations.BridgeCommands := by
  refine ⟨fun s p hawake hb hl hj => ?_, fun s p hawake hb hl hj => ?_, fun s p crc hawake hb hl hc => ?_,
    fun s k hawake hb hj hk => ?_, fun s k hawake hb hj hk => ?_,
    fun s w hawake hb => ⟨_, act_runs hawake (by simp [hb]), rfl, State.setBridge_only _ _⟩,
    fun s i inc k hawake hr hi => ⟨_, act_runs hawake (by simp [hr, hi]), Store.find_put_same _ _ _, modCap_only _ _⟩,
    fun s i p w inc k crc => ⟨fun h => act_idle (.inr (by simp [h])), fun h => act_idle (.inr (by simp [h])),
      fun h => act_idle (.inr (by simp [h]))⟩,
    fun s hawake hdue => act_runs hawake hdue, fun s hb hst ht => ?_, fun s hawake hdue => act_runs hawake hdue,
    fun s t0 hb hst hl ht => ?_, frameBits_length,
    fun s l x f => ⟨laneTick_strobe, laneTick_busy, fun n rest => laneTick_next⟩⟩
  · refine ⟨_, exec_syncFrame_good p hawake hb hl, ?_⟩
    rw [syncFrame_joins (s := s.setBridge { s.bridge with syncDue := now s + estP }) p hj]
    have h := joinGroup_only_after (p + BitVec.ofNat 64 (s.params.brgFlight.getD 0 0))
      (s.setBridge { s.bridge with syncDue := now s + estP })
    have hbridge := h.keeps .bridge rfl
    refine ⟨h.tick_eq rfl, h.running_eq rfl, congrArg Bridge.joined hbridge, congrArg Bridge.lastSync hbridge, fun hst => ?_⟩
    unfold joinGroup when
    dsimp only
    rw [if_pos (by simpa using hst)]
    exact enterLoad_state _
  · refine ⟨_, exec_syncFrame_good p hawake hb hl, ?_⟩
    obtain ⟨o, h⟩ := syncFrame_refreshes (s := s.setBridge { s.bridge with syncDue := now s + estP }) p hj
    rw [h]
    exact ⟨rfl, (State.setBridge_only _ _).trans (State.setBridge_only _ _)⟩
  · exact ⟨_, exec_syncFrame_bad hawake hb hl hc, rfl, rfl,
      ((State.setBridge_only _ _).mono rfl).via (bumpF_only _ _ _ _) rfl, field_bumpF _ _ _ _ (by decide) (by decide)⟩
  · refine ⟨_, exec_strobeFrame_good k hawake hb hj, ?_⟩
    rw [strobeFrame_ahead hk]
    exact ⟨rfl, rfl, rfl, rfl⟩
  · refine ⟨_, exec_strobeFrame_good k hawake hb hj, ?_⟩
    rw [strobeFrame_late hk]
    refine ⟨rfl, ?_⟩
    rw [(freeze_only _ _).live_eq rfl rfl]
    exact field_bumpF _ _ _ _ (by decide) (by decide)
  · have hdue : bridgeDue s = true := by simp [bridgeDue, hb, hst, ht]
    show (bridgeOver s).bridge.lost = true ∧ (bridgeOver s).tb.tick = s.tb.tick ∧
      RaisedAmong Src.BRG_SYNC_LOST s.bridge.inst s (bridgeOver s) ∧ (s.tb.sel = 2 → (bridgeOver s).tb.sel ≠ 2)
    rw [bridgeOver_due hdue]
    have hm := missedSync_only 0 s
    refine ⟨congrArg Bridge.lost (loseBridge_bridge _), ?_, ?_, fun hsel => loseBridge_sel ?_⟩
    · exact ((loseBridge_only _).tick_eq rfl).trans (hm.tick_eq rfl)
    · have h := loseBridge_among (missedSync 0 s)
      unfold RaisedAmong at h ⊢
      rwa [hm.now_eq rfl, hm.tick_eq rfl, missedSync_inst] at h
    · rw [hm.tb_eq rfl rfl rfl, hsel]
  · have hdue : joinDue s = true := by simp [joinDue, hb, hst, hl, ht]
    show (joinOver s).tb.tick = 0 ∧ (joinOver s).tb.running = true ∧ (joinOver s).bridge.lost = true ∧
      (joinOver s).boot.state = .load ∧ ⟨Src.BRG_SYNC_LOST, s.bridge.inst, 0, now s, now s + 8, false⟩ ∈ (joinOver s).flt.regq
    rw [joinOver_due hdue]
    have hafter := joinOver_after (s.setTb { s.tb with tick := 0, running := true })
    refine ⟨(hafter.tick_eq rfl).trans ((loseBridge_only _).tick_eq rfl), ?_, ?_, enterLoad_state _, ?_⟩
    · rw [hafter.running_eq rfl]
      exact loseBridge_running _
    · exact (congrArg Bridge.lost (hafter.keeps .bridge rfl)).trans (congrArg Bridge.lost (loseBridge_bridge _))
    · exact (loseBridge_among _).before hafter rfl

end Sys2Proof.Machine
end

section
/-! SUPPORT. How writes take effect: strobes, boundaries, frozen sets and the parity walker. -/

namespace Sys2Proof.Machine

/-! ### Words that take effect together -/

/-- Every word of a list takes its value in its active copy. -/
def takeWords (words : List (Nat × Word)) (s : State) : State :=
  words.foldl (fun s e => modRegs (fun r => { r with badActive := mark false e.1 r.badActive }) (setActive e.1 e.2 s)) s

theorem takeWords_cons (e : Nat × Word) (words : List (Nat × Word)) (s : State) : takeWords (e :: words) s =
    takeWords words (modRegs (fun r => { r with badActive := mark false e.1 r.badActive }) (setActive e.1 e.2 s)) := rfl

theorem takeWords_regs {β : Type} (g : Regs → β) (hg : ∀ r x y, g { r with active := x, badActive := y } = g r)
    (words : List (Nat × Word)) (s : State) : g (takeWords words s).regs = g s.regs := by
  induction words generalizing s with
  | nil => rfl
  | cons e words ih => exact (ih _).trans (hg s.regs _ _)

theorem takeWords_boot (words : List (Nat × Word)) (s : State) : (takeWords words s).boot = s.boot := by
  induction words generalizing s with
  | nil => rfl
  | cons e words ih => exact ih _

theorem activeOf_takeWords_other {words : List (Nat × Word)} {off : Nat} (h : off ∉ words.map (·.1)) (s : State) :
    activeOf (takeWords words s) off = activeOf s off := by
  induction words generalizing s with
  | nil => rfl
  | cons e words ih =>
    obtain ⟨hne, hrest⟩ := not_or.mp (fun hc => h (List.mem_cons.mpr hc))
    rw [takeWords_cons, ih hrest]
    exact activeOf_setActive_other _ _ _ _ hne

theorem activeOf_takeWords {words : List (Nat × Word)} {off : Nat} {w : Word} (hmem : (off, w) ∈ words)
    (huniq : ∀ e ∈ words, e.1 = off → e.2 = w) (s : State) : activeOf (takeWords words s) off = w := by
  induction words generalizing s with
  | nil => cases hmem
  | cons e words ih =>
    rw [takeWords_cons]
    by_cases hrest : off ∈ words.map (·.1)
    · obtain ⟨⟨o, v⟩, hv, rfl⟩ := List.mem_map.mp hrest
      have hvw := huniq (o, v) (List.mem_cons_of_mem _ hv) rfl
      dsimp only at hvw
      subst hvw
      exact ih hv (fun e he => huniq e (List.mem_cons_of_mem _ he)) _
    · rw [activeOf_takeWords_other hrest]
      rcases List.mem_cons.mp hmem with rfl | hw
      · exact activeOf_setActive_same _ _ _
      · exact absurd (List.mem_map_of_mem hw) hrest

/-- An accepted apply as the epoch, the pages and the status show it. -/
def notedApply (words : List (Nat × Word)) (s1 : State) : State :=
  let epoch := live s1 (genO Reg.GEN_EPOCH) + 1
  let pages := words.foldl (fun (l : List Nat) e => if l.contains (pageOf e.1) then l else pageOf e.1 :: l) []
  let s2 := pages.foldl (fun s p => setLive (pg p PAGE_EPOCH) epoch (setBit (pg p PAGE_STAT) 0 s)) (setLive (genO Reg.GEN_EPOCH) epoch s1)
  setLive (genO Reg.GEN_APPLYTICK_LO) (tickLo s2) (setBit (genO Reg.GEN_APPLYSTAT) 0 s2)

theorem notedApply_only (words : List (Nat × Word)) (s : State) : Only [.live] s (notedApply words s) := by
  unfold notedApply
  exact (((setLive_only _ _ s).foldl _ _ fun _ _ => (setBit_only _ _ _).via (setLive_only _ _ _) rfl).via
    (setBit_only _ _ _) rfl).via (setLive_only _ _ _) rfl

theorem acceptApply_words {words : List (Nat × Word)} (h : words ≠ []) (s : State) : acceptApply words s =
    applyHooks s words ((notedApply words (takeWords words s)).setBoot
      { (notedApply words (takeWords words s)).boot with safe := false }) := if_neg (by simpa using h)

/-- What an accepted apply does after its words have taken effect. -/
theorem acceptApply_after (words : List (Nat × Word)) (s : State) : Only [.live, .clus, .secs, .trail, .flt, .rings, .quads,
    .blk, .boot] (takeWords words s) (acceptApply words s) := by
  by_cases h : words = []
  · subst h
    exact Only.refl _ _
  · rw [acceptApply_words h]
    exact (((notedApply_only _ _).mono rfl).via (State.setBoot_only _ _) rfl).via (applyHooks_only _ _ _) rfl

theorem activeOf_acceptApply (words : List (Nat × Word)) (s : State) (off : Nat) :
    activeOf (acceptApply words s) off = activeOf (takeWords words s) off := (acceptApply_after words s).activeOf_eq rfl rfl off

/-- Of the register model an accepted apply changes the active copies, their parity, and the live words. -/
theorem acceptApply_regs {β : Type} (g : Regs → β) (hg : ∀ r x y, g { r with active := x, badActive := y } = g r)
    (hl : ∀ r x y z, g { r with shadow := x, active := y, live := z } = g r) (words : List (Nat × Word)) (s : State) :
    g (acceptApply words s).regs = g s.regs := by
  have h := congrArg g ((acceptApply_after words s).keeps .regs rfl)
  exact (hl _ _ _ _).symm.trans (h.trans (takeWords_regs g hg words s))

/-! ### Strobes -/

theorem frozenNow_some {s : State} {f : Frozen} {due : Nat} (hf : s.regs.frozen = some f)
    (hs : s.regs.strobe = some (now s, due)) : frozenNow s = some f := by
  unfold frozenNow
  rw [hf, hs]
  exact if_pos rfl

theorem pendWrite_joins {off : Nat} {w : Word} {s : State} {f : Frozen} (h : frozenNow s = some f) :
    pendWrite off w s = modRegs (fun r => { r with frozen := some (f.join off w (r.badShadow.contains off)) })
      (writeShadow off w s) := by
  unfold pendWrite
  dsimp only
  rw [frozenNow_writeShadow, h]

/-- A strobe is free to freeze: the last one was not in this tick, and its set has applied. -/
def strobeFree (s : State) : Prop := ∀ t0 due, s.regs.strobe = some (t0, due) → t0 ≠ now s ∧ due < now s

/-- The state of a strobe, noted as driven where a write gives it. -/
def driven (write : Bool) (s : State) : State := when write (modRegs (fun r => { r with drove := some (now s) })) s

/-- The state that a strobe freezes: a primary's is stamped for the frame that carries it. -/
def strobing (write : Bool) (s : State) : State :=
  when ((driven write s).bridge.role == 1)
    (fun u => u.setBridge { u.bridge with
      sent := some (u.tb.tick + BitVec.ofNat 64 (cfgF s (bridgeO Reg.BRIDGE_STRB) 7 0)) })
    (driven write s)

theorem strobe_freezes {write : Bool} {s : State} (hb : bridged s = false) (hm : boundaryMode s = false)
    (hf : strobeFree s) :
    strobe write s = freeze (now s + cfgF s (bridgeO Reg.BRIDGE_STRB) 7 0) (strobing write s) := by
  have htime : now (when write (modRegs (fun r => { r with drove := some (now s) })) s) = now s := by
    cases write <;> rfl
  unfold strobing driven
  unfold strobe
  rw [if_neg (by simp [hb])]
  dsimp only
  rw [if_neg (by simp [hm])]
  cases hs : s.regs.strobe with
  | none =>
    dsimp only
    rw [htime]
  | some p =>
    obtain ⟨t0, due⟩ := p
    obtain ⟨hne, hlt⟩ := hf t0 due hs
    dsimp only
    rw [if_neg hne, if_neg (Nat.not_le.mpr hlt), htime]

theorem strobing_after (write : Bool) (s : State) : Only [.bridge] (driven write s) (strobing write s) :=
  (Only.refl _ _).when _ _ fun u => State.setBridge_only u _

theorem strobing_regs (write : Bool) (s : State) :
    (strobing write s).regs = { s.regs with drove := if write then some (now s) else s.regs.drove } := by
  have h : (strobing write s).regs = (driven write s).regs := by
    unfold strobing
    generalize driven write s = u
    unfold when
    split <;> rfl
  rw [h]
  cases write <;> rfl

theorem shadowOf_strobing (write : Bool) (s : State) (off : Nat) : shadowOf (strobing write s) off = shadowOf s off := by
  rw [(strobing_after write s).shadowOf_eq rfl rfl]
  cases write <;> rfl

/-- The set that a freeze takes from the pending writes. -/
def frozenSet (s : State) (due : Nat) : Frozen :=
  ⟨s.regs.pend.eraseDups.map (fun off => ⟨off, shadowOf s off, s.regs.badShadow.contains off⟩), s.regs.crc, due⟩

theorem freeze_regs (due : Nat) (s : State) : (freeze due s).regs = { s.regs with
    frozen := some (frozenSet s due), pend := [], crc := 0xFFFFFFFF, strobe := some (now s, due) } := rfl

theorem frozenSet_strobing (write : Bool) (s : State) (due : Nat) : frozenSet (strobing write s) due = frozenSet s due := by
  unfold frozenSet
  rw [strobing_regs]
  simp only [shadowOf_strobing]

theorem strobe_regs {write : Bool} {s : State} (hb : bridged s = false) (hm : boundaryMode s = false) (hf : strobeFree s) :
    ∃ at0, (strobe write s).regs = { s.regs with
      frozen := some (frozenSet s (now s + cfgF s (bridgeO Reg.BRIDGE_STRB) 7 0))
      pend := []
      crc := 0xFFFFFFFF
      strobe := at0
      drove := if write then some (now s) else s.regs.drove } := by
  refine ⟨some (now (strobing write s), now s + cfgF s (bridgeO Reg.BRIDGE_STRB) 7 0), ?_⟩
  rw [strobe_freezes hb hm hf, freeze_regs, frozenSet_strobing, strobing_regs]

theorem strobe_busy {s : State} {t0 due : Nat} (write : Bool) (hb : bridged s = false) (hm : boundaryMode s = false)
    (hs : s.regs.strobe = some (t0, due)) (ht : t0 < now s) (hd : now s ≤ due) :
    strobe write s = setBit (genO Reg.GEN_APPLYSTAT) 4 s := by
  unfold strobe
  rw [if_neg (by simp [hb])]
  dsimp only
  rw [if_neg (by simp [hm]), hs]
  dsimp only
  rw [if_neg (by omega), if_pos hd]

theorem strobe_boundary {s : State} (write : Bool) (hb : bridged s = false) (hm : boundaryMode s = true) :
    strobe write s = setBit (genO Reg.GEN_APPLYSTAT) 5 (when write (modRegs (fun r => { r with drove := some (now s) })) s) := by
  unfold strobe
  rw [if_neg (by simp [hb])]
  exact if_pos hm

theorem strobe_bridged {s : State} (write : Bool) (hb : bridged s = true) :
    strobe write s = bumpF (bridgeO Reg.BRIDGE_ERR) 7 0 s := if_pos hb

theorem exec_genUpdateGo {s : State} {a : Access} (hawake : awake s = true) (hreach : reaches s a = true) :
    exec (.genUpdateGo a) s = .next (respond a (.ok 0) (strobe true s)) := act_runs hawake hreach

theorem exec_updStrobeEdge {s : State} (hawake : awake s = true) (hd : ∀ t0, s.regs.drove = some t0 → t0 + 18 < now s) :
    exec .updStrobeEdge s = .next (strobe false s) := by
  refine act_runs hawake ?_
  cases hs : s.regs.drove with
  | none => rfl
  | some t0 => exact decide_eq_true (hd t0 hs)

/-! ### Boundary apply and live coefficients -/

/-- The pending writes whose page's boundary this tick is. -/
def dueWrites (s : State) : List Nat := s.regs.pend.eraseDups.filter (fun off => atTick s (boundaryTicks s (pageOf off)) 0)

theorem mem_dueWrites (s : State) (off : Nat) :
    off ∈ dueWrites s ↔ off ∈ s.regs.pend ∧ atTick s (boundaryTicks s (pageOf off)) 0 = true := by
  unfold dueWrites
  rw [List.mem_filter, List.mem_eraseDups]

/-- With good parity every due write takes effect. -/
theorem boundaryApply_good {s : State} (h : s.regs.badShadow = []) :
    boundaryApply s = acceptApply ((dueWrites s).map fun off => (off, shadowOf s off))
      (modRegs (fun r => { r with pend := r.pend.filter (fun o => !(dueWrites s).contains o), crc := 0xFFFFFFFF }) s) := by
  have hbad : (dueWrites s).filter (fun off => s.regs.badShadow.contains off) = [] := by simp [h]
  have hpass : (dueWrites s).filter (fun off => !(sortNat []).any (fun b => pageOf b == pageOf off)) = dueWrites s :=
    List.filter_eq_self.mpr fun _ _ => rfl
  have hrest : (dueWrites s).filter (fun o => !(dueWrites s).contains o) = [] :=
    List.filter_eq_nil_iff.mpr fun o ho => by simp [ho]
  unfold boundaryApply
  dsimp only
  rw [show s.regs.pend.eraseDups.filter (fun off => atTick s (boundaryTicks s (pageOf off)) 0) = dueWrites s from rfl, hbad, hpass, hrest]
  rfl

theorem coefSync_regs (sc : Nat) (s : State) : (coefSync sc s).regs = s.regs := by
  unfold coefSync when
  split <;> rfl

theorem lcEffect_good {off : Nat} {s : State} (h : s.regs.badShadow = []) : lcEffect off s = coefSync (pageOf off - 0x40)
    (modRegs (fun r => { r with badActive := mark false off r.badActive }) (setActive off (shadowOf s off) s)) := by
  unfold lcEffect
  rw [if_neg (by simp [h])]

/-- Live coefficients of good parity that take effect, one after another. -/
theorem lcEffects_good (l : List Nat) {s : State} (h : s.regs.badShadow = []) :
    (l.foldl (fun s off => lcEffect off s) s).regs.lc = s.regs.lc ∧
      (l.foldl (fun s off => lcEffect off s) s).regs.shadow = s.regs.shadow ∧
      (∀ off ∈ l, activeOf (l.foldl (fun s off => lcEffect off s) s) off = shadowOf s off) ∧
      ∀ off, off ∉ l → activeOf (l.foldl (fun s off => lcEffect off s) s) off = activeOf s off := by
  induction l generalizing s with
  | nil => exact ⟨rfl, rfl, (fun _ h => absurd h List.not_mem_nil), fun _ _ => rfl⟩
  | cons x l ih =>
    have hx := lcEffect_good (off := x) h
    have hregs : (lcEffect x s).regs = { s.regs with
        active := (setActive x (shadowOf s x) s).regs.active, badActive := mark false x s.regs.badActive } := by
      rw [hx, coefSync_regs]
      rfl
    have hparams : (lcEffect x s).params = s.params := (lcEffect_only x s).keeps .params rfl
    have hshadow : ∀ off, shadowOf (lcEffect x s) off = shadowOf s off := fun off => by
      unfold shadowOf
      rw [hparams, hregs]
    have hactive : ∀ off, activeOf (lcEffect x s) off = activeOf (setActive x (shadowOf s x) s) off := fun off => by
      rw [hx]
      exact (coefSync_only _ _).activeOf_eq rfl rfl off
    obtain ⟨hlc, hsh, hin, hout⟩ := ih (s := lcEffect x s) (by rw [hregs]; exact h)
    refine ⟨hlc.trans (by rw [hregs]), hsh.trans (by rw [hregs]), fun off ho => ?_, fun off ho => ?_⟩
    · by_cases hl : off ∈ l
      · exact (hin off hl).trans (hshadow off)
      · rw [List.foldl_cons, hout off hl, hactive]
        rcases List.mem_cons.mp ho with rfl | ho
        · exact activeOf_setActive_same _ _ _
        · exact absurd ho hl
    · obtain ⟨hne, hl⟩ := not_or.mp (fun hc => ho (List.mem_cons.mpr hc))
      rw [List.foldl_cons, hout off hl, hactive]
      exact activeOf_setActive_other _ _ _ _ hne

theorem exec_lcTakeEffect {s : State} (hawake : awake s = true) (ht : atTick s controlP 0 = true) (hl : s.regs.lc ≠ []) :
    exec .lcTakeEffect s =
      .next (s.regs.lc.foldl (fun s off => lcEffect off s) (modRegs (fun r => { r with lc := [] }) s)) :=
  act_runs hawake (by simp [ht, hl])

/-- Settles O24. -/
theorem strobesAndBoundaries : Obligations.StrobesAndBoundaries := by
  refine ⟨⟨fun s a hawake hreach hb hm hf => ?_, fun s hawake hd hb hm hf => ?_,
    fun s a t0 due hawake hreach hb hm hs ht hdue => ?_, fun s a hawake hreach hb hm => ?_, fun s hawake hd hb => ?_,
    fun off w s f due hf hs => ?_⟩, fun s hawake hm hgood hex => ?_, fun s hawake ht hl hgood => ?_⟩
  · obtain ⟨at0, h⟩ := strobe_regs (write := true) hb hm hf
    refine ⟨_, exec_genUpdateGo hawake hreach, ?_⟩
    rw [respond_regs, h]
    exact ⟨rfl, rfl, rfl, rfl, rfl, rfl⟩
  · obtain ⟨at0, h⟩ := strobe_regs (write := false) hb hm hf
    refine ⟨_, exec_updStrobeEdge hawake hd, ?_⟩
    rw [h]
    exact ⟨rfl, rfl, rfl, rfl, rfl, rfl⟩
  · refine ⟨_, exec_genUpdateGo hawake hreach, ?_⟩
    rw [live_respond, respond_regs, strobe_busy true hb hm hs ht hdue]
    exact ⟨live_setLive_same _ _ _, rfl, rfl, rfl⟩
  · refine ⟨_, exec_genUpdateGo hawake hreach, ?_⟩
    rw [live_respond, respond_regs, strobe_boundary true hb hm]
    exact ⟨live_setLive_same _ _ _, rfl, rfl⟩
  · refine ⟨_, exec_updStrobeEdge hawake hd, ?_⟩
    rw [strobe_bridged false hb]
    exact ⟨rfl, field_bumpF _ _ _ _ (by decide) (by decide)⟩
  · rw [pendWrite_joins (frozenNow_some hf hs)]
    exact ⟨(writeShadow_regs off w s).1, shadowOf_writeShadow_same off w s, _, rfl⟩
  · have hdue : (s.regs.pend.any fun off => atTick s (boundaryTicks s (pageOf off)) 0) = true :=
      List.any_eq_true.mpr (by simpa using hex)
    have hval : ∀ e ∈ (dueWrites s).map (fun off => (off, shadowOf s off)), e.2 = shadowOf s e.1 := fun e he => by
      obtain ⟨o, _, rfl⟩ := List.mem_map.mp he
      rfl
    have hkeys : ∀ off, off ∈ ((dueWrites s).map (fun off => (off, shadowOf s off))).map (·.1) ↔ off ∈ dueWrites s := fun off => by
      simp
    refine ⟨_, act_runs hawake (by rw [hm, hdue]; rfl), ?_⟩
    rw [boundaryApply_good hgood]
    have hpend := acceptApply_regs Regs.pend (fun _ _ _ => rfl) (fun _ _ _ _ => rfl)
      ((dueWrites s).map fun off => (off, shadowOf s off))
      (modRegs (fun r => { r with pend := r.pend.filter (fun o => !(dueWrites s).contains o), crc := 0xFFFFFFFF }) s)
    refine ⟨fun off ho ht => ⟨?_, ?_⟩, fun off ho => ?_, fun off ho ht => ?_, ?_⟩
    · have hmem := (mem_dueWrites s off).mpr ⟨ho, ht⟩
      rw [activeOf_acceptApply]
      exact activeOf_takeWords (List.mem_map_of_mem (f := fun off => (off, shadowOf s off)) hmem) (fun e he heq => heq ▸ hval e he) _
    · rw [hpend]
      exact fun hc => by simpa [(mem_dueWrites s off).mpr ⟨ho, ht⟩] using (List.mem_filter.mp hc).2
    · rw [activeOf_acceptApply]
      exact activeOf_takeWords_other (fun hc => ho ((mem_dueWrites s off).mp ((hkeys off).mp hc))) _
    · rw [hpend]
      refine List.mem_filter.mpr ⟨ho, ?_⟩
      have hnot : off ∉ dueWrites s := fun hc => by simp [((mem_dueWrites s off).mp hc).2] at ht
      simp [hnot]
    · exact (acceptApply_only _ _).keeps .shadow rfl
  · refine ⟨_, exec_lcTakeEffect hawake ht hl, ?_⟩
    obtain ⟨hlc, hsh, hin, hout⟩ := lcEffects_good s.regs.lc (s := modRegs (fun r => { r with lc := [] }) s) hgood
    exact ⟨hlc, hin, hout, hsh⟩

/-! ### Frozen sets (O25) -/

theorem setDue_of {s : State} {o : Option Frozen} {f : Frozen} (h : o = some f) (hd : f.due ≤ now s) : setDue s o = true := by
  rw [h]
  exact decide_eq_true hd

/-- The words of a set as an apply takes them. -/
def setWords (f : Frozen) : List (Nat × Word) := f.words.map fun w => (w.off, w.val)

/-- The start set, where its tick has come. -/
def startApplied (s : State) : State :=
  match s.regs.startSet with
  | some f => when (decide (f.due ≤ now s)) (applyStart f) s
  | none => s

theorem applyDue_eq (s : State) : applyDue s = match (startApplied s).regs.frozen with
    | some f => when (decide (f.due ≤ now (startApplied s))) (applyFrozen f) (startApplied s)
    | none => startApplied s := rfl

theorem startApplied_none {s : State} (h : setDue s s.regs.startSet = false) : startApplied s = s := by
  unfold startApplied
  cases hs : s.regs.startSet with
  | none => rfl
  | some f =>
    rw [hs] at h
    exact if_neg (by simpa using of_decide_eq_false h)

/-- Where no start set is due the frozen one applies. -/
theorem applyDue_frozen {s : State} {f : Frozen} (hs : setDue s s.regs.startSet = false) (hf : s.regs.frozen = some f)
    (hd : f.due ≤ now s) : applyDue s = applyFrozen f s := by
  rw [applyDue_eq, startApplied_none hs, hf]
  exact if_pos (decide_eq_true hd)

theorem applyStart_frozen (f : Frozen) (s : State) : (applyStart f s).regs.frozen = s.regs.frozen := by
  have h : Only [.clus, .boot] (acceptApply (setWords f) (modRegs (fun r => { r with startSet := none }) s)) (applyStart f s) :=
    (Only.refl _ _).when _ _ fun u => enterSense_only u
  have hacc := acceptApply_regs Regs.frozen (fun _ _ _ => rfl) (fun _ _ _ _ => rfl) (setWords f)
    (modRegs (fun r => { r with startSet := none }) s)
  exact (congrArg Regs.frozen (h.keeps .regs rfl)).trans hacc

/-- Where the frozen set is not due the start set applies alone. -/
theorem applyDue_start {s : State} {f : Frozen} (hs : s.regs.startSet = some f) (hd : f.due ≤ now s)
    (hf : setDue s s.regs.frozen = false) : applyDue s = applyStart f s := by
  have hstart : startApplied s = applyStart f s := by
    unfold startApplied
    rw [hs]
    exact if_pos (decide_eq_true hd)
  rw [applyDue_eq, hstart, applyStart_frozen]
  cases hz : s.regs.frozen with
  | none => rfl
  | some g =>
    rw [hz] at hf
    refine if_neg ?_
    rw [(applyStart_only f s).now_eq rfl]
    simpa using of_decide_eq_false hf

theorem exec_strobeApplyTick {s : State} (hawake : awake s = true)
    (h : setDue s s.regs.startSet = true ∨ setDue s s.regs.frozen = true) :
    exec .strobeApplyTick s = .next (applyDue s) := act_runs hawake (by simpa using h)

theorem setWords_keys (f : Frozen) : (setWords f).map (·.1) = f.words.map (·.off) := by
  simp [setWords]

theorem activeOf_setWords {f : Frozen} {w : FrozenWord} (hn : (f.words.map (·.off)).Nodup) (hw : w ∈ f.words) (s : State) :
    activeOf (acceptApply (setWords f) s) w.off = w.val := by
  rw [activeOf_acceptApply]
  refine activeOf_takeWords (List.mem_map_of_mem (f := fun w : FrozenWord => (w.off, w.val)) hw) (fun e he heq => ?_) s
  obtain ⟨x, hx, rfl⟩ := List.mem_map.mp he
  rw [List.inj_on_of_nodup_map hn hx hw heq]

theorem activeOf_setWords_other {f : Frozen} {off : Nat} (h : off ∉ f.words.map (·.off)) (s : State) :
    activeOf (acceptApply (setWords f) s) off = activeOf s off := by
  rw [activeOf_acceptApply]
  exact activeOf_takeWords_other (by rwa [setWords_keys]) s

theorem applyFrozen_accepted {s : State} {f : Frozen} (hseal : f.crc ^^^ 0xFFFFFFFF = s.regs.sealWord)
    (hgood : ∀ w, w ∈ f.words → w.bad = false) :
    applyFrozen f s = acceptApply (setWords f) (modRegs (fun r => { r with frozen := none }) s) := by
  have hbad : f.words.filter (·.bad) = [] := List.filter_eq_nil_iff.mpr fun w hw => by simp [hgood w hw]
  unfold applyFrozen
  dsimp only
  split
  · next h =>
    unfold setWords
    rw [List.isEmpty_iff.mp h]
    rfl
  · rw [hbad]
    exact if_pos (Bool.and_eq_true_iff.mpr ⟨beq_iff_eq.mpr hseal, rfl⟩)

/-- The offsets of a set's words of bad parity. -/
def badWords (f : Frozen) : List Nat := (f.words.filter (·.bad)).map (·.off)

/-- A refused set is shown and raised before its shadows are reloaded. -/
def shownRefusal (f : Frozen) (s : State) : State :=
  parityRefused (badWords f) (when (!(f.crc ^^^ 0xFFFFFFFF == s.regs.sealWord))
    (fun s => raise Src.CFG_SEAL_BAD (Config.sealPage (now s)).toNat (setBit (genO Reg.GEN_APPLYSTAT) 1 s)) s)

theorem shownRefusal_only (f : Frozen) (s : State) : Only [.live, .flt] s (shownRefusal f s) :=
  ((Only.refl _ _).when _ _ fun _ => ((setBit_only _ _ _).mono rfl).via (raise_only _ _ _) rfl).trans (parityRefused_only _ _)

theorem applyFrozen_refused {s : State} {f : Frozen} (hne : f.words ≠ [])
    (h : f.crc ^^^ 0xFFFFFFFF ≠ s.regs.sealWord ∨ ∃ w, w ∈ f.words ∧ w.bad = true) :
    applyFrozen f s = refuseSet f (shownRefusal f (modRegs (fun r => { r with frozen := none }) s)) := by
  unfold applyFrozen
  dsimp only
  rw [if_neg (by simpa using hne), if_neg]
  · rfl
  · intro hc
    obtain ⟨hseal, hbad⟩ := Bool.and_eq_true_iff.mp hc
    rcases h with h | ⟨w, hw, hb⟩
    · exact h (beq_iff_eq.mp hseal)
    · exact List.ne_nil_of_mem (List.mem_map_of_mem (f := FrozenWord.off) (List.mem_filter.mpr ⟨hw, hb⟩)) (List.isEmpty_iff.mp hbad)

/-- A word whose shadow a refusal leaves: written since, or held by a set that waits. -/
def keptWord (s : State) (off : Nat) : Bool := s.regs.pend.contains off || inFrozen s off

theorem activeOf_reloadWord (x o : Nat) (s : State) : activeOf (reloadWord x s) o = activeOf s o := rfl
theorem keptWord_reloadWord (x o : Nat) (s : State) : keptWord (reloadWord x s) o = keptWord s o := rfl
theorem shadowOf_reloadWord_same (x : Nat) (s : State) : shadowOf (reloadWord x s) x = activeOf s x := shadowOf_setShadow_same x _ s
theorem shadowOf_reloadWord_other {x o : Nat} (h : o ≠ x) (s : State) : shadowOf (reloadWord x s) o = shadowOf s o :=
  shadowOf_setShadow_other x o (activeOf s x) s h

/-- Reloading a list of words but the kept ones. -/
def reloadSet (l : List FrozenWord) (s : State) : State :=
  l.foldl (fun s w => if s.regs.pend.contains w.off || inFrozen s w.off then s else reloadWord w.off s) s

theorem reloadSet_cons_kept {w : FrozenWord} {s : State} (h : keptWord s w.off = true) (l : List FrozenWord) :
    reloadSet (w :: l) s = reloadSet l s := congrArg (reloadSet l) (if_pos h)

theorem reloadSet_cons_other {w : FrozenWord} {s : State} (h : keptWord s w.off = false) (l : List FrozenWord) :
    reloadSet (w :: l) s = reloadSet l (reloadWord w.off s) := congrArg (reloadSet l) (if_neg (by simpa [keptWord] using h))

theorem shadowOf_reloadSet_kept {off : Nat} (l : List FrozenWord) {s : State} (h : off ∉ l.map (·.off) ∨ keptWord s off = true) :
    shadowOf (reloadSet l s) off = shadowOf s off := by
  induction l generalizing s with
  | nil => rfl
  | cons w l ih =>
    have hrest : off ∉ l.map (·.off) ∨ keptWord s off = true := h.imp_left fun hn hc => hn (List.mem_cons_of_mem _ hc)
    cases hk : keptWord s w.off with
    | true => exact (congrArg (shadowOf · off) (reloadSet_cons_kept hk l)).trans (ih hrest)
    | false =>
      have hne : off ≠ w.off := by
        rintro rfl
        rcases h with hn | hk'
        · exact hn (List.mem_cons_self ..)
        · rw [hk] at hk'
          cases hk'
      rw [reloadSet_cons_other hk, ih (s := reloadWord w.off s) hrest, shadowOf_reloadWord_other hne]

theorem shadowOf_reloadSet {off : Nat} (l : List FrozenWord) {s : State} (hm : off ∈ l.map (·.off)) (hk : keptWord s off = false) :
    shadowOf (reloadSet l s) off = activeOf s off := by
  induction l generalizing s with
  | nil => cases hm
  | cons w l ih =>
    by_cases hl : off ∈ l.map (·.off)
    · cases hw : keptWord s w.off with
      | true => exact (congrArg (shadowOf · off) (reloadSet_cons_kept hw l)).trans (ih hl hk)
      | false => exact (congrArg (shadowOf · off) (reloadSet_cons_other hw l)).trans (ih (s := reloadWord w.off s) hl hk)
    · rcases List.mem_cons.mp hm with rfl | hc
      · rw [reloadSet_cons_other hk, shadowOf_reloadSet_kept l (.inl hl), shadowOf_reloadWord_same]
      · exact absurd hc hl

theorem reloadSet_pend (l : List FrozenWord) (s : State) : (reloadSet l s).regs.pend = s.regs.pend ∧
    (reloadSet l s).regs.frozen = s.regs.frozen := by
  induction l generalizing s with
  | nil => exact ⟨rfl, rfl⟩
  | cons w l ih =>
    cases hw : keptWord s w.off with
    | true => exact reloadSet_cons_kept hw l ▸ ih s
    | false => exact reloadSet_cons_other hw l ▸ ih (reloadWord w.off s)

theorem enterSense_state (s : State) : (enterSense s).boot.state = .sense := by
  have h : Only [.clus] (s.setBoot { s.boot with
      state := .sense, passes := (upto (quads s)).map (fun q => (live s (qdO q Reg.QD_PASSES)).toNat) }) (enterSense s) :=
    (Only.refl _ _).forEach _ _ fun _ _ => modClu_only _ _ _
  exact congrArg Boot.state (h.keeps .boot rfl)

theorem bootUp_check {s : State} (h : s.boot.state = .check) : bootUp s = s := if_neg (by rw [h]; exact (by decide : ¬false = true))

/-- Of the sequence an apply's hooks change only the end of AWAIT and that of POWER. -/
theorem applyHooks_ends (before : State) (words : List (Nat × Word)) (s : State) : ∃ u : State, u.boot = s.boot ∧
    applyHooks before words s = bootUp (when (u.boot.state == .await) enterSense u) := by
  unfold applyHooks
  refine ⟨_, ?_, rfl⟩
  refine Only.keeps (l := [.live, .clus, .secs, .trail, .flt, .rings, .quads, .blk]) ?_ .boot rfl
  refine Only.when ?_ _ _ fun u => (syncGroups_only u).mono rfl
  refine Only.when ?_ _ _ fun u => (Only.refl _ u).forEach _ _ fun _ _ => (opTakesEffect_only _ _).mono rfl
  refine (Only.via ?_ (blanketOff_only _) rfl).via (checkShares_only _) rfl
  refine Only.forEach ?_ _ _ fun _ v => (Only.refl _ v).when _ _ fun w => (flushWindow_only _ _ w).mono rfl
  refine Only.when ?_ _ _ fun u => (Only.refl _ u).forEach _ _ fun _ v => (modRing_only _ _ v).mono rfl
  exact (Only.refl _ s).forEach _ _ fun _ v => (Only.refl _ v).when _ _ fun w => (modQuad_only _ _ w).mono rfl

theorem applyHooks_check {before : State} {words : List (Nat × Word)} {s : State} (h : s.boot.state = .check) :
    (applyHooks before words s).boot.state = .check := by
  obtain ⟨u, hboot, heq⟩ := applyHooks_ends before words s
  have hst : u.boot.state = .check := hboot ▸ h
  rw [heq, show when (u.boot.state == .await) enterSense u = u from if_neg (by rw [hst]; decide), bootUp_check hst, hst]

theorem acceptApply_check {words : List (Nat × Word)} {s : State} (h : s.boot.state = .check) :
    (acceptApply words s).boot.state = .check := by
  by_cases hw : words = []
  · subst hw
    exact h
  · have hboot := ((notedApply_only words (takeWords words s)).keeps .boot rfl).trans (takeWords_boot words s)
    rw [acceptApply_words hw]
    exact applyHooks_check ((congrArg Boot.state hboot).trans h)

theorem applyStart_sense {f : Frozen} {s : State} (h : s.boot.state = .check) : (applyStart f s).boot.state = .sense := by
  have hcheck := acceptApply_check (words := setWords f) (s := modRegs (fun r => { r with startSet := none }) s) h
  have heq : applyStart f s = enterSense (acceptApply (setWords f) (modRegs (fun r => { r with startSet := none }) s)) :=
    if_pos (beq_iff_eq.mpr hcheck)
  rw [heq, enterSense_state]

/-- What a start set does after its words have taken effect. -/
theorem applyStart_after (f : Frozen) (s : State) :
    Only [.clus, .boot] (acceptApply (setWords f) (modRegs (fun r => { r with startSet := none }) s)) (applyStart f s) :=
  (Only.refl _ _).when _ _ fun u => enterSense_only u

theorem applyStart_regs {β : Type} (g : Regs → β) (hg : ∀ r x y, g { r with active := x, badActive := y } = g r)
    (hl : ∀ r x y z, g { r with shadow := x, active := y, live := z } = g r) (f : Frozen) (s : State) :
    g (applyStart f s).regs = g { s.regs with startSet := none } := by
  have h := congrArg g ((applyStart_after f s).keeps .regs rfl)
  exact (hl _ _ _ _).symm.trans (h.trans (acceptApply_regs g hg hl (setWords f) _))

/-- A wrong seal is raised when every parity is good. -/
theorem shownRefusal_seal {f : Frozen} {s : State} (hseal : f.crc ^^^ 0xFFFFFFFF ≠ s.regs.sealWord) (hgood : badWords f = []) :
    RaisedAmong Src.CFG_SEAL_BAD (Config.sealPage (now s)).toNat s (shownRefusal f s) := by
  unfold shownRefusal when
  rw [hgood, if_pos (by simpa using hseal)]
  exact (setBit_only _ _ _).raise_among rfl _ _

theorem badWords_nil {f : Frozen} : badWords f = [] ↔ f.words.all (fun w => !w.bad) = true := by
  simp [badWords, List.filter_eq_nil_iff]

/-- Settles O25. -/
theorem frozenSetAppliesWhole : Obligations.FrozenSetAppliesWhole := by
  refine ⟨⟨fun s f hawake hs hf hd hseal hgood hn => ?_, fun s f hawake hs hd hf hn => ?_⟩,
    fun s f hawake hs hf hd hne hbad => ?_⟩
  · refine ⟨_, exec_strobeApplyTick hawake (.inr (setDue_of hf hd)), ?_⟩
    rw [applyDue_frozen hs hf hd, applyFrozen_accepted hseal hgood]
    exact ⟨acceptApply_regs Regs.frozen (fun _ _ _ => rfl) (fun _ _ _ _ => rfl) _ _, fun w hw => activeOf_setWords hn hw _,
      fun off ho => activeOf_setWords_other ho _, (acceptApply_only _ _).keeps .shadow rfl,
      acceptApply_regs Regs.pend (fun _ _ _ => rfl) (fun _ _ _ _ => rfl) _ _⟩
  · refine ⟨_, exec_strobeApplyTick hawake (.inl (setDue_of hs hd)), ?_⟩
    rw [applyDue_start hs hd hf]
    have hafter := applyStart_after f s
    refine ⟨applyStart_regs Regs.startSet (fun _ _ _ => rfl) (fun _ _ _ _ => rfl) f s, applyStart_frozen f s,
      fun w hw => ?_, fun off ho => ?_, (applyStart_only f s).keeps .shadow rfl,
      applyStart_regs Regs.pend (fun _ _ _ => rfl) (fun _ _ _ _ => rfl) f s, applyStart_sense⟩
    · rw [hafter.activeOf_eq rfl rfl]
      exact activeOf_setWords hn hw _
    · rw [hafter.activeOf_eq rfl rfl]
      exact activeOf_setWords_other ho _
  · refine ⟨_, exec_strobeApplyTick hawake (.inr (setDue_of hf hd)), ?_⟩
    rw [applyDue_frozen hs hf hd, applyFrozen_refused hne hbad]
    set u := shownRefusal f (modRegs (fun r => { r with frozen := none }) s) with hu
    have hshown : Only [.live, .flt] (modRegs (fun r => { r with frozen := none }) s) u := shownRefusal_only f _
    have hreload := refuseSet_only f u
    have hregs := hshown.keeps .regs rfl
    have hactive : ∀ off, activeOf u off = activeOf s off := fun off => hshown.activeOf_eq rfl rfl off
    have hshadow : ∀ off, shadowOf u off = shadowOf s off := fun off => hshown.shadowOf_eq rfl rfl off
    obtain ⟨hpend, _, hfrozen, _⟩ := hshown.regs_eq rfl
    have hstart := congrArg Regs.startSet hregs
    change u.regs.pend = s.regs.pend at hpend
    change u.regs.frozen = none at hfrozen
    change u.regs.startSet = s.regs.startSet at hstart
    have hkept : ∀ off, keptWord u off = true ↔
        off ∈ s.regs.pend ∨ ∃ g, s.regs.startSet = some g ∧ off ∈ g.words.map (·.off) := fun off => by
      unfold keptWord inFrozen
      rw [hpend, hfrozen, hstart]
      cases s.regs.startSet <;> simp
    refine ⟨(reloadSet_pend _ _).2.trans hfrozen, (hreload.keeps .active rfl).trans (hshown.keeps .active rfl),
      fun w hw hp hg => ?_, fun off ho => ?_, (reloadSet_pend _ _).1.trans hpend, fun hgood => ?_⟩
    · refine (shadowOf_reloadSet _ (List.mem_map_of_mem hw) ?_).trans (hactive _)
      refine Bool.eq_false_iff.mpr fun hk => ?_
      rcases (hkept _).mp hk with h | ⟨g, hgs, hm⟩
      · exact hp h
      · obtain ⟨x, hx, hxo⟩ := List.mem_map.mp hm
        exact hg g hgs x hx hxo
    · exact (shadowOf_reloadSet_kept _ (ho.imp_right (hkept off).mpr)).trans (hshadow off)
    · refine ⟨(Config.sealPage (now s)).toNat, ?_⟩
      rcases hbad with hseal | ⟨w, hw, hb⟩
      · have h : RaisedAmong Src.CFG_SEAL_BAD (Config.sealPage (now s)).toNat (modRegs (fun r => { r with frozen := none }) s) u :=
          shownRefusal_seal hseal (badWords_nil.mpr hgood)
        exact h.before hreload rfl
      · have := List.all_eq_true.mp hgood w hw
        rw [hb] at this
        cases this

/-! ### The parity walker and the injection (O26) -/

theorem mem_insertNat {x y : Nat} {l : List Nat} : x ∈ insertNat y l ↔ x = y ∨ x ∈ l := by
  induction l with
  | nil => simp [insertNat]
  | cons z l ih =>
    unfold insertNat
    split
    · exact List.mem_cons
    · rw [List.mem_cons, ih, List.mem_cons]
      tauto

theorem mem_mark_true (off : Nat) (l : List Nat) : off ∈ mark true off l := mem_insertNat.mpr (.inl rfl)

theorem not_mem_mark_false (off : Nat) (l : List Nat) : off ∉ mark false off l := fun h => by
  simpa using (List.mem_filter.mp h).2

/-- The walker's place noted. -/
def walked (place : Nat) (s : State) : State := modRegs (fun r => { r with walker := place }) s

theorem walked_only (place : Nat) (s : State) : Only [.regs] s (walked place s) :=
  modRegs_only _ _ (fun _ => rfl) (fun _ => rfl) (fun _ => rfl)

/-- An active copy takes the shadow's value. -/
def repairActive (off : Nat) (s : State) : State :=
  modRegs (fun r => { r with badActive := mark false off r.badActive }) (setActive off (shadowOf s off) s)

theorem repairActive_only (off : Nat) (s : State) : Only [.active, .regs] s (repairActive off s) := by
  unfold repairActive
  exact ((setActive_only _ _ _).mono rfl).via (modRegs_only _ _ (fun _ => rfl) (fun _ => rfl) (fun _ => rfl)) rfl

theorem exec_parityWalk {s : State} {place off : Nat} (hawake : awake s = true) (ht : atTick s 8 0 = true)
    (hw : walkNext s.params 200 s.regs.walker = some (place, off)) :
    exec .parityWalk s = .next (walkWord off (walked place s)) := by
  refine (act_runs hawake ht).trans (congrArg Host.Outcome.next ?_)
  unfold parityWalk
  rw [hw]
  rfl

theorem walkWord_good {off : Nat} {s : State} (ha : off ∉ s.regs.badActive) (hs : off ∉ s.regs.badShadow) :
    walkWord off s = s := by
  unfold walkWord
  exact if_pos (by simp [ha, hs])

/-- A repair of one copy is noted on its page and raised. -/
def notedRepair (off : Nat) (act : Bool) (s : State) : State :=
  raise Src.CFG_PARITY (pageOf off) (parityNote off act (!act) true s)

theorem notedRepair_only (off : Nat) (act : Bool) (s : State) : Only [.live, .flt] s (notedRepair off act s) :=
  ((parityNote_only _ _ _ _ _).mono rfl).via (raise_only _ _ _) rfl

theorem notedRepair_raised (off : Nat) (act : Bool) (s : State) : Raised Src.CFG_PARITY (pageOf off) s (notedRepair off act s) :=
  (raise_raised _ _ _).after (parityNote_only _ _ _ _ _) rfl rfl

theorem walkWord_repairsActive {off : Nat} {s : State} (hw : isShadowWord s.params off = true) (hp : off ∉ s.regs.pend)
    (hf : inFrozen s off = false) (ha : off ∈ s.regs.badActive) (hs : off ∉ s.regs.badShadow) :
    walkWord off s = notedRepair off true (repairActive off s) := by
  unfold walkWord
  simp [hw, hp, hf, ha, hs, when, notedRepair, repairActive]

theorem walkWord_repairsShadow {off : Nat} {s : State} (hw : isShadowWord s.params off = true) (hp : off ∉ s.regs.pend)
    (hf : inFrozen s off = false) (ha : off ∉ s.regs.badActive) (hs : off ∈ s.regs.badShadow) :
    walkWord off s = notedRepair off false (reloadWord off s) := by
  unfold walkWord
  simp [hw, hp, hf, ha, hs, when, notedRepair]

theorem exec_genParinjWrite {s : State} {a : Access} (hawake : awake s = true) (hreach : reaches s a = true)
    (page : BitVec 8) (go : Bool) : exec (.genParinjWrite a page go) s =
      .next (secureCmd a (parinjWrite (BitVec.ofNat 32 (page.toNat + 256 * b2n go))) s) := act_runs hawake hreach

theorem writeShadow_injected {off : Nat} {w : Word} {s : State} (h : injArmed s (pageOf off) = true) : writeShadow off w s =
    setField (genO Reg.GEN_PARINJ) 8 8 0
      (modRegs (fun r => { r with badShadow := mark true off r.badShadow }) (setShadow off w s)) := by
  unfold writeShadow
  rw [h]
  rfl

theorem Word.bit_put_zero (w : Word) (i : Nat) (h : i < 32) : (w.put i i 0).bit i = false := by
  have hf := Word.field_put_same w i i 0 (Nat.le_refl i) h
  unfold Word.field at hf
  rw [Nat.add_sub_cancel_left] at hf
  unfold Word.bit
  rw [show (2 : Nat) = 2 ^ 1 from rfl, hf]
  rfl

/-- An injection that is made is no longer armed. -/
theorem injArmed_cleared (page : Nat) (s : State) : injArmed (setField (genO Reg.GEN_PARINJ) 8 8 0 s) page = false := by
  unfold injArmed
  rw [live_setField_same, Word.bit_put_zero _ _ (by decide)]
  rfl

/-- Settles O26. -/
theorem parityCommands : Obligations.ParityCommands := by
  refine ⟨fun s place off hawake ht hw ha hs => ?_, fun s place off hawake ht hw hsh hp hf ha hs => ?_,
    fun s place off hawake ht hw hsh hp hf ha hs => ?_, fun s a page go hawake hreach hsec => ?_,
    fun s a page go hawake hreach hsec => ?_, fun off w s h => ?_⟩
  · refine ⟨_, exec_parityWalk hawake ht hw, ?_⟩
    rw [walkWord_good (s := walked place s) ha hs]
    exact ⟨rfl, walked_only place s⟩
  · refine ⟨_, exec_parityWalk hawake ht hw, ?_⟩
    rw [walkWord_repairsActive (s := walked place s) hsh hp hf ha hs]
    have hn := notedRepair_only off true (repairActive off (walked place s))
    refine ⟨?_, ?_, fun o ho => ?_, hn.keeps .shadow rfl, (notedRepair_raised off true _).after
      (((walked_only place s).mono rfl).trans (repairActive_only off _)) rfl rfl⟩
    · rw [hn.activeOf_eq rfl rfl]
      exact activeOf_setActive_same _ _ _
    · obtain ⟨_, _, _, _, _, hbad, _⟩ := hn.regs_eq rfl
      exact hbad ▸ not_mem_mark_false off s.regs.badActive
    · rw [hn.activeOf_eq rfl rfl]
      exact activeOf_setActive_other off o (shadowOf s off) (walked place s) ho
  · refine ⟨_, exec_parityWalk hawake ht hw, ?_⟩
    rw [walkWord_repairsShadow (s := walked place s) hsh hp hf ha hs]
    have hn := notedRepair_only off false (reloadWord off (walked place s))
    refine ⟨?_, ?_, fun o ho => ?_, hn.keeps .active rfl, (notedRepair_raised off false _).after
      (((walked_only place s).mono rfl).trans (reloadWord_only off _)) rfl rfl⟩
    · rw [hn.shadowOf_eq rfl rfl]
      exact shadowOf_reloadWord_same off _
    · obtain ⟨_, _, _, _, hbad, _⟩ := hn.regs_eq rfl
      exact hbad ▸ not_mem_mark_false off s.regs.badShadow
    · rw [hn.shadowOf_eq rfl rfl]
      exact shadowOf_reloadWord_other ho _
  · refine ⟨_, exec_genParinjWrite hawake hreach page go, ?_⟩
    rw [secureCmd_secure hsec, live_respond]
    exact ⟨live_setLive_same _ _ _, ((parinjWrite_only _ _).mono rfl).via (respond_only _ _ _) rfl⟩
  · rw [exec_genParinjWrite hawake hreach, secureCmd_nonsecure hsec]
  · rw [writeShadow_injected h]
    exact ⟨mem_mark_true _ _, injArmed_cleared _ _⟩

end Sys2Proof.Machine
end

section
/-! SUPPORT. Cells and clusters: isolation, the takeover by a spare, Schuss, cell commands and trims. -/

namespace Sys2Proof.Machine

/-! ### Sources that stay registered -/

/-- What `s` has registered, `t` has registered. -/
def KeepsRaised (s t : State) : Prop := s.flt.regq ⊆ t.flt.regq

theorem KeepsRaised.refl (s : State) : KeepsRaised s s := fun _ h => h

theorem KeepsRaised.trans {s t u : State} (h : KeepsRaised s t) (k : KeepsRaised t u) : KeepsRaised s u := fun _ hr => k (h hr)

theorem Only.keepsRaised {l : List Part} {s t : State} (h : Only l s t) (hf : l.contains .flt = false) : KeepsRaised s t := by
  unfold KeepsRaised
  rw [show t.flt = s.flt from h.keeps .flt hf]
  exact List.Subset.refl _

theorem raise_keepsRaised (src det : Nat) (s : State) : KeepsRaised s (raise src det s) := List.subset_append_left _ _

theorem raiseOn_keepsRaised (src det page bit : Nat) (s : State) : KeepsRaised s (raiseOn src det page bit s) :=
  (raise_keepsRaised src det s).trans ((pageFlt_only _ _ _).keepsRaised rfl)

theorem KeepsRaised.when {f : State → State} (h : ∀ s, KeepsRaised s (f s)) (b : Bool) (s : State) : KeepsRaised s (when b f s) := by
  cases b with
  | false => exact KeepsRaised.refl s
  | true => exact h s

theorem KeepsRaised.foldl {α : Type} {f : State → α → State} (h : ∀ s x, KeepsRaised s (f s x)) (l : List α) (s : State) :
    KeepsRaised s (l.foldl f s) := by
  induction l generalizing s with
  | nil => exact KeepsRaised.refl s
  | cons x l ih => exact (h s x).trans (ih _)

theorem RaisedAmong.kept {src det : Nat} {s t u : State} (h : RaisedAmong src det s t) (hk : KeepsRaised t u) :
    RaisedAmong src det s u := hk h

theorem RaisedAmong.after {l : List Part} {src det : Nat} {s t u : State} (h : RaisedAmong src det t u) (hl : Only l s t)
    (ht : l.contains .time = false) : RaisedAmong src det s u := by
  unfold RaisedAmong at h ⊢
  rwa [hl.now_eq ht, hl.tick_eq ht] at h

/-! ### A field of a cluster that an operation leaves -/

theorem clu_setClu_proj {β : Type} (p : Cluster → β) {g : Nat} {x : Cluster} {s : State} (hx : p x = p (clu s g)) (h : Nat) :
    p (clu (setClu g x s) h) = p (clu s h) := by
  by_cases hg : h = g
  · rw [hg, clu_setClu_same, hx]
  · rw [clu_setClu_other hg]

theorem clu_modClu_proj {β : Type} (p : Cluster → β) {f : Cluster → Cluster} (hf : ∀ c, p (f c) = p c) (g : Nat) (s : State)
    (h : Nat) : p (clu (modClu g f s) h) = p (clu s h) := clu_setClu_proj p (hf _) h

theorem clu_judgeBeyond_proj {β : Type} (p : Cluster → β) (hp : ∀ c b, p { c with beyond := b } = p c) (g : Nat) (s : State)
    (h : Nat) : p (clu (judgeBeyond g s) h) = p (clu s h) := by
  have hset : ∀ b, Only [.live, .flt, .seat] (setClu g { clu s g with beyond := b } s) (judgeBeyond g s) → 
      p (clu (judgeBeyond g s) h) = p (clu s h) := fun b hb => by
    rw [hb.clu_eq rfl]
    exact clu_setClu_proj p (hp _ _) h
  exact hset _ (((noteBeyond_only _ _ _).mono rfl).when _ _ fun _ => (raiseOn_only _ _ _ _ _).mono rfl)

theorem clu_releaseSchuss_proj {β : Type} (p : Cluster → β)
    (hp : ∀ c w x y z, p { c with schuss := w, stretch := x, releaseAt := y, activeAt := z } = p c) (g : Nat) (s : State) (h : Nat) :
    p (clu (releaseSchuss g s) h) = p (clu s h) := by
  unfold releaseSchuss
  dsimp only
  split
  · rfl
  · have hlive : Only [.live] s (when (decide ((live (setLive (cluReg g 0x218 32) (BitVec.ofNat 32 (now s - (clu s g).tripAt)) s)
        (cluReg g 0x21C 32)).toNat < now s - (clu s g).tripAt))
        (setLive (cluReg g 0x21C 32) (BitVec.ofNat 32 (now s - (clu s g).tripAt)))
        (setLive (cluReg g 0x218 32) (BitVec.ofNat 32 (now s - (clu s g).tripAt)) s)) :=
      (setLive_only _ _ s).when _ _ fun _ => setLive_only _ _ _
    rw [clu_setClu_proj p (by rw [hlive.clu_eq rfl]; exact hp _ _ _ _ _), hlive.clu_eq rfl]

theorem clu_schussCheck_proj {β : Type} (p : Cluster → β)
    (hp : ∀ c w x y z, p { c with schuss := w, stretch := x, releaseAt := y, activeAt := z } = p c) (g : Nat) (s : State) (h : Nat) :
    p (clu (schussCheck g s) h) = p (clu s h) := by
  unfold schussCheck
  split
  · exact clu_releaseSchuss_proj p hp g s h
  · rfl

theorem judgeBeyond_keepsRaised (g : Nat) (s : State) : KeepsRaised s (judgeBeyond g s) :=
  (((setClu_only _ _ s).mono rfl).via (noteBeyond_only _ _ _) rfl : Only [.clus, .seat] s _).keepsRaised rfl |>.trans
    (KeepsRaised.when (fun _ => raiseOn_keepsRaised _ _ _ _ _) _ _)

/-! ### Cells brought in -/

theorem clu_putTake (t : Takeover) (g : Nat) (s : State) : clu (putTake t g s) g =
    { clu s g with takes := (clu s g).takes.filter (fun x => x.spare != t.spare) ++ [t] } := clu_modClu_same _ _ _

theorem clu_dropTake (g n : Nat) (s : State) : clu (dropTake g n s) g =
    { clu s g with takes := (clu s g).takes.filter (fun x => x.spare != n) } := clu_modClu_same _ _ _

theorem retest_putTake (t : Takeover) (g : Nat) (s : State) (h : Nat) : (clu (putTake t g s) h).retest = (clu s h).retest :=
  clu_modClu_proj Cluster.retest (f := fun c => { c with takes := c.takes.filter (fun x => x.spare != t.spare) ++ [t] })
    (fun _ => rfl) g s h

theorem retest_dropTake (g n : Nat) (s : State) (h : Nat) : (clu (dropTake g n s) h).retest = (clu s h).retest :=
  clu_modClu_proj Cluster.retest (f := fun c => { c with takes := c.takes.filter (fun x => x.spare != n) }) (fun _ => rfl) g s h

/-- A cell that has just begun to be brought in is brought in for that. -/
theorem takeFor_putTake (t : Takeover) (g : Nat) (s : State) : takeFor (clu (putTake t g s) g) t.spare = some t := by
  rw [clu_putTake]
  unfold takeFor
  rw [List.find?_append, List.find?_eq_none.mpr fun x hx => ?_]
  · simp
  · have := (List.mem_filter.mp hx).2
    simpa using this

theorem takeFor_dropTake (g n : Nat) (s : State) : takeFor (clu (dropTake g n s) g) n = none := by
  rw [clu_dropTake]
  refine List.find?_eq_none.mpr fun x hx => ?_
  simpa using (List.mem_filter.mp hx).2

theorem takeKind_none {c : Cluster} {k : TakeKind} : takeKind c k = none ↔ ∀ t ∈ c.takes, t.kind ≠ k := by
  unfold takeKind
  rw [List.find?_eq_none]
  simp

theorem fillDuty_cases (g : Nat) (s : State) : fillDuty g s = s ∨ ∃ n, fillDuty g s = beginDuty g n s := by
  unfold fillDuty
  split
  · split
    · exact .inr ⟨_, rfl⟩
    · exact .inl rfl
  · exact .inl rfl

theorem beginDuty_clu (g n : Nat) (s : State) (h : Nat) : clu (beginDuty g n s) h = clu (putTake ⟨n, n, now s, .duty⟩ g s) h :=
  (ringAsk_only _ _ _).clu_eq rfl h

theorem retest_fillDuty (g : Nat) (s : State) (h : Nat) : (clu (fillDuty g s) h).retest = (clu s h).retest := by
  rcases fillDuty_cases g s with e | ⟨n, e⟩
  · rw [e]
  · rw [e, beginDuty_clu, retest_putTake]

/-- A cell brought into duty is no rotation. -/
theorem noRotation_fillDuty {g : Nat} {s : State} (h : takeKind (clu s g) .rotation = none) :
    takeKind (clu (fillDuty g s) g) .rotation = none := by
  rcases fillDuty_cases g s with e | ⟨n, e⟩
  · rw [e, h]
  · rw [e, beginDuty_clu, clu_putTake, takeKind_none]
    intro t ht
    rcases List.mem_append.mp ht with ht | ht
    · exact takeKind_none.mp h t (List.mem_of_mem_filter ht)
    · rw [List.mem_singleton.mp ht]
      exact fun hc => nomatch hc

/-- What a lost incoming cell leaves before the free place is filled. -/
def takeEnded (g : Nat) (t : Takeover) (n : Nat) (s : State) : State :=
  when (t.kind == .rotation) (fun s => ownerResetIn (cluQuad g) 5 (raise Src.CLU_ROTATE_ABORT g s)) (dropTake g n s)

theorem takeEnded_clu (g : Nat) (t : Takeover) (n : Nat) (s : State) (h : Nat) :
    clu (takeEnded g t n s) h = clu (dropTake g n s) h :=
  (Only.when (l := [.flt, .rings]) (Only.refl _ _) _ _ fun _ => ((raise_only _ _ _).mono rfl).via (ownerResetIn_only _ _ _) rfl).clu_eq
    rfl h

theorem incomingLost_some {g n : Nat} {s : State} {t : Takeover} (h : takeFor (clu s g) n = some t) :
    incomingLost g n s = fillDuty g (takeEnded g t n s) := by
  unfold incomingLost
  rw [h]
  rfl

theorem incomingLost_none {g n : Nat} {s : State} (h : takeFor (clu s g) n = none) : incomingLost g n s = s := by
  unfold incomingLost
  rw [h]

theorem retest_incomingLost (g n : Nat) (s : State) (h : Nat) : (clu (incomingLost g n s) h).retest = (clu s h).retest := by
  cases ht : takeFor (clu s g) n with
  | none => rw [incomingLost_none ht]
  | some t => rw [incomingLost_some ht, retest_fillDuty, takeEnded_clu, retest_dropTake]

theorem noRotation_incomingLost {g n : Nat} {s : State} (h : takeKind (clu s g) .rotation = none) :
    takeKind (clu (incomingLost g n s) g) .rotation = none := by
  cases ht : takeFor (clu s g) n with
  | none => rw [incomingLost_none ht, h]
  | some t =>
    rw [incomingLost_some ht]
    refine noRotation_fillDuty ?_
    rw [takeEnded_clu, clu_dropTake, takeKind_none]
    exact fun x hx => takeKind_none.mp h x (List.mem_of_mem_filter hx)

theorem fillDuty_keepsRaised (g : Nat) (s : State) : KeepsRaised s (fillDuty g s) := (fillDuty_only g s).keepsRaised rfl

theorem incomingLost_keepsRaised (g n : Nat) (s : State) : KeepsRaised s (incomingLost g n s) := by
  cases ht : takeFor (clu s g) n with
  | none =>
    rw [incomingLost_none ht]
    exact KeepsRaised.refl s
  | some t =>
    rw [incomingLost_some ht]
    refine (((dropTake_only g n s).keepsRaised rfl).trans (KeepsRaised.when (fun u => ?_) _ _)).trans (fillDuty_keepsRaised g _)
    exact (raise_keepsRaised _ _ u).trans ((ownerResetIn_only _ _ _).keepsRaised rfl)

/-! ### A cell lost to its cluster -/

theorem abandonRetrim_none {g : Nat} {s : State} (h : (clu s g).retest = none) : abandonRetrim g s = s := by
  unfold abandonRetrim
  rw [h]

theorem cell_abandonRetrim {g n : Nat} {s : State} (h : ∀ r, (clu s g).retest = some r → r.cell ≠ n) :
    cell (abandonRetrim g s) n = cell s n := by
  unfold abandonRetrim
  split
  · next r hr =>
    split
    · exact ((modClu_only _ _ _).cell_eq rfl n).trans ((cell_modCell_other (h r hr).symm _ _).trans ((dropTrim_only _ _).cell_eq rfl n))
    · rfl
  · rfl

theorem cellLost_noRotation {g n : Nat} {s : State} (h : takeKind (clu (abandonRetrim g s) g) .rotation = none) :
    cellLost g n s = beginTakeover g n (abandonRetrim g s) := by
  unfold cellLost
  dsimp only
  rw [h]

/-- A rotation under way becomes a takeover. -/
def turnRotation (g n : Nat) (t : Takeover) (s : State) : State :=
  modClu g (fun c => { c with rotAt := powered s })
    (modCell t.spare (fun c => { c with spdes := false }) (putTake { t with kind := .takeover, outgoing := n } g s))

/-- The isolator's run for a rotation that became a takeover. -/
def rotationRun (g n : Nat) (t : Takeover) (s : State) : State :=
  presentIso (cluQuad g) (jobTxn 7 (g % 64) (.markFailed n) (now s + 8) ::
      (if (cell (turnRotation g n t s) t.spare).state = .standby then [jobTxn 7 (g % 64) (.startSpare g t.spare) (now s + 8)] else []))
    (ownerResetIn (cluQuad g) 5 (turnRotation g n t s))

theorem cellLost_rotation {g n : Nat} {s : State} {t : Takeover} (h : takeKind (clu (abandonRetrim g s) g) .rotation = some t) :
    cellLost g n s = if (cell (rotationRun g n t (abandonRetrim g s)) t.spare).state = .regulate
      then takeoverDone g t.spare (rotationRun g n t (abandonRetrim g s)) else rotationRun g n t (abandonRetrim g s) := by
  have hnow : now (abandonRetrim g s) = now s := (abandonRetrim_only g s).now_eq rfl
  unfold cellLost rotationRun
  dsimp only
  rw [h, hnow]
  rfl

theorem rotationRun_only (g n : Nat) (t : Takeover) (s : State) : Only [.rings] (turnRotation g n t s) (rotationRun g n t s) :=
  (ownerResetIn_only _ _ _).trans (presentIso_only _ _ _)

theorem turnRotation_only (g n : Nat) (t : Takeover) (s : State) : Only [.cells, .clus] s (turnRotation g n t s) :=
  (((putTake_only _ _ _).mono rfl).via (modCell_only _ _ _) rfl).via (modClu_only _ _ _) rfl

theorem cell_turnRotation (g n : Nat) (t : Takeover) (s : State) (m : Nat) :
    cell (turnRotation g n t s) m = if m = t.spare then { cell s m with spdes := false } else cell s m := by
  have hput : ∀ m, cell (putTake { t with kind := .takeover, outgoing := n } g s) m = cell s m := (putTake_only _ _ _).cell_eq rfl
  have hclu : cell (turnRotation g n t s) m =
      cell (modCell t.spare (fun c => { c with spdes := false }) (putTake { t with kind := .takeover, outgoing := n } g s)) m :=
    (modClu_only _ _ _).cell_eq rfl m
  rw [hclu]
  split
  · next h => rw [h, cell_modCell_same, hput]
  · next h => rw [cell_modCell_other h, hput]

/-- The loss of a cell from REGULATE leaves what that cell itself has become. -/
theorem cell_cellLost {n : Nat} {s : State} (hr : noRetestOf s n) (hd : (cell s n).spdes = false) :
    cell (cellLost (n / 16) n s) n = cell s n := by
  have hab := cell_abandonRetrim hr
  cases ht : takeKind (clu (abandonRetrim (n / 16) s) (n / 16)) .rotation with
  | none =>
    rw [cellLost_noRotation ht, (beginTakeover_only _ _ _).cell_eq rfl, hab]
  | some t =>
    have hrun : cell (rotationRun (n / 16) n t (abandonRetrim (n / 16) s)) n = cell s n := by
      rw [(rotationRun_only _ _ _ _).cell_eq rfl, cell_turnRotation, hab]
      split
      · rw [← hd]
      · rfl
    rw [cellLost_rotation ht]
    split
    · rw [(takeoverDone_only _ _ _).cell_eq rfl, hrun]
    · exact hrun

theorem cellLost_keepsRaised (g n : Nat) (s : State) : KeepsRaised s (cellLost g n s) := by
  have hab : KeepsRaised s (abandonRetrim g s) := (abandonRetrim_only g s).keepsRaised rfl
  cases ht : takeKind (clu (abandonRetrim g s) g) .rotation with
  | none =>
    rw [cellLost_noRotation ht]
    exact hab.trans ((beginTakeover_only _ _ _).keepsRaised rfl)
  | some t =>
    have hrun : KeepsRaised s (rotationRun g n t (abandonRetrim g s)) :=
      (hab.trans ((turnRotation_only _ _ _ _).keepsRaised rfl)).trans ((rotationRun_only _ _ _ _).keepsRaised rfl)
    rw [cellLost_rotation ht]
    split
    · exact (hrun.trans ((((dropTake_only _ _ _).mono rfl).via (bump_only _ _) rfl : Only [.clus, .live] _ _).keepsRaised rfl)).trans
        (raise_keepsRaised _ _ _)
    · exact hrun

/-! ### Isolation -/

/-- A cell taken out of its cluster and counted, before what follows in the cluster. -/
def takenOut (n cause : Nat) (s : State) : State :=
  countIsolation n (setCell n { cell s n with
    state := .isolated, legs := 0, cause := cause, spdes := false, passWait := false, trimmed := false } s)

theorem takenOut_only (n cause : Nat) (s : State) : Only [.cells, .wears] s (takenOut n cause s) :=
  ((setCell_only _ _ _).mono rfl).via (countIsolation_only _ _) rfl

theorem cell_takenOut_same (n cause : Nat) (s : State) : cell (takenOut n cause s) n = { cell s n with
    state := .isolated, legs := 0, cause := cause, spdes := false, passWait := false, trimmed := false } :=
  ((countIsolation_only _ _).cell_eq rfl n).trans (cell_setCell_same _ _ _)

theorem cell_takenOut_other {n m : Nat} (h : m ≠ n) (cause : Nat) (s : State) : cell (takenOut n cause s) m = cell s m :=
  ((countIsolation_only _ _).cell_eq rfl m).trans (cell_setCell_other h _ _)

theorem wear_takenOut (n cause : Nat) (s : State) : (wear (takenOut n cause s) n).isol = (wear s n).isol + 1 := by
  have h : wear (takenOut n cause s) n = { wear s n with isol := (wear s n).isol + 1 } := wear_setWear_same _ _ _
  rw [h]

/-- The bring-in that a lost cell ends. -/
def bringInEnded (n cause : Nat) (s : State) : State :=
  when ((cell s n).state == .start || (cell s n).state == .standby || (cell s n).state == .regulate) (incomingLost (n / 16) n)
    (takenOut n cause s)

theorem isolate_eq (n cause : Nat) (s : State) : isolate n cause s = schussCheck (n / 16) (judgeBeyond (n / 16)
    (when ((cell s n).state == .regulate) (cellLost (n / 16) n) (bringInEnded n cause s))) := rfl

theorem bringInEnded_only (n cause : Nat) (s : State) : Only [.clus, .flt, .rings] (takenOut n cause s) (bringInEnded n cause s) :=
  (Only.refl _ _).when _ _ fun _ => incomingLost_only _ _ _

theorem judged_only (g : Nat) (s : State) : Only [.live, .clus, .flt, .seat] s (schussCheck g (judgeBeyond g s)) :=
  (judgeBeyond_only g s).via (schussCheck_only _ _) rfl

theorem retest_bringInEnded (n cause : Nat) (s : State) (h : Nat) : (clu (bringInEnded n cause s) h).retest = (clu s h).retest := by
  have hout : (clu (takenOut n cause s) h).retest = (clu s h).retest := congrArg Cluster.retest ((takenOut_only n cause s).clu_eq rfl h)
  unfold bringInEnded when
  split
  · rw [retest_incomingLost, hout]
  · exact hout

theorem noRotation_bringInEnded {n cause : Nat} {s : State} (h : takeKind (clu s (n / 16)) .rotation = none) :
    takeKind (clu (bringInEnded n cause s) (n / 16)) .rotation = none := by
  have hout : takeKind (clu (takenOut n cause s) (n / 16)) .rotation = none := by rwa [(takenOut_only n cause s).clu_eq rfl]
  unfold bringInEnded when
  split
  · exact noRotation_incomingLost hout
  · exact hout

/-- An isolated cell, whatever follows in its cluster. -/
theorem cell_isolate_same {n : Nat} {s : State} (cause : Nat) (h : noRetestOf s n ∨ (cell s n).state ≠ .regulate) :
    cell (isolate n cause s) n = { cell s n with
      state := .isolated, legs := 0, cause := cause, spdes := false, passWait := false, trimmed := false } := by
  have hin : cell (bringInEnded n cause s) n = _ := ((bringInEnded_only n cause s).cell_eq rfl n).trans (cell_takenOut_same n cause s)
  rw [isolate_eq, (judged_only _ _).cell_eq rfl, ← hin]
  cases hreg : (cell s n).state == .regulate with
  | false => rfl
  | true =>
    refine cell_cellLost (h.elim (fun hr r hs => hr r ?_) fun hne => absurd (eq_of_beq hreg) hne) (by rw [hin])
    rwa [retest_bringInEnded] at hs

/-- Without a procedure or a rotation in the cluster no other cell changes. -/
theorem cell_isolate_other {n m : Nat} {s : State} (cause : Nat) (hr : (clu s (n / 16)).retest = none)
    (hk : takeKind (clu s (n / 16)) .rotation = none) (hm : m ≠ n) : cell (isolate n cause s) m = cell s m := by
  have hin : cell (bringInEnded n cause s) m = cell s m :=
    ((bringInEnded_only n cause s).cell_eq rfl m).trans (cell_takenOut_other hm cause s)
  rw [isolate_eq, (judged_only _ _).cell_eq rfl, ← hin]
  have hab : abandonRetrim (n / 16) (bringInEnded n cause s) = bringInEnded n cause s :=
    abandonRetrim_none ((retest_bringInEnded n cause s _).trans hr)
  cases (cell s n).state == .regulate with
  | false => rfl
  | true =>
    refine (congrArg (cell · m) (cellLost_noRotation (by rw [hab]; exact noRotation_bringInEnded hk))).trans ?_
    rw [(beginTakeover_only _ _ _).cell_eq rfl, hab]

theorem wear_isolate (n cause : Nat) (s : State) : (wear (isolate n cause s) n).isol = (wear s n).isol + 1 := by
  have h : Only [.live, .regs, .cells, .clus, .flt, .rings] (bringInEnded n cause s)
      (when ((cell s n).state == .regulate) (cellLost (n / 16) n) (bringInEnded n cause s)) :=
    (Only.refl _ _).when _ _ fun _ => cellLost_only _ _ _
  rw [isolate_eq, (judged_only _ _).wear_eq rfl, h.wear_eq rfl, (bringInEnded_only n cause s).wear_eq rfl, wear_takenOut]

theorem isolate_isolated {n : Nat} {s : State} (cause : Nat) (h : noRetestOf s n) : IsolatedFor n cause s (isolate n cause s) := by
  have hc := cell_isolate_same cause (.inl h)
  exact ⟨by rw [hc], by rw [hc], by rw [hc], by rw [hc], wear_isolate n cause s, fun hr hk m hm => cell_isolate_other cause hr hk hm⟩

theorem isolate_keepsRaised (n cause : Nat) (s : State) : KeepsRaised s (isolate n cause s) := by
  rw [isolate_eq]
  refine KeepsRaised.trans ?_ ((judgeBeyond_keepsRaised _ _).trans ((schussCheck_only _ _).keepsRaised rfl))
  refine KeepsRaised.trans ?_ (KeepsRaised.when (cellLost_keepsRaised _ _) _ _)
  exact ((takenOut_only n cause s).keepsRaised rfl).trans (KeepsRaised.when (incomingLost_keepsRaised _ _) _ _)

/-- An isolation after operations that leave the cells and clusters. -/
theorem IsolatedFor.after {l : List Part} {n cause : Nat} {s t u : State} (h : IsolatedFor n cause t u) (hl : Only l s t)
    (hc : l.contains .cells = false) (hk : l.contains .clus = false) (hw : l.contains .wears = false) : IsolatedFor n cause s u := by
  unfold IsolatedFor at h ⊢
  rw [hl.clu_eq hk, hl.wear_eq hw] at h
  simpa only [hl.cell_eq hc] using h

theorem noRetestOf_of {s t : State} {n : Nat} (h : clu t (n / 16) = clu s (n / 16)) (hr : noRetestOf s n) : noRetestOf t n := by
  unfold noRetestOf
  rwa [h]

/-- A fault of a cell isolates it and is raised. -/
theorem cellFault_isolated {src n : Nat} {s : State} (cause : Nat) (h : noRetestOf s n) :
    IsolatedFor n cause s (cellFault src n cause s) ∧ RaisedAmong src n s (cellFault src n cause s) := by
  have hr := raiseOn_only src n (0x80 + n / 64) 17 s
  exact ⟨(isolate_isolated cause (noRetestOf_of (hr.clu_eq rfl _) h)).after hr rfl rfl rfl,
    (raiseOn_raised _ _ _ _ _).among.kept (isolate_keepsRaised _ _ _)⟩

/-! ### Cell faults (O27) -/

theorem retestLegs_of {s : State} {n : Nat} {r : Retest} (hs : (cell s n).state = .retest)
    (hr : (clu s (n / 16)).retest = some r) (hn : r.cell = n) (h1 : r.step = 1) (ht : r.from0 + 4 ≤ now s) :
    retestLegs s n = true := by
  simp [retestLegs, hs, hr, hn, h1, ht]

theorem exec_legStuckOff {s : State} {n pos : Nat} (hawake : awake s = true) (hok : cellOk s n = true)
    (h : (headerClosed (cell s n) = true ∧ pos < (cell s n).legs) ∨ (retestLegs s n = true ∧ pos < 64)) :
    exec (.legStuckOff n pos) s = .next (if (cell s n).map.length + (cell s n).waiting.length < 4
      then setCell n { cell s n with waiting := (cell s n).waiting ++ [(pos, now s)] } s else legsExhausted n s) :=
  act_runs hawake (by rcases h with ⟨h1, h2⟩ | ⟨h1, h2⟩ <;> simp [hok, h1, h2])

theorem exec_legStuckOff_waits {s : State} {n pos : Nat} (hawake : awake s = true) (hok : cellOk s n = true)
    (h : (headerClosed (cell s n) = true ∧ pos < (cell s n).legs) ∨ (retestLegs s n = true ∧ pos < 64))
    (h4 : (cell s n).map.length + (cell s n).waiting.length < 4) :
    exec (.legStuckOff n pos) s = .next (setCell n { cell s n with waiting := (cell s n).waiting ++ [(pos, now s)] } s) :=
  (exec_legStuckOff hawake hok h).trans (congrArg _ (if_pos h4))

theorem exec_legStuckOff_fifth {s : State} {n pos : Nat} (hawake : awake s = true) (hok : cellOk s n = true)
    (h : (headerClosed (cell s n) = true ∧ pos < (cell s n).legs) ∨ (retestLegs s n = true ∧ pos < 64))
    (h4 : 4 ≤ (cell s n).map.length + (cell s n).waiting.length) :
    exec (.legStuckOff n pos) s = .next (legsExhausted n s) :=
  (exec_legStuckOff hawake hok h).trans (congrArg _ (if_neg (Nat.not_lt.mpr h4)))

theorem headerClosed_retest {c : Cell} (h : c.state = .retest) : headerClosed c = false := by
  unfold headerClosed
  rw [h]
  rfl

/-- Settles O27. -/
theorem cellFaults : Obligations.CellFaults := by
  refine ⟨⟨fun s n pos hawake hok hc hp h4 => ?_, fun s n pos hawake hok hc hp h4 hr => ?_,
    fun s n pos t0 rest hawake hok hw ht => ?_, fun s n pos r hawake hok hs hr hn h1 ht hp => ?_⟩, fun s n hawake hok hr => ⟨fun hc => ?_, fun hd => ?_⟩⟩
  · exact ⟨_, exec_legStuckOff_waits hawake hok (.inl ⟨hc, hp⟩) h4, cell_setCell_same _ _ _,
      fun m hm => cell_setCell_other hm _ _, setCell_only _ _ _⟩
  · refine ⟨_, exec_legStuckOff_fifth hawake hok (.inl ⟨hc, hp⟩) h4, ?_⟩
    rw [show legsExhausted n s = cellFault Src.CELL_LEGS_EXHAUSTED n 2 s from if_pos hc]
    exact cellFault_isolated 2 hr
  · refine ⟨raise Src.CELL_LEG_SPARED n (setCell n { cell s n with map := (cell s n).map ++ [pos], waiting := rest } s), ?_,
      cell_setCell_same _ _ _, fun m hm => cell_setCell_other hm _ _, (raise_raised _ _ _).after (setCell_only _ _ _) rfl rfl,
      ((setCell_only _ _ _).mono rfl).via (raise_only _ _ _) rfl⟩
    unfold exec execCellLegSpared
    dsimp only
    rw [hw]
    exact act_runs hawake (by simp [hok, ht])
  · have hlegs := retestLegs_of hs hr hn h1 ht
    by_cases h4 : (cell s n).map.length + (cell s n).waiting.length < 4
    · exact ⟨_, exec_legStuckOff_waits hawake hok (.inr ⟨hlegs, hp⟩) h4, fun _ => ⟨cell_setCell_same _ _ _, setCell_only _ _ _⟩,
        fun h => absurd h4 (Nat.not_lt.mpr h)⟩
    · refine ⟨_, exec_legStuckOff_fifth hawake hok (.inr ⟨hlegs, hp⟩) (Nat.not_lt.mp h4), fun h => absurd h h4, fun _ => ?_⟩
      rw [show legsExhausted n s = modClu (n / 16) (fun c => { c with retest := c.retest.map (fun r => { r with bad := true }) }) s
        from if_neg (by rw [headerClosed_retest hs]; decide), clu_modClu_same, hr]
      exact ⟨rfl, modClu_only _ _ _⟩
  · exact ⟨⟨_, act_runs hawake (by simp [hok, hc]), cellFault_isolated 1 hr⟩, ⟨_, act_runs hawake (by simp [hok, hc]), cellFault_isolated 3 hr⟩⟩
  · exact ⟨_, act_runs hawake (by simp [hok, hd]), cellFault_isolated 4 hr⟩

end Sys2Proof.Machine
end

section
/-! SUPPORT. Cells and clusters: the takeover by a spare, Schuss, cell commands and trims. -/

namespace Sys2Proof.Machine

/-! ### Transactions of the ring -/

/-- Outside a lock a write that is not void reaches its stop. -/
theorem completeTxn_plain {s : State} {q : Nat} {x : Txn} (rd : Word) (hl : (ring s q).lock = none)
    (hv : (ring s q).voidWr = false) (hw : x.write = true) (hj : x.job ≠ .debug) :
    completeTxn q x rd s = deliverTxn q x (modRing q (fun r => { r with current := none, voidWr := false }) s) := by
  have hlock : (ring (modRing q (fun r => { r with current := none, voidWr := false }) s) q).lock = none := by
    rw [ring_modRing_same, hl]
  unfold completeTxn debugDone
  dsimp only
  rw [if_neg hj, hlock, hv, hw]
  rfl

theorem exec_ringTransactionComplete {s : State} {q : Nat} {x : Txn} (rd : Word) (hawake : awake s = true) (hq : q < quads s)
    (ht : ringAt s 7 = true) (hc : (ring s q).current = some x) :
    exec (.ringTransactionComplete q rd) s = .next (completeTxn q x rd s) := by
  show execRingTransactionComplete q rd s = _
  unfold execRingTransactionComplete
  rw [hc]
  exact act_runs hawake (by simp [hq, ht])

/-- The run of the isolator: two transactions of one stamp, behind those stamped no later. -/
theorem iso_presentIso {s : State} {q : Nat} (a b : Txn) (hab : b.stamp = a.stamp)
    (h : ∀ x, x ∈ (ring s q).iso → x.stamp ≤ a.stamp) : (ring (presentIso q [a, b] s) q).iso = (ring s q).iso ++ [a, b] := by
  have keep : ∀ l : List Txn, (∀ x ∈ l, x.stamp ≤ a.stamp) → l.filter (fun x => decide (x.stamp ≤ a.stamp)) = l :=
    fun l hl => List.filter_eq_self.mpr fun x hx => decide_eq_true (hl x hx)
  have none' : ∀ l : List Txn, (∀ x ∈ l, x.stamp ≤ a.stamp) → l.filter (fun x => decide (a.stamp < x.stamp)) = [] :=
    fun l hl => List.filter_eq_nil_iff.mpr fun x hx => by simpa using hl x hx
  have h1 : ∀ x ∈ (ring s q).iso ++ [a], x.stamp ≤ a.stamp := fun x hx => by
    rcases List.mem_append.mp hx with hx | hx
    · exact h x hx
    · exact (congrArg Txn.stamp (List.mem_singleton.mp hx)).le
  unfold presentIso
  rw [ring_modRing_same]
  dsimp only
  rw [List.foldl_cons, List.foldl_cons, List.foldl_nil, keep _ h, none' _ h, hab, keep _ h1, none' _ h1, List.append_assoc]
  rfl

/-! ### The takeover (O28) -/

theorem callable_eq_of {s t : State} {g : Nat} (hc : ∀ m, ((cell t m).state == .standby) = ((cell s m).state == .standby))
    (hk : clu t g = clu s g) : callable t g = callable s g := by
  unfold callable standbys inState
  rw [hk]
  congr 1
  exact List.filter_congr fun m _ => hc m

theorem Only.callable_eq {l : List Part} {s t : State} (h : Only l s t) (hc : l.contains .cells = false)
    (hk : l.contains .clus = false) (g : Nat) : callable t g = callable s g :=
  callable_eq_of (fun m => by rw [h.cell_eq hc]) (h.clu_eq hk g)

theorem standby_takenOut {n : Nat} {s : State} (cause : Nat) (hreg : (cell s n).state = .regulate) (m : Nat) :
    ((cell (takenOut n cause s) m).state == .standby) = ((cell s m).state == .standby) := by
  by_cases hm : m = n
  · subst hm
    rw [cell_takenOut_same, hreg]
    rfl
  · rw [cell_takenOut_other hm]

theorem takeFor_judged (g h n : Nat) (s : State) :
    takeFor (clu (schussCheck g (judgeBeyond g s)) h) n = takeFor (clu s h) n :=
  (clu_schussCheck_proj (fun c => takeFor c n) (fun _ _ _ _ _ => rfl) g _ h).trans
    (clu_judgeBeyond_proj (fun c => takeFor c n) (fun _ _ => rfl) g s h)

/-- A regulating cell that nothing brings in is taken out and lost to its cluster. -/
theorem isolate_lost {n : Nat} {s : State} (cause : Nat) (hreg : (cell s n).state = .regulate)
    (hfor : takeFor (clu s (n / 16)) n = none) :
    isolate n cause s = schussCheck (n / 16) (judgeBeyond (n / 16) (cellLost (n / 16) n (takenOut n cause s))) := by
  have hfor' : takeFor (clu (takenOut n cause s) (n / 16)) n = none := by rwa [(takenOut_only n cause s).clu_eq rfl]
  rw [isolate_eq]
  unfold bringInEnded
  rw [hreg]
  exact congrArg (fun u => schussCheck (n / 16) (judgeBeyond (n / 16) (cellLost (n / 16) n u))) (incomingLost_none hfor')

/-- The run of a takeover that begins in this tick. -/
def takeoverRun (g n sp : Nat) (s : State) : State :=
  presentIso (cluQuad g) [jobTxn 7 (g % 64) (.markFailed n) (now s + 8), jobTxn 7 (g % 64) (.startSpare g sp) (now s + 8)]
    (putTake ⟨sp, n, now s, .takeover⟩ g s)

theorem beginTakeover_callable {g n sp : Nat} {rest : List Nat} {s : State} (h : callable s g = sp :: rest) :
    beginTakeover g n s = takeoverRun g n sp s := by
  unfold beginTakeover
  rw [h]
  rfl

theorem cellLost_takeover {n sp : Nat} {rest : List Nat} {s : State} (cause : Nat) (hreg : (cell s n).state = .regulate)
    (hr : (clu s (n / 16)).retest = none) (hk : takeKind (clu s (n / 16)) .rotation = none)
    (hcall : callable s (n / 16) = sp :: rest) :
    cellLost (n / 16) n (takenOut n cause s) = takeoverRun (n / 16) n sp (takenOut n cause s) := by
  have hclu := (takenOut_only n cause s).clu_eq rfl (n / 16)
  have hab : abandonRetrim (n / 16) (takenOut n cause s) = takenOut n cause s := abandonRetrim_none (by rw [hclu, hr])
  rw [cellLost_noRotation (by rw [hab, hclu, hk]), hab]
  exact beginTakeover_callable ((callable_eq_of (standby_takenOut cause hreg) hclu).trans hcall)

theorem takeFor_takeoverRun (g n sp : Nat) (s : State) :
    takeFor (clu (takeoverRun g n sp s) g) sp = some ⟨sp, n, now s, .takeover⟩ := by
  have h := takeFor_putTake ⟨sp, n, now s, .takeover⟩ g s
  exact ((presentIso_only _ _ _).clu_eq rfl g).symm ▸ h

theorem iso_takeoverRun {g n sp : Nat} {s : State} (h : ∀ x, x ∈ (ring s (cluQuad g)).iso → x.stamp ≤ now s + 8) :
    (ring (takeoverRun g n sp s) (cluQuad g)).iso = (ring s (cluQuad g)).iso ++
      [jobTxn 7 (g % 64) (.markFailed n) (now s + 8), jobTxn 7 (g % 64) (.startSpare g sp) (now s + 8)] := by
  have hput := (putTake_only ⟨sp, n, now s, .takeover⟩ g s).ring_eq rfl (cluQuad g)
  refine (iso_presentIso (jobTxn 7 (g % 64) (.markFailed n) (now s + 8)) (jobTxn 7 (g % 64) (.startSpare g sp) (now s + 8)) rfl
    (by rw [hput]; exact h)).trans ?_
  rw [hput]

/-- The isolation of a regulating cell, where a spare stands by, begins the takeover. -/
theorem isolate_takeover {n sp : Nat} {rest : List Nat} {s : State} (cause : Nat) (hreg : (cell s n).state = .regulate)
    (hr : (clu s (n / 16)).retest = none) (hk : takeKind (clu s (n / 16)) .rotation = none)
    (hfor : takeFor (clu s (n / 16)) n = none) (hcall : callable s (n / 16) = sp :: rest)
    (hiso : ∀ x, x ∈ (ring s (cluQuad (n / 16))).iso → x.stamp ≤ now s + 8) :
    takeFor (clu (isolate n cause s) (n / 16)) sp = some ⟨sp, n, now s, .takeover⟩ ∧
      (ring (isolate n cause s) (cluQuad (n / 16))).iso = (ring s (cluQuad (n / 16))).iso ++
        [jobTxn 7 (n / 16 % 64) (.markFailed n) (now s + 8), jobTxn 7 (n / 16 % 64) (.startSpare (n / 16) sp) (now s + 8)] := by
  have hout := takenOut_only n cause s
  rw [isolate_lost cause hreg hfor, cellLost_takeover cause hreg hr hk hcall, takeFor_judged, takeFor_takeoverRun,
    (judged_only _ _).ring_eq rfl, iso_takeoverRun (by rw [hout.ring_eq rfl, hout.now_eq rfl]; exact hiso), hout.ring_eq rfl,
    hout.now_eq rfl]
  exact ⟨rfl, rfl⟩

/-- A rotation whose incoming cell stands by becomes the takeover of a lost cell. -/
theorem cellLost_turned {n : Nat} {k : Takeover} {s : State} (hr : (clu s (n / 16)).retest = none)
    (hk : takeKind (clu s (n / 16)) .rotation = some k) (hsp : (cell s k.spare).state = .standby) :
    cellLost (n / 16) n s = presentIso (cluQuad (n / 16))
      [jobTxn 7 (n / 16 % 64) (.markFailed n) (now s + 8), jobTxn 7 (n / 16 % 64) (.startSpare (n / 16) k.spare) (now s + 8)]
      (ownerResetIn (cluQuad (n / 16)) 5 (turnRotation (n / 16) n k s)) := by
  have hab : abandonRetrim (n / 16) s = s := abandonRetrim_none hr
  have hturn : (cell (turnRotation (n / 16) n k s) k.spare).state = .standby := by rw [cell_turnRotation, if_pos rfl, hsp]
  have hstate : (cell (rotationRun (n / 16) n k s) k.spare).state = .standby := by rw [(rotationRun_only _ _ _ _).cell_eq rfl, hturn]
  rw [cellLost_rotation (by rw [hab, hk]), hab, if_neg (by rw [hstate]; decide)]
  unfold rotationRun
  rw [if_pos hturn]

theorem iso_ownerResetIn (q r p : Nat) (s : State) : (ring (ownerResetIn q r s) p).iso = (ring s p).iso := by
  unfold ownerResetIn
  by_cases h : p = q
  · rw [h, ring_modRing_same]
  · rw [ring_modRing_other h]

theorem takeFor_turnRotation (g n : Nat) (k : Takeover) (s : State) :
    takeFor (clu (turnRotation g n k s) g) k.spare = some { k with kind := .takeover, outgoing := n } := by
  have hmod : takeFor (clu (turnRotation g n k s) g) k.spare =
      takeFor (clu (putTake { k with kind := .takeover, outgoing := n } g s) g) k.spare :=
    (clu_modClu_proj (fun c => takeFor c k.spare) (f := fun c => { c with rotAt := powered s }) (fun _ => rfl) _ _ _).trans
      (congrArg (takeFor · k.spare) ((modCell_only _ _ _).clu_eq rfl _))
  rw [hmod]
  exact takeFor_putTake { k with kind := .takeover, outgoing := n } g s

/-- The isolation of a regulating cell turns a rotation under way into its takeover. -/
theorem isolate_turned {n : Nat} {k : Takeover} {s : State} (cause : Nat) (hreg : (cell s n).state = .regulate)
    (hr : (clu s (n / 16)).retest = none) (hk : takeKind (clu s (n / 16)) .rotation = some k)
    (hfor : takeFor (clu s (n / 16)) n = none) (hsp : (cell s k.spare).state = .standby)
    (hiso : ∀ x, x ∈ (ring s (cluQuad (n / 16))).iso → x.stamp ≤ now s + 8) :
    takeFor (clu (isolate n cause s) (n / 16)) k.spare = some { k with kind := .takeover, outgoing := n } ∧
      (cell (isolate n cause s) k.spare).spdes = false ∧
      (ring (isolate n cause s) (cluQuad (n / 16))).iso = (ring s (cluQuad (n / 16))).iso ++
        [jobTxn 7 (n / 16 % 64) (.markFailed n) (now s + 8), jobTxn 7 (n / 16 % 64) (.startSpare (n / 16) k.spare) (now s + 8)] := by
  have hne : k.spare ≠ n := fun h => by rw [h, hreg] at hsp; cases hsp
  have hout := takenOut_only n cause s
  have hclu := hout.clu_eq rfl (n / 16)
  have hturn := turnRotation_only (n / 16) n k (takenOut n cause s)
  have hrings : ∀ p, (ring (ownerResetIn (cluQuad (n / 16)) 5 (turnRotation (n / 16) n k (takenOut n cause s))) p).iso = (ring s p).iso :=
    fun p => by rw [iso_ownerResetIn, hturn.ring_eq rfl, hout.ring_eq rfl]
  rw [isolate_lost cause hreg hfor, cellLost_turned (by rw [hclu, hr]) (by rw [hclu, hk]) (by rw [cell_takenOut_other hne, hsp]),
    takeFor_judged, (judged_only _ _).cell_eq rfl, (judged_only _ _).ring_eq rfl, hout.now_eq rfl]
  have hafter := (ownerResetIn_only (cluQuad (n / 16)) 5 (turnRotation (n / 16) n k (takenOut n cause s))).trans (presentIso_only
    (cluQuad (n / 16)) [jobTxn 7 (n / 16 % 64) (.markFailed n) (now s + 8),
      jobTxn 7 (n / 16 % 64) (.startSpare (n / 16) k.spare) (now s + 8)] _)
  refine ⟨?_, ?_, ?_⟩
  · rw [hafter.clu_eq rfl]
    exact takeFor_turnRotation _ _ _ _
  · rw [hafter.cell_eq rfl, cell_turnRotation, if_pos rfl]
  · refine (iso_presentIso (jobTxn 7 (n / 16 % 64) (.markFailed n) (now s + 8))
      (jobTxn 7 (n / 16 % 64) (.startSpare (n / 16) k.spare) (now s + 8)) rfl fun x hx => hiso x ?_).trans ?_
    · rwa [hrings] at hx
    · rw [hrings]

theorem exec_cellOvercurrent {s : State} {n : Nat} (hawake : awake s = true) (hok : cellOk s n = true)
    (hreg : (cell s n).state = .regulate) :
    exec (.cellOvercurrent n) s = .next (isolate n 3 (raiseOn Src.CELL_OVERCURRENT n (0x80 + n / 64) 17 s)) :=
  act_runs hawake (by simp [hok, headerClosed, hreg])

theorem startSpare_standby {g n : Nat} {s : State} {k : Takeover} (h : takeFor (clu s g) n = some k)
    (hs : (cell s n).state = .standby) : startSpare g n s = judgeBeyond g (setCell n { cell s n with
      state := .start, legs := (clu s g).legMed, startAt := now s, spdes := k.kind == .rotation && (cell s n).spdes } s) := by
  unfold startSpare
  rw [h]
  exact if_pos hs

theorem spareOver_one {g n : Nat} {s : State} (h : lateSpares s g = [n]) :
    spareOver g s = isolate n 5 (raise Src.CLU_SPARE_TIMEOUT g s) := by
  unfold spareOver
  rw [h, List.foldl_cons, List.foldl_nil, h]
  exact if_pos (by simp)

/-- A cell that has regulated, before what brought it in goes on. -/
def startedCell (n : Nat) (s : State) : State :=
  setCell n { cell s n with state := .regulate, legs := if (clu s (n / 16)).schuss = .force then 64 else (cell s n).legs } s

/-- What brought a cell in goes on when it regulates. -/
def broughtIn (n : Nat) (s : State) : State :=
  match takeFor (clu s (n / 16)) n with
  | some t => match t.kind with
    | .takeover => takeoverDone (n / 16) n (startedCell n s)
    | .duty => dropTake (n / 16) n (startedCell n s)
    | .rotation => ringAsk (cluQuad (n / 16)) (jobTxn 5 (n / 16 % 64) (.toStandby (n / 16) t.outgoing) (now s)) (startedCell n s)
  | none => startedCell n s

theorem broughtIn_only (n : Nat) (s : State) : Only [.live, .clus, .flt, .rings] (startedCell n s) (broughtIn n s) := by
  unfold broughtIn
  split
  · split
    · exact (takeoverDone_only _ _ _).mono rfl
    · exact (dropTake_only _ _ _).mono rfl
    · exact (ringAsk_only _ _ _).mono rfl
  · exact Only.refl _ _

theorem exec_cellStartDone {s : State} {n : Nat} (hawake : awake s = true) (hok : cellOk s n = true)
    (hs : (cell s n).state = .start) (ht : (cell s n).startAt + 1200 ≤ now s) :
    exec (.cellStartDone n) s = .next (judgeBeyond (n / 16) (broughtIn n s)) := by
  exact act_runs hawake (by simp [hok, hs, ht])

theorem cell_started (n : Nat) (s : State) (m : Nat) : cell (judgeBeyond (n / 16) (broughtIn n s)) m = cell (startedCell n s) m := by
  rw [(judgeBeyond_only _ _).cell_eq rfl, (broughtIn_only n s).cell_eq rfl]

theorem broughtIn_takeover {n : Nat} {s : State} {k : Takeover} (h : takeFor (clu s (n / 16)) n = some k) (hk : k.kind = .takeover) :
    broughtIn n s = takeoverDone (n / 16) n (startedCell n s) := by
  unfold broughtIn
  rw [h]
  dsimp only
  rw [hk]

theorem takeFor_takeoverDone (g n : Nat) (s : State) : takeFor (clu (takeoverDone g n s) g) n = none := by
  have h : Only [.live, .flt] (dropTake g n s) (takeoverDone g n s) :=
    ((bump_only _ _).mono rfl).via (raise_only _ _ _) rfl
  rw [h.clu_eq rfl, takeFor_dropTake]

theorem takeoverDone_among (g n : Nat) (s : State) : RaisedAmong Src.CLU_SPARE_TAKEOVER g s (takeoverDone g n s) :=
  (((dropTake_only g n s).mono rfl).via (bump_only _ _) rfl : Only [.clus, .live] s _).raise_among rfl _ _

/-- Settles O28. -/
theorem spareTakesOver : Obligations.SpareTakesOver := by
  refine ⟨⟨fun s n sp rest hawake hok hreg hr hk hfor hcall hiso => ?_, fun s n k hawake hok hreg hr hk hfor hsp hiso => ?_,
    fun s q x rd hawake hq ht hc hl hv hw => ⟨fun n hj => ?_, fun g n k hj hk hs => ?_⟩,
    fun s g hawake hne => act_runs hawake (by simpa using hne), fun s g n k hk hn hs ht => ?_, fun s g n hl hr => ?_⟩,
    fun s n side hawake hok hreg hf => ?_, fun s n side hawake hf => act_idle (.inr (by simp [hf])),
    fun s n hawake hok hs ht => ?_, fun s n k hawake hok hs ht hk hkind => ?_⟩
  · have hr0 := raiseOn_only Src.CELL_OVERCURRENT n (0x80 + n / 64) 17 s
    obtain ⟨htake, hring⟩ := isolate_takeover (s := raiseOn Src.CELL_OVERCURRENT n (0x80 + n / 64) 17 s) (sp := sp) (rest := rest) 3
      (by rwa [hr0.cell_eq rfl]) (by rwa [hr0.clu_eq rfl]) (by rwa [hr0.clu_eq rfl]) (by rwa [hr0.clu_eq rfl])
      (by rwa [hr0.callable_eq rfl rfl]) (by rw [hr0.ring_eq rfl, hr0.now_eq rfl]; exact hiso)
    rw [hr0.now_eq rfl] at htake hring
    rw [hr0.ring_eq rfl] at hring
    exact ⟨_, exec_cellOvercurrent hawake hok hreg, htake, hring⟩
  · have hr0 := raiseOn_only Src.CELL_OVERCURRENT n (0x80 + n / 64) 17 s
    obtain ⟨htake, hdes, hring⟩ := isolate_turned (s := raiseOn Src.CELL_OVERCURRENT n (0x80 + n / 64) 17 s) (k := k) 3
      (by rwa [hr0.cell_eq rfl]) (by rwa [hr0.clu_eq rfl]) (by rwa [hr0.clu_eq rfl]) (by rwa [hr0.clu_eq rfl])
      (by rwa [hr0.cell_eq rfl]) (by rw [hr0.ring_eq rfl, hr0.now_eq rfl]; exact hiso)
    rw [hr0.now_eq rfl, hr0.ring_eq rfl] at hring
    exact ⟨_, exec_cellOvercurrent hawake hok hreg, htake, hdes, hring⟩
  · refine ⟨_, exec_ringTransactionComplete rd hawake hq ht hc, ?_⟩
    rw [completeTxn_plain rd hl hv hw (by rw [hj]; exact fun h => nomatch h)]
    unfold deliverTxn
    rw [hj]
    exact ⟨by rw [ring_modRing_same], modRing_only _ _ _⟩
  · have hm := modRing_only q (fun r => { r with current := none, voidWr := false }) s
    have hstart := startSpare_standby (s := modRing q (fun r => { r with current := none, voidWr := false }) s)
      (by rw [hm.clu_eq rfl]; exact hk) (by rw [hm.cell_eq rfl]; exact hs)
    refine ⟨_, exec_ringTransactionComplete rd hawake hq ht hc, ?_⟩
    rw [completeTxn_plain rd hl hv hw (by rw [hj]; exact fun h => nomatch h)]
    unfold deliverTxn
    rw [hj]
    dsimp only
    rw [hstart, hm.cell_eq rfl, hm.clu_eq rfl, hm.now_eq rfl]
    have hcell := fun u m => (judgeBeyond_only g u).cell_eq rfl m
    simp only [hcell, cell_setCell_same]
    refine ⟨trivial, trivial, trivial, fun hk' => ?_, fun m hmn => ?_⟩
    · rw [show (k.kind == TakeKind.rotation) = false by simpa using hk', Bool.false_and]
    · rw [cell_setCell_other hmn, hm.cell_eq rfl]
  · exact List.mem_map.mpr ⟨k, List.mem_filter.mpr ⟨hk, by simpa [hn, hs] using ht⟩, hn⟩
  · have hr0 := raise_only Src.CLU_SPARE_TIMEOUT g s
    show IsolatedFor n 5 s (spareOver g s) ∧ RaisedAmong Src.CLU_SPARE_TIMEOUT g s (spareOver g s)
    rw [spareOver_one hl]
    exact ⟨(isolate_isolated 5 (noRetestOf_of (hr0.clu_eq rfl _) hr)).after hr0 rfl rfl rfl,
      (raise_raised _ _ _).among.kept (isolate_keepsRaised _ _ _)⟩
  · refine ⟨_, act_runs hawake (by simp [hok, hreg, hf]), ?_⟩
    rw [cell_modCell_same]
    refine ⟨hreg, fun h hlt => ?_, fun h hle => ?_, fun h => ?_, fun m hm => cell_modCell_other hm _ _, modCell_only _ _ _⟩
    · rw [h]
      exact if_pos hlt
    · rw [h]
      exact if_neg (Nat.not_lt.mpr hle)
    · rw [h]
  · refine ⟨_, exec_cellStartDone hawake hok hs ht, ?_⟩
    simp only [cell_started, startedCell, cell_setCell_same]
    exact ⟨trivial, trivial, fun m hm => cell_setCell_other hm _ _⟩
  · refine ⟨_, exec_cellStartDone hawake hok hs ht, ?_⟩
    rw [broughtIn_takeover hk hkind]
    refine ⟨?_, ?_⟩
    · rw [clu_judgeBeyond_proj (fun c => takeFor c n) (fun _ _ => rfl), takeFor_takeoverDone]
    · exact ((takeoverDone_among _ _ _).after (setCell_only _ _ _) rfl).kept (judgeBeyond_keepsRaised _ _)

end Sys2Proof.Machine
end

section
/-! SUPPORT. Clusters: Schuss, cell commands and trims. -/

namespace Sys2Proof.Machine

/-! ### Schuss (O29) -/

/-- All legs of some cells on. -/
def legsOn (l : List Nat) (s : State) : State := l.foldl (fun s n => modCell n (fun x => { x with legs := 64 }) s) s

theorem legsOn_only (l : List Nat) (s : State) : Only [.cells] s (legsOn l s) :=
  (Only.refl _ _).foldl _ _ fun _ _ => modCell_only _ _ _

theorem cell_legsOn_other {l : List Nat} {n : Nat} (h : n ∉ l) (s : State) : cell (legsOn l s) n = cell s n := by
  induction l generalizing s with
  | nil => rfl
  | cons m l ih =>
    obtain ⟨hne, hrest⟩ := not_or.mp (fun hc => h (List.mem_cons.mpr hc))
    exact (ih hrest _).trans (cell_modCell_other hne _ _)

theorem legs_legsOn {l : List Nat} {n : Nat} (h : n ∈ l) (s : State) : (cell (legsOn l s) n).legs = 64 := by
  induction l generalizing s with
  | nil => cases h
  | cons m l ih =>
    by_cases hl : n ∈ l
    · exact ih hl _
    · rcases List.mem_cons.mp h with rfl | hc
      · refine (congrArg Cell.legs (cell_legsOn_other hl _)).trans ?_
        rw [cell_modCell_same]
      · exact absurd hc hl

/-- The cluster of a new event. -/
def trippedClu (g : Nat) (s : State) : Cluster :=
  { clu s g with schuss := .force, tripAt := now s, lastTrip := some (now s), longSaid := false,
                 stretch := cfgB s (cluReg g 0x040 16) 9 }

theorem droopEffect_idle {g : Nat} {s : State} (h : (clu s g).schuss = .idle) : droopEffect g s =
    raise Src.SCHUSS_TRIP g (bump (cluReg g 0x214 32) (setClu g (trippedClu g s) (legsOn (regulating s g) s))) := by
  unfold droopEffect
  dsimp only
  rw [h]
  rfl

theorem droopEffect_hold {g : Nat} {s : State} (h : (clu s g).schuss = .hold) : droopEffect g s =
    modClu g (fun c => { c with schuss := .force, lastTrip := some (now s) }) (legsOn (regulating s g) s) := by
  unfold droopEffect
  dsimp only
  rw [h]
  rfl

/-- The live words of a release: the event's duration, and the longest one. -/
def durationShown (g dur : Nat) (s : State) : State :=
  when (decide ((live (setLive (cluReg g 0x218 32) (BitVec.ofNat 32 dur) s) (cluReg g 0x21C 32)).toNat < dur))
    (setLive (cluReg g 0x21C 32) (BitVec.ofNat 32 dur)) (setLive (cluReg g 0x218 32) (BitVec.ofNat 32 dur) s)

theorem durationShown_only (g dur : Nat) (s : State) : Only [.live] s (durationShown g dur s) :=
  (setLive_only _ _ s).when _ _ fun _ => setLive_only _ _ _

theorem cluReg_ne {g a b st : Nat} (h : a ≠ b) : cluReg g a st ≠ cluReg g b st := by
  unfold cluReg cluO pg
  omega

theorem live_durationShown (g dur : Nat) (s : State) : live (durationShown g dur s) (cluReg g 0x218 32) = BitVec.ofNat 32 dur := by
  unfold durationShown when
  split
  · rw [live_setLive_other _ _ _ _ (cluReg_ne (by decide)), live_setLive_same]
  · rw [live_setLive_same]

theorem releaseSchuss_active {g : Nat} {s : State} (h : (clu s g).schuss ≠ .idle) : releaseSchuss g s =
    setClu g { clu s g with schuss := .idle, stretch := false, releaseAt := some (now s),
                            activeAt := some (Nat.max (clu s g).tripAt (now s - 1)) }
      (durationShown g (now s - (clu s g).tripAt) s) := if_neg h

/-- Settles O29. -/
theorem schussCommands : Obligations.SchussCommands := by
  refine ⟨fun s g hawake hd hi => ?_, fun s g hawake hd hh => ?_, fun s g inside hawake hf => ?_, fun s g hawake hh ht => ?_,
    fun s g hawake hne hl ht => ?_⟩
  · refine ⟨_, act_runs hawake hd, ?_⟩
    rw [droopEffect_idle hi]
    have hlegs := legsOn_only (regulating s g) s
    have hset := setClu_only g (trippedClu g s) (legsOn (regulating s g) s)
    have hend : Only [.live, .flt] (setClu g (trippedClu g s) (legsOn (regulating s g) s))
        (raise Src.SCHUSS_TRIP g (bump (cluReg g 0x214 32) (setClu g (trippedClu g s) (legsOn (regulating s g) s)))) :=
      ((bump_only _ _).mono rfl).via (raise_only _ _ _) rfl
    rw [hend.clu_eq rfl, clu_setClu_same]
    refine ⟨rfl, rfl, rfl, fun n hn => ?_, fun n hn => ?_, ?_, ?_⟩
    · rw [hend.cell_eq rfl, hset.cell_eq rfl, legs_legsOn hn]
    · rw [hend.cell_eq rfl, hset.cell_eq rfl, cell_legsOn_other hn]
    · exact (raise_raised _ _ _).after (((hlegs.mono rfl).via hset rfl).via (bump_only _ _) rfl :
        Only [.cells, .clus, .live] s _) rfl rfl
    · have hlive : ∀ o, live (setClu g (trippedClu g s) (legsOn (regulating s g) s)) o = live s o :=
        ((hlegs.mono rfl).via hset rfl : Only [.cells, .clus] s _).live_eq rfl rfl
      rw [(raise_only _ _ _).live_eq rfl rfl, bump_toNat, hlive]
  · refine ⟨_, act_runs hawake hd, ?_⟩
    rw [droopEffect_hold hh, clu_modClu_same]
    have hlegs := legsOn_only (regulating s g) s
    refine ⟨rfl, ?_, fun n hn => ?_, (hlegs.mono rfl).via (modClu_only _ _ _) rfl⟩
    · rw [hlegs.clu_eq rfl]
    · rw [(modClu_only _ _ _).cell_eq rfl, legs_legsOn hn]
  · refine ⟨_, act_runs hawake (beq_iff_eq.mpr hf), ?_⟩
    rw [clu_modClu_same]
    exact ⟨rfl, rfl, fun h hh => clu_modClu_other hh _ _, modClu_only _ _ _⟩
  · refine ⟨_, act_runs hawake (by simp [hh, ht]), ?_⟩
    rw [releaseSchuss_active (by rw [hh]; exact fun h => nomatch h), clu_setClu_same]
    have hdur := durationShown_only g (now s - (clu s g).tripAt) s
    refine ⟨rfl, rfl, rfl, fun h hh => ?_, (hdur.mono rfl).via (setClu_only _ _ _) rfl, ?_⟩
    · rw [clu_setClu_other hh, hdur.clu_eq rfl]
    · rw [(setClu_only _ _ _).live_eq rfl rfl, live_durationShown]
  · refine ⟨_, act_runs hawake (by simp [hne, hl, ht]), ?_⟩
    rw [(raiseOn_only _ _ _ _ _).clu_eq rfl, clu_modClu_same]
    exact ⟨rfl, rfl, (raiseOn_raised _ _ _ _ _).after (modClu_only _ _ _) rfl rfl,
      ((modClu_only _ _ _).mono rfl).via (raiseOn_only _ _ _ _ _) rfl⟩

/-! ### Cell commands and trims (O30) -/

theorem secureCmd_ok {s : State} {a : Access} {ok : Bool} (hawake : awake s = true) (hok : ok = true) (hsec : secure s a = true)
    (f : State → State) : act s ok (secureCmd a f s) = .next (respond a (.ok 0) (f s)) :=
  (act_runs hawake hok).trans (congrArg _ (secureCmd_secure hsec f))

theorem secureCmd_ignored {s : State} {a : Access} {ok : Bool} (hawake : awake s = true) (hok : ok = true)
    (hsec : secure s a = false) (f : State → State) :
    act s ok (secureCmd a f s) = .next (respond a (.ok 0) (countNonsec a s)) :=
  (act_runs hawake hok).trans (congrArg _ (secureCmd_nonsecure hsec f))

/-- The copies of a word that a trim is written to. -/
theorem storeBoth_copies (off : Nat) (w : Word) (s : State) :
    (∀ o, activeOf (storeBoth off w s) o = activeOf (setActive off w s) o) ∧
      (∀ o, shadowOf (storeBoth off w s) o = shadowOf (setShadow off w s) o) ∧ (storeBoth off w s).regs.trims = s.regs.trims := by
  unfold storeBoth
  dsimp only
  generalize ((live s (genO Reg.GEN_PARINJ)).bit 8 && (live s (genO Reg.GEN_PARINJ)).field 7 0 == off / 0x1000) = armed
  cases armed <;> exact ⟨fun _ => rfl, fun _ => rfl, rfl⟩

/-- A trim that no procedure waits for. -/
theorem exec_cluTrimWrite {s : State} {n : Nat} {k : TrimWrite} (hawake : awake s = true)
    (hk : s.regs.trims.find? (fun x => x.cell == n) = some k) (ht : atTick s controlP 0 = true)
    (hp : cluO (n / 64) (Reg.CLU_GTRIM (n % 64)) ∉ s.regs.pend) (hw : (cell s n).passWait = false)
    (hr : (clu s (n / 16)).retest = none) :
    exec (.cluTrimWrite n) s = .next (storeBoth (cluO (n / 64) (Reg.CLU_GTRIM (n % 64))) (BitVec.ofNat 32 k.value)
      (s.setRegs { s.regs with trims := s.regs.trims.filter (fun t => t.cell != n) })) := by
  show execCluTrimWrite n s = _
  unfold execCluTrimWrite
  dsimp only
  rw [hk, hr, hw]
  exact act_runs hawake (by simp [ht, hp])

theorem cellCommand_retest (sc : Nat) (k : BitVec 6) (s : State) : cellCommand sc 2 k s =
    if retestFits s (cmdCell sc k) then ringAsk (sc / 16) (jobTxn 0 (cmdCell sc k / 16 % 64) (.cellCmd 2 (cmdCell sc k)) (now s)) s
    else refuse (0x80 + sc) s := rfl

theorem cellCommand_pass (sc : Nat) (k : BitVec 6) (s : State) : cellCommand sc 3 k s =
    if passFits s (cmdCell sc k) then ringAsk (sc / 16) (jobTxn 0 (cmdCell sc k / 16 % 64) (.cellCmd 3 (cmdCell sc k)) (now s)) s
    else refuse (0x80 + sc) s := rfl

theorem cellCommand_fail (sc : Nat) (k : BitVec 6) (s : State) : cellCommand sc 4 k s =
    if failFits s (cmdCell sc k) then ringAsk (sc / 16) (jobTxn 0 (cmdCell sc k / 16 % 64) (.cellCmd 4 (cmdCell sc k)) (now s)) s
    else refuse (0x80 + sc) s := rfl

theorem isolateCmd_acts {n : Nat} {s : State} (h : (cell s n).state = .regulate ∨ (cell s n).state = .standby) :
    cellCmdEffect 1 n s = isolate n 6 s := by
  show cellIsolateCmd n s = _
  unfold cellIsolateCmd
  rw [if_pos (by simpa using h)]

/-- A retest that begins. -/
def retestBegun (n : Nat) (s : State) : State :=
  setLive (cluO (n / 64) Reg.CLU_RETESTRES) (BitVec.ofNat 32 (n % 64))
    (modClu (n / 16) (fun c => { c with retest := some ⟨n, 1, now s, false, false, false⟩ })
      (modCell n (fun c => { c with state := .retest, passWait := false, trimmed := false }) s))

theorem retestCmd_begins {n : Nat} {s : State} (h : retestFits s n = true) : cellCmdEffect 2 n s = retestBegun n s := if_pos h

theorem cell_retestBegun (n : Nat) (s : State) (m : Nat) : cell (retestBegun n s) m =
    cell (modCell n (fun c => { c with state := .retest, passWait := false, trimmed := false }) s) m :=
  (((modClu_only _ _ _).mono rfl).via (setLive_only _ _ _) rfl : Only [.clus, .live] _ _).cell_eq rfl m

/-- A pass accepted: its trim is on its way. -/
def passAccepted (n : Nat) (s : State) : State :=
  ringAsk (cluQuad (n / 16)) (jobTxn 1 (n / 16 % 64)
      (.trim n ((live s (cluO (n / 64) Reg.CLU_RETESTRES)).field 31 16)) (now s))
    (modCell n (fun c => { c with passWait := true }) s)

theorem passCmd_accepted {n : Nat} {s : State} (h : passFits s n = true) : cellCmdEffect 3 n s = passAccepted n s := if_pos h

theorem cell_passAccepted (n : Nat) (s : State) (m : Nat) :
    cell (passAccepted n s) m = cell (modCell n (fun c => { c with passWait := true }) s) m := (ringAsk_only _ _ _).cell_eq rfl m

theorem failFits_retest {s : State} {n : Nat} (h : failFits s n = true) : (cell s n).state = .retest := by
  unfold failFits retestDone at h
  exact eq_of_beq (Bool.and_eq_true_iff.mp h).1

theorem rotateCmd_duty {n : Nat} {s : State} (hs : (cell s n).state = .standby) (he : (clu s (n / 16)).enabled = true)
    (ht : (clu s (n / 16)).takes = []) (hd : (inDuty s (n / 16)).length < 15) : cellCmdEffect 5 n s = beginDuty (n / 16) n s := by
  show cellRotateCmd n s = _
  unfold cellRotateCmd
  dsimp only
  rw [if_pos (by simp [hs, he, ht]), if_pos hd]

/-- Settles O30. -/
theorem cellCommands : Obligations.CellCommands := by
  refine ⟨⟨fun s a sc k hawake hok hsec => ⟨?_, ?_, ?_, ?_, ?_⟩, fun s a sc k hawake hok hsec => secureCmd_ignored hawake hok hsec _,
    fun s n k hawake hk ht hp hw hr => ?_⟩, fun s q op n x rd hawake hq ht hc hl hv hw hj => ?_, fun s n hs hr => ?_,
    fun s n h => ?_, fun s n h => ?_, fun s n h => ?_, fun s n hs he ht hd => ?_⟩
  · exact secureCmd_ok hawake hok hsec _
  · exact secureCmd_ok hawake hok hsec _
  · exact (secureCmd_ok hawake hok hsec _).trans (by rw [cellCommand_retest])
  · exact (secureCmd_ok hawake hok hsec _).trans (by rw [cellCommand_pass])
  · exact (secureCmd_ok hawake hok hsec _).trans (by rw [cellCommand_fail])
  · obtain ⟨hact, hshd, htr⟩ := storeBoth_copies (cluO (n / 64) (Reg.CLU_GTRIM (n % 64))) (BitVec.ofNat 32 k.value)
      (s.setRegs { s.regs with trims := s.regs.trims.filter (fun t => t.cell != n) })
    refine ⟨_, exec_cluTrimWrite hawake hk ht hp hw hr, (hact _).trans (activeOf_setActive_same _ _ _),
      (hshd _).trans (shadowOf_setShadow_same _ _ _), fun o ho => ⟨(hact o).trans ?_, (hshd o).trans ?_⟩, htr⟩
    · exact activeOf_setActive_other _ o _ (s.setRegs { s.regs with trims := s.regs.trims.filter (fun t => t.cell != n) }) ho
    · exact shadowOf_setShadow_other _ o _ (s.setRegs { s.regs with trims := s.regs.trims.filter (fun t => t.cell != n) }) ho
  · rw [exec_ringTransactionComplete rd hawake hq ht hc, completeTxn_plain rd hl hv hw (by rw [hj]; exact fun h => nomatch h)]
    unfold deliverTxn
    rw [hj]
  · rw [isolateCmd_acts hs]
    exact isolate_isolated 6 hr
  · rw [retestCmd_begins h]
    refine ⟨?_, ?_, fun m hm => ?_⟩
    · rw [cell_retestBegun, cell_modCell_same]
    · exact congrArg Cluster.retest (((setLive_only _ _ _).clu_eq rfl _).trans (clu_modClu_same _ _ _))
    · rw [cell_retestBegun, cell_modCell_other hm]
  · rw [passCmd_accepted h]
    refine ⟨?_, fun m hm => ?_⟩
    · rw [cell_passAccepted, cell_modCell_same]
    · rw [cell_passAccepted, cell_modCell_other hm]
  · have hne : (cell (dropTrim n s) n).state ≠ .regulate := by
      rw [(dropTrim_only n s).cell_eq rfl, failFits_retest h]
      exact fun hc => nomatch hc
    rw [show cellCmdEffect 4 n s = isolate n 7 (dropTrim n s) from if_pos h, cell_isolate_same 7 (.inr hne)]
    exact ⟨rfl, rfl⟩
  · rw [rotateCmd_duty hs he ht hd, beginDuty_clu]
    exact ⟨takeFor_putTake ⟨n, n, now s, .duty⟩ _ s, (beginDuty_only _ _ _).keeps .cells rfl⟩

end Sys2Proof.Machine
end

section
/-! SUPPORT. The sector engine: its samples, its latch, its limits. -/

namespace Sys2Proof.Machine

/-! ### A field of a sector that an operation leaves -/

theorem sec_setSec_proj {β : Type} (p : Sector → β) {n : Nat} {x : Sector} {s : State} (hx : p x = p (sec s n)) (m : Nat) :
    p (sec (setSec n x s) m) = p (sec s m) := by
  by_cases hm : m = n
  · rw [hm, sec_setSec_same, hx]
  · rw [sec_setSec_other hm]

theorem sec_modSec_proj {β : Type} (p : Sector → β) {f : Sector → Sector} (hf : ∀ x, p (f x) = p x) (n : Nat) (s : State) (m : Nat) :
    p (sec (modSec n f s) m) = p (sec s m) := sec_setSec_proj p (hf _) m

theorem foldl_sec_proj {α β : Type} (p : Sector → β) {f : State → α → State} (hf : ∀ s x m, p (sec (f s x) m) = p (sec s m))
    (l : List α) (s : State) (m : Nat) : p (sec (l.foldl f s) m) = p (sec s m) :=
  foldl_keeps (f := fun s => p (sec s m)) (g := f) (fun s x => hf s x m) l s

theorem foldl_clu_proj {α β : Type} (p : Cluster → β) {f : State → α → State} (hf : ∀ s x g, p (clu (f s x) g) = p (clu s g))
    (l : List α) (s : State) (g : Nat) : p (clu (l.foldl f s) g) = p (clu s g) :=
  foldl_keeps (f := fun s => p (clu s g)) (g := f) (fun s x => hf s x g) l s

/-- Of a sector Trail changes the pre-raise command and the reports to its engine. -/
theorem sec_issueSlot_proj {β : Type} (p : Sector → β) (hp : ∀ x a b, p { x with cmdPre := a, reports := b } = p x) (q i : Nat)
    (s : State) (m : Nat) : p (sec (issueSlot q i s) m) = p (sec s m) := by
  unfold issueSlot
  split
  · rfl
  · split
    · exact (sec_modSec_proj p (fun x => hp x _ x.reports) _ _ m).trans (congrArg p ((modWin_only _ _ _).sec_eq rfl m))
    · rfl

/-- A latch leaves a record, judges it, or finds its hit. -/
theorem latchSlot_cases (q i : Nat) (s : State) : latchSlot q i s = s ∨ (∃ y, latchSlot q i s = setSlot q i y s) ∨
    ∃ y off sc, latchSlot q i s = report sc (slotKey q i) false (bump off (setSlot q i y s)) := by
  unfold latchSlot
  split
  · exact .inl rfl
  · dsimp only
    split_ifs
    · exact .inl rfl
    · exact .inr (.inr ⟨_, _, _, rfl⟩)
    · exact .inr (.inl ⟨_, rfl⟩)

theorem sec_latchSlot_proj {β : Type} (p : Sector → β) (hp : ∀ x a b, p { x with cmdPre := a, reports := b } = p x) (q i : Nat)
    (s : State) (m : Nat) : p (sec (latchSlot q i s) m) = p (sec s m) := by
  have hset : ∀ y, sec (setSlot q i y s) m = sec s m := fun y => (modWin_only _ _ _).sec_eq rfl m
  rcases latchSlot_cases q i s with h | ⟨y, h⟩ | ⟨y, off, sc, h⟩
  · rw [h]
  · rw [h, hset]
  · rw [h]
    refine (sec_modSec_proj p (f := fun x => { x with reports := x.reports ++ [(slotKey q i, false)] })
      (fun x => hp x x.cmdPre _) _ _ m).trans ?_
    rw [(bump_only _ _).sec_eq rfl, hset]

theorem sec_trailLatch_proj {β : Type} (p : Sector → β) (hp : ∀ x a b, p { x with cmdPre := a, reports := b } = p x) (sc : Nat)
    (s : State) (m : Nat) : p (sec (trailLatch sc s) m) = p (sec s m) :=
  (foldl_sec_proj p (fun s i m => sec_latchSlot_proj p hp (sc / 16) i s m) _ _ m).trans
    (foldl_sec_proj p (fun s i m => sec_issueSlot_proj p hp (sc / 16) i s m) _ _ m)

/-! ### Samples -/

/-- A cluster holds the sample of this tick 0. -/
def Sampled (s : State) (g : Nat) (x : ClusterSense) (t : State) : Prop :=
  (clu t g).codeA = x.codeA.toNat ∧ (clu t g).codeB = x.codeB.toNat ∧
    (clu t g).legMed = median ((regulating s g).map (fun n => (cell s n).legs))

/-- What one cluster's sample leaves before its own words. -/
theorem sampleClu_before (g : Nat) (s : State) : Only [.live, .wears] s (chargeWear g (sampleLegs g s)) :=
  ((sampleLegs_only g s).mono rfl).via (chargeWear_only _ _) rfl

theorem clu_sampleClu_other {g h : Nat} (hg : h ≠ g) (x : ClusterSense) (s : State) : clu (sampleClu g x s) h = clu s h := by
  unfold sampleClu
  dsimp only
  rw [(result_only _ _ _).clu_eq rfl, clu_setClu_other hg, (sampleClu_before g s).clu_eq rfl]

theorem Only.regulating_eq {l : List Part} {s t : State} (h : Only l s t) (hc : l.contains .cells = false) (g : Nat) :
    regulating t g = regulating s g := by
  unfold regulating inState
  exact List.filter_congr fun m _ => by rw [h.cell_eq hc]

theorem sampleClu_sampled (g : Nat) (x : ClusterSense) (s : State) : Sampled s g x (sampleClu g x s) := by
  have hb := sampleClu_before g s
  have hlegs : (regulating (chargeWear g (sampleLegs g s)) g).map (fun n => (cell (chargeWear g (sampleLegs g s)) n).legs) =
      (regulating s g).map (fun n => (cell s n).legs) := by
    rw [hb.regulating_eq rfl]
    exact List.map_congr_left fun n _ => by rw [hb.cell_eq rfl]
  unfold Sampled sampleClu
  dsimp only
  rw [(result_only _ _ _).clu_eq rfl, clu_setClu_same]
  exact ⟨rfl, rfl, congrArg median hlegs⟩

theorem Sampled.other {s t : State} {g h : Nat} {x y : ClusterSense} (hs : Sampled s g x t) (hg : g ≠ h) :
    Sampled s g x (sampleClu h y t) := by
  unfold Sampled at hs ⊢
  rwa [clu_sampleClu_other hg]

/-- A sample taken after operations that leave the cells. -/
theorem Sampled.since {l : List Part} {s t u : State} {g : Nat} {x : ClusterSense} (hs : Sampled t g x u) (h : Only l s t)
    (hc : l.contains .cells = false) : Sampled s g x u := by
  unfold Sampled at hs ⊢
  rw [h.regulating_eq hc] at hs
  simpa only [h.cell_eq hc] using hs

/-- A sector's four samples. -/
def sampledSec (sc : Nat) (l : List ClusterSense) (s : State) : State :=
  (l.zip (upto 4)).foldl (fun s (x, c) => sampleClu (4 * sc + c) x s) s

theorem sampledSec_four (sc : Nat) (x0 x1 x2 x3 : ClusterSense) (s : State) : sampledSec sc [x0, x1, x2, x3] s =
    sampleClu (4 * sc + 3) x3 (sampleClu (4 * sc + 2) x2 (sampleClu (4 * sc + 1) x1 (sampleClu (4 * sc + 0) x0 s))) := by
  unfold sampledSec upto
  simp only [List.range, List.range.loop, List.zip_cons_cons, List.zip_nil_right, List.foldl_cons, List.foldl_nil]

theorem sampledSec_only (sc : Nat) (l : List ClusterSense) (s : State) : Only [.live, .clus, .wears] s (sampledSec sc l s) :=
  (Only.refl _ s).foldl _ _ fun _ _ => sampleClu_only _ _ _

theorem sampledSec_sampled (sc : Nat) (x0 x1 x2 x3 : ClusterSense) (s : State) {c : Nat} {x : ClusterSense}
    (h : ([x0, x1, x2, x3] : List ClusterSense)[c]? = some x) : Sampled s (4 * sc + c) x (sampledSec sc [x0, x1, x2, x3] s) := by
  rw [sampledSec_four]
  have step : ∀ g y u, Only [.live, .clus, .wears] u (sampleClu g y u) := fun g y u => sampleClu_only g y u
  match c, h with
  | 0, h =>
    cases h
    exact (((sampleClu_sampled _ _ s).other (by omega)).other (by omega)).other (by omega)
  | 1, h =>
    cases h
    exact (((sampleClu_sampled _ _ _).since (step _ _ _) rfl).other (by omega)).other (by omega)
  | 2, h =>
    cases h
    exact ((sampleClu_sampled _ _ _).since ((step _ _ _).trans (step _ _ _)) rfl).other (by omega)
  | 3, h =>
    cases h
    exact (sampleClu_sampled _ _ _).since (((step _ _ _).trans (step _ _ _)).trans (step _ _ _)) rfl
  | _ + 4, h => cases h

theorem clu_sampledSec_other {sc g : Nat} (hg : g / 4 ≠ sc) (x0 x1 x2 x3 : ClusterSense) (s : State) :
    clu (sampledSec sc [x0, x1, x2, x3] s) g = clu s g := by
  rw [sampledSec_four, clu_sampleClu_other (by omega), clu_sampleClu_other (by omega), clu_sampleClu_other (by omega),
    clu_sampleClu_other (by omega)]

/-- The mode of the period that begins. -/
def modeSet (sc : Nat) (s : State) : State :=
  modSec sc (fun x => { x with
    mode := nextMode s sc, wakeRan := nextMode s sc == .wake, gbCfg := cfgF s (secO sc Reg.SEC_PLAUS2) 22 16,
    badPers := if nextMode s sc == .run || nextMode s sc == .coast then x.badPers else noteBad (estNo s) x.badPers }) s

theorem modeSet_only (sc : Nat) (s : State) : Only [.secs] s (modeSet sc s) := modSec_only _ _ _

/-- M_raw of the four clusters, kept. -/
def rawsKept (sc : Nat) (s : State) : State :=
  forEach (upto 4) (fun c u =>
    modClu (4 * sc + c) (fun x => { x with raws := keepRaw (now u) (cluIn s sc c).raw x.raws }) u) s

/-- An engine's start: its mode, M_raw, two counters, and the computation it holds. -/
theorem engineStart_eq (sc : Nat) (s : State) : ∃ (r : EngRes) (coasts holds : Bool), engineStart sc s =
    engStart clsSector sc (modSec sc (fun x => { x with res := some r })
      (when holds (bump (secO sc Reg.SEC_HOLDS)) (when coasts (bump (secO sc Reg.SEC_COASTS)) (rawsKept sc (modeSet sc s))))) :=
  ⟨_, _, _, rfl⟩

/-- Of a cluster the engine's start changes what it keeps of M_raw. -/
theorem clu_engineStart_proj {β : Type} (p : Cluster → β) (hp : ∀ c l, p { c with raws := l } = p c) (sc : Nat) (s : State) (g : Nat) :
    p (clu (engineStart sc s) g) = p (clu s g) := by
  obtain ⟨r, coasts, holds, h⟩ := engineStart_eq sc s
  have hraws : p (clu (rawsKept sc (modeSet sc s)) g) = p (clu (modeSet sc s) g) :=
    foldl_clu_proj p (fun u c h => clu_modClu_proj p (fun x => hp x _) _ u h) _ _ g
  have hbumps : Only [.live] (rawsKept sc (modeSet sc s))
      (when holds (bump (secO sc Reg.SEC_HOLDS)) (when coasts (bump (secO sc Reg.SEC_COASTS)) (rawsKept sc (modeSet sc s)))) :=
    ((Only.refl _ _).when _ _ fun u => bump_only _ u).when _ _ fun u => bump_only _ u
  rw [h, (engStart_only _ _ _).clu_eq rfl, (modSec_only _ _ _).clu_eq rfl, hbumps.clu_eq rfl, hraws, (modeSet_only _ _).clu_eq rfl]

theorem clu_engineStart_other {sc g : Nat} (hg : g / 4 ≠ sc) (s : State) : clu (engineStart sc s) g = clu s g := by
  obtain ⟨r, coasts, holds, h⟩ := engineStart_eq sc s
  have hraws : clu (rawsKept sc (modeSet sc s)) g = clu (modeSet sc s) g := by
    unfold rawsKept forEach upto
    simp only [List.range, List.range.loop, List.foldl_cons, List.foldl_nil]
    rw [clu_modClu_other (by omega), clu_modClu_other (by omega), clu_modClu_other (by omega), clu_modClu_other (by omega)]
  have hbumps : Only [.live] (rawsKept sc (modeSet sc s))
      (when holds (bump (secO sc Reg.SEC_HOLDS)) (when coasts (bump (secO sc Reg.SEC_COASTS)) (rawsKept sc (modeSet sc s)))) :=
    ((Only.refl _ _).when _ _ fun u => bump_only _ u).when _ _ fun u => bump_only _ u
  rw [h, (engStart_only _ _ _).clu_eq rfl, (modSec_only _ _ _).clu_eq rfl, hbumps.clu_eq rfl, hraws]
  exact (modSec_only _ _ _).clu_eq rfl g

theorem eng_engStart (cls i : Nat) (s : State) :
    eng (engStart cls i s) cls i = { eng s cls i with start := some (now s), done := none, period := (eng s cls i).period + 1 } :=
  eng_setEng_same _ _ _ _

/-- An engine's start begins its computation. -/
theorem engineStart_begins (sc : Nat) (s : State) : (eng (engineStart sc s) clsSector sc).start = some (now s) ∧
    (eng (engineStart sc s) clsSector sc).done = none ∧ (sec (engineStart sc s) sc).res.isSome = true := by
  obtain ⟨r, coasts, holds, h⟩ := engineStart_eq sc s
  have htime : Only [.live, .clus, .secs] s (modSec sc (fun x => { x with res := some r })
      (when holds (bump (secO sc Reg.SEC_HOLDS)) (when coasts (bump (secO sc Reg.SEC_COASTS)) (rawsKept sc (modeSet sc s))))) := by
    refine Only.via ?_ (modSec_only _ _ _) rfl
    refine (Only.when ?_ _ _ fun u => (bump_only _ u).mono rfl).when _ _ fun u => (bump_only _ u).mono rfl
    exact ((modSec_only _ _ _).mono rfl).forEach _ _ fun _ u => (modClu_only _ _ u).mono rfl
  rw [h, eng_engStart, htime.now_eq rfl, (engStart_only _ _ _).sec_eq rfl, sec_modSec_same]
  exact ⟨rfl, rfl, rfl⟩

theorem Only.engineServes_eq {l : List Part} {s t : State} (h : Only l s t) (hs : l.contains .secs = false)
    (ht : l.contains .time = false) (sc : Nat) : engineServes t sc = engineServes s sc := by
  unfold engineServes
  rw [h.sec_eq hs, h.now_eq ht]

theorem exec_sectorEngineStart {s : State} {sc : Nat} {l : List ClusterSense} (bad : Bool) (hawake : awake s = true)
    (ht : atTick s controlP 0 = true) (hsc : sc < sectors s) (hl : l.length = 4) :
    exec (.sectorEngineStart sc ⟨l, bad⟩) s = .next (when (engineServes (sampledSec sc l s) sc)
      (fun s => engineStart sc (when bad (raiseOn Src.SEC_ENG_FAULT sc (secPage sc) 9) s)) (sampledSec sc l s)) :=
  act_runs hawake (by simp [ht, hsc, hl])

/-! ### The latch -/

/-- A cluster holds what the engine computed of it. -/
def LatchedClu (sc c : Nat) (r : EngRes) (t : State) : Prop :=
  (clu t (4 * sc + c)).integ = nth r.integ c ∧ (clu t (4 * sc + c)).centre = r.centre.getD c 0 ∧
    (clu t (4 * sc + c)).half = r.half ∧ (clu t (4 * sc + c)).ff = nth r.ff c ∧ (clu t (4 * sc + c)).mNow = r.m.getD c 0

/-- After its words are set a cluster's latch adds legs and shows a result. -/
theorem latchClu_after (sc c : Nat) (r : EngRes) (s : State) : ∃ x : Cluster, x.integ = nth r.integ c ∧ x.centre = r.centre.getD c 0 ∧
    x.half = r.half ∧ x.ff = nth r.ff c ∧ x.mNow = r.m.getD c 0 ∧
    Only [.live, .cells] (setClu (4 * sc + c) x s) (latchClu sc c r s) := by
  refine ⟨_, ?_, ?_, ?_, ?_, ?_,
    ((Only.refl _ _).when _ _ fun u => (addLegs_only _ _ u).mono rfl).via (result_only _ _ _) rfl⟩ <;> rfl

theorem latchClu_latched (sc c : Nat) (r : EngRes) (s : State) : LatchedClu sc c r (latchClu sc c r s) := by
  obtain ⟨x, h1, h2, h3, h4, h5, h⟩ := latchClu_after sc c r s
  unfold LatchedClu
  rw [h.clu_eq rfl, clu_setClu_same]
  exact ⟨h1, h2, h3, h4, h5⟩

theorem clu_latchClu_other {sc c g : Nat} (hg : g ≠ 4 * sc + c) (r : EngRes) (s : State) : clu (latchClu sc c r s) g = clu s g := by
  obtain ⟨x, _, _, _, _, _, h⟩ := latchClu_after sc c r s
  rw [h.clu_eq rfl, clu_setClu_other hg]

theorem forEach_latched {l : List Nat} {c : Nat} (hc : c ∈ l) (sc : Nat) (r : EngRes) (s : State) :
    LatchedClu sc c r (forEach l (fun c s => latchClu sc c r s) s) := by
  have kept : ∀ (l : List Nat) (t : State), c ∉ l → clu (forEach l (fun c s => latchClu sc c r s) t) (4 * sc + c) = clu t (4 * sc + c) := by
    intro l
    induction l with
    | nil => exact fun _ _ => rfl
    | cons d l ih =>
      intro t hd
      obtain ⟨hne, hrest⟩ := not_or.mp (fun hx => hd (List.mem_cons.mpr hx))
      exact (ih _ hrest).trans (clu_latchClu_other (by omega) r t)
  induction l generalizing s with
  | nil => cases hc
  | cons d l ih =>
    by_cases hl : c ∈ l
    · exact ih hl _
    · rcases List.mem_cons.mp hc with rfl | hx
      · have h := latchClu_latched sc c r s
        unfold LatchedClu at h ⊢
        rwa [show clu (forEach (c :: l) (fun c s => latchClu sc c r s) s) (4 * sc + c) = clu (latchClu sc c r s) (4 * sc + c) from
          kept l _ hl]
      · exact absurd hx hl

theorem clu_forEach_latch_other {sc g : Nat} (hg : g / 4 ≠ sc) (r : EngRes) (s : State) :
    clu (forEach (upto 4) (fun c s => latchClu sc c r s) s) g = clu s g := by
  unfold forEach upto
  simp only [List.range, List.range.loop, List.foldl_cons, List.foldl_nil]
  rw [clu_latchClu_other (by omega), clu_latchClu_other (by omega), clu_latchClu_other (by omega), clu_latchClu_other (by omega)]

theorem engineCommit_after {sc : Nat} {s : State} {r : EngRes} (h : (sec s sc).res = some r) :
    Only [.live, .secs, .trail, .flt, .seat] (forEach (upto 4) (fun c s => latchClu sc c r s) s) (engineCommit sc s) := by
  unfold engineCommit
  rw [h]
  exact (((latchSec_only _ _ _).mono rfl).via (closeMeans_only _ _) rfl).via (trailLatch_only _ _) rfl

theorem latch_done {cls i : Nat} {s : State} (commit missed : State → State) (h : (eng s cls i).done.isSome = true) :
    latch cls i commit missed s = commit (setEng cls i { eng s cls i with start := none, done := none } s) := if_pos h

theorem latch_overrun {cls i : Nat} {s : State} (commit missed : State → State) (h : (eng s cls i).done = none) :
    latch cls i commit missed s = missed (overrun cls i s) := if_neg (by rw [h]; decide)

theorem exec_sectorEngineLatch {s : State} {sc : Nat} (hawake : awake s = true) (hsc : sc < sectors s)
    (hd : engDue s clsSector sc = true) :
    exec (.sectorEngineLatch sc) s = .next (latch clsSector sc (engineCommit sc) (engineMissed sc) s) :=
  (act_runs hawake (by simp [hsc, hd])).trans (congrArg _ (if_pos hd))

/-! ### An overrun -/

/-- The overruns that an engine goes on counting after one. -/
def overrunsKept (cls i : Nat) (s : State) : List Nat :=
  let e := eng s cls i
  let w := cfg s (tbO Reg.TB_OVRCTL)
  let kept := (e.period :: e.ovr).filter (fun p => e.period < p + w.field 23 16)
  if decide (w.field 7 0 ≤ kept.length) then [] else kept

/-- The computation is abandoned; the counter, the slack and the sources follow. -/
theorem overrun_after (cls i : Nat) (s : State) : Only [.live, .flt]
    (setEng cls i { eng s cls i with start := none, done := none, ovr := overrunsKept cls i s } s) (overrun cls i s) := by
  unfold overrun
  refine Only.when ?_ _ _ fun u => (raise_only _ _ u).mono rfl
  cases engPage cls i with
  | none => exact (((bump_only _ _).mono rfl).via (recordSlack_only _ _ _) rfl).via (raise_only _ _ _) rfl
  | some p => exact ((((bump_only _ _).mono rfl).via (recordSlack_only _ _ _) rfl).via (raise_only _ _ _) rfl).via (pageFlt_only _ _ _) rfl

theorem overrun_start (cls i : Nat) (s : State) : (eng (overrun cls i s) cls i).start = none := by
  rw [(overrun_after cls i s).eng_eq rfl, eng_setEng_same]

theorem overrun_among (cls i : Nat) (s : State) : RaisedAmong Src.ENG_OVERRUN (engKey cls i) s (overrun cls i s) := by
  unfold overrun
  refine RaisedAmong.kept ?_ (KeepsRaised.when (fun u => raise_keepsRaised _ _ u) _ _)
  have hraise : ∀ x : EngRun, RaisedAmong Src.ENG_OVERRUN (engKey cls i) s
      (raise Src.ENG_OVERRUN (engKey cls i) (recordSlack cls 0 (bump (tbO Reg.TB_OVR_CNT) (setEng cls i x s)))) := fun x =>
    ((((setEng_only _ _ x s).mono rfl).via (bump_only _ _) rfl).via (recordSlack_only _ _ _) rfl : Only [.eng, .live] s _).raise_among rfl _ _
  cases engPage cls i with
  | none => exact hraise _
  | some p => exact (hraise _).before (pageFlt_only _ _ _) rfl

/-- What a latch that took nothing leaves of a cluster. -/
theorem clu_heldLatch_proj {β : Type} (p : Cluster → β) (hp : ∀ c l x n, p { c with means := l, ff := x, limRun := n } = p c)
    (sc : Nat) (s : State) (g : Nat) : p (clu (heldLatch sc s) g) = p (clu s g) := by
  have h : Only [.live, .secs, .trail, .seat] (forEach (secClus sc) (fun g s => modClu g (fun x => { x with
      means := addMean (estNo s) x.mNow (satCode x && !noSens x) (noSens x) x.means, ff := 0, limRun := limitRun x x.limAt }) s) s)
      (heldLatch sc s) := (((setLive_only _ _ _).mono rfl).via (closeMeans_only _ _) rfl).via (trailLatch_only _ _) rfl
  rw [h.clu_eq rfl]
  exact foldl_clu_proj p (fun u c h => clu_modClu_proj p (fun x => hp x _ _ _) _ u h) _ _ g

theorem engineMissed_clu_proj {β : Type} (p : Cluster → β) (hp : ∀ c l x n, p { c with means := l, ff := x, limRun := n } = p c)
    (sc : Nat) (s : State) (g : Nat) : p (clu (engineMissed sc s) g) = p (clu s g) :=
  (clu_heldLatch_proj p hp sc _ g).trans (congrArg p ((modSec_only _ _ _).clu_eq rfl g))

theorem sec_heldLatch_proj {β : Type} (p : Sector → β) (hp : ∀ x a b, p { x with cmdPre := a, reports := b } = p x) (sc : Nat)
    (s : State) (m : Nat) : p (sec (heldLatch sc s) m) = p (sec s m) := by
  refine (sec_trailLatch_proj p hp sc _ m).trans (congrArg p ?_)
  have h : Only [.clus, .live, .seat] s (closeMeans sc (setLive (secO sc Reg.SEC_FFLAST) 0 (forEach (secClus sc) (fun g s => modClu g (fun x => { x with
      means := addMean (estNo s) x.mNow (satCode x && !noSens x) (noSens x) x.means, ff := 0, limRun := limitRun x x.limAt }) s) s))) :=
    (((Only.refl _ s).forEach _ _ fun _ u => (modClu_only _ _ u).mono rfl).via (setLive_only _ _ _) rfl).via (closeMeans_only _ _) rfl
  exact h.sec_eq rfl m

theorem engineMissed_eRef (sc : Nat) (s : State) (m : Nat) : (sec (engineMissed sc s) m).eRef = (sec s m).eRef :=
  (sec_heldLatch_proj Sector.eRef (fun _ _ _ => rfl) sc _ m).trans (sec_modSec_proj Sector.eRef
    (f := fun x => { x with res := none, estDue := x.estDue || (match (sec s sc).res with | some r => r.took | none => false), wakeRan := false })
    (fun _ => rfl) sc s m)

/-! ### Limits -/

theorem centreOf_mem (sp : Nat) (x : Int) : 1000 ≤ centreOf sp x ∧ centreOf sp x ≤ 2100 := by
  have h := clamp_mem ((sp : Int) + roundDiv x 32768) (lo := 1000) (hi := 2100) (by decide)
  unfold centreOf
  omega

theorem integStep_held {s : State} {sc c : Nat} {mode : EngMode} {i : CluIn} (hm : mode ≠ .wake)
    (h : integHeld (clu s (4 * sc + c)) mode i.n = true) : integStep s sc c mode i = (clu s (4 * sc + c)).integ := by
  unfold integStep
  dsimp only
  rw [if_neg hm, if_pos h]

theorem integStep_mem {s : State} {sc c : Nat} {mode : EngMode} {i : CluIn} (hlim : trimLo s sc ≤ trimHi s sc) (hm : mode ≠ .wake)
    (h : integHeld (clu s (4 * sc + c)) mode i.n = false) :
    trimLo s sc ≤ integStep s sc c mode i ∧ integStep s sc c mode i ≤ trimHi s sc := by
  unfold integStep
  dsimp only
  rw [if_neg hm, if_neg (by rw [h]; decide)]
  exact clamp_mem _ hlim

/-- Settles O31. -/
theorem sectorEngine : Obligations.SectorEngine := by
  refine ⟨fun s sc x0 x1 x2 x3 bad hawake ht hsc => ?_, ⟨fun s sc r hawake hsc hd hdone hres => ?_, fun s sc hawake hsc hd hdone => ?_⟩,
    fun s sc c mode i hlim => ⟨integStep_held, integStep_mem hlim, centreOf_mem⟩⟩
  · refine ⟨_, exec_sectorEngineStart bad hawake ht hsc rfl, ?_⟩
    have hsamp := sampledSec_only sc [x0, x1, x2, x3] s
    have hserve := hsamp.engineServes_eq rfl rfl sc
    have hcodes := fun c x h => sampledSec_sampled sc x0 x1 x2 x3 s (c := c) (x := x) h
    have hother := fun g hg => clu_sampledSec_other (sc := sc) (g := g) hg x0 x1 x2 x3 s
    generalize sampledSec sc [x0, x1, x2, x3] s = u at hsamp hserve hcodes hother ⊢
    cases hs : engineServes s sc with
    | false =>
      rw [hserve, hs]
      exact ⟨hcodes, hother, hsamp.keeps .cells rfl, fun h => absurd h Bool.false_ne_true, fun _ => hsamp.keeps .flt rfl, fun _ => hsamp.eng_eq rfl _ _⟩
    | true =>
      rw [hserve, hs]
      have hbad : Only [.live, .flt] u (when bad (raiseOn Src.SEC_ENG_FAULT sc (secPage sc) 9) u) :=
        (Only.refl _ u).when _ _ fun v => raiseOn_only _ _ _ _ v
      have hstart := engineStart_only sc (when bad (raiseOn Src.SEC_ENG_FAULT sc (secPage sc) 9) u)
      obtain ⟨hb, hn, hr⟩ := engineStart_begins sc (when bad (raiseOn Src.SEC_ENG_FAULT sc (secPage sc) 9) u)
      refine ⟨fun c x h => ?_, fun g hg => ?_, (hstart.keeps .cells rfl).trans ((hbad.keeps .cells rfl).trans (hsamp.keeps .cells rfl)),
        fun _ => ⟨hb.trans (congrArg some ((hbad.now_eq rfl).trans (hsamp.now_eq rfl))), hn, hr, ?_⟩, ?_, fun h => absurd h.symm Bool.false_ne_true⟩
      · obtain ⟨hA, hB, hM⟩ := hcodes c x h
        refine ⟨?_, ?_, ?_⟩
        · exact (clu_engineStart_proj Cluster.codeA (fun _ _ => rfl) sc _ _).trans ((congrArg Cluster.codeA (hbad.clu_eq rfl _)).trans hA)
        · exact (clu_engineStart_proj Cluster.codeB (fun _ _ => rfl) sc _ _).trans ((congrArg Cluster.codeB (hbad.clu_eq rfl _)).trans hB)
        · exact (clu_engineStart_proj Cluster.legMed (fun _ _ => rfl) sc _ _).trans ((congrArg Cluster.legMed (hbad.clu_eq rfl _)).trans hM)
      · exact (clu_engineStart_other hg _).trans ((hbad.clu_eq rfl g).trans (hother g hg))
      · rintro rfl
        exact ((raiseOn_raised _ _ _ _ u).after hsamp rfl rfl).before hstart rfl
      · rintro rfl
        exact (hstart.keeps .flt rfl).trans (hsamp.keeps .flt rfl)
  · refine ⟨_, exec_sectorEngineLatch hawake hsc hd, ?_⟩
    rw [latch_done _ _ hdone]
    have hset := setEng_only clsSector sc { eng s clsSector sc with start := none, done := none } s
    have hafter := engineCommit_after (sc := sc) (s := setEng clsSector sc { eng s clsSector sc with start := none, done := none } s)
      (r := r) (by rw [hset.sec_eq rfl, hres])
    refine ⟨?_, fun c hc => ?_, fun g hg => ?_⟩
    · rw [(engineCommit_only _ _).eng_eq rfl, eng_setEng_same]
    · have h := forEach_latched (l := upto 4) (c := c) (List.mem_range.mpr hc) sc r
        (setEng clsSector sc { eng s clsSector sc with start := none, done := none } s)
      unfold LatchedClu at h
      rwa [← hafter.clu_eq rfl] at h
    · rw [hafter.clu_eq rfl, clu_forEach_latch_other hg, hset.clu_eq rfl]
  · refine ⟨_, exec_sectorEngineLatch hawake hsc hd, ?_⟩
    rw [latch_overrun _ _ hdone]
    have ho := overrun_only clsSector sc s
    have hm := engineMissed_only sc (overrun clsSector sc s)
    refine ⟨?_, (hm.keeps .cells rfl).trans (ho.keeps .cells rfl), fun g => ⟨?_, ?_⟩, ?_, (overrun_among _ _ s).before hm rfl⟩
    · rw [hm.eng_eq rfl, overrun_start]
    · exact (engineMissed_clu_proj Cluster.integ (fun _ _ _ _ => rfl) sc _ g).trans (congrArg Cluster.integ (ho.clu_eq rfl g))
    · exact (engineMissed_clu_proj Cluster.centre (fun _ _ _ _ => rfl) sc _ g).trans (congrArg Cluster.centre (ho.clu_eq rfl g))
    · exact (engineMissed_eRef sc _ sc).trans (congrArg Sector.eRef (ho.sec_eq rfl sc))

end Sys2Proof.Machine
end

section
/-! SUPPORT. The sector engine's commands, the change of engine, and the sensors of a cluster. -/

namespace Sys2Proof.Machine

theorem secCommand_plausClear (sc : Nat) (s : State) : secCommand sc 1 s = plausClear sc s := rfl
theorem secCommand_toSpare (sc : Nat) (s : State) : secCommand sc 2 s = toSpareCmd sc s := rfl
theorem secCommand_handback (sc : Nat) (s : State) : secCommand sc 4 s = handbackCmd sc s := rfl

/-- A guardband given to Chairlift is the one change of its sector. -/
theorem sec_issueGb_proj {β : Type} (p : Sector → β) (hp : ∀ x a, p { x with cmdGb := a } = p x) (sc : Nat) (s : State) (m : Nat) :
    p (sec (issueGb sc s) m) = p (sec s m) := by
  unfold issueGb
  cases (sec s sc).prof != .idle with
  | false => rfl
  | true => exact sec_modSec_proj p (f := fun x => { x with cmdGb := some (gbTarget s sc, now s) }) (fun x => hp x _) sc s m

theorem sec_issueGb_other {sc m : Nat} (hm : m ≠ sc) (s : State) : sec (issueGb sc s) m = sec s m := by
  unfold issueGb when
  split
  · exact sec_modSec_other hm _ s
  · rfl

/-- The end of SUSPECT, before the guardband follows. -/
def suspectLeft (sc : Nat) (s : State) : State :=
  let e := exitRef s sc
  let keep := fun (r : EngRes) => { r with eRef := e, dis := 0, agr := 0, enter := false, leave := false }
  modSec sc (fun x => { x with suspect := false, disRun := 0, agrRun := 0, eRef := e, res := x.res.map keep }) s

theorem leaveSuspect_eq (sc : Nat) (s : State) : leaveSuspect sc s = issueGb sc (suspectLeft sc s) := rfl

theorem leaveSuspect_left (sc : Nat) (s : State) : (sec (leaveSuspect sc s) sc).suspect = false ∧
    (sec (leaveSuspect sc s) sc).disRun = 0 ∧ (sec (leaveSuspect sc s) sc).agrRun = 0 := by
  have hleft : ∀ {β : Type} (p : Sector → β), (∀ x a, p { x with cmdGb := a } = p x) →
      p (sec (leaveSuspect sc s) sc) = p (sec (suspectLeft sc s) sc) := fun p hp => sec_issueGb_proj p hp sc _ sc
  rw [hleft Sector.suspect fun _ _ => rfl, hleft Sector.disRun fun _ _ => rfl, hleft Sector.agrRun fun _ _ => rfl]
  unfold suspectLeft
  dsimp only
  rw [sec_modSec_same]
  exact ⟨rfl, rfl, rfl⟩

theorem sec_leaveSuspect_other {sc m : Nat} (hm : m ≠ sc) (s : State) : sec (leaveSuspect sc s) m = sec s m := by
  rw [leaveSuspect_eq, sec_issueGb_other hm]
  exact sec_modSec_other hm _ s

/-! ### A change of engine -/

theorem sec_dropPeriod (sc : Nat) (s : State) :
    sec (dropPeriod sc s) sc = { sec s sc with res := none, asked := [], rbAt := none } :=
  ((setEng_only _ _ _ _).sec_eq rfl sc).trans (sec_modSec_same _ _ _)

theorem sec_beginSwitch (toSpare : Bool) (sc : Nat) (s : State) : sec (beginSwitch toSpare sc s) sc =
    { sec s sc with res := none, asked := [], rbAt := none, engSw := some (now s + 16, toSpare) } := by
  unfold beginSwitch
  rw [sec_modSec_same, sec_dropPeriod]

theorem eng_beginSwitch (toSpare : Bool) (sc : Nat) (s : State) : (eng (beginSwitch toSpare sc s) clsSector sc).start = none :=
  congrArg EngRun.start (((modSec_only _ _ _).eng_eq rfl _ _).trans (eng_setEng_same _ _ _ _))

theorem toSpareCmd_begins {s : State} {sc : Nat} (hf : spareFree s (sc / 16) = true) (ho : (sec s sc).onSpare = false)
    (hsw : (sec s sc).engSw = none) (hm : (sec s sc).mode ≠ .dark) : toSpareCmd sc s = beginSwitch true sc s :=
  if_pos (by simp [hf, ho, hsw, hm])

theorem toSpareCmd_refused {s : State} {sc : Nat} (h : spareFree s (sc / 16) = false ∨ (sec s sc).onSpare = true) :
    toSpareCmd sc s = refuse (secPage sc) s := if_neg (by rcases h with h | h <;> simp [h])

theorem handbackCmd_begins {s : State} {sc : Nat} (ho : (sec s sc).onSpare = true) (hf : (sec s sc).ownFailed = false)
    (hsw : (sec s sc).engSw = none) (hm : (sec s sc).mode ≠ .dark) : handbackCmd sc s = beginSwitch false sc s :=
  if_pos (by simp [hf, ho, hsw, hm])

theorem handbackCmd_refused {s : State} {sc : Nat} (h : (sec s sc).onSpare = false ∨ (sec s sc).ownFailed = true) :
    handbackCmd sc s = refuse (secPage sc) s := if_neg (by rcases h with h | h <;> simp [h])

/-- The other engine serves, before it wakes. -/
def engineServed (toSpare : Bool) (sc : Nat) (s : State) : State :=
  modSec sc (fun x => { x with
    engSw := none, onSpare := toSpare, serveFrom := now s, prepos := [], reports := [],
    stored := if x.mode = .off then x.stored else none }) (swapHistory toSpare sc s)

theorem sec_engineServed (toSpare : Bool) (sc : Nat) (s : State) : sec (engineServed toSpare sc s) sc = { sec s sc with
    engSw := none, onSpare := toSpare, serveFrom := now s, prepos := [], reports := [],
    stored := if (sec s sc).mode = .off then (sec s sc).stored else none } := by
  unfold engineServed
  rw [sec_modSec_same, (swapHistory_only _ _ _).sec_eq rfl]

theorem sec_engineServed_other {sc m : Nat} (hm : m ≠ sc) (toSpare : Bool) (s : State) : sec (engineServed toSpare sc s) m = sec s m :=
  (sec_modSec_other hm _ _).trans ((swapHistory_only _ _ _).sec_eq rfl m)

theorem engineServed_only (toSpare : Bool) (sc : Nat) (s : State) : Only [.eng, .secs] s (engineServed toSpare sc s) :=
  ((swapHistory_only _ _ _).mono rfl).via (modSec_only _ _ _) rfl

theorem engineSwitch_eq (toSpare : Bool) (sc : Nat) (s : State) : engineSwitch toSpare sc s =
    when toSpare (raiseOn Src.SEC_SPARE_TAKEOVER sc (secPage sc) 3)
      (when ((sec (engineServed toSpare sc s) sc).mode != .off) (engineWake sc) (engineServed toSpare sc s)) := rfl

/-- An engine that wakes keeps which engine serves; it wakes but from DARK. -/
theorem engineWake_sec (sc : Nat) (s : State) : (sec (engineWake sc s) sc).engSw = (sec s sc).engSw ∧
    (sec (engineWake sc s) sc).onSpare = (sec s sc).onSpare ∧
    ((sec s sc).mode ≠ .dark → (sec (engineWake sc s) sc).mode = .wake) ∧ ∀ m, m ≠ sc → sec (engineWake sc s) m = sec s m := by
  unfold engineWake
  dsimp only
  split
  · next h => exact ⟨rfl, rfl, fun hn => absurd h hn, fun _ _ => rfl⟩
  · rw [sec_modSec_same]
    exact ⟨rfl, rfl, fun _ => rfl, fun m hm => sec_modSec_other hm _ _⟩

/-- The sector after its change of engine. -/
theorem engineSwitch_sec (toSpare : Bool) (sc : Nat) (s : State) : (sec (engineSwitch toSpare sc s) sc).engSw = none ∧
    (sec (engineSwitch toSpare sc s) sc).onSpare = toSpare ∧ (∀ n, n ≠ sc → sec (engineSwitch toSpare sc s) n = sec s n) ∧
    ((sec s sc).mode ≠ .off → (sec s sc).mode ≠ .dark → (sec (engineSwitch toSpare sc s) sc).mode = .wake) ∧
    ((sec s sc).mode = .off → (sec (engineSwitch toSpare sc s) sc).mode = .off) := by
  have hend : ∀ u, Only [.live, .flt] u (when toSpare (raiseOn Src.SEC_SPARE_TAKEOVER sc (secPage sc) 3) u) := fun u =>
    (Only.refl _ u).when _ _ fun v => raiseOn_only _ _ _ _ v
  have hserved := sec_engineServed toSpare sc s
  have hmode : (sec (engineServed toSpare sc s) sc).mode = (sec s sc).mode := by rw [hserved]
  have hsw0 : (sec (engineServed toSpare sc s) sc).engSw = none := by rw [hserved]
  have hon0 : (sec (engineServed toSpare sc s) sc).onSpare = toSpare := by rw [hserved]
  obtain ⟨hsw, hon, hwake, hother⟩ := engineWake_sec sc (engineServed toSpare sc s)
  rw [engineSwitch_eq, hmode]
  cases hoff : (sec s sc).mode != .off with
  | false =>
    have hoff' : (sec s sc).mode = .off := by simpa using hoff
    simp only [(hend _).sec_eq rfl]
    refine ⟨hsw0, hon0, fun n hn => sec_engineServed_other hn _ s,
      fun h => absurd hoff' h, fun h => hmode.trans h⟩
  | true =>
    have hon' : (sec s sc).mode ≠ .off := by simpa using hoff
    simp only [(hend _).sec_eq rfl]
    exact ⟨hsw.trans hsw0, hon.trans hon0,
      fun n hn => (hother n hn).trans (sec_engineServed_other hn _ s), fun _ hd => hwake (by rwa [hmode]), fun h => absurd h hon'⟩

theorem engineSwitch_before (toSpare : Bool) (sc : Nat) (s : State) : Only [.eng, .secs] s
    (when ((sec (engineServed toSpare sc s) sc).mode != .off) (engineWake sc) (engineServed toSpare sc s)) :=
  (engineServed_only toSpare sc s).when _ _ fun u => (engineWake_only _ u).mono rfl

theorem exec_spareEngineSwitch {s : State} {sc t0 : Nat} {toSpare : Bool} (hawake : awake s = true)
    (h : (sec s sc).engSw = some (t0, toSpare)) (ht : t0 ≤ now s) :
    exec (.spareEngineSwitch sc) s = .next (engineSwitch toSpare sc s) := by
  show execSpareEngineSwitch sc s = _
  unfold execSpareEngineSwitch
  rw [h]
  exact act_runs hawake (decide_eq_true ht)

/-! ### Sensors -/

theorem urgentPush_fits {s : State} {q : Nat} (h : urgentFits s q = true) (chan who : Nat) : urgentPush q chan who s =
    modQuad q (fun x => { x with queue := insertUrg ⟨chan, who, now s⟩ x.queue }) s := if_pos h

theorem urgentPush_refused {s : State} {q : Nat} (h : urgentFits s q = false) (chan who : Nat) :
    urgentPush q chan who s = bump (qdO q Reg.QD_URGREFUSED) s := if_neg (by rw [h]; decide)

theorem Only.urgentFits_eq {l : List Part} {s t : State} (h : Only l s t) (hp : l.contains .params = false)
    (hq : l.contains .quads = false) (ha : l.contains .adcs = false) (q : Nat) : urgentFits t q = urgentFits s q := by
  unfold urgentFits quadConv convOf
  rw [h.quad_eq hq]
  simp only [h.adc_eq hp ha]

theorem askTap_fits {s : State} {g : Nat} (h : urgentFits s (cluQuad g) = true) : askTap g s =
    modQuad (cluQuad g) (fun x => { x with queue := insertUrg ⟨g % 64, 0, now s⟩ x.queue })
      (modClu g (fun c => { c with tapWait := true }) s) := by
  have hfits : urgentFits (modClu g (fun c => { c with tapWait := true }) s) (cluQuad g) = true :=
    ((modClu_only _ _ _).urgentFits_eq rfl rfl rfl _).trans h
  unfold askTap
  rw [h]
  exact urgentPush_fits hfits _ _

theorem askTap_refused {s : State} {g : Nat} (h : urgentFits s (cluQuad g) = false) :
    askTap g s = bump (qdO (cluQuad g) Reg.QD_URGREFUSED) s := by
  unfold askTap
  rw [h]
  exact urgentPush_refused h _ _

theorem sensorsDiffer_of {s : State} {g : Nat} (hg : g < 4 * sectors s) (ht : atTick s controlP 0 = true)
    (ha : (clu s g).aFail = false) (hb : (clu s g).bFail = false) (hw : (clu s g).tapWait = false)
    (hd : cfgF s (cluReg g 0x044 16) 11 8 ≤ (clu s g).disRun) : sensorsDiffer s g = true := by
  unfold sensorsDiffer
  simp only [hg, ht, ha, hb, hw, hd, decide_true]
  rfl

/-- Settles O32. -/
theorem engineCommands : Obligations.EngineCommands := by
  refine ⟨⟨fun s sc bad hawake hsc hrb => ?_, fun s g hawake hl => ?_, fun s a sc hawake hok hsec hsus => ?_,
    fun s a sc hawake hok hsec hf ho hsw hm => ?_, fun s a sc hawake hok hsec h => ?_,
    fun s a sc hawake hok hsec ho hf hsw hm => ?_, fun s a sc hawake hok hsec h => ?_,
    fun s sc t0 toSpare hawake hsw ht => ?_⟩, fun s g hawake hg ht ha hb hw hd => ?_, fun s g hawake hne hl => ?_⟩
  · refine ⟨_, act_runs hawake (by simp [hsc, hrb]), ?_⟩
    have hmod := modSec_only sc (fun x => { x with rbAt := none }) s
    have hr : ∀ u, Only [.live, .flt] u (when bad (raiseOn Src.SEC_ENG_FAULT sc (secPage sc) 9) u) := fun u =>
      (Only.refl _ u).when _ _ fun v => raiseOn_only _ _ _ _ v
    simp only [(hr _).sec_eq rfl]
    refine ⟨sec_modSec_same _ _ _, fun n hn => sec_modSec_other hn _ _, ?_, ?_⟩
    · rintro rfl
      exact (raiseOn_raised _ _ _ _ _).after hmod rfl rfl
    · rintro rfl
      exact hmod.keeps .flt rfl
  · refine ⟨_, act_runs hawake (by simp [hl]), ?_⟩
    have hmod := modClu_only g (fun c => { c with limRun := 257 }) s
    rw [(raiseOn_only _ _ _ _ _).clu_eq rfl, clu_modClu_same]
    exact ⟨rfl, (raiseOn_raised _ _ _ _ _).after hmod rfl rfl, (hmod.mono rfl).via (raiseOn_only _ _ _ _ _) rfl⟩
  · refine ⟨_, secureCmd_ok hawake hok hsec _, ?_⟩
    obtain ⟨h1, h2, h3⟩ := leaveSuspect_left sc s
    rw [secCommand_plausClear, show plausClear sc s = leaveSuspect sc s from if_pos hsus]
    simp only [(respond_only _ _ _).sec_eq rfl]
    exact ⟨h1, h2, h3, fun n hn => sec_leaveSuspect_other hn s, ((leaveSuspect_only _ _).mono rfl).via (respond_only _ _ _) rfl⟩
  · refine ⟨_, secureCmd_ok hawake hok hsec _, ?_⟩
    rw [secCommand_toSpare, toSpareCmd_begins hf ho hsw hm]
    simp only [(respond_only _ _ _).sec_eq rfl, (respond_only _ _ _).eng_eq rfl, sec_beginSwitch]
    exact ⟨trivial, trivial, eng_beginSwitch _ _ _, ((beginSwitch_only _ _ _).mono rfl).via (respond_only _ _ _) rfl⟩
  · refine ⟨_, secureCmd_ok hawake hok hsec _, ?_⟩
    rw [secCommand_toSpare, toSpareCmd_refused h]
    exact ⟨field_refuse_respond _ _ _ _, ((refuse_only _ _).mono rfl).via (respond_only _ _ _) rfl⟩
  · refine ⟨_, secureCmd_ok hawake hok hsec _, ?_⟩
    rw [secCommand_handback, handbackCmd_begins ho hf hsw hm]
    simp only [(respond_only _ _ _).sec_eq rfl, sec_beginSwitch]
    exact ⟨trivial, ho, ((beginSwitch_only _ _ _).mono rfl).via (respond_only _ _ _) rfl⟩
  · refine ⟨_, secureCmd_ok hawake hok hsec _, ?_⟩
    rw [secCommand_handback, handbackCmd_refused h]
    exact ⟨field_refuse_respond _ _ _ _, ((refuse_only _ _).mono rfl).via (respond_only _ _ _) rfl⟩
  · refine ⟨_, exec_spareEngineSwitch hawake hsw ht, ?_⟩
    obtain ⟨h1, h2, h3, h4, h5⟩ := engineSwitch_sec toSpare sc s
    have hb := engineSwitch_before toSpare sc s
    refine ⟨h1, h2, h3, h4, h5, ?_, ?_⟩
    · rintro rfl
      exact (raiseOn_raised _ _ _ _ _).after hb rfl rfl
    · rintro rfl
      exact hb.keeps .flt rfl
  · refine ⟨_, act_runs hawake (sensorsDiffer_of hg ht ha hb hw hd), fun hf => ?_, fun hf => askTap_refused hf⟩
    have hmod := modClu_only g (fun c => { c with tapWait := true }) s
    rw [askTap_fits hf, show cluQuad g = g / 64 from rfl, (modQuad_only _ _ _).clu_eq rfl, clu_modClu_same, quad_modQuad_same, hmod.quad_eq rfl]
    exact ⟨rfl, rfl, (hmod.mono rfl).via (modQuad_only _ _ _) rfl⟩
  · refine ⟨_, act_runs hawake (by simp [hne, hl]), ?_⟩
    have hset := setClu_only g { clu s g with aFail := true, bFail := true } s
    rw [(raiseOn_only _ _ _ _ _).clu_eq rfl, clu_setClu_same]
    exact ⟨rfl, (raiseOn_raised _ _ _ _ _).after hset rfl rfl, (hset.mono rfl).via (raiseOn_only _ _ _ _ _) rfl⟩

end Sys2Proof.Machine
end

section
/-! SUPPORT. Chairlift: the step of a sector, its channels and its time limits. -/

namespace Sys2Proof.Machine

/-! ### What a sector presents, and what leaves it -/

/-- The point presented, the one computed last and its tick. -/
def pointOf (x : Sector) : Nat × Nat × Nat := (x.sp, x.spNext, x.spDue)

/-- A change that leaves every sector's point. -/
def KeepsPoint (s t : State) : Prop := ∀ m, pointOf (sec t m) = pointOf (sec s m)

theorem KeepsPoint.refl (s : State) : KeepsPoint s s := fun _ => rfl

theorem KeepsPoint.trans {s t u : State} (h : KeepsPoint s t) (k : KeepsPoint t u) : KeepsPoint s u := fun m => (k m).trans (h m)

theorem Only.keepsPoint {l : List Part} {s t : State} (h : Only l s t) (hs : l.contains .secs = false) : KeepsPoint s t :=
  fun m => congrArg pointOf (h.sec_eq hs m)

theorem setSec_keepsPoint {n : Nat} {x : Sector} {s : State} (h : pointOf x = pointOf (sec s n)) : KeepsPoint s (setSec n x s) :=
  sec_setSec_proj pointOf h

theorem modSec_keepsPoint {f : Sector → Sector} (h : ∀ x, pointOf (f x) = pointOf x) (n : Nat) (s : State) :
    KeepsPoint s (modSec n f s) := sec_modSec_proj pointOf h n s

theorem KeepsPoint.when {f : State → State} (h : ∀ s, KeepsPoint s (f s)) (b : Bool) (s : State) : KeepsPoint s (when b f s) := by
  cases b
  · exact .refl s
  · exact h s

theorem presented_of_point {s t : State} {sc : Nat} (hp : pointOf (sec t sc) = pointOf (sec s sc)) (hn : now t = now s) :
    presented t sc = presented s sc := by
  obtain ⟨hsp, hnext, hdue⟩ : (sec t sc).sp = (sec s sc).sp ∧ (sec t sc).spNext = (sec s sc).spNext ∧
      (sec t sc).spDue = (sec s sc).spDue := by simpa [pointOf] using hp
  unfold presented
  dsimp only
  rw [hsp, hnext, hdue, hn]

/-- A record that is flushed leaves of its sector all but the pre-raise command and the reports. -/
theorem sec_flushSlot_proj {β : Type} (p : Sector → β) (hp : ∀ x a b, p { x with cmdPre := a, reports := b } = p x) (keep : Bool)
    (q i : Nat) (s : State) (m : Nat) : p (sec (flushSlot keep q i s) m) = p (sec s m) := by
  unfold flushSlot
  split
  · rfl
  next x _ =>
    have hdrop : Only [.live, .trail] s (bump (trailO (Reg.TRAIL_FLUSH q)) (dropSlot q i s)) :=
      ((modWin_only _ _ s).mono rfl).via (bump_only _ _) rfl
    have hreport : ∀ u, p (sec (report x.sector (slotKey q i) true u) m) = p (sec u m) := fun u =>
      sec_modSec_proj p (f := fun x => { x with reports := x.reports ++ [(slotKey q i, true)] }) (fun x => hp x x.cmdPre _) _ u m
    have hretarget : ∀ u, p (sec (retarget x.sector u) m) = p (sec u m) := fun u =>
      sec_modSec_proj p (fun x => hp x _ x.reports) _ u m
    dsimp only
    rw [← hdrop.sec_eq rfl m]
    unfold when
    split
    · refine (hretarget _).trans ?_
      split
      · exact hreport _
      · rfl
    · split
      · exact hreport _
      · rfl

theorem sec_flushSector_proj {β : Type} (p : Sector → β) (hp : ∀ x a b, p { x with cmdPre := a, reports := b } = p x) (sc : Nat)
    (s : State) (m : Nat) : p (sec (flushSector sc s) m) = p (sec s m) :=
  foldl_sec_proj p (fun s x m => sec_flushSlot_proj p hp false (sc / 16) x.1 s m) _ s m

theorem KeepsPoint.ite {c : Prop} [Decidable c] {s t u : State} (h : KeepsPoint s t) (k : KeepsPoint s u) :
    KeepsPoint s (if c then t else u) := by
  split
  · exact h
  · exact k

theorem storeInteg_keepsPoint (sc : Nat) (s : State) : KeepsPoint s (storeInteg sc s) := modSec_keepsPoint (fun _ => by rfl) _ _

theorem engineRetain_keepsPoint (sc : Nat) (s : State) : KeepsPoint s (engineRetain sc s) := by
  have hflush : KeepsPoint s (flushSector sc s) := sec_flushSector_proj pointOf (fun _ _ _ => rfl) sc s
  unfold engineRetain
  exact .ite ((hflush.trans (storeInteg_keepsPoint sc _)).trans (modSec_keepsPoint (fun _ => by rfl) _ _)) (.refl s)

theorem engineWake_keepsPoint (sc : Nat) (s : State) : KeepsPoint s (engineWake sc s) := by
  unfold engineWake
  exact .ite (.refl s) (modSec_keepsPoint (fun _ => by rfl) _ _)

/-! ### The parts of the step keep the point -/

theorem baseCmd_keepsPoint (sc : Nat) (t : Int) (s : State) : KeepsPoint s (baseCmd sc t s) :=
  modSec_keepsPoint (fun _ => by rfl) _ _

theorem takeFall_keepsPoint (sc : Nat) (s : State) : KeepsPoint s (takeFall sc s) := by
  unfold takeFall
  split
  · exact KeepsPoint.when (fun u => baseCmd_keepsPoint _ _ u) _ _
  · exact .refl s

theorem issueGb_keepsPoint (sc : Nat) (s : State) : KeepsPoint s (issueGb sc s) := sec_issueGb_proj pointOf (fun _ _ => rfl) sc s

theorem trySwitchOn_keepsPoint (sc : Nat) (s : State) : KeepsPoint s (trySwitchOn sc s) := by
  unfold trySwitchOn
  exact .ite (((setSec_keepsPoint (by rfl)).trans (baseCmd_keepsPoint _ _ _)).trans
    (KeepsPoint.when (fun u => issueGb_keepsPoint sc u) _ _)) (.refl s)

/-- The base command that a step takes. -/
def takeBase (s : State) (x : Sector) : Sector :=
  match x.cmdBase with
  | some (t, at0) =>
    if at0 ≤ now s then
      let up := decide (x.base.adm < t)
      { x with cmdBase := none, settleN := 0,
               base := { x.base with tgt := t, adm := if up then x.base.adm else t, wait := if up then some at0 else none,
                                     said := false, there := false } }
    else x
  | none => x

/-- The guardband command that a step takes. -/
def takeGb (x : Sector) : Sector :=
  match x.cmdGb with
  | some (t, at0) =>
    let up := decide (x.gb.adm < t)
    { x with cmdGb := none, settleN := 0,
             gb := { x.gb with tgt := t, adm := if up then x.gb.adm else t, wait := if up then some at0 else none,
                               said := false, there := false } }
  | none => x

theorem takeCmds_eq (s : State) (x : Sector) : takeCmds s x = takeGb (takeBase s x) := rfl

theorem pointOf_takeCmds (s : State) (x : Sector) : pointOf (takeCmds s x) = pointOf x := by
  have hgb : ∀ y, pointOf (takeGb y) = pointOf y := fun y => by
    unfold takeGb
    split <;> rfl
  rw [takeCmds_eq, hgb]
  unfold takeBase
  split
  · split <;> rfl
  · rfl

theorem takePre_keepsPoint (sc : Nat) (s : State) : KeepsPoint s (takePre sc s) := by
  have hgive : ∀ t u, KeepsPoint u (givePre sc t u) := fun t u => modSec_keepsPoint (fun _ => by rfl) _ _
  have hdrop : KeepsPoint s (setSec sc { sec s sc with cmdPre := none } s) := setSec_keepsPoint rfl
  have hrefuse : ∀ (keys : List Nat) u, Only [.live, .trail] u
      (keys.foldl (fun s k => preRefused k s) (bump (secO sc Reg.SEC_PREBLK) u)) := fun keys u =>
    ((bump_only _ _).mono rfl).foldl _ _ fun u k => (preRefused_only k u).mono rfl
  unfold takePre
  dsimp only
  split
  · exact .refl s
  · exact .ite (hdrop.trans (hgive _ _)) ((hdrop.trans ((hrefuse _ _).keepsPoint rfl)).trans (KeepsPoint.when (hgive _) _ _))

theorem admitCmds_keepsPoint (sc : Nat) (s : State) : KeepsPoint s (admitCmds sc s) := by
  unfold admitCmds
  exact .ite (.ite (setSec_keepsPoint (by rfl)) ((bump_only _ _).keepsPoint rfl)) (.refl s)

theorem enterCells_keepsPoint (sc : Nat) (s : State) : KeepsPoint s (enterCells sc s) := by
  unfold enterCells
  exact .ite (setSec_keepsPoint (by rfl)) (.refl s)

theorem enterRamp_keepsPoint (sc : Nat) (s : State) : KeepsPoint s (enterRamp sc s) := by
  unfold enterRamp
  exact .ite (setSec_keepsPoint (by simp only [pointOf])) (.refl s)

theorem moveStep_keepsPoint (sc : Nat) (s : State) : KeepsPoint s (moveStep sc s) := by
  unfold moveStep
  exact .ite (setSec_keepsPoint (by rfl)) (setSec_keepsPoint (by rfl))

theorem settled_keepsPoint (sc : Nat) (s : State) : KeepsPoint s (settled sc s) := by
  unfold settled
  exact .trans (setSec_keepsPoint (by rfl)) (KeepsPoint.when (fun u => engineWake_keepsPoint sc u) _ _)

theorem settleStep_keepsPoint (sc : Nat) (s : State) : KeepsPoint s (settleStep sc s) := by
  unfold settleStep
  exact .ite (.refl s) (.ite (setSec_keepsPoint (by rfl)) (.ite (.ite (setSec_keepsPoint (by rfl)) (.refl s))
    (.ite (.ite (settled_keepsPoint sc s) (setSec_keepsPoint (by rfl))) (setSec_keepsPoint (by rfl)))))

theorem beginRetention_keepsPoint (sc : Nat) (s : State) : KeepsPoint s (beginRetention sc s) := by
  unfold beginRetention
  exact .ite (((setSec_keepsPoint (by rfl)).trans (engineRetain_keepsPoint sc _)).trans
    (KeepsPoint.when (fun u => baseCmd_keepsPoint _ _ u) _ _)) (.refl s)

theorem gateStep_keepsPoint (sc : Nat) (s : State) : KeepsPoint s (gateStep sc s) := by
  unfold gateStep
  exact .ite (.trans (setSec_keepsPoint (by rfl)) (beginRetention_keepsPoint sc _)) (.refl s)

/-! ### The sector's step -/

/-- What a step does to a sector that is not idle, before it presents. -/
def stepRun (sc : Nat) (s : State) : State :=
  gateStep sc (settleStep sc (moveStep sc (enterRamp sc (enterCells sc (admitCmds sc
    (takePre sc (setSec sc (takeCmds s (sec s sc)) s)))))))

theorem stepRun_keepsPoint (sc : Nat) (s : State) : KeepsPoint s (stepRun sc s) :=
  (setSec_keepsPoint (pointOf_takeCmds s (sec s sc)) : KeepsPoint s _)
    |>.trans (takePre_keepsPoint sc _) |>.trans (admitCmds_keepsPoint sc _) |>.trans (enterCells_keepsPoint sc _)
    |>.trans (enterRamp_keepsPoint sc _) |>.trans (moveStep_keepsPoint sc _) |>.trans (settleStep_keepsPoint sc _)
    |>.trans (gateStep_keepsPoint sc _)

theorem now_stepRun (sc : Nat) (s : State) : now (stepRun sc s) = now s := by
  unfold stepRun
  rw [(gateStep_only _ _).now_eq rfl, (settleStep_only _ _).now_eq rfl, (moveStep_only _ _).now_eq rfl,
    (enterRamp_only _ _).now_eq rfl, (enterCells_only _ _).now_eq rfl, (admitCmds_only _ _).now_eq rfl,
    (takePre_only _ _).now_eq rfl, (setSec_only _ _ _).now_eq rfl]

/-- A step up to the point it computes: it leaves the points, and the time. -/
theorem sectorStep_presents (sc : Nat) (s : State) : ∃ u, sectorStep sc s = presentStep sc u ∧ KeepsPoint s u ∧ now u = now s := by
  have h0 : KeepsPoint s (takeFall sc (trySwitchOn sc s)) := (trySwitchOn_keepsPoint sc s).trans (takeFall_keepsPoint sc _)
  have hnow0 : now (takeFall sc (trySwitchOn sc s)) = now s := ((trySwitchOn_only sc s).via (takeFall_only _ _) rfl).now_eq rfl
  unfold sectorStep
  dsimp only
  split
  · exact ⟨_, rfl, h0, hnow0⟩
  · exact ⟨stepRun sc (takeFall sc (trySwitchOn sc s)), rfl, h0.trans (stepRun_keepsPoint sc _), (now_stepRun sc _).trans hnow0⟩

theorem presentStep_point (sc : Nat) (s : State) : (sec (presentStep sc s) sc).sp = presented s sc ∧
    (sec (presentStep sc s) sc).spDue = now s + controlP ∧ ((sec (presentStep sc s) sc).spNext = 0 ∨
      1000 ≤ (sec (presentStep sc s) sc).spNext ∧ (sec (presentStep sc s) sc).spNext ≤ 2100) := by
  unfold presentStep
  dsimp only
  rw [sec_setSec_same]
  refine ⟨rfl, rfl, ?_⟩
  dsimp only
  split
  · exact .inl rfl
  · right
    have := clamp_mem (roundDiv ((sec s sc).base.pos + (sec s sc).gb.pos + (sec s sc).pre.pos) q32)
      (lo := 1000) (hi := 2100) (by decide)
    omega

/-! ### The step of a channel -/

/-- The sign by which a step turns a channel is 1 or -1. -/
theorem abs_sign_mul {g : Int} (hg : g = 1 ∨ g = -1) (x : Int) : |g * x| = |x| := by
  rcases hg with rfl | rfl
  · rw [one_mul]
  · rw [neg_one_mul, abs_neg]

theorem abs_clamp_le {x l : Int} (hl : 0 ≤ l) : |clamp x (-l) l| ≤ l :=
  abs_le.mpr (clamp_mem x (by omega))

/-- A step arrives, or moves within the limits of velocity and jerk (R177, R179). -/
theorem Chan.step_within (l : StepLim) (c : Chan) (hv : 0 ≤ l.v) (hj : 0 ≤ l.j) :
    (c.step l).adm = c.adm ∧ (c.step l).tgt = c.tgt ∧
    (((c.step l).pos = c.adm * q32 ∧ (c.step l).vel = 0 ∧ (c.step l).acc = 0) ∨
      ((c.step l).pos = c.pos + (c.step l).vel ∧ |(c.step l).vel| ≤ l.v ∧ |(c.step l).acc - c.acc| ≤ l.j)) := by
  have hmoves : ∀ (g a2 v2 da : Int), (g = 1 ∨ g = -1) → |v2| ≤ l.v → a2 = g * c.acc + da → |da| ≤ l.j →
      |g * v2| ≤ l.v ∧ |g * a2 - c.acc| ≤ l.j := by
    rintro g a2 v2 da hg hv2 rfl hda
    refine ⟨(abs_sign_mul hg v2).le.trans hv2, ?_⟩
    have hsplit : g * (g * c.acc + da) - c.acc = g * da := by rcases hg with rfl | rfl <;> ring
    rw [hsplit, abs_sign_mul hg]
    exact hda
  have hsign : ∀ d v : Int, (if 0 < d then (1 : Int) else if d < 0 then -1 else if 0 < v then -1 else 1) = 1 ∨
      (if 0 < d then (1 : Int) else if d < 0 then -1 else if 0 < v then -1 else 1) = -1 := fun d v => by
    split_ifs <;> decide
  unfold Chan.step
  dsimp only
  have hg := hsign (c.adm * q32 - c.pos) c.vel
  generalize (if 0 < c.adm * (q32 : Int) - c.pos then (1 : Int) else if c.adm * (q32 : Int) - c.pos < 0 then -1
    else if 0 < c.vel then -1 else 1) = g at hg ⊢
  by_cases harrive : (decide (g * (c.adm * (q32 : Int) - c.pos) ≤ 0x80000000) && decide (-0x4000000 ≤ g * c.vel) &&
      decide (g * c.vel ≤ 0x4000000)) = true
  · rw [if_pos harrive]
    exact ⟨rfl, rfl, .inl ⟨rfl, rfl, rfl⟩⟩
  · rw [if_neg harrive]
    exact ⟨rfl, rfl, .inr ⟨rfl, hmoves _ _ _ _ hg (abs_clamp_le hv) rfl (abs_clamp_le hj)⟩⟩

/-! ### The statement -/

/-- Settles O33: every part of the step before the last leaves the point, and the last computes it; a channel's move is a
clamped velocity and a clamped change of acceleration. -/
theorem chairliftCommands : Obligations.ChairliftCommands := by
  unfold Obligations.ChairliftCommands
  refine ⟨⟨fun s sc hawake ht hsc hmode => ?_, fun s sc hawake ht hsc hmode => ?_⟩, Chan.step_within,
    fun s sc t0 hawake hstep hwait hsaid hlate => ?_, fun s sc hawake hstep hprof hsaid hlate => ?_, fun s sc hawake hstep => ?_⟩
  · obtain ⟨u, hu, hpoint, hnow⟩ := sectorStep_presents sc s
    refine ⟨sectorStep sc s, ?_, ?_⟩
    · refine (act_runs hawake (by rw [ht, decide_eq_true hsc]; rfl)).trans (congrArg _ (if_neg hmode))
    · rw [hu, ← hnow, ← presented_of_point (hpoint sc) hnow]
      exact presentStep_point sc u
  · refine ⟨_, (act_runs hawake (by rw [ht, decide_eq_true hsc]; rfl)).trans (congrArg _ (if_pos hmode)), ?_, setSec_only _ _ _⟩
    rw [sec_setSec_same]
  · have hlim : decide (t0 + usTicks (cfgF s (secO sc Reg.SEC_ILK) 11 0) ≤ now s) = true := decide_eq_true hlate
    refine ⟨_, act_runs hawake ?_, ?_, ?_, fun n hn => ?_, (raise_raised _ _ _).after (setSec_only _ _ s) rfl rfl,
      ((setSec_only _ _ s).mono rfl).via (raise_only _ _ _) rfl⟩
    · simp only [hstep, hwait, hsaid, hlim, Bool.not_false, Bool.true_and, Bool.true_or]
    · rw [(raise_only _ _ _).sec_eq rfl, sec_setSec_same]
      simp only [hwait, hsaid, hlim, Bool.not_false, Bool.true_and, if_true]
    · rw [(raise_only _ _ _).sec_eq rfl, sec_setSec_same]
    · rw [(raise_only _ _ _).sec_eq rfl, sec_setSec_other hn]
  · refine ⟨_, act_runs hawake ?_, ?_, fun n hn => ?_, (raise_raised _ _ _).after (setSec_only _ _ s) rfl rfl,
      ((setSec_only _ _ s).mono rfl).via (raise_only _ _ _) rfl⟩
    · simp [hstep, hprof, hsaid, hlate]
    · rw [(raise_only _ _ _).sec_eq rfl, sec_setSec_same]
    · rw [(raise_only _ _ _).sec_eq rfl, sec_setSec_other hn]
  · exact ⟨act_idle (.inr (by rw [hstep]; rfl)), act_idle (.inr (by rw [hstep]; rfl))⟩

end Sys2Proof.Machine
end

section
/-! SUPPORT. Inrush grants and neighbour checks; a sector switched on and off. -/

namespace Sys2Proof.Machine

/-! ### Grants (R197) -/

theorem live_bump_other {off o : Nat} (h : o ≠ off) (s : State) : live (bump off s) o = live s o := live_setLive_other _ _ _ _ h

/-- The request taken from a list: one of the list, or the one before. -/
theorem foldl_oldest_mem (l : List Waiting) (b : Option Waiting) (r : Waiting)
    (h : l.foldl (fun b r => match b with
      | none => some r
      | some x => if earlier r x then some r else b) b = some r) : r ∈ l ∨ b = some r := by
  induction l generalizing b with
  | nil => exact .inr h
  | cons y l ih =>
    rcases ih _ h with hl | hb
    · exact .inl (List.mem_cons_of_mem _ hl)
    · cases b with
      | none => exact .inl (by rw [← Option.some.inj hb]; exact List.mem_cons_self)
      | some x =>
        dsimp only at hb
        split at hb
        · exact .inl (by rw [← Option.some.inj hb]; exact List.mem_cons_self)
        · exact .inr hb

theorem nextGrant_fits {s : State} {q : Nat} {r : Waiting} (h : nextGrant s q = some r) : inrushFits s q r.1 r.2.rate = true := by
  rcases foldl_oldest_mem _ _ _ h with hr | hr
  · have hpass := (List.mem_filter.mp hr).2
    rw [Bool.and_eq_true] at hpass
    exact hpass.2
  · exact absurd hr (by simp)

/-- A grant that fits keeps the budget, or stands alone. -/
theorem inrushFits_budget {s : State} {q sc rate : Nat} (h : inrushFits s q sc rate = true) (ends : Nat) (n : Nat) :
    (inrush s q).resv = [] ∨
      ((inrush s q).resv ++ [(⟨(inrushCost s q sc rate).1, ends, n⟩ : Reservation)]).foldl (fun n x => n + x.halfA) 0 ≤
        2 * cfgF s (qdO q Reg.QD_INRUSH) 11 0 := by
  unfold inrushFits at h
  dsimp only at h
  rcases Bool.or_eq_true _ _ ▸ h with hfit | halone
  · right
    rw [List.foldl_append]
    exact of_decide_eq_true hfit
  · left
    rw [Bool.and_eq_true] at halone
    exact List.isEmpty_iff.mp halone.2

/-- The sector after a grant: the request goes, the grant comes. -/
def grantSec (r : Waiting) (s : State) : State :=
  modSec r.1 (fun x =>
    gatesOrOn { x with reqs := x.reqs.filter (fun y => y.unit != r.2.unit),
                       granted := x.granted ++ [(r.2.unit, r.2.rate == 2, now s)] }) s

def grantResv (q : Nat) (r : Waiting) (s : State) : State :=
  setInr q { resv := (inrush s q).resv ++ [⟨(inrushCost s q r.1 r.2.rate).1, now s + (inrushCost s q r.1 r.2.rate).2, r.1⟩],
             last := some (now s) } s

theorem grantUnit_eq (q : Nat) (r : Waiting) (s : State) : grantUnit q r s =
    when (r.2.rate == 2) (bump (qdO q Reg.QD_HALFRATE)) (bump (qdO q Reg.QD_GRANTS) (grantSec r (grantResv q r s))) := rfl

theorem grantSec_only (r : Waiting) (s : State) : Only [.secs] s (grantSec r s) := modSec_only _ _ _

theorem grantResv_only (q : Nat) (r : Waiting) (s : State) : Only [.inrush] s (grantResv q r s) := setInr_only _ _ _

theorem grantCounts_only (q : Nat) (r : Waiting) (s : State) : Only [.live] s
    (when (r.2.rate == 2) (bump (qdO q Reg.QD_HALFRATE)) (bump (qdO q Reg.QD_GRANTS) s)) :=
  (bump_only _ _).when _ _ fun _ => bump_only _ _

theorem inrush_grantUnit (q : Nat) (r : Waiting) (s : State) : inrush (grantUnit q r s) q =
    { resv := (inrush s q).resv ++ [⟨(inrushCost s q r.1 r.2.rate).1, now s + (inrushCost s q r.1 r.2.rate).2, r.1⟩],
      last := some (now s) } := by
  rw [grantUnit_eq, (grantCounts_only _ _ _).inrush_eq rfl, (grantSec_only _ _).inrush_eq rfl]
  exact inrush_setInr_same _ _ _

theorem sec_grantUnit (q : Nat) (r : Waiting) (s : State) (n : Nat) : sec (grantUnit q r s) n = sec (grantSec r (grantResv q r s)) n := by
  rw [grantUnit_eq, (grantCounts_only _ _ _).sec_eq rfl]

theorem live_grantUnit (q : Nat) (r : Waiting) (s : State) : (live (grantUnit q r s) (qdO q Reg.QD_GRANTS)).toNat =
    Nat.min ((live s (qdO q Reg.QD_GRANTS)).toNat + 1) 0xFFFFFFFF := by
  have hbefore : Only [.secs, .inrush] s (grantSec r (grantResv q r s)) :=
    ((grantResv_only q r s).mono rfl).via (grantSec_only _ _) rfl
  have hcount := bump_toNat (qdO q Reg.QD_GRANTS) (grantSec r (grantResv q r s))
  have hne : qdO q Reg.QD_GRANTS ≠ qdO q Reg.QD_HALFRATE := by
    unfold qdO
    intro h
    exact absurd (Nat.add_left_cancel h) (by decide)
  rw [hbefore.live_eq rfl rfl] at hcount
  rw [grantUnit_eq, ← hcount]
  unfold when
  split
  · rw [live_bump_other hne]
  · rfl

/-! ### Neighbour checks (R198) -/

/-- The rate that a check gives. -/
def checkRate (busy last : Bool) : Nat := if !busy then 1 else if last then 2 else 0

/-- The sector after a check: the unit's requests hold the first check's tick and the rate. -/
def checkedSec (sc unit t0 rate : Nat) (s : State) : State :=
  modSec sc (fun x => { x with
    reqs := x.reqs.map (fun y => if y.unit = unit then { y with first := some t0, rate := rate } else y)
    halfRate := x.halfRate || rate == 2 }) s

theorem checkedSec_only (sc unit t0 rate : Nat) (s : State) : Only [.secs] s (checkedSec sc unit t0 rate s) := modSec_only _ _ _

theorem checkUnit_eq {r : UnitReq} {s : State} {t0 : Nat} (h : r.first.getD (now s) = t0) (sc : Nat) : checkUnit sc r s =
    when (checkRate ((neighbours s sc).any (neighbourBusy s (cfgF s (qdO (sc / 16) Reg.QD_INRUSH) 30 24)))
        (decide (t0 + usTicks (cfgF s (qdO (sc / 16) Reg.QD_NBRMAX) 7 0) ≤ now s)) == 2) (raise Src.CHL_INRUSH_DEFER sc)
      (checkedSec sc r.unit t0 (checkRate
        ((neighbours s sc).any (neighbourBusy s (cfgF s (qdO (sc / 16) Reg.QD_INRUSH) 30 24)))
        (decide (t0 + usTicks (cfgF s (qdO (sc / 16) Reg.QD_NBRMAX) 7 0) ≤ now s))) s) := by
  rw [← h]
  rfl

theorem checkRate_last : checkRate true true = 2 := rfl

theorem checkRate_not_half {busy last : Bool} (h : busy = false ∨ last = false) : (checkRate busy last == 2) = false := by
  rcases h with rfl | rfl
  · cases last <;> rfl
  · cases busy <;> rfl

theorem units_checked (l : List UnitReq) (unit t0 rate : Nat) :
    (l.map (fun y => if y.unit = unit then { y with first := some t0, rate := rate } else y)).map (·.unit) = l.map (·.unit) := by
  rw [List.map_map]
  refine List.map_congr_left fun y _ => ?_
  dsimp only [Function.comp_apply]
  split <;> rfl

theorem rate_checked {l : List UnitReq} {unit t0 rate : Nat} {y : UnitReq}
    (hy : y ∈ l.map (fun y => if y.unit = unit then { y with first := some t0, rate := rate } else y)) (hu : y.unit = unit) :
    y.first = some t0 ∧ y.rate = rate := by
  obtain ⟨z, _, rfl⟩ := List.mem_map.mp hy
  split
  · exact ⟨rfl, rfl⟩
  · next h => rw [if_neg h] at hu; exact absurd hu h

/-- Settles O34: the oldest request that fits is granted, and a check sets the rate of its unit alone. -/
theorem inrushCommands : Obligations.InrushCommands := by
  unfold Obligations.InrushCommands
  refine ⟨fun s q r hawake hgrant ht hlast => ?_, fun s q hawake hdue => ?_, fun s sc unit sc' t0 r hawake hfind hrate hfirst => ?_⟩
  · refine ⟨grantUnit q r s, ?_, ?_⟩
    · show execInrushGrant q s = _
      unfold execInrushGrant
      rw [hgrant]
      exact act_runs hawake (by simpa [ht] using hlast)
    · simp only [inrush_grantUnit, sec_grantUnit, live_grantUnit]
      unfold grantSec
      rw [sec_modSec_same, (grantResv_only q r s).sec_eq rfl, (grantResv_only q r s).now_eq rfl]
      refine ⟨trivial, trivial, rfl, fun y hy => ?_, fun n hn => ?_, inrushFits_budget (nextGrant_fits hgrant) _ _, trivial⟩
      · simpa using (List.mem_filter.mp hy).2
      · rw [sec_modSec_other hn, (grantResv_only q r s).sec_eq rfl]
  · refine ⟨_, act_runs hawake hdue, ?_, fun p hp => inrush_setInr_other hp _ s, setInr_only _ _ _⟩
    rw [inrush_setInr_same]
  · have hunit : r.unit = unit := by
      have := List.find?_some hfind
      rw [Bool.and_eq_true] at this
      exact beq_iff_eq.mp this.2
    have ht0 : r.first.getD (now s) = t0 := by
      rcases hfirst with ⟨hf, rfl⟩ | ⟨hf, _⟩ <;> rw [hf] <;> rfl
    have hruns : exec (.neighbourCheck sc unit) s = .next (checkUnit sc r s) := by
      show execNeighbourCheck sc unit s = _
      unfold execNeighbourCheck
      rw [hfind]
      refine act_runs hawake ?_
      rcases hfirst with ⟨hf, _⟩ | ⟨hf, hlt, hmod⟩
      · rw [hrate, hf]; rfl
      · simp [hrate, hf, hlt, hmod]
    refine ⟨_, hruns, ?_⟩
    rw [checkUnit_eq ht0, hunit]
    generalize hbusy : (neighbours s sc).any (neighbourBusy s (cfgF s (qdO (sc / 16) Reg.QD_INRUSH) 30 24)) = busy
    generalize hlim : t0 + usTicks (cfgF s (qdO (sc / 16) Reg.QD_NBRMAX) 7 0) = lim
    have hsec : ∀ n b, sec (when b (raise Src.CHL_INRUSH_DEFER sc) (checkedSec sc unit t0 (checkRate busy (decide (lim ≤ now s))) s)) n =
        sec (checkedSec sc unit t0 (checkRate busy (decide (lim ≤ now s))) s) n := fun n b =>
      ((Only.refl [.flt] _).when _ _ fun u => raise_only _ _ u).sec_eq rfl n
    simp only [hsec]
    have hreqs := congrArg Sector.reqs (sec_modSec_same sc (fun x => { x with
      reqs := x.reqs.map (fun y => if y.unit = unit then { y with first := some t0, rate := checkRate busy (decide (lim ≤ now s)) } else y)
      halfRate := x.halfRate || checkRate busy (decide (lim ≤ now s)) == 2 }) s)
    refine ⟨fun y hy hyu => ?_, fun hb hl => ?_, fun hquiet => ?_, ?_, fun n hn => sec_modSec_other hn _ s⟩
    · obtain ⟨hfst, hr⟩ := rate_checked (hreqs ▸ hy) hyu
      refine ⟨hfst, hr.trans ?_⟩
      unfold checkRate
      cases busy <;> simp
    · subst hb
      simp only [decide_eq_true hl, checkRate_last]
      refine ⟨?_, (raise_raised _ _ _).after (checkedSec_only _ _ _ _ s) rfl rfl⟩
      unfold checkedSec
      rw [sec_modSec_same]
      exact Bool.or_true _
    · rw [checkRate_not_half (hquiet.imp id fun h => decide_eq_false (by omega))]
      rfl
    · refine (congrArg _ hreqs).trans ?_
      exact units_checked _ _ _ _

end Sys2Proof.Machine
end

section
/-! SUPPORT. A sector switched on, cluster by cluster, and switched off. -/

namespace Sys2Proof.Machine

/-! ### An operation run over the cells of a list -/

theorem cell_foldl_each {P : State → Prop} {f : Cell → Cell} {op : State → Nat → State} (hkeeps : ∀ s n, P s → P (op s n))
    (hsame : ∀ s n, P s → cell (op s n) n = f (cell s n)) (hother : ∀ s n m, m ≠ n → cell (op s n) m = cell s m)
    {l : List Nat} (hl : l.Nodup) {s : State} (hs : P s) (m : Nat) :
    cell (l.foldl op s) m = if m ∈ l then f (cell s m) else cell s m := by
  induction l generalizing s with
  | nil => rfl
  | cons n l ih =>
    obtain ⟨hn, hl⟩ := List.nodup_cons.mp hl
    rw [List.foldl_cons, ih hl (hkeeps s n hs)]
    by_cases hm : m = n
    · subst hm
      rw [if_neg hn, if_pos List.mem_cons_self, hsame s m hs]
    · simp only [List.mem_cons, hm, false_or, hother s n m hm]

theorem cluCells_nodup (g : Nat) : (cluCells g).Nodup := List.nodup_range.map fun a b (h : 16 * g + a = 16 * g + b) => by omega

theorem mem_cluCells {g n : Nat} : n ∈ cluCells g ↔ n / 16 = g := by
  unfold cluCells upto
  rw [List.mem_map]
  constructor
  · rintro ⟨k, hk, rfl⟩
    have := List.mem_range.mp hk
    omega
  · intro h
    exact ⟨n % 16, List.mem_range.mpr (by omega), by omega⟩

theorem mem_secClus {sc g : Nat} : g ∈ secClus sc ↔ g / 4 = sc := by
  unfold secClus upto
  rw [List.mem_map]
  constructor
  · rintro ⟨k, hk, rfl⟩
    have := List.mem_range.mp hk
    omega
  · intro h
    exact ⟨g % 4, List.mem_range.mpr (by omega), by omega⟩

/-- One cell of a cluster picked out, and the others. -/
theorem cluCells_one {g j : Nat} (hj : j < 16) : (cluCells g).filter (fun n => n == 16 * g + j) = [16 * g + j] := by
  have hone : ∀ j, j < 16 → (upto 16).filter (fun k => k == j) = [j] := by decide
  unfold cluCells
  rw [List.filter_map, show (fun n => n == 16 * g + j) ∘ (fun k => 16 * g + k) = fun k => k == j from funext fun k => by
    simp, hone j hj]
  rfl

theorem cluCells_others {g j : Nat} (hj : j < 16) : ((cluCells g).filter (fun n => n != 16 * g + j)).length = 15 := by
  have hothers : ∀ j, j < 16 → ((upto 16).filter (fun k => k != j)).length = 15 := by decide
  unfold cluCells
  rw [List.filter_map, List.length_map, show (fun n => n != 16 * g + j) ∘ (fun k => 16 * g + k) = fun k => k != j from funext fun k => by
    simp [bne], hothers j hj]

/-! ### A cluster enabled (R111) -/

/-- A cell that starts, and one that stands by. -/
def startOf (preset med t : Nat) (c : Cell) : Cell :=
  { c with state := .start, legs := if c.state = .standby then med else preset, startAt := t, spdes := false }

def standOf (c : Cell) : Cell := { c with state := .standby, legs := 0 }

/-- The cells that an enabled cluster takes: those OFF, then those in STANDBY. -/
def plainCells (s : State) (g : Nat) : List Nat := inState s g (· == .off) ++ inState s g (· == .standby)

def startCell (g preset : Nat) (s : State) (n : Nat) : State :=
  setCell n { cell s n with state := .start, legs := if (cell s n).state = .standby then (clu s g).legMed else preset,
                            startAt := now s, spdes := false } s

def standCell (s : State) (n : Nat) : State := setCell n { cell s n with state := .standby, legs := 0 } s

/-- The cells without designation placed: fifteen start. -/
def freePlaced (g preset : Nat) (l : List Nat) (s : State) : State :=
  (l.drop 15).foldl standCell ((l.take 15).foldl (startCell g preset) s)

theorem enableCluster_eq (g preset : Nat) (s : State) : enableCluster g preset s =
    judgeBeyond g (modClu g (fun c => { c with enabled := true, takes := [] })
      (((plainCells s g).filter (fun n => (cell s n).spdes)).foldl
        (fun s n => if 15 ≤ (inDuty s g).length then standCell s n else startCell g preset s n)
        (freePlaced g preset ((plainCells s g).filter (fun n => !(cell s n).spdes)) s))) := rfl

theorem startCell_only (g preset n : Nat) (s : State) : Only [.cells] s (startCell g preset s n) := setCell_only _ _ _

theorem cell_startCells (g preset : Nat) {l : List Nat} (hl : l.Nodup) (s : State) (m : Nat) :
    cell (l.foldl (startCell g preset) s) m = if m ∈ l then startOf preset (clu s g).legMed (now s) (cell s m) else cell s m := by
  refine cell_foldl_each (op := startCell g preset) (P := fun u => (clu u g).legMed = (clu s g).legMed ∧ now u = now s) (fun u n hu => ?_) (fun u n hu => ?_)
    (fun u n m hm => cell_setCell_other hm _ u) hl ⟨rfl, rfl⟩ m
  · rw [(startCell_only _ _ _ _).clu_eq rfl, (startCell_only _ _ _ _).now_eq rfl]
    exact hu
  · obtain ⟨hmed, hnow⟩ := hu
    unfold startCell
    rw [cell_setCell_same, hmed, hnow]
    rfl

/-- The cells of a cluster that may be enabled: fifteen are free, and one is designated. -/
def Enables (s : State) (g j : Nat) : Prop :=
  (∀ k, k < 16 → k ≠ j → ((cell s (16 * g + k)).state = .off ∨ (cell s (16 * g + k)).state = .standby) ∧
    (cell s (16 * g + k)).spdes = false) ∧
  ((cell s (16 * g + j)).state = .off ∨ (cell s (16 * g + j)).state = .standby) ∧ (cell s (16 * g + j)).spdes = true

section
variable {s : State} {g j : Nat}

theorem Enables.each (h : Enables s g j) {n : Nat} (hn : n ∈ cluCells g) :
    ((cell s n).state = .off ∨ (cell s n).state = .standby) ∧ (cell s n).spdes = (n == 16 * g + j) := by
  obtain ⟨hothers, hstate, hdes⟩ := h
  have hg := mem_cluCells.mp hn
  obtain ⟨k, hk, rfl⟩ : ∃ k, k < 16 ∧ n = 16 * g + k := ⟨n % 16, by omega, by omega⟩
  by_cases hkj : k = j
  · subst hkj
    exact ⟨hstate, by rw [hdes, beq_self_eq_true]⟩
  · obtain ⟨hst, hd⟩ := hothers k hk hkj
    exact ⟨hst, by rw [hd, beq_eq_false_iff_ne.mpr (by omega)]⟩

theorem Enables.plain_perm (h : Enables s g j) : (plainCells s g).Perm (cluCells g) := by
  have hstand : inState s g (· == .standby) = (cluCells g).filter (fun n => !((cell s n).state == .off)) :=
    List.filter_congr fun n hn => by
      rcases (h.each hn).1 with hst | hst <;> rw [hst] <;> rfl
  unfold plainCells
  rw [hstand]
  exact List.filter_append_perm _ _

theorem Enables.free_perm (h : Enables s g j) :
    ((plainCells s g).filter (fun n => !(cell s n).spdes)).Perm ((cluCells g).filter (fun n => n != 16 * g + j)) := by
  refine (h.plain_perm.filter _).trans (List.Perm.of_eq (List.filter_congr fun n hn => ?_))
  rw [(h.each hn).2]
  rfl

theorem Enables.designated (h : Enables s g j) (hj : j < 16) :
    (plainCells s g).filter (fun n => (cell s n).spdes) = [16 * g + j] := by
  refine List.perm_singleton.mp ((h.plain_perm.filter _).trans (List.Perm.of_eq ?_))
  rw [List.filter_congr fun n hn => (h.each hn).2, cluCells_one hj]

theorem Enables.freePlaced_eq (h : Enables s g j) (hj : j < 16) (preset : Nat) :
    freePlaced g preset ((plainCells s g).filter (fun n => !(cell s n).spdes)) s =
      ((plainCells s g).filter (fun n => !(cell s n).spdes)).foldl (startCell g preset) s := by
  have hlen := h.free_perm.length_eq.trans (cluCells_others hj)
  unfold freePlaced
  rw [List.drop_eq_nil_of_le hlen.le, List.take_of_length_le hlen.le]
  rfl

theorem Enables.cell_free (h : Enables s g j) (preset m : Nat) :
    cell (((plainCells s g).filter (fun n => !(cell s n).spdes)).foldl (startCell g preset) s) m =
      if m / 16 = g ∧ m ≠ 16 * g + j then startOf preset (clu s g).legMed (now s) (cell s m) else cell s m := by
  have hnodup : ((plainCells s g).filter (fun n => !(cell s n).spdes)).Nodup :=
    h.free_perm.nodup_iff.mpr ((cluCells_nodup g).filter _)
  rw [cell_startCells g preset hnodup]
  refine if_congr ?_ rfl rfl
  rw [h.free_perm.mem_iff, List.mem_filter, mem_cluCells, bne_iff_ne]

/-- Fifteen cells are in duty once the free ones have started. -/
theorem Enables.fifteen (h : Enables s g j) (hj : j < 16) (preset : Nat) :
    (inDuty (((plainCells s g).filter (fun n => !(cell s n).spdes)).foldl (startCell g preset) s) g).length = 15 := by
  rw [← cluCells_others (g := g) hj]
  refine congrArg List.length (List.filter_congr fun n hn => ?_)
  rw [h.cell_free]
  by_cases hnj : n = 16 * g + j
  · rw [if_neg fun hc => hc.2 hnj]
    rcases (h.each hn).1 with hst | hst <;> rw [hst, hnj] <;> simp
  · rw [if_pos ⟨mem_cluCells.mp hn, hnj⟩, bne_iff_ne.mpr hnj]
    rfl

/-- Every cell after its cluster was enabled. -/
theorem Enables.cell_enableCluster (h : Enables s g j) (hj : j < 16) (preset m : Nat) : cell (enableCluster g preset s) m =
    if m = 16 * g + j then standOf (cell s m)
    else if m / 16 = g then startOf preset (clu s g).legMed (now s) (cell s m) else cell s m := by
  rw [enableCluster_eq, (judgeBeyond_only _ _).cell_eq rfl, (modClu_only _ _ _).cell_eq rfl, h.designated hj, h.freePlaced_eq hj,
    List.foldl_cons, List.foldl_nil, if_pos (h.fifteen hj preset).ge]
  unfold standCell
  by_cases hm : m = 16 * g + j
  · subst hm
    rw [cell_setCell_same, if_pos rfl, h.cell_free, if_neg fun hc => hc.2 rfl]
    rfl
  · rw [cell_setCell_other hm, if_neg hm, h.cell_free]
    simp only [hm, ne_eq, not_false_eq_true, and_true]

end

theorem clu_enableCluster (g preset : Nat) (s : State) :
    (clu (enableCluster g preset s) g).enabled = true ∧ (clu (enableCluster g preset s) g).takes = [] := by
  rw [enableCluster_eq]
  rw [clu_judgeBeyond_proj Cluster.enabled (fun _ _ => rfl), clu_judgeBeyond_proj Cluster.takes (fun _ _ => rfl), clu_modClu_same]
  exact ⟨rfl, rfl⟩

/-! ### A cluster whose cells go off (R110, R200) -/

/-- A cell in duty or standing by goes to OFF. -/
def offOf (c : Cell) : Cell := if detects c then { c with state := .off, legs := 0 } else c

theorem offOf_detects {c : Cell} (h : detects c = true) : (offOf c).state = .off := by rw [offOf, if_pos h]

theorem offOf_off {c : Cell} (h : c.state = .off) : (offOf c).state = .off := by
  unfold offOf
  split
  · rfl
  · exact h

def offCell (s : State) (n : Nat) : State :=
  if detects (cell s n) then setCell n { cell s n with state := .off, legs := 0 } s else s

/-- A rotation of the cluster ends without completing. -/
def rotationEnded (g : Nat) (s : State) : State :=
  when (takeKind (clu s g) .rotation).isSome (fun s => ownerResetIn (cluQuad g) 5 (raise Src.CLU_ROTATE_ABORT g s)) s

def cellsDropped (g : Nat) (s : State) : State := (cluCells g).foldl offCell (rotationEnded g s)

theorem cellsOff_eq (g : Nat) (s : State) : cellsOff g s =
    schussCheck g (judgeBeyond g (modClu g (fun c => { c with enabled := false, takes := [], ff := 0 }) (cellsDropped g s))) := rfl

theorem rotationEnded_only (g : Nat) (s : State) : Only [.flt, .rings, .live] s (rotationEnded g s) :=
  (Only.refl _ s).when _ _ fun u => (((raise_only _ _ u).mono rfl : Only [.flt, .rings, .live] _ _)).via (ownerResetIn_only _ _ _) rfl

theorem cell_offCell (s : State) (n m : Nat) : cell (offCell s n) m = if m = n then offOf (cell s m) else cell s m := by
  unfold offCell offOf
  by_cases hm : m = n
  · subst hm
    rw [if_pos rfl]
    split
    · rw [cell_setCell_same]
    · rfl
  · rw [if_neg hm]
    split
    · rw [cell_setCell_other hm]
    · rfl

theorem cellsDropped_clu (g : Nat) (s : State) (h : Nat) : clu (cellsDropped g s) h = clu s h := by
  have hfold : Only [.cells] (rotationEnded g s) (cellsDropped g s) :=
    (Only.refl _ _).foldl _ _ fun u n => Only.ite (setCell_only _ _ _) (Only.refl _ _)
  rw [hfold.clu_eq rfl, (rotationEnded_only g s).clu_eq rfl]

theorem cell_cellsOff (g : Nat) (s : State) (n : Nat) : cell (cellsOff g s) n = if n / 16 = g then offOf (cell s n) else cell s n := by
  rw [cellsOff_eq, (schussCheck_only _ _).cell_eq rfl, (judgeBeyond_only _ _).cell_eq rfl, (modClu_only _ _ _).cell_eq rfl]
  unfold cellsDropped
  rw [cell_foldl_each (P := fun _ => True) (f := offOf) (fun _ _ _ => trivial)
    (fun u n _ => (cell_offCell u n n).trans (if_pos rfl)) (fun u n m hm => (cell_offCell u n m).trans (if_neg hm))
    (cluCells_nodup g) trivial, (rotationEnded_only g s).cell_eq rfl]
  exact if_congr mem_cluCells rfl rfl

theorem enabled_cellsOff (g : Nat) (s : State) (h : Nat) :
    (clu (cellsOff g s) h).enabled = if h = g then false else (clu s h).enabled := by
  rw [cellsOff_eq, clu_schussCheck_proj Cluster.enabled (fun _ _ _ _ _ => rfl), clu_judgeBeyond_proj Cluster.enabled (fun _ _ => rfl)]
  by_cases hh : h = g
  · subst hh
    rw [clu_modClu_same, if_pos rfl]
  · rw [clu_modClu_other hh, cellsDropped_clu, if_neg hh]

theorem forEach_cons {σ : Type} (k : Nat) (l : List Nat) (f : Nat → σ → σ) (s : σ) : forEach (k :: l) f s = forEach l f (f k s) := rfl

theorem forEach_cellsOff_enabled (l : List Nat) (s : State) (g : Nat) (h : g ∈ l ∨ (clu s g).enabled = false) :
    (clu (forEach l cellsOff s) g).enabled = false := by
  induction l generalizing s with
  | nil => exact h.resolve_left (by simp)
  | cons k l ih =>
    rw [forEach_cons]
    refine ih _ ?_
    rw [enabled_cellsOff]
    by_cases hk : g = k
    · exact .inr (if_pos hk)
    · rw [if_neg hk]
      exact h.imp (fun hm => (List.mem_cons.mp hm).resolve_left hk) id

theorem forEach_cellsOff_off (l : List Nat) (s : State) (n : Nat)
    (h : n / 16 ∈ l ∧ detects (cell s n) = true ∨ (cell s n).state = .off) : (cell (forEach l cellsOff s) n).state = .off := by
  induction l generalizing s with
  | nil => exact h.resolve_left (by simp)
  | cons k l ih =>
    rw [forEach_cons]
    refine ih _ ?_
    rw [cell_cellsOff]
    by_cases hk : n / 16 = k
    · rw [if_pos hk]
      exact .inr (h.elim (fun hd => offOf_detects hd.2) offOf_off)
    · rw [if_neg hk]
      exact h.imp (fun hm => ⟨(List.mem_cons.mp hm.1).resolve_left hk, hm.2⟩) id

theorem forEach_cellsOff_other (l : List Nat) (s : State) (n : Nat) (h : n / 16 ∉ l) : cell (forEach l cellsOff s) n = cell s n := by
  induction l generalizing s with
  | nil => rfl
  | cons k l ih =>
    rw [forEach_cons]
    refine (ih _ fun hm => h (List.mem_cons_of_mem _ hm)).trans ?_
    rw [cell_cellsOff, if_neg fun hk => h (List.mem_cons.mpr (.inl hk))]

/-! ### A sector switched off (R200) -/

theorem engineOff_mode (sc : Nat) (s : State) : (sec (engineOff sc s) sc).mode = .off ∨ (sec (engineOff sc s) sc).mode = .dark := by
  unfold engineOff
  dsimp only
  split
  · next h => simpa [or_comm] using h
  · left
    rw [(Only.forEach (l := [.clus]) (Only.refl _ _) _ _ fun _ u => modClu_only _ _ u).sec_eq rfl, sec_modSec_same]

def cellsAllOff (sc : Nat) (s : State) : State := setLive (secO sc Reg.SEC_DEMAND) 0 (forEach (secClus sc) cellsOff s)

theorem switchOffDone_eq (sc : Nat) (s : State) : switchOffDone sc s = sectorIdle sc (engineOff sc (cellsAllOff sc s)) := rfl

/-- The clusters' cells after a switch-off. -/
theorem cell_switchOffDone (sc : Nat) (s : State) (n : Nat) :
    cell (switchOffDone sc s) n = cell (forEach (secClus sc) cellsOff s) n := by
  rw [switchOffDone_eq, (sectorIdle_only _ _).cell_eq rfl, (engineOff_only _ _).cell_eq rfl]
  exact (setLive_only _ _ _).cell_eq rfl n

theorem cell_switchOffDone_off {sc n : Nat} {s : State} (hn : n / 64 = sc) (hd : detects (cell s n) = true ∨ (cell s n).state = .off) :
    (cell (switchOffDone sc s) n).state = .off := by
  rw [cell_switchOffDone]
  exact forEach_cellsOff_off _ s n (hd.imp (fun h => ⟨mem_secClus.mpr (by omega), h⟩) id)

theorem cell_switchOffDone_other {sc n : Nat} {s : State} (hn : n / 64 ≠ sc) : cell (switchOffDone sc s) n = cell s n := by
  rw [cell_switchOffDone]
  exact forEach_cellsOff_other _ s n fun h => hn (by have := mem_secClus.mp h; omega)

theorem enabled_engineOff (sc : Nat) (s : State) (g : Nat) : (clu (engineOff sc s) g).enabled = (clu s g).enabled := by
  unfold engineOff
  dsimp only
  split
  · rfl
  · refine (foldl_clu_proj Cluster.enabled (fun u k h => clu_modClu_proj Cluster.enabled
      (f := fun c => { c with mNow := 0, limAt := 0, limRun := 0 }) (fun _ => rfl) k u h) _ _ g).trans ?_
    rw [(modSec_only _ _ _).clu_eq rfl, (dropPeriod_only _ _).clu_eq rfl]
    rw [(storeInteg_only _ _).clu_eq rfl, (flushSector_only _ _).clu_eq rfl]

theorem enabled_switchOffDone {sc g : Nat} (hg : g / 4 = sc ∨ (clu s g).enabled = false) :
    (clu (switchOffDone sc s) g).enabled = false := by
  rw [switchOffDone_eq, (sectorIdle_only _ _).clu_eq rfl, enabled_engineOff]
  unfold cellsAllOff
  rw [(setLive_only _ _ _).clu_eq rfl]
  exact forEach_cellsOff_enabled _ s g (hg.imp_left mem_secClus.mpr)

/-- The sector after its switch-off. -/
theorem sec_switchOffDone (sc : Nat) (s : State) : (sec (switchOffDone sc s) sc).prof = .idle ∧ (sec (switchOffDone sc s) sc).sw = .off ∧
    (sec (switchOffDone sc s) sc).sp = 0 ∧ (sec (switchOffDone sc s) sc).spNext = 0 ∧ (sec (switchOffDone sc s) sc).fcap = 0 ∧
    (sec (switchOffDone sc s) sc).offAt = none ∧
    ((sec (switchOffDone sc s) sc).mode = .off ∨ (sec (switchOffDone sc s) sc).mode = .dark) := by
  rw [switchOffDone_eq]
  unfold sectorIdle
  rw [sec_modSec_same]
  refine ⟨rfl, rfl, rfl, rfl, rfl, rfl, ?_⟩
  dsimp only
  exact engineOff_mode sc _

/-- Settles O35: fifteen cells start and the designated one stands by; a switch-off takes every cell in duty to OFF. -/
theorem sectorSwitching : Obligations.SectorSwitching := by
  unfold Obligations.SectorSwitching
  refine ⟨fun s g j hawake hg hsw hdis ht hturn hj hothers hstate hdes => ?_, fun s sc t0 hawake hoff hdue => ?_⟩
  · have hwake : Only [.secs] s (when ((sec s (g / 4)).mode == .off) (engineWake (g / 4)) s) :=
      (Only.refl _ s).when _ _ fun u => engineWake_only _ u
    have hen : Enables (when ((sec s (g / 4)).mode == .off) (engineWake (g / 4)) s) g j := by
      simp only [Enables, hwake.cell_eq rfl]
      exact ⟨hothers, hstate, hdes⟩
    have hcell := hen.cell_enableCluster hj (cfgF s (secO (g / 4) Reg.SEC_SWON) 6 0)
    simp only [hwake.cell_eq rfl, hwake.clu_eq rfl, hwake.now_eq rfl] at hcell
    obtain ⟨hena, htakes⟩ := clu_enableCluster g (cfgF s (secO (g / 4) Reg.SEC_SWON) 6 0)
      (when ((sec s (g / 4)).mode == .off) (engineWake (g / 4)) s)
    refine ⟨_, ?_, hena, htakes, fun k hk hkj => ?_, ?_, ?_, fun n hn => ?_⟩
    · show execClusterEnable g s = _
      unfold execClusterEnable
      exact act_runs hawake (by simp [hg, hsw, hdis, ht, hturn])
    · rw [hcell, if_neg (by omega), if_pos (by omega)]
      exact ⟨rfl, rfl, rfl⟩
    · rw [hcell, if_pos rfl]
      rfl
    · rw [hcell, if_pos rfl]
      exact hdes
    · rw [hcell, if_neg (by omega), if_neg hn]
  · refine ⟨switchOffDone sc s, ?_, ?_⟩
    · show execSwitchOffComplete sc s = _
      unfold execSwitchOffComplete
      rw [hoff]
      exact act_runs hawake (decide_eq_true hdue)
    · obtain ⟨hprof, hsw, hsp, hnext, hfcap, hat, hmode⟩ := sec_switchOffDone sc s
      exact ⟨hprof, hsw, hsp, hnext, hfcap, hat, hmode, fun g hg => enabled_switchOffDone (.inl hg),
        fun n hn hd => cell_switchOffDone_off hn (.inl hd), fun n hn => cell_switchOffDone_other hn⟩

end Sys2Proof.Machine
end

section
/-! SUPPORT. Trail: the slots of a window, a push, a held push. -/

namespace Sys2Proof.Machine

/-- A fault raised on its page writes the page's flag word alone. -/
theorem live_raiseOn_other {o page : Nat} (h : o ≠ pg page PAGE_FLT) (src det bit : Nat) (s : State) :
    live (raiseOn src det page bit s) o = live s o := by
  have hraise : live (raise src det s) o = live s o := (raise_only _ _ s).live_eq rfl rfl o
  rw [← hraise]
  unfold raiseOn pageFlt when
  split
  · exact live_setLive_other _ _ _ _ h
  · rfl

/-! ### Slots -/

theorem slot_setSlot_same (q i : Nat) (x : Slot) (s : State) : slot (setSlot q i x s) q i = some x := by
  unfold slot setSlot
  rw [win_modWin_same]
  exact Store.find_put_same _ _ _

theorem slot_setSlot_other {i j : Nat} (h : j ≠ i) (q : Nat) (x : Slot) (s : State) : slot (setSlot q i x s) q j = slot s q j := by
  unfold slot setSlot
  rw [win_modWin_same]
  exact Store.find_put_other _ _ _ _ h

theorem slot_dropSlot_same (q i : Nat) (s : State) : slot (dropSlot q i s) q i = none := by
  unfold slot dropSlot
  rw [win_modWin_same]
  exact Store.find_del_same _ _

theorem slot_dropSlot_other {i j : Nat} (h : j ≠ i) (q : Nat) (s : State) : slot (dropSlot q i s) q j = slot s q j := by
  unfold slot dropSlot
  rw [win_modWin_same]
  exact Store.find_del_other _ _ _ h

theorem Only.slot_eq {l : List Part} {s t : State} (h : Only l s t) (ht : l.contains .trail = false) (q i : Nat) :
    slot t q i = slot s q i := by
  unfold slot
  rw [h.win_eq ht]

theorem win_setWin_proj {β : Type} (p : TrailWin → β) {n : Nat} {x : TrailWin} {s : State} (hx : p x = p (win s n)) (m : Nat) :
    p (win (setWin n x s) m) = p (win s m) := by
  by_cases hm : m = n
  · rw [hm, win_setWin_same, hx]
  · rw [win_setWin_other hm]

theorem win_setSlot_proj {β : Type} (p : TrailWin → β) (hp : ∀ w m, p { w with slots := m } = p w) (q i : Nat) (x : Slot) (s : State)
    (n : Nat) : p (win (setSlot q i x s) n) = p (win s n) := win_setWin_proj p (hp _ _) n

theorem win_dropSlot_proj {β : Type} (p : TrailWin → β) (hp : ∀ w m, p { w with slots := m } = p w) (q i : Nat) (s : State)
    (n : Nat) : p (win (dropSlot q i s) n) = p (win s n) := win_setWin_proj p (hp _ _) n

theorem win_dropSlot_other {q n : Nat} (h : n ≠ q) (i : Nat) (s : State) : win (dropSlot q i s) n = win s n := win_modWin_other h _ s

/-! ### Records that leave their slots -/

/-- A change that leaves a window but for slot `i`, which is empty after it. -/
def Drops (q i : Nat) (s t : State) : Prop :=
  (∀ j, slot t q j = if j = i then none else slot s q j) ∧ (win t q).tail = (win s q).tail ∧ (win t q).held = (win s q).held ∧
    ∀ n, n ≠ q → win t n = win s n

theorem dropSlot_drops (q i : Nat) (s : State) : Drops q i s (dropSlot q i s) := by
  refine ⟨fun j => ?_, win_dropSlot_proj TrailWin.tail (fun _ _ => rfl) q i s q,
    win_dropSlot_proj TrailWin.held (fun _ _ => rfl) q i s q, fun n hn => win_dropSlot_other hn i s⟩
  by_cases hj : j = i
  · rw [hj, slot_dropSlot_same, if_pos rfl]
  · rw [slot_dropSlot_other hj, if_neg hj]

theorem Drops.via {q i : Nat} {s t u : State} {l : List Part} (h : Drops q i s t) (ho : Only l t u) (ht : l.contains .trail = false) :
    Drops q i s u := by
  simpa only [Drops, ho.slot_eq ht, ho.win_eq ht] using h

theorem Drops.of_none {q i : Nat} {s : State} (h : slot s q i = none) : Drops q i s s := by
  refine ⟨fun j => ?_, rfl, rfl, fun _ _ => rfl⟩
  split
  · next hj => rw [hj, h]
  · rfl

theorem flushSlot_drops (keep : Bool) (q i : Nat) (s : State) : Drops q i s (flushSlot keep q i s) := by
  unfold flushSlot
  split
  · next h => exact .of_none h
  next x _ =>
    have hend : Only [.live, .secs] (dropSlot q i s)
        (when (!keep && (x.state == .opened || x.state == .held)) (retarget x.sector)
          (when (x.state == .opened) (report x.sector (slotKey q i) true)
            (bump (trailO (Reg.TRAIL_FLUSH q)) (dropSlot q i s)))) :=
      (((bump_only _ _).mono rfl).when _ _ fun _ => (report_only _ _ _ _).mono rfl).when _ _ fun _ => (retarget_only _ _).mono rfl
    exact (dropSlot_drops q i s).via hend rfl

/-- Records that leave one after another. -/
theorem foldl_drops {α : Type} {q : Nat} {key : α → Nat} {op : State → α → State} (hop : ∀ s x, Drops q (key x) s (op s x))
    (l : List α) (s : State) : (∀ j, slot (l.foldl op s) q j = if j ∈ l.map key then none else slot s q j) ∧
      (win (l.foldl op s) q).tail = (win s q).tail ∧ (win (l.foldl op s) q).held = (win s q).held ∧
      ∀ n, n ≠ q → win (l.foldl op s) n = win s n := by
  induction l generalizing s with
  | nil => exact ⟨fun _ => rfl, rfl, rfl, fun _ _ => rfl⟩
  | cons x l ih =>
    obtain ⟨hslot, htail, hheld, hother⟩ := hop s x
    obtain ⟨hslots, htails, hhelds, hothers⟩ := ih (op s x)
    refine ⟨fun j => ?_, htails.trans htail, hhelds.trans hheld, fun n hn => (hothers n hn).trans (hother n hn)⟩
    rw [List.foldl_cons, hslots, hslot, List.map_cons]
    by_cases hj : j = key x
    · rw [if_pos hj, if_pos (List.mem_cons.mpr (.inl hj)), ite_self]
    · simp only [List.mem_cons, hj, false_or, if_false]

/-! ### Records cancelled (R216) -/

/-- The records that a cancel names. -/
def cancelled (q : Nat) (r : Rec) (s : State) : List (Nat × Slot) :=
  (win s q).slots.filter (fun x => x.2.w0.field 9 0 == r.tile && x.2.w2.field 31 16 == r.w2.field 31 16)

def cancelOne (q : Nat) (s : State) (x : Nat × Slot) : State :=
  match x.2.state with
  | .opened => flushSlot false q x.1 s
  | .held => retarget x.2.sector (dropSlot q x.1 s)
  | _ => dropSlot q x.1 s

theorem cancelOne_drops (q : Nat) (s : State) (x : Nat × Slot) : Drops q x.1 s (cancelOne q s x) := by
  unfold cancelOne
  split
  · exact flushSlot_drops false q x.1 s
  · exact (dropSlot_drops q x.1 s).via (retarget_only _ _) rfl
  · exact dropSlot_drops q x.1 s

theorem cancelRec_after (q : Nat) (r : Rec) (s : State) :
    Only [.live] ((cancelled q r s).foldl (cancelOne q) s) (cancelRec q r s) := by
  have heq : cancelRec q r s = if (cancelled q r s).isEmpty then
      bumpF (trailO (Reg.TRAIL_CANCEL q)) 31 16 ((cancelled q r s).foldl (cancelOne q) s)
    else bumpF (trailO (Reg.TRAIL_CANCEL q)) 15 0 ((cancelled q r s).foldl (cancelOne q) s) := rfl
  rw [heq]
  exact .ite (bumpF_only _ _ _ _) (bumpF_only _ _ _ _)

theorem cancelRec_window (q : Nat) (r : Rec) (s : State) :
    (∀ j, slot (cancelRec q r s) q j = if j ∈ (cancelled q r s).map Prod.fst then none else slot s q j) ∧
      (win (cancelRec q r s) q).tail = (win s q).tail ∧ (win (cancelRec q r s) q).held = (win s q).held := by
  obtain ⟨hslot, htail, hheld, _⟩ := foldl_drops (cancelOne_drops q) (cancelled q r s) s
  have ho := cancelRec_after q r s
  exact ⟨fun j => (ho.slot_eq rfl q j).trans (hslot j), (congrArg _ (ho.win_eq rfl q)).trans htail,
    (congrArg _ (ho.win_eq rfl q)).trans hheld⟩

/-! ### A record accepted (R214, R215) -/

/-- The window's tail moves on with every record that is not a cancel. -/
def accepting (q : Nat) (h : HeldPush) (s : State) : State :=
  when ((recOf h.word).kind != 2) (modWin q (fun w => { w with tail := (w.tail + 1) % 256 }))
    (bump (trailO (Reg.TRAIL_ARR q)) s)

theorem accepting_only (q : Nat) (h : HeldPush) (s : State) : Only [.live, .trail] s (accepting q h s) :=
  ((bump_only _ _).mono rfl).when _ _ fun _ => (modWin_only _ _ _).mono rfl

/-- A record that passed every check. -/
def pendingSlot (h : HeldPush) (p g : Nat) : Slot :=
  { state := .pending, w0 := (recOf h.word).w0, w1 := (recOf h.word).w1, w2 := (recOf h.word).w2, arrive := h.arrive,
    stepAt := h.arrive + (recOf h.word).w1.field 15 0, preAt := h.arrive + (recOf h.word).w1.field 15 0 - h.prepos, sector := g / 4,
    clu := g, phys := p, taken := none, pred := none, present := 0, base := 0, need := 0, dead := 0, amount := 0, limit := 0,
    issued := false, admitted := false, qual := false, judged := none, holdEnd := 0 }

theorem Only.tileServes_eq {l : List Part} {s t : State} (h : Only l s t) (hp : l.contains .params = false)
    (hpl : l.contains .plan = false) (n : Nat) : tileServes t n = tileServes s n := by
  unfold tileServes role physWord
  rw [show t.params = s.params from h.keeps .params hp, show t.plan = s.plan from h.keeps .plan hpl]

/-- A record in good form, not a cancel, is placed in the slot where its tile serves. -/
def placeRec (q at0 : Nat) (h : HeldPush) (s : State) : State :=
  match h.tile with
  | none => bump (trailO (Reg.TRAIL_DSTALE q)) s
  | some none => bump (trailO (Reg.TRAIL_DSPARE q)) s
  | some (some p) =>
    if !tileServes s p then bump (trailO (Reg.TRAIL_DSPARE q)) s
    else if tileCluster s.params p / 64 != q || (sec s (tileCluster s.params p / 4)).mode == .off ||
        (sec s (tileCluster s.params p / 4)).mode == .retain || (sec s (tileCluster s.params p / 4)).mode == .dark then
      bump (trailO (Reg.TRAIL_DOTHER q)) s
    else setSlot q at0 (pendingSlot h p (tileCluster s.params p)) s

theorem acceptRec_checks (q : Nat) (h : HeldPush) (s : State) : acceptRec q h s =
    if !cfgB (accepting q h s) (trailO Reg.TRAIL_EN) q then bump (trailO (Reg.TRAIL_DOTHER q)) (accepting q h s)
    else if (recOf h.word).malformed then dropForm q (accepting q h s)
    else if (recOf h.word).kind = 2 then cancelRec q (recOf h.word) (accepting q h s)
    else placeRec q (win s q).tail h (accepting q h s) := rfl

theorem held_placeRec (q at0 : Nat) (h : HeldPush) (s : State) (n : Nat) : (win (placeRec q at0 h s) n).held = (win s n).held := by
  have hbump : ∀ off, (win (bump off s) n).held = (win s n).held := fun off => congrArg _ ((bump_only off s).win_eq rfl n)
  unfold placeRec
  split
  · exact hbump _
  · exact hbump _
  · split
    · exact hbump _
    · split
      · exact hbump _
      · exact win_setSlot_proj TrailWin.held (fun _ _ => rfl) _ _ _ _ n

/-- An acceptance takes no push from those that wait. -/
theorem held_acceptRec (q : Nat) (h : HeldPush) (s : State) (n : Nat) : (win (acceptRec q h s) n).held = (win s n).held := by
  have hacc : (win (accepting q h s) n).held = (win s n).held := by
    unfold accepting when
    split
    · refine (win_setWin_proj TrailWin.held ?_ n).trans (congrArg _ ((bump_only _ s).win_eq rfl n))
      rfl
    · exact congrArg _ ((bump_only _ s).win_eq rfl n)
  have hcancel : (win (cancelRec q (recOf h.word) (accepting q h s)) n).held = (win (accepting q h s) n).held := by
    by_cases hn : n = q
    · subst hn
      exact (cancelRec_window n _ _).2.2
    · rw [(cancelRec_after _ _ _).win_eq rfl, (foldl_drops (cancelOne_drops q) _ _).2.2.2 n hn]
  rw [← hacc, acceptRec_checks]
  split
  · exact congrArg _ ((bump_only _ _).win_eq rfl n)
  · split
    · exact congrArg _ ((dropForm_only _ _).win_eq rfl n)
    · split
      · exact hcancel
      · exact held_placeRec _ _ _ _ n

/-- The conditions under which a record is taken (R214, R215). -/
structure Takes (s : State) (q : Nat) (h : HeldPush) (p : Nat) : Prop where
  enabled : cfgB s (trailO Reg.TRAIL_EN) q = true
  kind : (recOf h.word).kind = 1
  formed : (recOf h.word).malformed = false
  tile : h.tile = some (some p)
  serves : tileServes s p = true
  quad : tileCluster s.params p / 64 = q
  runs : (sec s (tileCluster s.params p / 4)).mode = .run

theorem Takes.acceptRec_eq {s : State} {q : Nat} {h : HeldPush} {p : Nat} (k : Takes s q h p) : acceptRec q h s =
    setSlot q (win s q).tail (pendingSlot h p (tileCluster s.params p)) (accepting q h s) := by
  have ho := accepting_only q h s
  have hen : cfgB (accepting q h s) (trailO Reg.TRAIL_EN) q = true := (ho.cfgB_eq rfl rfl _ _).trans k.enabled
  have hserves : tileServes (accepting q h s) p = true := (ho.tileServes_eq rfl rfl p).trans k.serves
  have hpar : (accepting q h s).params = s.params := ho.keeps .params rfl
  have hmode : (sec (accepting q h s) (tileCluster s.params p / 4)).mode = .run := by rw [ho.sec_eq rfl]; exact k.runs
  have hkind : (recOf h.word).kind ≠ 2 := by rw [k.kind]; decide
  rw [acceptRec_checks, if_neg (by rw [hen]; decide), if_neg (by rw [k.formed]; decide), if_neg hkind]
  unfold placeRec
  rw [k.tile]
  simp [hserves, hpar, hmode, k.quad]

theorem Takes.window {s : State} {q : Nat} {h : HeldPush} {p : Nat} (k : Takes s q h p) :
    slot (acceptRec q h s) q (win s q).tail = some (pendingSlot h p (tileCluster s.params p)) ∧
    (win (acceptRec q h s) q).tail = ((win s q).tail + 1) % 256 ∧
    ∀ i, i ≠ (win s q).tail → slot (acceptRec q h s) q i = slot s q i := by
  have hwin : win (accepting q h s) q = { win s q with tail := ((win s q).tail + 1) % 256 } := by
    have hk : ((recOf h.word).kind != 2) = true := by rw [k.kind]; rfl
    unfold accepting
    rw [hk, show ∀ f : State → State, when true f = f from fun _ => rfl, win_modWin_same, (bump_only _ s).win_eq rfl]
  rw [k.acceptRec_eq]
  refine ⟨slot_setSlot_same _ _ _ _, ?_, fun i hi => ?_⟩
  · rw [win_setSlot_proj TrailWin.tail (fun _ _ => rfl), hwin]
  · rw [slot_setSlot_other hi]
    unfold slot
    rw [hwin]

/-! ### A push (R209, R210) -/

theorem inTrail_push {s : State} {a : Access} {f : Form} (b : BitVec 128) {q : Nat} (hawake : awake s = true) (hport : a.port = .fabric)
    (hin : inTrail f = true) (hw : f.width = 128) (hfull : f.full = true) (hq : q = (f.off.toNat - 0x100000) / 0x1000)
    (hlt : q < quads s) : exec (.trailPush a f b) s = .next (pushRec a q b s) := by
  have hreach : reaches s a = true := by unfold reaches; rw [hport]
  refine (act_runs hawake (by rw [hreach, hin]; rfl)).trans (congrArg _ ?_)
  unfold trailWrite
  rw [← hq]
  dsimp only
  rw [if_neg (by omega), if_pos (by simp [hw, hfull, hport])]

theorem pushRec_accepts {a : Access} {q : Nat} {b : BitVec 128} {s : State}
    (h : (recOf b).kind = 2 ∨ (win s q).held = [] ∧ slot s q (win s q).tail = none) :
    pushRec a q b s = respond a (.ok 0) (acceptRec q (arrived s b) s) := by
  refine if_pos ?_
  rcases h with hk | ⟨hheld, hslot⟩
  · simp [hk]
  · have : (win s q).slots.find (win s q).tail = none := hslot
    simp [hheld, this]

theorem pushRec_waits {a : Access} {q : Nat} {b : BitVec 128} {s : State} (hk : (recOf b).kind ≠ 2)
    (h : (win s q).held ≠ [] ∨ (slot s q (win s q).tail).isSome = true) : pushRec a q b s =
      if (win s q).held.length < 4 then respond a .none (setWin q { win s q with held := (win s q).held ++ [arrived s b] } s)
      else retryPush q s := by
  refine if_neg ?_
  rcases h with hheld | hslot
  · simp [hk, hheld]
  · have : ((win s q).slots.find (win s q).tail).isSome = true := hslot
    obtain ⟨x, hx⟩ := Option.isSome_iff_exists.mp this
    simp [hk, hx]

theorem fab_respond {a : Access} (h : a.port = .fabric) (r : Response) (s : State) : (respond a r s).ports.fab = r := by
  unfold respond
  rw [h]
  rfl

theorem retryPush_raised (q : Nat) (s : State) : Raised Src.TRAIL_OVERFLOW q s (retryPush q s) :=
  ((raiseOn_raised _ _ _ _ _).before (State.setPorts_only _ _) rfl).after (bump_only _ s) rfl rfl

/-! ### A held push (R210, R45) -/

/-- A window without its first held push. -/
def unheld (q : Nat) (rest : List HeldPush) (s : State) : State := modWin q (fun w => { w with held := rest }) s

theorem takeHeld_eq {q : Nat} {h : HeldPush} {rest : List HeldPush} {s : State} (hh : (win s q).held = h :: rest) :
    takeHeld q s = respond ⟨.fabric, false, 0, 0⟩ (.ok 0) (acceptRec q h (unheld q rest s)) := by
  unfold takeHeld
  rw [hh]
  rfl

theorem unheld_only (q : Nat) (rest : List HeldPush) (s : State) : Only [.trail] s (unheld q rest s) := modWin_only _ _ _

theorem win_unheld (q : Nat) (rest : List HeldPush) (s : State) : win (unheld q rest s) q = { win s q with held := rest } :=
  win_modWin_same _ _ _

theorem takeHeld_after {q : Nat} {h : HeldPush} {rest : List HeldPush} {s : State} (hh : (win s q).held = h :: rest) :
    (win (takeHeld q s) q).held = rest ∧ (takeHeld q s).ports.fab = .ok 0 := by
  rw [takeHeld_eq hh]
  refine ⟨?_, fab_respond rfl _ _⟩
  rw [(respond_only _ _ _).win_eq rfl, held_acceptRec, win_unheld]

theorem endHold_idle {q : Nat} {s : State} (h : holdDue s q = false) : endHold q s = s := if_pos (by rw [h]; rfl)

theorem holdDue_of {s t : State} {q : Nat} {rest : List HeldPush} (hrest : ∀ x, x ∈ rest → now s < x.arrive + 1250)
    (hh : (win t q).held = rest) (hn : now t = now s) : holdDue t q = false := by
  unfold holdDue
  rw [hh, hn]
  cases rest with
  | nil => rfl
  | cons x l => exact decide_eq_false (Nat.not_le.mpr (hrest x List.mem_cons_self))

/-- Of the four judgements of a tick's end, those after the first find no hold that has run. -/
theorem pushOver_once {q : Nat} {s : State} (h : holdDue (endHold q s) q = false) : pushOver q s = endHold q s := by
  show endHold q (endHold q (endHold q (endHold q s))) = _
  rw [endHold_idle h, endHold_idle h, endHold_idle h]

theorem holdDue_held {s : State} {q : Nat} {h : HeldPush} {rest : List HeldPush} (hh : (win s q).held = h :: rest)
    (hdue : h.arrive + 1250 ≤ now s) : holdDue s q = true := by
  unfold holdDue
  rw [hh]
  exact decide_eq_true hdue

/-- Settles O36: a push is accepted, held or refused, and the held push waits for its slot to the end of the tick in which its
time is over. -/
theorem trailPushes : Obligations.TrailPushes := by
  unfold Obligations.TrailPushes
  refine ⟨⟨fun s a f b q p hawake hport hin hw hfull hq hlt hkind hform hheld hslot hen htile hserves hquad hmode => ?_,
    fun s a f b q hawake hport hin hw hfull hq hlt hkind hwait => ?_, fun s q h rest hawake hh hslot htime => ?_,
    fun s q h rest hh hdue => ?_⟩, fun s a f b hawake hreach hin hlt hbad => ?_⟩
  · have k : Takes s q (arrived s b) p := ⟨hen, hkind, hform, htile, hserves, hquad, hmode⟩
    obtain ⟨hnew, htail, hothers⟩ := k.window
    refine ⟨_, inTrail_push b hawake hport hin hw hfull hq hlt, ?_⟩
    rw [pushRec_accepts (.inr ⟨hheld, hslot⟩)]
    simp only [(respond_only a (.ok 0) (acceptRec q (arrived s b) s)).slot_eq rfl,
      (respond_only a (.ok 0) (acceptRec q (arrived s b) s)).win_eq rfl]
    exact ⟨fab_respond hport _ _, htail, hothers, _, hnew, rfl, rfl, rfl, rfl, rfl, rfl, rfl, rfl, rfl⟩
  · refine ⟨_, inTrail_push b hawake hport hin hw hfull hq hlt, ?_⟩
    rw [pushRec_waits hkind hwait]
    split
    · next hroom =>
      rw [(respond_only _ _ _).win_eq rfl, win_setWin_same]
      exact ⟨rfl, fun _ => ⟨fab_respond hport _ _, rfl⟩, fun h => absurd hroom (by omega)⟩
    · next hfullq =>
      rw [(retryPush_only q s).win_eq rfl]
      exact ⟨rfl, fun h => absurd h hfullq, fun _ => ⟨rfl, rfl, retryPush_raised q s⟩⟩
  · have hempty : tailEmpty s q = true := by
      have : (win s q).slots.find (win s q).tail = none := hslot
      unfold tailEmpty
      rw [this]
      rfl
    obtain ⟨hrest, hfab⟩ := takeHeld_after hh
    refine ⟨takeHeld q s, ?_, hrest, hfab, fun p hkind hform hen htile hserves hquad hmode => ?_⟩
    · show execTrailHeldPushAccept q s = _
      unfold execTrailHeldPushAccept
      rw [hh]
      exact act_runs hawake (by rw [hempty, decide_eq_true htime]; rfl)
    · have ho := unheld_only q rest s
      have hpar : (unheld q rest s).params = s.params := ho.keeps .params rfl
      have k : Takes (unheld q rest s) q h p := ⟨(ho.cfgB_eq rfl rfl _ _).trans hen, hkind, hform, htile,
        (ho.tileServes_eq rfl rfl p).trans hserves, by rwa [hpar], by rw [hpar, ho.sec_eq rfl]; exact hmode⟩
      have hnew := k.window.1
      rw [win_unheld] at hnew
      rw [takeHeld_eq hh, (respond_only _ _ _).slot_eq rfl]
      exact ⟨_, hnew, rfl, rfl, rfl, rfl⟩
  · have hdueb := holdDue_held hh hdue
    refine ⟨fun hawake => act_runs hawake hdueb, fun hrest hsome => ?_, fun hrest hnone => ?_⟩
    · have hfull : tailEmpty s q = false := by
        have : ((win s q).slots.find (win s q).tail).isSome = true := hsome
        unfold tailEmpty
        rw [← Option.not_isSome, this]
        rfl
      have hend : endHold q s = retryPush q (unheld q rest s) := by
        have hdrop : modWin q (fun w => { w with held := w.held.drop 1 }) s = unheld q rest s := by
          unfold unheld modWin
          dsimp only
          rw [hh]
          rfl
        unfold endHold
        rw [hdueb, hfull, hdrop]
        rfl
      have hwin : win (retryPush q (unheld q rest s)) q = { win s q with held := rest } := by
        rw [(retryPush_only _ _).win_eq rfl, win_unheld]
      have hnow : now (retryPush q (unheld q rest s)) = now s := by
        rw [(retryPush_only _ _).now_eq rfl, (unheld_only _ _ _).now_eq rfl]
      have hover : timeOver (.push q) s = retryPush q (unheld q rest s) := by
        rw [← hend]
        exact pushOver_once (by rw [hend]; exact holdDue_of hrest (by rw [hwin]) hnow)
      rw [hover, hwin]
      exact ⟨rfl, rfl, rfl, (retryPush_raised _ _).after (unheld_only _ _ _) rfl rfl⟩
    · have hempty : tailEmpty s q = true := by
        have : (win s q).slots.find (win s q).tail = none := hnone
        unfold tailEmpty
        rw [this]
        rfl
      have hend : endHold q s = takeHeld q s := by
        unfold endHold
        rw [hdueb, hempty]
        rfl
      obtain ⟨hr, hfab⟩ := takeHeld_after hh
      have hnow : now (takeHeld q s) = now s := by
        rw [takeHeld_eq hh, (respond_only _ _ _).now_eq rfl, (acceptRec_only _ _ _).now_eq rfl, (unheld_only _ _ _).now_eq rfl]
      refine ⟨?_, hr, hfab⟩
      rw [← hend]
      exact pushOver_once (by rw [hend]; exact holdDue_of hrest hr hnow)
  · refine ⟨dropForm ((f.off.toNat - 0x100000) / 0x1000) (formError a s), ?_, ?_⟩
    · refine (act_runs hawake (by rw [hreach, hin]; rfl)).trans (congrArg _ ?_)
      unfold trailWrite
      dsimp only
      rw [if_neg (by omega), if_neg]
      rcases hbad with hb | hb | hb <;> simp [hb]
    · generalize hq : (f.off.toNat - 0x100000) / 0x1000 = q
      have hform := formError_only a s
      have hdrop := dropForm_only q (formError a s)
      have hne : trailO (Reg.TRAIL_DFORM q) ≠ genO Reg.GEN_ACCERR := by
        unfold trailO genO pg Reg.GEN_ACCERR
        omega
      have hflt : trailO (Reg.TRAIL_DFORM q) ≠ pg 0x08 PAGE_FLT := by
        unfold trailO pg Reg.TRAIL_DFORM PAGE_FLT
        omega
      have hacc : genO Reg.GEN_ACCERR ≠ pg 0x08 PAGE_FLT := by decide
      refine ⟨((hform.mono rfl).via hdrop rfl : Only [.live, .ports, .flt] s _).keeps .trail rfl, ?_, ?_, ?_, ?_⟩
      · unfold responseOf
        rw [show (dropForm q (formError a s)).ports = (formError a s).ports from hdrop.keeps .ports rfl]
        exact responseOf_respond _ _ _
      · have hcount := bump_toNat (trailO (Reg.TRAIL_DFORM q)) (formError a s)
        rw [show live (formError a s) (trailO (Reg.TRAIL_DFORM q)) = live s (trailO (Reg.TRAIL_DFORM q)) from
          (live_respond _ _ _ _).trans (live_setField_other _ _ _ _ _ _ hne)] at hcount
        exact (congrArg BitVec.toNat (live_raiseOn_other hflt _ _ _ _)).trans hcount
      · refine (congrArg (Word.field · 7 0) ((live_raiseOn_other hacc _ _ _ _).trans (live_bump_other hne.symm _))).trans ?_
        refine (congrArg (Word.field · 7 0) (live_respond _ _ _ _)).trans ?_
        exact field_bumpF _ _ _ _ (by decide) (by decide)
      · exact (raiseOn_raised _ _ _ _ _).after
          (((hform.mono rfl : Only [.live, .ports] s _)).via (bump_only _ _) rfl) rfl rfl

end Sys2Proof.Machine
end

section
/-! SUPPORT. The life of a forecast record: cancelled, flushed, armed, presented, expired, missed, held. -/

namespace Sys2Proof.Machine

/-! ### A record of a window and its number -/

theorem Store.mem_of_find {α : Type} {m : Store α} {n : Nat} {v : α} (h : m.find n = some v) : (n, v) ∈ m := by
  induction m with
  | nil => exact absurd h (by simp [Store.find])
  | cons e m ih =>
    obtain ⟨k, w⟩ := e
    simp only [Store.find] at h
    split at h
    · next hk => rw [hk, Option.some.inj h]; exact List.mem_cons_self
    · exact List.mem_cons_of_mem _ (ih h)

theorem Store.le_of_rises {α : Type} {m : Store α} {lo : Nat} (h : m.rises lo = true) {e : Nat × α} (he : e ∈ m) : lo ≤ e.1 := by
  induction m generalizing lo with
  | nil => exact absurd he (by simp)
  | cons f m ih =>
    obtain ⟨k, w⟩ := f
    simp only [Store.rises, Bool.and_eq_true, decide_eq_true_eq] at h
    rcases List.mem_cons.mp he with rfl | hm
    · exact h.1
    · have := ih h.2 hm
      omega

/-- In a table whose numbers rise every entry is found. -/
theorem Store.find_of_mem {α : Type} {m : Store α} {lo : Nat} (h : m.rises lo = true) {n : Nat} {v : α} (he : (n, v) ∈ m) :
    m.find n = some v := by
  induction m generalizing lo with
  | nil => exact absurd he (by simp)
  | cons f m ih =>
    obtain ⟨k, w⟩ := f
    simp only [Store.rises, Bool.and_eq_true, decide_eq_true_eq] at h
    rcases List.mem_cons.mp he with heq | hm
    · obtain ⟨rfl, rfl⟩ := Prod.mk.inj heq
      simp [Store.find]
    · have hk : n ≠ k := by
        have := Store.le_of_rises h.2 hm
        dsimp only at this
        omega
      simp only [Store.find, hk, if_false]
      exact ih h.2 hm

/-- The records that a cancel names, by their numbers. -/
theorem mem_cancelled {q i : Nat} {r : Rec} {s : State} {x : Slot} (hrise : (win s q).slots.rises 0 = true) (hx : slot s q i = some x) :
    i ∈ (cancelled q r s).map Prod.fst ↔ x.w0.field 9 0 = r.tile ∧ x.w2.field 31 16 = r.w2.field 31 16 := by
  unfold cancelled
  simp only [List.mem_map, List.mem_filter, Bool.and_eq_true, beq_iff_eq]
  constructor
  · rintro ⟨⟨k, y⟩, ⟨hmem, hnames⟩, rfl⟩
    have hy : some x = some y := hx.symm.trans (Store.find_of_mem hrise hmem)
    rwa [Option.some.inj hy]
  · exact fun hnames => ⟨(i, x), ⟨Store.mem_of_find hx, hnames⟩, rfl⟩

/-! ### A flush of the quadrants (R226) -/

theorem flushWindow_empties (keep : Bool) (q : Nat) (s : State) : (∀ i, slot (flushWindow keep q s) q i = none) ∧
    ∀ n, n ≠ q → win (flushWindow keep q s) n = win s n := by
  obtain ⟨hslot, _, _, hother⟩ := foldl_drops (op := fun s (x : Nat × Slot) => flushSlot keep q x.1 s) (key := Prod.fst)
    (fun s x => flushSlot_drops keep q x.1 s) ((win s q).slots.filter fun _ => true) s
  refine ⟨fun i => (hslot i).trans ?_, hother⟩
  split
  · rfl
  · next hi =>
    rcases hx : slot s q i with _ | x
    · rfl
    · exact absurd (List.mem_map.mpr ⟨(i, x), List.mem_filter.mpr ⟨Store.mem_of_find hx, rfl⟩, rfl⟩) hi

def flushNamed (mask q : Nat) (s : State) : State := when ((mask >>> q) % 2 == 1) (flushWindow false q) s

theorem named_of_testBit {mask q : Nat} (h : mask.testBit q = true) : ((mask >>> q) % 2 == 1) = true := by
  rw [Nat.testBit_eq_decide_div_mod_eq, decide_eq_true_eq] at h
  rw [Nat.shiftRight_eq_div_pow, h]
  rfl

theorem not_named_of_testBit {mask q : Nat} (h : mask.testBit q = false) : ((mask >>> q) % 2 == 1) = false := by
  rw [Nat.testBit_eq_decide_div_mod_eq, decide_eq_false_iff_not] at h
  rw [Nat.shiftRight_eq_div_pow, beq_eq_false_iff_ne]
  exact h

theorem flushNamed_other {mask q n : Nat} (hn : n ≠ q) (s : State) : win (flushNamed mask q s) n = win s n := by
  unfold flushNamed when
  split
  · exact (flushWindow_empties false q s).2 n hn
  · rfl

theorem flushNamed_none {mask q : Nat} (h : mask.testBit q = false) (s : State) : flushNamed mask q s = s := by
  unfold flushNamed
  rw [not_named_of_testBit h]
  rfl

theorem flushNamed_all {mask q : Nat} (h : mask.testBit q = true) (s : State) (i : Nat) : slot (flushNamed mask q s) q i = none := by
  unfold flushNamed
  rw [named_of_testBit h]
  exact (flushWindow_empties false q s).1 i

theorem forEach_flush_kept {mask q : Nat} (h : mask.testBit q = false) (l : List Nat) (s : State) :
    win (forEach l (flushNamed mask) s) q = win s q := by
  induction l generalizing s with
  | nil => rfl
  | cons k l ih =>
    rw [forEach_cons, ih]
    by_cases hk : q = k
    · rw [← hk, flushNamed_none h]
    · exact flushNamed_other hk s

theorem forEach_flush_empty {mask q : Nat} (h : mask.testBit q = true) {l : List Nat} (hl : q ∈ l) (i : Nat) (s : State) :
    slot (forEach l (flushNamed mask) s) q i = none := by
  have hstays : ∀ (l : List Nat) s, slot s q i = none → slot (forEach l (flushNamed mask) s) q i = none := by
    intro l
    induction l with
    | nil => exact fun _ hs => hs
    | cons k l ih =>
      intro s hs
      rw [forEach_cons]
      refine ih _ ?_
      by_cases hk : q = k
      · rw [← hk, flushNamed_all h]
      · unfold slot at hs ⊢
        rwa [flushNamed_other hk]
  induction l generalizing s with
  | nil => exact absurd hl (by simp)
  | cons k l ih =>
    rw [forEach_cons]
    rcases List.mem_cons.mp hl with rfl | hm
    · exact hstays l _ (flushNamed_all h s i)
    · exact ih hm _

/-! ### Presentation (R219, R220) -/

/-- A late presentation counted. -/
def lateCounted (q : Nat) (x : Slot) (s : State) : State :=
  when (decide (x.preAt + controlP ≤ now s)) (bump (trailO (Reg.TRAIL_LATE q))) s

theorem lateCounted_only (q : Nat) (x : Slot) (s : State) : Only [.live] s (lateCounted q x s) :=
  (Only.refl _ s).when _ _ fun _ => bump_only _ _

/-- The record as it is presented. -/
def openedSlot (x : Slot) (di : Int) (s : State) : Slot :=
  let c := cfg s (trailO Reg.TRAIL_CFG)
  let pre := cfg s (trailO Reg.TRAIL_PRE)
  { x with
    state := .opened, present := now s, base := (clu s x.clu).mNow,
    need := Nat.max (roundDiv ((c.field 15 8 : Int) * di) 100).toNat (c.field 27 16), dead := x.stepAt + 40 * c.field 7 0,
    amount := roundDiv ((pre.field 7 0 : Int) * di) 5000, limit := pre.field 14 8 }

/-- The request that the engine takes. -/
def asking (q i : Nat) (x : Slot) (di : Int) (s : State) : State :=
  setSec x.sector { sec s x.sector with asked := (sec s x.sector).asked ++ [⟨slotKey q i, x.clu % 4, di⟩] } s

theorem presentSlot_eq (q i : Nat) (x : Slot) (di : Int) (s : State) : presentSlot q i x di s =
    if preposOpen (lateCounted q x s) x.sector then
      setSlot q i (openedSlot x di (lateCounted q x s)) (asking q i x di (lateCounted q x s))
    else bump (secO x.sector Reg.SEC_FCSKIP) (dropSlot q i (lateCounted q x s)) := rfl

theorem Only.preposOpen_eq {l : List Part} {s t : State} (h : Only l s t) (hp : l.contains .params = false)
    (ha : l.contains .active = false) (hs : l.contains .secs = false) (he : l.contains .eng = false) (ht : l.contains .time = false)
    (sc : Nat) : preposOpen t sc = preposOpen s sc := by
  unfold preposOpen modeAt0 nextMode coasting
  simp only [h.sec_eq hs, h.cfgB_eq hp ha, h.eng_eq he, h.now_eq ht]

theorem Only.openedSlot_eq {l : List Part} {s t : State} (h : Only l s t) (hp : l.contains .params = false)
    (ha : l.contains .active = false) (hc : l.contains .clus = false) (ht : l.contains .time = false) (x : Slot) (di : Int) :
    openedSlot x di t = openedSlot x di s := by
  unfold openedSlot
  rw [h.cfg_eq hp ha, h.cfg_eq hp ha, h.clu_eq hc, h.now_eq ht]

section
variable {s : State} {q i : Nat} {x : Slot} {di : Int}

theorem exec_trailPresent (hawake : awake s = true) (hx : slot s q i = some x) (hst : x.state = .armed) (hpred : x.pred = some di)
    (htick : atTick s controlP 0 = true) (hpre : x.preAt ≤ now s) (htime : inTime s x = true) :
    exec (.trailPresent q i) s = .next (presentSlot q i x di s) := by
  show execTrailPresent q i s = _
  unfold execTrailPresent
  rw [hx]
  dsimp only
  rw [hst, hpred]
  exact act_runs hawake (by rw [htick, decide_eq_true hpre, htime]; rfl)

theorem presentSlot_opens (h : preposOpen s x.sector = true) : presentSlot q i x di s =
    setSlot q i (openedSlot x di s) (asking q i x di (lateCounted q x s)) := by
  have ho := lateCounted_only q x s
  rw [presentSlot_eq, if_pos ((ho.preposOpen_eq rfl rfl rfl rfl rfl _).trans h), ho.openedSlot_eq rfl rfl rfl rfl]

theorem presentSlot_skips (h : preposOpen s x.sector = false) : presentSlot q i x di s =
    bump (secO x.sector Reg.SEC_FCSKIP) (dropSlot q i (lateCounted q x s)) := by
  have ho := lateCounted_only q x s
  rw [presentSlot_eq, if_neg (by rw [ho.preposOpen_eq rfl rfl rfl rfl rfl, h]; decide)]

end

/-! ### The statement -/

/-- Settles O37: records leave their slots one by one, each command's own; the others stay. -/
theorem trailRecords : Obligations.TrailRecords := by
  unfold Obligations.TrailRecords
  refine ⟨⟨fun s a f b q hawake hport hin hw hfull hq hlt hkind hform hen hrise => ?_, fun s a mask hawake hreach hsec => ?_⟩,
    fun s q i x di hawake hx hst hpred htick => ?_, fun s q i x di hawake hx hst hpred htick hpre htime hopen => ?_,
    fun s q i x di hawake hx hst hpred htick hpre htime hopen => ?_, fun s q i x hawake hx hst htick hstep hpast hq => ?_,
    fun s q i x hawake hx hst htick hdead => ?_, fun s q i x hawake hx hst hend => ?_⟩
  · have ho := accepting_only q (arrived s b) s
    have hwin : win (accepting q (arrived s b) s) q = win s q := by
      have hk : ((recOf b).kind != 2) = false := by rw [hkind]; rfl
      have hacc : accepting q (arrived s b) s = bump (trailO (Reg.TRAIL_ARR q)) s := by
        unfold accepting
        rw [show (arrived s b).word = b from rfl, hk]
        rfl
      rw [hacc, (bump_only _ _).win_eq rfl]
    have hreach : reaches s a = true := by unfold reaches; rw [hport]
    have hruns : exec (.trailCancel a f b) s = .next (respond a (.ok 0) (cancelRec q (recOf b) (accepting q (arrived s b) s))) := by
      refine (act_runs hawake (by rw [hreach, hin, hkind]; rfl)).trans (congrArg _ ?_)
      unfold trailWrite
      rw [← hq]
      dsimp only
      rw [if_neg (by omega), if_pos (by simp [hw, hfull, hport]), pushRec_accepts (.inl hkind), acceptRec_checks,
        if_neg (by rw [ho.cfgB_eq rfl rfl, hen]; decide), if_neg (by rw [show (arrived s b).word = b from rfl, hform]; decide),
        if_pos (show (recOf (arrived s b).word).kind = 2 from hkind)]
      rfl
    obtain ⟨hslot, htail, _⟩ := cancelRec_window q (recOf b) (accepting q (arrived s b) s)
    have hsame : ∀ j, slot (accepting q (arrived s b) s) q j = slot s q j := fun j => by unfold slot; rw [hwin]
    refine ⟨_, hruns, fab_respond hport _ _, ?_, fun i x hx => ?_⟩
    · rw [(respond_only _ _ _).win_eq rfl, htail, hwin]
    · rw [(respond_only _ _ _).slot_eq rfl, hslot, hsame]
      have hm := mem_cancelled (r := recOf b) (hwin ▸ hrise) ((hsame i).trans hx)
      exact ⟨fun hn => if_pos (hm.mpr hn), fun hn => (if_neg (fun h => hn (hm.mp h))).trans hx⟩
  · refine ⟨_, secureCmd_ok hawake hreach hsec _, fun q i hq hbit => ?_, fun q hbit => ?_⟩
    · rw [(respond_only _ _ _).slot_eq rfl]
      exact forEach_flush_empty hbit (List.mem_range.mpr hq) i s
    · rw [(respond_only _ _ _).win_eq rfl]
      exact forEach_flush_kept hbit _ s
  · have hruns : exec (.trailArm q i) s = .next (if di < (cfgF s (trailO Reg.TRAIL_CFG) 27 16 : Int)
        then bump (trailO (Reg.TRAIL_NOSTEP q)) (dropSlot q i s) else setSlot q i { x with state := .armed } s) := by
      show execTrailArm q i s = _
      unfold execTrailArm
      rw [hx]
      dsimp only
      rw [hst, hpred]
      exact act_runs hawake htick
    refine ⟨_, hruns, ?_⟩
    split
    · next hlow =>
      refine ⟨fun h => absurd hlow (by omega), fun _ => ⟨?_, ((dropSlot_only q i s).mono rfl).via (bump_only _ _) rfl⟩, fun j hj => ?_⟩
      · rw [(bump_only _ _).slot_eq rfl, slot_dropSlot_same]
      · rw [(bump_only _ _).slot_eq rfl, slot_dropSlot_other hj]
    · next hlow =>
      exact ⟨fun _ => ⟨slot_setSlot_same _ _ _ _, setSlot_only _ _ _ _⟩, fun h => absurd h hlow,
        fun j hj => slot_setSlot_other hj _ _ _⟩
  · have ho : Only [.live, .secs] s (asking q i x di (lateCounted q x s)) :=
      ((lateCounted_only q x s).mono rfl).via (setSec_only _ _ _) rfl
    refine ⟨_, exec_trailPresent hawake hx hst hpred htick hpre htime, ?_⟩
    rw [presentSlot_opens hopen]
    refine ⟨⟨_, slot_setSlot_same _ _ _ _, rfl, rfl, rfl, rfl, rfl, rfl⟩, ⟨⟨slotKey q i, x.clu % 4, di⟩, ?_, rfl, rfl, rfl⟩, fun j hj => ?_⟩
    · rw [(setSlot_only _ _ _ _).sec_eq rfl]
      unfold asking
      rw [sec_setSec_same, (lateCounted_only q x s).sec_eq rfl]
    · rw [slot_setSlot_other hj, ho.slot_eq rfl]
  · have ho : Only [.live, .trail] s (bump (secO x.sector Reg.SEC_FCSKIP) (dropSlot q i (lateCounted q x s))) :=
      (((lateCounted_only q x s).mono rfl).via (dropSlot_only _ _ _) rfl).via (bump_only _ _) rfl
    refine ⟨_, exec_trailPresent hawake hx hst hpred htick hpre htime, ?_⟩
    rw [presentSlot_skips hopen]
    refine ⟨?_, ho.keeps .secs rfl⟩
    rw [(bump_only _ _).slot_eq rfl, slot_dropSlot_same]
  · have ho : Only [.trail, .live] s (bump (trailO (Reg.TRAIL_EXPIRED q)) (bump (secO x.sector Reg.SEC_FCEXP) (dropSlot q i s))) :=
      (((dropSlot_only q i s).mono rfl).via (bump_only _ _) rfl).via (bump_only _ _) rfl
    have hruns : exec (.trailExpire q i) s =
        .next (bump (trailO (Reg.TRAIL_EXPIRED q)) (bump (secO x.sector Reg.SEC_FCEXP) (dropSlot q i s))) := by
      show execTrailExpire q i s = _
      unfold execTrailExpire
      rw [hx]
      refine act_runs hawake ?_
      rcases hst with hst | hst <;> rcases hpast with hp | hp <;> simp [hst, hp, htick, hstep]
    have hne : trailO (Reg.TRAIL_EXPIRED q) ≠ secO x.sector Reg.SEC_FCEXP := by
      unfold trailO secO pg Reg.TRAIL_EXPIRED Reg.SEC_FCEXP
      omega
    have hcount := bump_toNat (trailO (Reg.TRAIL_EXPIRED q)) (bump (secO x.sector Reg.SEC_FCEXP) (dropSlot q i s))
    rw [live_bump_other hne, (dropSlot_only q i s).live_eq rfl rfl] at hcount
    refine ⟨_, hruns, ?_, fun j hj => ?_, ho, hcount⟩
    · rw [(bump_only _ _).slot_eq rfl, (bump_only _ _).slot_eq rfl, slot_dropSlot_same]
    · rw [(bump_only _ _).slot_eq rfl, (bump_only _ _).slot_eq rfl, slot_dropSlot_other hj]
  · have hruns : exec (.trailMiss q i) s = .next (retarget x.sector (report x.sector (slotKey q i) true
        (bump (secO x.sector Reg.SEC_FCMISS) (dropSlot q i s)))) := by
      show execTrailMiss q i s = _
      unfold execTrailMiss
      rw [hx]
      refine act_runs hawake ?_
      rcases hdead with hd | ⟨hd, hj⟩
      · simp [hst, htick, hd]
      · simp [hst, htick, hd, hj]
    have hdrop : Only [.live, .trail] s (bump (secO x.sector Reg.SEC_FCMISS) (dropSlot q i s)) :=
      ((dropSlot_only q i s).mono rfl).via (bump_only _ _) rfl
    have hslot : ∀ j, slot (retarget x.sector (report x.sector (slotKey q i) true
        (bump (secO x.sector Reg.SEC_FCMISS) (dropSlot q i s)))) q j = slot (dropSlot q i s) q j := fun j => by
      rw [(retarget_only _ _).slot_eq rfl, (report_only _ _ _ _).slot_eq rfl, (bump_only _ _).slot_eq rfl]
    refine ⟨_, hruns, (hslot i).trans (slot_dropSlot_same _ _ _), fun j hj => (hslot j).trans (slot_dropSlot_other hj _ _), ?_⟩
    unfold retarget issuePre report
    rw [sec_modSec_same, sec_modSec_same, hdrop.sec_eq rfl]
  · have hruns : exec (.trailHoldEnd q i) s = .next (retarget x.sector (dropSlot q i s)) := by
      show execTrailHoldEnd q i s = _
      unfold execTrailHoldEnd
      rw [hx]
      exact act_runs hawake (by simp [hst, hend])
    refine ⟨_, hruns, ?_, fun j hj => ?_, ?_, ((dropSlot_only q i s).mono rfl).via (retarget_only _ _) rfl⟩
    · rw [(retarget_only _ _).slot_eq rfl, slot_dropSlot_same]
    · rw [(retarget_only _ _).slot_eq rfl, slot_dropSlot_other hj]
    · unfold retarget issuePre
      rw [sec_modSec_same]
      rfl

end Sys2Proof.Machine
end

section
/-! SUPPORT. Tally: activity messages, the periods of the estimator. -/

namespace Sys2Proof.Machine

/-! ### A view of the state that an operation leaves -/

/-- The view `p` of the state is the same after as before. -/
def Keeps {β : Type} (p : State → β) (s t : State) : Prop := p t = p s

section
variable {β : Type} {p : State → β}

theorem Keeps.refl (s : State) : Keeps p s s := rfl

theorem Keeps.trans {s t u : State} (h : Keeps p s t) (k : Keeps p t u) : Keeps p s u := Eq.trans k h

theorem Keeps.ite {c : Prop} [Decidable c] {s t u : State} (h : Keeps p s t) (k : Keeps p s u) : Keeps p s (if c then t else u) := by
  split
  · exact h
  · exact k

theorem Keeps.when {f : State → State} (h : ∀ s, Keeps p s (f s)) (b : Bool) (s : State) : Keeps p s (when b f s) := by
  cases b with
  | false => exact .refl s
  | true => exact h s

theorem Keeps.foldl {α : Type} {f : State → α → State} (h : ∀ s x, Keeps p s (f s x)) (l : List α) (s : State) :
    Keeps p s (l.foldl f s) := foldl_keeps (f := p) (g := f) h l s

theorem Keeps.forEach {f : Nat → State → State} (h : ∀ n s, Keeps p s (f n s)) (l : List Nat) (s : State) :
    Keeps p s (forEach l f s) := Keeps.foldl (fun s n => h n s) l s

end

/-! ### Activity messages -/

theorem rotateFeat_same {s : State} (h : s.tally.featPer = estNo s) : rotateFeat s = s := if_pos h

section
variable {s : State} {lane : Nat} {w : Word} (hper : s.tally.featPer = estNo s) (hvalid : w.bit 0 = true) (hn : w.field 27 20 ≠ 0)
include hper hvalid hn

theorem activity_bad (hpar : parityOk w = false) : activity lane w s =
    raiseOn Src.TALLY_FEAT_ERR lane 0x07 2 (bumpF (talO Reg.TAL_FEATERR) 15 0
      (modTally (fun t => { t with featBad := if t.featBad.contains lane then t.featBad else t.featBad ++ [lane] }) s)) := by
  unfold activity
  dsimp only
  rw [rotateFeat_same hper, if_neg (by simp [hvalid, hn]), if_pos (by rw [hpar]; rfl)]

theorem activity_outside (hpar : parityOk w = true)
    (h : ∀ sc, busSector s.params (w.field 2 1) (w.field 12 3) = some sc → sectors s ≤ sc ∨ sc / 16 ≠ lane) :
    activity lane w s = bumpF (talO Reg.TAL_FEATERR) 31 16 s := by
  unfold activity
  dsimp only
  rw [rotateFeat_same hper, if_neg (by simp [hvalid, hn]), if_neg (by rw [hpar]; decide)]
  split
  · rfl
  · next sc hsc => exact if_pos (by simpa using h sc hsc)

theorem activity_counts (hpar : parityOk w = true) {sc : Nat}
    (h : busSector s.params (w.field 2 1) (w.field 12 3) = some sc) (hlt : sc < sectors s) (hlane : sc / 16 = lane) :
    activity lane w s = when (w.field 2 1 == 1) (wakeGroup (w.field 12 3))
      (modTally (fun t => { t with
        feat := Store.set t.feat 0 (128 * sc + w.field 19 13)
          (Nat.min (Store.get t.feat 0 (128 * sc + w.field 19 13) + w.field 27 20) 0xFFFFFF) }) s) := by
  unfold activity
  dsimp only
  rw [rotateFeat_same hper, if_neg (by simp [hvalid, hn]), if_neg (by rw [hpar]; decide), h]
  exact if_neg (by simp [hlt, hlane])

end

/-! ### The start of a period -/

theorem evalSector_sector (s : State) (sc : Nat) : (evalSector s sc).sector = sc := by
  unfold evalSector
  split
  · rfl
  · split <;> rfl

/-- The records that a start takes. -/
def recordsTaken (run : List TallySec) (s : State) : State :=
  run.foldl (fun s x => x.recs.foldl (fun s (key, _) =>
    match slot s (key / 256) (key % 256) with
    | some r => setSlot (key / 256) (key % 256) { r with taken := some (now s) } s
    | none => s) s) s

theorem recordsTaken_only (run : List TallySec) (s : State) : Only [.trail] s (recordsTaken run s) := by
  refine (Only.refl _ s).foldl _ _ fun u x => (Only.refl _ u).foldl _ _ fun v k => ?_
  obtain ⟨key, _⟩ := k
  dsimp only
  split
  · exact setSlot_only _ _ _ _
  · exact Only.refl _ _

/-- The state that a start evaluates. -/
def startView (speed : BitVec 10) (s : State) : State := rotateFeat (setLive (tbO Reg.TB_SPEED) (speed.setWidth 32) s)

theorem startView_only (speed : BitVec 10) (s : State) : Only [.live, .tally] s (startView speed s) :=
  ((setLive_only _ _ s).mono rfl).via (rotateFeat_only _) rfl

def periodRun (s : State) : TallyRun :=
  ⟨now s, estNo s - 1, (upto (sectors s)).map (evalSector s), cfg s (talO Reg.TAL_ARB), cfg s (talO Reg.TAL_ARB2)⟩

theorem tallyStart_eq (speed : BitVec 10) (s : State) : tallyStart speed s =
    engStart clsTally 0 (modTally (fun t => { t with run := some (periodRun (startView speed s)) })
      (recordsTaken (periodRun (startView speed s)).secs (startView speed s))) := rfl

theorem periodRun_sectors (s : State) : (periodRun s).secs.map (·.sector) = upto (sectors s) := by
  unfold periodRun
  rw [List.map_map]
  exact (List.map_congr_left fun sc _ => evalSector_sector s sc).trans (List.map_id _)

/-! ### The latch of a period -/

/-- What the latch of a period sets, and what the arbitration leaves. -/
def estView (s : State) : Option TallyRun × Bool × List Nat × Store Nat := (s.tally.run, s.tally.ovr, s.tally.good, s.tally.est)

theorem Only.keepsEst {l : List Part} {s t : State} (h : Only l s t) (ht : l.contains .tally = false) : Keeps estView s t := by
  unfold Keeps estView
  rw [show t.tally = s.tally from h.keeps .tally ht]

theorem modTally_keepsEst {f : Tally → Tally} {s : State}
    (h : ((f s.tally).run, (f s.tally).ovr, (f s.tally).good, (f s.tally).est) = estView s) : Keeps estView s (modTally f s) := h

theorem arbRecord_keepsEst (s : State) : Keeps estView s (arbRecord s) :=
  Keeps.forEach (fun _ _ => modTally_keepsEst (by rfl)) _ s

/-- A sector's figure and its code. -/
def figureSet (sc : Nat) (s : State) : State :=
  setField (talO (Reg.TAL_CAPSRC (sc / 16))) (2 * (sc % 16) + 1) (2 * (sc % 16)) (capFigure s sc).2
    (modTally (fun t => { t with fig := Store.set t.fig 0 sc (capFigure s sc).1 }) s)

theorem setFigures_keepsEst (s : State) : Keeps estView s (setFigures s) := by
  have hfig : ∀ sc u, Keeps estView u (figureSet sc u) := fun sc u =>
    .trans (modTally_keepsEst (by rfl)) ((setField_only _ _ _ _ _).keepsEst rfl)
  exact .trans (Keeps.forEach hfig _ s) ((sumFigures_only _).keepsEst rfl)

theorem domainGb_keepsEst (on : Bool) (gb d : Nat) (s : State) : Keeps estView s (domainGb on gb d s) := by
  have hfield : Keeps estView s (setField (talO (Reg.TAL_VERD d)) 3 3 (b2n on) s) := (setField_only _ _ _ _ _).keepsEst rfl
  unfold domainGb
  exact .ite hfield (.trans (.trans hfield (modTally_keepsEst (by rfl)))
    (Keeps.forEach (fun sc u => (issueGb_only sc u).keepsEst rfl) _ _))

theorem enterVerdict_keepsEst (w : Word) (d v : Nat) (s : State) : Keeps estView s (enterVerdict w d v s) := by
  have hset : Keeps estView s (setField (talO (Reg.TAL_VERD d)) 2 0 v s) := (setField_only _ _ _ _ _).keepsEst rfl
  have hraise : ∀ src bit, Keeps estView s (raiseOn src d 0x07 bit (setField (talO (Reg.TAL_VERD d)) 2 0 v s)) := fun src bit =>
    .trans hset ((raiseOn_only _ _ _ _ _).keepsEst rfl)
  unfold enterVerdict
  exact .trans (.trans (.ite hset (.ite (hraise _ _) (.ite (hraise _ _) (.ite (hraise _ _) hset)))) (domainGb_keepsEst _ _ _ _))
    (Keeps.when (fun u => (recalibrate_only _ _ u).keepsEst rfl) _ _)

/-- The words of a verdict latch written before the verdict. -/
def verdictWords (d : Nat) (l : List ArbPer) (s : State) : State :=
  when (!(l.filter (·.ok)).isEmpty) (fun s => result (talO (Reg.TAL_ESUM d)) (satN 16 (arbMeans l).1.round)
      (result (talO (Reg.TAL_MSUM d)) (satN 16 (arbMeans l).2.1.round)
        (result (talO (Reg.TAL_BSUM d)) (satN 16 (arbMeans l).2.2.round) s)))
    (setField (talO (Reg.TAL_VERD d)) 14 8 (suspects (modTally (fun t => { t with arb := t.arb.del d }) s) d)
      (bumpF (talO (Reg.TAL_VERD d)) 31 16 (modTally (fun t => { t with arb := t.arb.del d }) s)))

theorem verdictWords_keepsEst (d : Nat) (l : List ArbPer) (s : State) : Keeps estView s (verdictWords d l s) := by
  refine .trans (.trans (.trans (modTally_keepsEst (by rfl)) ((bumpF_only _ _ _ _).keepsEst rfl))
    ((setField_only _ _ _ _ _).keepsEst rfl)) (Keeps.when (fun u => ?_) _ _)
  exact .trans (.trans ((result_only _ _ _).keepsEst rfl) ((result_only _ _ _).keepsEst rfl)) ((result_only _ _ _).keepsEst rfl)

theorem latchVerdict_keepsEst (w w2 : Word) (d : Nat) (s : State) : Keeps estView s (latchVerdict w w2 d s) := by
  have hskip : ∀ (b : Bool), Keeps estView s (when b (bump (talO Reg.TAL_ARBSKIP)) (verdictWords d (Store.get s.tally.arb [] d) s)) :=
    fun b => .trans (verdictWords_keepsEst d _ s) (Keeps.when (fun u => (bump_only _ u).keepsEst rfl) b _)
  have hverd : ∀ w2 v u, Keeps estView u (enterVerdict w2 d v u) := fun w2 v u => enterVerdict_keepsEst w2 d v u
  unfold latchVerdict
  exact .ite (.trans (.trans (hskip _) (modTally_keepsEst (by rfl))) (hverd _ _ _))
    (.trans (.trans (hskip _) (modTally_keepsEst (by rfl))) (Keeps.when (hverd _ _) _ _))

/-- The estimates of a period that completed in time, as the latch takes them. -/
def estTaken (r : TallyRun) : Option TallyRun × Bool × List Nat × Store Nat :=
  (none, false, (r.secs.filter (·.ok)).map (·.sector), (r.secs.filter (·.ok)).map (fun x => (x.sector, x.e)))

theorem tallyCommit_estView {s : State} {r : TallyRun} (h : s.tally.run = some r) : estView (tallyCommit s) = estTaken r := by
  have hend : ∀ u, Keeps estView u (setFigures (if verdictDue u then forEach (upto 4) (latchVerdict r.arb r.arb2) u else u)) := fun u =>
    .trans (.ite (Keeps.forEach (fun d v => latchVerdict_keepsEst _ _ d v) _ u) (.refl u)) (setFigures_keepsEst _)
  unfold tallyCommit
  rw [h]
  exact (Keeps.trans (arbRecord_keepsEst _) (hend _) : Keeps estView _ _)

/-! ### An overrun of the period -/

theorem live_recordSlack_other {o : Nat} (h1 : o ≠ tbO Reg.TB_SLACK_SEC) (h2 : o ≠ tbO Reg.TB_SLACK_OTH) (cls n : Nat) (s : State) :
    live (recordSlack cls n s) o = live s o := by
  unfold recordSlack when
  dsimp only
  split
  · split
    · exact live_setField_other _ _ _ _ _ _ h1
    · rfl
  · split
    · exact live_setLive_other _ _ _ _ h2
    · rfl

theorem live_pageFlt_other {o page : Nat} (h : o ≠ pg page PAGE_FLT) (bit : Nat) (s : State) : live (pageFlt page bit s) o = live s o := by
  unfold pageFlt when
  split
  · exact live_setLive_other _ _ _ _ h
  · rfl

/-- An overrun of Tally's engine leaves the page's own counters. -/
theorem live_overrun_tally (s : State) : live (overrun clsTally 0 s) (talO Reg.TAL_INVALID) = live s (talO Reg.TAL_INVALID) := by
  have hraise : ∀ src det (u : State), live (raise src det u) (talO Reg.TAL_INVALID) = live u (talO Reg.TAL_INVALID) := fun src det u =>
    (raise_only _ _ _).live_eq rfl rfl _
  have hwhen : ∀ b (u : State), live (when b (raise Src.ENG_OVERRUN_RPT (engKey clsTally 0)) u) (talO Reg.TAL_INVALID) =
      live u (talO Reg.TAL_INVALID) := fun b u => ((Only.refl [.flt] u).when _ _ fun v => raise_only _ _ v).live_eq rfl rfl _
  unfold overrun
  dsimp only
  rw [hwhen]
  refine (live_pageFlt_other (page := 0x07) (by decide) 0 _).trans ?_
  rw [hraise, live_recordSlack_other (by decide) (by decide), live_bump_other (by decide)]
  exact (setEng_only _ _ _ _).live_eq rfl rfl _

theorem live_setFigures (s : State) : live (setFigures s) (talO Reg.TAL_INVALID) = live s (talO Reg.TAL_INVALID) := by
  have hcap : ∀ n, talO Reg.TAL_INVALID ≠ talO (Reg.TAL_CAPSRC n) := fun n => by
    unfold talO pg Reg.TAL_INVALID Reg.TAL_CAPSRC
    omega
  have hfold : live (forEach (upto (sectors s)) figureSet s) (talO Reg.TAL_INVALID) = live s (talO Reg.TAL_INVALID) :=
    Keeps.forEach (p := fun u => live u (talO Reg.TAL_INVALID)) (fun sc u =>
      (live_setField_other _ _ _ _ _ _ (hcap _)).trans ((modTally_only _ _).live_eq rfl rfl _)) _ s
  exact ((sumFigures_only _).live_eq rfl rfl _).trans hfold

/-- The words that an overrun shows: every sector invalid. -/
def invalidWords (s : State) : State :=
  bumpBy (talO Reg.TAL_INVALID) (sectors s)
    (setLive (talO Reg.TAL_INVAL_LO) (BitVec.ofNat 32 (packBits ((upto 32).map (fun i => decide (0 + i < sectors s)))))
      (setLive (talO Reg.TAL_INVAL_HI) (BitVec.ofNat 32 (packBits ((upto 32).map (fun i => decide (32 + i < sectors s))))) s))

def periodLost (s : State) : State :=
  arbRecord (modTally (fun t => { t with run := none, ovr := true, good := [], est := [] }) (invalidWords s))

theorem tallyMissed_eq (s : State) : tallyMissed s =
    setFigures (if verdictDue (periodLost s) then modTally (fun t => { t with arb := [] }) (periodLost s) else periodLost s) := rfl

theorem tallyMissed_estView (s : State) : estView (tallyMissed s) = (none, true, [], []) := by
  have hlost : estView (periodLost s) = (none, true, [], []) := arbRecord_keepsEst _
  rw [← hlost, tallyMissed_eq]
  exact (Keeps.ite (modTally_keepsEst (by rfl)) (.refl _)).trans (setFigures_keepsEst _)

theorem live_tallyMissed (s : State) : (live (tallyMissed s) (talO Reg.TAL_INVALID)).toNat =
    Nat.min ((live s (talO Reg.TAL_INVALID)).toNat + sectors s) 0xFFFFFFFF := by
  have hlost : live (periodLost s) (talO Reg.TAL_INVALID) = live (invalidWords s) (talO Reg.TAL_INVALID) :=
    (((modTally_only _ _).mono rfl : Only [.tally] _ _).via (arbRecord_only _) rfl).live_eq rfl rfl _
  have hclear : Only [.tally] (periodLost s)
      (if verdictDue (periodLost s) then modTally (fun t => { t with arb := [] }) (periodLost s) else periodLost s) :=
    .ite (modTally_only _ _) (Only.refl _ _)
  have hcount := bumpBy_toNat (talO Reg.TAL_INVALID) (sectors s)
    (setLive (talO Reg.TAL_INVAL_LO) (BitVec.ofNat 32 (packBits ((upto 32).map (fun i => decide (0 + i < sectors s)))))
      (setLive (talO Reg.TAL_INVAL_HI) (BitVec.ofNat 32 (packBits ((upto 32).map (fun i => decide (32 + i < sectors s))))) s))
  rw [live_setLive_other _ _ _ _ (by decide), live_setLive_other _ _ _ _ (by decide)] at hcount
  rw [tallyMissed_eq, live_setFigures, hclear.live_eq rfl rfl, hlost]
  exact hcount

theorem satN_le (n : Nat) (x : Int) : satN n x ≤ 2 ^ n - 1 := by
  have hpow : (1 : Int) ≤ 2 ^ n := one_le_pow₀ (by decide)
  have hcast : ((2 ^ n : Nat) : Int) = 2 ^ n := by push_cast; rfl
  have h := clamp_mem x (lo := 0) (hi := (2 : Int) ^ n - 1) (by omega)
  unfold satN
  omega

/-- Settles O38: a message counts where its parity and its unit are good; the latch of a period takes its evaluations, or none. -/
theorem tallyCommands : Obligations.TallyCommands := by
  unfold Obligations.TallyCommands
  refine ⟨⟨fun s lane sc w hawake hlane hper hvalid hn hpar hbus hsc hq => ?_, fun s lane w hawake hlane hper hvalid hn hpar => ?_,
    fun s lane w hawake hlane hper hvalid hn hpar hbus => ?_⟩, fun s speed hawake htick => ?_, fun s r hawake hdue hdone hrun => ?_,
    fun s hawake hdue hdone => ?_, fun img x => ?_⟩
  · refine ⟨_, (act_runs hawake (decide_eq_true hlane)).trans (congrArg _ (activity_counts hper hvalid hn hpar hbus hsc hq)), ?_⟩
    have hwake : ∀ b (u : State), (when b (wakeGroup (w.field 12 3)) u).tally = u.tally := fun b u =>
      ((Only.refl [.live, .secs, .trail, .seat] u).when _ _ fun v => wakeGroup_only _ v).keeps .tally rfl
    rw [hwake]
    exact ⟨Store.get_set_same _ _ _ _, fun k hk => Store.get_set_other _ _ _ _ _ _ hk, rfl⟩
  · refine ⟨_, (act_runs hawake (decide_eq_true hlane)).trans (congrArg _ (activity_bad hper hvalid hn hpar)), ?_⟩
    have htally : ∀ f : Tally → Tally, (raiseOn Src.TALLY_FEAT_ERR lane 0x07 2 (bumpF (talO Reg.TAL_FEATERR) 15 0
        (modTally f s))).tally = f s.tally := fun f =>
      (((bumpF_only _ _ _ _).mono rfl : Only [.live, .flt] (modTally f s) _).via (raiseOn_only _ _ _ _ _) rfl).keeps .tally rfl
    rw [htally]
    refine ⟨?_, rfl, (raiseOn_raised _ _ _ _ _).after (((modTally_only _ s).mono rfl : Only [.tally, .live] _ _).via
      (bumpF_only _ _ _ _) rfl) rfl rfl⟩
    dsimp only
    split
    · next h => exact List.contains_iff_mem.mp h
    · exact List.mem_append_right _ (List.mem_singleton.mpr rfl)
  · have ho := bumpF_only (talO Reg.TAL_FEATERR) 31 16 s
    exact ⟨_, (act_runs hawake (decide_eq_true hlane)).trans (congrArg _ (activity_outside hper hvalid hn hpar hbus)),
      ho.keeps .tally rfl, ho, field_bumpF _ _ _ _ (by decide) (by decide)⟩
  · refine ⟨_, act_runs hawake htick, ?_⟩
    rw [tallyStart_eq]
    have hview := startView_only speed s
    have hat : (periodRun (startView speed s)).at0 = now s := hview.now_eq rfl
    have hsecs := (periodRun_sectors (startView speed s)).trans (congrArg upto (hview.sectors_eq rfl))
    generalize periodRun (startView speed s) = r at hat hsecs ⊢
    have htaken := recordsTaken_only r.secs (startView speed s)
    have hmod := modTally_only (fun t => { t with run := some r }) (recordsTaken r.secs (startView speed s))
    have heng := engStart_only clsTally 0 (modTally (fun t => { t with run := some r }) (recordsTaken r.secs (startView speed s)))
    rw [eng_engStart, hmod.now_eq rfl, htaken.now_eq rfl, hview.now_eq rfl,
      show (engStart clsTally 0 (modTally (fun t => { t with run := some r }) (recordsTaken r.secs (startView speed s)))).tally.run =
        some r from congrArg Tally.run (heng.keeps .tally rfl), heng.live_eq rfl rfl, hmod.live_eq rfl rfl, htaken.live_eq rfl rfl]
    refine ⟨rfl, rfl, ?_, ?_⟩
    · rw [Option.map_some, hat, hsecs]
    · exact ((rotateFeat_only _).live_eq rfl rfl _).trans (live_setLive_same _ _ _)
  · refine ⟨_, (act_runs hawake hdue).trans (congrArg _ (latch_done tallyCommit tallyMissed hdone)), ?_⟩
    have h := tallyCommit_estView (s := setEng clsTally 0 { eng s clsTally 0 with start := none, done := none } s) (r := r)
      ((congrArg Tally.run ((setEng_only _ _ _ _).keeps .tally rfl)).trans hrun)
    simpa [estView, estTaken] using h
  · refine ⟨_, (act_runs hawake hdue).trans (congrArg _ (latch_overrun tallyCommit tallyMissed hdone)), ?_⟩
    have h := tallyMissed_estView (overrun clsTally 0 s)
    have hcount := live_tallyMissed (overrun clsTally 0 s)
    rw [live_overrun_tally, (overrun_only clsTally 0 s).sectors_eq rfl] at hcount
    obtain ⟨hrun, hovr, hgood, hest⟩ : (tallyMissed (overrun clsTally 0 s)).tally.run = none ∧
        (tallyMissed (overrun clsTally 0 s)).tally.ovr = true ∧ (tallyMissed (overrun clsTally 0 s)).tally.good = [] ∧
        (tallyMissed (overrun clsTally 0 s)).tally.est = [] := by simpa [estView] using h
    exact ⟨hrun, hovr, hgood, hest, hcount, (overrun_among clsTally 0 s).before (tallyMissed_only _) rfl⟩
  · exact satN_le 16 _

end Sys2Proof.Machine
end

section
/-! SUPPORT. Model memory and installs. -/

namespace Sys2Proof.Machine

/-! ### Fields of a word -/

/-- A word after a write of a field: what lies below it, the field, what lies above it. -/
theorem toNat_put (w : Word) {hi lo : Nat} (v : Nat) (h : lo ≤ hi) (h32 : hi < 32) : (w.put hi lo v).toNat =
    w.toNat % 2 ^ lo + 2 ^ lo * (v % 2 ^ (hi + 1 - lo)) + 2 ^ (hi + 1) * (w.toNat / 2 ^ (hi + 1)) := by
  have hsplit : 2 ^ (hi + 1) = 2 ^ lo * 2 ^ (hi + 1 - lo) := by rw [← pow_add]; congr 1; omega
  have htop : 2 ^ 32 = 2 ^ (hi + 1) * 2 ^ (32 - (hi + 1)) := by rw [← pow_add]; congr 1; omega
  have hw : w.toNat < 2 ^ 32 := w.isLt
  have hlow := Nat.mod_lt w.toNat (Nat.two_pow_pos lo)
  have hv := Nat.mod_lt v (Nat.two_pow_pos (hi + 1 - lo))
  have hparts : w.toNat = w.toNat % 2 ^ lo + 2 ^ lo * (w.toNat / 2 ^ lo % 2 ^ (hi + 1 - lo)) + 2 ^ (hi + 1) * (w.toNat / 2 ^ (hi + 1)) := by
    have h1 := Nat.mod_add_div w.toNat (2 ^ lo)
    have h2 := Nat.mod_add_div (w.toNat / 2 ^ lo) (2 ^ (hi + 1 - lo))
    rw [Nat.div_div_eq_div_mul, ← hsplit] at h2
    conv_lhs => rw [← h1, ← h2]
    rw [hsplit]
    ring
  have habove : w.toNat / 2 ^ (hi + 1) < 2 ^ (32 - (hi + 1)) := by
    rw [Nat.div_lt_iff_lt_mul (Nat.two_pow_pos _), Nat.mul_comm, ← htop]
    exact hw
  have hfit : w.toNat % 2 ^ lo + 2 ^ lo * (v % 2 ^ (hi + 1 - lo)) < 2 ^ (hi + 1) := by
    rw [hsplit]
    calc w.toNat % 2 ^ lo + 2 ^ lo * (v % 2 ^ (hi + 1 - lo)) < 2 ^ lo + 2 ^ lo * (v % 2 ^ (hi + 1 - lo)) := by omega
      _ = 2 ^ lo * (v % 2 ^ (hi + 1 - lo) + 1) := by ring
      _ ≤ 2 ^ lo * 2 ^ (hi + 1 - lo) := Nat.mul_le_mul_left _ hv
  have hall : w.toNat % 2 ^ lo + 2 ^ lo * (v % 2 ^ (hi + 1 - lo)) + 2 ^ (hi + 1) * (w.toNat / 2 ^ (hi + 1)) < 2 ^ 32 := by
    rw [htop]
    calc _ < 2 ^ (hi + 1) + 2 ^ (hi + 1) * (w.toNat / 2 ^ (hi + 1)) := by omega
      _ = 2 ^ (hi + 1) * (w.toNat / 2 ^ (hi + 1) + 1) := by ring
      _ ≤ 2 ^ (hi + 1) * 2 ^ (32 - (hi + 1)) := Nat.mul_le_mul_left _ habove
  have hsub : w.toNat - w.toNat / 2 ^ lo % 2 ^ (hi + 1 - lo) * 2 ^ lo + v % 2 ^ (hi + 1 - lo) * 2 ^ lo =
      w.toNat % 2 ^ lo + 2 ^ lo * (v % 2 ^ (hi + 1 - lo)) + 2 ^ (hi + 1) * (w.toNat / 2 ^ (hi + 1)) := by
    rw [Nat.mul_comm _ (2 ^ lo), Nat.mul_comm _ (2 ^ lo)]
    omega
  unfold Word.put Word.field
  rw [BitVec.toNat_ofNat, Nat.shiftRight_eq_div_pow, hsub]
  exact Nat.mod_eq_of_lt hall

theorem field_eq_of_mod {v w : Word} {hi lo k : Nat} (h : v.toNat % 2 ^ k = w.toNat % 2 ^ k) (hk : hi < k) :
    v.field hi lo = w.field hi lo := by
  have hlow : ∀ x : Word, x.field hi lo = (x.toNat % 2 ^ k) / 2 ^ lo % 2 ^ (hi + 1 - lo) := fun x => by
    unfold Word.field
    rw [Nat.shiftRight_eq_div_pow]
    by_cases hlo : lo ≤ hi
    · have hp : 2 ^ k = 2 ^ lo * 2 ^ (hi + 1 - lo) * 2 ^ (k - (hi + 1)) := by
        rw [← pow_add, ← pow_add]; congr 1; omega
      rw [hp, Nat.mul_assoc, Nat.mod_mul_right_div_self, Nat.mod_mul_right_mod]
    · rw [show hi + 1 - lo = 0 by omega, pow_zero, Nat.mod_one, Nat.mod_one]
  rw [hlow, hlow, h]

theorem field_eq_of_div {v w : Word} {hi lo k : Nat} (h : v.toNat / 2 ^ k = w.toNat / 2 ^ k) (hk : k ≤ lo) :
    v.field hi lo = w.field hi lo := by
  have hhigh : ∀ x : Word, x.field hi lo = x.toNat / 2 ^ k / 2 ^ (lo - k) % 2 ^ (hi + 1 - lo) := fun x => by
    unfold Word.field
    rw [Nat.shiftRight_eq_div_pow, Nat.div_div_eq_div_mul, ← pow_add, Nat.add_sub_cancel' hk]
  rw [hhigh, hhigh, h]

/-- A field that does not meet the one written reads as before. -/
theorem field_put_other (w : Word) {hi lo a b : Nat} (v : Nat) (h : lo ≤ hi) (h32 : hi < 32) (hd : a < lo ∨ hi < b) :
    (w.put hi lo v).field a b = w.field a b := by
  have hput := toNat_put w v h h32
  have hsplit : 2 ^ (hi + 1) = 2 ^ lo * 2 ^ (hi + 1 - lo) := by rw [← pow_add]; congr 1; omega
  rcases hd with hd | hd
  · refine field_eq_of_mod (k := lo) ?_ hd
    rw [hput, hsplit, Nat.mul_assoc, Nat.add_mul_mod_self_left, Nat.add_mul_mod_self_left, Nat.mod_mod]
  · refine field_eq_of_div (k := hi + 1) ?_ hd
    have hlow := Nat.mod_lt w.toNat (Nat.two_pow_pos lo)
    have hv := Nat.mod_lt v (Nat.two_pow_pos (hi + 1 - lo))
    have hfit : w.toNat % 2 ^ lo + 2 ^ lo * (v % 2 ^ (hi + 1 - lo)) < 2 ^ (hi + 1) := by
      rw [hsplit]
      calc w.toNat % 2 ^ lo + 2 ^ lo * (v % 2 ^ (hi + 1 - lo)) < 2 ^ lo + 2 ^ lo * (v % 2 ^ (hi + 1 - lo)) := by omega
        _ = 2 ^ lo * (v % 2 ^ (hi + 1 - lo) + 1) := by ring
        _ ≤ 2 ^ lo * 2 ^ (hi + 1 - lo) := Nat.mul_le_mul_left _ hv
    rw [hput, Nat.add_mul_div_left _ _ (Nat.two_pow_pos _), Nat.div_eq_of_lt hfit, Nat.zero_add]

/-- A field reads as it was written where the value fits it. -/
theorem field_put_fit (w : Word) {hi lo v : Nat} (h : lo ≤ hi) (h32 : hi < 32) (hv : v < 2 ^ (hi + 1 - lo)) :
    (w.put hi lo v).field hi lo = v := (Word.field_put_same w hi lo v h h32).trans (Nat.mod_eq_of_lt hv)

/-! ### Bytes of model memory (R247) -/

theorem memByte_setByte_same (a : Nat) (b : Byte) (s : State) : memByte (setByte a b s) a = b := Store.get_set_same _ _ _ _

theorem memByte_setByte_other {a c : Nat} (h : c ≠ a) (b : Byte) (s : State) : memByte (setByte a b s) c = memByte s c :=
  Store.get_set_other _ _ _ _ _ _ h

theorem Only.memByte_eq {l : List Part} {s t : State} (h : Only l s t) (hm : l.contains .mem = false) (b : Nat) :
    memByte t b = memByte s b := by
  unfold memByte
  rw [show t.mem = s.mem from h.keeps .mem hm]

theorem memByte_memWrite (o : Nat) (bytes : List Byte) (s : State) (b : Nat) : memByte (memWrite o bytes s) b =
    if o ≤ b ∧ b < o + bytes.length ∧ (stagingUnit b).isSome = true then bytes.getD (b - o) 0 else memByte s b := by
  induction bytes generalizing o s with
  | nil => exact (if_neg fun h => absurd h.2.1 (by rw [List.length_nil]; omega)).symm
  | cons x r ih =>
    show memByte (memWrite (o + 1) r (if (stagingUnit o).isSome then setByte o x s else s)) b = _
    rw [ih, List.length_cons]
    by_cases hb : b = o
    · subst hb
      rw [if_neg (by omega), Nat.sub_self]
      by_cases hst : (stagingUnit b).isSome = true
      · rw [if_pos hst, memByte_setByte_same, if_pos ⟨le_refl b, by omega, hst⟩]
        rfl
      · rw [if_neg hst, if_neg (fun h => hst h.2.2)]
    · have hrest : memByte (if (stagingUnit o).isSome then setByte o x s else s) b = memByte s b := by
        split
        · exact memByte_setByte_other hb _ _
        · rfl
      rw [hrest]
      by_cases hin : o + 1 ≤ b ∧ b < o + 1 + r.length ∧ (stagingUnit b).isSome = true
      · rw [if_pos hin, if_pos ⟨by omega, by omega, hin.2.2⟩, show b - o = b - (o + 1) + 1 by omega]
        rfl
      · rw [if_neg hin, if_neg (fun h => hin ⟨by omega, by omega, h.2.2⟩)]

theorem memByte_setBytes (o : Nat) (bytes : List Byte) (s : State) (b : Nat) : memByte (setBytes o bytes s) b =
    if o ≤ b ∧ b < o + bytes.length then bytes.getD (b - o) 0 else memByte s b := by
  induction bytes generalizing o s with
  | nil => exact (if_neg fun h => absurd h.2 (by rw [List.length_nil]; omega)).symm
  | cons x r ih =>
    show memByte (setBytes (o + 1) r (setByte o x s)) b = _
    rw [ih, List.length_cons]
    by_cases hb : b = o
    · subst hb
      rw [if_neg (by omega), memByte_setByte_same, if_pos ⟨le_refl b, by omega⟩, Nat.sub_self]
      rfl
    · rw [memByte_setByte_other hb]
      by_cases hin : o + 1 ≤ b ∧ b < o + 1 + r.length
      · rw [if_pos hin, if_pos ⟨by omega, by omega⟩, show b - o = b - (o + 1) + 1 by omega]
        rfl
      · rw [if_neg hin, if_neg (fun h => hin ⟨by omega, by omega⟩)]

theorem getD_bytesOf {i n : Nat} (h : i < n) (v : BitVec 128) : (bytesOf n v).getD i 0 = (v >>> (8 * i)).setWidth 8 := by
  unfold bytesOf upto
  rw [List.getD_eq_getElem _ _ (by simpa using h), List.getElem_map, List.getElem_range]

theorem length_bytesOf (n : Nat) (v : BitVec 128) : (bytesOf n v).length = n := by
  unfold bytesOf upto
  rw [List.length_map, List.length_range]

theorem length_memBytes (s : State) (a n : Nat) : (memBytes s a n).length = n := by
  unfold memBytes upto
  rw [List.length_map, List.length_range]

theorem getD_memBytes {i n : Nat} (h : i < n) (s : State) (a : Nat) : (memBytes s a n).getD i 0 = memByte s (a + i) := by
  unfold memBytes upto
  rw [List.getD_eq_getElem _ _ (by simpa using h), List.getElem_map, List.getElem_range]

/-- What a write of `n` bytes leaves in model memory. -/
theorem memByte_written {o n : Nat} (v : BitVec 128) (s : State) :
    (∀ i, i < n → (stagingUnit (o + i)).isSome = true →
      memByte (memWrite o (bytesOf n v) s) (o + i) = (v >>> (8 * i)).setWidth 8) ∧
    ∀ b, (b < o ∨ o + n ≤ b ∨ stagingUnit b = none) → memByte (memWrite o (bytesOf n v) s) b = memByte s b := by
  refine ⟨fun i hi hst => ?_, fun b hb => ?_⟩
  · rw [memByte_memWrite, length_bytesOf, if_pos ⟨by omega, by omega, hst⟩, Nat.add_sub_cancel_left, getD_bytesOf hi]
  · rw [memByte_memWrite, length_bytesOf]
    refine if_neg fun hin => ?_
    rcases hb with hb | hb | hb
    · omega
    · omega
    · exact absurd hin.2.2 (by rw [hb]; decide)

/-! ### The status word of an install -/

theorem loadStat_fields {st cause : Nat} (hst : st < 8) (hc : cause < 16) (s : State) :
    (live (loadStat st cause s) (talO Reg.TAL_LOADSTAT)).field 6 4 = st ∧
      (live (loadStat st cause s) (talO Reg.TAL_LOADSTAT)).field 11 8 = cause := by
  unfold loadStat
  rw [live_setField_same, live_setField_same]
  constructor
  · exact field_put_fit _ (by decide) (by decide) hst
  · rw [field_put_other _ _ (by decide) (by decide) (by decide)]
    exact field_put_fit _ (by decide) (by decide) hc

/-! ### Installs begun, refused, ended -/

theorem nextInstall_none {s : State} (h : s.tally.owed = []) : nextInstall s = s := by
  unfold nextInstall
  rw [h]
  cases s.tally.load <;> rfl

/-- A refusal as it stands when no other image waits. -/
def loadRefused (u cause : Nat) (s : State) : State :=
  when (cause != 9) (raiseOn Src.TALLY_IMAGE_BAD u 0x07 1) (loadStat 5 cause (modTally (fun t => { t with load := none }) s))

theorem loadRefused_only (u cause : Nat) (s : State) : Only [.live, .flt]
    (modTally (fun t => { t with load := none }) s) (loadRefused u cause s) :=
  ((loadStat_only _ _ _).mono rfl).when _ _ fun _ => raiseOn_only _ _ _ _ _

theorem loadRefused_tally (u cause : Nat) (s : State) : (loadRefused u cause s).tally = { s.tally with load := none } :=
  (loadRefused_only u cause s).keeps .tally rfl

theorem refuseDone_eq {s : State} (h : s.tally.owed = []) (u cause : Nat) : refuseDone u cause s = loadRefused u cause s :=
  nextInstall_none ((congrArg Tally.owed (loadRefused_tally u cause s)).trans h)

/-- An install with nothing to restore is refused, its shifts withdrawn. -/
theorem refuseLoad_refused {s : State} {l : Load} (hl : s.tally.load = some l) (hr : l.restore = none)
    (h : 8 ≤ l.unit ∨ l.stage = 1 ∨ installedSet s l.unit = false) (howed : s.tally.owed = []) (cause : Nat) :
    ∃ u, Only [.rings] s u ∧ refuseLoad cause s = loadRefused l.unit cause u := by
  have hrings : Only [.rings] s (ringWithdraw 3 (ownerReset 3 s)) := (ownerReset_only 3 s).via (ringWithdraw_only _ _) rfl
  unfold refuseLoad
  rw [hl]
  dsimp only
  rw [if_neg (by rw [hr]; decide)]
  split
  · next hshift =>
    simp only [Bool.and_eq_true, decide_eq_true_eq, bne_iff_ne, ne_eq] at hshift
    have hset : installedSet s l.unit = false := (h.resolve_left (by omega)).resolve_left hshift.2
    refine ⟨ringWithdraw 3 (ownerReset 3 s), hrings, ?_⟩
    rw [if_neg (by rw [hset]; decide)]
    exact refuseDone_eq ((congrArg Tally.owed (hrings.keeps .tally rfl)).trans howed) _ _
  · exact ⟨s, Only.refl _ s, refuseDone_eq howed _ _⟩

theorem loadRefused_fields {cause : Nat} (hc : cause < 16) (u : Nat) (s : State) :
    (live (loadRefused u cause s) (talO Reg.TAL_LOADSTAT)).field 6 4 = 5 ∧
      (live (loadRefused u cause s) (talO Reg.TAL_LOADSTAT)).field 11 8 = cause := by
  have hstat := loadStat_fields (st := 5) (by decide) hc (modTally (fun t => { t with load := none }) s)
  unfold loadRefused when
  split
  · rw [live_raiseOn_other (by decide)]
    exact hstat
  · exact hstat

theorem loadRefused_raised {cause : Nat} (hc : cause ≠ 9) (u : Nat) (s : State) :
    Raised Src.TALLY_IMAGE_BAD u s (loadRefused u cause s) := by
  unfold loadRefused
  rw [bne_iff_ne.mpr hc]
  exact (raiseOn_raised _ _ _ _ _).after (((modTally_only _ s).mono rfl : Only [.tally, .live] _ _).via (loadStat_only _ _ _) rfl) rfl rfl

theorem imageCause_lt (img : List Byte) (u : Nat) : imageCause img u < 7 := by
  unfold imageCause
  dsimp only
  repeat' split
  all_goals decide

/-- The load word of a host's install command, and of its abort. -/
theorem installWord (u : BitVec 4) : Word.bit (BitVec.ofNat 32 (u.toNat + 256)) 8 = true ∧
    Word.bit (BitVec.ofNat 32 (u.toNat + 256)) 9 = false ∧ Word.field (BitVec.ofNat 32 (u.toNat + 256)) 3 0 = u.toNat := by
  revert u
  decide

theorem talLoad_install (u : BitVec 4) (s : State) : talLoad (BitVec.ofNat 32 (u.toNat + 256)) s = startInstall u.toNat s := by
  obtain ⟨h8, h9, hu⟩ := installWord u
  unfold talLoad
  rw [h8, h9, hu]
  rfl

theorem talLoad_abort (s : State) : talLoad 0x200 s = refuseLoad 9 s := rfl

/-- An install that begins. -/
def installBegun (u : Nat) (s : State) : State :=
  setField (talO Reg.TAL_LOADSTAT) 3 0 u (loadStat 1 0 (modTally (fun t => { t with load := some ⟨u, 1, now s, [], none⟩ }) s))

theorem startInstall_begins {s : State} {u : Nat} (hu : u < 9) (h : s.tally.load = none) : startInstall u s = installBegun u s := by
  unfold startInstall
  rw [if_pos hu, h]
  rfl

theorem startInstall_refused {s : State} {u : Nat} (hu : u < 9) (h : s.tally.load.isSome = true) :
    startInstall u s = refuse 0x07 s := by
  unfold startInstall
  rw [if_pos hu, if_pos h]

/-! ### A write of model memory -/

theorem modelWrite_secure {s : State} {a : Access} {f : Form} (d : BitVec 128) (hfull : f.full = true)
    (hw : f.width = 32 ∨ f.width = 64 ∨ f.width = 128) (hal : f.off.toNat % (f.width / 8) = 0) (hsec : secure s a = true) :
    modelWrite a f d s = respond a (.ok 0) (when (match s.tally.load with
      | some l => stagingUnit (f.off.toNat - 0x200000) == some l.unit && l.restore == none
      | none => false) (refuseLoad 7) (memWrite (f.off.toNat - 0x200000) (bytesOf (f.width / 8) d) s)) := by
  unfold modelWrite
  dsimp only
  rw [if_neg (by rcases hw with h | h | h <;> simp_all), if_neg (by rw [hsec]; decide)] <;> rfl

theorem modelWrite_nonsecure {s : State} {a : Access} {f : Form} (d : BitVec 128) (hfull : f.full = true)
    (hw : f.width = 32 ∨ f.width = 64 ∨ f.width = 128) (hal : f.off.toNat % (f.width / 8) = 0) (hsec : secure s a = false) :
    modelWrite a f d s = respond a (.ok 0) (countNonsec a s) := by
  unfold modelWrite
  dsimp only
  rw [if_neg (by rcases hw with h | h | h <;> simp_all), if_pos (by rw [hsec]; rfl)]

/-! ### Activation -/

/-- What an activation writes before it ends the install. -/
def activated (l : Load) (s : State) : State :=
  let s1 := setBytes (installedBase l.unit) (memBytes s (stagingBase l.unit) (unitLen l.unit)) s
  setField (talO Reg.TAL_LOADSTAT) 31 16 (Nat.min ((live s1 (talO Reg.TAL_LOADSTAT)).field 31 16 + 1) 65535)
    (loadStat 4 0 (setLive (talO (Reg.TAL_SETID l.unit))
      (BitVec.ofNat 32 (leNat (((memBytes s (stagingBase l.unit) (unitLen l.unit)).drop 12).take 4)))
      (setBit (talO Reg.TAL_SETSTAT) l.unit s1)))

def installEnded (l : Load) (s : State) : State :=
  modTally (fun t => { t with load := none, since := t.since.put l.unit (estNo s) }) (activated l s)

theorem activate_eq (l : Load) (s : State) : activate l s = nextInstall (installEnded l s) := rfl

theorem activated_live (l : Load) (s : State) : Only [.live]
    (setBytes (installedBase l.unit) (memBytes s (stagingBase l.unit) (unitLen l.unit)) s) (activated l s) :=
  (((setBit_only _ _ _).via (setLive_only _ _ _) rfl).via (loadStat_only _ _ _) rfl).via (setField_only _ _ _ _ _) rfl

theorem installEnded_tally (l : Load) (s : State) : (installEnded l s).tally =
    { s.tally with load := none, since := s.tally.since.put l.unit (estNo s) } := by
  have h : (activated l s).tally = s.tally := ((activated_live l s).keeps .tally rfl).trans ((setBytes_only _ _ s).keeps .tally rfl)
  show { (activated l s).tally with load := none, since := (activated l s).tally.since.put l.unit (estNo s) } = _
  rw [h]

theorem live_activated (l : Load) (s : State) : live (activated l s) (talO Reg.TAL_SETSTAT) =
    (live s (talO Reg.TAL_SETSTAT)).put l.unit l.unit 1 := by
  have hne : talO Reg.TAL_SETSTAT ≠ talO (Reg.TAL_SETID l.unit) := by
    unfold talO pg Reg.TAL_SETSTAT Reg.TAL_SETID
    omega
  unfold activated loadStat setBit
  dsimp only
  rw [live_setField_other _ _ _ _ _ _ (by decide), live_setField_other _ _ _ _ _ _ (by decide),
    live_setField_other _ _ _ _ _ _ (by decide), live_setLive_other _ _ _ _ hne, live_setLive_same]
  rw [(setBytes_only _ _ s).live_eq rfl rfl]

theorem memByte_installEnded (l : Load) (s : State) (b : Nat) : memByte (installEnded l s) b =
    if installedBase l.unit ≤ b ∧ b < installedBase l.unit + unitLen l.unit
      then (memBytes s (stagingBase l.unit) (unitLen l.unit)).getD (b - installedBase l.unit) 0 else memByte s b := by
  have h : Only [.live, .tally] (setBytes (installedBase l.unit) (memBytes s (stagingBase l.unit) (unitLen l.unit)) s) (installEnded l s) :=
    ((activated_live l s).mono rfl).via (modTally_only _ _) rfl
  rw [h.memByte_eq rfl, memByte_setBytes, length_memBytes]

/-- Settles O39: a write stores in the staging areas alone; an install ends with its cause, or with its image in the installed
area. -/
theorem modelMemory : Obligations.ModelMemory := by
  unfold Obligations.ModelMemory
  refine ⟨⟨fun s a f d hawake hreach hin hfull hw hal hsec hload => ?_,
    fun s a f d l hawake hreach hin hfull hw hal hsec hl hunit hr hends howed => ?_,
    fun s a f d hawake hreach hin hfull hw hal hsec => ?_⟩, fun o bytes s a ha => ?_,
    fun s a u hawake hreach hsec hu => ⟨fun hl => ?_, fun hl => ?_⟩, fun s a l hawake hreach hsec hl hr hends howed => ?_,
    fun s l hawake hl hst hr howed htime => ?_, fun s l hawake hl hst hr hunit howed htick => ?_⟩
  · have hhit : (match s.tally.load with
        | some l => stagingUnit (f.off.toNat - 0x200000) == some l.unit && l.restore == none
        | none => false) = false := by
      split
      · next l hl =>
        rcases hload l hl with h | h
        · rw [beq_eq_false_iff_ne.mpr h, Bool.false_and]
        · rw [beq_eq_false_iff_ne.mpr h, Bool.and_false]
      · rfl
    have hrun : modelWrite a f d s =
        respond a (.ok 0) (memWrite (f.off.toNat - 0x200000) (bytesOf (f.width / 8) d) s) := by
      rw [modelWrite_secure d hfull hw hal hsec, hhit]
      rfl
    obtain ⟨hstored, hother⟩ := memByte_written (o := f.off.toNat - 0x200000) (n := f.width / 8) d s
    refine ⟨_, (act_runs hawake (by rw [hreach, hin]; rfl)).trans (congrArg _ hrun), responseOf_respond _ _ _,
      ((memWrite_only _ _ s).mono rfl).via (respond_only _ _ _) rfl, fun i hi hs => ?_, fun b hb => ?_⟩
    · rw [(respond_only _ _ _).memByte_eq rfl, hstored i hi hs]
    · rw [(respond_only _ _ _).memByte_eq rfl, hother b hb]
  · have hmem := memWrite_only (f.off.toNat - 0x200000) (bytesOf (f.width / 8) d) s
    have hload : (memWrite (f.off.toNat - 0x200000) (bytesOf (f.width / 8) d) s).tally = s.tally := hmem.keeps .tally rfl
    have hset : installedSet (memWrite (f.off.toNat - 0x200000) (bytesOf (f.width / 8) d) s) l.unit = installedSet s l.unit := by
      unfold installedSet
      rw [hmem.live_eq rfl rfl]
    obtain ⟨u, hu, href⟩ := refuseLoad_refused ((congrArg Tally.load hload).trans hl) hr (by rwa [hset])
      ((congrArg Tally.owed hload).trans howed) 7
    have hrun : modelWrite a f d s = respond a (.ok 0) (loadRefused l.unit 7 u) := by
      rw [modelWrite_secure d hfull hw hal hsec, hl]
      dsimp only
      rw [hunit, hr, ← href]
      simp [when]
    obtain ⟨hstat, hcause⟩ := loadRefused_fields (cause := 7) (by decide) l.unit u
    refine ⟨_, (act_runs hawake (by rw [hreach, hin]; rfl)).trans (congrArg _ hrun), responseOf_respond _ _ _, ?_, ?_, ?_, ?_,
      fun i hi hs => ?_⟩
    · exact congrArg Tally.load (((respond_only _ _ _).keeps .tally rfl).trans (loadRefused_tally l.unit 7 u))
    · rw [live_respond, hstat]
    · rw [live_respond, hcause]
    · exact ((loadRefused_raised (by decide) _ u).before (respond_only _ _ _) rfl).after ((hmem.mono rfl : Only [.mem, .rings] _ _).via hu rfl) rfl rfl
    · rw [(respond_only _ _ _).memByte_eq rfl, (loadRefused_only _ _ _).memByte_eq rfl, (modTally_only _ _).memByte_eq rfl,
        hu.memByte_eq rfl]
      exact (memByte_written d s).1 i hi hs
  · exact (act_runs hawake (by rw [hreach, hin]; rfl)).trans (congrArg _ (modelWrite_nonsecure d hfull hw hal hsec))
  · show memByte (memWrite o bytes s) a = memByte s a
    rw [memByte_memWrite]
    exact if_neg fun h => by omega
  · refine ⟨_, secureCmd_ok hawake hreach hsec _, ?_⟩
    rw [talLoad_install, startInstall_begins hu hl, live_respond]
    have hstat := (loadStat_fields (st := 1) (cause := 0) (by decide) (by decide)
      (modTally (fun t => { t with load := some ⟨u.toNat, 1, now s, [], none⟩ }) s)).1
    refine ⟨congrArg Tally.load ((respond_only _ _ _).keeps .tally rfl), ?_, ?_⟩
    · unfold installBegun
      rw [live_setField_same, field_put_other _ _ (by decide) (by decide) (by decide)]
      exact hstat
    · unfold installBegun
      rw [live_setField_same]
      exact field_put_fit _ (by decide) (by decide) (by omega)
  · refine ⟨_, secureCmd_ok hawake hreach hsec _, ?_⟩
    rw [talLoad_install, startInstall_refused hu hl]
    exact ⟨((respond_only _ _ _).keeps .tally rfl).trans ((refuse_only _ s).keeps .tally rfl), field_refuse_respond _ _ _ s⟩
  · obtain ⟨u, hu, href⟩ := refuseLoad_refused hl hr hends howed 9
    obtain ⟨hstat, hcause⟩ := loadRefused_fields (cause := 9) (by decide) l.unit u
    refine ⟨_, secureCmd_ok hawake hreach hsec _, ?_⟩
    rw [talLoad_abort, href, live_respond]
    refine ⟨congrArg Tally.load (((respond_only _ _ _).keeps .tally rfl).trans (loadRefused_tally l.unit 9 u)), ?_, hstat, hcause⟩
    have hquiet : Only [.rings, .tally, .live] s (loadRefused l.unit 9 u) :=
      ((hu.mono rfl).via (modTally_only _ _) rfl).via (loadStat_only _ _ _) rfl
    exact ((respond_only _ _ _).keeps .flt rfl).trans (hquiet.keeps .flt rfl)
  · have hruns : exec .tallyInstallCheckDone s = .next (checkDone l s) := by
      show execTallyInstallCheckDone s = _
      unfold execTallyInstallCheckDone
      rw [hl]
      exact act_runs hawake (by simp [hst, htime])
    refine ⟨_, hruns, (checkDone_only l s).keeps .mem rfl, ?_⟩
    have hlt := imageCause_lt (memBytes s (stagingBase l.unit) (unitLen l.unit)) l.unit
    have heq : checkDone l s = if imageCause (memBytes s (stagingBase l.unit) (unitLen l.unit)) l.unit != 0
        then refuseLoad (imageCause (memBytes s (stagingBase l.unit) (unitLen l.unit)) l.unit) s
      else if l.unit = 8 then loadStat 3 0 (modTally (fun t => { t with load := some { l with stage := 3 } }) s)
      else forEach (upto (quads s)) (askShifts l.unit (stagingBase l.unit))
        (loadStat 2 0 (modTally (fun t => { t with load := some { l with stage := 2, quads := upto (quads s) } }) s)) := rfl
    rw [heq]
    generalize imageCause (memBytes s (stagingBase l.unit) (unitLen l.unit)) l.unit = cause at hlt ⊢
    refine ⟨fun hc => ?_, fun hc h8 => ?_, fun hc h8 => ?_⟩
    · rw [if_pos (bne_iff_ne.mpr hc)]
      obtain ⟨u, hu, href⟩ := refuseLoad_refused hl hr (.inr (.inl hst)) howed cause
      obtain ⟨hstat, hcause⟩ := loadRefused_fields (cause := cause) (by omega) l.unit u
      rw [href]
      exact ⟨congrArg Tally.load (loadRefused_tally l.unit cause u), (loadRefused_raised (by omega) _ u).after hu rfl rfl, hstat, hcause⟩
    · rw [if_neg (by simp [hc]), if_pos h8]
      have ho := loadStat_only 3 0 (modTally (fun t => { t with load := some { l with stage := 3 } }) s)
      exact ⟨congrArg Tally.load (ho.keeps .tally rfl), (ho.keeps .flt rfl).trans ((modTally_only _ s).keeps .flt rfl)⟩
    · rw [if_neg (by simp [hc]), if_neg (by omega)]
      have ho : Only [.live, .rings] (modTally (fun t => { t with load := some { l with stage := 2, quads := upto (quads s) } }) s)
          (forEach (upto (quads s)) (askShifts l.unit (stagingBase l.unit))
            (loadStat 2 0 (modTally (fun t => { t with load := some { l with stage := 2, quads := upto (quads s) } }) s))) :=
        ((loadStat_only _ _ _).mono rfl).forEach _ _ fun q u => (askShifts_only _ _ q u).mono rfl
      exact ⟨congrArg Tally.load (ho.keeps .tally rfl), (ho.keeps .flt rfl).trans ((modTally_only _ s).keeps .flt rfl)⟩
  · have hruns : exec .tallyInstallActivate s = .next (activate l s) := by
      show execTallyInstallActivate s = _
      unfold execTallyInstallActivate
      rw [hl]
      exact act_runs hawake (by simp [hst, hr, htick])
    have htally := installEnded_tally l s
    refine ⟨_, hruns, ?_⟩
    rw [activate_eq, nextInstall_none ((congrArg Tally.owed htally).trans howed)]
    refine ⟨congrArg Tally.load htally, fun i hi => ?_, fun b hb => ?_, ?_⟩
    · rw [memByte_installEnded, if_pos ⟨by omega, by omega⟩, Nat.add_sub_cancel_left, getD_memBytes hi]
    · rw [memByte_installEnded, if_neg (by omega)]
    · exact ((modTally_only _ _).live_eq rfl rfl _).trans (live_activated l s)

end Sys2Proof.Machine
end

section
/-! SUPPORT. A domain's trip and a discard of work in flight keep what was raised. -/

namespace Sys2Proof.Machine

theorem KeepsRaised.ite {c : Prop} [Decidable c] {s t u : State} (h : KeepsRaised s t) (k : KeepsRaised s u) :
    KeepsRaised s (if c then t else u) := by
  split
  · exact h
  · exact k

theorem KeepsRaised.forEach {f : Nat → State → State} (h : ∀ n s, KeepsRaised s (f n s)) (l : List Nat) (s : State) :
    KeepsRaised s (forEach l f s) := KeepsRaised.foldl (fun s n => h n s) l s

/-! ### A discard (R494) -/

theorem refuseDone_keepsRaised (u cause : Nat) (s : State) : KeepsRaised s (refuseDone u cause s) := by
  have hstat : Only [.tally, .live] s (loadStat 5 cause (modTally (fun t => { t with load := none }) s)) :=
    ((modTally_only _ s).mono rfl).via (loadStat_only _ _ _) rfl
  exact ((hstat.keepsRaised rfl).trans (KeepsRaised.when (fun v => raiseOn_keepsRaised _ _ _ _ v) _ _)).trans
    ((nextInstall_only _).keepsRaised rfl)

theorem refuseLoad_keepsRaised (cause : Nat) (s : State) : KeepsRaised s (refuseLoad cause s) := by
  have hrings : Only [.rings] s (ringWithdraw 3 (ownerReset 3 s)) := (ownerReset_only 3 s).via (ringWithdraw_only _ _) rfl
  unfold refuseLoad
  split
  · exact .refl s
  · refine .ite (.refl s) (.ite (.ite ?_ ((hrings.keepsRaised rfl).trans (refuseDone_keepsRaised _ _ _))) (refuseDone_keepsRaised _ _ _))
    exact .trans ((hrings.keepsRaised rfl).trans ((modTally_only _ _).keepsRaised rfl))
      (KeepsRaised.forEach (fun q u => (askShifts_only _ _ q u).keepsRaised rfl) _ _)

theorem tellOwner_keepsRaised (q : Nat) (l : Lock) (s : State) : KeepsRaised s (tellOwner q l s) := by
  unfold tellOwner
  refine .ite ?_ (.refl s)
  unfold shiftBroken
  split
  · exact .refl s
  · refine .ite (refuseLoad_keepsRaised _ _) (KeepsRaised.when (fun u => ?_) _ _)
    exact ((ringWithdrawIn_only _ _ _).keepsRaised rfl).trans ((askShifts_only _ _ _ _).keepsRaised rfl)

theorem breakLock_keepsRaised (q : Nat) (s : State) : KeepsRaised s (breakLock q s) := by
  unfold breakLock
  split
  · exact .refl s
  · exact (((modRing_only _ _ _).keepsRaised rfl).trans (raiseOn_keepsRaised _ _ _ _ _)).trans (tellOwner_keepsRaised _ _ _)

theorem rotationDropped_keepsRaised (g n : Nat) (s : State) : KeepsRaised s (rotationDropped g n s) := by
  unfold rotationDropped
  split
  · exact .ite (.trans (KeepsRaised.when (fun u => (modCell_only _ _ u).keepsRaised rfl) _ _) (incomingLost_keepsRaised _ _ _)) (.refl s)
  · exact .refl s

theorem withdrawn_keepsRaised (s : State) (t : Txn) : KeepsRaised s (withdrawn s t) := by
  have hretrim : ∀ n u, KeepsRaised u (withdrawn.abandonRetrimOf n u) := fun n u => by
    unfold withdrawn.abandonRetrimOf
    split
    · exact .ite ((abandonRetrim_only _ _).keepsRaised rfl) (.refl _)
    · exact .refl _
  unfold withdrawn
  split
  · exact .ite (.refl s) (incomingLost_keepsRaised _ _ _)
  · exact rotationDropped_keepsRaised _ _ _
  · exact .trans ((modCell_only _ _ _).keepsRaised rfl) (hretrim _ _)
  · exact (State.setDbg_only _ _).keepsRaised rfl
  · exact .refl s

theorem ringDiscard_keepsRaised (q : Nat) (s : State) : KeepsRaised s (ringDiscard q s) :=
  (((modRing_only q (voidDraw s) s).keepsRaised rfl).trans (breakLock_keepsRaised q _)).trans
    (KeepsRaised.foldl (fun u t => withdrawn_keepsRaised u t) _ _)

theorem discardInstall_keepsRaised (l : Option Load) (s : State) : KeepsRaised s (discardInstall l s) := by
  have hmod : KeepsRaised s (modTally (fun t => { t with load := l }) s) := (modTally_only _ s).keepsRaised rfl
  unfold discardInstall
  split
  · exact hmod
  · exact .ite (hmod.trans (KeepsRaised.foldl (fun u q => (askShifts_only _ _ q u).keepsRaised rfl) _ _))
      (hmod.trans (refuseLoad_keepsRaised _ _))

theorem abandonMig_keepsRaised (s : State) : KeepsRaised s (abandonMig s) := by
  have hleave : ∀ k i u, KeepsRaised u (leaveUnit k i (setRole k i 2 0 u)) := fun k i u =>
    ((setRole_only _ _ _ _ u).keepsRaised rfl).trans ((leaveUnit_only _ _ _).keepsRaised rfl)
  unfold abandonMig
  exact .ite (.trans (.trans (.trans (.trans (.trans (KeepsRaised.when (fun u => (sendMig_only _ u).keepsRaised rfl) _ _)
    ((modSeat_only _ _).keepsRaised rfl)) (KeepsRaised.when (fun u => hleave _ _ u) _ _)) ((syncUnit_only _ _ _).keepsRaised rfl))
    ((ownerReset_only _ _).keepsRaised rfl)) (raiseOn_keepsRaised _ _ _ _ _)) (.refl s)

theorem discardMig_keepsRaised (s : State) : KeepsRaised s (discardMig s) := by
  have hmod : ∀ f, KeepsRaised s (modMig f s) := fun f => (modSeat_only _ _).keepsRaised rfl
  unfold discardMig
  dsimp only
  split
  · exact .refl s
  · split
    · exact .ite (.trans (.trans (.trans (.trans (.trans (.trans (.trans ((unflip_only s).keepsRaised rfl)
        ((modPlan_only _ _).keepsRaised rfl)) ((setLive_only _ _ _).keepsRaised rfl)) ((modSeat_only _ _).keepsRaised rfl))
        ((syncBack_only _ _).keepsRaised rfl)) ((ownerReset_only _ _).keepsRaised rfl)) ((abortCount_only _ _ _).keepsRaised rfl))
        (raiseOn_keepsRaised _ _ _ _ _)) (hmod _)
    · exact hmod _
  · exact ((abortCount_only _ _ s).keepsRaised rfl).trans (abandonMig_keepsRaised _)

/-- What a discard does in each quadrant. -/
def discardQuad (q : Nat) (s : State) : State := flushWindow true q (dropUrgent q (ringDiscard q s))

theorem discardQuad_keepsRaised (q : Nat) (s : State) : KeepsRaised s (discardQuad q s) :=
  ((ringDiscard_keepsRaised q s).trans ((dropUrgent_only q _).keepsRaised rfl)).trans ((flushWindow_only true q _).keepsRaised rfl)

theorem discard_keepsRaised (s : State) : KeepsRaised s (discard s) := by
  have hset : KeepsRaised s (s.setFlt { s.flt with discAt := some (now s) }) := fun _ h => h
  have hmark : KeepsRaised s (dropStart (bump (fltO Reg.FLT_DISCARDS) (s.setFlt { s.flt with discAt := some (now s) }))) :=
    (hset.trans ((bump_only _ _).keepsRaised rfl)).trans ((dropStart_only _).keepsRaised rfl)
  unfold discard
  exact .ite (.refl s) (.trans (.trans (.trans (.trans (.trans (.trans hmark (((discardWrites_only _).keepsRaised rfl).trans
    ((modTally_only _ _).keepsRaised rfl))) (KeepsRaised.forEach discardQuad_keepsRaised _ _)) (discardInstall_keepsRaised _ _))
    (discardMig_keepsRaised _)) ((blanketDiscard_only _).keepsRaised rfl)) ((calDiscard_only _).keepsRaised rfl))

/-! ### A trip (R291, R201) -/

theorem cellsOff_keepsRaised (g : Nat) (s : State) : KeepsRaised s (cellsOff g s) := by
  have hrot : KeepsRaised s (rotationEnded g s) :=
    KeepsRaised.when (fun u => (raise_keepsRaised _ _ u).trans ((ownerResetIn_only _ _ _).keepsRaised rfl)) _ _
  have hdrop : KeepsRaised s (cellsDropped g s) :=
    hrot.trans (KeepsRaised.foldl (fun u n => .ite ((setCell_only _ _ u).keepsRaised rfl) (.refl u)) _ _)
  rw [cellsOff_eq]
  exact ((hdrop.trans ((modClu_only _ _ _).keepsRaised rfl)).trans (judgeBeyond_keepsRaised _ _)).trans
    ((schussCheck_only _ _).keepsRaised rfl)

theorem switchOffDone_keepsRaised (sc : Nat) (s : State) : KeepsRaised s (switchOffDone sc s) := by
  rw [switchOffDone_eq]
  exact .trans (.trans (.trans (KeepsRaised.forEach cellsOff_keepsRaised _ _) ((setLive_only _ _ _).keepsRaised rfl))
    ((engineOff_only _ _).keepsRaised rfl)) ((sectorIdle_only _ _).keepsRaised rfl)

/-- The requests and reservations of a sector that its domain's trip takes. -/
def sectorEmptied (sc : Nat) (s : State) : State :=
  modSec sc (fun x => { x with
    reqs := x.reqs.map (fun r => { r with first := none, rate := 0 }) ++ x.granted.map (fun g => ⟨g.1, now s, none, 0⟩),
    granted := [], retained := [], wants := x.wants ++ x.retained.filter (fun u => !x.reqs.any (fun r => r.unit == u)) })
    (setInr (sc / 16) { inrush s (sc / 16) with resv := (inrush s (sc / 16)).resv.filter (fun r => r.sector != sc) } s)

theorem sectorDiscard_eq (sc : Nat) (s : State) : sectorDiscard sc s = voidStore sc (switchOffDone sc (sectorEmptied sc s)) := rfl

theorem sectorEmptied_only (sc : Nat) (s : State) : Only [.inrush, .secs] s (sectorEmptied sc s) :=
  ((setInr_only _ _ s).mono rfl).via (modSec_only _ _ _) rfl

theorem sectorDiscard_keepsRaised (sc : Nat) (s : State) : KeepsRaised s (sectorDiscard sc s) := by
  rw [sectorDiscard_eq]
  exact (((sectorEmptied_only sc s).keepsRaised rfl).trans (switchOffDone_keepsRaised sc _)).trans ((voidStore_only _ _).keepsRaised rfl)

/-- The stage of a domain that trips. -/
def stageTripped (d : Nat) (s : State) : State :=
  modStage d (fun x => { x with state := .tripped, startDue := none, downAt := now s, comp := none, latched := none, uvFrom := none,
                                uvSaid := false, rail := none, gapRun := 0, ovRun := 0, pgRun := 0, lagRun := 0 }) (railIdle d s)

/-- Its compensator's period ends with it. -/
def compEnded (d : Nat) (s : State) : State :=
  setEng clsComp d { eng (stageTripped d s) clsComp d with start := none, done := none } (stageTripped d s)

/-- What the trip of a domain does beyond its stage and its sectors. -/
def tripTail (d : Nat) (ran : Bool) (s : State) : State :=
  stopCheck (when (d == 0) (fun s => forEach (upto (quads s)) (flushWindow true) s) (when ran (leaveRun d) s))

theorem tripDomain_eq {d : Nat} {s : State} (h : (stage s d).state ≠ .tripped) : tripDomain d s =
    tripTail d ((stage s d).state == .run) (forEach (domSectors (compEnded d s) d) sectorDiscard (compEnded d s)) := if_neg h

theorem tripDomain_tripped {d : Nat} {s : State} (h : (stage s d).state = .tripped) : tripDomain d s = s := if_pos h

theorem tripTail_only (d : Nat) (ran : Bool) (s : State) : Only [.live, .secs, .trail, .blk, .lnk, .boot] s (tripTail d ran s) :=
  (((Only.refl _ s).when _ _ fun u => (leaveRun_only d u).mono rfl).when _ _ fun u =>
    (Only.refl _ u).forEach _ _ fun q v => (flushWindow_only true q v).mono rfl).via (stopCheck_only _) rfl

theorem stageTripped_only (d : Nat) (s : State) : Only [.stages] s (stageTripped d s) := (railIdle_only d s).via (modStage_only _ _ _) rfl

theorem compEnded_only (d : Nat) (s : State) : Only [.stages, .eng] s (compEnded d s) :=
  ((stageTripped_only d s).mono rfl).via (setEng_only _ _ _ _) rfl

theorem tripDomain_keepsRaised (d : Nat) (s : State) : KeepsRaised s (tripDomain d s) := by
  by_cases h : (stage s d).state = .tripped
  · rw [tripDomain_tripped h]
    exact .refl s
  · rw [tripDomain_eq h]
    exact (((compEnded_only d s).keepsRaised rfl).trans (KeepsRaised.forEach sectorDiscard_keepsRaised _ _)).trans
      ((tripTail_only _ _ _).keepsRaised rfl)

/-! ### The stage of a trip -/

theorem tripDomain_stages (d : Nat) (s : State) : (stage (tripDomain d s) d).state = .tripped ∧
    ∀ e, e ≠ d → stage (tripDomain d s) e = stage s e := by
  by_cases h : (stage s d).state = .tripped
  · rw [tripDomain_tripped h]
    exact ⟨h, fun _ _ => rfl⟩
  · have hlate : Only [.eng, .live, .cells, .clus, .secs, .inrush, .trail, .flt, .rings, .seat, .blk, .lnk, .boot] (stageTripped d s)
        (tripDomain d s) := by
      rw [tripDomain_eq h]
      exact (((setEng_only _ _ _ (stageTripped d s)).mono rfl).forEach _ _ fun sc u => (sectorDiscard_only sc u).mono rfl).via
        (tripTail_only _ _ _) rfl
    refine ⟨?_, fun e he => ?_⟩
    · rw [hlate.stage_eq rfl]
      unfold stageTripped
      rw [stage_modStage_same]
    · rw [hlate.stage_eq rfl]
      unfold stageTripped railIdle
      rw [stage_modStage_other he, stage_modStage_other he]

theorem protTrip_stages (src bit d : Nat) (s : State) : (stage (protTrip src bit d s) d).state = .tripped ∧
    ∀ e, e ≠ d → stage (protTrip src bit d s) e = stage s e := by
  obtain ⟨hd, hother⟩ := tripDomain_stages d (raiseOn src d (stgPage d) bit s)
  unfold protTrip
  exact ⟨by rw [(discard_only _).stage_eq rfl]; exact hd, fun e he => by
    rw [(discard_only _).stage_eq rfl, hother e he, (raiseOn_only _ _ _ _ _).stage_eq rfl]⟩

theorem protTrip_among (src bit d : Nat) (s : State) : RaisedAmong src d s (protTrip src bit d s) :=
  (raiseOn_raised src d (stgPage d) bit s).among.kept ((tripDomain_keepsRaised d _).trans (discard_keepsRaised _))

theorem protTrip_keepsRaised (src bit d : Nat) (s : State) : KeepsRaised s (protTrip src bit d s) :=
  ((raiseOn_keepsRaised _ _ _ _ s).trans (tripDomain_keepsRaised d _)).trans (discard_keepsRaised _)

end Sys2Proof.Machine
end

section
/-! SUPPORT. The protective trips of a domain, and what they take with them. -/

namespace Sys2Proof.Machine

/-! ### Sectors that are down (R201, R161) -/

/-- A sector whose profile is idle with no point, whose switch-on is off and whose engine is off or dark. -/
def Down (x : Sector) : Prop := x.prof = .idle ∧ x.sw = .off ∧ x.sp = 0 ∧ (x.mode = .off ∨ x.mode = .dark)

/-- What `Down` speaks of. -/
def downView (x : Sector) : ProfState × SwState × Nat × EngMode := (x.prof, x.sw, x.sp, x.mode)

theorem Down.of_view {x y : Sector} (h : Down x) (hv : downView y = downView x) : Down y := by
  obtain ⟨hprof, hsw, hsp, hmode⟩ : y.prof = x.prof ∧ y.sw = x.sw ∧ y.sp = x.sp ∧ y.mode = x.mode := by simpa [downView] using hv
  unfold Down
  rw [hprof, hsw, hsp, hmode]
  exact h

/-- A change that leaves every sector that is down so. -/
def KeepsDown (s t : State) : Prop := ∀ m, Down (sec s m) → Down (sec t m)

theorem KeepsDown.refl (s : State) : KeepsDown s s := fun _ h => h

theorem KeepsDown.trans {s t u : State} (h : KeepsDown s t) (k : KeepsDown t u) : KeepsDown s u := fun m hm => k m (h m hm)

theorem KeepsDown.of_view {s t : State} (h : ∀ m, downView (sec t m) = downView (sec s m)) : KeepsDown s t := fun m hm => hm.of_view (h m)

theorem Only.keepsDown {l : List Part} {s t : State} (h : Only l s t) (hs : l.contains .secs = false) : KeepsDown s t := fun m hm => by
  rwa [h.sec_eq hs]

theorem KeepsDown.ite {c : Prop} [Decidable c] {s t u : State} (h : KeepsDown s t) (k : KeepsDown s u) :
    KeepsDown s (if c then t else u) := by
  split
  · exact h
  · exact k

theorem KeepsDown.when {f : State → State} (h : ∀ s, KeepsDown s (f s)) (b : Bool) (s : State) : KeepsDown s (when b f s) := by
  cases b with
  | false => exact .refl s
  | true => exact h s

theorem KeepsDown.foldl {α : Type} {f : State → α → State} (h : ∀ s x, KeepsDown s (f s x)) (l : List α) (s : State) :
    KeepsDown s (l.foldl f s) := by
  induction l generalizing s with
  | nil => exact .refl s
  | cons x l ih => exact (h s x).trans (ih _)

theorem KeepsDown.forEach {f : Nat → State → State} (h : ∀ n s, KeepsDown s (f n s)) (l : List Nat) (s : State) :
    KeepsDown s (forEach l f s) := KeepsDown.foldl (fun s n => h n s) l s

/-- A change of one sector that leaves it down where it was. -/
theorem modSec_keepsDown {f : Sector → Sector} {sc : Nat} {s : State} (h : Down (sec s sc) → Down (f (sec s sc))) :
    KeepsDown s (modSec sc f s) := fun m hm => by
  by_cases hsc : m = sc
  · subst hsc
    rw [sec_modSec_same]
    exact h hm
  · rwa [sec_modSec_other hsc]

theorem setSec_keepsDown {x : Sector} {sc : Nat} {s : State} (h : Down (sec s sc) → Down x) : KeepsDown s (setSec sc x s) := fun m hm => by
  by_cases hsc : m = sc
  · subst hsc
    rw [sec_setSec_same]
    exact h hm
  · rwa [sec_setSec_other hsc]

theorem flushSlot_keepsDown (keep : Bool) (q i : Nat) (s : State) : KeepsDown s (flushSlot keep q i s) :=
  .of_view (sec_flushSlot_proj downView (fun _ _ _ => rfl) keep q i s)

theorem flushWindow_keepsDown (keep : Bool) (q : Nat) (s : State) : KeepsDown s (flushWindow keep q s) :=
  KeepsDown.foldl (fun u (x : Nat × Slot) => flushSlot_keepsDown keep q x.1 u) _ s

theorem engineOff_keepsDown (sc : Nat) (s : State) : KeepsDown s (engineOff sc s) := by
  have hflush : KeepsDown s (flushSector sc s) := KeepsDown.foldl (fun u (x : Nat × Slot) => flushSlot_keepsDown false _ x.1 u) _ s
  have hdrop : ∀ u, KeepsDown u (dropPeriod sc (storeInteg sc u)) := fun u =>
    .trans (.trans (modSec_keepsDown fun h => h.of_view rfl) (modSec_keepsDown fun h => h.of_view rfl))
      ((setEng_only _ _ _ _).keepsDown rfl)
  unfold engineOff
  refine .ite (.refl s) (.trans (.trans (hflush.trans (hdrop _)) (modSec_keepsDown fun h => ?_))
    (KeepsDown.forEach (fun g u => (modClu_only _ _ u).keepsDown rfl) _ _))
  exact ⟨h.1, h.2.1, h.2.2.1, .inl rfl⟩

theorem sectorIdle_keepsDown (sc : Nat) (s : State) : KeepsDown s (sectorIdle sc s) := by
  unfold sectorIdle
  refine modSec_keepsDown fun h => ?_
  unfold Down
  dsimp only
  exact ⟨rfl, rfl, rfl, h.2.2.2⟩

theorem voidStore_keepsDown (sc : Nat) (s : State) : KeepsDown s (voidStore sc s) := by
  unfold voidStore
  exact modSec_keepsDown fun h => h.of_view (by rfl)

theorem sectorEmptied_keepsDown (sc : Nat) (s : State) : KeepsDown s (sectorEmptied sc s) := by
  unfold sectorEmptied
  exact .trans ((setInr_only _ _ _).keepsDown rfl) (modSec_keepsDown fun h => h.of_view (by rfl))

theorem switchOffDone_keepsDown (sc : Nat) (s : State) : KeepsDown s (switchOffDone sc s) := by
  rw [switchOffDone_eq]
  have hcells : KeepsDown s (cellsAllOff sc s) :=
    .trans (KeepsDown.forEach (fun g u => (cellsOff_only g u).keepsDown rfl) _ _) ((setLive_only _ _ _).keepsDown rfl)
  exact (hcells.trans (engineOff_keepsDown sc _)).trans (sectorIdle_keepsDown sc _)

theorem sectorDiscard_keepsDown (sc : Nat) (s : State) : KeepsDown s (sectorDiscard sc s) := by
  rw [sectorDiscard_eq]
  exact ((sectorEmptied_keepsDown sc s).trans (switchOffDone_keepsDown sc _)).trans (voidStore_keepsDown sc _)

/-- A sector discarded is down. -/
theorem sectorDiscard_down (sc : Nat) (s : State) : Down (sec (sectorDiscard sc s) sc) := by
  obtain ⟨hprof, hsw, hsp, _, _, _, hmode⟩ := sec_switchOffDone sc (sectorEmptied sc s)
  rw [sectorDiscard_eq]
  exact voidStore_keepsDown sc _ sc ⟨hprof, hsw, hsp, hmode⟩

theorem forEach_discard_down {l : List Nat} {sc : Nat} (h : sc ∈ l) (s : State) : Down (sec (forEach l sectorDiscard s) sc) := by
  induction l generalizing s with
  | nil => exact absurd h (by simp)
  | cons k l ih =>
    rw [forEach_cons]
    rcases List.mem_cons.mp h with rfl | hl
    · exact KeepsDown.forEach sectorDiscard_keepsDown l _ _ (sectorDiscard_down sc s)
    · exact ih hl _

/-! ### What a domain's leaving RUN does to sectors that are down -/

theorem beginRetention_down {sc : Nat} {s : State} (h : Down (sec s sc)) : beginRetention sc s = s := by
  obtain ⟨_, _, _, hmode⟩ := h
  refine if_neg ?_
  rcases hmode with hm | hm <;> simp [hm]

theorem beginRetention_other {sc m : Nat} (hm : m ≠ sc) (s : State) :
    downView (sec (beginRetention sc s) m) = downView (sec s m) := by
  have hretain : ∀ u, downView (sec (engineRetain sc u) m) = downView (sec u m) := fun u => by
    unfold engineRetain
    dsimp only
    split
    · rw [sec_modSec_other hm]
      unfold storeInteg
      rw [sec_modSec_other hm]
      exact sec_flushSector_proj downView (fun _ _ _ => rfl) sc u m
    · rfl
  have hbase : ∀ t u, sec (baseCmd sc t u) m = sec u m := fun t u => sec_modSec_other hm _ u
  unfold beginRetention when
  dsimp only
  split
  · split
    · rw [hbase, hretain, sec_setSec_other hm]
    · rw [hretain, sec_setSec_other hm]
  · rfl

theorem gatesOrOn_down {x : Sector} (h : Down x) : Down (gatesOrOn x) := by
  obtain ⟨hprof, hsw, hsp, hmode⟩ := h
  exact ⟨hprof, by simp [gatesOrOn, hsw], hsp, hmode⟩

theorem beginSwitchOff_keepsDown (sc : Nat) (s : State) : KeepsDown s (beginSwitchOff sc s) := by
  unfold beginSwitchOff
  exact .ite (setSec_keepsDown fun h => ⟨rfl, h.2.1, h.2.2.1, h.2.2.2⟩) (setSec_keepsDown fun h => h.of_view rfl)

theorem beginRetention_keepsDown (sc : Nat) (s : State) : KeepsDown s (beginRetention sc s) := fun m hm => by
  by_cases hsc : m = sc
  · subst hsc
    rwa [beginRetention_down hm]
  · exact hm.of_view (beginRetention_other hsc s)

theorem releaseUnit_keepsDown (sc unit : Nat) (s : State) : KeepsDown s (releaseUnit sc unit s) := by
  have hset : KeepsDown s (setSec sc (gatesOrOn { sec s sc with
      granted := (sec s sc).granted.filter (fun g => g.1 != unit), retained := (sec s sc).retained.filter (· != unit)
      wants := (sec s sc).wants.filter (· != unit), reqs := (sec s sc).reqs.filter (fun r => r.unit != unit) }) s) :=
    setSec_keepsDown fun h => gatesOrOn_down (h.of_view rfl)
  unfold releaseUnit
  exact .ite hset (.ite (hset.trans (beginSwitchOff_keepsDown sc _)) (hset.trans (beginRetention_keepsDown sc _)))

theorem setGroup_off_keepsDown (g : Nat) (s : State) : KeepsDown s (setGroup g 0 s) := by
  unfold setGroup
  split
  · exact .refl s
  · exact .trans ((State.setLnk_only _ _).keepsDown rfl) (releaseUnit_keepsDown _ _ _)

theorem leaveRun_keepsDown (d : Nat) (s : State) : KeepsDown s (leaveRun d s) := by
  have hlink : KeepsDown s (linkLeave s) :=
    .trans (KeepsDown.foldl (fun u g => setGroup_off_keepsDown g u) _ _) ((State.setLnk_only _ _).keepsDown rfl)
  unfold leaveRun
  exact .ite ((blanketLeave_only s).keepsDown rfl) (.ite hlink (.refl s))

theorem tripTail_keepsDown (d : Nat) (ran : Bool) (s : State) : KeepsDown s (tripTail d ran s) :=
  ((KeepsDown.when (fun u => leaveRun_keepsDown d u) ran s).trans (KeepsDown.when (fun u =>
    KeepsDown.forEach (fun q v => flushWindow_keepsDown true q v) _ u) _ _)).trans ((stopCheck_only _).keepsDown rfl)

/-! ### Clusters and cells of the sectors discarded -/

theorem cell_sectorDiscard (sc : Nat) (s : State) (n : Nat) :
    cell (sectorDiscard sc s) n = cell (switchOffDone sc (sectorEmptied sc s)) n := (voidStore_only _ _).cell_eq rfl n

theorem forEach_discard_off {l : List Nat} {n : Nat} (s : State)
    (h : n / 64 ∈ l ∧ detects (cell s n) = true ∨ (cell s n).state = .off) : (cell (forEach l sectorDiscard s) n).state = .off := by
  induction l generalizing s with
  | nil => exact h.resolve_left (by simp)
  | cons k l ih =>
    rw [forEach_cons]
    refine ih _ ?_
    have hcell : cell (sectorEmptied k s) n = cell s n := (sectorEmptied_only k s).cell_eq rfl n
    rw [cell_sectorDiscard]
    by_cases hk : n / 64 = k
    · exact .inr (cell_switchOffDone_off hk (by rw [hcell]; exact h.imp And.right id))
    · rw [cell_switchOffDone_other hk, hcell]
      exact h.imp (fun hm => ⟨(List.mem_cons.mp hm.1).resolve_left hk, hm.2⟩) id

theorem forEach_discard_disabled {l : List Nat} {g : Nat} (s : State) (h : g / 4 ∈ l ∨ (clu s g).enabled = false) :
    (clu (forEach l sectorDiscard s) g).enabled = false := by
  induction l generalizing s with
  | nil => exact h.resolve_left (by simp)
  | cons k l ih =>
    rw [forEach_cons]
    refine ih _ ?_
    have hclu : clu (sectorEmptied k s) g = clu s g := (sectorEmptied_only k s).clu_eq rfl g
    have hdone : clu (sectorDiscard k s) g = clu (switchOffDone k (sectorEmptied k s)) g := (voidStore_only _ _).clu_eq rfl g
    rw [hdone]
    clear hdone ih
    by_cases hk : g / 4 = k
    · exact .inr (enabled_switchOffDone (.inl hk))
    · exact h.imp (fun hm => (List.mem_cons.mp hm).resolve_left hk) fun hf => enabled_switchOffDone (.inr (by rw [hclu]; exact hf))

/-! ### The compensator's period -/

theorem sectorDiscard_eng_idle {cls i : Nat} (sc : Nat) {s : State} (h : (eng s cls i).start = none) :
    (eng (sectorDiscard sc s) cls i).start = none := by
  have hdrop : ∀ u, (eng u cls i).start = none → (eng (dropPeriod sc u) cls i).start = none := fun u hu => by
    unfold dropPeriod
    by_cases hk : engKey cls i = engKey clsSector sc
    · unfold eng setEng
      rw [hk]
      exact congrArg EngRun.start (Store.get_set_same _ _ _ _)
    · unfold eng setEng
      exact (congrArg EngRun.start (Store.get_set_other _ _ _ _ _ _ hk)).trans hu
  have hoff : ∀ u, (eng u cls i).start = none → (eng (engineOff sc u) cls i).start = none := fun u hu => by
    unfold engineOff
    dsimp only
    split
    · exact hu
    · rw [(Only.forEach (l := [.clus]) (Only.refl _ _) _ _ fun _ v => modClu_only _ _ v).eng_eq rfl, (modSec_only _ _ _).eng_eq rfl]
      refine hdrop _ ?_
      rw [(storeInteg_only _ _).eng_eq rfl, (flushSector_only _ _).eng_eq rfl]
      exact hu
  rw [sectorDiscard_eq, (voidStore_only _ _).eng_eq rfl, switchOffDone_eq, (sectorIdle_only _ _).eng_eq rfl]
  refine hoff _ ?_
  unfold cellsAllOff
  rw [(setLive_only _ _ _).eng_eq rfl, (Only.forEach (Only.refl _ _) _ _ fun g u => cellsOff_only g u).eng_eq rfl,
    (sectorEmptied_only _ _).eng_eq rfl]
  exact h

theorem tripDomain_eng {d : Nat} {s : State} (h : (stage s d).state ≠ .tripped) : (eng (tripDomain d s) clsComp d).start = none := by
  have hfold : ∀ (l : List Nat) u, (eng u clsComp d).start = none → (eng (forEach l sectorDiscard u) clsComp d).start = none := by
    intro l
    induction l with
    | nil => exact fun _ hu => hu
    | cons k l ih =>
      intro u hu
      rw [forEach_cons]
      exact ih _ (sectorDiscard_eng_idle k hu)
  rw [tripDomain_eq h, (tripTail_only _ _ _).eng_eq rfl]
  refine hfold _ _ ?_
  unfold compEnded
  rw [eng_setEng_same]

/-- What a trip takes with it. -/
theorem tripDomain_takes {d sc : Nat} {s : State} (h : (stage s d).state ≠ .tripped) (hsc : sc ∈ domSectors s d) :
    Down (sec (tripDomain d s) sc) ∧ (∀ g, g / 4 = sc → (clu (tripDomain d s) g).enabled = false) ∧
      ∀ n, n / 64 = sc → detects (cell s n) = true → (cell (tripDomain d s) n).state = .off := by
  have hsecs : domSectors (compEnded d s) d = domSectors s d := by
    unfold domSectors
    rw [(compEnded_only d s).sectors_eq rfl]
  rw [tripDomain_eq h, hsecs]
  refine ⟨tripTail_keepsDown _ _ _ _ (forEach_discard_down hsc _), fun g hg => ?_, fun n hn hd => ?_⟩
  · rw [(tripTail_only _ _ _).clu_eq rfl]
    exact forEach_discard_disabled _ (.inl (hg ▸ hsc))
  · rw [(tripTail_only _ _ _).cell_eq rfl]
    exact forEach_discard_off _ (.inl ⟨hn ▸ hsc, by rwa [(compEnded_only d s).cell_eq rfl]⟩)

/-! ### The statement -/

theorem stgSwitching_not_tripped {s : State} {d : Nat} (h : stgSwitching s d = true) : (stage s d).state ≠ .tripped := by
  intro ht
  unfold stgSwitching at h
  rw [ht] at h
  exact absurd h (by decide)

/-- Settles O43: each protection trips its domain by the one rule of a trip, or is raised and waits. -/
theorem protectiveTrips : Obligations.ProtectiveTrips := by
  unfold Obligations.ProtectiveTrips
  refine ⟨fun s d hawake hd => ⟨fun hst hrun hlate => ?_, fun hno => ?_, fun hst hss => ?_, fun hup hov => ?_, fun hsw hgap => ?_,
    fun t0 hfrom hst hsaid hlate => ?_, fun hnone => ?_⟩, fun s d hawake hd hup hov => ?_, fun s d sc hst hsc => ?_⟩
  · have hdue : pgDue s d = true := by
      unfold pgDue
      simp [hd, hst, hrun, hlate]
    have hover : timeOver (.pg d) s = protTrip Src.STG_PG_TIMEOUT 4 d s := by
      show pgOver d s = _
      unfold pgOver
      rw [hdue]
      rfl
    rw [hover]
    exact ⟨act_runs hawake hdue, (protTrip_stages _ _ _ _).1, protTrip_among _ _ _ _⟩
  · have hdue : pgDue s d = false := by
      unfold pgDue
      rcases hno with h | h
      · rw [decide_eq_false (p := (stage s d).pgRun < 16) (by omega)]
        simp
      · rw [beq_eq_false_iff_ne.mpr h]
        simp
    show pgOver d s = _
    unfold pgOver
    rw [hdue]
    rfl
  · refine ⟨_, act_runs hawake ?_, (protTrip_stages _ _ _ _).1, (protTrip_among _ _ _ _).after (bumpF_only _ _ _ _) rfl⟩
    rcases hst with h | h <;> simp [h, hd, hss]
  · refine ⟨_, act_runs hawake (by simp [hd, hup, hov]), ?_, ?_, (protTrip_among _ _ _ _).before (modStage_only _ _ _) rfl⟩
    · rw [stage_modStage_same]
      exact (protTrip_stages _ _ _ _).1
    · rw [stage_modStage_same]
  · have hne : (stage (raiseOn Src.STG_SENSE_LOST d (stgPage d) 6 s) d).state ≠ .tripped := by
      rw [(raiseOn_only _ _ _ _ _).stage_eq rfl]
      exact stgSwitching_not_tripped hsw
    refine ⟨_, act_runs hawake (by simp [hd, hsw, hgap]), (protTrip_stages _ _ _ _).1, ?_, (protTrip_stages _ _ _ _).2,
      protTrip_among _ _ _ _⟩
    unfold protTrip
    rw [(discard_only _).eng_eq rfl]
    exact tripDomain_eng hne
  · have hdue : uvDue s d = true := by
      unfold uvDue
      rw [hfrom]
      simp [hd, hst, hsaid, hlate]
    have hover : timeOver (.uv d) s = raiseOn Src.STG_UV d (stgPage d) 1 (modStage d (fun x => { x with uvSaid := true }) s) := by
      show uvOver d s = _
      unfold uvOver
      rw [hdue]
      rfl
    rw [hover, (raiseOn_only _ _ _ _ _).stage_eq rfl, stage_modStage_same]
    exact ⟨act_runs hawake hdue, hst, rfl, (raiseOn_raised _ _ _ _ _).after (modStage_only _ _ s) rfl rfl⟩
  · show uvOver d s = _
    unfold uvOver uvDue
    rw [hnone]
    rfl
  · exact act_runs hawake (by simp [hd, hup, hov])
  · obtain ⟨⟨hprof, hsw, hsp, hmode⟩, hclus, hcells⟩ := tripDomain_takes hst hsc
    exact ⟨hprof, hsw, hsp, hmode, hclus, hcells⟩

end Sys2Proof.Machine
end

section
/-! SUPPORT. START and STOP of a domain; its channels retired and returned. -/

namespace Sys2Proof.Machine

theorem when_true (f : State → State) (s : State) : when true f s = f s := rfl

theorem when_false (f : State → State) (s : State) : when false f s = s := rfl

/-! ### The bits of a stage command -/

theorem stgCommand_start (d : Nat) (s : State) : stgCommand d 1 s = stgStart d s := rfl
theorem stgCommand_stop (d : Nat) (s : State) : stgCommand d 2 s = stgStop d s := rfl

theorem retireWord (ch : BitVec 6) : Word.field (BitVec.ofNat 32 (4 + 256 * ch.toNat)) 13 8 = ch.toNat ∧
    Word.bit (BitVec.ofNat 32 (4 + 256 * ch.toNat)) 0 = false ∧ Word.bit (BitVec.ofNat 32 (4 + 256 * ch.toNat)) 1 = false ∧
    Word.bit (BitVec.ofNat 32 (4 + 256 * ch.toNat)) 2 = true ∧ Word.bit (BitVec.ofNat 32 (4 + 256 * ch.toNat)) 3 = false := by
  revert ch
  decide

theorem returnWord (ch : BitVec 6) : Word.field (BitVec.ofNat 32 (8 + 256 * ch.toNat)) 13 8 = ch.toNat ∧
    Word.bit (BitVec.ofNat 32 (8 + 256 * ch.toNat)) 0 = false ∧ Word.bit (BitVec.ofNat 32 (8 + 256 * ch.toNat)) 1 = false ∧
    Word.bit (BitVec.ofNat 32 (8 + 256 * ch.toNat)) 2 = false ∧ Word.bit (BitVec.ofNat 32 (8 + 256 * ch.toNat)) 3 = true := by
  revert ch
  decide

theorem stgCommand_retire (d : Nat) (ch : BitVec 6) (s : State) :
    stgCommand d (BitVec.ofNat 32 (4 + 256 * ch.toNat)) s = stgRetire d ch.toNat s := by
  obtain ⟨hl, h0, h1, h2, h3⟩ := retireWord ch
  unfold stgCommand
  rw [hl, h0, h1, h2, h3]
  rfl

theorem stgCommand_return (d : Nat) (ch : BitVec 6) (s : State) :
    stgCommand d (BitVec.ofNat 32 (8 + 256 * ch.toNat)) s = stgReturn d ch.toNat s := by
  obtain ⟨hl, h0, h1, h2, h3⟩ := returnWord ch
  unfold stgCommand
  rw [hl, h0, h1, h2, h3]
  rfl

/-! ### START (R264 to R266) -/

/-- A domain enters ARMED. -/
def domainArmed (d : Nat) (s : State) : State :=
  let n := cfgF s (stgO d Reg.STG_CFG) 14 8
  forEach (upto (domCh d)) (fun l => modCh (domBase d + l) (fun c =>
      { c with trips := 0, tripped := false, cycAt := none, highAt := none, imonBad := 0 }))
    (modStage d (fun x => { x with
      state := .armed, armedAt := now s, active := (available s d).take n, spares := (available s d).drop n, pop := populated s d
      rail := none, hist := [], gapRun := 0, ovRun := 0, pgRun := 0, lagRun := 0, uvFrom := none, uvSaid := false, ref := 0
      follow := 0, latched := none, offDue := some (now s), phbase := cfgF s (stgO d Reg.STG_PHBASE) 16 0, duty := 0
      ovLow := false }) s)

/-- The spares run out where fewer channels than the domain takes are available. -/
def sparesJudged (d : Nat) (s : State) : State :=
  when (decide ((available s d).length < cfgF s (stgO d Reg.STG_CFG) 14 8)) (raiseOn Src.STG_SPARE_EXHAUSTED d (stgPage d) 8)
    (domainArmed d s)

theorem startDomain_ignored {d : Nat} {s : State} (h : stgUp s d = true ∨ mayStart s = false) : startDomain d s = s := by
  refine if_pos ?_
  rcases h with h | h <;> simp [h]

theorem startDomain_eq {d : Nat} {s : State} (hup : stgUp s d = false) (hmay : mayStart s = true) : startDomain d s =
    when (decide ((available s d).length < cfgF s (stgO d Reg.STG_CFG) 22 16)) (protTrip Src.STG_TOO_FEW 9 d) (sparesJudged d s) :=
  if_neg (by rw [hup, hmay]; decide)

theorem startDomain_arms {d : Nat} {s : State} (hup : stgUp s d = false) (hmay : mayStart s = true)
    (hn : cfgF s (stgO d Reg.STG_CFG) 14 8 ≤ (available s d).length)
    (hleast : cfgF s (stgO d Reg.STG_CFG) 22 16 ≤ (available s d).length) : startDomain d s = domainArmed d s := by
  rw [startDomain_eq hup hmay]
  unfold sparesJudged
  rw [decide_eq_false (by omega), decide_eq_false (by omega)]
  rfl

theorem domainArmed_only (d : Nat) (s : State) : Only [.stages, .chans] s (domainArmed d s) :=
  ((modStage_only _ _ s).mono rfl).forEach _ _ fun _ u => (modCh_only _ _ u).mono rfl

theorem stage_domainArmed (d : Nat) (s : State) : (stage (domainArmed d s) d).state = .armed ∧
    (stage (domainArmed d s) d).armedAt = now s ∧ (stage (domainArmed d s) d).startDue = (stage s d).startDue ∧
    (stage (domainArmed d s) d).active = (available s d).take (cfgF s (stgO d Reg.STG_CFG) 14 8) ∧
    (stage (domainArmed d s) d).spares = (available s d).drop (cfgF s (stgO d Reg.STG_CFG) 14 8) ∧
    (stage (domainArmed d s) d).pop = populated s d ∧ ∀ e, e ≠ d → stage (domainArmed d s) e = stage s e := by
  unfold domainArmed
  simp only [(Only.forEach (l := [.chans]) (Only.refl _ _) _ _ fun _ u => modCh_only _ _ u).stage_eq rfl, stage_modStage_same]
  exact ⟨trivial, trivial, trivial, trivial, trivial, trivial, fun e he => stage_modStage_other he _ s⟩

theorem stgStart_normal {d : Nat} {s : State} (h : (recov s d).state = .normal) : stgStart d s = startDomain d s := if_pos h

/-- A host clear of a domain that is not normal (R492). -/
def hostCleared (d : Nat) (s : State) : State :=
  modStage d (fun x => { x with startDue := some (now s + 1) })
    (modRecov d (fun r => { r with state := .normal, history := [], ref := false }) s)

theorem stgStart_clears {d : Nat} {s : State} (h : (recov s d).state ≠ .normal) (ht : thmShutdown s = false) :
    stgStart d s = hostCleared d s := by
  unfold stgStart hostClear
  rw [if_neg h, if_neg (by rw [ht]; decide), if_neg h]
  rfl

theorem hostCleared_only (d : Nat) (s : State) : Only [.recov, .stages] s (hostCleared d s) :=
  ((modRecov_only _ _ s).mono rfl).via (modStage_only _ _ _) rfl

/-! ### A START that the next tick issues (R492) -/

/-- A START that is due for one domain. -/
def clearedStart (d : Nat) (s : State) : State :=
  match (stage s d).startDue with
  | some t => when (decide (t ≤ now s)) (fun s =>
      when ((recov s d).state == .normal) (startDomain d) (modStage d (fun x => { x with startDue := none }) s)) s
  | none => s

theorem clearedStarts_eq (s : State) : clearedStarts s = clearedStart 3 (clearedStart 2 (clearedStart 1 (clearedStart 0 s))) := rfl

theorem clearedStart_none {d : Nat} {s : State} (h : (stage s d).startDue = none) : clearedStart d s = s := by
  unfold clearedStart
  rw [h]

/-- With a START due for one domain alone, that one is issued. -/
theorem clearedStarts_one {d : Nat} {s : State} (hd : d < 4) (hothers : ∀ e, e ≠ d → (stage s e).startDue = none)
    (hdone : (stage (clearedStart d s) d).startDue = none) (hrest : ∀ e, e ≠ d → stage (clearedStart d s) e = stage s e) :
    clearedStarts s = clearedStart d s := by
  have hafter : ∀ e, (stage (clearedStart d s) e).startDue = none := fun e => by
    by_cases he : e = d
    · rw [he, hdone]
    · rw [hrest e he, hothers e he]
  have hquiet : ∀ e, clearedStart e (clearedStart d s) = clearedStart d s := fun e => clearedStart_none (hafter e)
  have hbefore : ∀ e, e ≠ d → clearedStart e s = s := fun e he => clearedStart_none (hothers e he)
  rw [clearedStarts_eq]
  obtain rfl | rfl | rfl | rfl : d = 0 ∨ d = 1 ∨ d = 2 ∨ d = 3 := by omega
  · rw [hquiet, hquiet, hquiet]
  · rw [hbefore 0 (by decide), hquiet, hquiet]
  · rw [hbefore 0 (by decide), hbefore 1 (by decide), hquiet]
  · rw [hbefore 0 (by decide), hbefore 1 (by decide), hbefore 2 (by decide)]

theorem clearedStart_starts {d t0 : Nat} {s : State} (hdue : (stage s d).startDue = some t0) (ht : t0 ≤ now s)
    (hr : (recov s d).state = .normal) :
    clearedStart d s = startDomain d (modStage d (fun x => { x with startDue := none }) s) := by
  unfold clearedStart
  rw [hdue]
  dsimp only
  rw [decide_eq_true ht]
  show when _ _ (modStage d (fun x => { x with startDue := none }) s) = _
  rw [hr]
  rfl

/-! ### STOP (R266) -/

/-- The stage of a domain that stops. -/
def stageStopped (d : Nat) (s : State) : State :=
  modStage d (fun x => { x with state := .stop, ref := x.chan.pos, refAt := now s, uvFrom := none, uvSaid := false }) (railIdle d s)

theorem stgStop_stops {d : Nat} {s : State} (hrun : (stage s d).state = .run) (hoff : allOff s d = true) :
    stgStop d s = forEach (domSectors s d) voidStore (leaveRun d (stageStopped d s)) := by
  refine if_pos ?_
  rw [hrun, hoff]
  rfl

theorem stgStop_refused {d : Nat} {s : State} (h : (stage s d).state ≠ .run ∨ allOff s d = false) :
    stgStop d s = refuse (stgPage d) s := by
  refine if_neg ?_
  rcases h with h | h <;> simp [h]

/-! ### Channels retired (R287) -/

/-- The channel failed, its words and its count. -/
def channelFailed (d l cause : Nat) (s : State) : State :=
  let s2 := pageFlt (stgPage d) 7 (setLive (stgO d Reg.STG_LASTRET) (BitVec.ofNat 32 (l + 256 * cause))
    (modCh (domBase d + l) (fun c => { c with failed := true, cycAt := none, trips := 0, tripped := false, highAt := none }) s))
  s2.setSparing { s2.sparing with
    chIsol := s2.sparing.chIsol.put (domBase d + l) (Store.get s2.sparing.chIsol 0 (domBase d + l) + 1) }

theorem channelFailed_only (d l cause : Nat) (s : State) : Only [.chans, .live, .sparing] s (channelFailed d l cause s) :=
  ((((modCh_only _ _ s).mono rfl).via (setLive_only _ _ _) rfl).via (pageFlt_only _ _ _) rfl).via (State.setSparing_only _ _) rfl

theorem stgCh_channelFailed (d l cause : Nat) (s : State) : (stgCh (channelFailed d l cause s) (domBase d + l)).failed = true ∧
    (stgCh (channelFailed d l cause s) (domBase d + l)).cycAt = none ∧
    ∀ k, k ≠ domBase d + l → stgCh (channelFailed d l cause s) k = stgCh s k := by
  have h : ∀ u k, stgCh (channelFailed d l cause u) k = stgCh (modCh (domBase d + l) (fun c =>
      { c with failed := true, cycAt := none, trips := 0, tripped := false, highAt := none }) u) k := fun u k =>
    ((((setLive_only _ _ _).mono rfl : Only [.live, .sparing] _ _).via (pageFlt_only _ _ _) rfl).via
      (State.setSparing_only _ _) rfl).stgCh_eq rfl k
  simp only [h, stgCh_modCh_same]
  exact ⟨trivial, trivial, fun k hk => stgCh_modCh_other hk _ s⟩

theorem live_channelFailed (d l cause : Nat) (s : State) :
    live (channelFailed d l cause s) (stgO d Reg.STG_LASTRET) = BitVec.ofNat 32 (l + 256 * cause) := by
  have hne : stgO d Reg.STG_LASTRET ≠ pg (stgPage d) PAGE_FLT := by
    unfold stgO stgPage pg Reg.STG_LASTRET PAGE_FLT
    omega
  refine ((State.setSparing_only _ _).live_eq rfl rfl _).trans ((live_pageFlt_other hne _ _).trans ?_)
  exact live_setLive_same _ _ _

section
variable {d l : Nat} {s : State} (hf : (stgCh s (domBase d + l)).failed = false) (cause : Nat)
include hf

theorem retireChannel_spare (h : l ∉ (stage s d).active) : retireChannel d l cause s =
    modStage d (fun x => { x with spares := x.spares.filter (· != l) }) (channelFailed d l cause s) := by
  unfold retireChannel
  dsimp only
  rw [if_neg (by rw [hf]; decide), if_pos (by simpa using h)]
  rfl

theorem retireChannel_replaced (h : l ∈ (stage s d).active) {sp : Nat} {rest : List Nat} (hs : (stage s d).spares = sp :: rest) :
    retireChannel d l cause s = offsetsDue (now s + 100) d (modStage d (fun x =>
      { x with active := insertNat sp ((stage s d).active.filter (· != l)), spares := rest }) (channelFailed d l cause s)) := by
  unfold retireChannel
  dsimp only
  rw [if_neg (by rw [hf]; decide), if_neg (by simpa using h), hs]
  rfl

theorem retireChannel_exhausted (h : l ∈ (stage s d).active) (hs : (stage s d).spares = []) : retireChannel d l cause s =
    when (stgUp s d && decide (((stage s d).active.filter (· != l)).length < cfgF s (stgO d Reg.STG_CFG) 22 16))
      (protTrip Src.STG_TOO_FEW 9 d) (raiseOn Src.STG_SPARE_EXHAUSTED d (stgPage d) 8
        (offsetsDue (now s + 100) d (modStage d (fun x => { x with active := (stage s d).active.filter (· != l) })
          (channelFailed d l cause s)))) := by
  unfold retireChannel
  dsimp only
  rw [if_neg (by rw [hf]; decide), if_neg (by simpa using h), hs]
  rfl

end

/-- What a trip leaves of its own stage. -/
theorem protTrip_stage_proj {β : Type} (p : Stage → β)
    (hp : ∀ x y : Stage, y.active = x.active → y.spares = x.spares → y.offDue = x.offDue → p y = p x) (src bit d : Nat) (s : State) :
    p (stage (protTrip src bit d s) d) = p (stage s d) := by
  have hraise : stage (raiseOn src d (stgPage d) bit s) d = stage s d := (raiseOn_only _ _ _ _ _).stage_eq rfl d
  rw [← hraise]
  unfold protTrip
  rw [(discard_only _).stage_eq rfl]
  generalize raiseOn src d (stgPage d) bit s = u
  by_cases h : (stage u d).state = .tripped
  · rw [tripDomain_tripped h]
  · have hlate : Only [.eng, .live, .cells, .clus, .secs, .inrush, .trail, .flt, .rings, .seat, .blk, .lnk, .boot] (stageTripped d u)
        (tripDomain d u) := by
      rw [tripDomain_eq h]
      exact (((setEng_only _ _ _ (stageTripped d u)).mono rfl).forEach _ _ fun sc v => (sectorDiscard_only sc v).mono rfl).via
        (tripTail_only _ _ _) rfl
    rw [hlate.stage_eq rfl]
    unfold stageTripped railIdle
    rw [stage_modStage_same, stage_modStage_same]
    exact hp _ _ rfl rfl rfl

/-! ### A channel overloaded (R285) -/

theorem chDom_chLocal (ch : Nat) : domBase (chDom ch) + chLocal ch = ch := by
  have hbase : domBase (chDom ch) ≤ ch := by
    unfold domBase chDom
    split_ifs
    · exact Nat.zero_le _
    · exact Nat.le_of_not_lt ‹_›
    · exact Nat.le_of_not_lt ‹_›
    · exact Nat.le_of_not_lt ‹_›
  unfold chLocal
  omega

theorem overloadDue_of {s : State} {ch t0 : Nat} (hch : ch < 80) (hat : (stgCh s ch).highAt = some t0)
    (hj : judged s (chDom ch) (chLocal ch) = true) (ht : t0 + usTicks (cfgF s (stgO (chDom ch) Reg.STG_SLOW) 27 16) ≤ now s) :
    overloadDue s ch = true := by
  unfold overloadDue
  rw [hat]
  simp [hch, hj, ht]

/-- A channel retired is failed, and in neither the active set nor the spares. -/
theorem retireChannel_gone {d l : Nat} {s : State} (hf : (stgCh s (domBase d + l)).failed = false) (cause : Nat)
    (h : l ∉ (stage s d).active ∨ l ∉ (stage s d).spares) : (stgCh (retireChannel d l cause s) (domBase d + l)).failed = true ∧
      l ∉ (stage (retireChannel d l cause s) d).active ∧ l ∉ (stage (retireChannel d l cause s) d).spares ∧
      KeepsRaised s (retireChannel d l cause s) := by
  obtain ⟨hfailed, _, _⟩ := stgCh_channelFailed d l cause s
  have hcf := channelFailed_only d l cause s
  have hnot : l ∉ (stage s d).active.filter (· != l) := by simp
  by_cases hact : l ∈ (stage s d).active
  · have hsp := h.resolve_left (fun hn => hn hact)
    rcases hspares : (stage s d).spares with _ | ⟨sp, rest⟩
    · have hset : ∀ b u, (stage (when b (protTrip Src.STG_TOO_FEW 9 d) u) d).active = (stage u d).active ∧
          (stage (when b (protTrip Src.STG_TOO_FEW 9 d) u) d).spares = (stage u d).spares := fun b u => by
        cases b
        · exact ⟨rfl, rfl⟩
        · exact ⟨protTrip_stage_proj Stage.active (fun _ _ ha _ _ => ha) _ _ _ u,
            protTrip_stage_proj Stage.spares (fun _ _ _ hs _ => hs) _ _ _ u⟩
      rw [retireChannel_exhausted hf cause hact hspares]
      refine ⟨?_, ?_, ?_, ?_⟩
      · rw [((Only.refl _ _).when _ _ fun u => protTrip_only _ _ _ u).stgCh_eq rfl, (raiseOn_only _ _ _ _ _).stgCh_eq rfl,
          (offsetsDue_only _ _ _).stgCh_eq rfl, (modStage_only _ _ _).stgCh_eq rfl]
        exact hfailed
      · rw [(hset _ _).1, (raiseOn_only _ _ _ _ _).stage_eq rfl]
        unfold offsetsDue
        rw [stage_modStage_same, stage_modStage_same]
        exact hnot
      · rw [(hset _ _).2, (raiseOn_only _ _ _ _ _).stage_eq rfl]
        unfold offsetsDue
        rw [stage_modStage_same, stage_modStage_same, hcf.stage_eq rfl]
        exact hspares ▸ hsp
      · refine .trans (.trans (((hcf.mono rfl : Only [.chans, .live, .sparing, .stages] _ _).via (modStage_only _ _ _) rfl).via
          (offsetsDue_only _ _ _) rfl |>.keepsRaised rfl) (raiseOn_keepsRaised _ _ _ _ _)) (KeepsRaised.when (fun u => protTrip_keepsRaised _ _ _ u) _ _)
    · rw [retireChannel_replaced hf cause hact hspares]
      refine ⟨?_, ?_, ?_, ?_⟩
      · rw [(offsetsDue_only _ _ _).stgCh_eq rfl, (modStage_only _ _ _).stgCh_eq rfl]
        exact hfailed
      · unfold offsetsDue
        rw [stage_modStage_same, stage_modStage_same]
        intro hin
        rcases mem_insertNat.mp hin with hl | hl
        · exact hsp (hspares ▸ hl ▸ List.mem_cons_self)
        · exact hnot hl
      · unfold offsetsDue
        rw [stage_modStage_same, stage_modStage_same]
        exact fun hin => hsp (hspares ▸ List.mem_cons_of_mem _ hin)
      · exact (((hcf.mono rfl : Only [.chans, .live, .sparing, .stages] _ _).via (modStage_only _ _ _) rfl).via
          (offsetsDue_only _ _ _) rfl).keepsRaised rfl
  · rw [retireChannel_spare hf cause hact]
    refine ⟨?_, ?_, ?_, ?_⟩
    · rw [(modStage_only _ _ _).stgCh_eq rfl]
      exact hfailed
    · rw [stage_modStage_same, hcf.stage_eq rfl]
      exact hact
    · rw [stage_modStage_same]
      simp
    · exact ((hcf.mono rfl : Only [.chans, .live, .sparing, .stages] _ _).via (modStage_only _ _ _) rfl).keepsRaised rfl

/-! ### The statement -/

theorem Only.available_eq {l : List Part} {s t : State} (h : Only l s t) (hp : l.contains .params = false)
    (ha : l.contains .active = false) (hc : l.contains .chans = false) (d : Nat) : available t d = available s d := by
  unfold available populated
  simp only [h.cfgB_eq hp ha, h.stgCh_eq hc]

/-- A START that finds too few channels trips its domain. -/
theorem startDomain_tooFew {d : Nat} {s : State} (hup : stgUp s d = false) (hmay : mayStart s = true)
    (hfew : (available s d).length < cfgF s (stgO d Reg.STG_CFG) 22 16) :
    (stage (startDomain d s) d).state = .tripped ∧ RaisedAmong Src.STG_TOO_FEW d s (startDomain d s) := by
  rw [startDomain_eq hup hmay, decide_eq_true hfew]
  refine ⟨(protTrip_stages _ _ _ _).1, ?_⟩
  unfold sparesJudged
  refine RaisedAmong.after (l := [.stages, .chans]) ?_ (domainArmed_only d s) rfl
  cases decide ((available s d).length < cfgF s (stgO d Reg.STG_CFG) 14 8)
  · exact protTrip_among Src.STG_TOO_FEW 9 d (domainArmed d s)
  · exact RaisedAmong.after (protTrip_among _ _ _ _) (raiseOn_only _ _ _ _ _) rfl

/-- The START of R492 in its tick. -/
theorem clearedStarts_arms {s : State} {d t0 : Nat} (hd : d < 4) (hdue : (stage s d).startDue = some t0) (ht : t0 ≤ now s)
    (hr : (recov s d).state = .normal) (hothers : ∀ e, e ≠ d → (stage s e).startDue = none) (hup : stgUp s d = false)
    (hmay : mayStart s = true) (hn : cfgF s (stgO d Reg.STG_CFG) 14 8 ≤ (available s d).length)
    (hleast : cfgF s (stgO d Reg.STG_CFG) 22 16 ≤ (available s d).length) :
    clearedStarts s = domainArmed d (modStage d (fun x => { x with startDue := none }) s) := by
  have honly : Only [.stages] s (modStage d (fun x => { x with startDue := none }) s) := modStage_only _ _ _
  have hstart : clearedStart d s = domainArmed d (modStage d (fun x => { x with startDue := none }) s) := by
    rw [clearedStart_starts hdue ht hr]
    refine startDomain_arms ?_ ?_ ?_ ?_
    · unfold stgUp
      rw [stage_modStage_same]
      exact hup
    · exact hmay
    · rw [honly.available_eq rfl rfl rfl, honly.cfgF_eq rfl rfl]
      exact hn
    · rw [honly.available_eq rfl rfl rfl, honly.cfgF_eq rfl rfl]
      exact hleast
  obtain ⟨_, _, hsd, _, _, _, hrest⟩ := stage_domainArmed d (modStage d (fun x => { x with startDue := none }) s)
  rw [← hstart]
  refine clearedStarts_one hd hothers ?_ fun e he => ?_
  · rw [hstart, hsd, stage_modStage_same]
  · rw [hstart, hrest e he, stage_modStage_other he]

theorem stgStop_stage {d : Nat} {s : State} (hrun : (stage s d).state = .run) (hoff : allOff s d = true) :
    (stage (stgStop d s) d).state = .stop ∧ (stage (stgStop d s) d).ref = (stage s d).chan.pos ∧
      (stage (stgStop d s) d).refAt = now s ∧ ∀ e, e ≠ d → stage (stgStop d s) e = stage s e := by
  have hstage : ∀ e, stage (stgStop d s) e = stage (stageStopped d s) e := fun e => by
    rw [stgStop_stops hrun hoff]
    exact ((leaveRun_only d _).forEach _ _ fun sc u => (voidStore_only sc u).mono rfl).stage_eq rfl e
  simp only [hstage]
  unfold stageStopped railIdle
  rw [stage_modStage_same, stage_modStage_same]
  exact ⟨rfl, rfl, rfl, fun e he => by rw [stage_modStage_other he, stage_modStage_other he]⟩

theorem stgRetire_channel {d l : Nat} {s : State} (hl : l < domCh d) : stgRetire d l s = retireChannel d l 4 s := by
  unfold stgRetire
  rw [decide_eq_true hl]
  rfl

/-- With no spare left the channel leaves the set, the lack is raised, and an up domain with too few channels trips. -/
theorem retireChannel_exhausts {d l : Nat} {s : State} (hf : (stgCh s (domBase d + l)).failed = false) (cause : Nat)
    (h : l ∈ (stage s d).active) (hs : (stage s d).spares = []) :
    (stage (retireChannel d l cause s) d).active = (stage s d).active.filter (· != l) ∧
      (stage (retireChannel d l cause s) d).offDue = some (now s + 100) ∧
      RaisedAmong Src.STG_SPARE_EXHAUSTED d s (retireChannel d l cause s) ∧
      (stgUp s d = true → ((stage s d).active.filter (· != l)).length < cfgF s (stgO d Reg.STG_CFG) 22 16 →
        (stage (retireChannel d l cause s) d).state = .tripped ∧ RaisedAmong Src.STG_TOO_FEW d s (retireChannel d l cause s)) := by
  have hpre : Only [.chans, .live, .sparing, .stages] s (offsetsDue (now s + 100) d
      (modStage d (fun x => { x with active := (stage s d).active.filter (· != l) }) (channelFailed d l cause s))) :=
    (((channelFailed_only d l cause s).mono rfl).via (modStage_only _ _ _) rfl).via (offsetsDue_only _ _ _) rfl
  rw [retireChannel_exhausted hf cause h hs]
  have hset : ∀ b u, (stage (when b (protTrip Src.STG_TOO_FEW 9 d) u) d).active = (stage u d).active ∧
      (stage (when b (protTrip Src.STG_TOO_FEW 9 d) u) d).offDue = (stage u d).offDue := fun b u => by
    cases b
    · exact ⟨rfl, rfl⟩
    · exact ⟨protTrip_stage_proj Stage.active (fun _ _ ha _ _ => ha) _ _ _ u,
        protTrip_stage_proj Stage.offDue (fun _ _ _ _ ho => ho) _ _ _ u⟩
  refine ⟨?_, ?_, ?_, fun hup hfew => ⟨?_, ?_⟩⟩
  · rw [(hset _ _).1, (raiseOn_only _ _ _ _ _).stage_eq rfl]
    unfold offsetsDue
    rw [stage_modStage_same, stage_modStage_same]
  · rw [(hset _ _).2, (raiseOn_only _ _ _ _ _).stage_eq rfl]
    unfold offsetsDue
    rw [stage_modStage_same]
  · exact (RaisedAmong.after (raiseOn_raised _ _ _ _ _).among hpre rfl).kept
      (KeepsRaised.when (fun u => protTrip_keepsRaised _ _ _ u) _ _)
  · rw [hup, decide_eq_true hfew]
    exact (protTrip_stages _ _ _ _).1
  · rw [hup, decide_eq_true hfew]
    exact RaisedAmong.after (RaisedAmong.after (protTrip_among _ _ _ _) (raiseOn_only _ _ _ _ _) rfl) hpre rfl

theorem retireChannel_replaces {d l : Nat} {s : State} (hf : (stgCh s (domBase d + l)).failed = false) (cause : Nat)
    (h : l ∈ (stage s d).active) {sp : Nat} {rest : List Nat} (hs : (stage s d).spares = sp :: rest) :
    (stage (retireChannel d l cause s) d).active = insertNat sp ((stage s d).active.filter (· != l)) ∧
      (stage (retireChannel d l cause s) d).spares = rest ∧ (stage (retireChannel d l cause s) d).offDue = some (now s + 100) ∧
      live (retireChannel d l cause s) (stgO d Reg.STG_LASTRET) = BitVec.ofNat 32 (l + 256 * cause) ∧
      (∀ k, k ≠ domBase d + l → stgCh (retireChannel d l cause s) k = stgCh s k) ∧ (retireChannel d l cause s).flt = s.flt := by
  have hpost : ∀ u : State, Only [.stages] u (offsetsDue (now s + 100) d (modStage d (fun x =>
      { x with active := insertNat sp ((stage s d).active.filter (· != l)), spares := rest }) u)) := fun u =>
    (modStage_only _ _ u).via (offsetsDue_only _ _ _) rfl
  rw [retireChannel_replaced hf cause h hs]
  refine ⟨?_, ?_, ?_, ?_, fun k hk => ?_, ?_⟩
  · unfold offsetsDue
    rw [stage_modStage_same, stage_modStage_same]
  · unfold offsetsDue
    rw [stage_modStage_same, stage_modStage_same]
  · unfold offsetsDue
    rw [stage_modStage_same]
  · rw [(hpost _).live_eq rfl rfl]
    exact live_channelFailed _ _ _ _
  · rw [(hpost _).stgCh_eq rfl]
    exact (stgCh_channelFailed d l cause s).2.2 k hk
  · rw [(hpost _).keeps .flt rfl]
    exact (channelFailed_only d l cause s).keeps .flt rfl

theorem stgReturn_returns {d l : Nat} {s : State} (hl : l < domCh d) (hf : (stgCh s (domBase d + l)).failed = true) :
    (stgCh (stgReturn d l s) (domBase d + l)).failed = false ∧ (stage (stgReturn d l s) d).active = (stage s d).active ∧
      (stage (stgReturn d l s) d).spares =
        if l ∈ (stage s d).pop then insertNat l (stage s d).spares else (stage s d).spares := by
  have heq : stgReturn d l s = when ((stage s d).pop.contains l) (modStage d (fun x => { x with spares := insertNat l x.spares }))
      (modCh (domBase d + l) (fun c => { c with failed := false, imonBad := 0, highAt := none }) s) :=
    if_pos (by rw [decide_eq_true hl, hf]; rfl)
  have hcu : (stgCh (modCh (domBase d + l) (fun c => { c with failed := false, imonBad := 0, highAt := none }) s)
      (domBase d + l)).failed = false := by rw [stgCh_modCh_same]
  have hsu : stage (modCh (domBase d + l) (fun c => { c with failed := false, imonBad := 0, highAt := none }) s) d = stage s d :=
    (modCh_only _ _ _).stage_eq rfl d
  rw [heq]
  by_cases hp : l ∈ (stage s d).pop
  · rw [show (stage s d).pop.contains l = true by simpa using hp, if_pos hp, when_true]
    refine ⟨?_, ?_, ?_⟩
    · rw [(modStage_only _ _ _).stgCh_eq rfl]
      exact hcu
    · rw [stage_modStage_same, hsu]
    · rw [stage_modStage_same, hsu]
  · rw [show (stage s d).pop.contains l = false by simpa using hp, if_neg hp, when_false]
    exact ⟨hcu, congrArg _ hsu, congrArg _ hsu⟩

/-- Settles O40. -/
theorem stageStartStop : Obligations.StageStartStop := by
  refine ⟨⟨fun s a d hawake hok hsec hr hup hmay hn hleast => ?_, fun s a d hawake hok hsec hr hup hmay hfew => ?_,
    fun s a d hawake hok hsec hr hno => ?_, fun s a d hawake hok hsec hr hthm => ?_, fun s hawake hnone => ?_,
    fun s d t0 hd hdue ht hr hothers hup hmay hn hleast => ?_, fun s a d hawake hok hsec hrun hoff => ?_,
    fun s a d hawake hok hsec hno => ?_⟩, fun s a d ch sp rest hawake hok hsec hl hf hact hs => ?_,
    fun s a d ch hawake hok hsec hl hf hact hs => ?_, fun s a d ch hawake hok hsec hl hf => ?_,
    fun s ch t0 hawake hch hat hj hsets hf ht => ?_, fun s ch t0 hawake hat ht => ?_⟩
  · refine ⟨_, secureCmd_ok hawake hok hsec _, ?_⟩
    rw [stgCommand_start, stgStart_normal hr, startDomain_arms hup hmay hn hleast]
    obtain ⟨hst, hat, _, hact, hsp, hpop, hrest⟩ := stage_domainArmed d s
    have hpost := respond_only a (.ok 0) (domainArmed d s)
    simp only [hpost.stage_eq rfl]
    exact ⟨hst, hat, hact, hsp, hpop, hrest, ((domainArmed_only d s).mono rfl).via hpost rfl⟩
  · refine ⟨_, secureCmd_ok hawake hok hsec _, ?_⟩
    rw [stgCommand_start, stgStart_normal hr]
    have hpost := respond_only a (.ok 0) (startDomain d s)
    obtain ⟨htrip, hraised⟩ := startDomain_tooFew hup hmay hfew
    rw [hpost.stage_eq rfl]
    exact ⟨htrip, hraised.before hpost rfl⟩
  · refine ⟨_, secureCmd_ok hawake hok hsec _, ?_⟩
    rw [stgCommand_start, stgStart_normal hr, startDomain_ignored hno]
    exact respond_only _ _ _
  · refine ⟨_, secureCmd_ok hawake hok hsec _, ?_⟩
    rw [stgCommand_start, stgStart_clears hr hthm]
    have hpost := respond_only a (.ok 0) (hostCleared d s)
    simp only [hpost.stage_eq rfl, hpost.recov_eq rfl]
    refine ⟨?_, ?_, fun e he => ?_, ((hostCleared_only d s).mono rfl).via hpost rfl⟩
    · unfold hostCleared
      rw [(modStage_only _ _ _).recov_eq rfl, recov_modRecov_same]
    · unfold hostCleared
      rw [stage_modStage_same, (modRecov_only _ _ _).stage_eq rfl]
    · unfold hostCleared
      rw [stage_modStage_other he, (modRecov_only _ _ _).stage_eq rfl]
  · have hpow : s.powered = true := by
      unfold awake at hawake
      simp_all
    rw [step_ticks hnone, tickPasses_powered hpow, if_pos hawake]
  · rw [clearedStarts_arms hd hdue ht hr hothers hup hmay hn hleast]
    have honly : Only [.stages] s (modStage d (fun x => { x with startDue := none }) s) := modStage_only _ _ _
    obtain ⟨hst, hat, hsd, hact, _, _, _⟩ := stage_domainArmed d (modStage d (fun x => { x with startDue := none }) s)
    refine ⟨hst, hat, ?_, ?_⟩
    · rw [hsd, stage_modStage_same]
    · rw [hact, honly.available_eq rfl rfl rfl, honly.cfgF_eq rfl rfl]
  · refine ⟨_, secureCmd_ok hawake hok hsec _, ?_⟩
    rw [stgCommand_stop]
    simp only [(respond_only a (.ok 0) (stgStop d s)).stage_eq rfl]
    exact stgStop_stage hrun hoff
  · refine ⟨_, secureCmd_ok hawake hok hsec _, ?_⟩
    rw [stgCommand_stop, stgStop_refused hno]
    exact ⟨((respond_only _ _ _).keeps .stages rfl).trans ((refuse_only _ _).keeps .stages rfl), field_refuse_respond _ _ _ _, ((refuse_only _ _).mono rfl).via (respond_only _ _ _) rfl⟩
  · refine ⟨_, secureCmd_ok hawake hok hsec _, ?_⟩
    rw [stgCommand_retire, stgRetire_channel hl]
    have hpost := respond_only a (.ok 0) (retireChannel d ch.toNat 4 s)
    simp only [hpost.stage_eq rfl, hpost.stgCh_eq rfl, hpost.live_eq rfl rfl]
    obtain ⟨hact', hsp, hoff, hlast, hothers, hflt⟩ := retireChannel_replaces hf 4 hact hs
    refine ⟨?_, hact', hsp, hoff, hlast, hothers, (hpost.keeps .flt rfl).trans hflt⟩
    rw [retireChannel_replaced hf 4 hact hs, (offsetsDue_only _ _ _).stgCh_eq rfl, (modStage_only _ _ _).stgCh_eq rfl]
    exact (stgCh_channelFailed d ch.toNat 4 s).1
  · refine ⟨_, secureCmd_ok hawake hok hsec _, ?_⟩
    rw [stgCommand_retire, stgRetire_channel hl]
    have hpost := respond_only a (.ok 0) (retireChannel d ch.toNat 4 s)
    simp only [hpost.stage_eq rfl, hpost.stgCh_eq rfl]
    obtain ⟨hact', hoff, hraised, htrip⟩ := retireChannel_exhausts hf 4 hact hs
    refine ⟨(retireChannel_gone hf 4 (.inr (by rw [hs]; exact List.not_mem_nil))).1, hact', hoff, hraised.before hpost rfl,
      fun hup hfew => ?_⟩
    obtain ⟨hst, hr⟩ := htrip hup hfew
    exact ⟨hst, hr.before hpost rfl⟩
  · refine ⟨_, secureCmd_ok hawake hok hsec _, ?_⟩
    rw [stgCommand_return]
    have hpost := respond_only a (.ok 0) (stgReturn d ch.toNat s)
    simp only [hpost.stage_eq rfl, hpost.stgCh_eq rfl]
    exact stgReturn_returns hl hf
  · have hdue := overloadDue_of hch hat hj ht
    have heq : timeOver (.overload ch) s = retireChannel (chDom ch) (chLocal ch) 2
        (raise Src.STG_CH_OVERLOAD (domBase (chDom ch) + chLocal ch) s) := by
      show when (overloadDue s ch) _ _ = _
      rw [hdue]
      rfl
    have hraise : Only [.flt] s (raise Src.STG_CH_OVERLOAD (domBase (chDom ch) + chLocal ch) s) :=
      (raise_only _ _ _).mono rfl
    obtain ⟨hfailed, hna, hns, hkept⟩ := retireChannel_gone (d := chDom ch) (l := chLocal ch)
      (s := raise Src.STG_CH_OVERLOAD (domBase (chDom ch) + chLocal ch) s)
      (by rw [hraise.stgCh_eq rfl, chDom_chLocal]; exact hf) 2 (by rw [hraise.stage_eq rfl]; exact hsets)
    refine ⟨act_runs hawake hdue, ?_⟩
    rw [heq]
    refine ⟨?_, hna, hns, ?_⟩
    · exact (congrArg (fun k => (stgCh _ k).failed) (chDom_chLocal ch)).symm.trans hfailed
    · refine RaisedAmong.kept ?_ hkept
      rw [chDom_chLocal]
      exact (raise_raised _ _ _).among
  · have hdue : overloadDue s ch = false := by
      unfold overloadDue
      rw [hat]
      have hnot : ¬ t0 + usTicks (cfgF s (stgO (chDom ch) Reg.STG_SLOW) 27 16) ≤ now s := by omega
      simp [hnot]
    show when (overloadDue s ch) _ _ = _
    rw [hdue]
    rfl

end Sys2Proof.Machine
end

section
/-! SUPPORT. Soft start, the compensator and the rail channel. -/

namespace Sys2Proof.Machine

theorem stage_modStage_proj {β : Type} (p : Stage → β) {d : Nat} {f : Stage → Stage} {s : State}
    (hf : p (f (stage s d)) = p (stage s d)) (e : Nat) : p (stage (modStage d f s) e) = p (stage s e) := by
  by_cases h : e = d
  · rw [h, stage_modStage_same, hf]
  · rw [stage_modStage_other h]

/-! ### Entry to SOFT (R268) -/

/-- The stage of a domain that enters SOFT, without its words. -/
def stageSoft (follow d : Nat) (s : State) : State :=
  modStage d (fun x => { x with
    state := .soft, softAt := now s, ref := (Nat.min (vss s d) ((stage s d).rail.getD 0) : Nat) * q32, refAt := now s
    follow := follow, trkErr := trackMode s d != 0 && !masterOk s d,
    integ := 0, y1 := 0, y2 := 0, ePrev := 0, duty := 0, hi := false, lo := false, fast := false, latched := none,
    pgRun := 0, lagRun := 0, gapRun := 0 }) s

theorem enterSoft_eq (follow d : Nat) (s : State) : enterSoft follow d s =
    when (trackMode s d != 0 && !masterOk s d) (raise Src.STG_TRK_ERR d)
      (setLive (stgO d Reg.STG_DUTY) 0 (bumpF (stgO d Reg.STG_SSCOUNT) 15 0 (stageSoft follow d s))) := rfl

theorem stage_enterSoft (follow d e : Nat) (s : State) : stage (enterSoft follow d s) e = stage (stageSoft follow d s) e := by
  rw [enterSoft_eq]
  exact ((((bumpF_only _ _ _ (stageSoft follow d s)).mono rfl : Only [.live, .flt] _ _).via (setLive_only _ _ _) rfl).when _ _
    fun u => (raise_only _ _ u).mono rfl).stage_eq rfl e

theorem exec_stgSoftEntry {s : State} {d f : Nat} (hawake : awake s = true) (hd : d < 4) (hf : softEntry s d = some f)
    (hready : softReady s d = true) (ht : atTick s compP 0 = true) : exec (.stgSoftEntry d) s = .next (enterSoft f d s) := by
  show execStgSoftEntry d s = _
  unfold execStgSoftEntry
  rw [hf]
  exact act_runs hawake (by rw [decide_eq_true hd, hready, ht]; rfl)

/-! ### The start of a compensator's period -/

/-- The reference's step of a period. -/
def refStepped (d : Nat) (s : State) : State :=
  modStage d (fun x => { x with ref := (refStep s d).1, refAt := now s, follow := (refStep s d).2 }) s

/-- The rail sample of a period, or its gap. -/
def railTaken (d : Nat) (s : State) : State :=
  match railSample s d with
  | some c => sampleChecks d c (refCode s d) (result (stgO d Reg.STG_RAIL) c s)
  | none => bump (stgO d Reg.STG_RAILGAPS) (modStage d (fun x => { x with gapRun := x.gapRun + 1 }) s)

/-- What the compensator computes in a period that begins with state `s` and has taken its sample in `t`. -/
def compComputed (d : Nat) (s t : State) : CompRes :=
  match railSample s d with
  | some c => pid t d c (refCode s d)
  | none =>
    { integ := (stage t d).integ, y1 := (stage t d).y1, y2 := (stage t d).y2, e := (stage t d).ePrev, duty := (stage t d).duty
      hi := (stage t d).hi, lo := (stage t d).lo, hold := true }

/-- The computation begins. -/
def compBegun (d : Nat) (s : State) : State :=
  engStart clsComp d (modStage d (fun x =>
    { x with comp := some (compComputed d (refStepped d s) (railTaken d (refStepped d s))), fast := false })
    (railTaken d (refStepped d s)))

theorem compStart_eq (d : Nat) (s : State) : compStart d s = refDone d (compBegun d s) := by
  unfold compStart compBegun compComputed railTaken
  dsimp only [refStepped] <;>
    cases railSample (modStage d (fun x => { x with ref := (refStep s d).1, refAt := now s, follow := (refStep s d).2 }) s) d <;> rfl

theorem railTaken_proj {β : Type} (p : Stage → β) (d : Nat) (s : State)
    (hp : ∀ (x : Stage) (g pr lr : Nat) (uf : Option Nat) (us : Bool),
      p { x with gapRun := g, pgRun := pr, lagRun := lr, uvFrom := uf, uvSaid := us } = p x) :
    p (stage (railTaken d s) d) = p (stage s d) := by
  unfold railTaken
  cases railSample s d with
  | some c =>
    unfold sampleChecks
    refine (stage_modStage_proj p (by exact hp _ _ _ _ _ _) d).trans ?_
    rw [(result_only _ _ _).stage_eq rfl]
  | none =>
    dsimp only
    rw [(bump_only _ _).stage_eq rfl]
    exact stage_modStage_proj p (by exact hp (stage s d) _ (stage s d).pgRun (stage s d).lagRun (stage s d).uvFrom (stage s d).uvSaid) d

theorem railTaken_gap (d : Nat) (s : State) : (stage (railTaken d s) d).gapRun ≤ (stage s d).gapRun + 1 := by
  unfold railTaken
  cases railSample s d with
  | some c =>
    unfold sampleChecks
    rw [stage_modStage_same]
    exact Nat.zero_le _
  | none =>
    dsimp only
    rw [(bump_only _ _).stage_eq rfl, stage_modStage_same]

theorem compBegun_proj {β : Type} (p : Stage → β) (d : Nat) (s : State)
    (hcomp : ∀ (x : Stage) (c : Option CompRes) (f : Bool), p { x with comp := c, fast := f } = p x) :
    p (stage (compBegun d s) d) = p (stage (railTaken d (refStepped d s)) d) := by
  unfold compBegun
  rw [(engStart_only _ _ _).stage_eq rfl]
  exact stage_modStage_proj p (by exact hcomp _ _ _) d

theorem compBegun_only (d : Nat) (s : State) : Only [.eng, .live, .stages] s (compBegun d s) := by
  have htaken : ∀ u : State, Only [.live, .stages] u (railTaken d u) := fun u => by
    unfold railTaken
    cases railSample u d with
    | some c => exact ((result_only _ _ _).mono rfl).via (sampleChecks_only _ _ _ _) rfl
    | none => exact ((modStage_only _ _ _).mono rfl).via (bump_only _ _) rfl
  exact ((((modStage_only _ _ s).mono rfl : Only [.eng, .live, .stages] s (refStepped d s)).via (htaken _) rfl).via
    (modStage_only _ _ _) rfl).via (engStart_only _ _ _) rfl

/-- What the start of a period's computation has of its stage. -/
theorem stage_compBegun (d : Nat) (s : State) : (stage (compBegun d s) d).state = (stage s d).state ∧
    (stage (compBegun d s) d).ref = (refStep s d).1 ∧ (stage (compBegun d s) d).refAt = now s ∧
    (stage (compBegun d s) d).ovRun = (stage s d).ovRun ∧ (stage (compBegun d s) d).gapRun ≤ (stage s d).gapRun + 1 := by
  have hstep : stage (refStepped d s) d =
      { stage s d with ref := (refStep s d).1, refAt := now s, follow := (refStep s d).2 } := stage_modStage_same _ _ _
  refine ⟨?_, ?_, ?_, ?_, ?_⟩
  · rw [compBegun_proj Stage.state d s (fun _ _ _ => by rfl), railTaken_proj Stage.state d _ (fun _ _ _ _ _ _ => by rfl), hstep]
  · rw [compBegun_proj Stage.ref d s (fun _ _ _ => by rfl), railTaken_proj Stage.ref d _ (fun _ _ _ _ _ _ => by rfl), hstep]
  · rw [compBegun_proj Stage.refAt d s (fun _ _ _ => by rfl), railTaken_proj Stage.refAt d _ (fun _ _ _ _ _ _ => by rfl), hstep]
  · rw [compBegun_proj Stage.ovRun d s (fun _ _ _ => by rfl), railTaken_proj Stage.ovRun d _ (fun _ _ _ _ _ _ => by rfl), hstep]
  · rw [compBegun_proj Stage.gapRun d s (fun _ _ _ => by rfl)]
    exact (railTaken_gap d _).trans (by rw [hstep])

/-! ### The state changes of a reference's step -/

theorem refDone_confirms {d : Nat} {s : State} (hsoft : (stage s d).state = .soft) (hr : (vss s d * q32 : Int) ≤ (stage s d).ref) :
    refDone d s = modStage d (fun x => { x with state := .confirm, confAt := now s, pgRun := 0, follow := 0 }) s :=
  if_pos (by rw [hsoft, decide_eq_true hr]; rfl)

theorem refDone_off {d : Nat} {s : State} (hstop : (stage s d).state = .stop) (hr : (stage s d).ref ≤ 0)
    (htrip : tripDue s d = false) : refDone d s =
      stopCheck (modStage d (fun x => { x with state := .off, downAt := now s, rail := none, comp := none, latched := none }) s) := by
  unfold refDone
  dsimp only
  rw [if_neg (by simp [hstop]), if_pos (by rw [hstop, decide_eq_true hr, htrip]; rfl)]

theorem refDone_keeps {d : Nat} {s : State} (hsoft : (stage s d).state = .soft → (stage s d).ref < (vss s d * q32 : Int))
    (hstop : (stage s d).state ≠ .stop) : refDone d s = s := by
  unfold refDone
  dsimp only
  rw [if_neg, if_neg]
  · simp [hstop]
  · intro h
    simp only [Bool.and_eq_true, decide_eq_true_eq] at h
    exact absurd (hsoft h.1) (Int.not_lt.mpr h.2)

theorem refDone_proj {β : Type} (p : Stage → β) (d : Nat) (s : State)
    (hp : ∀ x y : Stage, y.ref = x.ref → y.refAt = x.refAt → p y = p x) : p (stage (refDone d s) d) = p (stage s d) := by
  unfold refDone
  dsimp only
  split
  · exact stage_modStage_proj p (by exact hp _ _ (by rfl) (by rfl)) d
  · split
    · rw [(stopCheck_only _).stage_eq rfl]
      exact stage_modStage_proj p (by exact hp _ _ (by rfl) (by rfl)) d
    · rfl

theorem tripDue_stop {s : State} {d : Nat} (hstop : (stage s d).state = .stop) (hov : (stage s d).ovRun < 3)
    (hgap : (stage s d).gapRun < cfgF s (stgO d Reg.STG_BCFG) 31 24) : tripDue s d = false := by
  unfold tripDue
  dsimp only
  rw [decide_eq_false (by omega), decide_eq_false (by omega), hstop]
  rfl

theorem Only.vss_eq {l : List Part} {s t : State} (h : Only l s t) (hp : l.contains .params = false)
    (ha : l.contains .active = false) (d : Nat) : vss t d = vss s d := by
  unfold vss
  simp only [h.cfg_eq hp ha, h.cfgB_eq hp ha]

theorem stgUp_of_switching {s : State} {d : Nat} (h : stgSwitching s d = true) :
    stgUp s d = true ∧ (stage s d).state ≠ .armed := by
  unfold stgSwitching at h
  unfold stgUp
  revert h
  cases (stage s d).state <;> decide

theorem exec_compensatorStart {s : State} {d : Nat} (hawake : awake s = true) (hd : d < 4) (hsw : stgSwitching s d = true)
    (ht : atTick s compP 0 = true) : exec (.compensatorStart d) s = .next (refDone d (compBegun d s)) := by
  obtain ⟨hup, hna⟩ := stgUp_of_switching hsw
  show execCompensatorStart d s = _
  unfold execCompensatorStart
  rw [if_neg hna, compStart_eq]
  exact act_runs hawake (by rw [decide_eq_true hd, ht, hup]; rfl)

/-- The reference in SOFT never leaves the target behind it. -/
theorem ownStep_le {s : State} {d : Nat} (hsoft : (stage s d).state = .soft) (hr : (stage s d).ref ≤ (vss s d * q32 : Int)) :
    ownStep s d ≤ (vss s d * q32 : Int) := by
  unfold ownStep
  dsimp only
  by_cases hat : (stage s d).refAt = now s
  · rwa [if_pos hat]
  · rw [if_neg hat, if_pos hsoft]
    split
    · exact le_of_eq (Nat.cast_mul _ _)
    · rename_i h
      exact (Int.not_lt.mp h).trans_eq (Nat.cast_mul _ _)

/-! ### Entry to RUN (R271) -/

def stageRun (d : Nat) (s : State) : State :=
  modStage d (fun x => { x with
    state := .run, chan := { chan0 with pos := (vss s d : Int) * q32, tgt := vss s d, adm := vss s d }
    before := (vss s d : Int) * q32, stepAt := 0, prof := .done,
    cmd := none, target := vss s d, uvFrom := none, uvSaid := false, de := false, deRun := 0 }) s

theorem stage_enterRun (d e : Nat) (s : State) : stage (enterRun d s) e = stage (stageRun d s) e := by
  have heq : enterRun d s = bootUp (forEach (domSectors s d) trySwitchOn (askUnits d (stageRun d s))) := rfl
  rw [heq, (bootUp_only _).stage_eq rfl]
  exact ((askUnits_only d (stageRun d s)).forEach _ _ fun sc u => (trySwitchOn_only sc u).mono rfl).stage_eq rfl e

/-- Settles O41. -/
theorem softStartCommands : Obligations.SoftStartCommands := by
  refine ⟨fun s d f hawake hd hf hready ht => ?_, fun s d hawake hd hsw ht => ?_, fun s d hsoft hr => ownStep_le hsoft hr,
    fun s d hawake hd hconf hpg htrip => ?_, fun s d hawake htrip => ?_⟩
  · refine ⟨_, exec_stgSoftEntry hawake hd hf hready ht, ?_⟩
    simp only [stage_enterSoft]
    unfold stageSoft
    rw [stage_modStage_same]
    refine ⟨rfl, rfl, rfl, rfl, fun e he => stage_modStage_other he _ s, fun htm => ?_⟩
    rw [enterSoft_eq, htm]
    exact ((((modStage_only _ _ s).mono rfl : Only [.stages, .live] _ _).via (bumpF_only _ _ _ _) rfl).via
      (setLive_only _ _ _) rfl).keeps .flt rfl
  · have hbegun := compBegun_only d s
    obtain ⟨hst, href, hat, hov, hgap⟩ := stage_compBegun d s
    have hvss := hbegun.vss_eq rfl rfl d
    refine ⟨_, exec_compensatorStart hawake hd hsw ht, ?_, ?_, ?_, ?_, fun hsoft hr => ?_, fun hsoft hr => ?_,
      fun hstop hr ho hg => ?_, fun hrun => ?_⟩
    · rw [(refDone_only _ _).eng_eq rfl]
      refine (congrArg EngRun.start (eng_engStart _ _ _)).trans (congrArg some ?_)
      exact hbegun.now_eq rfl
    · rw [(refDone_only _ _).eng_eq rfl]
      exact congrArg EngRun.done (eng_engStart _ _ _)
    · rw [refDone_proj Stage.ref d _ (fun _ _ h _ => h), href]
    · rw [refDone_proj Stage.refAt d _ (fun _ _ _ h => h), hat]
    · rw [refDone_confirms (hst.trans hsoft) (by rw [hvss, href]; exact hr), stage_modStage_same]
      exact ⟨rfl, hbegun.now_eq rfl⟩
    · rw [refDone_keeps (fun _ => by rw [hvss, href]; exact hr) (by rw [hst, hsoft]; decide), hst, hsoft]
    · have hcfg := hbegun.cfgF_eq rfl rfl (stgO d Reg.STG_BCFG) 31 24
      rw [refDone_off (hst.trans hstop) (href ▸ hr) (tripDue_stop (hst.trans hstop) (hov ▸ ho) (by omega)),
        (stopCheck_only _).stage_eq rfl, stage_modStage_same]
    · rw [refDone_keeps (fun h => by rw [hst, hrun] at h; cases h) (by rw [hst, hrun]; decide), hst, hrun]
  · refine ⟨_, act_runs hawake (by rw [decide_eq_true hd, hconf, decide_eq_true hpg, htrip]; rfl), ?_⟩
    simp only [stage_enterRun]
    unfold stageRun
    rw [stage_modStage_same]
    exact ⟨rfl, rfl, rfl, rfl, rfl, fun e he => stage_modStage_other he _ s⟩
  · exact act_idle (.inr (by rw [htrip]; simp))

end Sys2Proof.Machine
end

section
/-! SUPPORT. The compensator's latch, the domain current and the rail channel. -/

namespace Sys2Proof.Machine

/-! ### The compensator (R272, R273) -/

theorem pid_hold_integ {s : State} {d v : Nat} {r : Int} (h : (pid s d v r).hold = true) :
    (pid s d v r).integ = (stage s d).integ := if_pos h

theorem pid_free_integ {s : State} {d v : Nat} {r : Int} (h : (pid s d v r).hold = false) :
    |(pid s d v r).integ| ≤ (cfgF s (stgO d Reg.STG_ILIM) 15 0 : Int) * 4096 := by
  have heq : (pid s d v r).integ = clamp ((stage s d).integ + signed 16 (cfgF s (stgO d Reg.STG_KI) 15 0) * (r - (v : Int)))
      (-(cfgF s (stgO d Reg.STG_ILIM) 15 0 * 4096)) (cfgF s (stgO d Reg.STG_ILIM) 15 0 * 4096) :=
    if_neg (fun h' => Bool.false_ne_true (h.symm.trans h'))
  rw [heq]
  exact abs_le.mpr (clamp_mem _ (by omega))

theorem pid_duty {s : State} {d : Nat} (v : Nat) (r : Int)
    (h : cfgF s (stgO d Reg.STG_DLIM) 15 0 ≤ cfgF s (stgO d Reg.STG_DLIM) 31 16) :
    cfgF s (stgO d Reg.STG_DLIM) 15 0 ≤ (pid s d v r).duty ∧ (pid s d v r).duty ≤ cfgF s (stgO d Reg.STG_DLIM) 31 16 := by
  have hmem : ∀ x : Int, (cfgF s (stgO d Reg.STG_DLIM) 15 0 : Int) ≤
      clamp x (cfgF s (stgO d Reg.STG_DLIM) 15 0) (cfgF s (stgO d Reg.STG_DLIM) 31 16) ∧
      clamp x (cfgF s (stgO d Reg.STG_DLIM) 15 0) (cfgF s (stgO d Reg.STG_DLIM) 31 16) ≤
        (cfgF s (stgO d Reg.STG_DLIM) 31 16 : Int) := fun x => clamp_mem x (Int.ofNat_le.mpr h)
  obtain ⟨raw, hraw⟩ : ∃ raw : Int, (pid s d v r).duty =
      (clamp raw (cfgF s (stgO d Reg.STG_DLIM) 15 0) (cfgF s (stgO d Reg.STG_DLIM) 31 16)).toNat := ⟨_, rfl⟩
  obtain ⟨hlo, hhi⟩ := hmem raw
  rw [hraw]
  omega

/-- What a latch takes of the period's result. -/
def compLatched (d : Nat) (r : CompRes) (s : State) : State :=
  modStage d (fun x => { x with integ := r.integ, y1 := r.y1, y2 := r.y2, ePrev := r.e, duty := r.duty, hi := r.hi
                                lo := r.lo, comp := none, latched := some (x.latched.getD (now s)) }) s

theorem compCommit_some {d : Nat} {s : State} {r : CompRes} (h : (stage s d).comp = some r) : compCommit d s =
    setLive (stgO d Reg.STG_DUTY) (BitVec.ofNat 32 (r.duty + 0x10000 * b2n (r.hi || r.lo) + 0x20000 * b2n r.hold))
      (compLatched d r s) := by
  unfold compCommit
  rw [h]
  rfl

theorem exec_compensatorLatch {s : State} {d : Nat} (hawake : awake s = true) (hd : d < 4) (hdue : engDue s clsComp d = true) :
    exec (.compensatorLatch d) s =
      .next (latch clsComp d (compCommit d) (modStage d (fun x => { x with comp := none })) s) :=
  act_runs hawake (by rw [decide_eq_true hd, hdue]; rfl)

/-! ### The domain current (R280) -/

/-- The words of the last capping period's imbalance, which a new one shows. -/
def imbalanceShown (d : Nat) (s : State) : State :=
  if s.tb.tick.toNat % capP = 0 then
    let v := match (stage s d).imb with
      | none => 0
      | some (p, c) => satN 8 p.round + 256 * c
    setLive (stgO d Reg.STG_IMBAL) (BitVec.ofNat 32 v) (modStage d (fun x => { x with imb := none }) s)
  else s

/-- The current of the period just ended, in its registers. -/
def currentShown (d b : Nat) (bad : Bool) (best : Option (Frac × Nat)) (s : State) : State :=
  result (stgO d Reg.STG_BCUR) (b + 0x1000000 * b2n bad) (modStage d (fun x => { x with
    bCode := b, bFail := bad, bGood := if bad then x.bGood else b, v0 := x.rail
    imb := match x.imb, best with
      | none, y => y
      | some z, none => some z
      | some (p, c), some (q, e) => if p.lt q then some (q, e) else if q.lt p then some (p, c) else some (p, Nat.min c e) }) s)

/-- An imbalance beyond its limit is raised once a period. -/
def imbalanceSaid (d per : Nat) (beyond : Bool) (s : State) : State :=
  when (beyond && (stage s d).imbSaid != some per)
    (fun s => raiseOn Src.STG_IMBALANCE d (stgPage d) 10 (modStage d (fun x => { x with imbSaid := some per }) s)) s

theorem bUpdate_eq (d : Nat) (s : State) : bUpdate d s =
    deDecide d (formB (imbalanceShown d s) d).1 (formB (imbalanceShown d s) d).2
      (imbalanceSaid d (s.tb.tick.toNat / capP) (imbalance (imbalanceShown d s) d (formB (imbalanceShown d s) d).1).2
        (currentShown d (formB (imbalanceShown d s) d).1 (formB (imbalanceShown d s) d).2
          (imbalance (imbalanceShown d s) d (formB (imbalanceShown d s) d).1).1 (imbalanceShown d s))) := rfl

theorem imbalanceShown_only (d : Nat) (s : State) : Only [.live, .stages] s (imbalanceShown d s) :=
  Only.ite (((modStage_only _ _ s).mono rfl).via (setLive_only _ _ _) rfl) (.refl _ _)

theorem imbalanceShown_proj {β : Type} (p : Stage → β) (d : Nat) (s : State)
    (hp : ∀ (x : Stage) i, p { x with imb := i } = p x) (e : Nat) : p (stage (imbalanceShown d s) e) = p (stage s e) := by
  unfold imbalanceShown
  dsimp only
  split
  · rw [(setLive_only _ _ _).stage_eq rfl]
    exact stage_modStage_proj p (by exact hp _ _) e
  · rfl

/-- The current formed does not depend on the imbalance shown. -/
theorem formB_imbalanceShown (d : Nat) (s : State) : formB (imbalanceShown d s) d = formB s d := by
  have honly := imbalanceShown_only d s
  have hres : activeRes (imbalanceShown d s) d = activeRes s d := by
    unfold activeRes
    rw [imbalanceShown_proj Stage.active d s (fun _ _ => by rfl) d]
    simp only [honly.stgCh_eq rfl]
  unfold formB
  simp only [hres, imbalanceShown_proj Stage.state d s (fun _ _ => by rfl) d,
    imbalanceShown_proj Stage.armedAt d s (fun _ _ => by rfl) d, honly.cfgF_eq rfl rfl, honly.now_eq rfl]

theorem imbalanceSaid_proj {β : Type} (p : Stage → β) (d per : Nat) (b : Bool) (s : State)
    (hp : ∀ (x : Stage) i, p { x with imbSaid := i } = p x) (e : Nat) :
    p (stage (imbalanceSaid d per b s) e) = p (stage s e) := by
  unfold imbalanceSaid
  cases b && (stage s d).imbSaid != some per
  · rfl
  · rw [when_true, (raiseOn_only _ _ _ _ _).stage_eq rfl]
    exact stage_modStage_proj p (by exact hp _ _) e

theorem deDecide_proj {β : Type} (p : Stage → β) (d b : Nat) (bad : Bool) (s : State)
    (hp : ∀ (x : Stage) (e : Bool) (n : Nat), p { x with de := e, deRun := n } = p x) (e : Nat) :
    p (stage (deDecide d b bad s) e) = p (stage s e) := by
  unfold deDecide
  dsimp only
  split_ifs
  · exact stage_modStage_proj p (by exact hp _ _ _) e
  · rfl
  · exact stage_modStage_proj p (by exact hp _ _ _) e
  · exact stage_modStage_proj p (by exact hp _ _ _) e

theorem stage_bUpdate (d : Nat) (s : State) : (stage (bUpdate d s) d).bCode = (formB s d).1 ∧
    (stage (bUpdate d s) d).bFail = (formB s d).2 ∧ ∀ e, e ≠ d → stage (bUpdate d s) e = stage s e := by
  have hshown : ∀ (b : Nat) (bad : Bool) best u, (stage (currentShown d b bad best u) d).bCode = b ∧
      (stage (currentShown d b bad best u) d).bFail = bad ∧ ∀ e, e ≠ d → stage (currentShown d b bad best u) e = stage u e :=
    fun b bad best u => by
      unfold currentShown
      simp only [(result_only _ _ _).stage_eq rfl, stage_modStage_same]
      exact ⟨trivial, trivial, fun e he => stage_modStage_other he _ u⟩
  rw [bUpdate_eq, formB_imbalanceShown]
  obtain ⟨hcode, hfail, hrest⟩ := hshown (formB s d).1 (formB s d).2
    (imbalance (imbalanceShown d s) d (formB s d).1).1 (imbalanceShown d s)
  refine ⟨?_, ?_, fun e he => ?_⟩
  · rw [deDecide_proj Stage.bCode d _ _ _ (fun _ _ _ => by rfl), imbalanceSaid_proj Stage.bCode d _ _ _ (fun _ _ => by rfl), hcode]
  · rw [deDecide_proj Stage.bFail d _ _ _ (fun _ _ _ => by rfl), imbalanceSaid_proj Stage.bFail d _ _ _ (fun _ _ => by rfl), hfail]
  · have hde : ∀ b bad u, stage (deDecide d b bad u) e = stage u e := fun b bad u => by
      unfold deDecide
      dsimp only
      split_ifs
      · exact stage_modStage_other he _ _
      · rfl
      · exact stage_modStage_other he _ _
      · exact stage_modStage_other he _ _
    have hsaid : ∀ per b u, stage (imbalanceSaid d per b u) e = stage u e := fun per b u => by
      unfold imbalanceSaid
      cases b && (stage u d).imbSaid != some per
      · rfl
      · rw [when_true, (raiseOn_only _ _ _ _ _).stage_eq rfl, stage_modStage_other he]
    have himb : stage (imbalanceShown d s) e = stage s e := by
      unfold imbalanceShown
      dsimp only
      split
      · rw [(setLive_only _ _ _).stage_eq rfl, stage_modStage_other he]
      · rfl
    rw [hde, hsaid, hrest e he, himb]

theorem formB_idle {s : State} {d : Nat}
    (h : (stage s d).state = .off ∨ (stage s d).state = .armed ∨ (stage s d).state = .tripped) : formB s d = (0, false) :=
  if_pos (by rcases h with h | h | h <;> simp [h])

/-! ### The rail channel (R175, R292) -/

theorem railTarget_mem {s : State} {d : Nat} (h : cfgB s (stgO d Reg.STG_TRACK) 16 = false) :
    1100 ≤ railTarget s d ∧ railTarget s d ≤ 2400 := by
  obtain ⟨x, hx⟩ : ∃ x, railTarget s d = (clamp x 1100 2400).toNat :=
    ⟨_, if_neg (fun h' => Bool.false_ne_true (h.symm.trans h'))⟩
  obtain ⟨hlo, hhi⟩ := clamp_mem x (show (1100 : Int) ≤ 2400 by decide)
  rw [hx]
  omega

theorem Chan.step_target (l : StepLim) (c : Chan) : (c.step l).tgt = c.tgt ∧ (c.step l).adm = c.adm := by
  unfold Chan.step
  exact ⟨(apply_ite Chan.tgt _ _ _).trans (ite_self _), (apply_ite Chan.adm _ _ _).trans (ite_self _)⟩

/-- A new target taken before the rail channel's step. -/
def railCommand (x : Stage) : Stage :=
  match x.cmd with
  | some t => if t = x.chan.tgt then { x with cmd := none }
    else { x with cmd := none, prev := if x.prof = ProfState.slewing then 6 else 5, prof := .slewing,
                  chan := { x.chan with tgt := t, adm := t, there := false } }
  | none => x

/-- The channel after its step, where it does not rest. -/
def railMoved (lim : StepLim) (c : Chan) : Chan := if c.rests then c else c.step lim

theorem railMoved_target (lim : StepLim) (c : Chan) : (railMoved lim c).tgt = c.tgt ∧ (railMoved lim c).adm = c.adm := by
  unfold railMoved
  split
  · exact ⟨rfl, rfl⟩
  · exact Chan.step_target lim c

theorem railStep_eq (d : Nat) (s : State) : railStep d s = modStage d (fun x =>
    { railCommand x with
      before := (railCommand x).chan.pos, stepAt := now s
      chan := railMoved (stepLim (cfg s (stgO d Reg.STG_RLIMV)) (cfg s (stgO d Reg.STG_RLIMJ)) 2 25) (railCommand x).chan
      prof := if (railMoved (stepLim (cfg s (stgO d Reg.STG_RLIMV)) (cfg s (stgO d Reg.STG_RLIMJ)) 2 25) (railCommand x).chan).rests
        then .done else (railCommand x).prof }) s := rfl

theorem railCommand_pos (x : Stage) : (railCommand x).chan.pos = x.chan.pos ∧ (railCommand x).cmd = none := by
  unfold railCommand
  cases hc : x.cmd with
  | none => exact ⟨rfl, hc⟩
  | some t =>
    dsimp only
    split <;> exact ⟨rfl, rfl⟩

theorem railCommand_takes {x : Stage} {t : Int} (hc : x.cmd = some t) (ht : t ≠ x.chan.tgt) :
    (railCommand x).chan.tgt = t ∧ (railCommand x).chan.adm = t := by
  unfold railCommand
  rw [hc]
  dsimp only
  rw [if_neg ht]
  exact ⟨rfl, rfl⟩

/-- Settles O42. -/
theorem compensatorAndRail : Obligations.CompensatorAndRail := by
  refine ⟨⟨fun s d r hawake hd hdue hdone hcomp => ?_, fun s d hawake hd hdue hdone => ?_, fun s d v r hle => ?_⟩,
    fun s d hawake hd ht => ?_, fun s d hawake hd hrun ht => ?_, fun s d hawake hd hrun ht hstep => ?_⟩
  · have hset : ∀ x : EngRun, Only [.eng] s (setEng clsComp d x s) := fun x => setEng_only _ _ x s
    refine ⟨_, exec_compensatorLatch hawake hd hdue, ?_⟩
    rw [latch_done _ _ hdone, compCommit_some (((hset _).stage_eq rfl d).symm ▸ hcomp :)]
    simp only [(setLive_only _ _ _).stage_eq rfl]
    unfold compLatched
    rw [stage_modStage_same, (hset _).stage_eq rfl]
    refine ⟨rfl, rfl, rfl, rfl, rfl, rfl, ?_, fun e he => ?_, ?_⟩
    · rw [(hset _).now_eq rfl]
    · rw [stage_modStage_other he, (hset _).stage_eq rfl]
    · exact ((((hset _).mono rfl : Only [.eng, .stages, .live] s _).via (modStage_only _ _ _) rfl).via
        (setLive_only _ _ _) rfl).keeps .flt rfl
  · refine ⟨_, exec_compensatorLatch hawake hd hdue, ?_⟩
    rw [latch_overrun _ _ hdone]
    refine ⟨?_, (overrun_among clsComp d s).before (modStage_only _ _ _) rfl⟩
    rw [stage_modStage_same, (overrun_only _ _ _).stage_eq rfl]
  · obtain ⟨hlo, hhi⟩ := pid_duty v r hle
    exact ⟨hlo, hhi, pid_hold_integ, pid_free_integ⟩
  · obtain ⟨hcode, hfail, hrest⟩ := stage_bUpdate d s
    refine ⟨_, act_runs hawake (by rw [decide_eq_true hd, ht]; rfl), hcode, hfail, fun hidle => ?_, hrest⟩
    rw [hcode, hfail, formB_idle hidle]
    exact ⟨rfl, rfl⟩
  · exact ⟨_, act_runs hawake (by rw [decide_eq_true hd, hrun, ht]; rfl), stage_modStage_same _ _ _, railTarget_mem,
      modStage_only _ _ _⟩
  · refine ⟨_, act_runs hawake (by rw [decide_eq_true hd, ht, hrun, bne_iff_ne.mpr hstep]; rfl), ?_⟩
    rw [railStep_eq, stage_modStage_same]
    obtain ⟨hpos, hcmd⟩ := railCommand_pos (stage s d)
    refine ⟨hpos, rfl, hcmd, fun x hx hne => ?_, fun e he => stage_modStage_other he _ s, modStage_only _ _ _⟩
    obtain ⟨htgt, hadm⟩ := railCommand_takes hx hne
    obtain ⟨hmt, hma⟩ := railMoved_target (stepLim (cfg s (stgO d Reg.STG_RLIMV)) (cfg s (stgO d Reg.STG_RLIMJ)) 2 25)
      (railCommand (stage s d)).chan
    exact ⟨hmt.trans htgt, hma.trans hadm⟩

end Sys2Proof.Machine
end

section
/-! SUPPORT. Switching periods, cycles and the levels of the PWM pins. -/

namespace Sys2Proof.Machine

/-! ### The level of a pin (R263, R275, R289) -/

section
variable {s : State} {ch : Nat} (k : Nat)

theorem pwmAt_none (h : (stgCh s ch).cycAt = none) : pwmAt s ch k = .mid := by
  unfold pwmAt
  dsimp only
  rw [h]

/-- The level in thirty-second `t` of a channel whose cycle started at `t0`. -/
def pwmCycle (s : State) (ch t t0 : Nat) : Level :=
  if !(stage s (chDom ch)).active.contains (chLocal ch) then .mid
  else if (stage s (chDom ch)).state = .tripped then
    (if (stage s (chDom ch)).ovLow && decide (t < (stgCh s ch).end32) then .low else .mid)
  else if !stgSwitching s (chDom ch) then .mid
  else if (stgCh s ch).cut then .mid
  else if (stgCh s ch).tripped then .low
  else if t < t0 then (stgCh s ch).was
  else if t < t0 + (stgCh s ch).tOn then .high else .low

theorem pwmAt_some {t0 : Nat} (h : (stgCh s ch).cycAt = some t0) : pwmAt s ch k = pwmCycle s ch (32 * now s + k) t0 := by
  unfold pwmAt
  dsimp only
  rw [h]
  rfl

theorem pwmAt_cases : pwmAt s ch k = .mid ∨ ∃ t0, pwmAt s ch k = pwmCycle s ch (32 * now s + k) t0 := by
  rcases h : (stgCh s ch).cycAt with _ | t0
  · exact .inl (pwmAt_none k h)
  · exact .inr ⟨t0, pwmAt_some k h⟩

/-- A channel of the active set of a domain that switches. -/
theorem pwmAt_cycle {t0 : Nat} (hcyc : (stgCh s ch).cycAt = some t0) (hact : chLocal ch ∈ (stage s (chDom ch)).active)
    (hsw : stgSwitching s (chDom ch) = true) (hcut : (stgCh s ch).cut = false) : pwmAt s ch k =
      if (stgCh s ch).tripped then .low else if 32 * now s + k < t0 then (stgCh s ch).was
        else if 32 * now s + k < t0 + (stgCh s ch).tOn then .high else .low := by
  have hnt : (stage s (chDom ch)).state ≠ .tripped := by
    unfold stgSwitching at hsw
    intro h
    rw [h] at hsw
    cases hsw
  rw [pwmAt_some k hcyc]
  unfold pwmCycle
  rw [if_neg (by simpa using hact), if_neg hnt, if_neg (by rw [hsw]; decide), if_neg (by rw [hcut]; decide)]

theorem pwmAt_cut (hnt : (stage s (chDom ch)).state ≠ .tripped) (hcut : (stgCh s ch).cut = true) : pwmAt s ch k = .mid := by
  rcases pwmAt_cases (s := s) (ch := ch) k with h | ⟨t0, h⟩
  · exact h
  · rw [h]
    unfold pwmCycle
    rw [if_neg hnt, if_pos hcut, ite_self, ite_self]

theorem pwmAt_idle (h : (stage s (chDom ch)).state = .off ∨ (stage s (chDom ch)).state = .armed) : pwmAt s ch k = .mid := by
  have hnt : (stage s (chDom ch)).state ≠ .tripped := by rcases h with h | h <;> rw [h] <;> decide
  have hsw : stgSwitching s (chDom ch) = false := by
    unfold stgSwitching
    rcases h with h | h <;> rw [h] <;> decide
  rcases pwmAt_cases (s := s) (ch := ch) k with h | ⟨t0, h⟩
  · exact h
  · rw [h]
    unfold pwmCycle
    rw [if_neg hnt, hsw]
    exact ite_self _

theorem pwmAt_domain_tripped (h : (stage s (chDom ch)).state = .tripped) : pwmAt s ch k = .mid ∨
    (pwmAt s ch k = .low ∧ (stage s (chDom ch)).ovLow = true ∧ 32 * now s + k < (stgCh s ch).end32) := by
  rcases pwmAt_cases (s := s) (ch := ch) k with hl | ⟨t0, hl⟩
  · exact .inl hl
  · rw [hl]
    unfold pwmCycle
    rw [if_pos h]
    split_ifs with hin hov
    · exact .inl rfl
    · exact .inr ⟨rfl, by simpa using hov⟩
    · exact .inl rfl

/-- A pin at its fast limit is never HIGH. -/
theorem pwmAt_limited (h : (stgCh s ch).tripped = true) : pwmAt s ch k ≠ .high := by
  rcases pwmAt_cases (s := s) (ch := ch) k with hl | ⟨t0, hl⟩
  · rw [hl]
    decide
  · rw [hl]
    unfold pwmCycle
    rw [if_pos h]
    split_ifs <;> decide

theorem cut_of_level {s : State} {ch : Nat} (h : pwmLevel s ch ≠ .mid) (hnt : (stage s (chDom ch)).state ≠ .tripped) :
    (stgCh s ch).cut = false := by
  by_contra hcut
  exact h (pwmAt_cut 0 hnt (by simpa using hcut))

end

theorem stgSwitching_ne_tripped {s : State} {d : Nat} (h : stgSwitching s d = true) : (stage s d).state ≠ .tripped := by
  intro ht
  unfold stgSwitching at h
  rw [ht] at h
  cases h

/-! ### The start of a switching period (R69, R277, R284) -/

/-- What the pulse generator reads. -/
def pulseCfgOf (s : State) (d : Nat) : PulseCfg :=
  { tonMin := cfgF s (stgO d Reg.STG_VIN) 23 16, zcBlank := cfgF s (stgO d Reg.STG_DE) 19 16
    deEn := cfgB s (stgO d Reg.STG_CFG) 24, fastN := cfgF s (stgO d Reg.STG_FAST) 23 16 }

/-- The active channels with four trips in a row. -/
def hotChannels (s : State) (d : Nat) : List Nat :=
  (stage s d).active.filter (fun l => decide (4 ≤ (stgCh s (domBase d + l)).trips))

/-- The active channels of a running domain whose trips reach `FAST_N`. -/
def wornChannels (s : State) (d : Nat) : List Nat :=
  if (stage s d).state = .run then (stage s d).active.filter (fun l =>
    decide ((stage s d).pulse.fastN ≤ (stgCh s (domBase d + l)).trips)) else []

/-- A period in diode emulation counts. -/
def periodCounted (d : Nat) (s : State) : State := when (deNow s d) (bump (stgO d Reg.STG_DECYC)) s

/-- Another frequency is asked for, and the tick is one in which all of them begin a period. -/
def swapDue (s : State) (d : Nat) : Bool :=
  cfgF s (stgO d Reg.STG_CFG) 1 0 != (stage s d).fsw && s.tb.tick.toNat % 2500 == 0

def offsetsNow (s : State) (d : Nat) : Bool :=
  match (stage s d).offDue with
  | some t => decide (t ≤ now s)
  | none => false

/-- The frequency and the offsets that a period's start takes. -/
def offsetsFor (d : Nat) (swap due : Bool) (s : State) : State :=
  let fsw := if swap then cfgF s (stgO d Reg.STG_CFG) 1 0 else (stage s d).fsw
  let ph := cfgF s (stgO d Reg.STG_PHBASE) 16 0
  if swap || due || ph != (stage s d).phbase then
    let s2 := modStage d (fun x => { x with fsw := fsw, phbase := ph, offDue := if due then none else x.offDue }) s
    modStage d (fun x => { x with offs := offsetsOf s2 d fsw }) s2
  else s

def offsetsTaken (d : Nat) (s : State) : State := offsetsFor d (swapDue s d) (offsetsNow s d) s

theorem periodStart_eq (d : Nat) (s : State) : periodStart d s =
    if (stage (pulseRead d s) d).state = .run && !(stage (pulseRead d s) d).active.isEmpty &&
        decide ((stage (pulseRead d s) d).active.length ≤ 2 * (hotChannels (pulseRead d s) d).length) then
      protTrip Src.STG_RAIL_SHORT 5 d (periodCounted d (pulseRead d s))
    else offsetsTaken d ((wornChannels (pulseRead d s) d).foldl (fun s l => faultChannel Src.STG_CH_SHORT d l 1 s)
      (periodCounted d (pulseRead d s))) := rfl

/-- The offsets and the base phase taken. -/
def offsetsSet (d : Nat) (s : State) : State :=
  modStage d (fun x => { x with fsw := (stage s d).fsw, phbase := cfgF s (stgO d Reg.STG_PHBASE) 16 0, offDue := none }) s

theorem offsetsTaken_due {d t0 : Nat} {s : State} (hdue : (stage s d).offDue = some t0) (ht : t0 ≤ now s)
    (hf : cfgF s (stgO d Reg.STG_CFG) 1 0 = (stage s d).fsw) : offsetsTaken d s =
      modStage d (fun x => { x with offs := offsetsOf (offsetsSet d s) d (stage s d).fsw }) (offsetsSet d s) := by
  have hswap : swapDue s d = false := by
    unfold swapDue
    rw [hf, bne_self_eq_false, Bool.false_and]
  have hnow : offsetsNow s d = true := by
    unfold offsetsNow
    rw [hdue]
    exact decide_eq_true ht
  unfold offsetsTaken
  rw [hswap, hnow]
  rfl

theorem offsetsOf_modStage_offs (d fsw : Nat) (o : List (Nat × Nat)) (s : State) :
    offsetsOf (modStage d (fun x => { x with offs := o }) s) d fsw = offsetsOf s d fsw := by
  unfold offsetsOf
  rw [stage_modStage_same]

/-- What a period's start takes where its offsets are due. -/
theorem stage_offsetsTaken {d t0 : Nat} {s : State} (hdue : (stage s d).offDue = some t0) (ht : t0 ≤ now s)
    (hf : cfgF s (stgO d Reg.STG_CFG) 1 0 = (stage s d).fsw) : (stage (offsetsTaken d s) d).offDue = none ∧
      (stage (offsetsTaken d s) d).phbase = cfgF s (stgO d Reg.STG_PHBASE) 16 0 ∧
      (stage (offsetsTaken d s) d).offs = offsetsOf (offsetsTaken d s) d (stage s d).fsw ∧
      (stage (offsetsTaken d s) d).pulse = (stage s d).pulse ∧ (stage (offsetsTaken d s) d).active = (stage s d).active ∧
      Only [.stages] s (offsetsTaken d s) := by
  rw [offsetsTaken_due hdue ht hf, offsetsOf_modStage_offs, stage_modStage_same]
  have hset : stage (offsetsSet d s) d =
      { stage s d with phbase := cfgF s (stgO d Reg.STG_PHBASE) 16 0, offDue := none } := stage_modStage_same _ _ _
  rw [hset]
  exact ⟨rfl, rfl, rfl, rfl, rfl, .via (modStage_only _ _ _) (modStage_only _ _ _) rfl⟩

theorem stage_pulseRead (d : Nat) (s : State) : stage (pulseRead d s) d = { stage s d with pulse := pulseCfgOf s d } :=
  stage_modStage_same _ _ _

theorem periodCounted_only (d : Nat) (s : State) : Only [.live] s (periodCounted d s) :=
  (Only.refl _ _).when _ _ fun u => bump_only _ u

theorem hotChannels_pulseRead (d : Nat) (s : State) : hotChannels (pulseRead d s) d =
    (stage s d).active.filter (fun l => decide (4 ≤ (stgCh s (domBase d + l)).trips)) := by
  unfold hotChannels
  rw [stage_pulseRead]
  simp only [(pulseRead_only d s).stgCh_eq rfl]

/-- Where few channels trip and none reaches `FAST_N`, a period's start takes what is due alone. -/
theorem periodStart_quiet {d : Nat} {s : State} (h : (stage s d).state = .run →
    (∀ l, l ∈ (stage s d).active → (stgCh s (domBase d + l)).trips < cfgF s (stgO d Reg.STG_FAST) 23 16) ∧
    ((stage s d).active = [] ∨
      2 * ((stage s d).active.filter (fun l => decide (4 ≤ (stgCh s (domBase d + l)).trips))).length < (stage s d).active.length)) :
    periodStart d s = offsetsTaken d (periodCounted d (pulseRead d s)) := by
  have hworn : wornChannels (pulseRead d s) d = [] := by
    unfold wornChannels
    rw [stage_pulseRead]
    dsimp only
    by_cases hrun : (stage s d).state = .run
    · rw [if_pos hrun, List.filter_eq_nil_iff]
      intro l hl
      have hlt : (stgCh s (domBase d + l)).trips < (pulseCfgOf s d).fastN := (h hrun).1 l hl
      rw [(pulseRead_only d s).stgCh_eq rfl]
      simpa using hlt
    · exact if_neg hrun
  rw [periodStart_eq, hotChannels_pulseRead, hworn, stage_pulseRead]
  refine if_neg fun hc => ?_
  simp only [Bool.and_eq_true, decide_eq_true_eq, Bool.not_eq_true', List.isEmpty_eq_false_iff] at hc
  obtain ⟨⟨hrun, hne⟩, hle⟩ := hc
  exact ((h hrun).2.resolve_left hne).not_ge hle

theorem periodStart_short {d : Nat} {s : State} (hrun : (stage s d).state = .run) (hne : (stage s d).active ≠ [])
    (hle : (stage s d).active.length ≤
      2 * ((stage s d).active.filter (fun l => decide (4 ≤ (stgCh s (domBase d + l)).trips))).length) :
    periodStart d s = protTrip Src.STG_RAIL_SHORT 5 d (periodCounted d (pulseRead d s)) := by
  rw [periodStart_eq, hotChannels_pulseRead, stage_pulseRead]
  refine if_pos ?_
  simp only [Bool.and_eq_true, decide_eq_true_eq, Bool.not_eq_true', List.isEmpty_eq_false_iff]
  exact ⟨⟨hrun, hne⟩, hle⟩

/-! ### Cycles, trips of the fast limit, zero crossings -/

theorem cycleDue_of {s : State} {ch : Nat} (h : cycleDue s ch = true) :
    stgSwitching s (chDom ch) = true ∧ chLocal ch ∈ (stage s (chDom ch)).active := by
  unfold cycleDue at h
  simp only [Bool.and_eq_true, List.contains_iff_mem] at h
  exact ⟨h.1.1.1.1, h.1.1.1.2⟩

/-- The first effects of a fast limit. -/
def tripCounted (ch : Nat) (s : State) : State :=
  bump (stgO (chDom ch) Reg.STG_TRIPS) (modStage (chDom ch) (fun x => { x with fast := true })
    (modCh ch (fun c => { c with tripped := true, trips := c.trips + 1, lowAt := Nat.min c.lowAt (32 * now s) }) s))

theorem fastTrip_eq (ch : Nat) (s : State) : fastTrip ch s =
    when ((stage (tripCounted ch s) (chDom ch)).state == .run &&
        decide ((stage (tripCounted ch s) (chDom ch)).pulse.fastN ≤ (stgCh (tripCounted ch s) ch).trips) &&
        decide (4 < (stgCh (tripCounted ch s) ch).trips))
      (faultChannel Src.STG_CH_SHORT (chDom ch) (chLocal ch) 1) (tripCounted ch s) := rfl

theorem tripCounted_only (ch : Nat) (s : State) : Only [.chans, .stages, .live] s (tripCounted ch s) :=
  (((modCh_only _ _ s).mono rfl).via (modStage_only _ _ _) rfl).via (bump_only _ _) rfl

theorem stgCh_tripCounted (ch : Nat) (s : State) : stgCh (tripCounted ch s) ch =
    { stgCh s ch with tripped := true, trips := (stgCh s ch).trips + 1, lowAt := Nat.min (stgCh s ch).lowAt (32 * now s) } ∧
    ∀ k, k ≠ ch → stgCh (tripCounted ch s) k = stgCh s k := by
  unfold tripCounted
  simp only [(bump_only _ _).stgCh_eq rfl, (modStage_only _ _ _).stgCh_eq rfl]
  exact ⟨stgCh_modCh_same _ _ _, fun k hk => stgCh_modCh_other hk _ s⟩

theorem stage_tripCounted (ch : Nat) (s : State) :
    stage (tripCounted ch s) (chDom ch) = { stage s (chDom ch) with fast := true } := by
  unfold tripCounted
  rw [(bump_only _ _).stage_eq rfl, stage_modStage_same, (modCh_only _ _ _).stage_eq rfl]

theorem exec_fastLimitTrip {s : State} {ch t0 : Nat} (hawake : awake s = true) (hch : ch < 80)
    (hsw : stgSwitching s (chDom ch) = true) (hact : chLocal ch ∈ (stage s (chDom ch)).active) (htr : (stgCh s ch).tripped = false)
    (hlev : pwmLevel s ch ≠ .mid) (hcyc : (stgCh s ch).cycAt = some t0) (hblank : (stgCh s ch).tOn = 0 ∨ t0 + 128 ≤ 32 * now s) :
    exec (.fastLimitTrip ch) s = .next (fastTrip ch s) := by
  show execFastLimitTrip ch s = _
  unfold execFastLimitTrip
  refine act_runs hawake ?_
  rw [hcyc]
  simp only [Bool.and_eq_true, decide_eq_true_eq, Bool.not_eq_true', Bool.or_eq_true, beq_iff_eq, bne_iff_ne, List.contains_iff_mem]
  exact ⟨⟨⟨⟨⟨hch, hsw⟩, hact⟩, htr⟩, hlev⟩, hblank⟩

/-- A channel retired: failed, without a cycle. -/
theorem stgCh_retireChannel {d l : Nat} {s : State} (hf : (stgCh s (domBase d + l)).failed = false) (cause : Nat) (k : Nat) :
    stgCh (retireChannel d l cause s) k = stgCh (channelFailed d l cause s) k := by
  by_cases hact : l ∈ (stage s d).active
  · rcases hspares : (stage s d).spares with _ | ⟨sp, rest⟩
    · rw [retireChannel_exhausted hf cause hact hspares,
        ((Only.refl _ _).when _ _ fun u => protTrip_only _ _ _ u).stgCh_eq rfl, (raiseOn_only _ _ _ _ _).stgCh_eq rfl,
        (offsetsDue_only _ _ _).stgCh_eq rfl, (modStage_only _ _ _).stgCh_eq rfl]
    · rw [retireChannel_replaced hf cause hact hspares, (offsetsDue_only _ _ _).stgCh_eq rfl, (modStage_only _ _ _).stgCh_eq rfl]
  · rw [retireChannel_spare hf cause hact, (modStage_only _ _ _).stgCh_eq rfl]

theorem retireChannel_keepsRaised (d l cause : Nat) (s : State) : KeepsRaised s (retireChannel d l cause s) := by
  have hcf := channelFailed_only d l cause s
  rcases hf : (stgCh s (domBase d + l)).failed
  · by_cases hact : l ∈ (stage s d).active
    · rcases hspares : (stage s d).spares with _ | ⟨sp, rest⟩
      · rw [retireChannel_exhausted hf cause hact hspares]
        exact .trans (.trans (((hcf.mono rfl : Only [.chans, .live, .sparing, .stages] _ _).via (modStage_only _ _ _) rfl).via
          (offsetsDue_only _ _ _) rfl |>.keepsRaised rfl) (raiseOn_keepsRaised _ _ _ _ _))
          (KeepsRaised.when (fun u => protTrip_keepsRaised _ _ _ u) _ _)
      · rw [retireChannel_replaced hf cause hact hspares]
        exact (((hcf.mono rfl : Only [.chans, .live, .sparing, .stages] _ _).via (modStage_only _ _ _) rfl).via
          (offsetsDue_only _ _ _) rfl).keepsRaised rfl
    · rw [retireChannel_spare hf cause hact]
      exact ((hcf.mono rfl : Only [.chans, .live, .sparing, .stages] _ _).via (modStage_only _ _ _) rfl).keepsRaised rfl
  · rw [show retireChannel d l cause s = s from if_pos hf]
    exact .refl s

theorem faultChannel_among {src d l cause : Nat} {s : State} :
    RaisedAmong src (domBase d + l) s (faultChannel src d l cause s) :=
  (raise_raised src (domBase d + l) s).among.kept (retireChannel_keepsRaised d l cause _)

theorem stgCh_faultChannel {src d l : Nat} {s : State} (hf : (stgCh s (domBase d + l)).failed = false) (cause : Nat) :
    (stgCh (faultChannel src d l cause s) (domBase d + l)).failed = true ∧
      (stgCh (faultChannel src d l cause s) (domBase d + l)).cycAt = none := by
  have hraise : Only [.flt] s (raise src (domBase d + l) s) := (raise_only _ _ _).mono rfl
  unfold faultChannel
  rw [stgCh_retireChannel (by rw [hraise.stgCh_eq rfl]; exact hf)]
  obtain ⟨hfailed, hcyc, _⟩ := stgCh_channelFailed d l cause (raise src (domBase d + l) s)
  exact ⟨hfailed, hcyc⟩

/-- Settles O44. -/
theorem switchingCommands : Obligations.SwitchingCommands := by
  refine ⟨⟨fun s d t0 hawake hd ht hquiet hdue hle hf => ?_, fun s d hawake hd hrun ht hne hle => ?_,
    fun s ch hawake hch hdue => ?_, fun s ch t0 hawake hch hsw hact htr hlev hcyc hblank hfew => ?_,
    fun s ch t0 hawake hch hrun hact htr hf hlev hcyc hblank hfour hmany => ?_, fun s ch hawake hch hde hlow hblank => ?_⟩,
    fun s ch => ⟨fun h => pwmAt_none 0 h, fun h => pwmAt_idle 0 h, fun h hlow => ?_, fun h => ?_, fun h => pwmAt_limited 0 h,
      fun t0 htr hcyc hact hsw hcut => ?_⟩⟩
  · refine ⟨_, act_runs hawake (by rw [decide_eq_true hd, ht]; rfl), ?_⟩
    rw [periodStart_quiet hquiet]
    have hpre : Only [.stages, .live] s (periodCounted d (pulseRead d s)) :=
      ((pulseRead_only d s).mono rfl).via (periodCounted_only d _) rfl
    have hst : stage (periodCounted d (pulseRead d s)) d = { stage s d with pulse := pulseCfgOf s d } := by
      rw [(periodCounted_only d _).stage_eq rfl, stage_pulseRead]
    obtain ⟨hnone, hph, hoffs, hpulse, hact, honly⟩ := stage_offsetsTaken (d := d) (t0 := t0) (s := periodCounted d (pulseRead d s))
      (by rw [hst]; exact hdue) (by rw [hpre.now_eq rfl]; exact hle) (by rw [hst, hpre.cfgF_eq rfl rfl]; exact hf)
    refine ⟨hnone, ?_, ?_, ?_, ?_, ?_, ?_⟩
    · rw [hph, hpre.cfgF_eq rfl rfl]
    · rw [hoffs, hst]
    · rw [hpulse, hst]
      rfl
    · rw [hact, hst]
    · exact (honly.keeps .chans rfl).trans (hpre.keeps .chans rfl)
    · exact (honly.keeps .flt rfl).trans (hpre.keeps .flt rfl)
  · refine ⟨_, act_runs hawake (by rw [decide_eq_true hd, ht]; rfl), ?_⟩
    rw [periodStart_short hrun hne hle]
    have hpre : Only [.stages, .live] s (periodCounted d (pulseRead d s)) :=
      ((pulseRead_only d s).mono rfl).via (periodCounted_only d _) rfl
    exact ⟨(protTrip_stages _ _ _ _).1, (protTrip_among _ _ _ _).after hpre rfl⟩
  · obtain ⟨hsw, hact⟩ := cycleDue_of hdue
    have honly : Only [.chans] s (cycleStart ch s) := modCh_only _ _ _
    have hch' : stgCh (cycleStart ch s) ch = _ := stgCh_modCh_same ch _ s
    have hlevel := pwmAt_cycle (s := cycleStart ch s) (ch := ch) ((offsetOf s ch).getD 0 % 32)
      (t0 := 32 * now s + (offsetOf s ch).getD 0 % 32) (by rw [hch']) (by rw [honly.stage_eq rfl]; exact hact)
      (by unfold stgSwitching; rw [honly.stage_eq rfl]; exact hsw) (by rw [hch'])
    refine ⟨_, act_runs hawake (by rw [decide_eq_true hch, hdue]; rfl), ?_⟩
    refine ⟨by rw [hch'], by rw [hch'], by rw [hch'], by rw [hch'], by rw [hch'], by rw [hch']; rfl, ?_,
      fun k hk => stgCh_modCh_other hk _ s, honly⟩
    rw [hlevel, if_neg (by rw [hch']; exact Bool.false_ne_true), honly.now_eq rfl, if_neg (Nat.lt_irrefl _)]
    by_cases hz : (stgCh (cycleStart ch s) ch).tOn = 0
    · rw [if_pos hz, hz, if_neg (by omega)]
    · rw [if_neg hz, if_pos (by omega)]
  · have hcut := cut_of_level hlev (stgSwitching_ne_tripped hsw)
    obtain ⟨hch', hother⟩ := stgCh_tripCounted ch s
    have hst := stage_tripCounted ch s
    have heq : fastTrip ch s = tripCounted ch s := by
      rw [fastTrip_eq, hst, hch']
      refine if_neg fun hc => ?_
      simp only [Bool.and_eq_true, decide_eq_true_eq, beq_iff_eq] at hc
      obtain ⟨⟨hrun, hn⟩, hfour⟩ := hc
      rcases hfew with h | h | h
      · exact h hrun
      · exact absurd hn (by omega)
      · exact absurd hfour (by omega)
    refine ⟨_, exec_fastLimitTrip hawake hch hsw hact htr hlev hcyc hblank, ?_⟩
    rw [heq]
    refine ⟨hch', ?_, by rw [hst], hother, ?_⟩
    · refine (pwmAt_cycle 0 (t0 := t0) (by rw [hch']; exact hcyc) (by rw [hst]; exact hact) ?_ (by rw [hch']; exact hcut)).trans ?_
      · unfold stgSwitching
        rw [hst]
        exact hsw
      · rw [hch']
        rfl
    · unfold tripCounted
      rw [bump_toNat, (modStage_only _ _ _).live_eq rfl rfl, (modCh_only _ _ _).live_eq rfl rfl]
  · have hsw : stgSwitching s (chDom ch) = true := by
      unfold stgSwitching
      rw [hrun]
      rfl
    obtain ⟨hch', hother⟩ := stgCh_tripCounted ch s
    have hst := stage_tripCounted ch s
    have heq : fastTrip ch s = faultChannel Src.STG_CH_SHORT (chDom ch) (chLocal ch) 1 (tripCounted ch s) := by
      rw [fastTrip_eq, hst, hch']
      refine if_pos ?_
      simp only [Bool.and_eq_true, decide_eq_true_eq, beq_iff_eq]
      exact ⟨⟨hrun, hmany⟩, by omega⟩
    have hindex := chDom_chLocal ch
    obtain ⟨hfailed, hnone⟩ := stgCh_faultChannel (src := Src.STG_CH_SHORT) (d := chDom ch) (l := chLocal ch) (s := tripCounted ch s)
      (by rw [hindex, hch']; exact hf) 1
    have hamong := faultChannel_among (src := Src.STG_CH_SHORT) (d := chDom ch) (l := chLocal ch) (cause := 1) (s := tripCounted ch s)
    rw [hindex] at hfailed hnone hamong
    refine ⟨_, exec_fastLimitTrip hawake hch hsw hact htr hlev hcyc hblank, ?_⟩
    rw [heq]
    exact ⟨hfailed, pwmAt_none 0 hnone, hamong.after (tripCounted_only ch s) rfl⟩
  · have hnt : (stage s (chDom ch)).state ≠ .tripped := by
      intro h
      unfold chDe deForced at hde
      dsimp only at hde
      rw [h] at hde
      cases hde
    have honly : Only [.chans] s (modCh ch (fun c => { c with cut := true }) s) := modCh_only _ _ _
    refine ⟨modCh ch (fun c => { c with cut := true }) s, act_runs hawake ?_, pwmAt_cut 0 ?_ ?_,
      fun k hk => stgCh_modCh_other hk _ s, honly⟩
    · simp only [Bool.and_eq_true, decide_eq_true_eq, beq_iff_eq]
      exact ⟨⟨⟨hch, hde⟩, hlow⟩, hblank⟩
    · rw [honly.stage_eq rfl]
      exact hnt
    · rw [stgCh_modCh_same]
  · rcases pwmAt_domain_tripped 0 h with hm | ⟨_, hov, hlt⟩
    · exact absurd (hm.symm.trans hlow) nofun
    · exact ⟨hov, hlt⟩
  · rcases pwmAt_domain_tripped 0 h with hm | ⟨hl, _⟩
    · exact fun hh => nomatch hm.symm.trans hh
    · exact fun hh => nomatch hl.symm.trans hh
  · exact (pwmAt_cycle 0 hcyc hact hsw hcut).trans (if_pos htr)

end Sys2Proof.Machine
end

section
/-! SUPPORT. Converters: calibration, replacement and their commands. -/

namespace Sys2Proof.Machine

theorem adcCode_le (s : State) (c n sum : Nat) : adcCode s c n sum ≤ 4095 := by
  obtain ⟨x, hx⟩ : ∃ x, adcCode s c n sum = (clamp x 0 4095).toNat := ⟨_, rfl⟩
  obtain ⟨hlo, hhi⟩ := clamp_mem x (show (0 : Int) ≤ 4095 by decide)
  rw [hx]
  omega

theorem Only.quadConv_eq {l : List Part} {s t : State} (h : Only l s t) (hp : l.contains .params = false)
    (ha : l.contains .adcs = false) (q : Nat) : quadConv t q = quadConv s q := by
  unfold quadConv convOf
  simp only [h.adc_eq hp ha]

/-- The one element of a list that a test holds of is the one found. -/
theorem find?_of_unique {α : Type} {l : List α} {p : α → Bool} {x : α} (hx : x ∈ l) (hp : p x = true)
    (hu : ∀ y ∈ l, p y = true → y = x) : l.find? p = some x := by
  rcases h : l.find? p with _ | y
  · exact absurd hp (by simpa using List.find?_eq_none.mp h x hx)
  · exact congrArg some (hu y (List.mem_of_find?_eq_some h) (List.find?_some h))

/-- The first number below `n` that a test holds of. -/
theorem find?_upto {n m : Nat} {p : Nat → Bool} (hm : m < n) (hp : p m = true) (hbefore : ∀ k, k < m → p k = false) :
    (upto n).find? p = some m := by
  refine List.find?_range_eq_some.mpr ⟨hp, List.mem_range.mpr hm, fun k hk => ?_⟩
  simp [hbefore k hk]

/-! ### Calibration pairs (R302, R303, R315) -/

/-- A pair's gain and offset taken, or its source raised. -/
def calApplied (n rl8 rh8 : Nat) (p : Int × Int) (s : State) : State :=
  modAdc n (fun a => { a with calAt := now s - 40 })
    (if calInRange p then bump (adcO n Reg.ADC_CALS) (modAdc n (fun a => { a with gain := p.1.toNat, offs := p.2 })
        (setLive (adcO n Reg.ADC_REFRAW) (BitVec.ofNat 32 (rl8 % 0x10000 + 0x10000 * (rh8 % 0x10000))) s))
      else raiseOn Src.ADC_CAL_RANGE n (adcPage n) 1
        (setLive (adcO n Reg.ADC_REFRAW) (BitVec.ofNat 32 (rl8 % 0x10000 + 0x10000 * (rh8 % 0x10000))) s))

section
variable {s : State} {n : Nat} (rl8 rh8 : Nat)

theorem calPair_spare (h : (adc s n).state = .spare) : calPair n rl8 rh8 s = calApplied n rl8 rh8 (calOf s 0 rl8 rh8) s := by
  unfold calPair
  dsimp only
  rw [h] <;> rfl

theorem calPair_cal (h : (adc s n).state = .cal) : calPair n rl8 rh8 s = if calInRange (calOf s 0 rl8 rh8) then
    leaveCal n (calApplied n rl8 rh8 (calOf s 0 rl8 rh8) s) else loseAdc n 1 (calApplied n rl8 rh8 (calOf s 0 rl8 rh8) s) := by
  unfold calPair
  dsimp only
  rw [h] <;> rfl

theorem adc_calApplied_taken {p : Int × Int} (h : calInRange p = true) : adc (calApplied n rl8 rh8 p s) n =
    { adc s n with gain := p.1.toNat, offs := p.2, calAt := now s - 40 } := by
  unfold calApplied
  rw [if_pos h, adc_modAdc_same, (bump_only _ _).adc_eq rfl rfl, adc_modAdc_same, (setLive_only _ _ _).adc_eq rfl rfl]

theorem adc_calApplied_refused {p : Int × Int} (h : calInRange p = false) : adc (calApplied n rl8 rh8 p s) n =
    { adc s n with calAt := now s - 40 } := by
  unfold calApplied
  rw [if_neg (by rw [h]; decide), adc_modAdc_same, (raiseOn_only _ _ _ _ _).adc_eq rfl rfl, (setLive_only _ _ _).adc_eq rfl rfl]

theorem adc_calApplied_other (p : Int × Int) {m : Nat} (hm : m ≠ n) : adc (calApplied n rl8 rh8 p s) m = adc s m := by
  unfold calApplied
  rw [adc_modAdc_other hm]
  split
  · rw [(bump_only _ _).adc_eq rfl rfl, adc_modAdc_other hm, (setLive_only _ _ _).adc_eq rfl rfl]
  · rw [(raiseOn_only _ _ _ _ _).adc_eq rfl rfl, (setLive_only _ _ _).adc_eq rfl rfl]

theorem calApplied_taken_only {p : Int × Int} (h : calInRange p = true) : Only [.live, .adcs] s (calApplied n rl8 rh8 p s) := by
  unfold calApplied
  rw [if_pos h]
  exact ((((setLive_only _ _ s).mono rfl).via (modAdc_only _ _ _) rfl).via (bump_only _ _) rfl).via (modAdc_only _ _ _) rfl

theorem calApplied_raised {p : Int × Int} (h : calInRange p = false) :
    Raised Src.ADC_CAL_RANGE n s (calApplied n rl8 rh8 p s) := by
  unfold calApplied
  rw [if_neg (by rw [h]; decide)]
  exact ((raiseOn_raised _ _ _ _ _).after (setLive_only _ _ s) rfl rfl).before (modAdc_only _ _ _) rfl

end

theorem exec_adcCalPair {s : State} {n : Nat} (rl8 rh8 : Nat) (hawake : awake s = true) (hn : n < 12) (hd : pairDue s n = true) :
    exec (.adcCalPair n rl8 rh8) s = .next (calPair n rl8 rh8 s) :=
  act_runs hawake (by rw [decide_eq_true hn, hd]; rfl)

theorem leaveCal_role {n : Nat} {s : State} (h : n < 4 + quads s) : leaveCal n s = modAdc n (fun a => { a with
    state := if n < 4 then .rail else .telem, role := n, keep := if n < 4 then now s else now s + 1 }) s := by
  unfold leaveCal firstRole
  rw [if_pos h, ite_self]

/-! ### A converter lost (R315, R318) -/

theorem toFailed_adc (n cause : Nat) (s : State) : adc (toFailed n cause s) n =
    { adc s n with state := .failed, role := 15, cause := cause, taking := none, corrRun := 0 } ∧
    ∀ m, m ≠ n → adc (toFailed n cause s) m = adc s m :=
  ⟨adc_modAdc_same _ _ _, fun _ hm => adc_modAdc_other hm _ s⟩

theorem adc_adcFailed (n cause : Nat) (s : State) (m : Nat) : adc (adcFailed n cause s) m = adc (toFailed n cause s) m :=
  (State.setSparing_only _ _).adc_eq rfl rfl m

theorem loseAdc_lost {n cause : Nat} {s : State} (h : (adc s n).state ≠ .failed) : loseAdc n cause s =
    dropAdc (adcFailed n cause) n s := if_neg h

theorem loseAdc_roleless {n cause : Nat} {s : State} (h : (adc s n).state ≠ .failed) (hr : roleOf s n = none) :
    loseAdc n cause s = adcFailed n cause s := by
  rw [loseAdc_lost h]
  unfold dropAdc
  rw [hr]

theorem loseAdc_owed {n cause r : Nat} {s : State} (h : (adc s n).state ≠ .failed) (hr : roleOf s n = some r) :
    loseAdc n cause s = oweRole n r (adcFailed n cause s) := by
  rw [loseAdc_lost h]
  unfold dropAdc
  rw [hr]

/-- A converter that is lost fails, and no other changes. -/
theorem adc_loseAdc {n : Nat} (cause : Nat) {s : State} (h : (adc s n).state ≠ .failed) :
    (adc (loseAdc n cause s) n).state = .failed ∧ (adc (loseAdc n cause s) n).cause = cause ∧
      (adc (loseAdc n cause s) n).role = 15 ∧ ∀ m, m ≠ n → adc (loseAdc n cause s) m = adc s m := by
  have hall : ∀ m, adc (loseAdc n cause s) m = adc (toFailed n cause s) m := fun m => by
    rcases hr : roleOf s n with _ | r
    · rw [loseAdc_roleless h hr, adc_adcFailed]
    · rw [loseAdc_owed h hr, (oweRole_only _ _ _).adc_eq rfl rfl, adc_adcFailed]
  obtain ⟨hn, hm⟩ := toFailed_adc n cause s
  rw [hall, hn]
  exact ⟨rfl, rfl, rfl, fun m hne => (hall m).trans (hm m hne)⟩

theorem oweRole_adcOwed (n r : Nat) (s : State) : (oweRole n r s).adcOwed = insertRole (r, n) s.adcOwed := by
  have h : Only [.clus, .quads] s (if 4 ≤ r then dropResults (r - 4) s else s) := Only.ite (dropResults_only _ _) (.refl _ _)
  exact congrArg (insertRole (r, n)) (h.keeps .adcOwed rfl)

/-! ### The command register (R324, R325) -/

theorem adcCommand_retire {n : Nat} {s : State} (h : (adc s n).state = .rail ∨ (adc s n).state = .telem ∨ (adc s n).state = .spare) :
    adcCommand n 1 s = loseAdc n 4 s := by
  unfold adcCommand
  rcases h with h | h | h <;> rw [h] <;> rfl

theorem adcCommand_retest {n : Nat} {s : State} (h : (adc s n).state = .failed) : adcCommand n 2 s =
    modAdc n (fun a => { a with state := .retest, pairs := 0, pairOk := true, calAt := now s }) s := if_pos h

theorem adcCommand_retest_refused {n : Nat} {s : State} (h : (adc s n).state ≠ .failed) : adcCommand n 2 s = refuse (adcPage n) s :=
  if_neg h

/-! ### Owed roles (R317 to R319) -/

theorem takesFree {s : State} {m : Nat} : ((adc s m).state == .spare && (adc s m).taking == none) = true ↔
    (adc s m).state = .spare ∧ (adc s m).taking = none := by
  rw [Bool.and_eq_true, beq_iff_eq, beq_iff_eq]

theorem noneFree {s : State} {m : Nat} (h : (adc s m).state ≠ .spare ∨ (adc s m).taking ≠ none) :
    ((adc s m).state == .spare && (adc s m).taking == none) = false := by
  rw [Bool.eq_false_iff]
  intro hc
  obtain ⟨hs, ht⟩ := takesFree.mp hc
  exact h.elim (fun hn => hn hs) (fun hn => hn ht)

theorem serveRole_spare {s : State} {m : Nat} (o : Nat × Nat) (hm : m < 12) (hs : (adc s m).state = .spare)
    (ht : (adc s m).taking = none) (hbefore : ∀ k, k < m → (adc s k).state ≠ .spare ∨ (adc s k).taking ≠ none) :
    serveRole s o = takeRole o.1 m s := by
  unfold serveRole
  rw [find?_upto hm (takesFree.mpr ⟨hs, ht⟩) fun k hk => noneFree (hbefore k hk)]

/-- The telemetry of a quadrant ends, without its source. -/
def telemEnded (q : Nat) (s : State) : State :=
  let s1 := dropUrgent q (dropResults q s)
  match (quad s1 q).redo with
  | some r => urgentDropped q (modQuad q (fun x => { x with redo := none }) s1) r
  | none => s1

theorem telemEnded_only (q : Nat) (s : State) : Only [.clus, .quads] s (telemEnded q s) := by
  have h : Only [.clus, .quads] s (dropUrgent q (dropResults q s)) := (dropResults_only _ _).via (dropUrgent_only _ _) rfl
  unfold telemEnded
  dsimp only
  split
  · exact (h.via (modQuad_only _ _ _) rfl).via (urgentDropped_only _ _ _) rfl
  · exact h

theorem telemLost_keepsRaised (q : Nat) (s : State) : KeepsRaised s (telemLost q s) :=
  .trans ((telemEnded_only q s).keepsRaised rfl) (raiseOn_keepsRaised _ _ _ _ _)

theorem telemLost_among {l : List Part} {s t : State} (h : Only l s t) (hl : l.contains .time = false) (q : Nat) :
    RaisedAmong Src.ADC_TELEM_LOST q s (telemLost q t) :=
  ((raiseOn_raised Src.ADC_TELEM_LOST q (qdPage q) 1 (telemEnded q t)).among.after (telemEnded_only q t) rfl).after h hl

/-- With no spare and none to wait for, what the role's kind brings. -/
def roleExhausted (o : Nat × Nat) (s : State) : State :=
  if 4 ≤ o.1 then telemLost (o.1 - 4) s
  else match (((upto 4).map (fun i => 3 - i)).find? (fun q => (quadConv s q).isSome)) with
    | none => s
    | some q => match quadConv s q with
      | some m => takeRole o.1 m (telemLost q s)
      | none => s

theorem serveRole_exhausted {s : State} (o : Nat × Nat) (hno : ∀ k, k < 12 → (adc s k).state ≠ .spare ∨ (adc s k).taking ≠ none)
    (hwait : ∀ k, k < 12 → mayServe s o.1 k = false) :
    serveRole s o = roleExhausted o (raise Src.ADC_SPARE_EXHAUSTED o.2 s) := by
  have hfind : (upto 12).find? (fun m => (adc s m).state == .spare && (adc s m).taking == none) = none :=
    List.find?_eq_none.mpr fun k hk => by
      rw [noneFree (hno k (List.mem_range.mp hk))]
      decide
  have hany : (upto 12).any (mayServe s o.1) = false :=
    List.any_eq_false.mpr fun k hk => by
      rw [hwait k (List.mem_range.mp hk)]
      decide
  unfold serveRole
  rw [hfind]
  dsimp only
  rw [hany]
  rfl

theorem roleExhausted_keepsRaised (o : Nat × Nat) (s : State) : KeepsRaised s (roleExhausted o s) := by
  unfold roleExhausted
  split
  · exact telemLost_keepsRaised _ s
  · split
    · exact .refl s
    · split
      · exact .trans (telemLost_keepsRaised _ s) ((takeRole_only _ _ _).keepsRaised rfl)
      · exact .refl s

/-- The highest-numbered quadrant with a converter gives it up. -/
theorem highestQuad {s : State} {q m : Nat} (hq : q < 4) (hm : quadConv s q = some m)
    (habove : ∀ p, q < p → p < 4 → quadConv s p = none) :
    ((upto 4).map (fun i => 3 - i)).find? (fun q => (quadConv s q).isSome) = some q := by
  show [3, 2, 1, 0].find? (fun q => (quadConv s q).isSome) = some q
  obtain rfl | rfl | rfl | rfl : q = 0 ∨ q = 1 ∨ q = 2 ∨ q = 3 := by omega
  · simp [List.find?, hm, habove 1 (by decide) (by decide), habove 2 (by decide) (by decide), habove 3 (by decide) (by decide)]
  · simp [List.find?, hm, habove 2 (by decide) (by decide), habove 3 (by decide) (by decide)]
  · simp [List.find?, hm, habove 3 (by decide) (by decide)]
  · simp [List.find?, hm]

theorem roleExhausted_rail {s : State} {o : Nat × Nat} {q m : Nat} (ho : o.1 < 4) (hq : q < 4) (hm : quadConv s q = some m)
    (habove : ∀ p, q < p → p < 4 → quadConv s p = none) : roleExhausted o s = takeRole o.1 m (telemLost q s) := by
  unfold roleExhausted
  rw [if_neg (by omega), highestQuad hq hm habove]
  dsimp only
  rw [hm]

/-- A tick whose end has one owed role alone. -/
theorem endTick_owed {s : State} {role n : Nat} (howed : s.adcOwed = [(role, n)]) (hlate : s.late = []) (hreqs : s.lnk.reqs = [])
    (hseen : s.regs.seen = []) (hfetch : s.ports.target.fetch = none) (hdata : s.ports.target.data = none)
    (hsync : syncMissed (estP / 2) s = false) :
    endTick (i3cData (i3cFetch s)) = serveRole (s.setAdcOwed []) (role, n) := by
  rw [i3cFetch_none hfetch, i3cData_none hdata, endTick_unseen hseen]
  unfold settle
  rw [missedSync_none hsync, endTimes_none hlate, lateRequests_none hreqs]
  unfold serveOwed
  rw [howed]
  rfl

theorem exec_adcCorrErr {s : State} {n : Nat} (bad : List Bool) (hawake : awake s = true) (hn : n < 12)
    (hst : (adc s n).state ≠ .failed) : exec (.adcCorrErr ⟨n, bad⟩) s = .next (corrSamples n bad s) :=
  act_runs hawake (by rw [decide_eq_true hn, bne_iff_ne.mpr hst]; rfl)

theorem exec_adcReplaceConnect {s : State} {n role t0 : Nat} (hawake : awake s = true) (hn : n < 12)
    (htake : (adc s n).taking = some (role, t0)) (ht : t0 ≤ now s) (hothers : ∀ m, m ≠ n → (adc s m).taking = none)
    (hrun : s.tb.running = true) (hphase : s.tb.tick.toNat % 5 = (if role < 4 then 0 else adcPhase s n)) :
    exec (.adcReplaceConnect role) s = .next (connectAdc n role s) := by
  show execAdcReplaceConnect role s = _
  unfold execAdcReplaceConnect
  rw [find?_of_unique (l := upto 12) (x := n) (List.mem_range.mpr hn) ?_ fun m _ hm => ?_]
  · exact act_runs hawake (by rw [hrun, beq_iff_eq.mpr hphase]; rfl)
  · rw [htake]
    simp [ht]
  · by_contra hne
    rw [hothers m hne] at hm
    cases hm

/-- Settles O45. -/
theorem converterCommands : Obligations.ConverterCommands := by
  refine ⟨⟨adcCode_le, fun s n rl8 rh8 hawake hn hst hdue => ⟨fun hok => ?_, fun hbad => ?_⟩,
    fun s n rl8 rh8 hawake hn hst hdue => ⟨fun hok hq => ?_, fun hbad => ?_⟩, fun s n bad hawake hn hst => ?_,
    fun s a n hawake hreach hsec hn => ⟨fun hst => ?_, fun hst => ?_⟩,
    fun s n hawake hn hst hpairs => ⟨fun hok hg ho => ?_, fun hbad => ?_⟩⟩,
    fun s n role t0 hawake hn htake ht hothers hrun hphase => ?_,
    fun s a n hawake hreach hsec hn hst htake => ?_, fun s a n hawake hreach hsec hn hst htake => ?_,
    fun s n m role hm hst htake hbefore => ?_,
    fun s n role hawake hpend howed hlate hreqs hseen hfetch hdata hsync hstart => ?_,
    fun s n role hno hwait => ⟨?_, fun hr => ?_, fun q m hr hq hm habove => ?_⟩⟩
  · refine ⟨_, exec_adcCalPair rl8 rh8 hawake hn hdue, ?_⟩
    rw [calPair_spare rl8 rh8 hst, adc_calApplied_taken rl8 rh8 hok]
    exact ⟨rfl, rfl, hst, fun m hm => adc_calApplied_other rl8 rh8 _ hm, (calApplied_taken_only rl8 rh8 hok).keeps .flt rfl⟩
  · refine ⟨_, exec_adcCalPair rl8 rh8 hawake hn hdue, ?_⟩
    rw [calPair_spare rl8 rh8 hst]
    exact ⟨adc_calApplied_refused rl8 rh8 hbad, fun m hm => adc_calApplied_other rl8 rh8 _ hm, calApplied_raised rl8 rh8 hbad⟩
  · refine ⟨_, exec_adcCalPair rl8 rh8 hawake hn hdue, ?_⟩
    have hquads := (calApplied_taken_only (s := s) (n := n) rl8 rh8 hok).quads_eq rfl
    rw [calPair_cal rl8 rh8 hst, if_pos hok, leaveCal_role (by rw [hquads]; exact hq), adc_modAdc_same,
      adc_calApplied_taken rl8 rh8 hok]
    refine ⟨rfl, rfl, rfl, fun m hm => ?_⟩
    rw [adc_modAdc_other hm, adc_calApplied_other rl8 rh8 _ hm]
  · refine ⟨_, exec_adcCalPair rl8 rh8 hawake hn hdue, ?_⟩
    rw [calPair_cal rl8 rh8 hst, if_neg (by rw [hbad]; decide)]
    obtain ⟨hfailed, hcause, _, hothers⟩ := adc_loseAdc (n := n) 1 (s := calApplied n rl8 rh8 (calOf s 0 rl8 rh8) s)
      (by rw [adc_calApplied_refused rl8 rh8 hbad, hst]; decide)
    exact ⟨hfailed, hcause, (calApplied_raised rl8 rh8 hbad).among.before (loseAdc_only _ _ _) rfl,
      fun m hm => (hothers m hm).trans (adc_calApplied_other rl8 rh8 _ hm)⟩
  · have hpre : Only [.adcs] s (modAdc n (fun a => { a with corrRun := (bad.foldl corrStep ((adc s n).corrRun, false)).1 }) s) :=
      modAdc_only _ _ _
    have hpage : adcO n Reg.ADC_CORRERR ≠ pg (adcPage n) PAGE_FLT := by
      unfold adcO adcPage pg Reg.ADC_CORRERR PAGE_FLT
      omega
    refine ⟨_, exec_adcCorrErr bad hawake hn hst, (corrSamples_only n bad s).mono rfl, ?_, fun h => ?_,
      fun h => ?_, ?_⟩
    · unfold corrSamples
      rw [((Only.refl _ _).when _ _ fun u => raiseOn_only _ _ _ _ u).adc_eq rfl rfl, (bumpBy_only _ _ _).adc_eq rfl rfl,
        adc_modAdc_same]
    · unfold corrSamples
      dsimp only
      rw [h]
      exact (raiseOn_raised _ _ _ _ _).after ((hpre.mono rfl : Only [.adcs, .live] _ _).via (bumpBy_only _ _ _) rfl) rfl rfl
    · unfold corrSamples
      dsimp only
      rw [h]
      exact ((hpre.mono rfl : Only [.adcs, .live] _ _).via (bumpBy_only _ _ _) rfl).keeps .flt rfl
    · have hword : ∀ b u, live (when b (raiseOn Src.ADC_CORR_ERR n (adcPage n) 2) u) (adcO n Reg.ADC_CORRERR) =
          live u (adcO n Reg.ADC_CORRERR) := fun b u => by
        cases b
        · rfl
        · exact live_raiseOn_other hpage _ _ _ _
      unfold corrSamples
      rw [hword, bumpBy_toNat, hpre.live_eq rfl rfl]
  · refine ⟨_, secureCmd_ok hawake (by rw [hreach, decide_eq_true hn]; rfl) hsec _, ?_⟩
    rw [adcCommand_retest hst, (respond_only _ _ _).adc_eq rfl rfl, adc_modAdc_same]
    exact ⟨rfl, ((modAdc_only _ _ _).mono rfl).via (respond_only _ _ _) rfl⟩
  · refine ⟨_, secureCmd_ok hawake (by rw [hreach, decide_eq_true hn]; rfl) hsec _, ?_⟩
    rw [adcCommand_retest_refused hst]
    exact ⟨((refuse_only _ _).mono rfl).via (respond_only _ _ _) rfl, field_refuse_respond _ _ _ _⟩
  · refine ⟨_, act_runs hawake (by rw [decide_eq_true hn, hst, decide_eq_true hpairs]; rfl), ?_⟩
    rw [if_pos (by rw [hok, decide_eq_true hg, decide_eq_true ho]; rfl), adc_modAdc_same]
    exact ⟨rfl, modAdc_only _ _ _⟩
  · refine ⟨_, act_runs hawake (by rw [decide_eq_true hn, hst, decide_eq_true hpairs]; rfl), ?_⟩
    rw [if_neg (by rw [hbad]; simp), adc_adcFailed, (toFailed_adc n 5 s).1]
    exact ⟨rfl, rfl⟩
  · refine ⟨_, exec_adcReplaceConnect hawake hn htake ht hothers hrun hphase, ?_, fun m hm => ?_,
      (raiseOn_raised _ _ _ _ _).after (modAdc_only _ _ _) rfl rfl⟩
    · exact ((raiseOn_only _ _ _ _ _).adc_eq rfl rfl n).trans (adc_modAdc_same _ _ _)
    · exact ((raiseOn_only _ _ _ _ _).adc_eq rfl rfl m).trans (adc_modAdc_other hm _ _)
  · refine ⟨_, secureCmd_ok hawake (by rw [hreach, decide_eq_true hn]; rfl) hsec _, ?_⟩
    have hne : (adc s n).state ≠ .failed := by rw [hst]; decide
    have hrole : roleOf s n = none := by
      unfold roleOf
      dsimp only
      rw [htake, hst]
    obtain ⟨hfailed, hcause, hr15, hothers⟩ := adc_loseAdc (n := n) 4 hne
    rw [adcCommand_retire (.inr (.inr hst)), (respond_only _ _ _).adc_eq rfl rfl]
    refine ⟨hfailed, hcause, hr15, ?_, fun m hm => ?_, ?_⟩
    · rw [(respond_only _ _ _).keeps .sparing rfl, loseAdc_roleless hne hrole]
      exact congrArg (fun o : Option Nat => o.getD 0) (Store.find_put_same _ _ _)
    · rw [(respond_only _ _ _).adc_eq rfl rfl, hothers m hm]
    · rw [loseAdc_roleless hne hrole]
      exact (((adcFailed_only _ _ _).mono rfl : Only [.sparing, .adcs, .ports] _ _).via (respond_only _ _ _) rfl).keeps .adcOwed rfl
  · refine ⟨_, secureCmd_ok hawake (by rw [hreach, decide_eq_true hn]; rfl) hsec _, ?_⟩
    have hne : (adc s n).state ≠ .failed := by rcases hst with h | h <;> rw [h] <;> decide
    have hrole : roleOf s n = some (adc s n).role := by
      unfold roleOf
      dsimp only
      rw [htake]
      rcases hst with h | h <;> rw [h]
    obtain ⟨hfailed, hcause, hr15, hothers⟩ := adc_loseAdc (n := n) 4 hne
    rw [adcCommand_retire (hst.imp id .inl), (respond_only _ _ _).adc_eq rfl rfl]
    refine ⟨hfailed, hcause, ?_, fun m hm => ?_⟩
    · rw [(respond_only _ _ _).keeps .adcOwed rfl, loseAdc_owed hne hrole, oweRole_adcOwed]
      exact congrArg _ ((adcFailed_only _ _ _).keeps .adcOwed rfl)
    · rw [(respond_only _ _ _).adc_eq rfl rfl, hothers m hm]
  · rw [serveRole_spare (role, n) hm hst htake hbefore]
    exact ⟨adc_modAdc_same _ _ _, fun k hk => adc_modAdc_other hk _ s, takeRole_only _ _ _⟩
  · exact ⟨_, step_ticks hpend, tickPasses_only_of_endTick hawake
      (endTick_owed howed hlate hreqs hseen hfetch hdata hsync) hstart⟩
  · rw [serveRole_exhausted (role, n) hno hwait]
    exact (raise_raised _ _ _).among.kept (roleExhausted_keepsRaised _ _)
  · rw [serveRole_exhausted (role, n) hno hwait]
    unfold roleExhausted
    rw [if_pos hr]
    exact telemLost_among (raise_only _ _ s) rfl _
  · have hraise := raise_only Src.ADC_SPARE_EXHAUSTED n s
    rw [serveRole_exhausted (role, n) hno hwait, roleExhausted_rail (o := (role, n)) hr hq (by rw [hraise.quadConv_eq rfl rfl]; exact hm)
      (fun p hp hp4 => by rw [hraise.quadConv_eq rfl rfl]; exact habove p hp hp4)]
    refine ⟨(telemLost_among hraise rfl q).before (takeRole_only _ _ _) rfl, ?_⟩
    show (adc (modAdc _ _ _) _).taking = _
    rw [adc_modAdc_same]
    dsimp only
    rw [(telemLost_only _ _).now_eq rfl, hraise.now_eq rfl]

end Sys2Proof.Machine
end

section
/-! SUPPORT. The end of a pass that converted no references: the end of its last entry, which R303 has the next calibration
pair of the converter wait for. -/

namespace Sys2Proof.Machine

/-- Quadrant 0, served by converter 4, at the end of the one entry of its old table; the pass converted no reference. -/
def lastEntryOver : State :=
  modQuad 0 (fun x => { x with cur := some (0, 0, 1), newTab := true, old := some (1, []) })
    (modAdc 4 (fun a => { a with state := .telem, role := 4 })
      ({ State.reset with powered := true, tb := { State.reset.tb with elapsed := 1 } }))

theorem lastEntryOver_ends : awake lastEntryOver = true ∧ passOver lastEntryOver 0 (quad lastEntryOver 0) = some (0, false) ∧
    quadConv lastEntryOver 0 = some 4 := by decide +kernel

/-- The pass that ends takes the converter's next pair from the end of its last entry on. -/
theorem sequencePassEnd_moves : (match exec (.sequencePassEnd 0) lastEntryOver with
    | .next t => decide ((adc t 4).calAt = 1)
    | _ => false) = true ∧ (adc lastEntryOver 4).calAt = 0 := by decide +kernel

/-- Refutes O46: a pass that ends with the last entry of its table, in the tick in which that entry is over, sets from when
the converter's next calibration pair can run (R303), and so changes the converters also where the pass converted no
references. -/
theorem not_sequenceCommands : ¬ Obligations.SequenceCommands := by
  unfold Obligations.SequenceCommands
  intro h
  obtain ⟨⟨_, _, hend, _⟩, _⟩ := h
  obtain ⟨hawake, hover, hconv⟩ := lastEntryOver_ends
  obtain ⟨t, ht, _, _, _, hkept, _⟩ := hend lastEntryOver 0 4 0 false hawake hover hconv
  obtain ⟨hnew, hold⟩ := sequencePassEnd_moves
  rw [ht] at hnew
  have hsame : adc t 4 = adc lastEntryOver 4 := by
    obtain ⟨hadcs, _⟩ := hkept rfl
    unfold adc
    rw [hadcs, show quads t = quads lastEntryOver from (exec_only _ ht).quads_eq rfl]
  exact absurd (hsame ▸ of_decide_eq_true hnew) (by rw [hold]; decide)

end Sys2Proof.Machine
end

section
/-! SUPPORT. The thermal manager. -/

namespace Sys2Proof.Machine

theorem modTherm_therm (f : Therm → Therm) (s : State) : (modTherm f s).therm = f s.therm := rfl

/-! ### A source among those of a loop -/

/-- A source that one round of a loop raises is registered after the loop, where its rounds take no time. -/
theorem forEach_raisedAmong {parts : List Part} {f : Nat → State → State} {src det n : Nat} (hp : parts.contains .time = false)
    (honly : ∀ k u, Only parts u (f k u)) (hkeep : ∀ k u, KeepsRaised u (f k u)) (hn : ∀ u, RaisedAmong src det u (f n u)) :
    ∀ {l : List Nat} (s : State), n ∈ l → RaisedAmong src det s (forEach l f s) := by
  intro l
  induction l with
  | nil => exact fun s h => absurd h List.not_mem_nil
  | cons k l ih =>
    intro s h
    rw [forEach_cons]
    rcases List.mem_cons.mp h with rfl | h
    · exact (hn s).kept (KeepsRaised.forEach hkeep l _)
    · exact (ih _ h).after (honly k s) hp

/-! ### The start of a thermal period (R330, R343) -/

/-- What the start tick samples. -/
def thermSampled (s : State) : ThermIn :=
  { diodes := (freshRes s s.therm.dRes).map (fun p => (p.1, diodeTemp s p.1 p.2.2))
    therms := if ntcBad s then [] else (freshRes s s.therm.tRes).map (fun p => (p.1, (p.2.2, ntcTemp p.2.2 (ntcTable s))))
    words := (upto 30).map (fun i => cfg s (thmO (0x040 + 4 * i))) }

/-- A change of mode clears the request, the ceiling and the factor. -/
def modeTaken (m : Nat) (s : State) : State :=
  setLive (thmO Reg.THM_STVFACT) 0x8000 (modTherm (fun t => { t with
    mode := m, req := false, grace := none, await := false, enf := false, ceil := none, factor := 32768 }) s)

theorem thermStart_eq (s : State) : thermStart s = engStart clsTherm 0
    (when (cfgF s (thmO Reg.THM_CFG) 0 0 != s.therm.mode) (modeTaken (cfgF s (thmO Reg.THM_CFG) 0 0))
      (modTherm (fun t => { t with run := some (thermSampled s), ntcBad := ntcBad s, opMin := cfgF s (thmO Reg.THM_CFG) 7 4 }) s)) := rfl

theorem therm_thermStart (s : State) : (thermStart s).therm.run.isSome = true ∧
    (thermStart s).therm.mode = cfgF s (thmO Reg.THM_CFG) 0 0 ∧
    (cfgF s (thmO Reg.THM_CFG) 0 0 ≠ s.therm.mode → (thermStart s).therm.req = false ∧ (thermStart s).therm.grace = none ∧
      (thermStart s).therm.enf = false ∧ (thermStart s).therm.ceil = none ∧ (thermStart s).therm.factor = 32768) := by
  rw [thermStart_eq, (engStart_only _ _ _).keeps .therm rfl]
  by_cases h : cfgF s (thmO Reg.THM_CFG) 0 0 = s.therm.mode
  · rw [show (cfgF s (thmO Reg.THM_CFG) 0 0 != s.therm.mode) = false by simp [h], when_false]
    exact ⟨rfl, h.symm, fun hne => absurd h hne⟩
  · rw [show (cfgF s (thmO Reg.THM_CFG) 0 0 != s.therm.mode) = true by simp [h], when_true]
    exact ⟨rfl, rfl, fun _ => ⟨rfl, rfl, rfl, rfl, rfl⟩⟩

theorem thermStart_eng (s : State) : (eng (thermStart s) clsTherm 0).start = some (now s) ∧
    (eng (thermStart s) clsTherm 0).done = none := by
  have hpre : Only [.live, .therm] s (when (cfgF s (thmO Reg.THM_CFG) 0 0 != s.therm.mode) (modeTaken (cfgF s (thmO Reg.THM_CFG) 0 0))
      (modTherm (fun t => { t with run := some (thermSampled s), ntcBad := ntcBad s, opMin := cfgF s (thmO Reg.THM_CFG) 7 4 }) s)) :=
    ((modTherm_only _ s).mono rfl).when _ _ fun u => ((modTherm_only _ u).mono rfl).via (setLive_only _ _ _) rfl
  rw [thermStart_eq, eng_engStart]
  exact ⟨congrArg some (hpre.now_eq rfl), rfl⟩

theorem exec_thermalStart {s : State} (hawake : awake s = true) (ht : atTick s thermP 0 = true) : exec .thermalStart s =
    .next (calThermalEnd (when (thermMayRun s) (fun s => thermStart (s.setBoot { s.boot with thermOn := true })) s)) :=
  act_runs hawake ht

/-! ### The sources of the groups (R334) -/

/-- The groups that enter a level. -/
def groupsEnter (old new : List Nat) (lvl src : Nat) (s : State) : State :=
  forEach (upto 3) (fun g s => when (new.getD g 0 == lvl && old.getD g 0 != lvl)
    (fun s => if lvl = 3 then raiseOn src g 0x05 1 s else raise src g s) s) s

/-- The groups that lose their last reading. -/
def groupsBlind (blind0 blind1 : List Bool) (s : State) : State :=
  forEach (upto 3) (fun g s => when (blind1.getD g false && !blind0.getD g false)
    (raiseOn Src.THM_GROUP_BLIND g 0x05 2) s) s

theorem raiseGroups_eq (old new : List Nat) (blind0 blind1 : List Bool) (s : State) : raiseGroups old new blind0 blind1 s =
    groupsBlind blind0 blind1 (groupsEnter old new 3 Src.THM_SHUTDOWN (groupsEnter old new 2 Src.THM_THROTTLE
      (groupsEnter old new 1 Src.THM_WARN s))) := rfl

section
variable (old new : List Nat) (lvl src : Nat)

theorem groupEnters_only (g : Nat) (u : State) : Only [.live, .flt] u (when (new.getD g 0 == lvl && old.getD g 0 != lvl)
    (fun s => if lvl = 3 then raiseOn src g 0x05 1 s else raise src g s) u) :=
  (Only.refl _ u).when _ _ fun v => .ite ((raiseOn_only _ _ _ _ v).mono rfl) ((raise_only _ _ v).mono rfl)

theorem groupEnters_keepsRaised (g : Nat) (u : State) : KeepsRaised u (when (new.getD g 0 == lvl && old.getD g 0 != lvl)
    (fun s => if lvl = 3 then raiseOn src g 0x05 1 s else raise src g s) u) :=
  KeepsRaised.when (fun v => KeepsRaised.ite (raiseOn_keepsRaised _ _ _ _ v) (raise_keepsRaised _ _ v)) _ _

theorem groupsEnter_only (s : State) : Only [.live, .flt] s (groupsEnter old new lvl src s) :=
  (Only.refl _ s).forEach _ _ fun g u => groupEnters_only old new lvl src g u

theorem groupsEnter_keepsRaised (s : State) : KeepsRaised s (groupsEnter old new lvl src s) :=
  KeepsRaised.forEach (fun g u => groupEnters_keepsRaised old new lvl src g u) _ s

theorem groupsEnter_among {g : Nat} (s : State) (hg : g < 3) (hnew : new.getD g 0 = lvl) (hold : old.getD g 0 ≠ lvl) :
    RaisedAmong src g s (groupsEnter old new lvl src s) := by
  refine forEach_raisedAmong (parts := [.live, .flt]) rfl (groupEnters_only old new lvl src)
    (groupEnters_keepsRaised old new lvl src) (fun u => ?_) s (List.mem_range.mpr hg)
  rw [hnew, beq_self_eq_true, bne_iff_ne.mpr hold, Bool.and_self, when_true]
  split
  · exact (raiseOn_raised _ _ _ _ _).among
  · exact (raise_raised _ _ _).among

end

theorem groupsBlind_keepsRaised (b c : List Bool) (s : State) : KeepsRaised s (groupsBlind b c s) :=
  KeepsRaised.forEach (fun _ u => KeepsRaised.when (fun v => raiseOn_keepsRaised _ _ _ _ v) _ u) _ s

/-- A group that enters THROTTLE is told. -/
theorem raiseGroups_throttle {old new : List Nat} {g : Nat} (b c : List Bool) (s : State) (hg : g < 3) (hnew : new.getD g 0 = 2)
    (hold : old.getD g 0 ≠ 2) : RaisedAmong Src.THM_THROTTLE g s (raiseGroups old new b c s) := by
  rw [raiseGroups_eq]
  exact ((groupsEnter_among old new 2 Src.THM_THROTTLE _ hg hnew hold).after (groupsEnter_only old new 1 Src.THM_WARN s) rfl).kept
    (.trans (groupsEnter_keepsRaised _ _ _ _ _) (groupsBlind_keepsRaised _ _ _))

/-! ### The latch (R332 to R342) -/

/-- The sensors judged. -/
def sensorsJudged (x : ThermIn) (s : State) : State :=
  forEach (upto 8) (judgeTherm x) (forEach (upto (sectors s)) (judgeSite x) (forEach (upto (sectors s)) (judgePair x)
    (forEach (upto (2 * sectors s)) (judgeDiode x) s)))

/-- The words of the groups, shown after their sources. -/
def groupsShown (temps : List Int) (blind : List Bool) (die : Option Int) (s : State) : State :=
  notePeak die (forEach (upto 3) (fun g s => result (thmO (Reg.THM_GTEMP g))
    (unsigned 16 (nth temps g) + 0x1000000 * b2n (blind.getD g false)) s) s)

/-- What the latch takes. -/
def groupsTaken (new : List Nat) (temps : List Int) (blind : List Bool) (above : Option Nat) (left : Bool) (t : Nat) (s : State) : State :=
  modTherm (fun y => { y with
    run := none, gstate := new, gtemp := temps, blind := blind, above := above, valid := true
    shutAt := if left then t else y.shutAt }) s

/-- What the mode makes of the groups. -/
def throttled (x : ThermIn) (gs : List (Nat × Option Int × Bool)) (hot : Option Nat) (told : Bool) (s : State) : State :=
  if s.therm.mode = 0 then nativeLatch x hot told s
  else setLive (thmO Reg.THM_STVFACT) (BitVec.ofNat 32 (stvFactor x gs)) (modTherm (fun y => { y with factor := stvFactor x gs }) s)

def sitesNoted (x : ThermIn) (sites : List Nat) (s : State) : State := forEach sites (noteHot x) (forEach sites (cycleDetect x) s)

/-- The lowest group in THROTTLE or SHUTDOWN. -/
def hotGroup (new : List Nat) : Option Nat := (upto 3).find? (fun g => decide (2 ≤ new.getD g 0))

def throttleTold (old new : List Nat) : Bool := (upto 3).any (fun g => new.getD g 0 == 2 && old.getD g 0 != 2)

theorem thermCommit_eq {s : State} {x : ThermIn} (h : s.therm.run = some x) : ∃ temps blind above left t die, thermCommit s =
    sitesNoted x (upto (sectors s)) (throttled x (groupsOf x (sensorsJudged x s))
      (hotGroup ((groupsOf x (sensorsJudged x s)).map (·.1)))
      (throttleTold (sensorsJudged x s).therm.gstate ((groupsOf x (sensorsJudged x s)).map (·.1)))
      (groupsTaken ((groupsOf x (sensorsJudged x s)).map (·.1)) temps blind above left t (groupsShown temps blind die
        (raiseGroups (sensorsJudged x s).therm.gstate ((groupsOf x (sensorsJudged x s)).map (·.1)) (sensorsJudged x s).therm.blind
          blind (sensorsJudged x s))))) := by
  refine ⟨((groupsOf x (sensorsJudged x s)).zip (upto 3)).map (fun p => p.1.2.1.getD (nth (sensorsJudged x s).therm.gtemp p.2)),
    (groupsOf x (sensorsJudged x s)).map (·.2.2),
    (((groupsOf x (sensorsJudged x s)).zip (upto 3)).find? (fun p => atThrottle x p.2 p.1.2.1)).map (·.2),
    (sensorsJudged x s).therm.gstate.any (· == 3) && !((groupsOf x (sensorsJudged x s)).map (·.1)).any (· == 3), now s,
    ((groupsOf x (sensorsJudged x s)).getD 0 (0, none, true)).2.1, ?_⟩
  unfold thermCommit
  rw [h]
  rfl

/-- What the judgement of the sensors leaves of the manager. -/
def modeView (s : State) : Nat × Bool := (s.therm.mode, s.therm.req)

theorem modTherm_keepsMode {f : Therm → Therm} {s : State} (h : (f s.therm).mode = s.therm.mode ∧ (f s.therm).req = s.therm.req) :
    Keeps modeView s (modTherm f s) := Prod.ext h.1 h.2

theorem Only.keepsMode {l : List Part} {s t : State} (h : Only l s t) (hp : l.contains .therm = false) : Keeps modeView s t := by
  unfold Keeps modeView
  rw [show t.therm = s.therm from h.keeps .therm hp]

theorem judgeDiode_keepsMode (x : ThermIn) (n : Nat) (s : State) : Keeps modeView s (judgeDiode x n s) := by
  have hfail : ∀ u, Keeps modeView u (failDiode n u) := fun u =>
    .ite (.refl u) (.trans (modTherm_keepsMode ⟨rfl, rfl⟩) ((State.setSparing_only _ _).keepsMode rfl))
  unfold judgeDiode
  split
  · exact .refl s
  · exact .ite (.refl s) (.trans (modTherm_keepsMode ⟨rfl, rfl⟩) (Keeps.when (fun u => .trans (hfail u)
      ((raise_only _ _ _).keepsMode rfl)) _ _))

theorem judgePair_keepsMode (x : ThermIn) (n : Nat) (s : State) : Keeps modeView s (judgePair x n s) := by
  unfold judgePair
  split
  · exact .ite (.trans (modTherm_keepsMode ⟨rfl, rfl⟩) (Keeps.when (fun u => .trans (modTherm_keepsMode ⟨rfl, rfl⟩)
      ((raise_only _ _ _).keepsMode rfl)) _ _)) (.refl s)
  · exact .refl s

theorem judgeSite_keepsMode (x : ThermIn) (n : Nat) (s : State) : Keeps modeView s (judgeSite x n s) :=
  .trans (Keeps.when (p := modeView) (f := fun s => raiseOn Src.THM_SITE_LOST n 0x05 3
      (modTherm (fun y => { y with lost := insertNat n y.lost }) s))
    (fun _ => .trans (modTherm_keepsMode ⟨rfl, rfl⟩) ((raiseOn_only _ _ _ _ _).keepsMode rfl)) _ s) ((setLive_only _ _ _).keepsMode rfl)

theorem judgeTherm_keepsMode (x : ThermIn) (n : Nat) (s : State) : Keeps modeView s (judgeTherm x n s) := by
  unfold judgeTherm
  split
  · exact .refl s
  · exact .ite (.refl s) (.trans (.trans (modTherm_keepsMode ⟨rfl, rfl⟩) (Keeps.when (fun u => .trans
      (modTherm_keepsMode ⟨rfl, rfl⟩) ((raiseOn_only _ _ _ _ _).keepsMode rfl)) _ _)) ((setLive_only _ _ _).keepsMode rfl))

theorem sensorsJudged_keepsMode (x : ThermIn) (s : State) : Keeps modeView s (sensorsJudged x s) :=
  .trans (.trans (.trans (Keeps.forEach (judgeDiode_keepsMode x) _ s) (Keeps.forEach (judgePair_keepsMode x) _ _))
    (Keeps.forEach (judgeSite_keepsMode x) _ _)) (Keeps.forEach (judgeTherm_keepsMode x) _ _)

theorem sensorsJudged_only (x : ThermIn) (s : State) : Only [.live, .flt, .sparing, .therm] s (sensorsJudged x s) :=
  ((((Only.refl _ s).forEach _ _ fun n u => (judgeDiode_only x n u).mono rfl).forEach _ _ fun n u =>
    (judgePair_only x n u).mono rfl).forEach _ _ fun n u => (judgeSite_only x n u).mono rfl).forEach _ _ fun n u =>
      (judgeTherm_only x n u).mono rfl

theorem groupsShown_only (temps : List Int) (blind : List Bool) (die : Option Int) (s : State) :
    Only [.live, .therm] s (groupsShown temps blind die s) :=
  ((Only.refl _ s).forEach _ _ fun _ u => (result_only _ _ u).mono rfl).via (notePeak_only _ _) rfl

theorem notePeak_keepsMode (die : Option Int) (s : State) : Keeps modeView s (notePeak die s) := by
  unfold notePeak
  split
  · exact .refl _
  · exact Keeps.when (fun u => .trans (modTherm_keepsMode ⟨rfl, rfl⟩) ((setLive_only _ _ _).keepsMode rfl)) _ _

theorem groupsShown_keepsMode (temps : List Int) (blind : List Bool) (die : Option Int) (s : State) :
    Keeps modeView s (groupsShown temps blind die s) := by
  exact .trans (Keeps.forEach (p := modeView) (f := fun g s => result (thmO (Reg.THM_GTEMP g))
    (unsigned 16 (nth temps g) + 0x1000000 * b2n (blind.getD g false)) s) (fun g u => (result_only _ _ u).keepsMode rfl) (upto 3) s)
    (notePeak_keepsMode die _)

/-- The state that the mode judges: the groups told, shown and taken. -/
def groupsLatched (x : ThermIn) (temps : List Int) (blind : List Bool) (above : Option Nat) (left : Bool) (t : Nat) (die : Option Int)
    (s : State) : State :=
  groupsTaken ((groupsOf x (sensorsJudged x s)).map (·.1)) temps blind above left t (groupsShown temps blind die
    (raiseGroups (sensorsJudged x s).therm.gstate ((groupsOf x (sensorsJudged x s)).map (·.1)) (sensorsJudged x s).therm.blind
      blind (sensorsJudged x s)))

section
variable (x : ThermIn) (temps : List Int) (blind : List Bool) (above : Option Nat) (left : Bool) (t : Nat) (die : Option Int) (s : State)

theorem groupsLatched_keepsMode : Keeps modeView s (groupsLatched x temps blind above left t die s) :=
  .trans (.trans (.trans (sensorsJudged_keepsMode x s) ((raiseGroups_only _ _ _ _ _).keepsMode rfl)) (groupsShown_keepsMode _ _ _ _))
    (modTherm_keepsMode ⟨rfl, rfl⟩)

theorem groupsLatched_only : Only [.live, .flt, .sparing, .therm] s (groupsLatched x temps blind above left t die s) :=
  (((sensorsJudged_only x s).via (raiseGroups_only _ _ _ _ _) rfl).via (groupsShown_only _ _ _ _) rfl).via (modTherm_only _ _) rfl

theorem groupsLatched_taken : (groupsLatched x temps blind above left t die s).therm.run = none ∧
    (groupsLatched x temps blind above left t die s).therm.valid = true ∧
    (groupsLatched x temps blind above left t die s).therm.gstate = (groupsOf x (sensorsJudged x s)).map (·.1) :=
  ⟨rfl, rfl, rfl⟩

theorem groupsLatched_told {g : Nat} (hg : g < 3) (hnew : ((groupsOf x (sensorsJudged x s)).map (·.1)).getD g 0 = 2)
    (hold : (sensorsJudged x s).therm.gstate.getD g 0 ≠ 2) :
    RaisedAmong Src.THM_THROTTLE g s (groupsLatched x temps blind above left t die s) :=
  ((raiseGroups_throttle _ blind _ hg hnew hold).after (sensorsJudged_only x s) rfl).before
    (((groupsShown_only _ _ _ _).mono rfl : Only [.live, .therm] _ _).via (modTherm_only _ _) rfl) rfl

end

theorem groupsOf_length (x : ThermIn) (s : State) : ((groupsOf x s).map (·.1)).length = 3 := by
  rw [List.length_map]
  unfold groupsOf
  rw [List.length_map]
  rfl

theorem hotGroup_none {new : List Nat} (h : ∀ l, l ∈ new → l < 2) : hotGroup new = none := by
  refine List.find?_eq_none.mpr fun g _ => ?_
  have hlt : new.getD g 0 < 2 := by
    rw [List.getD_eq_getElem?_getD]
    rcases hg : new[g]? with _ | v
    · exact Nat.succ_pos 1
    · exact h v (List.mem_of_getElem? hg)
  simpa using hlt

theorem hotGroup_some {new : List Nat} (hlen : new.length = 3) (h : ∃ l, l ∈ new ∧ 2 ≤ l) : ∃ g, hotGroup new = some g := by
  obtain ⟨v, hv, h2⟩ := h
  obtain ⟨g, hg, rfl⟩ := List.getElem_of_mem hv
  refine Option.isSome_iff_exists.mp (List.find?_isSome.mpr ⟨g, List.mem_range.mpr (hlen ▸ hg), ?_⟩)
  rw [List.getD_eq_getElem?_getD, List.getElem?_eq_getElem hg]
  simpa using h2

/-! ### What the mode makes of the groups (R338, R339, R341) -/

/-- What the mode leaves of what the latch has taken. -/
def takenView (s : State) : Option ThermIn × Bool × List Nat × Nat := (s.therm.run, s.therm.valid, s.therm.gstate, s.therm.mode)

/-- What the sites' detectors leave. -/
def throttleView (s : State) : (Option ThermIn × Bool × List Nat × Nat) × Bool × Bool × Option Nat × Option Nat :=
  (takenView s, s.therm.req, s.therm.enf, s.therm.ceil, s.therm.grace)

theorem Only.keepsTherm {β : Type} {p : State → β} (hp : ∀ u v : State, v.therm = u.therm → p v = p u) {l : List Part} {s t : State}
    (h : Only l s t) (hl : l.contains .therm = false) : Keeps p s t := hp s t (h.keeps .therm hl)

theorem throttleView_of_therm {u v : State} (h : v.therm = u.therm) : throttleView v = throttleView u := by
  unfold throttleView takenView
  rw [h]

theorem takenView_of_therm {u v : State} (h : v.therm = u.therm) : takenView v = takenView u := by
  unfold takenView
  rw [h]

theorem cycleDetect_keeps (x : ThermIn) (site : Nat) (s : State) : Keeps throttleView s (cycleDetect x site s) := by
  have hcyc : ∀ y : Bool × Int, Keeps throttleView s (modTherm (fun t => { t with cyc := t.cyc.put site y }) s) := fun _ => rfl
  have hwear : ∀ (g : Nat) (u : State), Only [.wears] u ((inDuty u g).foldl (fun s n =>
      setWear n { wear s n with cycles := (wear s n).cycles + 1 } s) u) := fun g u =>
    (Only.refl _ u).foldl _ _ fun v n => (setWear_only _ _ v).mono rfl
  unfold cycleDetect
  split
  · exact .refl s
  · dsimp only
    split
    · exact hcyc _
    · exact .ite (.trans (hcyc _) (Keeps.foldl (fun u g => (hwear g u).keepsTherm (fun _ _ h => throttleView_of_therm h) rfl) _ _))
        (hcyc _)
    · exact hcyc _

theorem sitesNoted_keeps (x : ThermIn) (sites : List Nat) (s : State) : Keeps throttleView s (sitesNoted x sites s) :=
  .trans (Keeps.forEach (cycleDetect_keeps x) _ s) (Keeps.forEach (fun site u =>
    (noteHot_only x site u).keepsTherm (fun _ _ h => throttleView_of_therm h) rfl) _ _)

theorem sitesNoted_only (x : ThermIn) (sites : List Nat) (s : State) : Only [.wears, .therm, .seat] s (sitesNoted x sites s) :=
  ((Only.refl _ s).forEach _ _ fun n u => (cycleDetect_only x n u).mono rfl).forEach _ _ fun n u => (noteHot_only x n u).mono rfl

theorem beginEnforce_therm (g : Nat) (s : State) :
    (beginEnforce g s).therm = { s.therm with enf := true, await := false, grace := none } :=
  ((((bump_only _ _).mono rfl : Only [.live, .flt] _ _).via (raiseOn_only _ _ _ _ _) rfl).keeps .therm rfl :)

theorem nativeLatch_taken (x : ThermIn) (hot : Option Nat) (told : Bool) (s : State) :
    Keeps takenView s (nativeLatch x hot told s) := by
  have hbegin : ∀ g u, Keeps takenView u (beginEnforce g u) := fun g u => takenView_of_therm
    (u := modTherm (fun t => { t with enf := true, await := false, grace := none }) u) (beginEnforce_therm g u)
  unfold nativeLatch
  split
  · exact rfl
  · refine .ite (.trans (by rfl) (Keeps.when (fun u => (raise_only _ _ u).keepsTherm (fun _ _ h => takenView_of_therm h) rfl) _ _)) ?_
    split
    · exact Keeps.when (hbegin _) _ _
    · exact .refl s

theorem throttled_taken (x : ThermIn) (gs : List (Nat × Option Int × Bool)) (hot : Option Nat) (told : Bool) (s : State) :
    Keeps takenView s (throttled x gs hot told s) :=
  .ite (nativeLatch_taken x hot told s) (.trans (by rfl) ((setLive_only _ _ _).keepsTherm (fun _ _ h => takenView_of_therm h) rfl))

theorem nativeLatch_cool (x : ThermIn) (told : Bool) (s : State) : nativeLatch x none told s =
    modTherm (fun t => { t with req := false, grace := none, await := false, enf := false, ceil := none }) s := rfl

/-- A request that begins. -/
def requestBegun (x : ThermIn) (s : State) : State :=
  modTherm (fun t => { t with req := true, grace := some (now s + 125000 * (inWord x Reg.THM_CFG).field 25 16) }) s

theorem nativeLatch_begins (x : ThermIn) (h : Nat) (told : Bool) {s : State} (hreq : s.therm.req = false) :
    nativeLatch x (some h) told s = when (!told) (raise Src.THM_THROTTLE h) (requestBegun x s) :=
  if_pos (by rw [hreq]; rfl)

theorem nativeLatch_req (x : ThermIn) (h : Nat) (told : Bool) (s : State) : (nativeLatch x (some h) told s).therm.req = true := by
  rcases hreq : s.therm.req with _ | _
  · rw [nativeLatch_begins x h told hreq, ((Only.refl _ _).when _ _ fun u => raise_only _ _ u).keeps .therm rfl]
    rfl
  · have heq : nativeLatch x (some h) told s = (match s.therm.above with
        | some g => when s.therm.await (beginEnforce g) s
        | none => s) := if_neg (by rw [hreq]; decide)
    rw [heq]
    split
    · cases s.therm.await
      · exact hreq
      · rw [when_true, beginEnforce_therm]
        exact hreq
    · exact hreq

/-- What the latch of a period comes to. -/
theorem thermCommit_latches {s : State} {x : ThermIn} (h : s.therm.run = some x) :
    (thermCommit s).therm.run = none ∧ (thermCommit s).therm.valid = true ∧ (thermCommit s).therm.gstate.length = 3 ∧
      (thermCommit s).therm.mode = s.therm.mode ∧
      (s.therm.mode = 0 → (∀ l, l ∈ (thermCommit s).therm.gstate → l < 2) →
        (thermCommit s).therm.req = false ∧ (thermCommit s).therm.enf = false ∧ (thermCommit s).therm.ceil = none) ∧
      (s.therm.mode = 0 → (∃ l, l ∈ (thermCommit s).therm.gstate ∧ 2 ≤ l) → (thermCommit s).therm.req = true) ∧
      (s.therm.mode = 0 → (∃ l, l ∈ (thermCommit s).therm.gstate ∧ 2 ≤ l) → s.therm.req = false →
        (thermCommit s).therm.grace = some (now s + 125000 * (inWord x Reg.THM_CFG).field 25 16) ∧
        ∃ g, RaisedAmong Src.THM_THROTTLE g s (thermCommit s)) := by
  obtain ⟨temps, blind, above, left, t, die, heq⟩ := thermCommit_eq h
  have hview := groupsLatched_keepsMode x temps blind above left t die s
  obtain ⟨hrun, hvalid, hgs⟩ := groupsLatched_taken x temps blind above left t die s
  have hlatched := groupsLatched_only x temps blind above left t die s
  have htold := fun g => groupsLatched_told x temps blind above left t die s (g := g)
  have hlen := groupsOf_length x (sensorsJudged x s)
  change thermCommit s = sitesNoted x (upto (sectors s)) (throttled x (groupsOf x (sensorsJudged x s))
    (hotGroup ((groupsOf x (sensorsJudged x s)).map (·.1)))
    (throttleTold (sensorsJudged x s).therm.gstate ((groupsOf x (sensorsJudged x s)).map (·.1)))
    (groupsLatched x temps blind above left t die s)) at heq
  generalize groupsLatched x temps blind above left t die s = u at *
  generalize (groupsOf x (sensorsJudged x s)).map (·.1) = new at *
  generalize groupsOf x (sensorsJudged x s) = gs at *
  generalize (sensorsJudged x s).therm.gstate = old at *
  have hnoted := sitesNoted_keeps x (upto (sectors s)) (throttled x gs (hotGroup new) (throttleTold old new) u)
  rw [← heq] at hnoted
  have htaken := throttled_taken x gs (hotGroup new) (throttleTold old new) u
  obtain ⟨hmode, hreq⟩ : u.therm.mode = s.therm.mode ∧ u.therm.req = s.therm.req := Prod.ext_iff.mp hview
  simp only [Keeps, throttleView, takenView, Prod.mk.injEq] at hnoted htaken
  obtain ⟨⟨hr1, hv1, hg1, hm1⟩, hq1, he1, hc1, hgr1⟩ := hnoted
  obtain ⟨hr2, hv2, hg2, hm2⟩ := htaken
  have hnew : (thermCommit s).therm.gstate = new := hg1.trans (hg2.trans hgs)
  have hnative : s.therm.mode = 0 → throttled x gs (hotGroup new) (throttleTold old new) u =
      nativeLatch x (hotGroup new) (throttleTold old new) u := fun h0 => if_pos (hmode.trans h0)
  refine ⟨hr1.trans (hr2.trans hrun), hv1.trans (hv2.trans hvalid), by rw [hnew, hlen], hm1.trans (hm2.trans hmode),
    fun h0 hcool => ?_, fun h0 hhot => ?_, fun h0 hhot hnoreq => ?_⟩
  · rw [hnative h0, hotGroup_none (hnew ▸ hcool), nativeLatch_cool] at hq1 he1 hc1
    exact ⟨hq1, he1, hc1⟩
  · obtain ⟨g, hg⟩ := hotGroup_some hlen (hnew ▸ hhot)
    rw [hnative h0, hg] at hq1
    exact hq1.trans (nativeLatch_req _ _ _ _)
  · obtain ⟨g, hg⟩ := hotGroup_some hlen (hnew ▸ hhot)
    have hbegin := nativeLatch_begins x g (throttleTold old new) (s := u) (hreq.trans hnoreq)
    rw [hnative h0, hg, hbegin] at hgr1 heq
    refine ⟨?_, ?_⟩
    · rw [hgr1, ((Only.refl _ _).when _ _ fun v => raise_only _ _ v).keeps .therm rfl, ← hlatched.now_eq rfl]
      rfl
    · rw [heq]
      have hpost : ∀ v : State, Only [.wears, .therm, .seat] v (sitesNoted x (upto (sectors s)) v) := sitesNoted_only x _
      rcases ht : throttleTold old new with _ | _
      · exact ⟨g, (((raise_raised Src.THM_THROTTLE g (requestBegun x u)).among.after (modTherm_only _ u) rfl).after hlatched rfl).before
          (hpost _) rfl⟩
      · obtain ⟨k, hk, hin⟩ := List.any_eq_true.mp ht
        simp only [Bool.and_eq_true, beq_iff_eq, bne_iff_ne] at hin
        exact ⟨k, ((htold k (List.mem_range.mp hk) hin.1 hin.2).before (modTherm_only _ u) rfl).before (hpost (requestBegun x u)) rfl⟩

/-! ### The grace and the steps (R339, R340) -/

theorem exec_thermalGraceExpiry {s : State} {t0 : Nat} (hawake : awake s = true) (hgrace : s.therm.grace = some t0)
    (ht : t0 ≤ now s) (hdue : engDue s clsTherm 0 = false) : exec .thermalGraceExpiry s = .next (match s.therm.above with
      | some g => beginEnforce g s
      | none => modTherm (fun y => { y with grace := none, await := true }) s) := by
  show execThermalGraceExpiry s = _
  unfold execThermalGraceExpiry
  rw [hgrace]
  exact act_runs hawake (by rw [decide_eq_true ht, hdue]; rfl)

/-! ### Commands (R345) -/

theorem thmRetireWord (n : BitVec 7) : Word.field (BitVec.ofNat 32 (n.toNat + 0x100)) 6 0 = n.toNat ∧
    Word.bit (BitVec.ofNat 32 (n.toNat + 0x100)) 8 = true ∧ Word.bit (BitVec.ofNat 32 (n.toNat + 0x100)) 9 = false ∧
    Word.bit (BitVec.ofNat 32 (n.toNat + 0x100)) 20 = false := by
  revert n
  decide

theorem thmReturnWord (n : BitVec 7) : Word.field (BitVec.ofNat 32 (n.toNat + 0x200)) 6 0 = n.toNat ∧
    Word.bit (BitVec.ofNat 32 (n.toNat + 0x200)) 8 = false ∧ Word.bit (BitVec.ofNat 32 (n.toNat + 0x200)) 9 = true ∧
    Word.bit (BitVec.ofNat 32 (n.toNat + 0x200)) 20 = false := by
  revert n
  decide

theorem thmTreturnWord (k : BitVec 3) : Word.field (BitVec.ofNat 32 (0x10000 * k.toNat + 0x100000)) 18 16 = k.toNat ∧
    Word.bit (BitVec.ofNat 32 (0x10000 * k.toNat + 0x100000)) 8 = false ∧
    Word.bit (BitVec.ofNat 32 (0x10000 * k.toNat + 0x100000)) 9 = false ∧
    Word.bit (BitVec.ofNat 32 (0x10000 * k.toNat + 0x100000)) 20 = true := by
  revert k
  decide

theorem thmCommand_retire {n : BitVec 7} {s : State} (h : n.toNat < 2 * sectors s) :
    thmCommand (BitVec.ofNat 32 (n.toNat + 0x100)) s =
      failDiode n.toNat (modTherm (fun t => { t with maxed := t.maxed.filter (· != n.toNat / 2) }) s) := by
  obtain ⟨hn, h8, h9, h20⟩ := thmRetireWord n
  unfold thmCommand
  dsimp only
  rw [hn, h8, h9, h20, decide_eq_true h]
  rfl

theorem thmCommand_return (n : BitVec 7) (s : State) : thmCommand (BitVec.ofNat 32 (n.toNat + 0x200)) s =
    modTherm (fun t => { t with
      dFail := t.dFail.filter (· != n.toNat), dRun := t.dRun.del n.toNat, disRun := t.disRun.del (n.toNat / 2)
      maxed := t.maxed.filter (· != n.toNat / 2), lost := t.lost.filter (· != n.toNat / 2) }) s := by
  obtain ⟨hn, h8, h9, h20⟩ := thmReturnWord n
  unfold thmCommand
  dsimp only
  rw [hn, h8, h9, h20]
  rfl

theorem thmCommand_treturn (k : BitVec 3) (s : State) : thmCommand (BitVec.ofNat 32 (0x10000 * k.toNat + 0x100000)) s =
    modTherm (fun t => { t with tFail := t.tFail.filter (· != k.toNat), tRun := t.tRun.del k.toNat }) s := by
  obtain ⟨hk, h8, h9, h20⟩ := thmTreturnWord k
  unfold thmCommand
  dsimp only
  rw [hk, h8, h9, h20]
  rfl

theorem mem_filter_ne {l : List Nat} {m n : Nat} (h : m ≠ n) : m ∈ l.filter (· != n) ↔ m ∈ l := by
  simp [h]

theorem not_mem_filter_ne (l : List Nat) (n : Nat) : n ∉ l.filter (· != n) := by simp

theorem failDiode_fails {n : Nat} {s : State} (h : n ∉ s.therm.dFail) :
    (failDiode n s).therm.dFail = insertNat n s.therm.dFail ∧
      Store.get (failDiode n s).sparing.dioIsol 0 n = Store.get s.sparing.dioIsol 0 n + 1 := by
  unfold failDiode
  rw [if_neg (by simpa using h)]
  exact ⟨rfl, congrArg (fun o : Option Nat => o.getD 0) (Store.find_put_same _ _ _)⟩

/-! ### The groups' levels and the factor (R334, R342) -/

/-- A group's temperature stands at a level, or within its hysteresis where the group has reached it. -/
def atLevel (x : ThermIn) (old lvl off : Nat) (t : Int) : Bool :=
  decide (signed 16 ((inWord x off).field 15 0) ≤ t) ||
    (decide (lvl ≤ old) && decide (signed 16 ((inWord x off).field 15 0) - 16 * (inWord x off).field 23 16 ≤ t))

theorem groupState_eq (x : ThermIn) (g old : Nat) (t : Int) : groupState x g old t =
    if atLevel x old 3 (Reg.THM_SHDN g) t then 3 else if atLevel x old 2 (Reg.THM_THROT g) t then 2
      else if atLevel x old 1 (Reg.THM_WARN g) t then 1 else 0 := rfl

theorem groupState_shutdown (x : ThermIn) (g old : Nat) (t : Int) :
    groupState x g old t = 3 ↔ atLevel x old 3 (Reg.THM_SHDN g) t = true := by
  rw [groupState_eq]
  by_cases h : atLevel x old 3 (Reg.THM_SHDN g) t = true
  · rw [if_pos h]
    exact iff_of_true rfl h
  · rw [if_neg h]
    refine iff_of_false ?_ h
    split_ifs <;> decide

theorem groupState_le (x : ThermIn) (g old : Nat) (t : Int) : groupState x g old t ≤ 3 := by
  rw [groupState_eq]
  split_ifs <;> decide

theorem foldl_min_le (l : List Nat) (n : Nat) : l.foldl Nat.min n ≤ n := by
  induction l generalizing n with
  | nil => exact Nat.le_refl n
  | cons a l ih => exact (ih _).trans (Nat.min_le_left n a)

/-- Settles O47. -/
theorem thermalCommands : Obligations.ThermalCommands := by
  refine ⟨fun s hawake ht hmay => ?_, fun s hawake ht hmay => ?_, fun s x hawake hdue hdone hrun => ?_,
    fun s hawake hdue hdone => ?_, fun s t0 hawake hgrace ht => ⟨fun hdue => ?_, fun g hdue habove => ?_, fun hdue habove => ?_⟩,
    fun s hawake henf ht => ?_, fun s a n k hawake hreach hsec => ⟨fun hn hnot => ?_, ?_, ?_⟩,
    fun x g old r => ⟨?_, groupState_le x g old r⟩, fun x gs => foldl_min_le _ _⟩
  · refine ⟨_, exec_thermalStart hawake ht, ?_⟩
    rw [hmay, when_true]
    have hend := calThermalEnd_only (thermStart (s.setBoot { s.boot with thermOn := true }))
    obtain ⟨hrun, hmode, hchange⟩ := therm_thermStart (s.setBoot { s.boot with thermOn := true })
    obtain ⟨hstart, hdone⟩ := thermStart_eng (s.setBoot { s.boot with thermOn := true })
    rw [hend.eng_eq rfl, hend.keeps .therm rfl, hend.keeps .boot rfl]
    refine ⟨hstart, hdone, hrun, ?_, hmode, hchange⟩
    rw [(thermStart_only _).keeps .boot rfl]
    rfl
  · refine ⟨_, exec_thermalStart hawake ht, ?_⟩
    rw [hmay, when_false]
    exact ⟨(calThermalEnd_only s).keeps .therm rfl, (calThermalEnd_only s).keeps .eng rfl⟩
  · refine ⟨_, act_runs hawake hdue, ?_⟩
    rw [latch_done _ _ hdone]
    have hset : Only [.eng] s (setEng clsTherm 0 { eng s clsTherm 0 with start := none, done := none } s) := setEng_only _ _ _ _
    have htherm := hset.keeps .therm rfl
    generalize setEng clsTherm 0 { eng s clsTherm 0 with start := none, done := none } s = u at hset htherm
    obtain ⟨hrun', hvalid, hlen, hmode, hcool, hhot, hbegins⟩ := thermCommit_latches (s := u) (by rw [htherm]; exact hrun)
    rw [htherm, hset.now_eq rfl] at *
    exact ⟨hrun', hvalid, hlen, hmode, hcool, hhot, fun hm h hreq => (hbegins hm h hreq).imp id
      fun ⟨g, hg⟩ => ⟨g, hg.after hset rfl⟩⟩
  · refine ⟨_, act_runs hawake hdue, ?_⟩
    rw [latch_overrun _ _ hdone]
    refine ⟨?_, (overrun_among clsTherm 0 s).before (modTherm_only _ _) rfl⟩
    rw [modTherm_therm, (overrun_only _ _ _).keeps .therm rfl]
  · show execThermalGraceExpiry s = _
    unfold execThermalGraceExpiry
    rw [hgrace]
    exact act_idle (.inr (by rw [hdue]; simp))
  · refine ⟨_, exec_thermalGraceExpiry hawake hgrace ht hdue, ?_⟩
    rw [habove]
    refine ⟨beginEnforce_therm g s, (raiseOn_raised _ _ _ _ _).after (((modTherm_only _ s).mono rfl :
      Only [.therm, .live] _ _).via (bump_only _ _) rfl) rfl rfl, ?_⟩
    have hne : thmO Reg.THM_THROTTLES ≠ pg 0x05 PAGE_FLT := by decide
    exact (congrArg BitVec.toNat (live_raiseOn_other hne _ _ _ _)).trans (bump_toNat _ _)
  · refine ⟨_, exec_thermalGraceExpiry hawake hgrace ht hdue, ?_⟩
    rw [habove]
    exact ⟨rfl, modTherm_only _ _⟩
  · refine ⟨_, act_runs hawake (by rw [henf, ht]; rfl), ?_, bump_toNat _ _, ((modTherm_only _ _).mono rfl).via (bump_only _ _) rfl⟩
    rw [(bump_only _ _).keeps .therm rfl]
    cases s.therm.ceil <;> rfl
  · refine ⟨_, secureCmd_ok hawake hreach hsec _, ?_⟩
    rw [thmCommand_retire hn]
    have hpost := respond_only a (.ok 0)
      (failDiode n.toNat (modTherm (fun t => { t with maxed := t.maxed.filter (· != n.toNat / 2) }) s))
    obtain ⟨hfail, hcount⟩ := failDiode_fails (n := n.toNat)
      (s := modTherm (fun t => { t with maxed := t.maxed.filter (· != n.toNat / 2) }) s) hnot
    rw [hpost.keeps .therm rfl, hpost.keeps .sparing rfl, hfail]
    refine ⟨mem_insertNat.mpr (.inl rfl), fun m hm => mem_insertNat.trans (or_iff_right hm), hcount, ?_⟩
    exact ((((modTherm_only _ s).mono rfl : Only [.therm, .sparing, .ports] _ _).via (failDiode_only _ _) rfl).via hpost rfl).keeps .flt rfl
  · refine ⟨_, secureCmd_ok hawake hreach hsec _, ?_⟩
    rw [thmCommand_return, (respond_only _ _ _).keeps .therm rfl]
    exact ⟨not_mem_filter_ne _ _, not_mem_filter_ne _ _, fun m hm => mem_filter_ne hm,
      ((modTherm_only _ _).mono rfl).via (respond_only _ _ _) rfl⟩
  · refine ⟨_, secureCmd_ok hawake hreach hsec _, ?_⟩
    rw [thmCommand_treturn, (respond_only _ _ _).keeps .therm rfl]
    exact ⟨not_mem_filter_ne _ _, fun m hm => mem_filter_ne hm, ((modTherm_only _ _).mono rfl).via (respond_only _ _ _) rfl⟩
  · rw [groupState_shutdown]
    unfold atLevel
    simp only [Bool.or_eq_true, Bool.and_eq_true, decide_eq_true_eq]

end Sys2Proof.Machine
end

section
/-! SUPPORT. The cap loop: its samples, its selection, and the point that it takes. -/

namespace Sys2Proof.Machine

theorem modCap_cap (f : CapLoop → CapLoop) (s : State) : (modCap f s).cap = f s.cap := rfl

/-- What a loop has put for one of its numbers. -/
theorem find_foldl_put {α : Type} (f : Nat → α) {i : Nat} {l : List Nat} {m : Store α} (h : i ∈ l ∨ m.find i = some (f i)) :
    (l.foldl (fun m k => m.put k (f k)) m).find i = some (f i) := by
  induction l generalizing m with
  | nil => exact h.resolve_left List.not_mem_nil
  | cons k l ih =>
    refine ih ?_
    by_cases hk : i = k
    · exact .inr (hk ▸ Store.find_put_same m k (f k))
    · refine h.imp (fun hin => (List.mem_cons.mp hin).resolve_left hk) fun hf => ?_
      rw [Store.find_put_other m k i (f k) hk, hf]

/-! ### The start of a capping period (R359, R360) -/

/-- The samples of a capping period. -/
def capSampled (s : State) : State :=
  engStart clsCap 0 (modCap (fun c => { c with run := some (capCompute s) })
    (setLive (pwrO Reg.PWR_ICAP) (BitVec.ofNat 32 (satN 13 (baseCap s).round)) s))

theorem capStart_eq (s : State) : capStart s = sendCaps (capSampled s) := rfl

theorem capSampled_only (s : State) : Only [.live, .cap, .eng] s (capSampled s) :=
  (((setLive_only _ _ s).mono rfl).via (modCap_only _ _) rfl).via (engStart_only _ _ _) rfl

theorem sendCaps_quiet {s : State} (h : s.bridge.role ≠ 1) : sendCaps s = s := by
  unfold sendCaps
  dsimp only
  rw [beq_eq_false_iff_ne.mpr h, when_false]

theorem sendCaps_sends {s : State} {i : Nat} (h : s.bridge.role = 1) (hi : i ∈ peersOf s) : (sendCaps s).bridge.capSent.find i =
    some (satN 13 (Frac.make ((cfgF s (pwrO Reg.PWR_CAP) 12 0 : Int) * ishare s i) 256).round) := by
  unfold sendCaps
  dsimp only
  rw [beq_iff_eq.mpr h, when_true]
  exact find_foldl_put (fun i => satN 13 (Frac.make ((cfgF s (pwrO Reg.PWR_CAP) 12 0 : Int) * ishare s i) 256).round) (.inl hi)

/-! ### The latch (R350, R354) -/

theorem takePoint_cap (k : Nat) (s : State) : (takePoint k s).cap = { s.cap with point := k } := by
  unfold takePoint
  by_cases h : k = s.cap.point
  · rw [if_pos h, h]
  · rw [if_neg h]
    have hpost : Only [.live, .secs] (modCap (fun c => { c with point := k }) s) (forEach (upto (sectors s)) opTakesEffect
        (bump (pwrO Reg.PWR_PTCHG) (modCap (fun c => { c with point := k }) s))) :=
      ((bump_only _ _).mono rfl).forEach _ _ fun sc u => (opTakesEffect_only sc u).mono rfl
    exact hpost.keeps .cap rfl

theorem fixedBreach_cap (r : CapRes) (s : State) : ∃ b, (fixedBreach r s).cap = { s.cap with breach := b } ∧
    (r.fixed = false → b = false) := by
  unfold fixedBreach
  by_cases h : (r.fixed && decide (r.point < r.pref)) = true
  · rw [if_pos h]
    refine ⟨true, ?_, fun hf => by rw [hf] at h; cases h⟩
    rw [((Only.refl _ _).when _ _ fun u => raiseOn_only _ _ _ _ u).keeps .cap rfl, modCap_cap]
    exact congrArg (fun c : CapLoop => { c with breach := true })
      ((((setLive_only _ _ s).mono rfl : Only [.live] _ _).via (bumpF_only _ _ _ _) rfl).keeps .cap rfl)
  · rw [if_neg h]
    exact ⟨false, rfl, fun _ => rfl⟩

/-- The words of a latched point. -/
def pointShown (r : CapRes) (quads : List Nat) (tell : Bool) (s : State) : State :=
  when tell (raiseOn Src.PWR_CAP_UNMET 0 0x04 2)
    (forEach quads (fun q => result (pwrO (Reg.PWR_QLOG q)) (powerCode (fnth r.quads q)))
      (forEach (upto 4) (fun d => result (pwrO (Reg.PWR_DOM d)) (powerCode (fnth r.doms d)))
        (result (pwrO Reg.PWR_CHIP) (powerCode r.chip)
          (setLive (pwrO Reg.PWR_CAPEFF) (BitVec.ofNat 32 (powerCode (r.cap.scale wattU))) s))))

theorem pointShown_only (r : CapRes) (quads : List Nat) (tell : Bool) (s : State) : Only [.live, .flt] s (pointShown r quads tell s) :=
  ((((((setLive_only _ _ s).mono rfl).via (result_only _ _ _) rfl).forEach _ _ fun _ u => (result_only _ _ u).mono rfl).forEach _ _
    fun _ u => (result_only _ _ u).mono rfl)).when _ _ fun u => (raiseOn_only _ _ _ _ u).mono rfl

theorem capCommit_eq {s : State} {r : CapRes} (h : s.cap.run = some r) : ∃ tell, capCommit s =
    fixedBreach r (pointShown r (upto (quads s)) tell (takePoint r.point (modCap (fun c => { c with run := none, last := some r }) s))) := by
  refine ⟨r.unmet && !(match s.cap.last with
    | some l => l.unmet
    | none => false), ?_⟩
  unfold capCommit
  rw [h]
  rfl

theorem capCommit_cap {s : State} {r : CapRes} (h : s.cap.run = some r) : ∃ b, (capCommit s).cap =
    { s.cap with run := none, last := some r, point := r.point, breach := b } ∧ (r.fixed = false → b = false) := by
  obtain ⟨tell, heq⟩ := capCommit_eq h
  obtain ⟨b, hb, hfree⟩ := fixedBreach_cap r (pointShown r (upto (quads s)) tell
    (takePoint r.point (modCap (fun c => { c with run := none, last := some r }) s)))
  refine ⟨b, ?_, hfree⟩
  rw [heq, hb, (pointShown_only _ _ _ _).keeps .cap rfl, takePoint_cap]
  rfl

/-! ### The selection (R361 to R363) -/

/-- What the selection finds: a point no higher than it began from, which passes every check. -/
theorem selectFrom_some {s : State} {m : Measured} {cap : Frac} {c pref : Nat} : ∀ {k why j : Nat},
    (selectFrom s m cap c pref k why).1 = some j → j ≤ k ∧ fails s m cap c j = (false, false) := by
  have hpass : ∀ k, (!(fails s m cap c k).1 && !(fails s m cap c k).2) = true → fails s m cap c k = (false, false) := fun k h => by
    rw [Bool.and_eq_true, Bool.not_eq_true', Bool.not_eq_true'] at h
    exact Prod.ext h.1 h.2
  intro k
  induction k with
  | zero =>
    intro why j h
    unfold selectFrom at h
    dsimp only at h
    split at h
    · obtain rfl := Option.some.inj h
      exact ⟨Nat.le_refl _, hpass _ ‹_›⟩
    · cases h
  | succ k ih =>
    intro why j h
    unfold selectFrom at h
    dsimp only at h
    split at h
    · obtain rfl := Option.some.inj h
      exact ⟨Nat.le_refl _, hpass _ ‹_›⟩
    · obtain ⟨hle, hf⟩ := ih h
      exact ⟨hle.trans (Nat.le_succ k), hf⟩

/-- The highest point that the period may take. -/
def capUpper (s : State) : Nat :=
  match s.therm.ceil with
  | some c => Nat.min (wishPoint s) c
  | none => wishPoint s

def capTop (s : State) : Nat := Nat.min (capUpper s) (opIndex s + (cfg s (pwrO Reg.PWR_CTL)).field 11 8)

/-- What the period selects. -/
def capSelected (s : State) : Option Nat × Nat :=
  if (cfg s (pwrO Reg.PWR_CTL)).bit 0 then
    selectFrom s (measure s) (effCap s) (opIndex s) (prefPoint s) (capTop s) 0 else (some (capTop s), 0)

theorem capCompute_fields (s : State) : (capCompute s).upper = capUpper s ∧ (capCompute s).point = (capSelected s).1.getD 0 ∧
    (capCompute s).unmet = (capSelected s).1.isNone := ⟨rfl, rfl, rfl⟩

theorem capSelected_le (s : State) : (capSelected s).1.getD 0 ≤ capTop s := by
  unfold capSelected
  split
  · rcases h : (selectFrom s (measure s) (effCap s) (opIndex s) (prefPoint s) (capTop s) 0).1 with _ | j
    · exact Nat.zero_le _
    · exact (selectFrom_some h).1
  · exact Nat.le_refl _

theorem capUpper_le {s : State} {c : Nat} (h : s.therm.ceil = some c) : capUpper s ≤ c := by
  unfold capUpper
  rw [h]
  exact Nat.min_le_right _ _

theorem capSelected_passes {s : State} (h : cfgB s (pwrO Reg.PWR_CTL) 0 = true) (hm : (capSelected s).1.isNone = false) :
    fails s (measure s) (effCap s) (opIndex s) ((capSelected s).1.getD 0) = (false, false) := by
  have heq : capSelected s = selectFrom s (measure s) (effCap s) (opIndex s) (prefPoint s) (capTop s) 0 := if_pos h
  rw [heq] at hm ⊢
  rcases hj : (selectFrom s (measure s) (effCap s) (opIndex s) (prefPoint s) (capTop s) 0).1 with _ | j
  · rw [hj] at hm
    cases hm
  · exact (selectFrom_some hj).2

/-- Settles O48. -/
theorem capLoopCommands : Obligations.CapLoopCommands := by
  refine ⟨fun s hawake ht => ?_, fun s r hawake hdue hdone hrun => ?_, fun s hawake hdue hdone => ?_, fun s => ?_⟩
  · have hpre := capSampled_only s
    have hpost := sendCaps_only (capSampled s)
    have hbridge : (capSampled s).bridge = s.bridge := hpre.keeps .bridge rfl
    refine ⟨_, act_runs hawake ht, ?_⟩
    rw [capStart_eq]
    refine ⟨?_, ?_, ?_, (hpre.mono rfl).via hpost rfl, fun hr => ?_, fun i hr hi => ?_⟩
    · rw [hpost.eng_eq rfl]
      refine (congrArg EngRun.start (eng_engStart _ _ _)).trans (congrArg some ?_)
      exact hpre.now_eq rfl
    · rw [hpost.keeps .cap rfl]
      rfl
    · rw [hpost.live_eq rfl rfl]
      unfold capSampled
      rw [(engStart_only _ _ _).live_eq rfl rfl, (modCap_only _ _).live_eq rfl rfl, live_setLive_same]
    · rw [sendCaps_quiet (by rw [hbridge]; exact hr), hbridge]
    · have hpeers : peersOf (capSampled s) = peersOf s := by
        unfold peersOf
        rw [hbridge]
      have hshare : ishare (capSampled s) i = ishare s i := by
        unfold ishare
        rw [hpre.cfg_eq rfl rfl]
      rw [sendCaps_sends (by rw [hbridge]; exact hr) (by rw [hpeers]; exact hi), hshare, hpre.cfgF_eq rfl rfl]
  · refine ⟨_, act_runs hawake hdue, ?_⟩
    rw [latch_done _ _ hdone]
    have hset : (setEng clsCap 0 { eng s clsCap 0 with start := none, done := none } s).cap = s.cap :=
      (setEng_only _ _ _ _).keeps .cap rfl
    obtain ⟨b, hb, hfree⟩ := capCommit_cap (hset.symm ▸ hrun :
      (setEng clsCap 0 { eng s clsCap 0 with start := none, done := none } s).cap.run = some r)
    rw [hb, hset]
    exact ⟨rfl, rfl, rfl, hfree, rfl⟩
  · refine ⟨_, act_runs hawake hdue, ?_⟩
    rw [latch_overrun _ _ hdone]
    refine ⟨?_, ?_, (overrun_among clsCap 0 s).before (modCap_only _ _) rfl⟩
    · rw [modCap_cap, (overrun_only _ _ _).keeps .cap rfl]
    · rw [(modCap_only _ _).keeps .secs rfl, (overrun_only _ _ _).keeps .secs rfl]
  · obtain ⟨hupper, hpoint, hunmet⟩ := capCompute_fields s
    rw [hupper, hpoint, hunmet]
    have hle := capSelected_le s
    refine ⟨hle.trans (Nat.min_le_left _ _), hle.trans (Nat.min_le_right _ _), fun c hc => capUpper_le hc,
      fun hen hm => capSelected_passes hen hm, fun hm => ?_⟩
    rw [Option.isNone_iff_eq_none.mp hm]
    rfl

end Sys2Proof.Machine
end

section
/-! SUPPORT. The energy accumulators and the job slots. -/

namespace Sys2Proof.Machine

/-! ### Tick 1,200 (R365, R366, R368) -/

/-- An increment joins the accumulator, is kept for the slots, and is sent by a joined secondary. -/
def energyJoined (e : Nat) (est hold : Bool) (s : State) : State :=
  when (bridged s && s.bridge.joined) (fun u => u.setBridge { u.bridge with enSent := some (e % 2 ^ 48, (estNo s - 1) % 65536) })
    (setEflags (b2n est + 2 * b2n hold) (modCap (fun c => { c with
      acc := addAcc c.acc e, subst := est || hold, inc := some ⟨(estNo s - 1) % 65536, e, est, hold⟩ }) s))

theorem energyAdd_eq (s : State) : energyAdd s =
    when (((chipEnergy s).2.1 || (chipEnergy s).2.2) && !s.cap.subst) (raiseOn Src.PWR_ENERGY_EST 0 0x04 4)
      (energyJoined (chipEnergy s).1 (chipEnergy s).2.1 (chipEnergy s).2.2 s) := by
  unfold energyAdd
  generalize chipEnergy s = p
  obtain ⟨e, est, hold⟩ := p
  rfl

theorem energyJoined_only (e : Nat) (est hold : Bool) (s : State) : Only [.live, .cap, .bridge] s (energyJoined e est hold s) :=
  (((modCap_only _ s).mono rfl).via (setEflags_only _ _) rfl).when _ _ fun u => (State.setBridge_only u _).mono rfl

theorem energyJoined_cap (e : Nat) (est hold : Bool) (s : State) : (energyJoined e est hold s).cap =
    { s.cap with acc := addAcc s.cap.acc e, subst := est || hold, inc := some ⟨(estNo s - 1) % 65536, e, est, hold⟩ } := by
  unfold energyJoined
  rw [((Only.refl _ _).when _ _ fun u => State.setBridge_only u _).keeps .cap rfl, (setEflags_only _ _).keeps .cap rfl]
  rfl

theorem energyJoined_sent {s : State} (e : Nat) (est hold : Bool) (hb : bridged s = true) (hj : s.bridge.joined = true) :
    (energyJoined e est hold s).bridge.enSent = some (e % 2 ^ 48, (estNo s - 1) % 65536) := by
  unfold energyJoined
  rw [hb, hj]
  rfl

/-! ### The slots (R371) -/

/-- A loop that changes each of its slots once, and takes no time. -/
theorem jobSlot_forEach_each {op : Nat → State → State} {f : Nat → Nat → JobSlot → JobSlot} (hnow : ∀ j s, now (op j s) = now s)
    (hsame : ∀ j s, jobSlot (op j s) j = f (now s) j (jobSlot s j)) (hother : ∀ j s k, k ≠ j → jobSlot (op j s) k = jobSlot s k)
    {l : List Nat} (hl : l.Nodup) (s : State) (k : Nat) :
    jobSlot (forEach l op s) k = if k ∈ l then f (now s) k (jobSlot s k) else jobSlot s k := by
  induction l generalizing s with
  | nil => rfl
  | cons j l ih =>
    obtain ⟨hj, hl⟩ := List.nodup_cons.mp hl
    rw [forEach_cons, ih hl, hnow]
    by_cases hk : k = j
    · subst hk
      rw [if_neg hj, if_pos List.mem_cons_self, hsame]
    · simp only [List.mem_cons, hk, false_or, hother j s k hk]

/-- The energy that the slots take, and whether a chip has sent none. -/
def jobShare (s : State) : Nat × List Nat := if s.bridge.role = 1 then groupEnergy s else ((lastInc s).e, [])

/-- The slots that were active. -/
def jobsOn (s : State) : List Nat := (upto 16).filter (fun j => activeAt (jobSlot s j) (now s - 1240 - estP))

/-- A slot that takes a period's energy `e`. -/
def jobTakes (e : Nat) (own : Increment) (part shared : Bool) (x : JobSlot) : JobSlot :=
  { x with acc := addAcc x.acc e, est := x.est || own.est, hold := x.hold || own.hold, part := x.part || part
           shared := x.shared || shared }

/-- A slot whose last period this was ends. -/
def jobCloses (t : Nat) (y : JobSlot) : JobSlot :=
  if y.state = .ending && decide (y.stop ≤ t - 1240) then { y with state := .ended, ended := t } else y

/-- What tick 1,240 makes of a slot. -/
def jobCounted (on : List Nat) (e : Nat) (own : Increment) (part : Bool) (t j : Nat) (x : JobSlot) : JobSlot :=
  jobCloses t (if on.contains j then jobTakes e own part (decide (1 < on.length)) x else x)

/-- The slots after tick 1,240. -/
def jobsCounted (on : List Nat) (e : Nat) (own : Increment) (part : Bool) (s : State) : State :=
  forEach (upto 16) (fun j s => setJob j (jobCounted on e own part (now s) j (jobSlot s j)) s) s

/-- What else tick 1,240 brings. -/
def groupCounted (e : Nat) (missing : List Nat) (primary : Bool) (s : State) : State :=
  when (!missing.isEmpty) (fun s => setEflags 4 (pageFlt 0x04 5 (missing.foldl (fun s i => raise Src.PWR_GROUP_PARTIAL i s) s)))
    (when primary (modCap (fun c => { c with grp := addAcc c.grp e, recv := [] })) s)

theorem jobEnergyAdd_eq (s : State) : jobEnergyAdd s = groupCounted (jobShare s).1 (jobShare s).2 (s.bridge.role == 1)
    (jobsCounted (jobsOn s) (jobShare s).1 (lastInc s) (!(jobShare s).2.isEmpty) s) := rfl

theorem groupCounted_only (e : Nat) (missing : List Nat) (primary : Bool) (s : State) :
    Only [.cap, .live, .flt] s (groupCounted e missing primary s) :=
  ((Only.refl _ s).when _ _ fun u => (modCap_only _ u).mono rfl).when _ _ fun u =>
    (((Only.refl _ u).foldl _ _ fun v _ => (raise_only _ _ v).mono rfl).via (pageFlt_only _ _ _) rfl).via (setEflags_only _ _) rfl

theorem jobSlot_jobEnergyAdd {j : Nat} (s0 : State) (hj : j < 16) : jobSlot (jobEnergyAdd s0) j =
    jobCounted (jobsOn s0) (jobShare s0).1 (lastInc s0) (!(jobShare s0).2.isEmpty) (now s0) j (jobSlot s0 j) := by
  rw [jobEnergyAdd_eq, (groupCounted_only _ _ _ _).jobSlot_eq rfl]
  exact (jobSlot_forEach_each
    (op := fun j s => setJob j (jobCounted (jobsOn s0) (jobShare s0).1 (lastInc s0) (!(jobShare s0).2.isEmpty) (now s) j (jobSlot s j)) s)
    (f := jobCounted (jobsOn s0) (jobShare s0).1 (lastInc s0) (!(jobShare s0).2.isEmpty))
    (fun _ _ => rfl) (fun _ _ => jobSlot_setJob_same _ _ _) (fun _ _ _ hk => jobSlot_setJob_other hk _ _) List.nodup_range s0 j).trans (if_pos (List.mem_range.mpr hj))

theorem jobsOn_contains {s : State} {j : Nat} (hj : j < 16) :
    (jobsOn s).contains j = activeAt (jobSlot s j) (now s - 1240 - estP) := by
  rw [Bool.eq_iff_iff, List.contains_iff_mem]
  unfold jobsOn
  rw [List.mem_filter]
  exact and_iff_right (List.mem_range.mpr hj)

theorem jobCloses_fields (t : Nat) (y : JobSlot) : (jobCloses t y).id = y.id ∧ (jobCloses t y).acc = y.acc ∧
    (y.state = .ending → y.stop ≤ t - 1240 → (jobCloses t y).state = .ended) ∧
    (y.state ≠ .ending → (jobCloses t y).state = y.state) := by
  unfold jobCloses
  refine ⟨by split <;> rfl, by split <;> rfl, fun he hs => ?_, fun he => ?_⟩
  · rw [if_pos (by rw [he, decide_eq_true hs]; rfl)]
  · rw [if_neg (by simp [he])]

theorem jobCounted_fields (on : List Nat) (e : Nat) (own : Increment) (part : Bool) (t j : Nat) (x : JobSlot) :
    (jobCounted on e own part t j x).id = x.id ∧
    (jobCounted on e own part t j x).acc = (if on.contains j then addAcc x.acc e else x.acc) ∧
    (x.state = .ending → x.stop ≤ t - 1240 → (jobCounted on e own part t j x).state = .ended) ∧
    (x.state ≠ .ending → (jobCounted on e own part t j x).state = x.state) := by
  unfold jobCounted
  obtain ⟨hid, hacc, hends, hstays⟩ := jobCloses_fields t
    (if on.contains j then jobTakes e own part (decide (1 < on.length)) x else x)
  rw [hid, hacc]
  by_cases h : on.contains j = true
  · rw [if_pos h] at hends hstays ⊢
    rw [if_pos h]
    exact ⟨rfl, rfl, hends, hstays⟩
  · rw [if_neg h] at hends hstays ⊢
    rw [if_neg h]
    exact ⟨rfl, rfl, hends, hstays⟩

theorem jobShare_energy (s : State) : (jobShare s).1 = if s.bridge.role = 1 then (groupEnergy s).1 else (lastInc s).e := by
  unfold jobShare
  split <;> rfl

/-! ### The slot that a start takes (R369, R370) -/

/-- Slot `i` ended before slot `j`, or with it and stands before it. -/
def endedBefore (s : State) (i j : Nat) : Prop :=
  (jobSlot s i).ended < (jobSlot s j).ended ∨ (jobSlot s i).ended = (jobSlot s j).ended ∧ i ≤ j

/-- The earlier of two ended slots. -/
def earlierEnded (s : State) (b : Option Nat) (j : Nat) : Option Nat :=
  match b with
  | none => some j
  | some i => if (jobSlot s j).ended < (jobSlot s i).ended then some j else some i

/-- A loop over ended slots in ascending order finds the one that ended first. -/
theorem foldl_earlierEnded (s : State) : ∀ (l : List Nat) (i : Nat), (i :: l).Pairwise (· < ·) →
    ∃ x, l.foldl (earlierEnded s) (some i) = some x ∧ x ∈ i :: l ∧ ∀ k ∈ i :: l, endedBefore s x k := by
  intro l
  induction l with
  | nil => exact fun i _ => ⟨i, rfl, List.mem_cons_self, fun k hk => by
      obtain rfl := List.mem_singleton.mp hk
      exact .inr ⟨rfl, Nat.le_refl _⟩⟩
  | cons j l ih =>
    intro i h
    obtain ⟨hi, hjl⟩ := List.pairwise_cons.mp h
    have hij : i < j := hi j List.mem_cons_self
    rw [List.foldl_cons]
    by_cases hlt : (jobSlot s j).ended < (jobSlot s i).ended
    · rw [show earlierEnded s (some i) j = some j from if_pos hlt]
      obtain ⟨x, hx, hin, hfirst⟩ := ih j hjl
      refine ⟨x, hx, List.mem_cons_of_mem _ hin, fun k hk => ?_⟩
      rcases List.mem_cons.mp hk with rfl | hk
      · have := hfirst j List.mem_cons_self
        unfold endedBefore at this ⊢
        omega
      · exact hfirst k hk
    · rw [show earlierEnded s (some i) j = some i from if_neg hlt]
      obtain ⟨x, hx, hin, hfirst⟩ := ih i (List.pairwise_cons.mpr ⟨fun k hk => hi k (List.mem_cons_of_mem _ hk),
        (List.pairwise_cons.mp hjl).2⟩)
      refine ⟨x, hx, ?_, fun k hk => ?_⟩
      · rcases List.mem_cons.mp hin with rfl | hin
        · exact List.mem_cons_self
        · exact List.mem_cons_of_mem _ (List.mem_cons_of_mem _ hin)
      · rcases List.mem_cons.mp hk with rfl | hk
        · exact hfirst k List.mem_cons_self
        · rcases List.mem_cons.mp hk with rfl | hk
          · have := hfirst i List.mem_cons_self
            unfold endedBefore at this ⊢
            omega
          · exact hfirst k (List.mem_cons_of_mem _ hk)

/-- The ended slots, in ascending order. -/
def endedSlots (s : State) : List Nat := (upto 16).filter (fun j => (jobSlot s j).state == .ended)

theorem mem_endedSlots {s : State} {j : Nat} : j ∈ endedSlots s ↔ j < 16 ∧ (jobSlot s j).state = .ended := by
  unfold endedSlots
  rw [List.mem_filter, beq_iff_eq]
  exact and_congr_left fun _ => List.mem_range

theorem jobFor_free {s : State} {j : Nat} (hj : j < 16) (hf : (jobSlot s j).state = .free)
    (hbefore : ∀ k, k < j → (jobSlot s k).state ≠ .free) : jobFor s = some j := by
  unfold jobFor
  rw [find?_upto (p := fun j => (jobSlot s j).state == .free) hj (beq_iff_eq.mpr hf) fun k hk => beq_eq_false_iff_ne.mpr (hbefore k hk)]

theorem jobFor_ended {s : State} (hno : ∀ k, k < 16 → (jobSlot s k).state ≠ .free) :
    jobFor s = (endedSlots s).foldl (earlierEnded s) none := by
  have hfind : (upto 16).find? (fun j => (jobSlot s j).state == .free) = none :=
    List.find?_eq_none.mpr fun k hk => by simpa using hno k (List.mem_range.mp hk)
  unfold jobFor
  rw [hfind] <;> rfl

theorem jobFor_first {s : State} {j : Nat} (hno : ∀ k, k < 16 → (jobSlot s k).state ≠ .free) (hj : j < 16)
    (he : (jobSlot s j).state = .ended) (hfirst : ∀ k, k < 16 → (jobSlot s k).state = .ended → endedBefore s j k) :
    jobFor s = some j := by
  rw [jobFor_ended hno]
  have hsorted : (endedSlots s).Pairwise (· < ·) := List.Pairwise.filter _ List.pairwise_lt_range
  rcases hl : endedSlots s with _ | ⟨i, l⟩
  · exact absurd (mem_endedSlots.mpr ⟨hj, he⟩) (by rw [hl]; exact List.not_mem_nil)
  · obtain ⟨x, hx, hin, hall⟩ := foldl_earlierEnded s l i (hl ▸ hsorted)
    refine hx.trans (congrArg some ?_)
    rw [← hl] at hin hall
    obtain ⟨hx16, hxe⟩ := mem_endedSlots.mp hin
    have h1 := hall j (mem_endedSlots.mpr ⟨hj, he⟩)
    have h2 := hfirst x hx16 hxe
    unfold endedBefore at h1 h2
    omega

theorem jobFor_none {s : State} (h : ∀ j, j < 16 → (jobSlot s j).state ≠ .free ∧ (jobSlot s j).state ≠ .ended) : jobFor s = none := by
  have hl : endedSlots s = [] := List.filter_eq_nil_iff.mpr fun k hk => by simpa using (h k (List.mem_range.mp hk)).2
  rw [jobFor_ended fun k hk => (h k hk).1, hl]
  rfl

theorem jobStart_takes {id : Word} {s : State} (hr : s.bridge.role ≠ 2)
    (hnew : ∀ j, j < 16 → (jobSlot s j).id = id → (jobSlot s j).state = .free ∨ (jobSlot s j).state = .ended) :
    jobStart id s = match jobFor s with
      | none => raise Src.JOB_SLOTS_FULL 0 (jobErr 7 0 s)
      | some j => setJob j { job0 with state := .active, id := id, seq := ((jobSlot s j).seq + 1) % 256, start := now s } s := by
  have hany : (upto 16).any (fun j => (jobSlot s j).id == id &&
      ((jobSlot s j).state == .active || (jobSlot s j).state == .ending)) = false :=
    List.any_eq_false.mpr fun j hj => by
      simp only [Bool.and_eq_true, Bool.or_eq_true, beq_iff_eq, not_and, not_or]
      intro hid
      rcases hnew j (List.mem_range.mp hj) hid with h | h <;> rw [h] <;> exact ⟨nofun, nofun⟩
  unfold jobStart
  rw [if_neg hr, if_neg (by rw [hany]; decide)] <;> rfl

theorem exec_hostJobstart {s : State} {a : Access} (id : Word) (hawake : awake s = true) (hreach : reaches s a = true) :
    exec (.hostJobstart a id) s = .next (respond a (.ok 0) (jobStart id s)) := act_runs hawake hreach

theorem exec_hostJobend {s : State} {a : Access} (id : Word) (hawake : awake s = true) (hreach : reaches s a = true) :
    exec (.hostJobend a id) s = .next (respond a (.ok 0) (jobEnd id s)) := act_runs hawake hreach

/-- A start that takes slot `j`. -/
theorem hostJobstart_takes {s : State} {a : Access} {id : Word} {j : Nat} (hawake : awake s = true) (hreach : reaches s a = true)
    (hr : s.bridge.role ≠ 2)
    (hnew : ∀ j, j < 16 → (jobSlot s j).id = id → (jobSlot s j).state = .free ∨ (jobSlot s j).state = .ended)
    (hfor : jobFor s = some j) : ∃ t, exec (.hostJobstart a id) s = .next t ∧
      jobSlot t j = { job0 with state := .active, id := id, seq := ((jobSlot s j).seq + 1) % 256, start := now s } ∧
      (∀ k, k ≠ j → jobSlot t k = jobSlot s k) ∧ Only [.jobs, .ports] s t := by
  refine ⟨_, exec_hostJobstart id hawake hreach, ?_⟩
  rw [jobStart_takes hr hnew, hfor]
  dsimp only
  simp only [(respond_only _ _ _).jobSlot_eq rfl]
  exact ⟨jobSlot_setJob_same _ _ _, fun k hk => jobSlot_setJob_other hk _ _, ((setJob_only _ _ _).mono rfl).via (respond_only _ _ _) rfl⟩

theorem jobEnd_some {id : Word} {s : State} {j : Nat} (hr : s.bridge.role ≠ 2) (hj : j < 16) (hid : (jobSlot s j).id = id)
    (hst : (jobSlot s j).state = .active) (hbefore : ∀ k, k < j → (jobSlot s k).id ≠ id ∨ (jobSlot s k).state ≠ .active) :
    jobEnd id s = setJob j { jobSlot s j with state := .ending, stop := now s } s := by
  unfold jobEnd
  rw [if_neg hr, find?_upto hj (by rw [hid, hst, beq_self_eq_true]; rfl) fun k hk => ?_]
  rw [Bool.and_eq_false_iff, beq_eq_false_iff_ne, beq_eq_false_iff_ne]
  exact hbefore k hk

theorem jobEnd_none {id : Word} {s : State} (hr : s.bridge.role ≠ 2)
    (hno : ∀ j, j < 16 → (jobSlot s j).id ≠ id ∨ (jobSlot s j).state ≠ .active) : jobEnd id s = jobErr 23 16 s := by
  have hfind : (upto 16).find? (fun j => (jobSlot s j).id == id && (jobSlot s j).state == .active) = none :=
    List.find?_eq_none.mpr fun k hk => by
      rw [Bool.not_eq_true, Bool.and_eq_false_iff, beq_eq_false_iff_ne, beq_eq_false_iff_ne]
      exact hno k (List.mem_range.mp hk)
  unfold jobEnd
  rw [if_neg hr, hfind]

/-! ### The final energy (R364, R372) -/

section
variable {s : State} {off k i : Nat} {r : Row} (h : placed s.params off = some (r, k, .host, i)) (hacc : r.acc = .ros)
include h hacc

/-- A word that another master may not read is not one of the counter's halves, and clears nothing when it is read. -/
theorem ros_plain : off ≠ tbO Reg.TB_TICK_HI ∧ rcWord s.params off = false := by
  refine ⟨?_, ?_⟩
  · rintro rfl
    have hhi := placed_tickHi s.params
    rw [h] at hhi
    simp [hacc] at hhi
  · simp [rcWord, h, hacc]

theorem viewWord_host (p : Port) : viewWord s p off = (formedHost s r.off k).getD (live s off) := by
  simp only [viewWord, h, hacc]
  rfl

theorem secureWord_ended (he : jobEnded s k = true) (ho : r.off = Reg.HOST_JOBE_LO 0 ∨ r.off = Reg.HOST_JOBE_HI 0) :
    secureWord s off = false := by
  rw [secureWord_of_placed h, hacc]
  unfold endedEnergy
  rw [he]
  rcases ho with ho | ho <;> rw [ho] <;> rfl

end

/-- A read of an open word that clears nothing returns the word as it is shown. -/
theorem readWord_open {s : State} {a : Access} {off : Nat} (hsec : secureWord s off = false) (hne : off ≠ tbO Reg.TB_TICK_HI)
    (hrc : rcWord s.params off = false) : (readWord a false none off s).1 = viewWord s a.port off := by
  simp [readWord, hsec, hne, hrc]

theorem formedHost_energy (s : State) (k : Nat) : formedHost s (Reg.HOST_JOBE_LO 0) k = some (jobWord s k 2) ∧
    formedHost s (Reg.HOST_JOBE_HI 0) k = some (jobWord s k 3) := ⟨rfl, rfl⟩

theorem jobWord_ended {s : State} {k : Nat} (h : jobEnded s k = true) :
    jobWord s k 2 = microLo (jobSlot s k).acc ∧ jobWord s k 3 = microHi (jobSlot s k).acc := by
  have hst : (jobSlot s k).state ≠ .free := by
    unfold jobEnded at h
    rw [beq_iff_eq.mp h]
    decide
  exact ⟨if_neg hst, if_neg hst⟩

theorem jobsWarm_only_now (j : Nat) (s : State) : now (if (jobSlot s j).state = .active then
    setJob j { jobSlot s j with state := .ended, part := true, ended := now s } s else s) = now s := by
  split <;> rfl

/-- Settles O49. -/
theorem energyCommands : Obligations.EnergyCommands := by
  refine ⟨fun s hawake ht hdue => ?_, fun s j hawake ht hold hj => ?_, fun s a id hawake hreach hr hnew =>
    ⟨fun j hj hf hbefore => hostJobstart_takes hawake hreach hr hnew (jobFor_free hj hf hbefore),
      fun j hj hno he hfirst => hostJobstart_takes hawake hreach hr hnew (jobFor_first hno hj he hfirst), fun hno => ?_⟩,
    fun s a id hawake hreach hr => ⟨fun j hj hid hst hbefore => ?_, fun hno => ?_⟩,
    fun s a id hawake hreach hr => ?_, fun s j hj => ?_, fun s a f r k i off hawake hreach hf hoff h hacc he => ?_⟩
  · refine ⟨_, act_runs hawake (by rw [ht, hdue]; rfl), ?_⟩
    rw [energyAdd_eq]
    generalize (chipEnergy s).1 = e
    generalize (chipEnergy s).2.1 = est
    generalize (chipEnergy s).2.2 = hold
    have hpre := energyJoined_only e est hold s
    have htell : ∀ u : State, Only [.live, .flt] u
        (when ((est || hold) && !s.cap.subst) (raiseOn Src.PWR_ENERGY_EST 0 0x04 4) u) := fun u =>
      (Only.refl _ u).when _ _ fun v => (raiseOn_only _ _ _ _ v).mono rfl
    rw [(htell _).keeps .cap rfl, (htell _).keeps .bridge rfl, energyJoined_cap]
    refine ⟨rfl, fun hb hj => energyJoined_sent e est hold hb hj, rfl, rfl, fun hsub hwas => ?_, fun hsub => ?_,
      (hpre.mono rfl).via (htell _) rfl⟩
    · rw [show ((est || hold) && !s.cap.subst) = true by rw [hwas]; exact (Bool.and_true _).trans hsub, when_true]
      exact (raiseOn_raised _ _ _ _ _).after hpre rfl rfl
    · rw [show ((est || hold) && !s.cap.subst) = false by rw [show (est || hold) = false from hsub]; rfl, when_false]
      exact hpre.keeps .flt rfl
  · refine ⟨_, act_runs hawake (by rw [ht, decide_eq_true hold]; rfl), ?_⟩
    obtain ⟨hid, hsum, hends, hstays⟩ := jobCounted_fields (jobsOn s) (jobShare s).1 (lastInc s) (!(jobShare s).2.isEmpty) (now s) j
      (jobSlot s j)
    rw [jobSlot_jobEnergyAdd s hj, ← jobShare_energy]
    rw [jobsOn_contains hj] at hsum
    exact ⟨hid, fun hon => hsum.trans (if_pos hon), fun hoff => hsum.trans (if_neg (by rw [hoff]; decide)), hends, hstays⟩
  · refine ⟨_, exec_hostJobstart id hawake hreach, ?_⟩
    rw [jobStart_takes hr hnew, jobFor_none hno]
    dsimp only
    exact ⟨((((jobErr_only _ _ s).mono rfl : Only [.live, .flt, .ports] _ _).via (raise_only _ _ _) rfl).via
      (respond_only _ _ _) rfl).keeps .jobs rfl, ((raise_raised _ _ _).after (jobErr_only _ _ _) rfl rfl).before (respond_only _ _ _) rfl⟩
  · refine ⟨_, exec_hostJobend id hawake hreach, ?_⟩
    rw [jobEnd_some hr hj hid hst hbefore]
    simp only [(respond_only _ _ _).jobSlot_eq rfl]
    exact ⟨jobSlot_setJob_same _ _ _, fun k hk => jobSlot_setJob_other hk _ _, ((setJob_only _ _ _).mono rfl).via (respond_only _ _ _) rfl⟩
  · refine ⟨_, exec_hostJobend id hawake hreach, ?_⟩
    rw [jobEnd_none hr hno]
    refine ⟨((jobErr_only _ _ _).mono rfl).via (respond_only _ _ _) rfl, ?_⟩
    rw [live_respond]
    exact field_bumpF _ _ _ _ (by decide) (by decide)
  · have hstart : jobStart id s = jobErr 31 24 s := if_pos hr
    have hend : jobEnd id s = jobErr 31 24 s := if_pos hr
    rw [exec_hostJobstart id hawake hreach, exec_hostJobend id hawake hreach, hstart, hend]
    exact ⟨rfl, _, rfl, (((jobErr_only _ _ s).mono rfl : Only [.live, .ports] _ _).via (respond_only _ _ _) rfl).keeps .jobs rfl⟩
  · refine (jobSlot_forEach_each (f := fun t _ x => if x.state = .active then { x with state := .ended, part := true, ended := t } else x)
      (fun j s => jobsWarm_only_now j s) (fun j s => ?_) (fun j s k hk => ?_) List.nodup_range s j).trans
      (if_pos (List.mem_range.mpr hj))
    · by_cases hact : (jobSlot s j).state = .active
      · simp only [hact, if_true, jobSlot_setJob_same]
      · simp only [hact, if_false]
    · dsimp only
      split
      · exact jobSlot_setJob_other hk _ _
      · rfl
  · refine ⟨_, (exec_registerRead hawake hreach hf Prod.mk.eta.symm).2, fun hlo => ?_, fun hhi => ?_⟩
    · obtain ⟨hne, hrc⟩ := ros_plain h hacc
      have hsec := secureWord_ended h hacc he (.inl hlo)
      rw [responseOf_okWord, ← hoff, noteAccess_none (.inr (by simp [hsec]))]
      rw [readWord_open hsec hne hrc, viewWord_host h hacc, hlo, (formedHost_energy s k).1, (jobWord_ended he).1]
      rfl
    · obtain ⟨hne, hrc⟩ := ros_plain h hacc
      have hsec := secureWord_ended h hacc he (.inr hhi)
      rw [responseOf_okWord, ← hoff, noteAccess_none (.inr (by simp [hsec]))]
      rw [readWord_open hsec hne hrc, viewWord_host h hacc, hhi, (formedHost_energy s k).2, (jobWord_ended he).2]
      rfl

end Sys2Proof.Machine
end

section
/-! SUPPORT. Blanket: messages, the evaluation of a period, and the levels. -/

namespace Sys2Proof.Machine

theorem modBlk_blk (f : Blanket → Blanket) (s : State) : (modBlk f s).blk = f s.blk := rfl

theorem blkMessage_enter (s : State) : blkMessage 1 s = modBlk (fun b => { b with msgs := insertMsg (true, now s) b.msgs }) s := rfl

theorem blkMessage_exit (s : State) : blkMessage 2 s = modBlk (fun b => { b with msgs := insertMsg (false, now s) b.msgs }) s := rfl

/-! ### What a part of the evaluation leaves -/

/-- The levels on the bus and the messages stay, and WAIT is neither entered nor left. -/
def Evaluates (s t : State) : Prop :=
  t.blk.bus = s.blk.bus ∧ t.blk.msgs = s.blk.msgs ∧ (t.blk.state = .wait ↔ s.blk.state = .wait)

theorem Evaluates.refl (s : State) : Evaluates s s := ⟨rfl, rfl, Iff.rfl⟩

theorem Evaluates.trans {s t u : State} (h : Evaluates s t) (k : Evaluates t u) : Evaluates s u :=
  ⟨k.1.trans h.1, k.2.1.trans h.2.1, k.2.2.trans h.2.2⟩

theorem Only.evaluates {l : List Part} {s t : State} (h : Only l s t) (hp : l.contains .blk = false) : Evaluates s t := by
  unfold Evaluates
  rw [show t.blk = s.blk from h.keeps .blk hp]
  exact ⟨rfl, rfl, Iff.rfl⟩

theorem Evaluates.when {f : State → State} {b : Bool} {s : State} (h : b = true → Evaluates s (f s)) : Evaluates s (when b f s) := by
  cases b
  · exact .refl s
  · exact h rfl

theorem Evaluates.ite {c : Prop} [Decidable c] {s t u : State} (h : c → Evaluates s t) (k : Evaluates s u) :
    Evaluates s (if c then t else u) := by
  split
  · exact h ‹_›
  · exact k

theorem enterCover_evaluates {s : State} (cause : Nat) (h : s.blk.state = .idle) : Evaluates s (enterCover cause s) := by
  refine .trans (t := modBlk (fun b => { b with
    state := .cover, cause := cause, f0 := (windowMean s).mul (Frac.make (cfgF s (blkO Reg.BLK_FLOOR) 6 0) 100), j := 0, resume := 0
    limSaid := false, fresh := true }) s) ⟨rfl, rfl, ?_⟩ ((bump_only _ _).evaluates rfl)
  rw [h]
  exact ⟨nofun, nofun⟩

theorem endCover_evaluates {s : State} (cause hi lo : Nat) (h : s.blk.state = .cover) : Evaluates s (endCover cause hi lo s) := by
  refine .trans (t := modBlk (fun b => { b with state := .idle, ended := cause, resume := 0, capLim := false }) s) ⟨rfl, rfl, ?_⟩
    ((bumpF_only _ _ _ _).evaluates rfl)
  rw [h]
  exact ⟨nofun, nofun⟩

theorem takeMsg_evaluates (s : State) (m : Bool × Nat) : Evaluates s (takeMsg s m) := by
  have herr : ∀ hi lo, Evaluates s (bumpF (blkO Reg.BLK_MSGERR) hi lo s) := fun _ _ => (bumpF_only _ _ _ _).evaluates rfl
  unfold takeMsg
  dsimp only
  split
  · exact .ite (fun h => enterCover_evaluates 1 (beq_iff_eq.mp (Bool.and_eq_true _ _ ▸ h).2)) (herr _ _)
  · exact .ite (fun h => endCover_evaluates 1 7 0 (beq_iff_eq.mp (Bool.and_eq_true _ _ ▸ h).2)) (herr _ _)

theorem takeMsgs_evaluates (l : List (Bool × Nat)) (s : State) : Evaluates s (l.foldl takeMsg s) := by
  induction l generalizing s with
  | nil => exact .refl s
  | cons m l ih => exact (takeMsg_evaluates s m).trans (ih _)

theorem coverEnds_evaluates {s : State} (work : Nat) (h : s.blk.state = .cover) : Evaluates s (coverEnds work s) := by
  have hres : ∀ n, Evaluates s (modBlk (fun b => { b with resume := n }) s) := fun _ => ⟨rfl, rfl, Iff.rfl⟩
  exact .ite (fun _ => (hres _).trans (endCover_evaluates 2 15 8 h)) (.ite (fun _ => (hres _).trans (endCover_evaluates 3 23 16 h)) (hres _))

/-! ### The levels of the next period -/

/-- The levels formed stand for the next period; outside COVER they are all zero. -/
def LevelsFormed (s : State) : Prop :=
  s.blk.next.isSome = true ∧ (s.blk.state ≠ .cover → s.blk.next = some ([], [0, 0, 0, 0]))

/-- Levels kept for the next period, with the mark of the cap. -/
def levelsKept (lv : Store Nat × List Nat × Bool) (s : State) : State :=
  when (lv.2.2 && !s.blk.limSaid) (fun s => raiseOn Src.BLK_CAP_LIMIT 0 0x0A 1 (modBlk (fun b => { b with limSaid := true }) s))
    (when lv.2.2 (bump (blkO Reg.BLK_CAPLIM)) (modBlk (fun b => { b with next := some (lv.1, lv.2.1), capLim := lv.2.2 }) s))

theorem setLevels_cover {p : BlkPow} {s : State} (h : s.blk.state = .cover) : setLevels p s =
    levelsKept (if blkHeld s then ([], [0, 0, 0, 0], false) else formLevels p s) s := if_pos h

theorem setLevels_none {p : BlkPow} {s : State} (h : s.blk.state ≠ .cover) : setLevels p s =
    modBlk (fun b => { b with next := some ([], [0, 0, 0, 0]), capLim := false }) s := if_neg h

theorem levelsKept_blk (lv : Store Nat × List Nat × Bool) (s : State) : ∃ said, (levelsKept lv s).blk =
    { s.blk with next := some (lv.1, lv.2.1), capLim := lv.2.2, limSaid := said } := by
  have hcount : (when lv.2.2 (bump (blkO Reg.BLK_CAPLIM)) (modBlk (fun b => { b with next := some (lv.1, lv.2.1), capLim := lv.2.2 }) s)).blk =
      { s.blk with next := some (lv.1, lv.2.1), capLim := lv.2.2 } := ((Only.refl _ _).when _ _ fun u => bump_only _ u).keeps .blk rfl
  unfold levelsKept
  cases lv.2.2 && !s.blk.limSaid
  · exact ⟨s.blk.limSaid, hcount⟩
  · refine ⟨true, ?_⟩
    rw [when_true, (raiseOn_only _ _ _ _ _).keeps .blk rfl, modBlk_blk, hcount]

theorem setLevels_forms (p : BlkPow) (s : State) : Evaluates s (setLevels p s) ∧ LevelsFormed (setLevels p s) := by
  by_cases h : s.blk.state = .cover
  · obtain ⟨said, hblk⟩ := levelsKept_blk (if blkHeld s then ([], [0, 0, 0, 0], false) else formLevels p s) s
    rw [setLevels_cover h]
    unfold Evaluates LevelsFormed
    rw [hblk]
    exact ⟨⟨rfl, rfl, Iff.rfl⟩, rfl, fun hn => absurd h hn⟩
  · rw [setLevels_none h]
    exact ⟨⟨rfl, rfl, Iff.rfl⟩, rfl, fun _ => rfl⟩

/-- What follows the levels leaves the bus, the messages, the state and the levels. -/
def PastLevels (s t : State) : Prop :=
  t.blk.bus = s.blk.bus ∧ t.blk.msgs = s.blk.msgs ∧ t.blk.state = s.blk.state ∧ t.blk.next = s.blk.next

theorem keepPeriod_past (covered : Bool) (work : Nat) (s : State) : PastLevels s (keepPeriod covered work s) := by
  unfold keepPeriod
  dsimp only
  split
  · exact ⟨rfl, rfl, rfl, rfl⟩
  · split <;> exact ⟨rfl, rfl, rfl, rfl⟩

/-! ### The evaluation -/

/-- The evaluation up to the levels: the messages taken, COVER ended or entered. -/
def coverJudged (p : BlkPow) (was : Bool) (s : State) : State :=
  let s2 := s.blk.msgs.foldl takeMsg (modBlk (fun b => { b with msgs := [] }) s)
  let s3 := when (was && s2.blk.state == .cover && !s2.blk.fresh) (coverEnds p.work) s2
  when (s3.blk.state == .idle && isFall p.work s3) (enterCover 2) s3

/-- The evaluation from the levels on, to the window's mean. -/
def levelsSet (p : BlkPow) (covered : Bool) (s : State) : State :=
  let s6 := fillEnergy p (keepPeriod covered p.work
    (setLevels p (when covered (result (blkO Reg.BLK_FLOORNOW) (powerCode (floorNow s))) s)))
  setLive (blkO Reg.BLK_AVG) (BitVec.ofNat 32 (powerCode (windowMean s6))) s6

/-- WAIT ends with a full window. -/
def waitEnds (en : Bool) (s : State) : State :=
  when (s.blk.state == .wait && decide (98 ≤ s.blk.window.length) && en) (modBlk (fun b => { b with state := .idle })) s

theorem blkEvaluate_eq (s : State) : ∃ (p : BlkPow) (was covered en : Bool), blkEvaluate s =
    waitEnds en (levelsSet p covered (coverJudged p was
      (when was (modBlk (fun b => { b with j := b.j + 1 })) (modBlk (fun b => { b with fresh := false }) s)))) :=
  ⟨_, _, _, _, rfl⟩

theorem coverJudged_evaluates (p : BlkPow) (was : Bool) (s : State) : (coverJudged p was s).blk.bus = s.blk.bus ∧
    (coverJudged p was s).blk.msgs = [] ∧ ((coverJudged p was s).blk.state = .wait ↔ s.blk.state = .wait) := by
  obtain ⟨hb, hm, hs⟩ : Evaluates (modBlk (fun b => { b with msgs := [] }) s) (coverJudged p was s) := by
    refine .trans (takeMsgs_evaluates s.blk.msgs _) (.trans (.when (f := coverEnds p.work) fun h => coverEnds_evaluates _ ?_)
      (.when fun h => enterCover_evaluates 2 ?_))
    · simp only [Bool.and_eq_true, beq_iff_eq] at h
      exact h.1.2
    · simp only [Bool.and_eq_true, beq_iff_eq] at h
      exact h.1
  exact ⟨hb, hm, hs⟩

theorem levelsSet_forms (p : BlkPow) (covered : Bool) (s : State) : Evaluates s (levelsSet p covered s) ∧
    LevelsFormed (levelsSet p covered s) := by
  have hfloor : Evaluates s (when covered (result (blkO Reg.BLK_FLOORNOW) (powerCode (floorNow s))) s) :=
    .when fun _ => (result_only _ _ _).evaluates rfl
  obtain ⟨heval, hsome, hzero⟩ := setLevels_forms p (when covered (result (blkO Reg.BLK_FLOORNOW) (powerCode (floorNow s))) s)
  obtain ⟨hb, hm, hs, hn⟩ := keepPeriod_past covered p.work (setLevels p (when covered (result (blkO Reg.BLK_FLOORNOW)
    (powerCode (floorNow s))) s))
  have hblk : ∀ u : State, (fillEnergy p u).blk.bus = u.blk.bus ∧ (fillEnergy p u).blk.msgs = u.blk.msgs ∧
      (fillEnergy p u).blk.state = u.blk.state ∧ (fillEnergy p u).blk.next = u.blk.next := fun _ => ⟨rfl, rfl, rfl, rfl⟩
  obtain ⟨hb2, hm2, hs2, hn2⟩ := hblk (keepPeriod covered p.work (setLevels p (when covered (result (blkO Reg.BLK_FLOORNOW)
    (powerCode (floorNow s))) s)))
  have hlast : (levelsSet p covered s).blk = (fillEnergy p (keepPeriod covered p.work (setLevels p (when covered (result
    (blkO Reg.BLK_FLOORNOW) (powerCode (floorNow s))) s)))).blk := (setLive_only _ _ _).keeps .blk rfl
  refine ⟨hfloor.trans (heval.trans ?_), ?_⟩
  · unfold Evaluates
    rw [hlast, hb2, hb, hm2, hm, hs2, hs]
    exact ⟨rfl, rfl, Iff.rfl⟩
  · unfold LevelsFormed
    rw [hlast, hn2, hn, hs2, hs]
    exact ⟨hsome, hzero⟩

/-- The end of WAIT leaves all else, and leads to IDLE. -/
theorem waitEnds_blk (en : Bool) (s : State) : (waitEnds en s).blk.bus = s.blk.bus ∧ (waitEnds en s).blk.msgs = s.blk.msgs ∧
    (waitEnds en s).blk.next = s.blk.next ∧
    ((waitEnds en s).blk.state = s.blk.state ∨ s.blk.state = .wait ∧ (waitEnds en s).blk.state = .idle) := by
  unfold waitEnds
  rcases h : s.blk.state == .wait && decide (98 ≤ s.blk.window.length) && en with _ | _
  · exact ⟨rfl, rfl, rfl, .inl rfl⟩
  · simp only [Bool.and_eq_true, beq_iff_eq] at h
    exact ⟨rfl, rfl, rfl, .inr ⟨h.1.1, rfl⟩⟩

theorem blkEvaluate_blk (s : State) : (blkEvaluate s).blk.msgs = [] ∧ (blkEvaluate s).blk.next.isSome = true ∧
    (blkEvaluate s).blk.bus = s.blk.bus ∧ (s.blk.state = .wait → (blkEvaluate s).blk.state ≠ .cover) ∧
    (s.blk.state ≠ .wait → (blkEvaluate s).blk.state ≠ .wait) ∧
    ((blkEvaluate s).blk.state ≠ .cover → (blkEvaluate s).blk.next = some ([], [0, 0, 0, 0])) := by
  obtain ⟨p, was, covered, en, heq⟩ := blkEvaluate_eq s
  have hpre : Evaluates s (when was (modBlk (fun b => { b with j := b.j + 1 })) (modBlk (fun b => { b with fresh := false }) s)) :=
    .trans (t := modBlk (fun b => { b with fresh := false }) s) ⟨rfl, rfl, Iff.rfl⟩ (.when fun _ => ⟨rfl, rfl, Iff.rfl⟩)
  rw [heq]
  generalize when was (modBlk (fun b => { b with j := b.j + 1 })) (modBlk (fun b => { b with fresh := false }) s) = u at hpre
  obtain ⟨hb0, _, hs0⟩ := hpre
  obtain ⟨hb1, hm1, hs1⟩ := coverJudged_evaluates p was u
  obtain ⟨⟨hb2, hm2, hs2⟩, hsome, hzero⟩ := levelsSet_forms p covered (coverJudged p was u)
  obtain ⟨hb3, hm3, hn3, hs3⟩ := waitEnds_blk en (levelsSet p covered (coverJudged p was u))
  have hwait : (levelsSet p covered (coverJudged p was u)).blk.state = .wait ↔ s.blk.state = .wait := hs2.trans (hs1.trans hs0)
  rw [hn3, hm3, hm2, hm1, hb3, hb2, hb1, hb0]
  refine ⟨rfl, hsome, rfl, fun hw => ?_, fun hnw => ?_, fun hnc => hzero ?_⟩
  · rcases hs3 with h | ⟨_, h⟩
    · rw [h, hwait.mpr hw]
      decide
    · rw [h]
      decide
  · rcases hs3 with h | ⟨_, h⟩
    · rw [h]
      exact fun hc => hnw (hwait.mp hc)
    · rw [h]
      decide
  · rcases hs3 with h | ⟨h, _⟩
    · rwa [← h]
    · rw [h]
      decide

/-! ### The levels formed (R391) -/

theorem Store.forall_set {α : Type} [DecidableEq α] (p : Nat × α → Bool) (m : Store α) (d : α) (n : Nat) (v : α)
    (h : m.all p = true) (hv : p (n, v) = true) : (m.set d n v).all p = true := by
  unfold Store.set
  split
  · exact List.all_eq_true.mpr fun e he => List.all_eq_true.mp h e (List.mem_of_mem_filter he)
  · exact Store.all_put p m n v h hv

theorem toNat_level_le {l : Int} (h : l ≤ 15) : (max l 0).toNat ≤ 15 :=
  Int.toNat_le.mpr (max_le h (by decide))

theorem toNat_cappedLevel_le {l : Int} (x : Int) (h : l ≤ 15) : (max 0 (min (max l 0) x)).toNat ≤ 15 :=
  Int.toNat_le.mpr (max_le (by decide) ((min_le_left _ _).trans (max_le h (by decide))))

/-- The levels formed are those of the eligible groups, by their quadrants. -/
theorem formLevels_groups (p : BlkPow) (s : State) : (formLevels p s).1 = [] ∨ ∃ qs : List Nat, (∀ i, qs.getD i 0 ≤ 15) ∧
    (formLevels p s).1 = ((upto (tileGroups s)).filter (eligible s)).foldl
      (fun t g => Store.set t 0 g (qs.getD (tileGroupQuad g) 0)) [] := by
  unfold formLevels
  dsimp only
  split
  · exact .inl rfl
  · refine .inr ⟨_, fun i => ?_, rfl⟩
    rw [List.getD_eq_getElem?_getD]
    rcases hq : ((upto 4).map _)[i]? with _ | v
    · exact Nat.zero_le _
    · obtain ⟨q, _, rfl⟩ := List.mem_map.mp (List.mem_of_getElem? hq)
      show (if _ then 0 else _) ≤ 15
      have hgoal : ∀ x y : Int, min (min 15 x) y ≤ 15 := fun x y => (min_le_left _ _).trans (min_le_left _ _)
      split_ifs
      · exact Nat.zero_le _
      · exact toNat_cappedLevel_le _ ((min_le_left _ _).trans (hgoal _ _))
      · exact toNat_level_le (hgoal _ _)

theorem formLevels_mem {p : BlkPow} {s : State} {g v : Nat} (h : (g, v) ∈ (formLevels p s).1) : v ≤ 15 ∧ eligible s g = true := by
  rcases formLevels_groups p s with hnil | ⟨qs, hqs, heq⟩
  · rw [hnil] at h
    cases h
  · have hall : ∀ (l : List Nat) (m : Store Nat), (∀ g ∈ l, eligible s g = true) →
        m.all (fun e => decide (e.2 ≤ 15) && eligible s e.1) = true →
        (l.foldl (fun t g => Store.set t 0 g (qs.getD (tileGroupQuad g) 0)) m).all (fun e => decide (e.2 ≤ 15) && eligible s e.1) =
          true := by
      intro l
      induction l with
      | nil => exact fun m _ hm => hm
      | cons g l ih =>
        intro m hl hm
        refine ih _ (fun k hk => hl k (List.mem_cons_of_mem _ hk)) (Store.forall_set _ _ _ _ _ hm ?_)
        rw [Bool.and_eq_true, decide_eq_true_eq]
        exact ⟨hqs _, hl g List.mem_cons_self⟩
    have hin := List.all_eq_true.mp (hall _ [] (fun g hg => (List.mem_filter.mp hg).2) rfl) (g, v) (heq ▸ h)
    simpa using hin

/-- Settles O50. -/
theorem blanketCommands : Obligations.BlanketCommands := by
  have honly : ∀ (a : Access) (k : Nat) (f : Blanket → Blanket) (s : State), blkMessage k s = modBlk f s →
      Only [.blk, .ports] s (hostCmd a (blkMessage k) s) := fun a k f s h => by
    unfold hostCmd
    rw [h]
    exact ((modBlk_only f s).mono rfl : Only [.blk, .ports] s _).via (respond_only _ _ _) rfl
  refine ⟨fun s a hawake hreach => ⟨⟨_, act_runs hawake hreach, ?_, honly _ _ _ _ (blkMessage_enter s)⟩,
      ⟨_, act_runs hawake hreach, ?_, honly _ _ _ _ (blkMessage_exit s)⟩⟩,
    fun s hawake ht hdue => ?_, fun p s g v h => formLevels_mem h,
    fun s hawake ht => ⟨fun lv qs hnext => ⟨_, act_runs hawake ht, ?_, modBlk_only _ _⟩,
      fun hnext => ⟨_, act_runs hawake ht, ?_, modBlk_only _ _⟩⟩⟩
  · exact (respond_only _ _ _).keeps .blk rfl
  · exact (respond_only _ _ _).keeps .blk rfl
  · obtain ⟨hmsgs, hsome, hbus, hwait, hnot, hzero⟩ := blkEvaluate_blk s
    exact ⟨_, act_runs hawake (by rw [ht, hdue]; rfl), hmsgs, hsome, hbus, hwait, hnot, hzero, blkEvaluate_only s⟩
  · show (match s.blk.next with
      | some (lv, qs) => { s.blk with drvOld := s.blk.drv, drv := lv, bus := lv, quad := qs, next := none }
      | none => { s.blk with drvOld := s.blk.drv, drv := s.blk.bus }) = _
    rw [hnext]
  · show (match s.blk.next with
      | some (lv, qs) => { s.blk with drvOld := s.blk.drv, drv := lv, bus := lv, quad := qs, next := none }
      | none => { s.blk with drvOld := s.blk.drv, drv := s.blk.bus }) = _
    rw [hnext]

end Sys2Proof.Machine
end

section
/-! SUPPORT. The tables of the seating plan, its lookups, and writes of its window. -/

namespace Sys2Proof.Machine

/-! ### Logical and physical entries -/

theorem logEntry_setLog_same (k : UnitKind) (i : Nat) (w : Word) (s : State) : logEntry (setLog k i w s) k i = w := by
  cases k with
  | tile => exact Store.get_set_same _ _ _ _
  | bank => exact Store.get_set_same _ _ _ _

theorem logEntry_setLog_other {i j : Nat} (h : j ≠ i) (k : UnitKind) (w : Word) (s : State) :
    logEntry (setLog k i w s) k j = logEntry s k j := by
  cases k with
  | tile => exact Store.get_set_other _ _ _ _ _ _ h
  | bank => exact Store.get_set_other _ _ _ _ _ _ h

theorem physWord_setPhys_same (k : UnitKind) (i : Nat) (w : Word) (s : State) : physWord (setPhys k i w s) k i = w := by
  cases k with
  | tile => exact Store.get_set_same _ _ _ _
  | bank => exact Store.get_set_same _ _ _ _

theorem physWord_setPhys_other {i j : Nat} (h : j ≠ i) (k : UnitKind) (w : Word) (s : State) :
    physWord (setPhys k i w s) k j = physWord s k j := by
  cases k with
  | tile => exact Store.get_set_other _ _ _ _ _ _ h
  | bank => exact Store.get_set_other _ _ _ _ _ _ h

theorem logEntry_setRole (k l : UnitKind) (i j r n : Nat) (s : State) : logEntry (setRole k i r n s) l j = logEntry s l j := by
  cases k with
  | tile => rfl
  | bank => rfl

theorem physEntry_role {r : Nat} (h : r < 8) (n : Nat) : (physEntry r n).field 2 0 = r := by
  unfold physEntry Word.field
  rw [BitVec.toNat_ofNat, Nat.shiftRight_zero, Nat.mod_mod_of_dvd _ (by decide)]
  omega

theorem role_setRole_same {r : Nat} (h : r < 8) (k : UnitKind) (i n : Nat) (s : State) : role (setRole k i r n s) k i = r := by
  unfold role setRole
  rw [physWord_setPhys_same, physEntry_role h]

theorem role_setRole_other {i j : Nat} (h : j ≠ i) (k : UnitKind) (r n : Nat) (s : State) : role (setRole k i r n s) k j = role s k j := by
  unfold role setRole
  rw [physWord_setPhys_other h]

/-- What a role or an entry of the plan leaves of it. -/
theorem setRole_plan (k : UnitKind) (i r n : Nat) (s : State) : ∃ pt pb,
    (setRole k i r n s).plan = { s.plan with ptiles := pt, pbanks := pb } := by
  cases k with
  | tile => exact ⟨_, _, rfl⟩
  | bank => exact ⟨_, _, rfl⟩

theorem setLog_plan (k : UnitKind) (i : Nat) (w : Word) (s : State) : ∃ lt lb,
    (setLog k i w s).plan = { s.plan with tiles := lt, banks := lb } := by
  cases k with
  | tile => exact ⟨_, _, rfl⟩
  | bank => exact ⟨_, _, rfl⟩

section
variable {l : List Part} {s t : State}

theorem Only.role_eq (h : Only l s t) (hpar : l.contains .params = false) (hplan : l.contains .plan = false) (k : UnitKind) (i : Nat) :
    role t k i = role s k i := by
  unfold role physWord
  rw [show t.params = s.params from h.keeps .params hpar, show t.plan = s.plan from h.keeps .plan hplan]

theorem Only.logEntry_eq (h : Only l s t) (hpar : l.contains .params = false) (hplan : l.contains .plan = false) (k : UnitKind)
    (i : Nat) : logEntry t k i = logEntry s k i := by
  unfold logEntry
  rw [show t.params = s.params from h.keeps .params hpar, show t.plan = s.plan from h.keeps .plan hplan]

end

/-! ### Lookups (R411, R558) -/

theorem lookupQuery_free {s : State} {port : Nat} (h : ∀ l, l ∈ s.seat.pend → l.port = port → l.due ≠ now s + 3) :
    s.seat.pend.any (fun l => l.port == port && l.due == now s + 3) = false := by
  rw [List.any_eq_false]
  intro l hl hb
  rw [Bool.and_eq_true, beq_iff_eq, beq_iff_eq] at hb
  exact h l hl hb.1 hb.2

theorem formAnswers_mem {s : State} {l : Lookup} (h : l ∈ s.seat.pend) (hn : l.answer = none) :
    { l with answer := some (lookup s l.kind l.index l.epoch) } ∈ (formAnswers s).seat.pend := by
  unfold formAnswers
  rw [if_neg fun he => by rw [List.isEmpty_iff.mp he] at h; cases h]
  refine List.mem_map.mpr ⟨l, h, ?_⟩
  rw [if_neg (by rw [hn]; decide)]

theorem tickPasses_seat {s : State} (hawake : awake s = true)
    (hstart : ∀ d, (stage (endTick (i3cData (i3cFetch s))) d).startDue = none) :
    (tickPasses s).seat = (formAnswers (endTick (i3cData (i3cFetch s)))).seat := by
  have hfin := finishTick_only_ports s
  rw [tickPasses_powered (awake_powered hawake), if_pos hawake, clearedStarts_after fun d => by rw [hfin.stage_eq rfl, hstart d]]
  refine ((advance_bridgeTick_only _).keeps .seat rfl).trans ?_
  unfold finishTick
  dsimp only
  split <;> rfl

/-! ### What a lookup answers -/

theorem lookup_current {s : State} (hready : s.plan.ready = true) {e : Nat} (h : s.plan.kept = false ∨ e = s.plan.epoch) (k : UnitKind)
    (i : Nat) : (lookup s k i e).phys = entryPhys (logEntry s k i) ∧ (lookup s k i e).valid = entryValid (logEntry s k i) ∧
    (lookup s k i e).epoch = s.plan.epoch := by
  have hold : (s.plan.kept && e == s.plan.prev && e != s.plan.epoch) = false := by
    rcases h with h | h
    · rw [h]
      rfl
    · rw [h, bne_self_eq_false, Bool.and_false]
  unfold lookup
  rw [if_neg (by rw [hready]; decide)]
  dsimp only
  rw [hold]
  exact ⟨rfl, rfl, rfl⟩

theorem lookup_previous {s : State} (hready : s.plan.ready = true) {e : Nat} (hkept : s.plan.kept = true) (he : e = s.plan.prev)
    (hne : e ≠ s.plan.epoch) (k : UnitKind) (i : Nat) :
    (lookup s k i e).phys = entryPhys (prevEntry s k i) ∧ (lookup s k i e).epoch = s.plan.prev := by
  have hold : (s.plan.kept && e == s.plan.prev && e != s.plan.epoch) = true := by
    rw [hkept, Bool.true_and, Bool.and_eq_true, beq_iff_eq, bne_iff_ne]
    exact ⟨he, hne⟩
  unfold lookup
  rw [if_neg (by rw [hready]; decide)]
  dsimp only
  rw [hold]
  exact ⟨rfl, rfl⟩

theorem lookup_unready {s : State} (h : s.plan.ready = false) (k : UnitKind) (i e : Nat) : (lookup s k i e).valid = false := by
  unfold lookup
  rw [if_pos (by rw [h]; rfl)]

/-! ### Writes of the window (R404) -/

theorem inSeat_tile {f : Form} {i : Nat} (hoff : f.off.toNat = 0x400000 + 4 * i) (hi : i < 1024) : inSeat f = true := by
  unfold inSeat
  rw [hoff, Bool.and_eq_true, decide_eq_true_eq, decide_eq_true_eq]
  omega

theorem entryWrite_tile {i : Nat} (w : Word) (s : State) (hpres : logPresent s .tile i = true) (hi : i < 1024) :
    entryWrite (0x400000 + 4 * i) w s = setLog .tile i ((logEntry s .tile i).put 16 16 (w.field 16 16)) s := by
  have hidx : 4 * i / 4 = i := Nat.mul_div_cancel_left i (by decide)
  have hoff : 0x400000 + 4 * i - 0x400000 = 4 * i := by omega
  have hlow : 4 * i < 0x1000 := by omega
  unfold entryWrite
  dsimp only
  rw [hoff, if_pos hlow, hidx, if_pos hpres]

theorem logPresent_tile {s : State} {i : Nat} (h : logPresent s .tile i = true) : i < 1024 := by
  unfold logPresent at h
  rw [Bool.and_eq_true, decide_eq_true_eq] at h
  exact h.1

/-- A write of one aligned word of the window. -/
theorem seatWrite_word {f : Form} (hfull : f.full = true) (hwidth : f.width = 32) (hoff : f.off.toNat % 4 = 0) (a : Access)
    (d : BitVec 64) (s : State) : seatWrite a f d s =
      if secure s a then respond a (.ok 0) (entryWrite f.off.toNat (d.setWidth 32) s) else respond a (.ok 0) (countNonsec a s) := by
  unfold seatWrite
  rw [hfull, hwidth, if_neg (by rw [hoff]; decide)]
  dsimp only
  rw [show ((32 : Nat) == 64) = false from rfl, when_false]
  cases secure s a with
  | true => exact (if_neg (by decide)).trans (if_pos rfl).symm
  | false => exact (if_pos (by decide)).trans (if_neg (by decide)).symm

/-- Settles O51. -/
theorem planLookups : Obligations.PlanLookups := by
  refine ⟨fun s port k i e hawake hport hfree => ?_, fun s l hl hn => formAnswers_mem hl hn,
    fun s hawake hpend hstart => ⟨_, step_ticks hpend, by rw [tickPasses_seat hawake hstart]⟩,
    fun s k i e => ⟨fun hr he => lookup_current hr (.inr he) k i, fun hr hk he hne => lookup_previous hr hk he hne k i,
      fun hr hk => ?_, fun hr => lookup_unready hr k i e⟩,
    fun s port l x hawake hfind hdue hans => ?_, fun s a f d i hawake hreach hfull hwidth hoff hpres => ?_,
    fun s a f d hawake hreach hin hfull => ?_⟩
  · exact ⟨_, act_runs hawake (by rw [lookupQuery_free hfree, decide_eq_true hport]; rfl), rfl, State.setSeat_only _ _⟩
  · obtain ⟨hphys, _, hep⟩ := lookup_current hr (.inl hk) k i
    exact ⟨hphys, hep⟩
  · have hport : (l.port == port) = true := List.find?_some (p := fun x : Lookup => x.port == port) hfind
    show ∃ t, execLookupAnswer port s = _ ∧ _
    unfold execLookupAnswer
    rw [hfind]
    dsimp only
    refine ⟨_, act_runs hawake (by rw [hdue]; exact beq_self_eq_true _), ?_, fun hmem => ?_, State.setSeat_only _ _⟩
    · rw [hans]
      exact Store.find_put_same _ _ _
    · have hout := (List.mem_filter.mp hmem).2
      rw [hport, beq_self_eq_true] at hout
      cases hout
  · have hi := logPresent_tile hpres
    have hal : f.off.toNat % 4 = 0 := by omega
    have hok : (reaches s a && inSeat f) = true := by rw [hreach, inSeat_tile hoff hi]; rfl
    have hrun : exec (.seatEntryWrite a f d) s = .next (seatWrite a f d s) := act_runs hawake hok
    rw [hrun, seatWrite_word hfull hwidth hal, hoff]
    refine ⟨fun hsec => ⟨_, rfl, ?_⟩, fun hsec => by rw [if_neg (by rw [hsec]; decide)]⟩
    rw [if_pos hsec, entryWrite_tile _ s hpres hi]
    refine ⟨?_, fun j hj => ?_, ((setLog_only _ _ _ _).mono rfl : Only [.plan, .ports] s _).via (respond_only _ _ _) rfl⟩
    · rw [(respond_only _ _ _).logEntry_eq rfl rfl, logEntry_setLog_same]
    · rw [(respond_only _ _ _).logEntry_eq rfl rfl, logEntry_setLog_other hj]
  · refine (act_runs hawake (by rw [hreach, hin]; rfl)).trans (congrArg _ ?_)
    unfold seatWrite
    rw [if_pos (by rw [hfull]; rfl)]

end Sys2Proof.Machine
end

section
/-! SUPPORT. Migrations of the seating plan: begin, abandon, flip, revert and grace. -/

namespace Sys2Proof.Machine

theorem role_congr {s t : State} (hpar : t.params = s.params) (hplan : t.plan = s.plan) (k : UnitKind) (i : Nat) : role t k i = role s k i := by
  unfold role physWord
  rw [hpar, hplan]

theorem logEntry_congr {s t : State} (hpar : t.params = s.params) (hplan : t.plan = s.plan) (k : UnitKind) (i : Nat) :
    logEntry t k i = logEntry s k i := by
  unfold logEntry
  rw [hpar, hplan]

/-! ### A migration abandoned (R414) -/

/-- A migration that has not flipped. -/
def unflipped (s : State) : Prop := s.seat.mig.state = .power ∨ s.seat.mig.state = .copy ∨ s.seat.mig.state = .flip

theorem unflipped_iff (s : State) : (decide (s.seat.mig.state = .power) || decide (s.seat.mig.state = .copy) ||
    decide (s.seat.mig.state = .flip)) = true ↔ unflipped s := by
  rw [Bool.or_eq_true, Bool.or_eq_true, decide_eq_true_eq, decide_eq_true_eq, decide_eq_true_eq, or_assoc]
  exact Iff.rfl

/-- The migration is forgotten, after the record that cancels a copy. -/
def migDropped (s : State) : State :=
  modSeat (fun x => { x with
    mig := { s.seat.mig with state := .idle, from0 := now s }
    retry := (s.seat.mig.kind, s.seat.mig.src, capNo s + cfgF s (seatO Reg.SEAT_MIGCFG) 31 24) ::
      x.retry.filter (fun r => decide (capNo s < r.2.2)) }) (when (s.seat.mig.state == .copy) (sendMig 3) s)

/-- The destination that was prepared is a spare again. -/
def destFreed (m : Mig) (s : State) : State := when (!m.unmap) (fun s => leaveUnit m.kind m.dst (setRole m.kind m.dst 2 0 s)) s

theorem abandonMig_eq {s : State} (h : unflipped s) : abandonMig s =
    raiseOn Src.SEAT_MIG_ABORT (migDetail s.seat.mig.kind s.seat.mig.logical) 0x09 1
      (ownerReset 2 (syncUnit s.seat.mig.kind s.seat.mig.src (destFreed s.seat.mig (migDropped s)))) := by
  unfold abandonMig
  exact if_pos ((unflipped_iff s).mpr h)

theorem abandonMig_over {s : State} (h : s.seat.mig.state = .idle ∨ s.seat.mig.state = .grace) : abandonMig s = s :=
  if_neg (by rcases h with h | h <;> simp [h])

theorem migDropped_only (s : State) : Only [.ports, .seat] s (migDropped s) :=
  (Only.when (.refl _ s) _ _ fun u => sendMig_only 3 u : Only [.ports, .seat] s _).via (modSeat_only _ _) rfl

theorem destFreed_only (m : Mig) (s : State) : Only [.live, .secs, .trail, .plan] s (destFreed m s) := by
  unfold destFreed
  cases m.unmap with
  | true => exact .refl _ _
  | false => exact ((setRole_only m.kind m.dst 2 0 s).mono rfl : Only [.live, .secs, .trail, .plan] s _).via (leaveUnit_only _ _ _) rfl

theorem role_destFreed {m : Mig} (h : m.unmap = false) (s : State) : role (destFreed m s) m.kind m.dst = 2 := by
  unfold destFreed
  rw [h, Bool.not_false, when_true, (leaveUnit_only _ _ _).role_eq rfl rfl, role_setRole_same (by decide)]

/-- What follows the end of a migration: the source's power, the ring's owner, the source of the abort. -/
theorem abandonTail_only (m : Mig) (s : State) : Only [.live, .secs, .trail, .rings, .flt] s
    (raiseOn Src.SEAT_MIG_ABORT (migDetail m.kind m.logical) 0x09 1 (ownerReset 2 (syncUnit m.kind m.src s))) :=
  (((syncUnit_only _ _ _).mono rfl : Only [.live, .secs, .trail, .rings, .flt] s _).via (ownerReset_only _ _) rfl).via
    (raiseOn_only _ _ _ _ _) rfl

theorem abandonMig_seat {s : State} (h : unflipped s) : (abandonMig s).seat = (migDropped s).seat := by
  rw [abandonMig_eq h]
  exact Eq.trans ((abandonTail_only _ _).keeps .seat rfl) ((destFreed_only _ _).keeps .seat rfl)

theorem abandonMig_state {s : State} (h : unflipped s) : (abandonMig s).seat.mig.state = .idle := by
  rw [abandonMig_seat h]
  rfl

theorem abandonMig_role {s : State} (h : unflipped s) (hmap : s.seat.mig.unmap = false) :
    role (abandonMig s) s.seat.mig.kind s.seat.mig.dst = 2 := by
  rw [abandonMig_eq h, (abandonTail_only _ _).role_eq rfl rfl]
  exact role_destFreed hmap _

theorem setRole_epoch (k : UnitKind) (i r n : Nat) (s : State) : (setRole k i r n s).plan.epoch = s.plan.epoch := by
  obtain ⟨_, _, h⟩ := setRole_plan k i r n s
  rw [h]

theorem destFreed_epoch (m : Mig) (s : State) : (destFreed m s).plan.epoch = s.plan.epoch := by
  unfold destFreed
  cases m.unmap with
  | true => rfl
  | false => exact (congrArg Plan.epoch ((leaveUnit_only _ _ _).keeps .plan rfl)).trans (setRole_epoch _ _ _ _ _)

theorem abandonMig_epoch (s : State) : (abandonMig s).plan.epoch = s.plan.epoch := by
  by_cases h : unflipped s
  · rw [abandonMig_eq h]
    exact (congrArg Plan.epoch ((abandonTail_only _ _).keeps .plan rfl)).trans
      ((destFreed_epoch _ _).trans (congrArg Plan.epoch ((migDropped_only s).keeps .plan rfl)))
  · have hsame : abandonMig s = s := by
      unfold abandonMig
      exact if_neg fun hu => h ((unflipped_iff s).mp hu)
    rw [hsame]

theorem abandonMig_raised {s : State} (h : unflipped s) :
    RaisedAmong Src.SEAT_MIG_ABORT (migDetail s.seat.mig.kind s.seat.mig.logical) s (abandonMig s) := by
  rw [abandonMig_eq h]
  have hbefore : Only [.live, .secs, .trail, .rings, .ports, .seat, .plan] s
      (ownerReset 2 (syncUnit s.seat.mig.kind s.seat.mig.src (destFreed s.seat.mig (migDropped s)))) :=
    ((((migDropped_only s).mono rfl : Only [.live, .secs, .trail, .rings, .ports, .seat, .plan] s _).via (destFreed_only _ _) rfl).via
      (syncUnit_only _ _ _) rfl).via (ownerReset_only _ _) rfl
  exact (raiseOn_raised _ _ _ _ _).among.after hbefore rfl

/-- An abort that is counted first. -/
theorem abortCount_seat (hi lo : Nat) (s : State) : (abortCount hi lo s).seat = s.seat := (abortCount_only hi lo s).keeps .seat rfl

theorem unflipped_abortCount {s : State} (h : unflipped s) (hi lo : Nat) : unflipped (abortCount hi lo s) := by
  unfold unflipped
  rwa [abortCount_seat]

/-- What an abandon that is counted brings. -/
structure Abandoned (s t : State) : Prop where
  state : t.seat.mig.state = .idle
  dest : s.seat.mig.unmap = false → role t s.seat.mig.kind s.seat.mig.dst = 2
  epoch : t.plan.epoch = s.plan.epoch
  raised : RaisedAmong Src.SEAT_MIG_ABORT (migDetail s.seat.mig.kind s.seat.mig.logical) s t

theorem abandonMig_abandoned {s : State} (h : unflipped s) : Abandoned s (abandonMig s) :=
  ⟨abandonMig_state h, abandonMig_role h, abandonMig_epoch s, abandonMig_raised h⟩

theorem counted_abandoned {s : State} (h : unflipped s) (hi lo : Nat) : Abandoned s (abandonMig (abortCount hi lo s)) := by
  have hseat := abortCount_seat hi lo s
  obtain ⟨hstate, hdest, hepoch, hraised⟩ := abandonMig_abandoned (unflipped_abortCount h hi lo)
  rw [hseat] at hdest hraised
  exact ⟨hstate, hdest, hepoch.trans (congrArg Plan.epoch ((abortCount_only hi lo s).keeps .plan rfl)),
    hraised.after (abortCount_only hi lo s) rfl⟩

theorem Abandoned.before {l : List Part} {s t u : State} (h : Abandoned s t) (ho : Only l t u) (hseat : l.contains .seat = false)
    (hplan : l.contains .plan = false) (hpar : l.contains .params = false) (hflt : l.contains .flt = false) : Abandoned s u :=
  ⟨by rw [show u.seat = t.seat from ho.keeps .seat hseat]; exact h.state, fun hm => (ho.role_eq hpar hplan _ _).trans (h.dest hm),
    by rw [show u.plan = t.plan from ho.keeps .plan hplan]; exact h.epoch, h.raised.before ho hflt⟩

/-! ### A migration begun (R412, R415) -/

theorem beginMig_eq (cause : Nat) (k : UnitKind) (logical src d : Nat) (retire : Bool) (s : State) :
    ∃ m : Mig, m.state = .power ∧ m.cause = cause ∧ m.logical = logical ∧ m.src = src ∧ m.dst = d ∧ m.seq = (s.seat.mig.seq + 1) % 256 ∧
      beginMig cause k logical src (some d) retire s = syncUnit k src (syncUnit k d (setRole k d 5 logical (modMig (fun _ => m) s))) :=
  ⟨{ s.seat.mig with state := .power, kind := k, logical := logical, src := src, dst := d, cause := cause
                     seq := (s.seat.mig.seq + 1) % 256, from0 := now s, retire := retire, unmap := false, revert := false },
    rfl, rfl, rfl, rfl, rfl, rfl, rfl⟩

theorem setRole_tiles (k : UnitKind) (i r n : Nat) (s : State) : (setRole k i r n s).plan.tiles = s.plan.tiles := by
  obtain ⟨_, _, h⟩ := setRole_plan k i r n s
  rw [h]

theorem twoSyncs_only (k : UnitKind) (i j : Nat) (s : State) : Only [.live, .secs, .trail] s (syncUnit k i (syncUnit k j s)) :=
  ((syncUnit_only k j s).mono rfl : Only [.live, .secs, .trail] s _).via (syncUnit_only _ _ _) rfl

/-! ### The decision (R415) -/

theorem seekDark_none {s : State} (h : ∀ sc, sc < sectors s → (sec s sc).mode ≠ .dark) : (seekDark s).want = none := by
  have hnil : (upto (sectors s)).filter (fun i => (sec s i).mode == .dark) = [] :=
    List.filter_eq_nil_iff.mpr fun i hi => by
      rw [beq_iff_eq]
      exact h i (List.mem_range.mp hi)
  unfold seekDark
  rw [hnil]
  rfl

theorem dropCmds_none {s : State} (h : ∀ c ∈ s.seat.cmds, (cmdUnit s c).isSome = true) : dropCmds s = s := by
  have hgone : s.seat.cmds.filter (fun c => (cmdUnit s c).isNone) = [] := List.filter_eq_nil_iff.mpr fun c hc => by
    simpa using Option.isSome_iff_ne_none.mp (h c hc)
  have hkept : s.seat.cmds.filter (fun c => (cmdUnit s c).isSome) = s.seat.cmds := List.filter_eq_self.mpr h
  unfold dropCmds
  dsimp only
  rw [hgone]
  show s.setSeat { s.seat with cmds := s.seat.cmds.filter (fun c => (cmdUnit s c).isSome) } = s
  rw [hkept]
  rfl

theorem placement_idle {s : State} (hcmds : s.seat.cmds = []) (hdark : ∀ sc, sc < sectors s → (sec s sc).mode ≠ .dark)
    (hoff : cfgB s (seatO Reg.SEAT_CTL) 0 = false) : placement s = s := by
  unfold placement
  rw [dropCmds_none (by rw [hcmds]; exact fun c hc => absurd hc List.not_mem_nil)]
  dsimp only
  rw [seekDark_none hdark]
  exact if_pos (by rw [show (cfg s (seatO Reg.SEAT_CTL)).bit 0 = false from hoff]; rfl)

/-- The unit of a move that can be tried. -/
theorem cmdUnit_move {s : State} {i : Nat} (hvalid : entryValid (logEntry s .tile i) = true)
    (hrole : role s .tile (entryPhys (logEntry s .tile i)) = 1) :
    cmdUnit s ⟨false, .tile, i⟩ = some (entryPhys (logEntry s .tile i)) := by
  unfold cmdUnit
  dsimp only
  rw [hvalid, hrole]
  rfl

theorem placement_move {s : State} {i : Nat} (hcmds : s.seat.cmds = [⟨false, .tile, i⟩])
    (hdark : ∀ sc, sc < sectors s → (sec s sc).mode ≠ .dark) (hon : cfgB s (seatO Reg.SEAT_CTL) 0 = true) (haddr : addrSet s = true)
    (hvalid : entryValid (logEntry s .tile i) = true) (hrole : role s .tile (entryPhys (logEntry s .tile i)) = 1)
    (hretry : inRetry s .tile (entryPhys (logEntry s .tile i)) = false) :
    placement s = decideUnit ⟨2, .tile, roleLog s .tile (entryPhys (logEntry s .tile i)), entryPhys (logEntry s .tile i), false⟩
      (modSeat (fun x => { x with cmds := [] }) s) := by
  have hunit := cmdUnit_move hvalid hrole
  have hseek : seekCmd s = some (⟨false, .tile, i⟩, entryPhys (logEntry s .tile i)) := by
    unfold seekCmd
    rw [hcmds]
    show (match cmdUnit s ⟨false, .tile, i⟩ with
      | some j => if inRetry s .tile j then none else some (_, j)
      | none => none) = _
    rw [hunit]
    exact if_neg (by rw [hretry]; decide)
  unfold placement
  rw [dropCmds_none (by rw [hcmds]; exact fun c hc => by rw [List.mem_singleton.mp hc, hunit]; rfl)]
  dsimp only
  rw [seekDark_none hdark]
  dsimp only
  rw [if_neg (by rw [show (cfg s (seatO Reg.SEAT_CTL)).bit 0 = true from hon, haddr]; decide), hseek]
  show decideUnit _ (s.setSeat { s.seat with cmds := s.seat.cmds.erase ⟨false, .tile, i⟩ }) = _
  rw [hcmds, List.erase_cons_head]
  rfl

/-! ### Request records (R413) -/

theorem sendMig_free {s : State} (h : s.seat.recNow = none) (kind : Nat) :
    sendMig kind s = initSend true (migRecord kind s) (modSeat (fun x => { x with recNow := some (migRecord kind s) }) s) := by
  unfold sendMig
  rw [h]

/-! ### Acknowledgements (R414, R426) -/

theorem ackWord (seq : BitVec 8) (st : BitVec 2) : Word.field (BitVec.ofNat 32 (seq.toNat + 0x100 * st.toNat)) 9 8 = st.toNat ∧
    Word.field (BitVec.ofNat 32 (seq.toNat + 0x100 * st.toNat)) 7 0 = seq.toNat := by
  have hs := seq.isLt
  have ht := st.isLt
  unfold Word.field
  rw [BitVec.toNat_ofNat, Nat.shiftRight_eq_div_pow, Nat.shiftRight_zero]
  omega

theorem seatAck_flip {s : State} {seq : BitVec 8} {st : BitVec 2} (h : s.seat.mig.state = .copy) (hseq : s.seat.mig.seq = seq.toNat)
    (hst : st.toNat = 1) : seatAck (BitVec.ofNat 32 (seq.toNat + 0x100 * st.toNat)) s =
      modMig (fun m => { m with state := .flip, from0 := now s }) s := by
  obtain ⟨h8, h0⟩ := ackWord seq st
  unfold seatAck
  dsimp only
  rw [h8, h0, h, hseq, hst, if_neg (by decide), bne_self_eq_false]
  rfl

theorem seatAck_failed {s : State} {seq : BitVec 8} {st : BitVec 2} (h : s.seat.mig.state = .copy) (hseq : s.seat.mig.seq = seq.toNat)
    (hst : st.toNat = 2) : seatAck (BitVec.ofNat 32 (seq.toNat + 0x100 * st.toNat)) s = abandonMig (abortCount 15 8 s) := by
  obtain ⟨h8, h0⟩ := ackWord seq st
  unfold seatAck
  dsimp only
  rw [h8, h0, h, hseq, hst, if_neg (by decide), bne_self_eq_false]
  rfl

theorem seatAck_other {s : State} {seq : BitVec 8} {st : BitVec 2} (h : s.seat.mig.state = .copy) (hseq : s.seat.mig.seq ≠ seq.toNat) :
    seatAck (BitVec.ofNat 32 (seq.toNat + 0x100 * st.toNat)) s = bumpF (seatO Reg.SEAT_MIGERR) 15 0 s := by
  obtain ⟨h8, h0⟩ := ackWord seq st
  have hne : (seq.toNat != s.seat.mig.seq) = true := bne_iff_ne.mpr (Ne.symm hseq)
  unfold seatAck
  dsimp only
  rw [h8, h0, if_neg (by rw [h]; decide), if_pos (by rw [hne]; rfl)]

theorem seatAck_unasked {s : State} (h : s.seat.mig.state ≠ .copy) (w : Word) : seatAck w s = bumpF (seatO Reg.SEAT_MIGERR) 31 16 s := by
  unfold seatAck
  exact if_pos (bne_iff_ne.mpr h)

/-! ### The flip (R407, R408) -/

/-- The tables of the plan after the flip. -/
def flipPlan (s : State) : State :=
  when (!s.seat.mig.unmap) (setRole s.seat.mig.kind s.seat.mig.dst 1 s.seat.mig.logical)
    (setRole s.seat.mig.kind s.seat.mig.src 3 s.seat.mig.logical
      (setLog s.seat.mig.kind s.seat.mig.logical
        (if s.seat.mig.unmap then (logEntry s s.seat.mig.kind s.seat.mig.logical).put 15 15 0
          else Word.put (logEntry s s.seat.mig.kind s.seat.mig.logical) 12 0 s.seat.mig.dst)
        (modPlan (fun p => { p with
          prevT := p.tiles, prevB := p.banks, kept := true, prev := p.epoch, epoch := (p.epoch + 1) % 256, reverted := false }) s)))

theorem flipTail_only (m : Mig) (s : State) : Only [.live, .secs, .trail] s
    (bump (seatO Reg.SEAT_MIGS) (flushMoved m.kind m.logical m.src
      (when (!m.unmap) (syncUnit m.kind m.dst) (syncUnit m.kind m.src s)))) := by
  have hone : Only [.live, .secs, .trail] s (when (!m.unmap) (syncUnit m.kind m.dst) (syncUnit m.kind m.src s)) := by
    cases m.unmap with
    | true => exact syncUnit_only _ _ _
    | false => exact twoSyncs_only _ _ _ _
  exact (hone.via (flushMoved_only _ _ _ _) rfl).via (bump_only _ _) rfl

theorem flip_plan (s : State) : (flip s).plan = (flipPlan s).plan := (flipTail_only s.seat.mig (modSeat _ (flipPlan s))).keeps .plan rfl

theorem flip_seat (s : State) : (flip s).seat.mig.state = .grace ∧ (flip s).seat.lastMov = some (estNo s) := by
  have h := fun f => (flipTail_only s.seat.mig (modSeat f (flipPlan s))).keeps .seat rfl
  exact ⟨congrArg (fun x : Seat => x.mig.state) (h _), congrArg Seat.lastMov (h _)⟩

theorem flipPlan_params (s : State) : (flipPlan s).params = s.params := by
  unfold flipPlan
  have hroles : ∀ u, (when (!s.seat.mig.unmap) (setRole s.seat.mig.kind s.seat.mig.dst 1 s.seat.mig.logical) u).params = u.params := fun u =>
    (Only.when (.refl _ u) _ _ fun v => setRole_only _ _ _ _ v : Only [.plan] u _).keeps .params rfl
  rw [hroles]
  exact Eq.trans ((setRole_only _ _ _ _ _).keeps .params rfl) ((setLog_only _ _ _ _).keeps .params rfl)

theorem flip_params (s : State) : (flip s).params = (flipPlan s).params := (flip_only s).keeps .params rfl |>.trans (flipPlan_params s).symm

/-- What the flip of a move leaves in the plan. -/
theorem flipPlan_move {s : State} (h : s.seat.mig.unmap = false) : ∃ u, flipPlan s =
    setRole s.seat.mig.kind s.seat.mig.dst 1 s.seat.mig.logical (setRole s.seat.mig.kind s.seat.mig.src 3 s.seat.mig.logical
      (setLog s.seat.mig.kind s.seat.mig.logical (Word.put (logEntry s s.seat.mig.kind s.seat.mig.logical) 12 0 s.seat.mig.dst) u)) ∧
    u.plan.prevT = s.plan.tiles ∧ u.plan.prevB = s.plan.banks ∧ u.plan.kept = true ∧ u.plan.prev = s.plan.epoch ∧
    u.plan.epoch = (s.plan.epoch + 1) % 256 ∧ u.plan.reverted = false ∧ ∀ k i, logEntry u k i = logEntry s k i := by
  refine ⟨modPlan (fun p => { p with
    prevT := p.tiles, prevB := p.banks, kept := true, prev := p.epoch, epoch := (p.epoch + 1) % 256, reverted := false }) s,
    ?_, rfl, rfl, rfl, rfl, rfl, rfl, fun k i => by cases k <;> rfl⟩
  unfold flipPlan
  rw [h]
  rfl

/-! ### Revert and grace (R410, R414) -/

theorem revertTail_only (m : Mig) (s : State) : Only [.live, .secs, .trail, .flt] s
    (raiseOn Src.SEAT_MIG_ABORT (migDetail m.kind m.logical) 0x09 1
      (abortCount 31 24 (flushMoved m.kind m.logical m.dst (syncBack m s)))) :=
  ((((syncBack_only m s).mono rfl : Only [.live, .secs, .trail, .flt] s _).via (flushMoved_only _ _ _ _) rfl).via
    (abortCount_only _ _ _) rfl).via (raiseOn_only _ _ _ _ _) rfl

theorem revert_plan (s : State) : (revert s).plan =
    { (unflip s).plan with epoch := (unflip s).plan.prev, prev := (unflip s).plan.epoch, kept := false, reverted := true } :=
  (revertTail_only s.seat.mig (modSeat _ (modPlan _ (unflip s)))).keeps .plan rfl

theorem revert_state (s : State) : (revert s).seat.mig.state = .idle :=
  congrArg (fun x : Seat => x.mig.state) ((revertTail_only s.seat.mig (modSeat _ (modPlan _ (unflip s)))).keeps .seat rfl)

theorem unflip_epochs (s : State) : (unflip s).plan.epoch = s.plan.epoch ∧ (unflip s).plan.prev = s.plan.prev := by
  unfold unflip
  dsimp only
  obtain ⟨_, _, hlog⟩ := setLog_plan s.seat.mig.kind s.seat.mig.logical (Word.put (Word.put
    (logEntry s s.seat.mig.kind s.seat.mig.logical) 12 0 (entryPhys (prevEntry s s.seat.mig.kind s.seat.mig.logical))) 15 15
    (b2n (entryValid (prevEntry s s.seat.mig.kind s.seat.mig.logical)))) s
  obtain ⟨_, _, hsrc⟩ := setRole_plan s.seat.mig.kind s.seat.mig.src 1 s.seat.mig.logical (setLog s.seat.mig.kind s.seat.mig.logical
    (Word.put (Word.put (logEntry s s.seat.mig.kind s.seat.mig.logical) 12 0
    (entryPhys (prevEntry s s.seat.mig.kind s.seat.mig.logical))) 15 15 (b2n (entryValid (prevEntry s s.seat.mig.kind
    s.seat.mig.logical)))) s)
  cases s.seat.mig.unmap with
  | true =>
    rw [Bool.not_true, when_false, hsrc, hlog]
    exact ⟨rfl, rfl⟩
  | false =>
    obtain ⟨_, _, hdst⟩ := setRole_plan s.seat.mig.kind s.seat.mig.dst 2 0 (setRole s.seat.mig.kind s.seat.mig.src 1 s.seat.mig.logical
      (setLog s.seat.mig.kind s.seat.mig.logical (Word.put (Word.put (logEntry s s.seat.mig.kind s.seat.mig.logical) 12 0
      (entryPhys (prevEntry s s.seat.mig.kind s.seat.mig.logical))) 15 15 (b2n (entryValid (prevEntry s s.seat.mig.kind
      s.seat.mig.logical)))) s))
    rw [Bool.not_false, when_true, hdst, hsrc, hlog]
    exact ⟨rfl, rfl⟩

theorem role_unflip {s : State} (hmap : s.seat.mig.unmap = false) (hne : s.seat.mig.src ≠ s.seat.mig.dst) :
    role (unflip s) s.seat.mig.kind s.seat.mig.src = 1 ∧ role (unflip s) s.seat.mig.kind s.seat.mig.dst = 2 := by
  unfold unflip
  dsimp only
  rw [hmap, Bool.not_false, when_true]
  exact ⟨(role_setRole_other hne _ _ _ _).trans (role_setRole_same (by decide) _ _ _ _), role_setRole_same (by decide) _ _ _ _⟩

theorem role_revert (s : State) (k : UnitKind) (i : Nat) : role (revert s) k i = role (unflip s) k i := by
  unfold role physWord
  rw [revert_plan, show (revert s).params = s.params from (revert_only s).keeps .params rfl,
    show (unflip s).params = s.params from (unflip_only s).keeps .params rfl]

theorem revert_raised (s : State) : RaisedAmong Src.SEAT_MIG_ABORT (migDetail s.seat.mig.kind s.seat.mig.logical) s (revert s) := by
  have hbefore : ∀ f g, Only [.live, .secs, .trail, .plan, .seat] s
      (abortCount 31 24 (flushMoved s.seat.mig.kind s.seat.mig.logical s.seat.mig.dst
        (syncBack s.seat.mig (modSeat f (modPlan g (unflip s)))))) := fun f g =>
    ((((((unflip_only s).mono rfl : Only [.live, .secs, .trail, .plan, .seat] s _).via (modPlan_only _ _) rfl).via (modSeat_only _ _)
      rfl).via (syncBack_only _ _) rfl).via (flushMoved_only _ _ _ _) rfl).via (abortCount_only _ _ _) rfl
  exact (raiseOn_raised _ _ _ _ _).among.after (hbefore _ _) rfl

/-- The previous plan is dropped and the source is given its role. -/
def graceEnded (s : State) : State :=
  setRole s.seat.mig.kind s.seat.mig.src (if s.seat.mig.retire then 4 else 2) 0
    (modMig (fun m => { m with state := .idle, before := none }) (modPlan (fun p => { p with kept := false, prevT := [], prevB := [] }) s))

theorem graceOver_due {s : State} (h : graceDue s = true) : graceOver s = graceEnd s := by
  unfold graceOver
  rw [h, when_true]

/-! ### The obligation -/

theorem migDue_power {s : State} (hstate : s.seat.mig.state = .power) (hunready : atTick s controlP 0 = false ∨ destReady s = false) :
    (s.seat.mig.state == .power && !(atTick s controlP 0 && destReady s)) = true := by
  rw [hstate]
  rcases hunready with h | h
  · rw [h]
    rfl
  · rw [h, Bool.and_false]
    rfl

theorem copyDue_over {s : State} (hstate : s.seat.mig.state = .copy)
    (hdue : s.seat.mig.from0 + usTicks (10 * cfgF s (seatO Reg.SEAT_MIGCFG) 11 0) ≤ now s) : copyDue s = true := by
  unfold copyDue
  rw [hstate, decide_eq_true hdue]
  rfl

theorem decideUnit_dest {s : State} {w : Want} {d : Nat} (hcause : w.cause = 2) (h : findDest s w = some d) :
    decideUnit w s = beginMig 2 w.kind w.logical w.src (some d) w.retire s := by
  unfold decideUnit
  rw [hcause, if_neg (by simp), h]

theorem decision_runs {s : State} (hawake : awake s = true) (ht : atTick s capP 0 = true) (hidle : s.seat.mig.state = .idle)
    (hflip : flipAllowed s = true) (hready : s.plan.ready = true) (hshut : shutting s = false) :
    exec .placementDecision s = .next (placement s) :=
  act_runs hawake (by rw [ht, hidle, hflip, hready, hshut]; rfl)

theorem destReady_runs {s : State} (hawake : awake s = true) (hstate : s.seat.mig.state = .power) (ht : atTick s controlP 0 = true)
    (hready : destReady s = true) : exec .migrationDestReady s = .next
      (sendMig (1 + kindNat s.seat.mig.kind) (modMig (fun m => { m with state := .copy, from0 := now s }) s)) :=
  act_runs hawake (by rw [hstate, ht, hready]; rfl)

theorem copyOver_due {s : State} (h : copyDue s = true) : copyOver s = abandonMig (abortCount 7 0 s) := by
  unfold copyOver
  rw [h, when_true]

theorem unflipped_copy {s : State} (h : s.seat.mig.state = .copy) : unflipped s := .inr (.inl h)

/-- The begin of a migration as the decision leaves it. -/
theorem decision_move {s : State} {i d : Nat} (hawake : awake s = true) (ht : atTick s capP 0 = true) (hidle : s.seat.mig.state = .idle)
    (hflip : flipAllowed s = true) (hready : s.plan.ready = true) (hshut : shutting s = false)
    (hplace : placement s = decideUnit ⟨2, .tile, i, entryPhys (logEntry s .tile i), false⟩ (modSeat (fun x => { x with cmds := [] }) s))
    (hdest : findDest (modSeat (fun x => { x with cmds := [] }) s) ⟨2, .tile, i, entryPhys (logEntry s .tile i), false⟩ = some d) :
    ∃ t, exec .placementDecision s = .next t ∧ t.seat.cmds = [] ∧ t.seat.mig.state = .power ∧ t.seat.mig.cause = 2 ∧
      t.seat.mig.logical = i ∧ t.seat.mig.src = entryPhys (logEntry s .tile i) ∧ t.seat.mig.dst = d ∧
      t.seat.mig.seq = (s.seat.mig.seq + 1) % 256 ∧ role t .tile d = 5 ∧ (∀ j, j ≠ d → role t .tile j = role s .tile j) ∧
      t.plan.tiles = s.plan.tiles ∧ t.plan.epoch = s.plan.epoch := by
  obtain ⟨m, hstate, hcause, hlog, hsrc, hdst, hseq, hbegin⟩ := beginMig_eq 2 .tile i (entryPhys (logEntry s .tile i)) d false
    (modSeat (fun x => { x with cmds := [] }) s)
  refine ⟨_, decision_runs hawake ht hidle hflip hready hshut, ?_⟩
  rw [hplace, decideUnit_dest rfl hdest, hbegin]
  have ho := twoSyncs_only .tile (entryPhys (logEntry s .tile i)) d
    (setRole .tile d 5 i (modMig (fun _ => m) (modSeat (fun x => { x with cmds := [] }) s)))
  have hseat := Eq.trans (ho.keeps .seat rfl) ((setRole_only .tile d 5 i _).keeps .seat rfl)
  refine ⟨congrArg Seat.cmds hseat, (congrArg (fun x : Seat => x.mig.state) hseat).trans hstate,
    (congrArg (fun x : Seat => x.mig.cause) hseat).trans hcause, (congrArg (fun x : Seat => x.mig.logical) hseat).trans hlog,
    (congrArg (fun x : Seat => x.mig.src) hseat).trans hsrc, (congrArg (fun x : Seat => x.mig.dst) hseat).trans hdst,
    (congrArg (fun x : Seat => x.mig.seq) hseat).trans hseq, ?_, fun j hj => ?_, ?_, ?_⟩
  · rw [ho.role_eq rfl rfl, role_setRole_same (by decide)]
  · rw [ho.role_eq rfl rfl, role_setRole_other hj]
    rfl
  · exact (congrArg Plan.tiles (ho.keeps .plan rfl)).trans (setRole_tiles _ _ _ _ _)
  · exact (congrArg Plan.epoch (ho.keeps .plan rfl)).trans (setRole_epoch _ _ _ _ _)

/-- The flip of a move. -/
theorem flip_move {s : State} (hmap : s.seat.mig.unmap = false) (hne : s.seat.mig.src ≠ s.seat.mig.dst) :
    (flip s).plan.epoch = (s.plan.epoch + 1) % 256 ∧ (flip s).plan.prev = s.plan.epoch ∧ (flip s).plan.kept = true ∧
      (flip s).plan.reverted = false ∧ (flip s).plan.prevT = s.plan.tiles ∧ (flip s).plan.prevB = s.plan.banks ∧
      logEntry (flip s) s.seat.mig.kind s.seat.mig.logical =
        (logEntry s s.seat.mig.kind s.seat.mig.logical).put 12 0 s.seat.mig.dst ∧
      (∀ i, i ≠ s.seat.mig.logical → logEntry (flip s) s.seat.mig.kind i = logEntry s s.seat.mig.kind i) ∧
      role (flip s) s.seat.mig.kind s.seat.mig.src = 3 ∧ role (flip s) s.seat.mig.kind s.seat.mig.dst = 1 := by
  have hlogs := logEntry_congr (flip_params s) (flip_plan s) s.seat.mig.kind
  have hroles := role_congr (flip_params s) (flip_plan s) s.seat.mig.kind
  obtain ⟨u, hu, hprevT, hprevB, hkept, hprev, hepoch, hrev, hent⟩ := flipPlan_move hmap
  obtain ⟨_, _, hlog⟩ := setLog_plan s.seat.mig.kind s.seat.mig.logical
    (Word.put (logEntry s s.seat.mig.kind s.seat.mig.logical) 12 0 s.seat.mig.dst) u
  obtain ⟨_, _, hsrc⟩ := setRole_plan s.seat.mig.kind s.seat.mig.src 3 s.seat.mig.logical (setLog s.seat.mig.kind s.seat.mig.logical
    (Word.put (logEntry s s.seat.mig.kind s.seat.mig.logical) 12 0 s.seat.mig.dst) u)
  obtain ⟨_, _, hdst⟩ := setRole_plan s.seat.mig.kind s.seat.mig.dst 1 s.seat.mig.logical (setRole s.seat.mig.kind s.seat.mig.src 3
    s.seat.mig.logical (setLog s.seat.mig.kind s.seat.mig.logical
    (Word.put (logEntry s s.seat.mig.kind s.seat.mig.logical) 12 0 s.seat.mig.dst) u))
  rw [hsrc, hlog] at hdst
  rw [flip_plan, hlogs, hroles, hroles, hu, hdst]
  refine ⟨hepoch, hprev, hkept, hrev, hprevT, hprevB, ?_, fun i hi => ?_, ?_, role_setRole_same (by decide) _ _ _ _⟩
  · rw [logEntry_setRole, logEntry_setRole, logEntry_setLog_same]
  · rw [hlogs, hu, logEntry_setRole, logEntry_setRole, logEntry_setLog_other hi, hent]
  · rw [role_setRole_other hne, role_setRole_same (by decide)]

/-- A record's response takes the next one from those that wait. -/
def recordAnswered (s : State) : State :=
  match s.seat.recs.head? with
  | some w => initSend true w (modSeat (fun x => { x with recNow := x.recs.head?, recs := x.recs.drop 1 }) s)
  | none => modSeat (fun x => { x with recNow := x.recs.head?, recs := x.recs.drop 1 }) s

theorem recordAnswered_next (s : State) :
    (recordAnswered s).seat = { s.seat with recNow := s.seat.recs.head?, recs := s.seat.recs.drop 1 } ∧
      (∀ w, s.seat.recs.head? = some w → (recordAnswered s).ports.out = w :: s.ports.out) ∧
      (s.seat.recs = [] → (recordAnswered s).ports = s.ports) ∧ Only [.seat, .ports] s (recordAnswered s) := by
  have hmod : Only [.seat, .ports] s (modSeat (fun x => { x with recNow := x.recs.head?, recs := x.recs.drop 1 }) s) :=
    (modSeat_only _ _).mono rfl
  unfold recordAnswered
  rcases hhead : s.seat.recs.head? with _ | w
  · exact ⟨congrArg (fun r => { s.seat with recNow := r, recs := s.seat.recs.drop 1 }) hhead,
      fun w hw => (Option.some_ne_none w hw.symm).elim, fun _ => rfl, hmod⟩
  · exact ⟨congrArg (fun r => { s.seat with recNow := r, recs := s.seat.recs.drop 1 }) hhead,
      fun v hv => by rw [← Option.some.inj hv]; rfl, fun hnil => absurd (hhead.symm.trans (congrArg List.head? hnil)) (Option.some_ne_none w),
      hmod.via (initSend_only _ _ _) rfl⟩

/-- The plan after grace. -/
theorem graceEnd_plan (s : State) : (graceEnd s).seat.mig.state = .idle ∧ (graceEnd s).plan.kept = false ∧
    (graceEnd s).plan.epoch = s.plan.epoch ∧
    role (graceEnd s) s.seat.mig.kind s.seat.mig.src = (if s.seat.mig.retire then 4 else 2) ∧
    (∀ i, i ≠ s.seat.mig.src → role (graceEnd s) s.seat.mig.kind i = role s s.seat.mig.kind i) ∧
    (graceEnd s).plan.tiles = s.plan.tiles ∧ (graceEnd s).plan.banks = s.plan.banks := by
  have ho := leaveUnit_only s.seat.mig.kind s.seat.mig.src (graceEnded s)
  have hplan : (graceEnd s).plan = (graceEnded s).plan := ho.keeps .plan rfl
  have hrole : ∀ i, role (graceEnd s) s.seat.mig.kind i = role (graceEnded s) s.seat.mig.kind i := fun i => ho.role_eq rfl rfl _ i
  have hseat : (graceEnd s).seat = (graceEnded s).seat := ho.keeps .seat rfl
  obtain ⟨pt, pb, hset⟩ := setRole_plan s.seat.mig.kind s.seat.mig.src (if s.seat.mig.retire then 4 else 2) 0
    (modMig (fun m => { m with state := .idle, before := none }) (modPlan (fun p => { p with kept := false, prevT := [], prevB := [] }) s))
  rw [show (graceEnded s).plan = _ from hset] at hplan
  rw [hplan, hseat, hrole]
  refine ⟨congrArg (fun x : Seat => x.mig.state) ((setRole_only _ _ _ _ _).keeps .seat rfl), rfl, rfl, ?_, fun i hi => ?_, rfl, rfl⟩
  · exact role_setRole_same (by split <;> decide) _ _ _ _
  · rw [hrole]
    refine (role_setRole_other hi _ _ _ _).trans ?_
    cases s.seat.mig.kind <;> rfl

/-- Settles O52. -/
theorem migrations : Obligations.Migrations := by
  refine ⟨⟨fun s i d hawake ht hidle hflip hready hshut hdark hon haddr hcmds hvalid hrole hlog hretry hdest => ?_,
      fun s hawake ht hidle hflip hready hshut hdark hoff hcmds =>
        ⟨_, decision_runs hawake ht hidle hflip hready hshut, by rw [placement_idle hcmds hdark hoff],
          by rw [placement_idle hcmds hdark hoff]⟩,
      fun s hawake hstate ht hready hfree => ?_, fun s hawake hmap _ => ⟨fun hstate hdue hunready => ?_, fun hstate hdue => ?_⟩,
      fun s a seq st hawake hreach => ⟨fun hstate hseq hst => ?_, fun hstate hseq hst => ?_, fun hstate hseq => ?_, fun hstate => ?_⟩,
      fun s hawake hsome ok => ?_⟩,
    fun s hawake ht hstate hflip hmap hne _ => ?_, fun s hawake ht hstate hrev hmap hne => ?_,
    fun s hawake ht hstate hrev hflip => ?_⟩
  · have hplace := placement_move hcmds hdark hon haddr hvalid hrole hretry
    rw [hlog] at hplace
    exact decision_move hawake ht hidle hflip hready hshut hplace hdest
  · refine ⟨_, destReady_runs hawake hstate ht hready, ?_⟩
    rw [sendMig_free (by exact hfree)]
    exact ⟨rfl, ⟨_, rfl, rfl, rfl, rfl, rfl, rfl, rfl, rfl, rfl⟩,
      (((modSeat_only _ _).mono rfl : Only [.seat, .ports] s _).via (modSeat_only _ _) rfl).via (initSend_only _ _ _) rfl⟩
  · obtain ⟨hidle, hdest, hepoch, hraised⟩ := counted_abandoned (.inl hstate) 23 16
    exact ⟨_, act_runs hawake (by rw [migDue_power hstate hunready, decide_eq_true hdue]; rfl), hidle, hdest hmap, hepoch, hraised⟩
  · have hover := copyDue_over hstate hdue
    obtain ⟨hidle, hdest, hepoch, hraised⟩ := counted_abandoned (unflipped_copy hstate) 7 0
    rw [← copyOver_due hover] at hidle hdest hepoch hraised
    exact ⟨act_runs hawake hover, hidle, hdest hmap, hepoch, hraised⟩
  · refine ⟨_, act_runs hawake hreach, ?_⟩
    unfold hostCmd
    rw [seatAck_flip hstate hseq hst]
    exact ⟨congrArg Seat.mig ((respond_only _ _ _).keeps .seat rfl),
      ((modSeat_only _ _).mono rfl : Only [.seat, .ports] s _).via (respond_only _ _ _) rfl⟩
  · refine ⟨_, act_runs hawake hreach, ?_⟩
    unfold hostCmd
    rw [seatAck_failed hstate hseq hst]
    obtain ⟨hidle, _, hepoch, hraised⟩ := (counted_abandoned (unflipped_copy hstate) 15 8).before (respond_only a (.ok 0) _) rfl rfl rfl rfl
    exact ⟨hidle, hepoch, hraised⟩
  · refine ⟨_, act_runs hawake hreach, ?_⟩
    unfold hostCmd
    rw [seatAck_other hstate hseq]
    refine ⟨((bumpF_only _ _ _ _).mono rfl : Only [.live, .ports] s _).via (respond_only _ _ _) rfl, ?_⟩
    rw [live_respond]
    exact field_bumpF _ _ _ _ (by decide) (by decide)
  · refine ⟨_, act_runs hawake hreach, ?_⟩
    unfold hostCmd
    rw [seatAck_unasked hstate]
    refine ⟨((bumpF_only _ _ _ _).mono rfl : Only [.live, .ports] s _).via (respond_only _ _ _) rfl, ?_⟩
    rw [live_respond]
    exact field_bumpF _ _ _ _ (by decide) (by decide)
  · refine ⟨_, act_runs hawake hsome, ?_⟩
    obtain ⟨hseat, hsent, hnone, ho⟩ := recordAnswered_next s
    exact ⟨hseat, hsent, hnone, ho⟩
  · obtain ⟨hgrace, hlast⟩ := flip_seat s
    have hrun : exec .seatFlip s = .next (flip s) := by
      refine (act_runs hawake (by rw [ht, hstate, hflip]; rfl)).trans (congrArg _ (if_pos hstate))
    obtain ⟨hepoch, hprev, hkept, hrevd, hprevT, hprevB, hmoved, hothers, hsrc, hdst⟩ := flip_move hmap hne
    exact ⟨_, hrun, hepoch, hprev, hkept, hrevd, hprevT, hprevB, hmoved, hothers, hsrc, hdst, hgrace, hlast⟩
  · have hrun : exec .seatFlip s = .next (revert s) := by
      refine (act_runs hawake (by rw [ht, hstate, hrev]; rfl)).trans (congrArg _ (if_neg (by rw [hstate]; decide)))
    obtain ⟨hepoch, hprev⟩ := unflip_epochs s
    obtain ⟨hsrc, hdst⟩ := role_unflip hmap hne
    refine ⟨_, hrun, ?_, ?_, ?_, ?_, by rw [role_revert, hsrc], by rw [role_revert, hdst], revert_state s, revert_raised s⟩
    · rw [revert_plan, hprev]
    · rw [revert_plan, hepoch]
    · rw [revert_plan]
    · rw [revert_plan]
  · have hdue : graceDue s = true := by
      unfold graceDue
      rw [ht, hstate, hrev, hflip]
      rfl
    rw [show timeOver .grace s = graceEnd s from graceOver_due hdue]
    exact ⟨act_runs hawake hdue, graceEnd_plan s⟩

end Sys2Proof.Machine
end

section
/-! SUPPORT. The commands of the seating plan's page; bank groups awake and held. -/

namespace Sys2Proof.Machine

/-! ### The words of the commands (R427) -/

theorem seatWord_fields {op : Nat} (hop : op < 8) (k : UnitKind) (i : BitVec 13) : (seatWord op k i).field 2 0 = op ∧
    (if (seatWord op k i).bit 3 then UnitKind.bank else .tile) = k ∧ (seatWord op k i).field 20 8 = i.toNat := by
  have hi := i.isLt
  have hword : (seatWord op k i).toNat = op + 8 * kindNat k + 0x100 * i.toNat := by
    unfold seatWord
    rw [BitVec.toNat_ofNat]
    cases k with
    | tile => simp only [kindNat]; omega
    | bank => simp only [kindNat]; omega
  unfold Word.field Word.bit
  rw [hword, Nat.shiftRight_eq_div_pow, Nat.shiftRight_eq_div_pow, Nat.shiftRight_eq_div_pow]
  cases k with
  | tile =>
    simp only [kindNat]
    refine ⟨by omega, if_neg ?_, by omega⟩
    rw [beq_iff_eq]
    omega
  | bank =>
    simp only [kindNat]
    refine ⟨by omega, if_pos ?_, by omega⟩
    rw [beq_iff_eq]
    omega

theorem seatCommand_move (k : UnitKind) (i : BitVec 13) (s : State) :
    seatCommand (seatWord 1 k i) s = modSeat (fun x => { x with cmds := x.cmds ++ [⟨false, k, i.toNat⟩] }) s := by
  obtain ⟨hop, hk, hi⟩ := seatWord_fields (op := 1) (by decide) k i
  unfold seatCommand
  dsimp only
  rw [hop, hk, hi]
  rfl

theorem seatCommand_retire (k : UnitKind) (i : BitVec 13) (s : State) : seatCommand (seatWord 2 k i) s = seatRetire k i.toNat s := by
  obtain ⟨hop, hk, hi⟩ := seatWord_fields (op := 2) (by decide) k i
  unfold seatCommand
  dsimp only
  rw [hop, hk, hi]
  rfl

theorem seatCommand_return (k : UnitKind) (i : BitVec 13) (s : State) : seatCommand (seatWord 3 k i) s = seatReturn k i.toNat s := by
  obtain ⟨hop, hk, hi⟩ := seatWord_fields (op := 3) (by decide) k i
  unfold seatCommand
  dsimp only
  rw [hop, hk, hi]
  rfl

theorem scrubWord (tag : BitVec 8) : Word.field (BitVec.ofNat 32 (4 + 0x1000000 * tag.toNat)) 2 0 = 4 ∧
    Word.field (BitVec.ofNat 32 (4 + 0x1000000 * tag.toNat)) 31 24 = tag.toNat := by
  have ht := tag.isLt
  unfold Word.field
  rw [BitVec.toNat_ofNat, Nat.shiftRight_eq_div_pow, Nat.shiftRight_eq_div_pow]
  omega

theorem seatCommand_scrub (tag : BitVec 8) (s : State) :
    seatCommand (BitVec.ofNat 32 (4 + 0x1000000 * tag.toNat)) s = seatScrub tag.toNat s := by
  obtain ⟨hop, htag⟩ := scrubWord tag
  unfold seatCommand
  dsimp only
  rw [hop, htag]
  rfl

theorem seatCommand_abort (s : State) : seatCommand 5 s = abandonMig s := rfl

theorem wakeWord (g : BitVec 7) : Word.bit (BitVec.ofNat 32 (0x100 + g.toNat)) 8 = true ∧
    Word.field (BitVec.ofNat 32 (0x100 + g.toNat)) 6 0 = g.toNat := by
  revert g
  decide

/-! ### Retired and returned units (R427) -/

theorem seatRetire_spare {s : State} {k : UnitKind} {i : Nat} (h : role s k i = 2) : seatRetire k i s = setRole k i 4 0 s := if_pos h

theorem seatRetire_serving {s : State} {k : UnitKind} {i : Nat} (h : role s k i = 1) :
    seatRetire k i s = modSeat (fun x => { x with cmds := x.cmds ++ [⟨true, k, i⟩] }) s := by
  unfold seatRetire
  dsimp only
  rw [if_neg (by rw [h]; decide), if_pos h]

theorem seatReturn_retired {s : State} {k : UnitKind} {i : Nat} (h : role s k i = 4) : seatReturn k i s = setRole k i 2 0 s := if_pos h

theorem seatReturn_refused {s : State} {k : UnitKind} {i : Nat} (h : role s k i ≠ 4) : seatReturn k i s = refuse 0x09 s := if_neg h

/-- A role set by a command that is then answered. -/
theorem setRole_answered {r : Nat} (hr : r < 8) (a : Access) (k : UnitKind) (i : Nat) (s : State) :
    role (respond a (.ok 0) (setRole k i r 0 s)) k i = r ∧
      (∀ j, j ≠ i → role (respond a (.ok 0) (setRole k i r 0 s)) k j = role s k j) ∧
      Only [.plan, .ports] s (respond a (.ok 0) (setRole k i r 0 s)) := by
  have ho := respond_only a (.ok 0) (setRole k i r 0 s)
  exact ⟨by rw [ho.role_eq rfl rfl, role_setRole_same hr], fun j hj => by rw [ho.role_eq rfl rfl, role_setRole_other hj],
    ((setRole_only _ _ _ _ _).mono rfl : Only [.plan, .ports] s _).via ho rfl⟩

/-- A command that waits for a decision. -/
theorem cmd_answered (a : Access) (c : SeatCmd) (s : State) :
    (respond a (.ok 0) (modSeat (fun x => { x with cmds := x.cmds ++ [c] }) s)).seat = { s.seat with cmds := s.seat.cmds ++ [c] } ∧
      Only [.seat, .ports] s (respond a (.ok 0) (modSeat (fun x => { x with cmds := x.cmds ++ [c] }) s)) :=
  ⟨(respond_only _ _ _).keeps .seat rfl, ((modSeat_only _ _).mono rfl : Only [.seat, .ports] s _).via (respond_only _ _ _) rfl⟩

/-! ### Power scrubs (R422) -/

/-- What a scrub shows, but for the groups that it holds. -/
def scrubView (s : State) : Nat × Nat × Bool := (s.seat.tag, s.seat.scrubN, s.seat.scrubOk)

/-- The groups held by a scrub. -/
def scrubHolds (s : State) : Store Nat := s.seat.holds

/-- An operation keeps what a scrub shows and holds. -/
def KeepsScrub (s t : State) : Prop := Keeps (fun s => (scrubView s, scrubHolds s)) s t

theorem sendMig_scrub (kind : Nat) (s : State) : KeepsScrub s (sendMig kind s) := by
  unfold sendMig
  dsimp only
  split <;> rfl

theorem abandonMig_scrub (s : State) : KeepsScrub s (abandonMig s) := by
  by_cases h : unflipped s
  · have hdrop : KeepsScrub s (migDropped s) :=
      Keeps.when (p := fun s => (scrubView s, scrubHolds s)) (sendMig_scrub 3) (s.seat.mig.state == .copy) s
    exact (congrArg (fun x : Seat => ((x.tag, x.scrubN, x.scrubOk), x.holds)) (abandonMig_seat h)).trans hdrop
  · have hsame : abandonMig s = s := by
      unfold abandonMig
      exact if_neg fun hu => h ((unflipped_iff s).mp hu)
    rw [hsame]
    rfl

theorem Only.keepsScrub {l : List Part} {s t : State} (h : Only l s t) (hs : l.contains .seat = false) : KeepsScrub s t :=
  congrArg (fun x : Seat => ((x.tag, x.scrubN, x.scrubOk), x.holds)) (h.keeps .seat hs)

/-- The entries that a scrub clears, and the migration that it ends. -/
def scrubCleared (g : Nat) (s : State) : State :=
  let s1 := (groupServing s g).foldl (fun s e => setLog .bank e.1 (e.2.put 31 24 0) s) s
  when (s1.seat.mig.kind == .bank && (s1.seat.mig.state == .power || s1.seat.mig.state == .copy) && !s1.seat.mig.unmap &&
    (bankGroup s1.seat.mig.src == g || bankGroup s1.seat.mig.dst == g)) abandonMig s1

theorem scrubCleared_scrub (g : Nat) (s : State) : KeepsScrub s (scrubCleared g s) := by
  have hlogs : KeepsScrub s ((groupServing s g).foldl (fun s e => setLog .bank e.1 (e.2.put 31 24 0) s) s) :=
    (Only.foldl (.refl [.plan] s) (fun s (e : Nat × Word) => setLog .bank e.1 (e.2.put 31 24 0) s) _
      fun u e => setLog_only _ _ _ u).keepsScrub rfl
  exact hlogs.trans (Keeps.when (p := fun s => (scrubView s, scrubHolds s)) abandonMig_scrub _ _)

/-- The end of a hold that begins now. -/
def holdEndAt (s : State) : Nat := now s + usTicks (cfgF s (seatO Reg.SEAT_SCRUBT) 9 0)

theorem Only.holdEndAt_eq {l : List Part} {s t : State} (h : Only l s t) (ht : l.contains .time = false) (hp : l.contains .params = false)
    (ha : l.contains .active = false) : holdEndAt t = holdEndAt s := by
  unfold holdEndAt
  rw [h.now_eq ht, h.cfgF_eq hp ha]

theorem scrubGroup_eq (g : Nat) (s : State) : scrubGroup g s =
    syncGroup g (modSeat (fun x => { x with holds := x.holds.put g (holdEndAt s) }) (scrubCleared g s)) := rfl

theorem scrubGroup_view (g : Nat) (s : State) : scrubView (scrubGroup g s) = scrubView s ∧
    scrubHolds (scrubGroup g s) = (scrubHolds s).put g (holdEndAt s) := by
  have hclear := scrubCleared_scrub g s
  have hseat : (scrubGroup g s).seat = { (scrubCleared g s).seat with holds := (scrubCleared g s).seat.holds.put g (holdEndAt s) } := by
    rw [scrubGroup_eq]
    exact (syncGroup_only _ _).keeps .seat rfl
  unfold scrubView scrubHolds
  rw [hseat]
  exact ⟨congrArg Prod.fst hclear, congrArg (fun x => Store.put x.2 g (holdEndAt s)) hclear⟩

theorem scrubGroups_view (gs : List Nat) (s : State) : scrubView (forEach gs scrubGroup s) = scrubView s ∧
    scrubHolds (forEach gs scrubGroup s) = gs.foldl (fun m g => m.put g (holdEndAt s)) (scrubHolds s) := by
  induction gs generalizing s with
  | nil => exact ⟨rfl, rfl⟩
  | cons g gs ih =>
    obtain ⟨hview, hholds⟩ := scrubGroup_view g s
    rw [forEach_cons]
    obtain ⟨ihview, ihholds⟩ := ih (scrubGroup g s)
    rw [(scrubGroup_only g s).holdEndAt_eq rfl rfl rfl, hholds] at ihholds
    exact ⟨ihview.trans hview, ihholds⟩

/-! ### Bank groups (R419) -/

theorem seatWake_group (g : BitVec 7) (s : State) : seatWake (BitVec.ofNat 32 (0x100 + g.toNat)) s = wakeGroup g.toNat s := by
  obtain ⟨h8, h6⟩ := wakeWord g
  unfold seatWake
  rw [h8, h6, when_true]

theorem wakeGroup_awake {s : State} {g : Nat} (h : g < groupCount s.params) : (wakeGroup g s).seat.awake = s.seat.awake.put g (now s) := by
  unfold wakeGroup
  rw [if_pos h]
  exact congrArg Seat.awake ((syncGroup_only _ _).keeps .seat rfl)

theorem idleOver_due {s : State} {g : Nat} (h : idleDue s g = true) : (idleOver g s).seat.awake = s.seat.awake.del g := by
  unfold idleOver
  rw [h, when_true]
  exact congrArg Seat.awake ((syncGroup_only _ _).keeps .seat rfl)

theorem idleDue_iff {s : State} {g t0 : Nat} (h : s.seat.awake.find g = some t0) :
    idleDue s g = decide (t0 + usTicks (cfgF s (seatO Reg.SEAT_IDLE) 11 0) ≤ now s) := by
  unfold idleDue
  rw [h]

/-! ### The ends of holds -/

/-- The groups whose holds are over follow their requests again. -/
def holdsEnded (s : State) : State :=
  (s.seat.holds.filter (fun h => decide (h.2 ≤ now s))).foldl (fun s h => syncGroup h.1 s)
    (modSeat (fun x => { x with holds := x.holds.filter (fun h => decide (now s < h.2)) }) s)

/-- The last hold that ends is told. -/
def scrubTold (s : State) : State :=
  raiseOn Src.SEAT_SCRUB_DONE s.seat.tag 0x09 3 (modSeat (fun x => { x with scrubOk := true }) s)

theorem execScrubHoldEnd_eq (s : State) : execScrubHoldEnd s =
    act s (!(s.seat.holds.filter (fun h => decide (h.2 ≤ now s))).isEmpty)
      (when (s.seat.holds.filter (fun h => decide (now s < h.2))).isEmpty scrubTold (holdsEnded s)) := rfl

theorem holdsEnded_only (s : State) : Only [.seat, .live, .secs, .trail] s (holdsEnded s) :=
  Only.foldl ((modSeat_only _ s).mono rfl) _ _ fun u h => (syncGroup_only h.1 u).mono rfl

theorem holdsEnded_seat (s : State) :
    (holdsEnded s).seat = { s.seat with holds := s.seat.holds.filter (fun h => decide (now s < h.2)) } := by
  have h : Only [.live, .secs, .trail] (modSeat (fun x => { x with holds := x.holds.filter (fun h => decide (now s < h.2)) }) s)
      (holdsEnded s) := Only.foldl (.refl _ _) _ _ fun u h => syncGroup_only h.1 u
  exact h.keeps .seat rfl

theorem scrubTold_seat (s : State) : (scrubTold s).seat = { s.seat with scrubOk := true } :=
  (raiseOn_only _ _ _ _ _).keeps .seat rfl

theorem holds_due {s : State} (h : s.seat.holds.any (fun h => decide (h.2 ≤ now s)) = true) :
    (!(s.seat.holds.filter (fun h => decide (h.2 ≤ now s))).isEmpty) = true := by
  obtain ⟨x, hx, hdue⟩ := List.any_eq_true.mp h
  have hmem : x ∈ s.seat.holds.filter (fun h => decide (h.2 ≤ now s)) := List.mem_filter.mpr ⟨hx, hdue⟩
  rw [Bool.not_eq_true', List.isEmpty_eq_false_iff]
  exact fun hnil => by rw [hnil] at hmem; cases hmem

/-! ### The obligation -/

theorem seatScrub_busy {s : State} (h : s.seat.holds ≠ []) (tag : Nat) : seatScrub tag s = refuse 0x09 s := by
  unfold seatScrub
  refine if_pos ?_
  rw [Bool.not_eq_true', List.isEmpty_eq_false_iff]
  exact h

theorem seatScrub_runs {s : State} (h : s.seat.holds = []) (tag : Nat) : seatScrub tag s =
    bumpBy (seatO Reg.SEAT_SCRUBS) (scrubGroups s tag).length (forEach (scrubGroups s tag) scrubGroup
      (modSeat (fun x => { x with tag := tag, scrubN := (scrubGroups s tag).length, scrubOk := (scrubGroups s tag).isEmpty }) s)) := by
  unfold seatScrub
  rw [if_neg (by rw [h]; decide)]

/-- Settles O53. -/
theorem seatCommands : Obligations.SeatCommands := by
  refine ⟨fun s a k i hawake hreach hsec => ⟨?_, fun hrole => ?_, fun hrole => ?_, fun hrole => ?_, fun hrole => ?_⟩,
    fun s a tag hawake hreach hsec => ⟨fun hfree => ?_, fun hbusy => ?_⟩,
    fun s a hawake hreach hsec => ⟨fun hstate => ?_, fun hstate => ?_⟩,
    fun s a hawake hreach hsec => secureCmd_ignored hawake hreach hsec _, fun s hawake hdue => ?_,
    fun s a g hawake hreach => ⟨fun hg => ?_, fun hg => ?_⟩, fun s g t0 hawake hfind hdue => ?_, fun s g t0 hfind hdue => ?_⟩
  · refine ⟨_, secureCmd_ok hawake hreach hsec _, ?_⟩
    rw [seatCommand_move]
    exact cmd_answered a _ s
  · refine ⟨_, secureCmd_ok hawake hreach hsec _, ?_⟩
    rw [seatCommand_retire, seatRetire_spare hrole]
    exact setRole_answered (by decide) a k _ s
  · refine ⟨_, secureCmd_ok hawake hreach hsec _, ?_⟩
    rw [seatCommand_retire, seatRetire_serving hrole]
    exact cmd_answered a _ s
  · refine ⟨_, secureCmd_ok hawake hreach hsec _, ?_⟩
    rw [seatCommand_return, seatReturn_retired hrole]
    exact setRole_answered (by decide) a k _ s
  · refine ⟨_, secureCmd_ok hawake hreach hsec _, ?_⟩
    rw [seatCommand_return, seatReturn_refused hrole]
    exact ⟨((refuse_only _ _).mono rfl : Only [.live, .ports] s _).via (respond_only _ _ _) rfl, field_refuse_respond _ _ _ _⟩
  · refine ⟨_, secureCmd_ok hawake hreach hsec _, ?_⟩
    rw [seatCommand_scrub, seatScrub_runs hfree]
    have hbump := bumpBy_only (seatO Reg.SEAT_SCRUBS) (scrubGroups s tag.toNat).length (forEach (scrubGroups s tag.toNat) scrubGroup
      (modSeat (fun x => { x with tag := tag.toNat, scrubN := (scrubGroups s tag.toNat).length
                                  scrubOk := (scrubGroups s tag.toNat).isEmpty }) s))
    have hseat := Eq.trans ((respond_only a (.ok 0) _).keeps .seat rfl) (hbump.keeps .seat rfl)
    obtain ⟨hview, hholds⟩ := scrubGroups_view (scrubGroups s tag.toNat)
      (modSeat (fun x => { x with tag := tag.toNat, scrubN := (scrubGroups s tag.toNat).length
                                  scrubOk := (scrubGroups s tag.toNat).isEmpty }) s)
    rw [hseat]
    refine ⟨congrArg (fun v : Nat × Nat × Bool => v.1) hview, congrArg (fun v : Nat × Nat × Bool => v.2.1) hview,
      congrArg (fun v : Nat × Nat × Bool => v.2.2) hview, fun g hg => ?_⟩
    refine (congrArg (Store.find · g) hholds).trans ((find_foldl_put (fun _ => holdEndAt _) (.inl hg)).trans ?_)
    rw [(modSeat_only _ s).holdEndAt_eq rfl rfl rfl]
    rfl
  · refine ⟨_, secureCmd_ok hawake hreach hsec _, ?_⟩
    rw [seatCommand_scrub, seatScrub_busy hbusy]
    have ho : Only [.live, .ports] s (respond a (.ok 0) (refuse 0x09 s)) :=
      ((refuse_only _ _).mono rfl : Only [.live, .ports] s _).via (respond_only _ _ _) rfl
    exact ⟨ho.keeps .seat rfl, ho.keeps .plan rfl⟩
  · refine ⟨_, secureCmd_ok hawake hreach hsec _, ?_⟩
    rw [seatCommand_abort]
    obtain ⟨hidle, _, hepoch, hraised⟩ := (abandonMig_abandoned hstate).before (respond_only a (.ok 0) _) rfl rfl rfl rfl
    exact ⟨hidle, hepoch, hraised⟩
  · exact (secureCmd_ok hawake hreach hsec _).trans (by rw [seatCommand_abort, abandonMig_over hstate])
  · refine ⟨_, (execScrubHoldEnd_eq s).trans (act_runs hawake (holds_due hdue)), ?_⟩
    have hseat := holdsEnded_seat s
    cases hlast : (s.seat.holds.filter (fun h => decide (now s < h.2))).isEmpty with
    | false =>
      rw [when_false, hseat]
      exact ⟨rfl, fun hnil => by rw [show s.seat.holds.filter (fun h => decide (now s < h.2)) = [] from hnil] at hlast; cases hlast⟩
    | true =>
      rw [when_true, scrubTold_seat, hseat]
      have hraised : RaisedAmong Src.SEAT_SCRUB_DONE (holdsEnded s).seat.tag s (scrubTold (holdsEnded s)) :=
        ((raiseOn_raised _ _ _ _ _).among.after (modSeat_only _ _) rfl).after (holdsEnded_only s) rfl
      rw [hseat] at hraised
      exact ⟨rfl, fun _ => ⟨rfl, hraised⟩⟩
  · have hrun : exec (.seatWake a g) s = .next (respond a (.ok 0) (wakeGroup g.toNat s)) := by
      rw [← seatWake_group]
      exact act_runs hawake hreach
    have hput : (respond a (.ok 0) (wakeGroup g.toNat s)).seat.awake = s.seat.awake.put g.toNat (now s) :=
      (congrArg Seat.awake ((respond_only _ _ _).keeps .seat rfl)).trans (wakeGroup_awake hg)
    refine ⟨_, hrun, ?_⟩
    rw [hput]
    exact ⟨Store.find_put_same _ _ _, fun h hne => Store.find_put_other _ _ _ _ hne⟩
  · have hsame : wakeGroup g.toNat s = s := if_neg (Nat.not_lt.mpr hg)
    exact (act_runs hawake hreach).trans (by
      unfold hostCmd
      rw [seatWake_group, hsame])
  · have hidle : idleDue s g = true := (idleDue_iff hfind).trans (decide_eq_true hdue)
    rw [show timeOver (.idle g) s = idleOver g s from rfl, idleOver_due hidle]
    exact ⟨act_runs hawake hidle, Store.find_del_same _ _, fun h hne => Store.find_del_other _ _ _ hne⟩
  · have hidle : idleDue s g = false := (idleDue_iff hfind).trans (decide_eq_false (Nat.not_le.mpr hdue))
    show idleOver g s = s
    unfold idleOver
    rw [hidle, when_false]

end Sys2Proof.Machine
end

section
/-! SUPPORT. What the queue of the calibration store leaves of the store. -/

namespace Sys2Proof.Machine

/-- What no queued write, program or reclaim changes of the store. -/
def frameOf (c : CalStore) : (Nat × Nat × Nat × Nat × Bool × FlashDrive) × Nat × Nat × List (Nat × Nat) × Nat × Nat × Nat :=
  ((c.step, c.from0, c.tries, c.density, c.quad, c.drive), c.found, c.cmdOp, c.owed, c.scrubAt, c.powered, c.saved)

def storeFrame (s : State) : (Nat × Nat × Nat × Nat × Bool × FlashDrive) × Nat × Nat × List (Nat × Nat) × Nat × Nat × Nat := frameOf s.cal

abbrev KeepsFrame (s t : State) : Prop := Keeps storeFrame s t

theorem Only.keepsFrame {l : List Part} {s t : State} (h : Only l s t) (hc : l.contains .cal = false) : KeepsFrame s t :=
  congrArg frameOf (h.keeps .cal hc)

theorem modCal_frame {f : CalStore → CalStore} (h : ∀ c, frameOf (f c) = frameOf c) (s : State) : KeepsFrame s (modCal f s) := h s.cal

theorem setFlash_frame (i : Nat) (f : FlashSec) (s : State) : KeepsFrame s (setFlash i f s) := modCal_frame (fun _ => by rfl) s

theorem stcmdStat_frame (st : Nat) (s : State) : KeepsFrame s (stcmdStat st s) := modCal_frame (fun _ => by rfl) s

theorem programAt_frame (req : CalReq) (r : Record) (s : State) : KeepsFrame s (programAt req r s) := modCal_frame (fun _ => by rfl) s

theorem openSector_frame (i : Nat) (s : State) : KeepsFrame s (openSector i s) :=
  (setFlash_frame i _ s).trans (modCal_frame (fun _ => by rfl) _)

theorem openFor_frame {s : State} {write : State → State} (h : ∀ u, KeepsFrame u (write u)) (i : Nat) : KeepsFrame s (openFor i s write) := by
  unfold openFor
  exact .ite (modCal_frame (fun _ => by rfl) s) ((openSector_frame i s).trans (h _))

theorem markRetired_frame (i : Nat) (s : State) : KeepsFrame s (markRetired i s) := by
  unfold markRetired
  exact ((setFlash_frame i _ s).trans (modCal_frame (fun _ => by rfl) _)).trans ((raiseOn_only _ _ _ _ _).keepsFrame rfl)

theorem storeFull_frame (s : State) : KeepsFrame s (storeFull s) := by
  unfold storeFull
  exact ((((modCal_frame (fun _ => by rfl) s).trans ((bumpBy_only _ _ _).keepsFrame rfl)).trans
    (Keeps.when (fun u => stcmdStat_frame 3 u) _ _)).trans ((raiseOn_only _ _ _ _ _).keepsFrame rfl)).trans
    (Keeps.foldl (fun u i => markRetired_frame i u) _ _)

theorem makeRoom_frame {s : State} {write : State → State} (h : ∀ u, KeepsFrame u (write u)) (len : Nat) :
    KeepsFrame s (makeRoom len s write) := by
  unfold makeRoom
  refine .ite (h s) ?_
  split
  · exact openFor_frame h _
  · dsimp only
    split
    · exact .ite (modCal_frame (fun _ => by rfl) s) (modCal_frame (fun _ => by rfl) s)
    · exact storeFull_frame s

theorem retireSector_frame (i : Nat) (s : State) : KeepsFrame s (retireSector i s) := by
  have hmark : KeepsFrame s (modCal (fun c => { c with recs := c.recs.filter (fun r => r.sector != i) }) (markRetired i s)) :=
    (markRetired_frame i s).trans (modCal_frame (fun _ => by rfl) _)
  unfold retireSector
  exact .ite hmark (.ite (hmark.trans (modCal_frame (fun _ => by rfl) _))
    ((hmark.trans ((bump_only _ _).keepsFrame rfl)).trans (modCal_frame (fun _ => by rfl) _)))

theorem calRun_frame (n : Nat) (s : State) : KeepsFrame s (calRun n s) := by
  have hprog : ∀ req r (f : CalStore → CalStore), (∀ c, frameOf (f c) = frameOf c) → ∀ u, KeepsFrame u (programAt req r (modCal f u)) :=
    fun req r f hf u => (modCal_frame hf u).trans (programAt_frame req r _)
  induction n generalizing s with
  | zero => exact .refl s
  | succ n ih =>
    unfold calRun
    dsimp only
    refine .ite (.refl s) ?_
    split
    · exact makeRoom_frame (fun u => hprog _ _ _ (fun _ => by rfl) u) _
    · split
      · split
        · exact makeRoom_frame (fun u => (modCal_frame (fun _ => by rfl) u).trans (programAt_frame _ _ _)) _
        · exact .ite (((modCal_frame (fun _ => by rfl) s).trans (retireSector_frame _ _)).trans (ih _)) (modCal_frame (fun _ => by rfl) s)
      · split
        · exact .refl s
        · exact makeRoom_frame (fun u => hprog _ _ _ (fun _ => by rfl) u) _

theorem calGo_frame (s : State) : KeepsFrame s (calGo s) := (calRun_frame 8 s).trans (calRun_frame 8 _)

theorem calPush_frame (r : CalReq) (s : State) : KeepsFrame s (calPush r s) := by
  have hstat : ∀ (b : Bool) u, KeepsFrame u (when b (stcmdStat 3) u) := fun b u => Keeps.when (fun u => stcmdStat_frame 3 u) b u
  have hfull : ∀ u, KeepsFrame u (bump (calO Reg.CAL_QFULL) u) := fun u => (bump_only _ u).keepsFrame rfl
  have hlate : ∀ (b : Bool), KeepsFrame s (when b (modCal (fun c => { c with late := c.late ++ [r] })) s) := fun b =>
    Keeps.when (fun u => modCal_frame (fun _ => by rfl) u) b s
  unfold calPush
  exact .ite (hstat _ _) (.ite ((hfull s).trans (hstat _ _)) (.ite (.refl s) (.ite (((hlate _).trans (hfull _)).trans (hstat _ _))
    ((modCal_frame (fun _ => by rfl) s).trans (calGo_frame _)))))

theorem blockWrite_frame (typ key : Nat) (s : State) : KeepsFrame s (blockWrite typ key s) := calPush_frame _ s

theorem queueWear_frame (s : State) : KeepsFrame s (queueWear s) :=
  (Keeps.forEach (p := storeFrame) (fun q u => blockWrite_frame 4 q u) (upto (quads s)) (modSparing (fun x => { x with wearOwed := false }) s)).trans
    (blockWrite_frame 4 4 _)

theorem queueWear_sparing (s : State) : (queueWear s).sparing = { s.sparing with wearOwed := false } := by
  have hq : Only [.live, .flt, .cal] (modSparing (fun x => { x with wearOwed := false }) s) (queueWear s) :=
    (Only.forEach (.refl _ _) _ _ fun q u => blockWrite_only 4 q u).via (blockWrite_only _ _ _) rfl
  exact hq.keeps .sparing rfl

end Sys2Proof.Machine
end

section
/-! SUPPORT. Powered time, rotations, retests and self-tests. -/

namespace Sys2Proof.Machine

/-! ### Rotations (R438, R439) -/

theorem execRotationStart_some {s : State} {g sp out : Nat} (h : nextRotation s = some g) (hsp : (standbys s g).head? = some sp)
    (hout : mostStressed s g = some out) : execRotationStart s = act s (atTick s capP 0 && s.sparing.rotTick != some (now s))
      (beginRotation g sp out (modSparing (fun x => { x with rotTick := some (now s) }) s)) := by
  unfold execRotationStart
  rw [h]
  dsimp only
  rw [hsp, hout]

theorem takeFor_beginRotation (g sp out : Nat) (s : State) :
    takeFor (clu (beginRotation g sp out s) g) sp = some ⟨sp, out, now s, .rotation⟩ := by
  unfold beginRotation
  rw [(ringAsk_only _ _ _).clu_eq rfl]
  exact takeFor_putTake ⟨sp, out, now s, .rotation⟩ g s

/-! ### The retest procedure (R441 to R444) -/

theorem execRetestStepDone_some {s : State} {g : Nat} {r : Retest} (hawake : awake s = true) (hg : g < 4 * sectors s)
    (hr : (clu s g).retest = some r) (htap : r.tap = false) (hstep : r.step ≤ 3)
    (hdue : r.from0 + (if r.step = 3 then 1200 else 8) ≤ now s) (ok : Bool) :
    exec (.retestStepDone g ok) s = .next (retestStep g r ok s) := by
  show execRetestStepDone g ok s = _
  unfold execRetestStepDone
  rw [hr]
  refine act_runs hawake ?_
  rw [decide_eq_true hg, decide_eq_true hstep, htap, decide_eq_true hdue]
  rfl

/-- The procedure goes on with its next step. -/
def retestNext (g : Nat) (r : Retest) (k : Nat) (s : State) : State :=
  modClu g (fun c => { c with retest := some { r with step := k, from0 := now s } }) s

theorem retestStep_sound {r : Retest} (hstep : r.step = 1) (hbad : r.bad = false) (g : Nat) (s : State) :
    retestStep g r true s = retestNext g r 2 s := by
  unfold retestStep
  dsimp only
  rw [if_pos hstep]
  exact if_pos (by rw [hbad]; rfl)

theorem retestStep_failed {r : Retest} {ok : Bool} (hstep : r.step = 1) (h : ok = false ∨ r.bad = true) (g : Nat) (s : State) :
    retestStep g r ok s = retestEnd g 1 0 s := by
  unfold retestStep
  dsimp only
  rw [if_pos hstep, if_neg]
  rcases h with h | h
  · rw [h]
    exact Bool.false_ne_true
  · rw [h, Bool.not_true, Bool.and_false]
    exact Bool.false_ne_true

theorem retestStep_loads {g : Nat} {r : Retest} {s : State} (hstep : r.step = 2) (hcur : overCurrent s r.cell = false) :
    retestStep g r true s = modCell r.cell (fun c => { c with legs := 64 }) (retestNext g r 3 s) := by
  unfold retestStep
  dsimp only
  rw [if_neg (by rw [hstep]; decide), if_pos hstep, if_neg (by decide), if_neg (by rw [hcur]; decide)]
  rfl

theorem retestStep_tap {g : Nat} {r : Retest} {s : State} (hstep : r.step = 3) (hfits : urgentFits s (cluQuad g) = true) (ok : Bool) :
    retestStep g r ok s = urgentPush (cluQuad g) (g % 64) 4 (modClu g (fun c => { c with retest := some { r with tap := true } }) s) := by
  unfold retestStep
  dsimp only
  rw [if_neg (by rw [hstep]; decide), if_neg (by rw [hstep]; decide), if_pos hfits]

/-- The load is open, the legs are off, and the result is shown. -/
def retestShown (r : Retest) (step trim : Nat) (s : State) : State :=
  retestRes r.cell step trim (modCell r.cell (fun c => { c with legs := 0 }) s)

theorem retestShown_only (r : Retest) (step trim : Nat) (s : State) : Only [.cells, .live] s (retestShown r step trim s) :=
  ((modCell_only _ _ _).mono rfl : Only [.cells, .live] s _).via (retestRes_only _ _ _ _) rfl

theorem cell_retestShown (r : Retest) (step trim m : Nat) (s : State) :
    cell (retestShown r step trim s) m = cell (modCell r.cell (fun c => { c with legs := 0 }) s) m :=
  (retestRes_only _ _ _ _).cell_eq rfl m

theorem retestEnd_maintenance {g : Nat} {r : Retest} {s : State} (hr : (clu s g).retest = some r) (hm : r.retrim = false) (step trim : Nat) :
    retestEnd g step trim s = modClu g (fun c => { c with retest := none }) (retestShown r step trim s) := by
  unfold retestEnd
  rw [hr]
  dsimp only
  rw [if_pos (by rw [hm]; rfl)]
  rfl

theorem retestEnd_retrim {g step : Nat} {r : Retest} {s : State} (hr : (clu s g).retest = some r) (hm : r.retrim = true) (hstep : step ≠ 0)
    (trim : Nat) : retestEnd g step trim s = raise Src.CELL_RETRIM_FAIL r.cell
      (isolate r.cell 7 (modClu g (fun c => { c with retest := none }) (retestShown r step trim s))) := by
  unfold retestEnd
  rw [hr]
  dsimp only
  rw [if_neg (by rw [hm]; decide), if_neg hstep]
  rfl

theorem live_retestRes (n step trim : Nat) (s : State) : live (retestRes n step trim s) (cluO (n / 64) Reg.CLU_RETESTRES) =
    BitVec.ofNat 32 (n % 64 + 0x100 + (if step = 0 then 0x200 else 0) + 0x400 * step + 0x10000 * trim) := live_setLive_same _ _ _

/-- A failed re-trim isolates its cell. -/
theorem retestEnd_isolates {g step : Nat} {r : Retest} {s : State} (hr : (clu s g).retest = some r) (hm : r.retrim = true) (hstep : step ≠ 0)
    (hcell : (cell s r.cell).state = .retest) (trim : Nat) :
    (cell (retestEnd g step trim s) r.cell).state = .isolated ∧ (cell (retestEnd g step trim s) r.cell).cause = 7 ∧
      RaisedAmong Src.CELL_RETRIM_FAIL r.cell s (retestEnd g step trim s) := by
  have hkeep : cell (modClu g (fun c => { c with retest := none }) (retestShown r step trim s)) r.cell = { cell s r.cell with legs := 0 } := by
    rw [(modClu_only _ _ _).cell_eq rfl, cell_retestShown, cell_modCell_same]
  have hiso := cell_isolate_same (n := r.cell) (s := modClu g (fun c => { c with retest := none }) (retestShown r step trim s)) 7
    (.inr (by rw [hkeep]; exact fun h => by rw [show _ = CellState.retest from hcell] at h; cases h))
  rw [retestEnd_retrim hr hm hstep, (raise_only _ _ _).cell_eq rfl, hiso]
  have hbefore : Only [.cells, .live, .clus] s (modClu g (fun c => { c with retest := none }) (retestShown r step trim s)) :=
    ((retestShown_only _ _ _ _).mono rfl : Only [.cells, .live, .clus] s _).via (modClu_only _ _ _) rfl
  exact ⟨rfl, rfl, ((raise_raised _ _ _).among.after (isolate_only _ _ _) rfl).after hbefore rfl⟩

/-! ### Self-tests (R445) -/

theorem sectorTestWord (i : BitVec 6) : Word.field (BitVec.ofNat 32 (1 + 0x100 * i.toNat)) 2 0 = 1 ∧
    Word.field (BitVec.ofNat 32 (1 + 0x100 * i.toNat)) 13 8 = i.toNat := by
  revert i
  decide

theorem spareTestWord (i : BitVec 6) : Word.field (BitVec.ofNat 32 (2 + 0x100 * i.toNat)) 2 0 = 2 ∧
    Word.field (BitVec.ofNat 32 (2 + 0x100 * i.toNat)) 13 8 = i.toNat := by
  revert i
  decide

theorem calCommand_sector (i : BitVec 6) (s : State) : calCommand (BitVec.ofNat 32 (1 + 0x100 * i.toNat)) s =
    if s.sparing.selfTest.isSome || (decide (sectors s ≤ i.toNat) || ownServes s i.toNat) then cmdStat 4 i.toNat false s
    else cmdStat 1 i.toNat false (modSparing (fun x => { x with selfTest := some ⟨i.toNat, false, now s⟩ }) s) := by
  obtain ⟨hop, hi⟩ := sectorTestWord i
  unfold calCommand
  dsimp only
  rw [hop, hi]
  rfl

theorem calCommand_spare (i : BitVec 6) (s : State) : calCommand (BitVec.ofNat 32 (2 + 0x100 * i.toNat)) s =
    if s.sparing.selfTest.isSome || (decide (quads s ≤ i.toNat) || spareServes s i.toNat) then cmdStat 4 i.toNat true s
    else cmdStat 1 i.toNat true (modSparing (fun x => { x with selfTest := some ⟨i.toNat, true, now s⟩ }) s) := by
  obtain ⟨hop, hi⟩ := spareTestWord i
  unfold calCommand
  dsimp only
  rw [hop, hi]
  rfl

/-- A self-test begun. -/
theorem selfTest_begun (a : Access) (i : Nat) (sp : Bool) (s : State) :
    (respond a (.ok 0) (cmdStat 1 i sp (modSparing (fun x => { x with selfTest := some ⟨i, sp, now s⟩ }) s))).sparing =
        { s.sparing with selfTest := some ⟨i, sp, now s⟩ } ∧
      Only [.sparing, .live, .ports] s
        (respond a (.ok 0) (cmdStat 1 i sp (modSparing (fun x => { x with selfTest := some ⟨i, sp, now s⟩ }) s))) :=
  ⟨Eq.trans ((respond_only _ _ _).keeps .sparing rfl) ((cmdStat_only _ _ _ _).keeps .sparing rfl),
    (((modSparing_only _ _).mono rfl : Only [.sparing, .live, .ports] s _).via (cmdStat_only _ _ _ _) rfl).via (respond_only _ _ _) rfl⟩

theorem execSelfTestDone_some {s : State} {x : SelfTest} (hawake : awake s = true) (hx : s.sparing.selfTest = some x)
    (hdue : x.from0 + 1024 * controlP ≤ now s) (pass : Bool) : exec (.selfTestDone pass) s = .next (selfTestEnd x pass s) := by
  show execSelfTestDone pass s = _
  unfold execSelfTestDone
  rw [hx]
  exact act_runs hawake (decide_eq_true hdue)

theorem selfTestEnd_failed (x : SelfTest) (s : State) :
    selfTestEnd x false s = cmdStat 3 x.index x.spare (modSparing (fun y => { y with selfTest := none }) s) := rfl

theorem selfTestEnd_spare {x : SelfTest} (h : x.spare = true) (s : State) :
    selfTestEnd x true s = cmdStat 2 x.index x.spare (modSparing (fun y => { y with spareFail := y.spareFail.filter (· != x.index) })
      (modSparing (fun y => { y with selfTest := none }) s)) := by
  unfold selfTestEnd
  dsimp only
  rw [Bool.not_true, if_pos rfl, if_neg Bool.false_ne_true, if_pos h]

theorem selfTestEnd_own {x : SelfTest} (h : x.spare = false) (s : State) :
    selfTestEnd x true s = cmdStat 2 x.index x.spare (modSec x.index (fun y => { y with ownFailed := false })
      (modSparing (fun y => { y with selfTest := none }) s)) := by
  unfold selfTestEnd
  dsimp only
  rw [Bool.not_true, if_pos rfl, if_neg Bool.false_ne_true, if_neg (by rw [h]; decide)]

/-- Settles O54. -/
theorem sparingCommands : Obligations.SparingCommands := by
  refine ⟨fun s hawake hlock hdue => ⟨_, act_runs hawake (by rw [hlock, decide_eq_true hdue]; rfl), rfl, rfl, ?_⟩,
    fun s hawake hpast hmod hnew => ?_, fun s g sp out hawake ht hnext hsp hout => ⟨fun hfresh => ?_, fun hdone => ?_⟩,
    fun s g r hawake hg hr htap => ⟨fun hstep hdue hbad => ?_, fun ok hstep hdue hfail hm hcell => ?_,
      fun ok hstep hdue hfail hm => ?_, fun hstep hdue hcur => ?_, fun hstep hdue hfits ok => ?_⟩,
    fun s a i hawake hreach hsec => ⟨fun hnone hi hidle => ?_, fun hnone hi hidle => ?_, fun hbusy => ?_⟩,
    fun s x hawake hx hdue => ⟨?_, ?_⟩⟩
  · exact ((State.setCal_only _ _).mono rfl : Only [.sparing, .cal] s _).via (modSparing_only _ _) rfl
  · refine ⟨_, act_runs hawake (by rw [hpast, hmod, decide_eq_true hnew]; rfl), ?_, ?_⟩
    · rw [queueWear_sparing]
    · exact congrArg (fun v => v.2.2.2.2.2.2) (queueWear_frame (modCal (fun c => { c with saved := c.powered }) s))
  · have hrot : (atTick s capP 0 && s.sparing.rotTick != some (now s)) = true := by
      rw [ht, Bool.true_and, bne_iff_ne]
      exact hfresh
    have ho := beginRotation_only g sp out (modSparing (fun x => { x with rotTick := some (now s) }) s)
    exact ⟨_, (execRotationStart_some hnext hsp hout).trans (act_runs hawake hrot), takeFor_beginRotation g sp out _, ho.keeps .cells rfl,
      congrArg Sparing.rotTick (ho.keeps .sparing rfl), ((modSparing_only _ _).mono rfl : Only [.clus, .rings, .sparing] s _).via ho rfl⟩
  · have hrot : (atTick s capP 0 && s.sparing.rotTick != some (now s)) = false := by
      rw [hdone, bne_self_eq_false, Bool.and_false]
    exact (execRotationStart_some hnext hsp hout).trans (act_idle (.inr hrot))
  · rw [execRetestStepDone_some hawake hg hr htap (by omega) (by rw [if_neg (by omega)]; exact hdue), retestStep_sound hstep hbad]
    exact ⟨_, rfl, by unfold retestNext; rw [clu_modClu_same], modClu_only _ _ _⟩
  · rw [execRetestStepDone_some hawake hg hr htap (by omega) (by rw [if_neg (by omega)]; exact hdue), retestStep_failed hstep hfail]
    exact ⟨_, rfl, retestEnd_isolates hr hm (by decide) hcell 0⟩
  · rw [execRetestStepDone_some hawake hg hr htap (by omega) (by rw [if_neg (by omega)]; exact hdue), retestStep_failed hstep hfail,
      retestEnd_maintenance hr hm]
    refine ⟨_, rfl, by rw [clu_modClu_same], ?_, fun m hne => ?_, ?_⟩
    · rw [(modClu_only _ _ _).cell_eq rfl, cell_retestShown, cell_modCell_same]
    · rw [(modClu_only _ _ _).cell_eq rfl, cell_retestShown, cell_modCell_other hne]
    · exact ((modClu_only _ _ _).live_eq rfl rfl _).trans (live_retestRes r.cell 1 0 _)
  · rw [execRetestStepDone_some hawake hg hr htap (by omega) (by rw [if_neg (by omega)]; exact hdue), retestStep_loads hstep hcur]
    refine ⟨_, rfl, ?_, ?_, fun m hne => ?_⟩
    · rw [(modCell_only _ _ _).clu_eq rfl]
      unfold retestNext
      rw [clu_modClu_same]
    · rw [cell_modCell_same]
      exact congrArg (fun c : Cell => { c with legs := 64 }) ((modClu_only _ _ _).cell_eq rfl _)
    · rw [cell_modCell_other hne]
      exact (modClu_only _ _ _).cell_eq rfl _
  · rw [execRetestStepDone_some hawake hg hr htap (by omega) (by rw [if_pos hstep]; exact hdue), retestStep_tap hstep hfits]
    have ho := modClu_only g (fun c => { c with retest := some { r with tap := true } }) s
    have hfits' : urgentFits (modClu g (fun c => { c with retest := some { r with tap := true } }) s) (cluQuad g) = true := hfits
    rw [urgentPush_fits hfits']
    refine ⟨_, rfl, ?_, ?_, ?_⟩
    · rw [(modQuad_only _ _ _).clu_eq rfl, clu_modClu_same]
    · rw [quad_modQuad_same, ho.quad_eq rfl]
      rfl
    · exact Eq.trans ((modQuad_only _ _ _).keeps .cells rfl) (ho.keeps .cells rfl)
  · refine ⟨_, secureCmd_ok hawake hreach hsec _, ?_⟩
    rw [calCommand_sector, if_neg (by rw [hnone, hidle, decide_eq_false (by omega)]; decide)]
    exact selfTest_begun a _ false s
  · refine ⟨_, secureCmd_ok hawake hreach hsec _, ?_⟩
    rw [calCommand_spare, if_neg (by rw [hnone, hidle, decide_eq_false (by omega)]; decide)]
    exact selfTest_begun a _ true s
  · refine ⟨_, secureCmd_ok hawake hreach hsec _, ?_⟩
    have hrefused : (s.sparing.selfTest.isSome || (decide (sectors s ≤ i.toNat) || ownServes s i.toNat)) = true := by
      rcases hbusy with h | h
      · rw [h, Bool.true_or]
      · rw [h, Bool.or_true, Bool.or_true]
    rw [calCommand_sector, if_pos hrefused, live_respond]
    exact ⟨live_setLive_same _ _ _, ((cmdStat_only _ _ _ _).mono rfl : Only [.live, .ports] s _).via (respond_only _ _ _) rfl⟩
  · refine ⟨_, execSelfTestDone_some hawake hx hdue true, ?_⟩
    cases hsp : x.spare with
    | true =>
      rw [selfTestEnd_spare hsp]
      refine ⟨congrArg Sparing.selfTest ((cmdStat_only _ _ _ _).keeps .sparing rfl), fun h => absurd h.symm Bool.false_ne_true, fun _ => ⟨?_, ?_⟩⟩
      · rw [show (cmdStat 2 x.index x.spare _).sparing = _ from (cmdStat_only _ _ _ _).keeps .sparing rfl]
        exact not_mem_filter_ne _ _
      · exact Eq.trans ((cmdStat_only _ _ _ _).keeps .secs rfl) rfl
    | false =>
      rw [selfTestEnd_own hsp]
      refine ⟨?_, fun _ => ⟨?_, fun n hne => ?_⟩, fun h => absurd h Bool.false_ne_true⟩
      · exact congrArg Sparing.selfTest (Eq.trans ((cmdStat_only _ _ _ _).keeps .sparing rfl) ((modSec_only _ _ _).keeps .sparing rfl))
      · rw [(cmdStat_only _ _ _ _).sec_eq rfl, sec_modSec_same]
      · rw [(cmdStat_only _ _ _ _).sec_eq rfl, sec_modSec_other hne]
        rfl
  · refine ⟨_, execSelfTestDone_some hawake hx hdue false, ?_⟩
    rw [selfTestEnd_failed]
    exact ⟨(cmdStat_only _ _ _ _).keeps .sparing rfl, Eq.trans ((cmdStat_only _ _ _ _).keeps .secs rfl) rfl⟩

end Sys2Proof.Machine
end

section
/-! SUPPORT. The arbiter of a quadrant's ring: what breaks a lock, what begins a cycle, draws and their latches. -/

namespace Sys2Proof.Machine

/-! ### The end of a lock (R465, R466) -/

/-- What the owner's work in a ring does not change: whether a lock is open, the transaction in progress, the breaks. -/
def lockView (q : Nat) (s : State) : Bool × Option Txn × Bool × Nat :=
  ((ring s q).lock.isSome, (ring s q).current, (ring s q).voidWr, (ring s q).broken)

theorem Only.keepsLock {l : List Part} {s t : State} (h : Only l s t) (hr : l.contains .rings = false) (q : Nat) :
    Keeps (lockView q) s t := by
  unfold Keeps lockView
  rw [h.ring_eq hr]

theorem modRing_keepsLock {q p : Nat} {f : Ring → Ring} (h : ∀ r, ((f r).lock.isSome, (f r).current, (f r).voidWr, (f r).broken) =
    (r.lock.isSome, r.current, r.voidWr, r.broken)) (s : State) : Keeps (lockView q) s (modRing p f s) := by
  unfold Keeps lockView
  by_cases hq : q = p
  · rw [hq, ring_modRing_same]
    exact h _
  · rw [ring_modRing_other hq]

theorem ringAsk_keepsLock (q p : Nat) (t : Txn) (s : State) : Keeps (lockView q) s (ringAsk p t s) :=
  modRing_keepsLock (fun r => by split <;> rfl) s

theorem askShifts_keepsLock (q u base p : Nat) (s : State) : Keeps (lockView q) s (askShifts u base p s) :=
  Keeps.foldl (fun v t => ringAsk_keepsLock q p t v) _ s

theorem ringWithdrawIn_keepsLock (q p r : Nat) (s : State) : Keeps (lockView q) s (ringWithdrawIn p r s) :=
  modRing_keepsLock (fun _ => by rfl) s

theorem ownerResetIn_keepsLock (q p r : Nat) (s : State) : Keeps (lockView q) s (ownerResetIn p r s) :=
  modRing_keepsLock (fun r => by dsimp only; rw [Option.isSome_map]) s

theorem refuseLoad_keepsLock (q cause : Nat) (s : State) : Keeps (lockView q) s (refuseLoad cause s) := by
  unfold refuseLoad
  split
  · exact .refl s
  · have hw : Keeps (lockView q) s (ringWithdraw 3 (ownerReset 3 s)) :=
      (Keeps.forEach (fun p u => ownerResetIn_keepsLock q p 3 u) _ s).trans (Keeps.forEach (fun p u => ringWithdrawIn_keepsLock q p 3 u) _ _)
    exact .ite (.refl s) (.ite (.ite ((hw.trans ((modTally_only _ _).keepsLock rfl q)).trans
      (Keeps.forEach (fun p u => askShifts_keepsLock q _ _ p u) _ _)) (hw.trans ((refuseDone_only _ _ _).keepsLock rfl q)))
      ((refuseDone_only _ _ _).keepsLock rfl q))

theorem tellOwner_keepsLock (q p : Nat) (l : Lock) (s : State) : Keeps (lockView q) s (tellOwner p l s) := by
  unfold tellOwner
  refine .ite ?_ (.refl s)
  unfold shiftBroken
  split
  · exact .refl s
  · exact .ite (refuseLoad_keepsLock q 8 s)
      (Keeps.when (fun u => (ringWithdrawIn_keepsLock q p 3 u).trans (askShifts_keepsLock q _ _ p _)) _ s)

theorem breakLock_some {s : State} {q : Nat} {l : Lock} (h : (ring s q).lock = some l) : breakLock q s =
    tellOwner q l (raiseOn Src.ARB_LOCK_BROKEN q 0x03 (1 + q)
      (modRing q (fun x => { x with lock := none, broken := Nat.min (x.broken + 1) 65535 }) s)) := by
  unfold breakLock
  rw [h]

theorem lockView_breakLock {s : State} {q : Nat} {l : Lock} (h : (ring s q).lock = some l) : lockView q (breakLock q s) =
    (false, (ring s q).current, (ring s q).voidWr, Nat.min ((ring s q).broken + 1) 65535) := by
  rw [breakLock_some h]
  refine Eq.trans (tellOwner_keepsLock q q l _) (Eq.trans ((raiseOn_only _ _ _ _ _).keepsLock rfl q) ?_)
  unfold lockView
  rw [ring_modRing_same]
  rfl

/-- A lock that breaks leaves the transaction in progress, and its break is raised. -/
theorem breakLock_broken {s : State} {q : Nat} {l : Lock} (h : (ring s q).lock = some l) :
    (ring (breakLock q s) q).lock = none ∧ (ring (breakLock q s) q).current = (ring s q).current ∧
      (ring (breakLock q s) q).voidWr = (ring s q).voidWr ∧ (ring (breakLock q s) q).broken = Nat.min ((ring s q).broken + 1) 65535 ∧
      RaisedAmong Src.ARB_LOCK_BROKEN q s (breakLock q s) := by
  have hv := lockView_breakLock h
  refine ⟨Option.isSome_eq_false_iff.mp (congrArg (fun v => v.1) hv) |> Option.isNone_iff_eq_none.mp, congrArg (fun v => v.2.1) hv,
    congrArg (fun v => v.2.2.1) hv, congrArg (fun v => v.2.2.2) hv, ?_⟩
  rw [breakLock_some h]
  exact ((raiseOn_raised _ _ _ _ _).among.after (modRing_only _ _ _) rfl).kept (tellOwner_keepsRaised _ _ _)

/-! ### A transaction issued (R453, R455) -/

theorem promote_eq (r t0 : Nat) (x : Ring) : ∃ p w, promote r t0 x = { x with pres := p, queue := w } := by
  unfold promote
  split
  · exact ⟨_, _, rfl⟩
  · exact ⟨_, _, rfl⟩

theorem ring_issue (q : Nat) (t : Txn) (void : Bool) (s : State) : ∃ p w n k o, ring (issue q t void s) q =
      { ring s q with pres := p, queue := w, counts := n, current := some t, voidWr := void, lock := k, opened := o } ∧
    ∀ l, (ring s q).lock = some l → k = some { l with count := l.count + 1 } := by
  obtain ⟨p, w, hp⟩ := promote_eq t.req (now s) { ring s q with pres := (ring s q).pres.erase t, current := some t, voidWr := void }
  unfold issue
  rw [ring_modRing_same, hp]
  unfold countIssue
  dsimp only
  cases hl : (ring s q).lock with
  | some l =>
    refine ⟨p, w, _, some { l with count := l.count + 1 }, (ring s q).opened, rfl, fun k hk => ?_⟩
    rw [Option.some.inj hk]
  | none =>
    dsimp only
    split
    · exact ⟨p, w, _, _, _, rfl, fun k hk => (Option.some_ne_none k hk.symm).elim⟩
    · exact ⟨p, w, _, none, (ring s q).opened, rfl, fun k hk => (Option.some_ne_none k hk.symm).elim⟩

theorem issueFor_some {s : State} {q r : Nat} {x : Txn} (h : presented' s q r = some x) (void : Bool) :
    issueFor q r void s = issue q x void s := by
  unfold issueFor
  rw [h]

/-! ### The cycle that begins (R453, R463, R467) -/

theorem lockExpired_none {s : State} {q : Nat} (h : (ring s q).lock = none) : lockExpired s q = false := by
  unfold lockExpired
  rw [h]

theorem beginCycle_unexpired {s : State} {q : Nat} (h : lockExpired s q = false) (hc : (ring s q).current = none) : beginCycle q s =
    if isoTakes s q then
      match (ring s q).iso with
      | t :: rest => modRing q (fun x => countIssue t s { x with iso := rest, current := some t, voidWr := false }) s
      | [] => s
    else match (ring s q).lock, (ring s q).grants with
      | some l, _ => issueFor q l.owner false s
      | none, r :: rest => issueFor q r false (modRing q (fun x => { x with grants := rest }) s)
      | none, [] => s := by
  unfold beginCycle
  rw [h, if_neg Bool.false_ne_true]
  dsimp only
  rw [hc]
  exact if_neg (by decide)

theorem isoTakes_head {s : State} {q : Nat} {x : Txn} {rest : List Txn} (h : (ring s q).iso = x :: rest) :
    isoTakes s q = decide (x.stamp + 8 ≤ now s) := by
  unfold isoTakes
  rw [h]

/-- What a draw starts from. -/
theorem ring_drawStart (q : Nat) (s : State) : ring (drawStart q s) q = { ring (beginCycle q s) q with
    draw := if suppressed (beginCycle q s) q then none else some (makeDraw (beginCycle q s) q) } := by
  unfold drawStart
  dsimp only
  split
  · rw [ring_modRing_same]
  · rw [(engStart_only _ _ _).ring_eq rfl, ring_modRing_same]

theorem eng_drawStart {q : Nat} {s : State} (h : suppressed (beginCycle q s) q = false) :
    (eng (drawStart q s) clsArb q).start = some (now s) := by
  unfold drawStart
  dsimp only
  rw [if_neg (by rw [h]; decide), eng_engStart]
  exact congrArg some (((modRing_only _ _ _).now_eq rfl).trans ((beginCycle_only q s).now_eq rfl))

theorem suppressed_unlocked {s : State} {q : Nat} (h : (ring s q).lock = none) : suppressed s q = false := by
  unfold suppressed
  rw [h]

theorem suppressed_owner {s : State} {q : Nat} {l : Lock} {x : Txn} (h : (ring s q).lock = some l) (hx : (ring s q).current = some x) :
    suppressed s q = !closes l x := by
  unfold suppressed
  rw [h]
  dsimp only
  rw [hx]

/-! ### The draw (R457 to R462) -/

theorem pick_mem {s : State} {l : List Nat} {v r : Nat} (h : pick s l v = some r) : r ∈ l := by
  induction l generalizing v with
  | nil => cases h
  | cons k l ih =>
    unfold pick at h
    split at h
    · rw [Option.some.inj h]
      exact List.mem_cons_self
    · exact List.mem_cons_of_mem _ (ih h)

theorem afterCyclic_mem {l : List Nat} {last r : Nat} (h : afterCyclic l last = some r) : r ∈ l := by
  unfold afterCyclic at h
  split at h
  next k hk =>
    rw [← Option.some.inj h]
    exact List.mem_of_find?_eq_some hk
  next => exact List.mem_of_mem_head? h

theorem makeDraw_won {s : State} {q r : Nat} (h : (makeDraw s q).won = some r) :
    eligibleReq s q r = true ∧ r < 7 ∧ r ∉ (makeDraw s q).losers := by
  have hel : ∀ p : Nat → Bool, r ∈ ((upto 7).filter (eligibleReq s q)).filter p → eligibleReq s q r = true ∧ r < 7 := fun p hm => by
    obtain ⟨hup, hok⟩ := List.mem_filter.mp (List.mem_filter.mp hm).1
    exact ⟨hok, List.mem_range.mp hup⟩
  unfold makeDraw at h ⊢
  dsimp only at h ⊢
  split at h
  next hempty =>
    rw [if_pos hempty]
    obtain ⟨hok, hlt⟩ := hel _ (afterCyclic_mem h)
    exact ⟨hok, hlt, List.not_mem_nil⟩
  next hsome =>
    rw [if_neg hsome]
    obtain ⟨hok, hlt⟩ := hel _ (pick_mem h)
    refine ⟨hok, hlt, fun hm => ?_⟩
    have hne := (List.mem_filter.mp hm).2
    rw [show (some r != pick s _ _) = false from by rw [show pick s _ _ = some r from h]; exact bne_self_eq_false _] at hne
    exact absurd hne Bool.false_ne_true

/-! ### The latch of a draw (R458, R462, R468) -/

theorem Store.get_put_same {α : Type} (m : Store α) (d : α) (n : Nat) (v : α) : (m.put n v).get d n = v := by
  unfold Store.get
  rw [Store.find_put_same]
  rfl

theorem Store.get_put_other {α : Type} (m : Store α) (d : α) {n k : Nat} (v : α) (h : k ≠ n) : (m.put n v).get d k = m.get d k := by
  unfold Store.get
  rw [Store.find_put_other m n k v h]

/-- The losers' backoff touches their waits and losses alone. -/
theorem backoffs_keep (base cycle : Nat) (l : List Nat) (x : Ring) : ∃ w o, l.foldl (backoff base cycle) x = { x with wait := w, loss := o } := by
  induction l generalizing x with
  | nil => exact ⟨_, _, rfl⟩
  | cons k l ih =>
    obtain ⟨w, o, h⟩ := ih (backoff base cycle x k)
    exact ⟨w, o, h⟩

theorem wait_backoffs_other {base cycle k : Nat} {l : List Nat} (h : k ∉ l) (x : Ring) :
    Store.get (l.foldl (backoff base cycle) x).wait 0 k = Store.get x.wait 0 k := by
  induction l generalizing x with
  | nil => rfl
  | cons j l ih =>
    obtain ⟨hne, hrest⟩ := not_or.mp fun hx => h (List.mem_cons.mpr hx)
    exact (ih hrest _).trans (Store.get_put_other _ _ _ hne)

theorem wait_backoffs {base cycle k : Nat} {l : List Nat} (hnd : l.Nodup) (h : k ∈ l) (x : Ring) :
    Store.get (l.foldl (backoff base cycle) x).wait 0 k = cycle + base * 2 ^ Nat.min (Store.get x.loss 0 k) 10 := by
  induction l generalizing x with
  | nil => cases h
  | cons j l ih =>
    obtain ⟨hj, hl⟩ := List.nodup_cons.mp hnd
    rcases List.mem_cons.mp h with rfl | hk
    · exact (wait_backoffs_other hj _).trans (Store.get_put_same _ _ _ _)
    · have hne : k ≠ j := fun hx => hj (hx ▸ hk)
      refine (ih hl hk (backoff base cycle x j)).trans ?_
      rw [show Store.get (backoff base cycle x j).loss 0 k = Store.get x.loss 0 k from Store.get_put_other _ _ _ hne]

/-- The draw is over, with its LFSR step. -/
def drawOver (s : State) (q : Nat) (d : Draw) : Ring :=
  { ring s q with draw := none, lfsr := d.lfsr, latched := some ⟨now s, (ring s q).wait, (ring s q).last0⟩ }

theorem ring_drawCommit {s : State} {q : Nat} {d : Draw} (h : (ring s q).draw = some d) : ring (drawCommit q s) q =
    if d.void then drawOver s q d
    else match d.won with
      | some r => { d.losers.foldl (backoff d.base d.cycle) (drawOver s q d) with
          grants := (d.losers.foldl (backoff d.base d.cycle) (drawOver s q d)).grants ++ [r]
          loss := Store.set (d.losers.foldl (backoff d.base d.cycle) (drawOver s q d)).loss 0 r 0
          last0 := if d.zero then r else (d.losers.foldl (backoff d.base d.cycle) (drawOver s q d)).last0 }
      | none => d.losers.foldl (backoff d.base d.cycle) (drawOver s q d) := by
  unfold drawCommit
  rw [h]
  exact ring_modRing_same _ _ _

end Sys2Proof.Machine
end

section
/-! SUPPORT. Presentation, draws, completion and locks of the command ring; the debug port. -/

namespace Sys2Proof.Machine

/-! ### Presentation (R455) -/

/-- A requester's own transaction. -/
def rawTxn (req stop reg : Nat) (w : Bool) (d : Word) (opn cls : Bool) (t : Nat) : Txn := ⟨req, stop, reg, w, d, opn, cls, t, .raw⟩

theorem ring_ringAsk_free {s : State} {q : Nat} {t : Txn} (h : ∀ x, x ∈ (ring s q).pres → x.req ≠ t.req) :
    ring (ringAsk q t s) q = { ring s q with pres := (ring s q).pres ++ [{ t with stamp := now s }] } := by
  have hany : (ring s q).pres.any (fun x => x.req == t.req) = false := List.any_eq_false.mpr fun x hx hb => h x hx (eq_of_beq hb)
  unfold ringAsk
  rw [ring_modRing_same, hany]
  exact if_neg Bool.false_ne_true

theorem exec_ringPresent {s : State} {q req stop reg : Nat} (hawake : awake s = true) (hq : q < quads s) (hstop : stop < 128)
    (hreg : reg < 256) (hreq : req < 8) (hfree : req = 7 ∨ ∀ x, x ∈ (ring s q).pres → x.req ≠ req) (w : Bool) (d : Word) (opn cls : Bool) :
    exec (.ringPresent q req stop reg w d opn cls) s = .next (if req = 7 then presentIso q [rawTxn req stop reg w d opn cls (now s)] s
      else ringAsk q (rawTxn req stop reg w d opn cls (now s)) s) := by
  refine act_runs hawake ?_
  have hone : (req == 7 || !(ring s q).pres.any (fun x => x.req == req)) = true := by
    rcases hfree with h | h
    · rw [h]
      rfl
    · rw [List.any_eq_false.mpr fun x hx hb => h x hx (eq_of_beq hb), Bool.not_false, Bool.or_true]
  rw [decide_eq_true hq, decide_eq_true hreq, decide_eq_true hstop, decide_eq_true hreg, hone]
  rfl

/-! ### The cycle that begins -/

theorem exec_drawStart {s : State} {q : Nat} (hawake : awake s = true) (hq : q < quads s) (ht : ringAt s 0 = true)
    (hfresh : (eng s clsArb q).start ≠ some (now s)) : exec (.arbiterDrawStart q) s = .next (drawStart q s) :=
  act_runs hawake (by rw [decide_eq_true hq, ht, bne_iff_ne.mpr hfresh]; rfl)

theorem beginCycle_iso {s : State} {q : Nat} {x : Txn} {rest : List Txn} (hx : lockExpired s q = false) (hc : (ring s q).current = none)
    (hiso : (ring s q).iso = x :: rest) (hdue : x.stamp + 8 ≤ now s) : beginCycle q s =
      modRing q (fun r => countIssue x s { r with iso := rest, current := some x, voidWr := false }) s := by
  rw [beginCycle_unexpired hx hc, if_pos ((isoTakes_head hiso).trans (decide_eq_true hdue)), hiso]

theorem beginCycle_owner {s : State} {q : Nat} {l : Lock} (hx : lockExpired s q = false) (hc : (ring s q).current = none)
    (hiso : isoTakes s q = false) (hl : (ring s q).lock = some l) : beginCycle q s = issueFor q l.owner false s := by
  rw [beginCycle_unexpired hx hc, if_neg (by rw [hiso]; decide), hl]

theorem beginCycle_grant {s : State} {q r : Nat} {rest : List Nat} (hl : (ring s q).lock = none) (hc : (ring s q).current = none)
    (hiso : isoTakes s q = false) (hg : (ring s q).grants = r :: rest) :
    beginCycle q s = issueFor q r false (modRing q (fun x => { x with grants := rest }) s) := by
  rw [beginCycle_unexpired (lockExpired_none hl) hc, if_neg (by rw [hiso]; decide), hl, hg]

theorem beginCycle_idle {s : State} {q : Nat} (hl : (ring s q).lock = none) (hc : (ring s q).current = none)
    (hiso : isoTakes s q = false) (hg : (ring s q).grants = []) : beginCycle q s = s := by
  rw [beginCycle_unexpired (lockExpired_none hl) hc, if_neg (by rw [hiso]; decide), hl, hg]

theorem presented_grants {s : State} {q : Nat} (r : Nat) (rest : List Nat) :
    presented' (modRing q (fun x => { x with grants := rest }) s) q r = presented' s q r := by
  unfold presented'
  rw [ring_modRing_same]
  rfl

/-! ### The latch of a draw -/

theorem exec_drawLatch {s : State} {q : Nat} {d : Draw} (hawake : awake s = true) (hq : q < quads s) (hdue : engDue s clsArb q = true)
    (hd : (ring s q).draw = some d) : exec (.arbiterDrawLatch q) s =
      .next (latch clsArb q (drawCommit q) (modRing q (fun x => { x with draw := none })) s) :=
  act_runs hawake (by rw [decide_eq_true hq, hdue, hd]; rfl)

theorem ring_setEng (cls i q : Nat) (e : EngRun) (s : State) : ring (setEng cls i e s) q = ring s q := (setEng_only _ _ _ _).ring_eq rfl q

/-- A draw that latched with a winner. -/
theorem drawCommit_won {s : State} {q r : Nat} {d : Draw} (h : (ring s q).draw = some d) (hv : d.void = false) (hw : d.won = some r) :
    (ring (drawCommit q s) q).grants = (ring s q).grants ++ [r] ∧ (ring (drawCommit q s) q).lfsr = d.lfsr ∧
      (ring (drawCommit q s) q).draw = none ∧ Store.get (ring (drawCommit q s) q).loss 0 r = 0 ∧
      (d.losers.Nodup → ∀ k, k ∈ d.losers → Store.get (ring (drawCommit q s) q).wait 0 k =
        d.cycle + d.base * 2 ^ Nat.min (Store.get (ring s q).loss 0 k) 10) := by
  obtain ⟨w, o, hkeep⟩ := backoffs_keep d.base d.cycle d.losers (drawOver s q d)
  have hwait := fun hnd k hk => wait_backoffs (base := d.base) (cycle := d.cycle) (k := k) (l := d.losers) hnd hk (drawOver s q d)
  rw [hkeep] at hwait
  rw [ring_drawCommit h, hv, if_neg Bool.false_ne_true, hw]
  dsimp only
  rw [hkeep]
  exact ⟨rfl, rfl, rfl, Store.get_set_same _ _ _ _, hwait⟩

theorem drawCommit_lost {s : State} {q : Nat} {d : Draw} (h : (ring s q).draw = some d) (hv : d.void = true ∨ d.won = none) :
    (ring (drawCommit q s) q).grants = (ring s q).grants ∧ (ring (drawCommit q s) q).lfsr = d.lfsr ∧
      (ring (drawCommit q s) q).draw = none := by
  rw [ring_drawCommit h]
  cases hvoid : d.void with
  | true => exact ⟨rfl, rfl, rfl⟩
  | false =>
    obtain ⟨w, o, hkeep⟩ := backoffs_keep d.base d.cycle d.losers (drawOver s q d)
    rw [if_neg Bool.false_ne_true, hv.resolve_left (by rw [hvoid]; decide)]
    dsimp only
    rw [hkeep]
    exact ⟨rfl, rfl, rfl⟩

/-! ### Completion (R453, R463) -/

/-- The transaction in progress has left the ring, and the debug port has its completion. -/
def txnLeft (q : Nat) (t : Txn) (rd : Word) (s : State) : State :=
  debugDone t rd (modRing q (fun x => { x with current := none, voidWr := false }) s)

theorem ring_txnLeft (q : Nat) (t : Txn) (rd : Word) (s : State) :
    ring (txnLeft q t rd s) q = { ring s q with current := none, voidWr := false } := by
  unfold txnLeft
  rw [(debugDone_only _ _ _).ring_eq rfl, ring_modRing_same]

theorem txnLeft_raw {t : Txn} (h : t.job = .raw) (q : Nat) (rd : Word) (s : State) :
    txnLeft q t rd s = modRing q (fun x => { x with current := none, voidWr := false }) s :=
  if_neg (by rw [h]; decide)

theorem completeTxn_unlocked {s : State} {q : Nat} (h : (ring s q).lock = none) (t : Txn) (rd : Word) : completeTxn q t rd s =
    if t.write && !(ring s q).voidWr then deliverTxn q t (txnLeft q t rd s) else txnLeft q t rd s := by
  have hl : (ring (txnLeft q t rd s) q).lock = none := by rw [ring_txnLeft, h]
  unfold completeTxn
  dsimp only
  rw [show (ring (debugDone t rd _) q).lock = none from hl]
  rfl

/-- What the owner's transaction stages. -/
def stagedWith (l : Lock) (t : Txn) (void : Bool) : List Txn := if t.write && !void then l.staged ++ [t] else l.staged

/-- The owner's transaction is staged. -/
def txnStaged (q : Nat) (l : Lock) (t : Txn) (void : Bool) (s : State) : State :=
  modRing q (fun x => { x with lock := some { l with staged := stagedWith l t void, closed := l.closed || closes l t } }) s

theorem Only.faultComing_eq {l : List Part} {s t : State} (h : Only l s t) (hp : l.contains .params = false) (ha : l.contains .active = false)
    (hf : l.contains .flt = false) (owner from0 : Nat) : faultComing t owner from0 = faultComing s owner from0 := by
  have hcfg : ∀ src, sevOf t src = sevOf s src := fun src => by
    unfold sevOf
    simp only [h.cfgF_eq hp ha]
  unfold faultComing acting
  rw [show t.flt = s.flt from h.keeps .flt hf]
  simp only [hcfg]

theorem Only.lockLimit_eq {l : List Part} {s t : State} (h : Only l s t) (hp : l.contains .params = false) (ha : l.contains .active = false) :
    lockLimit t = lockLimit s := by
  unfold lockLimit
  rw [h.cfgF_eq hp ha]

theorem completeTxn_owner {s : State} {q : Nat} {l : Lock} {t : Txn} (h : (ring s q).lock = some l) (ho : l.owner = t.req)
    (hraw : t.job = .raw) (rd : Word) : completeTxn q t rd s =
    if l.reset || faultComing s l.owner l.from0 then breakLock q (txnStaged q l t (ring s q).voidWr (txnLeft q t rd s))
    else if closes l t && decide (now s ≤ l.from0 + lockLimit s) then
      (stagedWith l t (ring s q).voidWr).foldl (fun s t => deliverTxn q t s)
        (modRing q (fun x => { x with lock := none }) (txnStaged q l t (ring s q).voidWr (txnLeft q t rd s)))
    else if !closes l t && decide (64 ≤ l.count) then breakLock q (txnStaged q l t (ring s q).voidWr (txnLeft q t rd s))
    else txnStaged q l t (ring s q).voidWr (txnLeft q t rd s) := by
  have hl : (ring (txnLeft q t rd s) q).lock = some l := by rw [ring_txnLeft, h]
  have hm := modRing_only q (fun x => { x with current := none, voidWr := false }) s
  have hfault : faultComing (txnLeft q t rd s) l.owner l.from0 = faultComing s l.owner l.from0 := by
    rw [txnLeft_raw hraw, hm.faultComing_eq rfl rfl rfl]
  have hlimit : lockLimit (txnLeft q t rd s) = lockLimit s := by rw [txnLeft_raw hraw, hm.lockLimit_eq rfl rfl]
  have hnow : now (txnLeft q t rd s) = now s := by rw [txnLeft_raw hraw, hm.now_eq rfl]
  have hown : (t.req != l.owner) = false := by rw [ho, bne_self_eq_false]
  rw [← hfault, ← hlimit, ← hnow]
  unfold completeTxn
  dsimp only
  rw [show (ring (debugDone t rd _) q).lock = some l from hl]
  dsimp only
  rw [if_neg (by rw [hown]; decide)]
  rfl

theorem ring_txnStaged (q : Nat) (l : Lock) (t : Txn) (void : Bool) (rd : Word) (s : State) :
    ring (txnStaged q l t void (txnLeft q t rd s)) q = { ring s q with
      current := none, voidWr := false, lock := some { l with staged := stagedWith l t void, closed := l.closed || closes l t } } := by
  unfold txnStaged
  rw [ring_modRing_same, ring_txnLeft]

theorem txnStaged_only {t : Txn} (hraw : t.job = .raw) (q : Nat) (l : Lock) (void : Bool) (rd : Word) (s : State) :
    Only [.rings] s (txnStaged q l t void (txnLeft q t rd s)) := by
  rw [txnLeft_raw hraw]
  exact ((modRing_only _ _ s).mono rfl : Only [.rings] s _).via (modRing_only _ _ _) rfl

theorem deliver_raw {t : Txn} (h : t.job = .raw) (q : Nat) (s : State) : deliverTxn q t s = s := by
  unfold deliverTxn
  rw [h]

theorem deliver_trim {t : Txn} {n v : Nat} (h : t.job = .trim n v) (q : Nat) (s : State) : deliverTxn q t s =
    s.setRegs { s.regs with trims := s.regs.trims.filter (fun x => x.cell != n) ++ [({ cell := n, value := v } : TrimWrite)] } := by
  unfold deliverTxn
  rw [h]

theorem deliver_all_raw {l : List Txn} (h : ∀ y, y ∈ l → y.job = .raw) (q : Nat) (s : State) :
    l.foldl (fun s t => deliverTxn q t s) s = s := by
  induction l with
  | nil => rfl
  | cons y l ih =>
    rw [List.foldl_cons, deliver_raw (h y List.mem_cons_self)]
    exact ih fun z hz => h z (List.mem_cons_of_mem _ hz)

theorem stagedWith_raw {l : Lock} {t : Txn} (hraw : t.job = .raw) (h : ∀ y, y ∈ l.staged → y.job = .raw) (void : Bool) :
    ∀ y, y ∈ stagedWith l t void → y.job = .raw := by
  unfold stagedWith
  split
  · intro y hy
    rcases List.mem_append.mp hy with hy | hy
    · exact h y hy
    · rw [List.mem_singleton.mp hy, hraw]
  · exact h

/-- One staged trim and a transaction without an effect reach their stops as the trim alone. -/
theorem deliver_staged_trim {l : Lock} {t y : Txn} {n v : Nat} (hraw : t.job = .raw) (hl : l.staged = [y]) (hy : y.job = .trim n v)
    (void : Bool) (q : Nat) (s : State) : (stagedWith l t void).foldl (fun s t => deliverTxn q t s) s =
    s.setRegs { s.regs with trims := s.regs.trims.filter (fun x => x.cell != n) ++ [({ cell := n, value := v } : TrimWrite)] } := by
  unfold stagedWith
  rw [hl]
  split
  · show deliverTxn q t (deliverTxn q y s) = _
    rw [deliver_raw hraw, deliver_trim hy]
  · exact deliver_trim hy q s

/-! ### The lock limit (R464, R465) -/

theorem lockExpired_lock {s : State} {q : Nat} (h : lockExpired s q = true) : ∃ l, (ring s q).lock = some l := by
  unfold lockExpired at h
  split at h
  next l hl => exact ⟨l, hl⟩
  next => cases h

theorem expireLock_some {s : State} {q : Nat} {l : Lock} (h : (ring s q).lock = some l) (hc : (ring s q).current = none) : expireLock q s =
    breakLock q (when (!isoTakes s q && !l.closed) (issueFor q l.owner true) s) := by
  unfold expireLock
  rw [h]
  dsimp only
  rw [hc, Option.isNone_none, Bool.and_true]

/-- What the owner issues in the cycle of the expiry leaves its lock open and its breaks uncounted. -/
theorem issueFor_void (q : Nat) {l : Lock} {s : State} (h : (ring s q).lock = some l) : (∃ k, (ring (issueFor q l.owner true s) q).lock = some k) ∧
    (ring (issueFor q l.owner true s) q).broken = (ring s q).broken := by
  unfold issueFor
  split
  next x _ =>
    obtain ⟨p, w, n, k, o, hring, hk⟩ := ring_issue q x true s
    rw [hring]
    exact ⟨⟨_, hk l h⟩, rfl⟩
  next => exact ⟨⟨l, h⟩, rfl⟩

/-! ### The debug port (R577) -/

theorem dbgCommand_refused {s : State} {w : Word}
    (h : s.dbg.busy = true ∨ cfgB s (dbgO Reg.DBG_CTL) 0 = false ∨ quads s ≤ w.field 1 0) :
    dbgCommand w s = refuse 0x0D (modDbg (fun d => { d with refused := true }) s) := by
  unfold dbgCommand
  refine if_pos ?_
  rcases h with h | h | h
  · rw [h]
    rfl
  · rw [h, Bool.not_false, Bool.or_true]
    rfl
  · rw [decide_eq_true h, Bool.or_true]

theorem dbgCommand_taken {s : State} {w : Word} (hb : s.dbg.busy = false) (hc : cfgB s (dbgO Reg.DBG_CTL) 0 = true)
    (hq : w.field 1 0 < quads s) : dbgCommand w s = ringAsk (w.field 1 0)
      { req := 6, stop := w.field 8 2, reg := w.field 16 9, write := w.bit 17, data := live s (dbgO Reg.DBG_WDATA),
        opn := w.bit 18, cls := w.bit 19, stamp := now s, job := .debug }
      (modDbg (fun d => { d with busy := true, done := false, refused := false, withdrawn := false }) s) := by
  unfold dbgCommand
  exact if_neg (by rw [hb, hc, decide_eq_false (Nat.not_le.mpr hq)]; decide)

/-- An operation on each ring of a list, once each. -/
theorem ring_forEach_each {op : Nat → State → State} {f : Ring → Ring} (hsame : ∀ p s, ring (op p s) p = f (ring s p))
    (hother : ∀ p k s, k ≠ p → ring (op p s) k = ring s k) {l : List Nat} (hnd : l.Nodup) (k : Nat) (s : State) :
    ring (forEach l op s) k = if k ∈ l then f (ring s k) else ring s k := by
  induction l generalizing s with
  | nil => rfl
  | cons p l ih =>
    obtain ⟨hp, hl⟩ := List.nodup_cons.mp hnd
    rw [forEach_cons, ih hl]
    by_cases hk : k = p
    · rw [hk, if_neg hp, if_pos List.mem_cons_self, hsame]
    · rw [hother p k s hk]
      by_cases hin : k ∈ l
      · rw [if_pos hin, if_pos (List.mem_cons_of_mem _ hin)]
      · rw [if_neg hin, if_neg fun h => hin ((List.mem_cons.mp h).resolve_left hk)]

/-- A reset of a requester. -/
def lockReset (r : Nat) (x : Ring) : Ring := { x with lock := x.lock.map (fun l => if l.owner = r then { l with reset := true } else l) }

/-- The transactions of a requester withdrawn. -/
def withdrawnFrom (r : Nat) (x : Ring) : Ring :=
  { x with pres := x.pres.filter (fun t => t.req != r), queue := x.queue.filter (fun t => t.req != r) }

theorem ring_debugReset {s : State} {q : Nat} (hq : q < quads s) : ring (debugReset s) q = withdrawnFrom 6 (lockReset 6 (ring s q)) := by
  have hin : q ∈ upto (quads s) := List.mem_range.mpr hq
  unfold debugReset
  dsimp only
  generalize hu : when _ _ s = u
  have ho : Only [.dbg] s u := by
    rw [← hu]
    exact .when (.refl _ _) _ _ fun v => modDbg_only _ v
  have hquads : quads u = quads s := ho.quads_eq rfl
  have hreset := fun v => ring_forEach_each (op := fun p => ownerResetIn p 6) (f := lockReset 6) (fun p s => ring_modRing_same p _ s)
    (fun p k s h => ring_modRing_other h _ s) (List.nodup_range (n := quads v)) q v
  have hdrop := fun v => ring_forEach_each (op := fun p => ringWithdrawIn p 6) (f := withdrawnFrom 6) (fun p s => ring_modRing_same p _ s)
    (fun p k s h => ring_modRing_other h _ s) (List.nodup_range (n := quads v)) q v
  have hquads' : quads (ownerReset 6 u) = quads s := ((ownerReset_only 6 u).quads_eq rfl).trans hquads
  have h2 : ring (ringWithdraw 6 (ownerReset 6 u)) q = withdrawnFrom 6 (ring (ownerReset 6 u) q) :=
    (hdrop (ownerReset 6 u)).trans (if_pos (by rw [hquads']; exact hin))
  have h1 : ring (ownerReset 6 u) q = lockReset 6 (ring u q) := (hreset u).trans (if_pos (by rw [hquads]; exact hin))
  rw [h2, h1, ho.ring_eq rfl]

end Sys2Proof.Machine
end

section
/-! SUPPORT. The obligation on the command ring. -/

namespace Sys2Proof.Machine

/-- The cycle begun by the fault isolator's transaction. -/
theorem drawStart_iso {s : State} {q : Nat} {x : Txn} {rest : List Txn} (hl : (ring s q).lock = none) (hc : (ring s q).current = none)
    (hiso : (ring s q).iso = x :: rest) (hdue : x.stamp + 8 ≤ now s) : (ring (drawStart q s) q).current = some x ∧
      (ring (drawStart q s) q).iso = rest ∧ (eng (drawStart q s) clsArb q).start = some (now s) := by
  have hbegin := beginCycle_iso (lockExpired_none hl) hc hiso hdue
  have hring : ring (beginCycle q s) q = countIssue x s { ring s q with iso := rest, current := some x, voidWr := false } := by
    rw [hbegin, ring_modRing_same]
  have hlock : (ring (beginCycle q s) q).lock = none := by
    rw [hring]
    exact hl
  rw [eng_drawStart (suppressed_unlocked hlock), ring_drawStart, hring]
  exact ⟨rfl, rfl, rfl⟩

theorem drawStart_idle {s : State} {q : Nat} (hl : (ring s q).lock = none) (hc : (ring s q).current = none)
    (hiso : isoTakes s q = false) (hg : (ring s q).grants = []) : (ring (drawStart q s) q).current = none ∧
      (ring (drawStart q s) q).draw = some (makeDraw s q) ∧ (eng (drawStart q s) clsArb q).start = some (now s) := by
  have hbegin := beginCycle_idle hl hc hiso hg
  have hfree : suppressed (beginCycle q s) q = false := by
    rw [hbegin]
    exact suppressed_unlocked hl
  rw [eng_drawStart hfree, ring_drawStart, hfree, if_neg Bool.false_ne_true, hbegin]
  exact ⟨hc, rfl, rfl⟩

theorem drawStart_grant {s : State} {q r : Nat} {rest : List Nat} {x : Txn} (hl : (ring s q).lock = none) (hc : (ring s q).current = none)
    (hiso : isoTakes s q = false) (hg : (ring s q).grants = r :: rest) (hx : presented' s q r = some x) :
    (ring (drawStart q s) q).current = some x ∧ (ring (drawStart q s) q).grants = rest := by
  have hbegin := beginCycle_grant hl hc hiso hg
  rw [issueFor_some ((presented_grants r rest).trans hx)] at hbegin
  obtain ⟨p, w, n, k, o, hring, _⟩ := ring_issue q x false (modRing q (fun y => { y with grants := rest }) s)
  rw [ring_drawStart, hbegin, hring, ring_modRing_same]
  exact ⟨rfl, rfl⟩

/-- The cycle of a lock's owner. -/
theorem drawStart_owner {s : State} {q : Nat} {l : Lock} {x : Txn} (hl : (ring s q).lock = some l) (hexp : lockExpired s q = false)
    (hc : (ring s q).current = none) (hiso : isoTakes s q = false) (hx : presented' s q l.owner = some x) :
    (ring (drawStart q s) q).current = some x ∧ (ring (drawStart q s) q).lock = some { l with count := l.count + 1 } ∧
      (ring (drawStart q s) q).grants = (ring s q).grants ∧ (closes l x = false → (ring (drawStart q s) q).draw = none) ∧
      (closes l x = true → (ring (drawStart q s) q).draw.isSome = true) := by
  have hbegin := beginCycle_owner hexp hc hiso hl
  rw [issueFor_some hx] at hbegin
  obtain ⟨p, w, n, k, o, hring, hk⟩ := ring_issue q x false s
  have hlock := hk l hl
  have hsup : suppressed (beginCycle q s) q = !closes l x := by
    refine suppressed_owner (l := { l with count := l.count + 1 }) ?_ ?_
    · rw [hbegin, hring]
      exact hlock
    · rw [hbegin, hring]
  rw [ring_drawStart, hsup, hbegin, hring]
  refine ⟨rfl, hlock, rfl, fun h => ?_, fun h => ?_⟩
  · rw [h]
    rfl
  · rw [h]
    rfl

theorem drawLatch_cases {s : State} {q : Nat} {d : Draw} (hawake : awake s = true) (hq : q < quads s) (hdue : engDue s clsArb q = true)
    (hd : (ring s q).draw = some d) :
    ((eng s clsArb q).done.isSome = true → d.void = false → ∀ r, d.won = some r → ∃ t, exec (.arbiterDrawLatch q) s = .next t ∧
      (ring t q).grants = (ring s q).grants ++ [r] ∧ (ring t q).lfsr = d.lfsr ∧ (ring t q).draw = none ∧
      Store.get (ring t q).loss 0 r = 0 ∧ (d.losers.Nodup → ∀ k, k ∈ d.losers → Store.get (ring t q).wait 0 k =
        d.cycle + d.base * 2 ^ Nat.min (Store.get (ring s q).loss 0 k) 10)) ∧
    ((eng s clsArb q).done.isSome = true → (d.void = true ∨ d.won = none) → ∃ t, exec (.arbiterDrawLatch q) s = .next t ∧
      (ring t q).grants = (ring s q).grants ∧ (ring t q).lfsr = d.lfsr ∧ (ring t q).draw = none) ∧
    ((eng s clsArb q).done = none → ∃ t, exec (.arbiterDrawLatch q) s = .next t ∧ ring t q = { ring s q with draw := none } ∧
      RaisedAmong Src.ENG_OVERRUN (engKey clsArb q) s t) := by
  have hrun := exec_drawLatch hawake hq hdue hd
  have hset := ring_setEng clsArb q q { eng s clsArb q with start := none, done := none } s
  refine ⟨fun hdone hv r hw => ⟨_, hrun, ?_⟩, fun hdone hlost => ⟨_, hrun, ?_⟩, fun hmiss => ⟨_, hrun, ?_⟩⟩
  · rw [latch_done _ _ hdone]
    have h := drawCommit_won (r := r) ((congrArg Ring.draw hset).trans hd) hv hw
    rwa [hset] at h
  · rw [latch_done _ _ hdone]
    have h := drawCommit_lost ((congrArg Ring.draw hset).trans hd) hlost
    rwa [hset] at h
  · rw [latch_overrun _ _ hmiss, ring_modRing_same, (overrun_only _ _ _).ring_eq rfl]
    exact ⟨rfl, (overrun_among _ _ _).before (modRing_only _ _ _) rfl⟩

/-! ### The two halves of the obligation -/

theorem ring_completes {s : State} {q : Nat} {x : Txn} (rd : Word) (hawake : awake s = true) (hq : q < quads s) (ht : ringAt s 7 = true)
    (hc : (ring s q).current = some x) {t : State} (h : completeTxn q x rd s = t) :
    exec (.ringTransactionComplete q rd) s = .next t := by
  rw [exec_ringTransactionComplete rd hawake hq ht hc, h]

theorem completeTxn_plain_raw {s : State} {q : Nat} {x : Txn} (rd : Word) (hl : (ring s q).lock = none) (hraw : x.job = .raw) :
    completeTxn q x rd s = modRing q (fun y => { y with current := none, voidWr := false }) s := by
  rw [completeTxn_unlocked hl, txnLeft_raw hraw, deliver_raw hraw, ite_self]

/-- The owner's transaction within its lock. -/
structure OwnerTxn (s : State) (q : Nat) (l : Lock) (x : Txn) : Prop where
  lock : (ring s q).lock = some l
  owner : l.owner = x.req
  raw : x.job = .raw

/-- The owner's lock stands. -/
structure LockStands (s : State) (l : Lock) : Prop where
  reset : l.reset = false
  fault : faultComing s l.owner l.from0 = false

theorem LockStands.unbroken {s : State} {l : Lock} (h : LockStands s l) : (l.reset || faultComing s l.owner l.from0) = false := by
  rw [h.reset, h.fault]
  rfl

theorem completeTxn_kept {s : State} {q : Nat} {l : Lock} {x : Txn} (ho : OwnerTxn s q l x) (hs : LockStands s l) (rd : Word)
    (hclose : closes l x = true ∧ l.from0 + lockLimit s < now s ∨ closes l x = false ∧ l.count < 64) :
    completeTxn q x rd s = txnStaged q l x (ring s q).voidWr (txnLeft q x rd s) := by
  rw [completeTxn_owner ho.lock ho.owner ho.raw, if_neg (by rw [hs.unbroken]; decide)]
  rcases hclose with ⟨hcl, hlate⟩ | ⟨hcl, hcount⟩
  · rw [if_neg (by rw [hcl, decide_eq_false (Nat.not_le.mpr hlate)]; decide), if_neg (by rw [hcl]; exact Bool.false_ne_true)]
  · rw [if_neg (by rw [hcl]; exact Bool.false_ne_true), if_neg (by rw [hcl, decide_eq_false (Nat.not_le.mpr hcount)]; decide)]

theorem completeTxn_closed {s : State} {q : Nat} {l : Lock} {x : Txn} (ho : OwnerTxn s q l x) (hs : LockStands s l) (rd : Word)
    (hclose : closes l x = true) (hin : now s ≤ l.from0 + lockLimit s) : completeTxn q x rd s =
      (stagedWith l x (ring s q).voidWr).foldl (fun s t => deliverTxn q t s)
        (modRing q (fun x => { x with lock := none }) (txnStaged q l x (ring s q).voidWr (txnLeft q x rd s))) := by
  rw [completeTxn_owner ho.lock ho.owner ho.raw, if_neg (by rw [hs.unbroken]; decide),
    if_pos (by rw [hclose, decide_eq_true hin]; rfl)]

theorem completeTxn_breaks {s : State} {q : Nat} {l : Lock} {x : Txn} (ho : OwnerTxn s q l x) (rd : Word)
    (hb : l.reset = true ∨ faultComing s l.owner l.from0 = true ∨ closes l x = false ∧ 64 ≤ l.count) : completeTxn q x rd s =
      breakLock q (txnStaged q l x (ring s q).voidWr (txnLeft q x rd s)) := by
  rw [completeTxn_owner ho.lock ho.owner ho.raw]
  cases hr : l.reset || faultComing s l.owner l.from0 with
  | true => exact if_pos rfl
  | false =>
    obtain ⟨hreset, hfault⟩ := Bool.or_eq_false_iff.mp hr
    obtain ⟨hcl, hcount⟩ := (hb.resolve_left (by rw [hreset]; decide)).resolve_left (by rw [hfault]; decide)
    rw [if_neg Bool.false_ne_true, if_neg (by rw [hcl]; exact Bool.false_ne_true), if_pos (by rw [hcl, decide_eq_true hcount]; rfl)]

/-- The owner's close lets its lock go, and what follows leaves the ring. -/
theorem ring_lockGone (q : Nat) (l : Lock) {x : Txn} (void : Bool) (rd : Word) (s : State) :
    ring (modRing q (fun x => { x with lock := none }) (txnStaged q l x void (txnLeft q x rd s))) q =
      { ring s q with current := none, voidWr := false, lock := none } := by
  rw [ring_modRing_same, ring_txnStaged]

theorem lockLimit_expires {s : State} {q : Nat} (hc : (ring s q).current = none) (h : lockExpired s q = true) :
    (ring (expireLock q s) q).lock = none ∧ (ring (expireLock q s) q).broken = Nat.min ((ring s q).broken + 1) 65535 ∧
      RaisedAmong Src.ARB_LOCK_BROKEN q s (expireLock q s) ∧
      (∀ l x, (ring s q).lock = some l → l.closed = false → isoTakes s q = false → presented' s q l.owner = some x →
        (ring (expireLock q s) q).current = some x ∧ (ring (expireLock q s) q).voidWr = true) ∧
      (∀ l, (ring s q).lock = some l → l.closed = true → (ring (expireLock q s) q).current = none) := by
  obtain ⟨l, hl⟩ := lockExpired_lock h
  obtain ⟨⟨k, hk⟩, hbroken⟩ := issueFor_void q hl
  rw [expireLock_some hl hc]
  cases hgo : !isoTakes s q && !l.closed with
  | true =>
    rw [when_true]
    obtain ⟨hlock, hcur, hvoid, hbr, hraised⟩ := breakLock_broken hk
    refine ⟨hlock, hbr.trans (by rw [hbroken]), hraised.after (issueFor_only _ _ _ _) rfl, fun m x hm hopen hiso hx => ?_,
      fun m hm hclosed => ?_⟩
    · rw [hl] at hm
      cases hm
      obtain ⟨p, w, n, c, o, hring, _⟩ := ring_issue q x true s
      rw [hcur, hvoid, issueFor_some hx, hring]
      exact ⟨rfl, rfl⟩
    · rw [hl] at hm
      cases hm
      rw [hclosed, Bool.not_true, Bool.and_false] at hgo
      cases hgo
  | false =>
    rw [when_false]
    obtain ⟨hlock, hcur, hvoid, hbr, hraised⟩ := breakLock_broken hl
    refine ⟨hlock, hbr, hraised, fun m x hm hopen hiso hx => ?_, fun m hm hclosed => hcur.trans hc⟩
    rw [hl] at hm
    cases hm
    rw [hopen, hiso] at hgo
    cases hgo

/-- Settles O55. -/
theorem ringCommands : Obligations.RingCommands := by
  refine ⟨⟨fun s q req stop reg w d opn cls hawake hq hstop hreg => ⟨fun hreq hfree => ?_, fun hreq => ?_⟩,
      fun s q hawake hq ht hfresh hl hc => ⟨fun x rest hiso hdue => ⟨_, exec_drawStart hawake hq ht hfresh, drawStart_iso hl hc hiso hdue⟩,
        fun hiso hg => ⟨_, exec_drawStart hawake hq ht hfresh, drawStart_idle hl hc hiso hg⟩,
        fun r rest x hiso hg hx => ⟨_, exec_drawStart hawake hq ht hfresh, drawStart_grant hl hc hiso hg hx⟩⟩,
      fun s q l x hawake hq ht hfresh hl hexp hc hiso hx =>
        ⟨_, exec_drawStart hawake hq ht hfresh, drawStart_owner hl hexp hc hiso hx⟩,
      fun s q r h => makeDraw_won h, fun s q d hawake hq hdue hd => drawLatch_cases hawake hq hdue hd⟩,
    fun s q x rd hawake hq ht hc => ⟨fun hl hraw => ?_, fun hl hv hw n v hj => ?_, fun hl hj hw => ?_, fun l hl ho hr hf hraw hcl hn => ?_,
      fun l hl ho hr hf hraw hcl hin => ⟨fun hall => ?_, fun y n v hy hj => ?_⟩, fun l hl ho hr hf hraw hcl hlate => ?_,
      fun l hl ho hraw hb => ?_⟩,
    fun s q hawake hq ht hexp hc =>
      ⟨_, act_runs hawake (by rw [decide_eq_true hq, ht, hexp, hc]; rfl), lockLimit_expires hc hexp⟩,
    fun s a c hawake hreach hsec => ⟨fun hb hctl hq => ?_, fun hrefused => ?_⟩, fun s q hawake hq => ?_⟩
  · rw [exec_ringPresent hawake hq hstop hreg (by omega) (.inr hfree), if_neg (by omega)]
    exact ⟨_, rfl, ring_ringAsk_free hfree, fun p hp => ring_modRing_other hp _ _, ringAsk_only _ _ _⟩
  · rw [exec_ringPresent hawake hq hstop hreg (by omega) (.inl hreq), if_pos hreq]
    exact ⟨_, rfl, ring_modRing_same _ _ _, fun p hp => ring_modRing_other hp _ _, modRing_only _ _ _⟩
  · exact ⟨_, ring_completes rd hawake hq ht hc (completeTxn_plain_raw rd hl hraw), ring_modRing_same _ _ _, modRing_only _ _ _⟩
  · refine ⟨_, ring_completes rd hawake hq ht hc ((completeTxn_plain rd hl hv hw (by rw [hj]; exact fun h => by cases h)).trans
      (deliver_trim hj q _)), ?_, rfl⟩
    exact congrArg Ring.current (ring_modRing_same q (fun r => { r with current := none, voidWr := false }) s)
  · refine ⟨_, ring_completes rd hawake hq ht hc ((completeTxn_unlocked hl x rd).trans (if_neg (by rw [hw]; exact Bool.false_ne_true))),
      by rw [ring_txnLeft], ?_⟩
    unfold txnLeft debugDone
    rw [if_pos hj, hw, Bool.not_false, when_true]
    exact ⟨live_setLive_same _ _ _, (setLive_only _ _ _).keeps .dbg rfl⟩
  · refine ⟨_, ring_completes rd hawake hq ht hc (completeTxn_kept ⟨hl, ho, hraw⟩ ⟨hr, hf⟩ rd (.inr ⟨hcl, hn⟩)), ?_,
      txnStaged_only hraw q l _ rd s⟩
    rw [ring_txnStaged, hcl, Bool.or_false]
    rfl
  · refine ⟨_, ring_completes rd hawake hq ht hc ((completeTxn_closed ⟨hl, ho, hraw⟩ ⟨hr, hf⟩ rd hcl hin).trans
      (deliver_all_raw (stagedWith_raw hraw hall _) q _)), ?_, ?_, (txnStaged_only hraw q l _ rd s).via (modRing_only _ _ _) rfl⟩
    · rw [ring_lockGone]
    · rw [ring_lockGone]
  · refine ⟨_, ring_completes rd hawake hq ht hc ((completeTxn_closed ⟨hl, ho, hraw⟩ ⟨hr, hf⟩ rd hcl hin).trans
      (deliver_staged_trim hraw hy hj _ q _)), ?_, ?_⟩
    · exact congrArg Ring.lock (ring_lockGone q l _ rd s)
    · have hregs : (modRing q (fun x => { x with lock := none }) (txnStaged q l x (ring s q).voidWr (txnLeft q x rd s))).regs = s.regs := by
        rw [txnLeft_raw hraw]
        rfl
      rw [← hregs]
      rfl
  · refine ⟨_, ring_completes rd hawake hq ht hc (completeTxn_kept ⟨hl, ho, hraw⟩ ⟨hr, hf⟩ rd (.inl ⟨hcl, hlate⟩)),
      txnStaged_only hraw q l _ rd s, ?_⟩
    rw [ring_txnStaged, hcl, Bool.or_true]
    rfl
  · have hstaged : (ring (txnStaged q l x (ring s q).voidWr (txnLeft q x rd s)) q).lock =
        some { l with staged := stagedWith l x (ring s q).voidWr, closed := l.closed || closes l x } := by rw [ring_txnStaged]
    obtain ⟨hlock, _, _, _, hraised⟩ := breakLock_broken hstaged
    exact ⟨_, ring_completes rd hawake hq ht hc (completeTxn_breaks ⟨hl, ho, hraw⟩ rd hb), hlock,
      hraised.after (txnStaged_only hraw q l _ rd s) rfl⟩
  · refine ⟨_, secureCmd_ok hawake hreach hsec _, ?_⟩
    rw [dbgCommand_taken hb hctl hq]
    exact ⟨Eq.trans ((respond_only _ _ _).keeps .dbg rfl) ((ringAsk_only _ _ _).keeps .dbg rfl),
      (((modDbg_only _ s).mono rfl : Only [.dbg, .rings, .ports] s _).via (ringAsk_only _ _ _) rfl).via (respond_only _ _ _) rfl⟩
  · refine ⟨_, secureCmd_ok hawake hreach hsec _, ?_⟩
    rw [dbgCommand_refused hrefused]
    have ho := ((refuse_only 0x0D (modDbg (fun d => { d with refused := true }) s)).mono rfl : Only [.live, .ports] _ _).via
      (respond_only a (.ok 0) _) rfl
    exact ⟨ho.keeps .dbg rfl, Eq.trans (ho.keeps .rings rfl) rfl, field_refuse_respond _ _ _ _⟩
  · refine ⟨_, act_runs hawake rfl, ?_, ?_, fun l hl how => ?_, fun l hl how => ?_, debugReset_only s⟩
    · rw [ring_debugReset hq]
      rfl
    · rw [ring_debugReset hq]
      rfl
    · rw [ring_debugReset hq]
      unfold withdrawnFrom lockReset
      rw [hl]
      exact congrArg some (if_pos how)
    · rw [ring_debugReset hq]
      unfold withdrawnFrom lockReset
      rw [hl]
      exact congrArg some (if_neg how)

end Sys2Proof.Machine
end

section
/-! SUPPORT. A discard, a trip and a START leave the chip-off action of the fault manager. -/

namespace Sys2Proof.Machine

/-- The chip-off action and whether it waits for a reference. -/
def chipView (s : State) : Bool × Bool := (s.flt.chipOff, s.flt.chipRef)

abbrev KeepsChip (s t : State) : Prop := Keeps chipView s t

theorem Only.keepsChip {l : List Part} {s t : State} (h : Only l s t) (hf : l.contains .flt = false) : KeepsChip s t :=
  congrArg (fun f : Faults => (f.chipOff, f.chipRef)) (h.keeps .flt hf)

theorem raise_keepsChip (src det : Nat) (s : State) : KeepsChip s (raise src det s) := rfl

theorem raiseOn_keepsChip (src det page bit : Nat) (s : State) : KeepsChip s (raiseOn src det page bit s) :=
  (raise_keepsChip src det s).trans ((pageFlt_only _ _ _).keepsChip rfl)

/-! ### A discard (R494) -/

theorem refuseDone_keepsChip (u cause : Nat) (s : State) : KeepsChip s (refuseDone u cause s) := by
  have hstat : Only [.tally, .live] s (loadStat 5 cause (modTally (fun t => { t with load := none }) s)) :=
    ((modTally_only _ s).mono rfl).via (loadStat_only _ _ _) rfl
  exact ((hstat.keepsChip rfl).trans (Keeps.when (fun v => raiseOn_keepsChip _ _ _ _ v) _ _)).trans
    ((nextInstall_only _).keepsChip rfl)

theorem refuseLoad_keepsChip (cause : Nat) (s : State) : KeepsChip s (refuseLoad cause s) := by
  have hrings : Only [.rings] s (ringWithdraw 3 (ownerReset 3 s)) := (ownerReset_only 3 s).via (ringWithdraw_only _ _) rfl
  unfold refuseLoad
  split
  · exact .refl s
  · exact .ite (.refl s) (.ite (.ite (((hrings.keepsChip rfl).trans ((modTally_only _ _).keepsChip rfl)).trans
      (Keeps.forEach (fun q u => (askShifts_only _ _ q u).keepsChip rfl) _ _))
      ((hrings.keepsChip rfl).trans (refuseDone_keepsChip _ _ _))) (refuseDone_keepsChip _ _ _))

theorem tellOwner_keepsChip (q : Nat) (l : Lock) (s : State) : KeepsChip s (tellOwner q l s) := by
  unfold tellOwner
  refine .ite ?_ (.refl s)
  unfold shiftBroken
  split
  · exact .refl s
  · exact .ite (refuseLoad_keepsChip _ _) (Keeps.when (fun u =>
      ((ringWithdrawIn_only _ _ u).keepsChip rfl).trans ((askShifts_only _ _ _ _).keepsChip rfl)) _ _)

theorem breakLock_keepsChip (q : Nat) (s : State) : KeepsChip s (breakLock q s) := by
  cases hl : (ring s q).lock with
  | none =>
    unfold breakLock
    rw [hl]
    exact .refl s
  | some l =>
    rw [breakLock_some hl]
    exact (((modRing_only _ _ _).keepsChip rfl).trans (raiseOn_keepsChip _ _ _ _ _)).trans (tellOwner_keepsChip _ _ _)

theorem incomingLost_keepsChip (g n : Nat) (s : State) : KeepsChip s (incomingLost g n s) := by
  cases ht : takeFor (clu s g) n with
  | none =>
    rw [incomingLost_none ht]
    exact .refl s
  | some t =>
    rw [incomingLost_some ht]
    exact (((dropTake_only g n s).keepsChip rfl).trans (Keeps.when (fun u =>
      (raise_keepsChip _ _ u).trans ((ownerResetIn_only _ _ _).keepsChip rfl)) _ _)).trans ((fillDuty_only g _).keepsChip rfl)

theorem rotationDropped_keepsChip (g n : Nat) (s : State) : KeepsChip s (rotationDropped g n s) := by
  unfold rotationDropped
  split
  · exact .ite ((Keeps.when (fun u => (modCell_only _ _ u).keepsChip rfl) _ _).trans (incomingLost_keepsChip _ _ _)) (.refl s)
  · exact .refl s

theorem withdrawn_keepsChip (s : State) (t : Txn) : KeepsChip s (withdrawn s t) := by
  have hretrim : ∀ n u, KeepsChip u (withdrawn.abandonRetrimOf n u) := fun n u => by
    unfold withdrawn.abandonRetrimOf
    split
    · exact .ite ((abandonRetrim_only _ _).keepsChip rfl) (.refl _)
    · exact .refl _
  unfold withdrawn
  split
  · exact .ite (.refl s) (incomingLost_keepsChip _ _ _)
  · exact rotationDropped_keepsChip _ _ _
  · exact .trans ((modCell_only _ _ _).keepsChip rfl) (hretrim _ _)
  · exact (State.setDbg_only _ _).keepsChip rfl
  · exact .refl s

theorem discardQuad_keepsChip (q : Nat) (s : State) : KeepsChip s (discardQuad q s) :=
  (((((modRing_only q (voidDraw s) s).keepsChip rfl).trans (breakLock_keepsChip q _)).trans
    (Keeps.foldl withdrawn_keepsChip _ _)).trans ((dropUrgent_only q _).keepsChip rfl)).trans ((flushWindow_only true q _).keepsChip rfl)

theorem discardInstall_keepsChip (l : Option Load) (s : State) : KeepsChip s (discardInstall l s) := by
  have hmod : KeepsChip s (modTally (fun t => { t with load := l }) s) := (modTally_only _ s).keepsChip rfl
  unfold discardInstall
  split
  · exact hmod
  · exact .ite (hmod.trans (Keeps.foldl (fun u q => (askShifts_only _ _ q u).keepsChip rfl) _ _))
      (hmod.trans (refuseLoad_keepsChip _ _))

theorem abandonMig_keepsChip (s : State) : KeepsChip s (abandonMig s) := by
  by_cases h : unflipped s
  · rw [abandonMig_eq h]
    exact (((((migDropped_only s).keepsChip rfl).trans ((destFreed_only _ _).keepsChip rfl)).trans
      ((syncUnit_only _ _ _).keepsChip rfl)).trans ((ownerReset_only _ _).keepsChip rfl)).trans (raiseOn_keepsChip _ _ _ _ _)
  · have hsame : abandonMig s = s := by
      unfold abandonMig
      exact if_neg fun hu => h ((unflipped_iff s).mp hu)
    rw [hsame]
    exact .refl s

theorem discardMig_keepsChip (s : State) : KeepsChip s (discardMig s) := by
  have hmod : ∀ f, KeepsChip s (modMig f s) := fun f => (modSeat_only _ _).keepsChip rfl
  unfold discardMig
  dsimp only
  split
  · exact .refl s
  · split
    · exact .ite (.trans (.trans (.trans (.trans (.trans (.trans (.trans ((unflip_only s).keepsChip rfl)
        ((modPlan_only _ _).keepsChip rfl)) ((setLive_only _ _ _).keepsChip rfl)) ((modSeat_only _ _).keepsChip rfl))
        ((syncBack_only _ _).keepsChip rfl)) ((ownerReset_only _ _).keepsChip rfl)) ((abortCount_only _ _ _).keepsChip rfl))
        (raiseOn_keepsChip _ _ _ _ _)) (hmod _)
    · exact hmod _
  · exact ((abortCount_only _ _ s).keepsChip rfl).trans (abandonMig_keepsChip _)

theorem discard_keepsChip (s : State) : KeepsChip s (discard s) := by
  have hset : KeepsChip s (s.setFlt { s.flt with discAt := some (now s) }) := rfl
  have hmark : KeepsChip s (dropStart (bump (fltO Reg.FLT_DISCARDS) (s.setFlt { s.flt with discAt := some (now s) }))) :=
    (hset.trans ((bump_only _ _).keepsChip rfl)).trans ((dropStart_only _).keepsChip rfl)
  unfold discard
  exact .ite (.refl s) (.trans (.trans (.trans (.trans (.trans (.trans hmark (((discardWrites_only _).keepsChip rfl).trans
    ((modTally_only _ _).keepsChip rfl))) (Keeps.forEach discardQuad_keepsChip _ _)) (discardInstall_keepsChip _ _))
    (discardMig_keepsChip _)) ((blanketDiscard_only _).keepsChip rfl)) ((calDiscard_only _).keepsChip rfl))

/-! ### A trip (R291, R201) and a START -/

theorem judgeBeyond_keepsChip (g : Nat) (s : State) : KeepsChip s (judgeBeyond g s) :=
  ((((setClu_only _ _ s).mono rfl).via (noteBeyond_only _ _ _) rfl : Only [.clus, .seat] s _).keepsChip rfl).trans
    (Keeps.when (fun u => raiseOn_keepsChip _ _ _ _ u) _ _)

theorem cellsOff_keepsChip (g : Nat) (s : State) : KeepsChip s (cellsOff g s) := by
  have hrot : KeepsChip s (rotationEnded g s) :=
    Keeps.when (fun u => (raise_keepsChip _ _ u).trans ((ownerResetIn_only _ _ _).keepsChip rfl)) _ _
  have hdrop : KeepsChip s (cellsDropped g s) :=
    hrot.trans (Keeps.foldl (fun u n => .ite ((setCell_only _ _ u).keepsChip rfl) (.refl u)) _ _)
  rw [cellsOff_eq]
  exact ((hdrop.trans ((modClu_only _ _ _).keepsChip rfl)).trans (judgeBeyond_keepsChip _ _)).trans ((schussCheck_only _ _).keepsChip rfl)

theorem sectorDiscard_keepsChip (sc : Nat) (s : State) : KeepsChip s (sectorDiscard sc s) := by
  have hoff : ∀ u, KeepsChip u (switchOffDone sc u) := fun u => by
    rw [switchOffDone_eq]
    exact (((Keeps.forEach cellsOff_keepsChip _ _).trans ((setLive_only _ _ _).keepsChip rfl)).trans
      ((engineOff_only _ _).keepsChip rfl)).trans ((sectorIdle_only _ _).keepsChip rfl)
  rw [sectorDiscard_eq]
  exact (((sectorEmptied_only sc s).keepsChip rfl).trans (hoff _)).trans ((voidStore_only _ _).keepsChip rfl)

theorem tripDomain_keepsChip (d : Nat) (s : State) : KeepsChip s (tripDomain d s) := by
  by_cases h : (stage s d).state = .tripped
  · rw [tripDomain_tripped h]
    exact .refl s
  · rw [tripDomain_eq h]
    exact (((compEnded_only d s).keepsChip rfl).trans (Keeps.forEach sectorDiscard_keepsChip _ _)).trans
      ((tripTail_only _ _ _).keepsChip rfl)

theorem protTrip_keepsChip (src bit d : Nat) (s : State) : KeepsChip s (protTrip src bit d s) :=
  ((raiseOn_keepsChip _ _ _ _ s).trans (tripDomain_keepsChip d _)).trans (discard_keepsChip _)

theorem startDomain_keepsChip (d : Nat) (s : State) : KeepsChip s (startDomain d s) := by
  unfold startDomain
  refine .ite (.refl s) ?_
  exact (((((modStage_only _ _ s).keepsChip rfl).trans (Keeps.forEach (fun _ u => (modCh_only _ _ u).keepsChip rfl) _ _)).trans
    (Keeps.when (fun u => raiseOn_keepsChip _ _ _ _ u) _ _)).trans (Keeps.when (fun u => protTrip_keepsChip _ _ _ u) _ _))

end Sys2Proof.Machine
end

section
/-! SUPPORT. The latch of a fault: recording, alerts, containment, domain-off and chip-off. -/

namespace Sys2Proof.Machine

/-! ### Bits and words -/

theorem Word.bit_eq_field (w : Word) (i : Nat) : w.bit i = (w.field i i == 1) := by
  unfold Word.bit Word.field
  rw [Nat.add_sub_cancel_left, pow_one]

theorem Word.bit_put_one (w : Word) (i : Nat) (h : i < 32) : (w.put i i 1).bit i = true := by
  rw [Word.bit_eq_field, Word.field_put_same w i i 1 (Nat.le_refl i) h, Nat.add_sub_cancel_left]
  rfl

theorem toNat_bump (off : Nat) (s : State) : (live (bump off s) off).toNat = Nat.min ((live s off).toNat + 1) 0xFFFFFFFF := bump_toNat off s

/-! ### What is due at the latch (R478, R481) -/

/-- The registration is taken, and the fault manager starts anew. -/
def faultTaken (q : List Reg) (s : State) : State := modFlt (fun f => { f with regq := q }) (engStart clsFault 0 s)

/-- The registrations that are due, and those that stay and wait for the next latch. -/
def regsDue (s : State) : List Reg := s.flt.regq.filter (fun r => decide (r.due ≤ now s))

def regsLeft (s : State) : List Reg := ((engStart clsFault 0 s).flt.regq.filter (fun r => !(decide (r.due ≤ now s) && r.done))).map
  (fun r => if r.due ≤ now s then { r with due := now s + 8 } else r)

theorem faultLatch_eq (s : State) : faultLatch s =
    when ((sortRegs ((regsDue s).filter (·.done))).any (fun r => decide (4 ≤ acting s r.src r.det))) discard
      ((sortRegs ((regsDue s).filter (·.done))).foldl (fun s r => actOn r s)
        (when ((regsDue s).any (fun r => !r.done)) (overrun clsFault 0) (faultTaken (regsLeft s) s))) := rfl

theorem regsDue_one {s : State} {r : Reg} (hq : s.flt.regq = [r]) (hdue : r.due ≤ now s) : regsDue s = [r] := by
  unfold regsDue
  rw [hq]
  exact List.filter_cons_of_pos (p := fun r : Reg => decide (r.due ≤ now s)) (decide_eq_true hdue)

theorem regsLeft_done {s : State} {r : Reg} (hq : s.flt.regq = [r]) (hdue : r.due ≤ now s) (hdone : r.done = true) : regsLeft s = [] := by
  show (s.flt.regq.filter _).map _ = []
  rw [hq, List.filter_cons_of_neg (by rw [decide_eq_true hdue, hdone]; decide)]
  rfl

theorem regsLeft_late {s : State} {r : Reg} (hq : s.flt.regq = [r]) (hdue : r.due ≤ now s) (hdone : r.done = false) :
    regsLeft s = [{ r with due := now s + 8 }] := by
  show (s.flt.regq.filter _).map _ = _
  rw [hq, List.filter_cons_of_pos (by rw [hdone, Bool.and_false]; rfl)]
  exact congrArg (fun x => [x]) (if_pos hdue)

theorem faultLatch_done {s : State} {r : Reg} (hq : s.flt.regq = [r]) (hdue : r.due ≤ now s) (hdone : r.done = true) : faultLatch s =
    when (decide (4 ≤ acting s r.src r.det)) discard (actOn r (faultTaken [] s)) := by
  have hready : [r].filter (·.done) = [r] := List.filter_cons_of_pos hdone
  rw [faultLatch_eq, regsDue_one hq hdue, regsLeft_done hq hdue hdone, hready]
  show when (decide (4 ≤ acting s r.src r.det) || false) _ (actOn r (when (!r.done || false) _ _)) = _
  rw [hdone, Bool.or_false]
  rfl

theorem faultLatch_late {s : State} {r : Reg} (hq : s.flt.regq = [r]) (hdue : r.due ≤ now s) (hdone : r.done = false) : faultLatch s =
    overrun clsFault 0 (faultTaken [{ r with due := now s + 8 }] s) := by
  have hready : [r].filter (·.done) = [] := List.filter_cons_of_neg (by rw [hdone]; decide)
  rw [faultLatch_eq, regsDue_one hq hdue, regsLeft_late hq hdue hdone, hready]
  show when (!r.done || false) _ _ = _
  rw [hdone]
  rfl

theorem faultTaken_only (q : List Reg) (s : State) : Only [.eng, .flt] s (faultTaken q s) :=
  ((engStart_only _ _ s).mono rfl : Only [.eng, .flt] s _).via (State.setFlt_only _ _) rfl

/-! ### Acting by severity (R479, R480) -/

theorem acting_plain {s : State} {src det v : Nat} (h : sevOf s src = v) (hv : v ≠ 3) : acting s src det = v := by
  unfold acting
  dsimp only
  rw [h]
  exact if_neg (by rw [decide_eq_false hv, Bool.false_and]; exact Bool.false_ne_true)

theorem acting_contained {s : State} {src det : Nat} (h : sevOf s src = 3) (hc : contains3 src det = true) : acting s src det = 3 := by
  unfold acting
  dsimp only
  rw [h, hc]
  rfl

theorem acting_alert {s : State} {src det : Nat} (h : sevOf s src = 3) (hc : contains3 src det = false) : acting s src det = 2 := by
  unfold acting
  dsimp only
  rw [h, hc]
  rfl

/-- What a registration does, for a set and an acting severity. -/
def acted (r : Reg) (set sev : Nat) (s : State) : State :=
  let s2 := when (decide (3 ≤ sev)) (contain r) (when (decide (3 ≤ set)) (restartQuiet r) s)
  when (decide (4 ≤ sev)) (takeOff r sev) (when (decide (2 ≤ sev)) (alert r sev (!firstValid s2)) (when (decide (1 ≤ sev)) (record r sev) s2))

theorem Only.sevOf_eq {l : List Part} {s t : State} (h : Only l s t) (hp : l.contains .params = false) (ha : l.contains .active = false)
    (src : Nat) : sevOf t src = sevOf s src := by
  unfold sevOf
  simp only [h.cfgF_eq hp ha]

theorem Only.acting_eq {l : List Part} {s t : State} (h : Only l s t) (hp : l.contains .params = false) (ha : l.contains .active = false)
    (src det : Nat) : acting t src det = acting s src det := by
  unfold acting
  rw [h.sevOf_eq hp ha]

theorem actOn_acted {s : State} {r : Reg} {set sev : Nat} (hset : sevOf s r.src = set) (hsev : acting s r.src r.det = sev) :
    actOn r s = acted r set sev s := by
  unfold actOn acted
  dsimp only
  rw [hset, hsev]

theorem faultLatch_acted {s : State} {r : Reg} {set sev : Nat} (hq : s.flt.regq = [r]) (hdue : r.due ≤ now s) (hdone : r.done = true)
    (hset : sevOf s r.src = set) (hsev : acting s r.src r.det = sev) :
    faultLatch s = when (decide (4 ≤ sev)) discard (acted r set sev (faultTaken [] s)) := by
  have ho := faultTaken_only [] s
  rw [faultLatch_done hq hdue hdone, hsev, actOn_acted ((ho.sevOf_eq rfl rfl _).trans hset) ((ho.acting_eq rfl rfl _ _).trans hsev)]

/-! ### Recording (R481, R482) -/

/-- The source is pending, counted and, to severity 3, present. -/
def recorded (r : Reg) (sev : Nat) (s : State) : State :=
  when (decide (sev ≤ 3)) (modFlt (fun f => { f with
    present := (r.src, Nat.max sev (((s.flt.present.find? (fun p => p.1 == r.src)).map (·.2)).getD 0)) ::
      f.present.filter (fun p => p.1 != r.src) })) (bump (fltO Reg.FLT_RAISED) (setBit (fltO (Reg.FLT_PEND (r.src / 32))) (r.src % 32) s))

theorem record_eq (r : Reg) (sev : Nat) (s : State) : record r sev s =
    if firstValid s then bumpF (fltO Reg.FLT_OVERFLOW) 31 16 (setBit (fltO Reg.FLT_OVERFLOW) 0 (recorded r sev s))
    else setLive (fltO Reg.FLT_FIRST) (BitVec.ofNat 32 (r.src + 0x100 * sev + 0x8000 + 0x10000 * r.det))
      (setLive (fltO Reg.FLT_FIRST_TLO) (r.stamp.setWidth 32) (setLive (fltO Reg.FLT_FIRST_THI) ((r.stamp >>> 32).setWidth 32)
        (recorded r sev s))) := rfl

theorem live_when_flt (b : Bool) (f : Faults → Faults) (s : State) (o : Nat) : live (when b (modFlt f) s) o = live s o := by
  cases b with
  | false => rfl
  | true => exact (State.setFlt_only _ _).live_eq rfl rfl o

theorem live_recorded (r : Reg) (sev : Nat) (s : State) (o : Nat) : live (recorded r sev s) o =
    live (bump (fltO Reg.FLT_RAISED) (setBit (fltO (Reg.FLT_PEND (r.src / 32))) (r.src % 32) s)) o := live_when_flt _ _ _ o

/-- The words of the first source and of the overflow lie apart from those that every record touches. -/
theorem fltWord_apart {o k : Nat} (hk : k < 4) (h : 0x2200 ≤ o) (h' : o < 0x2210) : o ≠ fltO Reg.FLT_RAISED ∧ o ≠ fltO (Reg.FLT_PEND k) := by
  have hraised : fltO Reg.FLT_RAISED = 0x2224 := rfl
  have hpend : fltO (Reg.FLT_PEND k) = 0x2210 + 4 * k := by
    show 2 * 0x1000 + (0x210 + 4 * k) = _
    omega
  omega

theorem live_recorded_apart {r : Reg} (hsrc : r.src < 128) {o : Nat} (h : 0x2200 ≤ o) (h' : o < 0x2210) (sev : Nat) (s : State) :
    live (recorded r sev s) o = live s o := by
  obtain ⟨hraised, hpend⟩ := fltWord_apart (k := r.src / 32) (by omega) h h'
  rw [live_recorded, live_bump_other hraised]
  exact live_setLive_other _ _ _ _ hpend

theorem pend_recorded {r : Reg} (hsrc : r.src < 128) (sev : Nat) (s : State) :
    (live (recorded r sev s) (fltO (Reg.FLT_PEND (r.src / 32)))).bit (r.src % 32) = true := by
  have hne : fltO (Reg.FLT_PEND (r.src / 32)) ≠ fltO Reg.FLT_RAISED := by
    show 2 * 0x1000 + (0x210 + 4 * (r.src / 32)) ≠ 0x2224
    omega
  rw [live_recorded, live_bump_other hne]
  unfold setBit
  rw [live_setLive_same, Word.bit_put_one _ _ (Nat.mod_lt _ (by decide))]

theorem raised_recorded {r : Reg} (hsrc : r.src < 128) (sev : Nat) (s : State) : (live (recorded r sev s) (fltO Reg.FLT_RAISED)).toNat =
    Nat.min ((live s (fltO Reg.FLT_RAISED)).toNat + 1) 0xFFFFFFFF := by
  have hne : fltO Reg.FLT_RAISED ≠ fltO (Reg.FLT_PEND (r.src / 32)) := by
    show 0x2224 ≠ 2 * 0x1000 + (0x210 + 4 * (r.src / 32))
    omega
  rw [live_recorded, toNat_bump]
  unfold setBit
  rw [live_setLive_other _ _ _ _ hne]

/-- A record's own words, beyond the first source and the overflow, are as recorded. -/
theorem live_record_other {o : Nat} (h : o < 0x2200 ∨ 0x2210 ≤ o) (r : Reg) (sev : Nat) (s : State) :
    live (record r sev s) o = live (recorded r sev s) o := by
  have hfirst : o ≠ fltO Reg.FLT_FIRST := by show o ≠ 0x2200; omega
  have htlo : o ≠ fltO Reg.FLT_FIRST_TLO := by show o ≠ 0x2204; omega
  have hthi : o ≠ fltO Reg.FLT_FIRST_THI := by show o ≠ 0x2208; omega
  have hover : o ≠ fltO Reg.FLT_OVERFLOW := by show o ≠ 0x220C; omega
  rw [record_eq]
  split
  · unfold bumpF setBit
    rw [live_setField_other _ _ _ _ _ _ hover, live_setLive_other _ _ _ _ hover]
  · rw [live_setLive_other _ _ _ _ hfirst, live_setLive_other _ _ _ _ htlo, live_setLive_other _ _ _ _ hthi]

theorem pend_record {r : Reg} (hsrc : r.src < 128) (sev : Nat) (s : State) :
    (live (record r sev s) (fltO (Reg.FLT_PEND (r.src / 32)))).bit (r.src % 32) = true := by
  rw [live_record_other (.inr (by show 0x2210 ≤ 2 * 0x1000 + (0x210 + 4 * (r.src / 32)); omega)), pend_recorded hsrc]

theorem record_first {r : Reg} {s : State} (h : firstValid s = false) (sev : Nat) :
    live (record r sev s) (fltO Reg.FLT_FIRST) = BitVec.ofNat 32 (r.src + 0x100 * sev + 0x8000 + 0x10000 * r.det) ∧
      live (record r sev s) (fltO Reg.FLT_FIRST_TLO) = r.stamp.setWidth 32 := by
  rw [record_eq, if_neg (by rw [h]; exact Bool.false_ne_true)]
  exact ⟨live_setLive_same _ _ _, (live_setLive_other _ _ _ _ (by decide)).trans (live_setLive_same _ _ _)⟩

theorem record_later {r : Reg} {s : State} (hsrc : r.src < 128) (h : firstValid s = true) (sev : Nat) :
    live (record r sev s) (fltO Reg.FLT_FIRST) = live s (fltO Reg.FLT_FIRST) ∧
      (live (record r sev s) (fltO Reg.FLT_OVERFLOW)).bit 0 = true := by
  rw [record_eq, if_pos h]
  unfold bumpF setBit
  refine ⟨?_, ?_⟩
  · rw [live_setField_other _ _ _ _ _ _ (by decide), live_setLive_other _ _ _ _ (by decide)]
    exact live_recorded_apart hsrc (by decide) (by decide) _ _
  · rw [live_setField_same, Word.bit_eq_field, field_put_other _ _ (by decide) (by decide) (by decide), live_setLive_same,
      ← Word.bit_eq_field, Word.bit_put_one _ _ (by decide)]

/-! ### Alerts (R485 to R487) -/

/-- The words that an alert does not touch. -/
def alertApart (o : Nat) : Prop :=
  o ≠ hostO Reg.HOST_ALERTSEQ ∧ o ≠ fltO PAGE_FLT ∧ o ≠ hostO Reg.HOST_ALERTDROP ∧ o ≠ hostO Reg.HOST_IBISTAT

theorem live_queueAlert {o : Nat} (hflt : o ≠ fltO PAGE_FLT) (hdrop : o ≠ hostO Reg.HOST_ALERTDROP) (a : AlertRec) (s : State) :
    live (queueAlert a s) o = live s o := by
  unfold queueAlert
  split
  · split
    · rw [(sendAlert_only _).live_eq rfl rfl]
      rfl
    · unfold alertLost bumpF
      rw [live_raiseOn_other hflt, live_setField_other _ _ _ _ _ _ hdrop]
      rfl
  · rfl

theorem live_requestIbi {o : Nat} (h : o ≠ hostO Reg.HOST_IBISTAT) (src sev seq : Nat) (s : State) :
    live (requestIbi src sev seq s) o = live s o := by
  unfold requestIbi
  dsimp only
  split
  · split
    · rfl
    · exact live_setLive_other _ _ _ _ h
  · rfl

/-- The number of the next alert. -/
def nextSeq (s : State) : Nat := ((live s (hostO Reg.HOST_ALERTSEQ)).field 15 0 + 1) % 65536

/-- The record of an alert. -/
def alertRec (r : Reg) (sev : Nat) (first : Bool) (s : State) : AlertRec :=
  ⟨[BitVec.ofNat 32 (r.src + 0x100 * sev + 0x10000 * r.det), r.stamp.setWidth 32, (r.stamp >>> 32).setWidth 32,
    BitVec.ofNat 32 (nextSeq s + 0x10000 * cfgF s (bridgeO Reg.BRIDGE_CTL) 3 2 + 0x100000 * b2n first + 0x10000000)], nextSeq s⟩

/-- The alert has its number and, if it makes one, its record is queued. -/
def alertQueued (r : Reg) (sev : Nat) (first : Bool) (s : State) : State :=
  when (r.src != Src.FLT_ALERT_WRITE) (queueAlert (alertRec r sev first s)) (setLive (hostO Reg.HOST_ALERTSEQ) (BitVec.ofNat 32 (nextSeq s)) s)

theorem alert_eq (r : Reg) (sev : Nat) (first : Bool) (s : State) :
    alert r sev first s = requestIbi r.src sev (nextSeq s) (alertQueued r sev first s) := rfl

theorem live_alertQueued {o : Nat} (hflt : o ≠ fltO PAGE_FLT) (hdrop : o ≠ hostO Reg.HOST_ALERTDROP) (r : Reg) (sev : Nat) (first : Bool)
    (s : State) : live (alertQueued r sev first s) o = live (setLive (hostO Reg.HOST_ALERTSEQ) (BitVec.ofNat 32 (nextSeq s)) s) o := by
  unfold alertQueued
  cases r.src != Src.FLT_ALERT_WRITE with
  | false => rfl
  | true => exact live_queueAlert hflt hdrop _ _

theorem alert_seq (r : Reg) (sev : Nat) (first : Bool) (s : State) :
    live (alert r sev first s) (hostO Reg.HOST_ALERTSEQ) = BitVec.ofNat 32 (nextSeq s) := by
  rw [alert_eq, live_requestIbi (by decide), live_alertQueued (by decide) (by decide), live_setLive_same]

theorem live_alert {o : Nat} (h : alertApart o) (r : Reg) (sev : Nat) (first : Bool) (s : State) : live (alert r sev first s) o = live s o := by
  obtain ⟨hseq, hflt, hdrop, hibi⟩ := h
  rw [alert_eq, live_requestIbi hibi, live_alertQueued hflt hdrop, live_setLive_other _ _ _ _ hseq]

theorem pend_alertApart (k : Nat) (hk : k < 4) : alertApart (fltO (Reg.FLT_PEND k)) := by
  have hpend : fltO (Reg.FLT_PEND k) = 0x2210 + 4 * k := by
    show 2 * 0x1000 + (0x210 + 4 * k) = _
    omega
  have hseq : hostO Reg.HOST_ALERTSEQ = 0xC2E0 := rfl
  have hflt : fltO PAGE_FLT = 0x2010 := rfl
  have hdrop : hostO Reg.HOST_ALERTDROP = 0xC2E4 := rfl
  have hibi : hostO Reg.HOST_IBISTAT = 0xC2E8 := rfl
  unfold alertApart
  omega

/-- A record behind the one in flight waits. -/
theorem queueAlert_waits {s : State} {w : InitWrite} (hctl : cfgB s (hostO Reg.HOST_ALERTCTL) 0 = true)
    (haddr : cfg s (hostO Reg.HOST_ALERTADDR_LO) ≠ 0) (hroom : s.flt.alerts.length < 16) (hin : s.flt.inflight = some w) (a : AlertRec) :
    queueAlert a s = modFlt (fun f => { f with alerts := f.alerts ++ [a] }) s := by
  have hset : (cfgB s (hostO Reg.HOST_ALERTCTL) 0 && (cfg s (hostO Reg.HOST_ALERTADDR_HI) != 0 ||
      cfg s (hostO Reg.HOST_ALERTADDR_LO) != 0)) = true := by rw [hctl, bne_iff_ne.mpr haddr, Bool.or_true]; rfl
  unfold queueAlert
  rw [if_pos hset, if_pos hroom]
  unfold sendAlert
  rw [show (modFlt (fun f => { f with alerts := f.alerts ++ [a] }) s).flt.inflight = some w from hin]

theorem requestIbi_alerts (src sev seq : Nat) (s : State) : (requestIbi src sev seq s).flt.alerts = s.flt.alerts := by
  unfold requestIbi
  dsimp only
  split
  · split <;> rfl
  · rfl

/-- The interrupt outstanding and the port's event bit. -/
def ibiView (s : State) : Option (List Byte) × Bool := (s.flt.ibi, s.ports.target.enint)

theorem sendAlert_ibi (s : State) : Keeps ibiView s (sendAlert s) := by
  unfold sendAlert
  split <;> rfl

theorem queueAlert_ibi (a : AlertRec) (s : State) : Keeps ibiView s (queueAlert a s) := by
  have hlost : ∀ u : State, Keeps ibiView u (alertLost a.seq (bumpF (hostO Reg.HOST_ALERTDROP) 15 0 u)) := fun u => by
    unfold Keeps ibiView alertLost
    rw [raiseOn_flt, (raiseOn_only _ _ _ _ _).keeps .ports rfl]
    rfl
  unfold queueAlert
  exact .ite (.ite (Keeps.trans (p := ibiView) (by rfl) (sendAlert_ibi _)) (Keeps.trans (p := ibiView) (by rfl) (hlost _))) (.refl s)

theorem requestIbi_asked {s : State} (hctl : cfgB s (hostO Reg.HOST_ALERTCTL) 1 = true) (hen : s.ports.target.enint = true)
    (hnone : s.flt.ibi = none) (src sev seq : Nat) : (requestIbi src sev seq s).flt.ibi =
      some [BitVec.ofNat 8 src, BitVec.ofNat 8 sev, BitVec.ofNat 8 (seq % 256), BitVec.ofNat 8 (seq / 256)] := by
  unfold requestIbi
  dsimp only
  rw [hctl, hen, hnone]
  rfl

end Sys2Proof.Machine
end

section
/-! SUPPORT. The latch of a fault of severity 3 and above, injection, heartbeat, alert responses, recovery and commands. -/

namespace Sys2Proof.Machine

/-! ### One step among the steps on other numbers -/

/-- A step on each of several numbers: what the step on `d` makes of what held before is not undone by the others. -/
theorem forEach_once {σ : Type} {op : Nat → σ → σ} {P Q : σ → Prop} {d : Nat} (hbefore : ∀ e s, e ≠ d → P s → P (op e s))
    (hat : ∀ s, P s → Q (op d s)) (hafter : ∀ e s, e ≠ d → Q s → Q (op e s)) {l : List Nat} (hnd : l.Nodup) (hin : d ∈ l) {s : σ}
    (h : P s) : Q (forEach l op s) := by
  have hkept : ∀ (l : List Nat) (s : σ), d ∉ l → Q s → Q (forEach l op s) := by
    intro l
    induction l with
    | nil => exact fun _ _ hq => hq
    | cons e l ih =>
      intro s hnot hq
      rw [forEach_cons]
      exact ih _ (fun hl => hnot (List.mem_cons_of_mem _ hl)) (hafter e s (fun he => hnot (he ▸ List.mem_cons_self)) hq)
  induction l generalizing s with
  | nil => cases hin
  | cons e l ih =>
    obtain ⟨hnot, hnd'⟩ := List.nodup_cons.mp hnd
    rw [forEach_cons]
    by_cases he : e = d
    · subst he
      exact hkept l _ hnot (hat s h)
    · exact ih hnd' ((List.mem_cons.mp hin).resolve_left (Ne.symm he)) (hbefore e s he h)

/-! ### Severity 3: alert or containment (R480) -/

/-- The word of a source's pending bit is not that of the alerts' sequence number. -/
theorem pend_apart_of_sev {s : State} {src : Nat} (h : sevOf s src = 3) : hostO Reg.HOST_ALERTSEQ ≠ fltO (Reg.FLT_PEND (src / 32)) := by
  intro heq
  have hpage : fltO (Reg.FLT_SEV (src / 8)) / 0x1000 = 0x2A := by
    have hsrc : 0xC2E0 = 2 * 0x1000 + (0x210 + 4 * (src / 32)) := heq
    show (2 * 0x1000 + (0x040 + 4 * (src / 8))) / 0x1000 = 0x2A
    omega
  have hnone : regAt s.params (fltO (Reg.FLT_SEV (src / 8))) = none := by
    unfold regAt
    rw [hpage]
    rfl
  have hzero : cfgF s (fltO (Reg.FLT_SEV (src / 8))) (4 * (src % 8) + 2) (4 * (src % 8)) = 0 := by
    unfold cfgF cfg asRead
    rw [hnone]
    unfold Word.field
    simp
  unfold sevOf at h
  dsimp only at h
  rw [hzero] at h
  split at h <;> simp at h

theorem alertseq_record {r : Reg} (h : hostO Reg.HOST_ALERTSEQ ≠ fltO (Reg.FLT_PEND (r.src / 32))) (sev : Nat) (s : State) :
    live (record r sev s) (hostO Reg.HOST_ALERTSEQ) = live s (hostO Reg.HOST_ALERTSEQ) := by
  rw [live_record_other (.inr (by decide)), live_recorded, live_bump_other (by decide)]
  exact live_setLive_other _ _ _ _ h

/-- What the fault manager itself contains, before the locks of the requester break. -/
def contained (r : Reg) (s : State) : State :=
  if r.src = Src.SEC_ENG_FAULT then (if r.det < sectors s then checkDark r.det (engineLost r.det r.at0 s) else s)
  else if r.src = Src.ENG_OVERRUN_RPT then
    (if r.det / 4096 = clsSector && decide (r.det % 4096 < sectors s) then
      checkDark (r.det % 4096) (engineLost (r.det % 4096) r.at0 s) else s)
  else if 64 ≤ r.src && r.src ≤ 66 then (if r.det < 12 then loseAdc r.det (r.src - 63) s else s)
  else s

theorem contain_eq (r : Reg) (s : State) : contain r s = match sourceOwner r.src r.det with
    | some o => ownerFault o r.at0 (contained r s)
    | none => contained r s := rfl

theorem contained_only (r : Reg) (s : State) :
    Only [.eng, .live, .clus, .secs, .trail, .flt, .sparing, .adcs, .adcOwed, .quads] s (contained r s) := by
  have hdark : ∀ n, Only [.eng, .live, .clus, .secs, .trail, .flt, .sparing] s (checkDark n (engineLost n r.at0 s)) := fun n =>
    (engineLost_only n r.at0 s).via (checkDark_only _ _) rfl
  unfold contained
  exact .ite (.ite ((hdark _).mono rfl) (.refl _ _)) (.ite (.ite ((hdark _).mono rfl) (.refl _ _))
    (.ite (.ite ((loseAdc_only _ _ _).mono rfl) (.refl _ _)) (.refl _ _)))

theorem adc_contain {r : Reg} {s : State} (h64 : 64 ≤ r.src) (h66 : r.src ≤ 66) (hdet : r.det < 12) (hne : (adc s r.det).state ≠ .failed) :
    (adc (contain r s) r.det).state = .failed ∧ (adc (contain r s) r.det).cause = r.src - 63 := by
  have hlost : contained r s = loseAdc r.det (r.src - 63) s := by
    unfold contained
    rw [if_neg (fun heq => absurd (heq ▸ h64) (by decide)), if_neg (fun heq => absurd (heq ▸ h64) (by decide)), if_pos (by simp [h64, h66]), if_pos hdet]
  have hadc : adc (contain r s) r.det = adc (loseAdc r.det (r.src - 63) s) r.det := by
    rw [contain_eq, hlost]
    split
    · exact (ownerFault_only _ _ _).adc_eq rfl rfl _
    · rfl
  obtain ⟨hst, hcause, _⟩ := adc_loseAdc (r.src - 63) hne
  rw [hadc]
  exact ⟨hst, hcause⟩

/-- A ring whose lock its owner loses to a fault. -/
def lockFaulted (o at0 : Nat) (x : Ring) : Ring :=
  { x with lock := x.lock.map (fun l => if l.owner = o && decide (l.from0 ≤ at0) then { l with reset := true } else l) }

theorem ring_ownerFault {s : State} {q : Nat} (hq : q < quads s) (o at0 : Nat) :
    ring (ownerFault o at0 s) q = lockFaulted o at0 (ring s q) :=
  (ring_forEach_each (op := fun p => modRing p (lockFaulted o at0)) (f := lockFaulted o at0) (fun p s => ring_modRing_same p _ s)
    (fun _ _ s h => ring_modRing_other h _ s) List.nodup_range q s).trans (if_pos (List.mem_range.mpr hq))

theorem lock_contain {r : Reg} {s : State} {o q : Nat} {l : Lock} (ho : sourceOwner r.src r.det = some o) (hq : q < quads s)
    (hl : (ring s q).lock = some l) (hown : l.owner = o) (hfrom : l.from0 ≤ r.at0) :
    (ring (contain r s) q).lock = some { l with reset := true } := by
  have hc := contained_only r s
  have hring : ring (contained r s) q = ring s q := hc.ring_eq rfl q
  rw [contain_eq, ho]
  dsimp only
  rw [ring_ownerFault (by rw [hc.quads_eq rfl]; exact hq), hring]
  unfold lockFaulted
  dsimp only
  rw [hl]
  exact congrArg some (if_pos (by simp [hown, hfrom]))

/-- The record and the alert of a registration. -/
def announced (r : Reg) (sev : Nat) (s : State) : State := alert r sev (!firstValid s) (record r sev s)

theorem announced_only (r : Reg) (sev : Nat) (s : State) : Only [.live, .ports, .flt] s (announced r sev s) :=
  ((record_only r sev s).mono rfl : Only [.live, .ports, .flt] s _).via (alert_only _ _ _ _) rfl

theorem acted_off4 (r : Reg) (s : State) : acted r 4 4 s = takeOff r 4 (announced r 4 (contain r (restartQuiet r s))) := rfl

theorem acted_off5 (r : Reg) (s : State) : acted r 5 5 s = takeOff r 5 (announced r 5 (contain r (restartQuiet r s))) := rfl

/-! ### Severities 4 and 5 (R480, R488) -/

/-- The domains that a registration takes off. -/
def offDoms (r : Reg) (sev : Nat) : List Nat :=
  match namedDom r.src r.det with
  | some d => if sev = 5 then upto 4 else [d]
  | none => upto 4

theorem offDoms_nodup (r : Reg) (sev : Nat) : (offDoms r sev).Nodup := by
  unfold offDoms
  split
  · split
    · exact List.nodup_range
    · exact List.nodup_singleton _
  · exact List.nodup_range

theorem takeOff_eq (r : Reg) (sev : Nat) (s : State) : takeOff r sev s =
    if sev = 5 then modFlt (fun f => { f with
      chipOff := true, chipFrom := Nat.max f.chipFrom r.at0
      chipRef := (f.chipOff && f.chipRef) || r.src == Src.TB_HOLDOVER_EXPIRED }) (forEach (offDoms r sev) (domainOff r sev) s)
    else forEach (offDoms r sev) (domainOff r sev) s := rfl

/-- A domain's stage is tripped and its recovery begun or held. -/
def IsOff (d : Nat) (s : State) : Prop := (stage s d).state = .tripped ∧ (recov s d).state ≠ .normal

theorem domainOff_others {r : Reg} {sev d e : Nat} (h : d ≠ e) (s : State) :
    stage (domainOff r sev e s) d = stage s d ∧ recov (domainOff r sev e s) d = recov s d := by
  have hst : stage (tripDomain e s) d = stage s d := (tripDomain_stages e s).2 d h
  have hrec : recov (tripDomain e s) d = recov s d := (tripDomain_only e s).recov_eq rfl d
  have hmod : ∀ f u, stage (modRecov e f u) d = stage u d ∧ recov (modRecov e f u) d = recov u d := fun f u =>
    ⟨(modRecov_only e f u).stage_eq rfl d, recov_modRecov_other h f u⟩
  have hraise : ∀ u, stage (raiseOn Src.FLT_RECOVERY_HELD e 0x02 2 u) d = stage u d ∧ recov (raiseOn Src.FLT_RECOVERY_HELD e 0x02 2 u) d = recov u d :=
    fun u => ⟨(raiseOn_only _ _ _ _ u).stage_eq rfl d, (raiseOn_only _ _ _ _ u).recov_eq rfl d⟩
  unfold domainOff
  dsimp only
  split
  · exact ⟨rfl, rfl⟩
  · split
    · rw [(hmod _ _).1, (hmod _ _).2]
      exact ⟨hst, hrec⟩
    · split
      · rw [(hraise _).1, (hraise _).2, (hmod _ _).1, (hmod _ _).2, (hmod _ _).1, (hmod _ _).2]
        exact ⟨hst, hrec⟩
      · rw [(hmod _ _).1, (hmod _ _).2, (hmod _ _).1, (hmod _ _).2]
        exact ⟨hst, hrec⟩

theorem domainOff_isOff {r : Reg} {sev d : Nat} {s : State} (h : (stage s d).state ≠ .off) : IsOff d (domainOff r sev d s) := by
  have hst : (stage (tripDomain d s) d).state = .tripped := (tripDomain_stages d s).1
  have hrec : recov (tripDomain d s) d = recov s d := (tripDomain_only d s).recov_eq rfl d
  have hmod : ∀ f u, stage (modRecov d f u) d = stage u d := fun f u => (modRecov_only d f u).stage_eq rfl d
  unfold domainOff IsOff
  rw [if_neg h]
  dsimp only
  split
  · next hheld =>
    rw [hmod, recov_modRecov_same, hrec]
    exact ⟨hst, by rw [hheld]; decide⟩
  · split
    · rw [(raiseOn_only _ _ _ _ _).stage_eq rfl, (raiseOn_only _ _ _ _ _).recov_eq rfl, hmod, hmod, recov_modRecov_same]
      exact ⟨hst, RcvState.noConfusion⟩
    · rw [hmod, hmod, recov_modRecov_same]
      exact ⟨hst, RcvState.noConfusion⟩

theorem takeOff_isOff {r : Reg} {sev d : Nat} {s : State} (hin : d ∈ offDoms r sev) (h : (stage s d).state ≠ .off) :
    IsOff d (takeOff r sev s) := by
  have hall : IsOff d (forEach (offDoms r sev) (domainOff r sev) s) := by
    refine forEach_once (P := fun u => (stage u d).state ≠ .off) (fun e u he hu => ?_) (fun u hu => domainOff_isOff hu) (fun e u he hu => ?_)
      (offDoms_nodup r sev) hin h
    · obtain ⟨hst, _⟩ := domainOff_others (r := r) (sev := sev) (Ne.symm he) u
      rwa [hst]
    · obtain ⟨hst, hrec⟩ := domainOff_others (r := r) (sev := sev) (Ne.symm he) u
      unfold IsOff
      rwa [hst, hrec]
  obtain ⟨hst, hrec⟩ := hall
  rw [takeOff_eq]
  unfold IsOff
  split
  · rw [(modFlt_only _ _).stage_eq rfl, (modFlt_only _ _).recov_eq rfl]
    exact ⟨hst, hrec⟩
  · exact ⟨hst, hrec⟩

/-- What goes before the domains are taken off leaves the stages and whether recovery is under way. -/
theorem announced_contain_only (r : Reg) (sev : Nat) (s : State) : Only [.eng, .live, .ports, .clus, .secs, .trail, .flt, .recov, .rings, .sparing,
    .adcs, .adcOwed, .quads] s (announced r sev (contain r (restartQuiet r s))) :=
  (((restartQuiet_only r s).mono rfl : Only [.eng, .live, .ports, .clus, .secs, .trail, .flt, .recov, .rings, .sparing, .adcs, .adcOwed, .quads] s _).via
    (contain_only _ _) rfl).via (announced_only _ _ _) rfl

/-- A latch that takes domains off. -/
theorem faultLatch_isOff {s : State} {r : Reg} {sev d : Nat} (hq : s.flt.regq = [r]) (hdue : r.due ≤ now s) (hdone : r.done = true)
    (hsev : sevOf s r.src = sev) (hoff : sev = 4 ∨ sev = 5) (hin : d ∈ offDoms r sev) (h : (stage s d).state ≠ .off) :
    IsOff d (faultLatch s) := by
  have hlatch : faultLatch s = discard (takeOff r sev (announced r sev (contain r (restartQuiet r (faultTaken [] s))))) := by
    rcases hoff with rfl | rfl
    · rw [faultLatch_acted hq hdue hdone hsev (acting_plain hsev (by decide)), acted_off4]
      exact when_true _ _
    · rw [faultLatch_acted hq hdue hdone hsev (acting_plain hsev (by decide)), acted_off5]
      exact when_true _ _
  have hst : stage (announced r sev (contain r (restartQuiet r (faultTaken [] s)))) d = stage s d :=
    ((announced_contain_only r sev _).stage_eq rfl d).trans ((faultTaken_only [] s).stage_eq rfl d)
  obtain ⟨htr, hrec⟩ := takeOff_isOff (r := r) (sev := sev) hin (s := announced r sev (contain r (restartQuiet r (faultTaken [] s))))
    (by rw [hst]; exact h)
  unfold IsOff
  rw [hlatch, (discard_only _).stage_eq rfl, (discard_only _).recov_eq rfl]
  exact ⟨htr, hrec⟩

theorem faultLatch_chipOff {s : State} {r : Reg} (hq : s.flt.regq = [r]) (hdue : r.due ≤ now s) (hdone : r.done = true)
    (hsev : sevOf s r.src = 5) : (faultLatch s).flt.chipOff = true := by
  rw [faultLatch_acted hq hdue hdone hsev (acting_plain hsev (by decide)), acted_off5]
  exact congrArg Prod.fst (discard_keepsChip _)

/-! ### The latch, by severity -/

theorem exec_faultLatch {s : State} {r : Reg} (hawake : awake s = true) (hq : s.flt.regq = [r]) (hdue : r.due ≤ now s) :
    exec .faultLatch s = .next (faultLatch s) :=
  act_runs hawake (by rw [hq]; simp [hdue])

theorem firstValid_faultTaken (s : State) : firstValid (faultTaken [] s) = firstValid s := by
  unfold firstValid
  rw [(faultTaken_only [] s).live_eq rfl rfl]

theorem nextSeq_eq {s t : State} (h : live t (hostO Reg.HOST_ALERTSEQ) = live s (hostO Reg.HOST_ALERTSEQ)) : nextSeq t = nextSeq s := by
  unfold nextSeq
  rw [h]

theorem faultLatch_none {s : State} {r : Reg} (hq : s.flt.regq = [r]) (hdue : r.due ≤ now s) (hdone : r.done = true) (hsev : sevOf s r.src = 0) :
    faultLatch s = faultTaken [] s :=
  faultLatch_acted hq hdue hdone hsev (acting_plain hsev (by decide))

theorem faultLatch_record {s : State} {r : Reg} (hq : s.flt.regq = [r]) (hdue : r.due ≤ now s) (hdone : r.done = true) (hsev : sevOf s r.src = 1) :
    faultLatch s = record r 1 (faultTaken [] s) :=
  faultLatch_acted hq hdue hdone hsev (acting_plain hsev (by decide))

theorem faultLatch_alert {s : State} {r : Reg} (hq : s.flt.regq = [r]) (hdue : r.due ≤ now s) (hdone : r.done = true) (hsev : sevOf s r.src = 2) :
    faultLatch s = announced r 2 (faultTaken [] s) :=
  faultLatch_acted hq hdue hdone hsev (acting_plain hsev (by decide))

theorem faultLatch_alert3 {s : State} {r : Reg} (hq : s.flt.regq = [r]) (hdue : r.due ≤ now s) (hdone : r.done = true) (hsev : sevOf s r.src = 3)
    (hc : contains3 r.src r.det = false) : faultLatch s = announced r 2 (restartQuiet r (faultTaken [] s)) :=
  faultLatch_acted hq hdue hdone hsev (acting_alert hsev hc)

theorem faultLatch_contain {s : State} {r : Reg} (hq : s.flt.regq = [r]) (hdue : r.due ≤ now s) (hdone : r.done = true) (hsev : sevOf s r.src = 3)
    (hc : contains3 r.src r.det = true) : faultLatch s = announced r 3 (contain r (restartQuiet r (faultTaken [] s))) :=
  faultLatch_acted hq hdue hdone hsev (acting_contained hsev hc)

theorem record_flt {r : Reg} (s : State) : (record r 1 s).flt = { s.flt with
    present := (r.src, Nat.max 1 (((s.flt.present.find? (fun p => p.1 == r.src)).map (·.2)).getD 0)) :: s.flt.present.filter (fun p => p.1 != r.src) } := by
  have hrec : (recorded r 1 s).flt = { s.flt with
      present := (r.src, Nat.max 1 (((s.flt.present.find? (fun p => p.1 == r.src)).map (·.2)).getD 0)) ::
        s.flt.present.filter (fun p => p.1 != r.src) } := rfl
  rw [record_eq]
  split
  · exact hrec
  · exact hrec

end Sys2Proof.Machine
end

section
/-! SUPPORT. The fault manager's latch as stated, its injection, alerts, recovery and commands. -/

namespace Sys2Proof.Machine

/-! ### The words of a recorded and of an alerted registration -/

theorem announced_seq (r : Reg) (sev : Nat) (s : State) (h : hostO Reg.HOST_ALERTSEQ ≠ fltO (Reg.FLT_PEND (r.src / 32))) :
    live (announced r sev s) (hostO Reg.HOST_ALERTSEQ) = BitVec.ofNat 32 (nextSeq s) := by
  unfold announced
  rw [alert_seq, nextSeq_eq (alertseq_record h sev s)]

theorem pend_below {src : Nat} (h : src < 128) : hostO Reg.HOST_ALERTSEQ ≠ fltO (Reg.FLT_PEND (src / 32)) := by
  show 0xC2E0 ≠ 2 * 0x1000 + (0x210 + 4 * (src / 32))
  omega

theorem announced_pend {r : Reg} (h : r.src < 128) (sev : Nat) (s : State) :
    (live (announced r sev s) (fltO (Reg.FLT_PEND (r.src / 32)))).bit (r.src % 32) = true := by
  unfold announced
  rw [live_alert (pend_alertApart _ (by omega)), pend_record h]

theorem recorded_flt_alerts (r : Reg) (sev : Nat) (s : State) : (record r sev s).flt.alerts = s.flt.alerts ∧
    (record r sev s).flt.inflight = s.flt.inflight ∧ (record r sev s).flt.ibi = s.flt.ibi := by
  have hrec : (recorded r sev s).flt.alerts = s.flt.alerts ∧ (recorded r sev s).flt.inflight = s.flt.inflight ∧
      (recorded r sev s).flt.ibi = s.flt.ibi := by
    unfold recorded
    cases decide (sev ≤ 3) <;> exact ⟨rfl, rfl, rfl⟩
  rw [record_eq]
  split
  · exact hrec
  · exact hrec

/-- The record of an alert waits behind the one in flight. -/
theorem announced_alerts {r : Reg} {s : State} {w : InitWrite} (hsrc : r.src < 128) (hne : r.src ≠ Src.FLT_ALERT_WRITE) (hin : s.flt.inflight = some w)
    (hctl : cfgB s (hostO Reg.HOST_ALERTCTL) 0 = true) (haddr : cfg s (hostO Reg.HOST_ALERTADDR_LO) ≠ 0) (hroom : s.flt.alerts.length < 16)
    (sev : Nat) : (announced r sev s).flt.alerts = s.flt.alerts ++ [alertRec r sev (!firstValid s) s] := by
  obtain ⟨halerts, hfly, _⟩ := recorded_flt_alerts r sev s
  have hrec := record_only r sev s
  have hset : Only [.live] (record r sev s) (setLive (hostO Reg.HOST_ALERTSEQ) (BitVec.ofNat 32 (nextSeq (record r sev s))) (record r sev s)) :=
    setLive_only _ _ _
  have hboth : Only [.live, .flt] s (setLive (hostO Reg.HOST_ALERTSEQ) (BitVec.ofNat 32 (nextSeq (record r sev s))) (record r sev s)) :=
    hrec.via hset rfl
  have hsame : alertRec r sev (!firstValid s) (record r sev s) = alertRec r sev (!firstValid s) s := by
    unfold alertRec
    rw [nextSeq_eq (alertseq_record (pend_below hsrc) sev s), hrec.cfgF_eq rfl rfl]
  unfold announced
  rw [alert_eq, requestIbi_alerts]
  unfold alertQueued
  rw [bne_iff_ne.mpr hne, when_true, queueAlert_waits (w := w)
    (s := setLive (hostO Reg.HOST_ALERTSEQ) (BitVec.ofNat 32 (nextSeq (record r sev s))) (record r sev s)) (by rw [hboth.cfgB_eq rfl rfl]; exact hctl) (by rw [hboth.cfg_eq rfl rfl]; exact haddr)
    (by rw [show (setLive _ _ (record r sev s)).flt.alerts = s.flt.alerts from halerts]; exact hroom) (hfly.trans hin), hsame]
  exact congrArg (· ++ [alertRec r sev (!firstValid s) s]) halerts

theorem announced_ibi {r : Reg} {s : State} (hsrc : r.src < 128) (hctl : cfgB s (hostO Reg.HOST_ALERTCTL) 1 = true)
    (hen : s.ports.target.enint = true) (hnone : s.flt.ibi = none) (sev : Nat) : (announced r sev s).flt.ibi =
      some [BitVec.ofNat 8 r.src, BitVec.ofNat 8 sev, BitVec.ofNat 8 (nextSeq s % 256), BitVec.ofNat 8 (nextSeq s / 256)] := by
  obtain ⟨_, _, hibi⟩ := recorded_flt_alerts r sev s
  have hrec := record_only r sev s
  have hqueued : Keeps ibiView (record r sev s) (alertQueued r sev (!firstValid s) (record r sev s)) :=
    Keeps.trans (p := ibiView) (by rfl) (Keeps.when (fun u => queueAlert_ibi _ u) _ _)
  obtain ⟨hq, hp⟩ := Prod.mk.inj hqueued
  have honly : Only [.live, .flt, .ports] s (alertQueued r sev (!firstValid s) (record r sev s)) :=
    ((hrec.mono rfl : Only [.live, .flt, .ports] s _).via (setLive_only _ _ _) rfl).when _ _ fun u => (queueAlert_only _ u).mono rfl
  unfold announced
  rw [alert_eq, nextSeq_eq (alertseq_record (pend_below hsrc) sev s)]
  refine requestIbi_asked (by rw [honly.cfgB_eq rfl rfl]; exact hctl) (by rw [hp, hrec.keeps .ports rfl]; exact hen) (by rw [hq, hibi]; exact hnone) _ _ _

/-! ### Alert responses and in-band interrupts -/

theorem sendAlert_next {s : State} {x : AlertRec} {rest : List AlertRec} (hin : s.flt.inflight = none) (ha : s.flt.alerts = x :: rest) :
    (sendAlert s).flt.alerts = rest ∧ (sendAlert s).flt.inflight.isSome = true ∧ (sendAlert s).flt.dropped = false ∧
      (sendAlert s).ports.out = s.ports.out ++ (sendAlert s).flt.inflight.toList := by
  unfold sendAlert
  rw [hin, ha]
  exact ⟨rfl, rfl, rfl, rfl⟩

theorem sendAlert_keepsRegq (s : State) : (sendAlert s).flt.regq = s.flt.regq := by
  unfold sendAlert
  split <;> rfl

theorem sendAlert_empty {s : State} (ha : s.flt.alerts = []) : sendAlert s = s := by
  unfold sendAlert
  rw [ha]
  split
  · next h => cases h
  · rfl

theorem exec_alertWriteResponse {s : State} {w : InitWrite} (hawake : awake s = true) (hin : s.flt.inflight = some w) (ok : Bool) :
    exec (.alertWriteResponse ok) s = .next (sendAlert (if ok then modFlt (fun f => { f with inflight := none }) s
      else alertLost ((w.words.getD 3 0).field 15 0) (bumpF (hostO Reg.HOST_ALERTDROP) 31 16 (modFlt (fun f => { f with inflight := none }) s)))) := by
  show execAlertWriteResponse ok s = _
  unfold execAlertWriteResponse
  rw [hin]
  exact act_runs hawake rfl

/-! ### Recovery -/

theorem beginRecovery_recov (d : Nat) (s : State) : (recov (beginRecovery d s) d).state = .normal ∧
    (recov (beginRecovery d s) d).history = (recov s d).history ++ [now s] ∧ ∀ e, e ≠ d → recov (beginRecovery d s) e = recov s e := by
  have hstart := fun u e => (startDomain_only d u).recov_eq rfl e
  unfold beginRecovery
  rw [hstart, recov_modRecov_same]
  exact ⟨rfl, rfl, fun e he => by rw [hstart, recov_modRecov_other he]⟩

theorem beginRecovery_keepsChip (d : Nat) (s : State) : KeepsChip s (beginRecovery d s) :=
  ((modRecov_only _ _ s).keepsChip rfl).trans (startDomain_keepsChip _ _)

theorem endChipOff_chip (s : State) : chipView (endChipOff s) = (false, false) := by
  have hkept : ∀ u, KeepsChip u (forEach (slotOrder s) (fun d s => when (mayRecover s d) (beginRecovery d) s) u) := fun u =>
    Keeps.forEach (fun d v => Keeps.when (beginRecovery_keepsChip d) _ v) _ u
  exact hkept _

/-! ### The commands of `FLT_CMD` -/

/-- The first source's validity, stamp and overflow are cleared. -/
def rearmed (s : State) : State := setField (fltO Reg.FLT_FIRST) 15 15 0 (setLive (fltO Reg.FLT_FIRST_TLO) 0
  (setLive (fltO Reg.FLT_FIRST_THI) 0 (setLive (fltO Reg.FLT_OVERFLOW) 0 s)))

/-- The host clears the domains of a mask that are not in normal operation. -/
def hostClears (w : Word) (s : State) : State :=
  forEach (upto 4) (fun d s => when (w.bit (4 + d) && (recov s d).state != .normal) (hostClear d) s) s

/-- The host's end of chip-off. -/
def chipCleared (s : State) : State := if thmShutdown s then refuse 0x02 s else endChipOff s

theorem fltCommand_eq (w : Word) (s : State) : fltCommand w s =
    when (w.bit 8 && (hostClears w (when (w.bit 0) rearmed s)).flt.chipOff) chipCleared (hostClears w (when (w.bit 0) rearmed s)) := rfl

theorem hostClears_none {w : Word} (h : ∀ d, d < 4 → w.bit (4 + d) = false) (s : State) : hostClears w s = s :=
  forEach_id fun d hd => by rw [h d (List.mem_range.mp hd), Bool.false_and, when_false]

theorem fltCommand_rearm (s : State) : fltCommand 1 s = rearmed s := by
  rw [fltCommand_eq, hostClears_none (by decide), show (1 : Word).bit 8 = false by decide, Bool.false_and, when_false,
    show (1 : Word).bit 0 = true by decide, when_true]

theorem fltCommand_chip {s : State} (h : s.flt.chipOff = true) : fltCommand 0x100 s = chipCleared s := by
  rw [fltCommand_eq, hostClears_none (by decide), show (0x100 : Word).bit 0 = false by decide, when_false, h]
  exact when_true _ _

theorem clearMask_bits (m : BitVec 4) : Word.bit (BitVec.ofNat 32 (0x10 * m.toNat)) 0 = false ∧
    Word.bit (BitVec.ofNat 32 (0x10 * m.toNat)) 8 = false ∧
    ∀ d, d < 4 → Word.bit (BitVec.ofNat 32 (0x10 * m.toNat)) (4 + d) = m.getLsbD d := by
  revert m
  decide

theorem fltCommand_clear (m : BitVec 4) (s : State) :
    fltCommand (BitVec.ofNat 32 (0x10 * m.toNat)) s = hostClears (BitVec.ofNat 32 (0x10 * m.toNat)) s := by
  obtain ⟨h0, h8, _⟩ := clearMask_bits m
  rw [fltCommand_eq, h8, Bool.false_and, when_false, h0, when_false]

theorem rearmed_words (s : State) : live (rearmed s) (fltO Reg.FLT_FIRST) = (live s (fltO Reg.FLT_FIRST)).put 15 15 0 ∧
    live (rearmed s) (fltO Reg.FLT_FIRST_TLO) = 0 ∧ live (rearmed s) (fltO Reg.FLT_FIRST_THI) = 0 ∧ live (rearmed s) (fltO Reg.FLT_OVERFLOW) = 0 := by
  unfold rearmed
  refine ⟨?_, ?_, ?_, ?_⟩
  · rw [live_setField_same, live_setLive_other _ _ _ _ (by decide), live_setLive_other _ _ _ _ (by decide), live_setLive_other _ _ _ _ (by decide)]
  · rw [live_setField_other _ _ _ _ _ _ (by decide), live_setLive_same]
  · rw [live_setField_other _ _ _ _ _ _ (by decide), live_setLive_other _ _ _ _ (by decide), live_setLive_same]
  · rw [live_setField_other _ _ _ _ _ _ (by decide), live_setLive_other _ _ _ _ (by decide), live_setLive_other _ _ _ _ (by decide),
      live_setLive_same]

theorem rearmed_only (s : State) : Only [.live] s (rearmed s) :=
  (((setLive_only _ _ s).via (setLive_only _ _ _) rfl).via (setLive_only _ _ _) rfl).via (setField_only _ _ _ _ _) rfl

theorem hostClear_others {d e : Nat} (h : d ≠ e) (s : State) : stage (hostClear e s) d = stage s d ∧ recov (hostClear e s) d = recov s d := by
  unfold hostClear
  split
  · exact ⟨(refuse_only _ _).stage_eq rfl d, (refuse_only _ _).recov_eq rfl d⟩
  · split
    · exact ⟨rfl, rfl⟩
    · rw [stage_modStage_other h, (modStage_only _ _ _).recov_eq rfl, (modRecov_only _ _ _).stage_eq rfl, recov_modRecov_other h]
      exact ⟨rfl, rfl⟩

theorem hostClear_clears {d : Nat} {s : State} (hsh : thmShutdown s = false) (h : (recov s d).state ≠ .normal) :
    (recov (hostClear d s) d).state = .normal ∧ (recov (hostClear d s) d).history = [] ∧
      stage (hostClear d s) d = { stage s d with startDue := some (now s + 1) } := by
  unfold hostClear
  rw [if_neg (by rw [hsh]; exact Bool.false_ne_true), if_neg h, (modStage_only _ _ _).recov_eq rfl, recov_modRecov_same, stage_modStage_same,
    (modRecov_only _ _ _).stage_eq rfl]
  exact ⟨rfl, rfl, rfl⟩

theorem hostClears_clears {w : Word} {d : Nat} {s : State} (hd : d < 4) (hw : w.bit (4 + d) = true) (hsh : thmShutdown s = false)
    (h : (recov s d).state ≠ .normal) : (recov (hostClears w s) d).state = .normal ∧ (recov (hostClears w s) d).history = [] ∧
      stage (hostClears w s) d = { stage s d with startDue := some (now s + 1) } := by
  have hothers : ∀ e u, e ≠ d → stage (when (w.bit (4 + e) && (recov u e).state != .normal) (hostClear e) u) d = stage u d ∧
      recov (when (w.bit (4 + e) && (recov u e).state != .normal) (hostClear e) u) d = recov u d := fun e u he => by
    cases w.bit (4 + e) && (recov u e).state != .normal with
    | false => exact ⟨rfl, rfl⟩
    | true => exact hostClear_others (Ne.symm he) u
  have honly : ∀ b e u, Only [.live, .recov, .stages] u (when b (hostClear e) u) := fun b e u =>
    (Only.refl _ u).when _ _ fun v => hostClear_only e v
  refine forEach_once (op := fun d s => when (w.bit (4 + d) && (recov s d).state != .normal) (hostClear d) s) (d := d)
    (P := fun u => recov u d = recov s d ∧ stage u d = stage s d ∧ Only [.live, .recov, .stages] s u)
    (Q := fun u => (recov u d).state = .normal ∧ (recov u d).history = [] ∧ stage u d = { stage s d with startDue := some (now s + 1) })
    (fun e u he hp => ?_) (fun u hp => ?_) (fun e u he hq => ?_) List.nodup_range (List.mem_range.mpr hd) ⟨rfl, rfl, .refl _ s⟩
  · obtain ⟨hr, hst, hon⟩ := hp
    obtain ⟨hst', hr'⟩ := hothers e u he
    exact ⟨hr'.trans hr, hst'.trans hst, hon.via (honly _ e u) rfl⟩
  · obtain ⟨hr, hst, hon⟩ := hp
    have htherm : thmShutdown u = false := by
      unfold thmShutdown at hsh ⊢
      rw [hon.keeps .therm rfl]
      exact hsh
    have hgo : (w.bit (4 + d) && (recov u d).state != .normal) = true := by
      rw [hw, hr, Bool.true_and]
      exact bne_iff_ne.mpr h
    obtain ⟨h1, h2, h3⟩ := hostClear_clears htherm (hr ▸ h)
    rw [hgo, when_true]
    exact ⟨h1, h2, by rw [h3, hst, hon.now_eq rfl]⟩
  · obtain ⟨hst', hr'⟩ := hothers e u he
    rw [hst', hr']
    exact hq

theorem chipCleared_refused {s : State} (hsh : thmShutdown s = true) : chipCleared s = refuse 0x02 s := if_pos hsh

theorem chipCleared_ends {s : State} (hsh : thmShutdown s = false) : chipCleared s = endChipOff s :=
  if_neg (by rw [hsh]; exact Bool.false_ne_true)

/-! ### An overrun and an injection -/

theorem overrun_keepsRaised (cls i : Nat) (s : State) : KeepsRaised s (overrun cls i s) := by
  unfold overrun
  refine KeepsRaised.trans ?_ (KeepsRaised.when (fun u => raise_keepsRaised _ _ u) _ _)
  have hraise : ∀ x : EngRun, KeepsRaised s
      (raise Src.ENG_OVERRUN (engKey cls i) (recordSlack cls 0 (bump (tbO Reg.TB_OVR_CNT) (setEng cls i x s)))) := fun x =>
    (((((setEng_only _ _ x s).mono rfl).via (bump_only _ _) rfl).via (recordSlack_only _ _ _) rfl :
      Only [.eng, .live] s _).keepsRaised rfl).trans (raise_keepsRaised _ _ _)
  cases engPage cls i with
  | none => exact hraise _
  | some p => exact (hraise _).trans ((pageFlt_only _ _ _).keepsRaised rfl)

/-- The word of an injection. -/
theorem injectWord_fields (src : BitVec 7) (det : BitVec 16) {v : Nat} (hv : v = src.toNat + 0x100 + 0x10000 * det.toNat) :
    Word.bit (BitVec.ofNat 32 v) 8 = true ∧ Word.field (BitVec.ofNat 32 v) 6 0 = src.toNat ∧
      Word.field (BitVec.ofNat 32 v) 31 16 = det.toNat := by
  have hs := src.isLt
  have hd := det.isLt
  have hsmall : v % 2 ^ 32 = v := Nat.mod_eq_of_lt (by omega)
  refine ⟨?_, ?_, ?_⟩
  · rw [Word.bit_eq_field]
    unfold Word.field
    rw [BitVec.toNat_ofNat, hsmall, Nat.shiftRight_eq_div_pow, beq_iff_eq]
    omega
  · unfold Word.field
    rw [BitVec.toNat_ofNat, hsmall, Nat.shiftRight_eq_div_pow]
    omega
  · unfold Word.field
    rw [BitVec.toNat_ofNat, hsmall, Nat.shiftRight_eq_div_pow]
    omega

/-! ### The statement -/

theorem faultLatch_recorded {s : State} {r : Reg} (hawake : awake s = true) (hq : s.flt.regq = [r]) (hdue : r.due ≤ now s) (hdone : r.done = true)
    (hsev : sevOf s r.src = 1) (hsrc : r.src < 128) : ∃ t, exec .faultLatch s = .next t ∧
      t.flt = { s.flt with regq := [], present := (r.src, Nat.max 1 (((s.flt.present.find? (fun p => p.1 == r.src)).map (·.2)).getD 0)) ::
        s.flt.present.filter (fun p => p.1 != r.src) } ∧
      (live t (fltO (Reg.FLT_PEND (r.src / 32)))).bit (r.src % 32) = true ∧
      (live t (fltO Reg.FLT_RAISED)).toNat = Nat.min ((live s (fltO Reg.FLT_RAISED)).toNat + 1) 0xFFFFFFFF ∧
      (firstValid s = false → live t (fltO Reg.FLT_FIRST) = BitVec.ofNat 32 (r.src + 0x100 + 0x8000 + 0x10000 * r.det) ∧
        live t (fltO Reg.FLT_FIRST_TLO) = r.stamp.setWidth 32) ∧
      (firstValid s = true → live t (fltO Reg.FLT_FIRST) = live s (fltO Reg.FLT_FIRST) ∧
        (live t (fltO Reg.FLT_OVERFLOW)).bit 0 = true) ∧ Only [.eng, .flt, .live] s t := by
  have hlive := fun o => (faultTaken_only [] s).live_eq rfl rfl o
  refine ⟨_, exec_faultLatch hawake hq hdue, ?_⟩
  rw [faultLatch_record hq hdue hdone hsev]
  refine ⟨record_flt _, pend_record hsrc _ _, ?_, fun hfirst => record_first ((firstValid_faultTaken s).trans hfirst) 1, fun hfirst => ?_, ?_⟩
  · rw [live_record_other (.inr (by decide)), raised_recorded hsrc, hlive]
  · obtain ⟨hkept, hover⟩ := record_later hsrc ((firstValid_faultTaken s).trans hfirst) 1
    exact ⟨hkept.trans (hlive _), hover⟩
  · exact ((faultTaken_only [] s).mono rfl : Only [.eng, .flt, .live] s _).via (record_only _ _ _) rfl

theorem faultLatch_alerted {s : State} {r : Reg} (hawake : awake s = true) (hq : s.flt.regq = [r]) (hdue : r.due ≤ now s) (hdone : r.done = true)
    (hsev : sevOf s r.src = 2) (hsrc : r.src < 128) (hne : r.src ≠ Src.FLT_ALERT_WRITE) :
    ∃ t, exec .faultLatch s = .next t ∧ live t (hostO Reg.HOST_ALERTSEQ) = BitVec.ofNat 32 (nextSeq s) ∧
      (live t (fltO (Reg.FLT_PEND (r.src / 32)))).bit (r.src % 32) = true ∧
      (∀ w, s.flt.inflight = some w → cfgB s (hostO Reg.HOST_ALERTCTL) 0 = true → cfg s (hostO Reg.HOST_ALERTADDR_LO) ≠ 0 →
        s.flt.alerts.length < 16 → t.flt.alerts = s.flt.alerts ++ [alertRec r 2 (!firstValid s) s]) ∧
      (cfgB s (hostO Reg.HOST_ALERTCTL) 1 = true → s.ports.target.enint = true → s.flt.ibi = none →
        t.flt.ibi = some [BitVec.ofNat 8 r.src, BitVec.ofNat 8 2, BitVec.ofNat 8 (nextSeq s % 256), BitVec.ofNat 8 (nextSeq s / 256)]) := by
  have htaken := faultTaken_only [] s
  have hseq : nextSeq (faultTaken [] s) = nextSeq s := nextSeq_eq (htaken.live_eq rfl rfl _)
  have hrec : alertRec r 2 (!firstValid (faultTaken [] s)) (faultTaken [] s) = alertRec r 2 (!firstValid s) s := by
    unfold alertRec
    rw [hseq, htaken.cfgF_eq rfl rfl, firstValid_faultTaken]
  refine ⟨_, exec_faultLatch hawake hq hdue, ?_⟩
  rw [faultLatch_alert hq hdue hdone hsev]
  refine ⟨?_, announced_pend hsrc _ _, fun w hin hctl haddr hroom => ?_, fun hctl hen hnone => ?_⟩
  · rw [announced_seq r 2 _ (pend_below hsrc), hseq]
  · rw [announced_alerts (s := faultTaken [] s) hsrc hne hin (by rw [htaken.cfgB_eq rfl rfl]; exact hctl)
      (by rw [htaken.cfg_eq rfl rfl]; exact haddr) hroom, hrec]
    rfl
  · rw [announced_ibi (s := faultTaken [] s) hsrc (by rw [htaken.cfgB_eq rfl rfl]; exact hctl) (by rw [htaken.keeps .ports rfl]; exact hen) hnone, hseq]

theorem faultLatch_contained {s : State} {r : Reg} (hawake : awake s = true) (hq : s.flt.regq = [r]) (hdue : r.due ≤ now s) (hdone : r.done = true)
    (hsev : sevOf s r.src = 3) (hc : contains3 r.src r.det = true) : ∃ t, exec .faultLatch s = .next t ∧ t.stages = s.stages ∧
      (64 ≤ r.src → r.src ≤ 66 → r.det < 12 → (adc s r.det).state ≠ .failed →
        (adc t r.det).state = .failed ∧ (adc t r.det).cause = r.src - 63) ∧
      (∀ o q l, sourceOwner r.src r.det = some o → q < quads s → (ring s q).lock = some l → l.owner = o → l.from0 ≤ r.at0 →
        (ring t q).lock = some { l with reset := true }) := by
  have hpre : Only [.eng, .flt, .recov] s (restartQuiet r (faultTaken [] s)) :=
    ((faultTaken_only [] s).mono rfl : Only [.eng, .flt, .recov] s _).via (restartQuiet_only _ _) rfl
  have hcont := contain_only r (restartQuiet r (faultTaken [] s))
  have hann := announced_only r 3 (contain r (restartQuiet r (faultTaken [] s)))
  refine ⟨_, exec_faultLatch hawake hq hdue, ?_⟩
  rw [faultLatch_contain hq hdue hdone hsev hc]
  refine ⟨?_, fun h64 h66 hdet hst => ?_, fun o q l ho hqd hl hown hfrom => ?_⟩
  · rw [hann.keeps .stages rfl, hcont.keeps .stages rfl, hpre.keeps .stages rfl]
  · rw [hann.adc_eq rfl rfl]
    exact adc_contain h64 h66 hdet (by rw [hpre.adc_eq rfl rfl]; exact hst)
  · rw [hann.ring_eq rfl]
    exact lock_contain ho (by rw [hpre.quads_eq rfl]; exact hqd) (by rw [hpre.ring_eq rfl]; exact hl) hown hfrom

/-- Settles O56. -/
theorem faultCommands : Obligations.FaultCommands := by
  refine ⟨fun s r hawake hq hdue => ⟨fun hdone hsev => ?_, faultLatch_recorded hawake hq hdue, fun hdone hsev hsrc hne => ?_, fun hdone hsev hc => ?_,
      faultLatch_contained hawake hq hdue, fun hdone hsev hdom => ?_, fun d hdone hsev hdom hst => ?_, fun d hdone hsev hd hst => ?_, fun hdone => ?_⟩,
    fun s a src det hawake hreach => ⟨fun hsec hid => ?_, fun hsec hid => ?_, fun hsec => ?_⟩,
    fun s hawake htick => ⟨fun hpat => ?_, fun hpat => ?_⟩,
    fun s w hawake hin => ⟨fun hempty => ?_, fun x rest ha => ?_, ?_⟩,
    fun s hawake hibi => ?_, fun s d hawake hd hmay hchip => ?_, fun s hawake hchip hends hover => ?_,
    fun s a hawake hreach hsec => ⟨?_, fun m d hd hm hrec hsh => ?_, fun hchip hsh => ?_, fun hchip hsh => ?_⟩⟩
  · refine ⟨_, exec_faultLatch hawake hq hdue, ?_⟩
    rw [faultLatch_none hq hdue hdone hsev]
    exact ⟨rfl, faultTaken_only [] s⟩
  · exact faultLatch_alerted hawake hq hdue hdone hsev hsrc hne
  · have hpre : Only [.eng, .flt, .recov] s (restartQuiet r (faultTaken [] s)) :=
      ((faultTaken_only [] s).mono rfl : Only [.eng, .flt, .recov] s _).via (restartQuiet_only _ _) rfl
    have hann := announced_only r 2 (restartQuiet r (faultTaken [] s))
    refine ⟨_, exec_faultLatch hawake hq hdue, ?_⟩
    rw [faultLatch_alert3 hq hdue hdone hsev hc, announced_seq r 2 _ (pend_apart_of_sev hsev), nextSeq_eq (hpre.live_eq rfl rfl _)]
    exact ⟨(hann.keeps .stages rfl).trans (hpre.keeps .stages rfl), (hann.keeps .adcs rfl).trans (hpre.keeps .adcs rfl),
      (hann.keeps .secs rfl).trans (hpre.keeps .secs rfl), rfl⟩
  · refine ⟨_, exec_faultLatch hawake hq hdue, fun d hd hst => faultLatch_isOff hq hdue hdone hsev (.inl rfl) ?_ hst⟩
    unfold offDoms
    rw [hdom]
    exact List.mem_range.mpr hd
  · refine ⟨_, exec_faultLatch hawake hq hdue, faultLatch_isOff hq hdue hdone hsev (.inl rfl) ?_ hst⟩
    unfold offDoms
    rw [hdom]
    exact List.mem_singleton_self d
  · have hin : d ∈ offDoms r 5 := by
      unfold offDoms
      split <;> exact List.mem_range.mpr hd
    obtain ⟨htr, _⟩ := faultLatch_isOff hq hdue hdone hsev (.inr rfl) hin hst
    exact ⟨_, exec_faultLatch hawake hq hdue, faultLatch_chipOff hq hdue hdone hsev, htr⟩
  · refine ⟨_, exec_faultLatch hawake hq hdue, ?_⟩
    rw [faultLatch_late hq hdue hdone]
    refine ⟨overrun_keepsRaised _ _ _ List.mem_cons_self, ?_⟩
    have hlate := overrun_among clsFault 0 (faultTaken [{ r with due := now s + 8 }] s)
    have honly := faultTaken_only [{ r with due := now s + 8 }] s
    unfold RaisedAmong at hlate ⊢
    rwa [honly.now_eq rfl, honly.tick_eq rfl] at hlate
  · have hw : ∀ v : Nat, v = src.toNat + 0x100 + 0x10000 * det.toNat → fltInject (BitVec.ofNat 32 v) s = raise src.toNat det.toNat s := by
      intro v hv
      obtain ⟨hgo, hs, hdt⟩ := injectWord_fields src det hv
      unfold fltInject
      rw [hgo, hs, hdt, hid]
      rfl
    refine ⟨_, secureCmd_ok hawake hreach hsec _, ?_⟩
    rw [hw _ rfl]
    exact ⟨(raise_raised _ _ s).before (respond_only _ _ _) rfl,
      ((raise_only _ _ s).mono rfl : Only [.flt, .ports] s _).via (respond_only _ _ _) rfl⟩
  · obtain ⟨hgo, hs, _⟩ := injectWord_fields src det rfl
    refine (secureCmd_ok hawake hreach hsec _).trans ?_
    unfold fltInject
    rw [hs, hid, Bool.and_false]
    rfl
  · exact secureCmd_ignored hawake hreach hsec _
  · refine ⟨_, act_runs hawake htick, ?_⟩
    rw [hpat]
    exact ⟨rfl, (Only.refl _ s).when _ _ fun u => modFlt_only _ u⟩
  · refine (act_runs hawake htick).trans ?_
    rw [hpat]
    rfl
  · refine ⟨_, exec_alertWriteResponse hawake hin true, ?_⟩
    rw [if_pos rfl, sendAlert_empty (by exact hempty)]
    exact ⟨rfl, modFlt_only _ s⟩
  · refine ⟨_, exec_alertWriteResponse hawake hin true, ?_⟩
    rw [if_pos rfl]
    obtain ⟨hrest, hsome, hdrop, hout⟩ := sendAlert_next (s := modFlt (fun f => { f with inflight := none }) s) rfl ha
    exact ⟨hrest, hsome, hdrop, hout, ((modFlt_only _ s).mono rfl : Only [.flt, .ports] s _).via (sendAlert_only _) rfl⟩
  · refine ⟨_, exec_alertWriteResponse hawake hin false, ?_⟩
    rw [if_neg Bool.false_ne_true]
    refine ⟨?_, ?_⟩
    · unfold Raised alertLost
      rw [sendAlert_keepsRegq, raiseOn_raised]
      rfl
    · rw [(sendAlert_only _).live_eq rfl rfl]
      unfold alertLost
      rw [live_raiseOn_other (by decide)]
      exact field_bumpF _ _ _ _ (by decide) (by decide)
  · refine ⟨_, act_runs hawake hibi, rfl, rfl, rfl, modFlt_only _ s⟩
  · have hdue : quietDue s d = true := by
      unfold quietDue
      rw [decide_eq_true hd, hmay, hchip]
      rfl
    have hover : timeOver (.quiet d) s = beginRecovery d s := by
      show quietOver d s = _
      unfold quietOver
      rw [hdue, when_true]
    rw [hover]
    exact ⟨act_runs hawake hdue, beginRecovery_recov d s⟩
  · have hdue : chipDue s = true := by
      unfold chipDue
      rw [hchip, hends, hover]
      rfl
    have hend : timeOver .chipQuiet s = endChipOff s := by
      show chipOver s = _
      unfold chipOver
      rw [hdue, when_true]
    obtain ⟨hoff, href⟩ := Prod.mk.inj (endChipOff_chip s)
    rw [hend]
    exact ⟨act_runs hawake hdue, hoff, href⟩
  · obtain ⟨h1, h2, h3, h4⟩ := rearmed_words s
    refine ⟨_, secureCmd_ok hawake hreach hsec _, ?_⟩
    rw [fltCommand_rearm]
    simp only [live_respond]
    exact ⟨h1, h2, h3, h4, ((rearmed_only s).mono rfl : Only [.live, .ports] s _).via (respond_only _ _ _) rfl⟩
  · obtain ⟨_, _, hbits⟩ := clearMask_bits m
    refine ⟨_, secureCmd_ok hawake hreach hsec _, ?_⟩
    rw [fltCommand_clear, (respond_only _ _ _).recov_eq rfl, (respond_only _ _ _).stage_eq rfl]
    exact hostClears_clears hd ((hbits d hd).trans hm) hsh hrec
  · refine ⟨_, secureCmd_ok hawake hreach hsec _, ?_⟩
    rw [fltCommand_chip hchip, chipCleared_ends hsh, (respond_only _ _ _).keeps .flt rfl]
    exact (Prod.mk.inj (endChipOff_chip s)).1
  · refine ⟨_, secureCmd_ok hawake hreach hsec _, ?_⟩
    rw [fltCommand_chip hchip, chipCleared_refused hsh, (respond_only _ _ _).keeps .flt rfl]
    exact ⟨(refuse_only _ _).keeps .flt rfl, field_refuse_respond _ _ _ _⟩

end Sys2Proof.Machine
end

section
/-! SUPPORT. The I3C target: transfers it takes, errors it raises. -/

namespace Sys2Proof.Machine

/-! ### Headers of I3C transfers (R566) -/

/-- The block offset of a header. -/
def headerOff (x y z : Byte) : Nat := x.toNat + 0x100 * y.toNat + 0x10000 * z.toNat

theorem headerOf_cons (op x y z n : Byte) (rest : List Byte) :
    headerOf (op :: x :: y :: z :: n :: rest) = some (⟨op.toNat, headerOff x y z, n.toNat⟩, rest) := rfl

theorem header_good {op off n : Nat} (hop : op = 1 ∨ op = 2) (hoff : off % 4 = 0) (h1 : 1 ≤ n) (h16 : n ≤ 16) : (Header.mk op off n).bad = false := by
  have hn : n ≠ 0 := by omega
  unfold Header.bad
  rw [hoff, decide_eq_false (by omega : ¬ 16 < n), Bool.or_false, show (n == 0) = false from beq_false_of_ne hn, Bool.or_false]
  rcases hop with rfl | rfl <;> rfl

theorem header_bad {op x y z n : Byte} (h : op ≠ 1 ∧ op ≠ 2 ∨ headerOff x y z % 4 ≠ 0 ∨ n = 0 ∨ 16 < n.toNat) :
    (Header.mk op.toNat (headerOff x y z) n.toNat).bad = true := by
  unfold Header.bad
  simp only [Bool.or_eq_true, Bool.not_eq_true', Bool.or_eq_false_iff, beq_eq_false_iff_ne, beq_iff_eq, bne_iff_ne, decide_eq_true_eq]
  rcases h with ⟨h1, h2⟩ | hoff | hzero | hmany
  · exact .inl (.inl (.inl ⟨fun he => h1 (BitVec.eq_of_toNat_eq he), fun he => h2 (BitVec.eq_of_toNat_eq he)⟩))
  · exact .inl (.inl (.inr hoff))
  · exact .inl (.inr (by rw [hzero]; rfl))
  · exact .inr hmany

theorem privateWrite_bad {s : State} {op x y z n : Byte} {rest : List Byte} (hlen : rest.length + 5 ≤ s.ports.target.mwl)
    (h : op ≠ 1 ∧ op ≠ 2 ∨ headerOff x y z % 4 ≠ 0 ∨ n = 0 ∨ 16 < n.toNat) :
    privateWrite (op :: x :: y :: z :: n :: rest) s = i3cForm s := by
  unfold privateWrite
  rw [if_neg (by simp only [List.length_cons]; omega), headerOf_cons]
  exact if_pos (header_bad h)

theorem privateWrite_read {s : State} {x y z n : Byte} (hlen : 9 ≤ s.ports.target.mwl) (hoff : headerOff x y z % 4 = 0)
    (h1 : 1 ≤ n.toNat) (h16 : n.toNat ≤ 16) : privateWrite [1, x, y, z, n] s =
      modI3c (fun t => { t with reply := none, fetch := some ⟨headerOff x y z, n.toNat, now s, [], false⟩ }) s := by
  unfold privateWrite
  rw [if_neg (by simp only [List.length_cons, List.length_nil]; omega), headerOf_cons]
  dsimp only
  rw [header_good (op := BitVec.toNat (1 : Byte)) (.inl rfl) hoff h1 h16, if_neg Bool.false_ne_true]
  exact if_pos rfl

theorem privateWrite_write {s : State} {x y z n d0 d1 d2 d3 : Byte} {rest : List Byte} (hlen : rest.length + 9 ≤ s.ports.target.mwl)
    (hoff : headerOff x y z % 4 = 0) (h1 : 1 ≤ n.toNat) (h16 : n.toNat ≤ 16) : privateWrite (2 :: x :: y :: z :: n :: d0 :: d1 :: d2 :: d3 :: rest) s =
      writeData (headerOff x y z) (d0 :: d1 :: d2 :: d3 :: rest.take (4 * n.toNat - 4)) (respond i3cAccess (.ok 0) s) := by
  have htake : (d0 :: d1 :: d2 :: d3 :: rest).take (4 * n.toNat) = d0 :: d1 :: d2 :: d3 :: rest.take (4 * n.toNat - 4) := by
    rw [show 4 * n.toNat = 4 * n.toNat - 4 + 1 + 1 + 1 + 1 by omega]
    rfl
  unfold privateWrite
  rw [if_neg (by simp only [List.length_cons]; omega), headerOf_cons]
  dsimp only
  rw [header_good (op := BitVec.toNat (2 : Byte)) (.inr rfl) hoff h1 h16, if_neg Bool.false_ne_true, if_neg (by decide), htake]

/-! ### Lengths and errors -/

theorem heldLength_range {lo hi : Nat} (h : lo ≤ hi) (n : Nat) : lo ≤ heldLength lo hi n ∧ heldLength lo hi n ≤ hi ∧
    (lo ≤ n → n ≤ hi → heldLength lo hi n = n) := by
  unfold heldLength
  refine ⟨?_, ?_, fun hl hh => if_pos (by simp [hl, hh])⟩
  · split
    · simp_all
    · exact Nat.le_max_left _ _
  · split
    · simp_all
    · exact Nat.max_le.mpr ⟨h, Nat.min_le_left _ _⟩

theorem i3cRaise_ports (det hi lo : Nat) (s : State) : (i3cRaise det hi lo s).ports = s.ports :=
  ((raiseOn_only _ _ _ _ _).keeps .ports rfl).trans ((bumpF_only _ _ _ _).keeps .ports rfl)

theorem i3cRaise_raised (det hi lo : Nat) (s : State) : Raised Src.HOST_I3C_ERR det s (i3cRaise det hi lo s) :=
  (raiseOn_raised _ _ _ _ _).after (bumpF_only _ _ _ s) rfl rfl

theorem field_i3cRaise {hi lo : Nat} (h : lo ≤ hi) (h32 : hi < 32) (det : Nat) (s : State) :
    (live (i3cRaise det hi lo s) (hostO Reg.HOST_I3CERR)).field hi lo =
      Nat.min ((live s (hostO Reg.HOST_I3CERR)).field hi lo + 1) (2 ^ (hi + 1 - lo) - 1) := by
  unfold i3cRaise
  rw [live_raiseOn_other (by decide)]
  exact field_bumpF _ _ _ _ h h32

theorem live_modI3c (f : I3c → I3c) (s : State) (o : Nat) : live (modI3c f s) o = live s o := (modI3c_only f s).live_eq rfl rfl o

theorem i3cForm_effect (s : State) : (i3cForm s).ports.target.reply = some [0x01] ∧ Raised Src.HOST_I3C_ERR 8 s (i3cForm s) ∧
    (live (i3cForm s) (genO Reg.GEN_ACCERR)).field 7 0 = Nat.min ((live s (genO Reg.GEN_ACCERR)).field 7 0 + 1) 255 ∧
    (i3cForm s).ports.target.protErr = s.ports.target.protErr ∧
    (live (i3cForm s) (hostO Reg.HOST_I3CERR)).field 31 16 = Nat.min ((live s (hostO Reg.HOST_I3CERR)).field 31 16 + 1) 0xFFFF := by
  have hcount := bumpF_only (genO Reg.GEN_ACCERR) 7 0 s
  unfold i3cForm
  refine ⟨rfl, ((i3cRaise_raised 8 31 16 _).after hcount rfl rfl).before (modI3c_only _ _) rfl, ?_, ?_, ?_⟩
  · rw [live_modI3c]
    unfold i3cRaise
    rw [live_raiseOn_other (by decide)]
    unfold bumpF
    rw [live_setField_other _ _ _ _ _ _ (by decide)]
    exact field_bumpF (genO Reg.GEN_ACCERR) 7 0 s (by decide) (by decide)
  · show (i3cRaise 8 31 16 _).ports.target.protErr = _
    rw [i3cRaise_ports, hcount.keeps .ports rfl]
  · rw [live_modI3c]
    exact (field_i3cRaise (by decide) (by decide) 8 _).trans (congrArg (fun w : Word => Nat.min (w.field 31 16 + 1) 0xFFFF)
      (live_setField_other _ _ _ _ _ _ (by decide)))

theorem targetError_effect (k : Nat) (s : State) : (targetError k s).ports.target.protErr = true ∧ Raised Src.HOST_I3C_ERR k s (targetError k s) ∧
    (targetError k s).ports.target.hdr = (decide (k < 2) || s.ports.target.hdr) ∧
    (live (targetError k s) (hostO Reg.HOST_I3CERR)).field 15 0 = Nat.min ((live s (hostO Reg.HOST_I3CERR)).field 15 0 + 1) 0xFFFF := by
  unfold targetError
  refine ⟨rfl, (i3cRaise_raised k 15 0 s).before (modI3c_only _ _) rfl, ?_, ?_⟩
  · show (decide (k < 2) || (i3cRaise k 15 0 s).ports.target.hdr) = _
    rw [i3cRaise_ports]
  · rw [live_modI3c]
    exact field_i3cRaise (by decide) (by decide) k s

/-! ### The statement -/

/-- What an addressed transfer does: common command codes and transfers by address. -/
theorem i3c_addressed {s : State} (hawake : awake s = true) (hadr : addressed s = true) :
    (∀ (direct : Bool) (e : Byte),
      (∃ t, exec (.i3cEnec direct e) s = .next t ∧ t.ports.target.enint = (s.ports.target.enint || e.getLsbD 0) ∧ Only [.ports] s t) ∧
      (∃ t, exec (.i3cDisec direct e) s = .next t ∧ t.ports.target.enint = (s.ports.target.enint && !e.getLsbD 0) ∧ Only [.ports] s t)) ∧
    (∀ n : BitVec 16, ∃ t, exec (.i3cSetmwl n) s = .next t ∧ 9 ≤ t.ports.target.mwl ∧ t.ports.target.mwl ≤ 69 ∧
      (9 ≤ n.toNat → n.toNat ≤ 69 → t.ports.target.mwl = n.toNat) ∧ Only [.ports] s t) ∧
    (∀ n : BitVec 16, ∃ t, exec (.i3cSetmrl n) s = .next t ∧ 5 ≤ t.ports.target.mrl ∧ t.ports.target.mrl ≤ 65 ∧
      (5 ≤ n.toNat → n.toNat ≤ 65 → t.ports.target.mrl = n.toNat) ∧ Only [.ports] s t) := by
  have hlis : listens s = true := (Bool.and_eq_true_iff.mp hadr).1
  have hbus : ∀ direct : Bool, (if direct = true then addressed s else listens s) = true := fun direct => by
    rw [hadr, hlis]
    exact ite_self _
  refine ⟨fun direct e => ⟨⟨_, act_runs hawake (hbus direct), rfl, modI3c_only _ s⟩, ⟨_, act_runs hawake (hbus direct), rfl, modI3c_only _ s⟩⟩,
    fun n => ?_, fun n => ?_⟩
  · obtain ⟨hlo, hhi, hin⟩ := heldLength_range (lo := 9) (hi := 69) (by decide) n.toNat
    exact ⟨_, act_runs hawake hlis, hlo, hhi, hin, modI3c_only _ s⟩
  · obtain ⟨hlo, hhi, hin⟩ := heldLength_range (lo := 5) (hi := 65) (by decide) n.toNat
    exact ⟨_, act_runs hawake hlis, hlo, hhi, hin, modI3c_only _ s⟩

/-- An answer of the port. -/
theorem answers_bytes {s : State} (hawake : awake s = true) (hadr : addressed s = true) (l : List Byte) :
    ∃ t, act s (addressed s) (answer l s) = .next t ∧ t.ports.target.answer = l ∧ Only [.ports] s t :=
  ⟨_, act_runs hawake hadr, rfl, answer_only l s⟩

theorem privateRead_waits {s : State} (h : s.ports.target.fetch.isSome = true) :
    privateRead s = respond i3cAccess .nack (modI3c (fun t => { t with answer := [] }) s) := if_pos h

theorem privateRead_replies {s : State} {l : List Byte} (h : s.ports.target.fetch = none) (hr : s.ports.target.reply = some l) :
    privateRead s = modI3c (fun t => { t with reply := none }) (answer (l.take s.ports.target.mrl) s) := by
  unfold privateRead
  dsimp only
  rw [if_neg (by rw [h]; exact Bool.false_ne_true), hr]

theorem privateRead_idle {s : State} (h : s.ports.target.fetch = none) (hr : s.ports.target.reply = none) : privateRead s = answer [0x02] s := by
  unfold privateRead
  dsimp only
  rw [if_neg (by rw [h]; exact Bool.false_ne_true), hr]

/-- Settles O59. -/
theorem i3cCommands : Obligations.I3cCommands := by
  refine ⟨fun s hawake hadr => ?_, fun s x hawake hlis hda => ⟨?_, ?_, fun y hy => ?_⟩, fun s off due a b c d rest hdata => ⟨?_, fun hlt => ?_, fun hle => ?_⟩,
    fun s hawake => ⟨_, act_runs hawake rfl, rfl, modI3c_only _ s⟩, fun s hawake hlis => ⟨fun k hk => ?_, ?_, fun hda => ?_, ?_⟩⟩
  · obtain ⟨hevents, hmwl, hmrl⟩ := i3c_addressed hawake hadr
    have hlis : listens s = true := (Bool.and_eq_true_iff.mp hadr).1
    refine ⟨hevents, ⟨_, act_runs hawake hlis, rfl, modI3c_only _ s⟩, fun x => ⟨_, act_runs hawake hadr, rfl, rfl, takeAddr_only _ s⟩, hmwl, hmrl,
      answers_bytes hawake hadr _, answers_bytes hawake hadr _, answers_bytes hawake hadr _, answers_bytes hawake hadr _, answers_bytes hawake hadr _,
      ⟨_, act_runs hawake hadr, rfl, rfl, (answer_only _ s).via (modI3c_only _ _) rfl⟩, ⟨_, act_runs hawake hlis, rfl, ?_, modI3c_only _ s⟩,
      fun hf => ⟨_, act_runs hawake hadr, ?_⟩, fun l hf hr => ⟨_, act_runs hawake hadr, ?_⟩, fun hf hr => ⟨_, act_runs hawake hadr, ?_⟩,
      fun x y z n d0 d1 d2 d3 rest hoff h1 h16 hlen => ?_, fun x y z n hoff h1 h16 hlen => ?_, fun op x y z n rest hlen hbad => ?_⟩
    · unfold listens modI3c
      simp
    · rw [privateRead_waits hf]
      exact ⟨rfl, rfl⟩
    · rw [privateRead_replies hf hr]
      exact ⟨rfl, rfl, (answer_only _ s).via (modI3c_only _ _) rfl⟩
    · rw [privateRead_idle hf hr]
      exact ⟨rfl, answer_only _ s⟩
    · exact (act_runs hawake hadr).trans (congrArg _ (privateWrite_write hlen hoff h1 h16))
    · refine ⟨_, act_runs hawake hadr, ?_⟩
      rw [privateWrite_read hlen hoff h1 h16]
      exact ⟨rfl, rfl, modI3c_only _ s⟩
    · obtain ⟨hreply, hraised, hcount, _⟩ := i3cForm_effect s
      refine ⟨_, act_runs hawake hadr, ?_⟩
      rw [privateWrite_bad hlen hbad]
      exact ⟨hreply, hraised, hcount⟩
  · exact ⟨_, act_runs hawake (by rw [hlis, hda]; rfl), rfl, rfl, takeAddr_only _ s⟩
  · exact ⟨_, act_runs hawake (by rw [hlis, hda, beq_self_eq_true]; rfl), rfl, rfl, takeAddr_only _ s⟩
  · exact act_idle (.inr (by rw [beq_false_of_ne hy, Bool.and_false]))
  · unfold listens
    rw [hdata]
    exact Bool.and_false _
  · unfold i3cData
    rw [hdata]
    dsimp only
    rw [decide_eq_false (by omega), when_false]
  · unfold i3cData
    rw [hdata]
    dsimp only
    rw [decide_eq_true hle, when_true]
    rfl
  · obtain ⟨hprot, hraised, hhdr, hcount⟩ := targetError_effect k s
    exact ⟨_, act_runs hawake (by rw [hlis, decide_eq_true (by omega : k < 7)]; rfl), hprot, hraised, hhdr, hcount⟩
  · obtain ⟨hreply, hraised, _, hprot, hcount⟩ := i3cForm_effect s
    exact ⟨_, act_runs hawake hlis, hreply, hraised, hprot, hcount⟩
  · exact ⟨_, act_runs hawake (by unfold addressed; rw [hlis, hda]; rfl), rfl, respond_only _ _ s⟩
  · exact act_idle (.inr (Bool.and_false _))

end Sys2Proof.Machine
end

section
/-! SUPPORT. The end of a pass on the number of a quadrant that the block does not have. -/

namespace Sys2Proof.Machine

/-- Converter 0 serves quadrant 4, which no build has: the page that quadrant 4 would have is converter 0's. Its pass has
ended after one clock and converted both references. -/
def pagesMeet : State :=
  modQuad 4 (fun x => { x with passEnd := some (1, true), refLo := some (0, 8), refHi := some (0, 8) })
    (modAdc 0 (fun a => { a with state := .telem, role := 8 })
      ({ State.reset with powered := true, tb := { State.reset.tb with elapsed := 1 } }))

theorem pagesMeet_ends : awake pagesMeet = true ∧ passOver pagesMeet 4 (quad pagesMeet 4) = some (1, true) ∧
    quadConv pagesMeet 4 = some 0 := by decide +kernel

/-- The references of the pass are shown in `ADC_REFRAW` of converter 0, in the word of the pass's length. -/
theorem sequencePassEnd_overwrites : (match exec (.sequencePassEnd 4) pagesMeet with
    | .next t => decide (live t (qdO 4 Reg.QD_PASSTIME) = 0)
    | _ => false) = true := by decide +kernel

/-- Refutes O60: its clause on `sequencePassEnd` holds for no bound on the quadrant. On the number of a quadrant beyond the
four of R2 the word of the pass's length is a converter's `ADC_REFRAW`, which the end of a pass that converted both
references writes after it. -/
theorem not_engineAndConversionsComplete : ¬ Obligations.EngineAndConversionsComplete := by
  unfold Obligations.EngineAndConversionsComplete
  intro h
  obtain ⟨_, _, _, _, _, _, _, _, _, _, hend, _⟩ := h
  obtain ⟨hawake, hover, hconv⟩ := pagesMeet_ends
  obtain ⟨t, ht, htime, _⟩ := hend pagesMeet 4 0 (1, true) hawake hover hconv
  have hzero := sequencePassEnd_overwrites
  rw [ht] at hzero
  exact absurd (htime.symm.trans (of_decide_eq_true hzero)) (by decide)

end Sys2Proof.Machine
end

section
/-! SUPPORT. Link lane groups: what a report, the result, the expiry and a request make of a group. -/

namespace Sys2Proof.Machine

/-! ### The words of a report and of a request -/

theorem reportWord_fields (g : BitVec 4) (c : BitVec 2) : Word.field (BitVec.ofNat 32 (g.toNat + 16 * c.toNat + 0x100)) 3 0 = g.toNat ∧
    Word.field (BitVec.ofNat 32 (g.toNat + 16 * c.toNat + 0x100)) 5 4 = c.toNat ∧
    Word.bit (BitVec.ofNat 32 (g.toNat + 16 * c.toNat + 0x100)) 8 = true ∧ Word.bit (BitVec.ofNat 32 (g.toNat + 16 * c.toNat + 0x100)) 9 = false := by
  revert g c
  decide

theorem onWord_fields (g : BitVec 4) : Word.field (BitVec.ofNat 32 (g.toNat + 0x200)) 3 0 = g.toNat ∧
    Word.bit (BitVec.ofNat 32 (g.toNat + 0x200)) 9 = true ∧ Word.bit (BitVec.ofNat 32 (g.toNat + 0x200)) 8 = false := by
  revert g
  decide

theorem offWord_fields (g : BitVec 4) : Word.field (BitVec.ofNat 32 (g.toNat + 0x100)) 3 0 = g.toNat ∧
    Word.bit (BitVec.ofNat 32 (g.toNat + 0x100)) 9 = false ∧ Word.bit (BitVec.ofNat 32 (g.toNat + 0x100)) 8 = true := by
  revert g
  decide

/-! ### One group -/

/-- A lane group's place takes its state, and a change that waited is cancelled. -/
theorem setGroup_lnk {g : Nat} {s : State} (h : (unitCluster s.params lanesK g).isSome = true) (st : Nat) :
    (setGroup g st s).lnk = { s.lnk with group := Store.set s.lnk.group 0 g st, offAt := s.lnk.offAt.del g } := by
  obtain ⟨c, hc⟩ := Option.isSome_iff_exists.mp h
  have hreq : ∀ n u, (requestUnit n g u).lnk = u.lnk := fun n u => (requestUnit_only n g u).keeps .lnk rfl
  have hret : ∀ n u, (retainUnit n g u).lnk = u.lnk := fun n u => (retainUnit_only n g u).keeps .lnk rfl
  have hrel : ∀ n u, (releaseUnit n g u).lnk = u.lnk := fun n u => (releaseUnit_only n g u).keeps .lnk rfl
  unfold setGroup
  rw [hc]
  dsimp only
  split
  · rw [hreq]
    rfl
  · split
    · rw [hret]
      rfl
    · rw [hrel]
      rfl

theorem setGroup_unplaced {g : Nat} {s : State} (h : (unitCluster s.params lanesK g).isSome = false) (st : Nat) : setGroup g st s = s := by
  unfold setGroup
  rw [Option.isSome_eq_false_iff.mp h |> Option.isNone_iff_eq_none.mp]

theorem group_setGroup {g : Nat} {s : State} (h : (unitCluster s.params lanesK g).isSome = true) (st : Nat) :
    Store.get (setGroup g st s).lnk.group 0 g = st := by
  rw [setGroup_lnk h]
  exact Store.get_set_same _ _ _ _

/-- From `s` to `t` group `h` keeps its state and its place among the absent, and the reports stay. -/
def GroupStays (h : Nat) (s t : State) : Prop :=
  t.lnk.found = s.lnk.found ∧ Store.get t.lnk.group 0 h = Store.get s.lnk.group 0 h ∧ (h ∈ s.lnk.absent → h ∈ t.lnk.absent)

theorem GroupStays.refl (h : Nat) (s : State) : GroupStays h s s := ⟨rfl, rfl, id⟩

theorem GroupStays.trans {h : Nat} {s t u : State} (a : GroupStays h s t) (b : GroupStays h t u) : GroupStays h s u := by
  obtain ⟨hf, hg, ha⟩ := a
  obtain ⟨hf', hg', ha'⟩ := b
  exact ⟨hf'.trans hf, hg'.trans hg, fun hin => ha' (ha hin)⟩

theorem setGroup_stays {g h : Nat} (hne : h ≠ g) (st : Nat) (s : State) : GroupStays h s (setGroup g st s) := by
  cases hc : (unitCluster s.params lanesK g).isSome with
  | false =>
    rw [setGroup_unplaced hc]
    exact .refl h s
  | true =>
    unfold GroupStays
    rw [setGroup_lnk hc]
    exact ⟨rfl, Store.get_set_other _ _ _ _ _ _ hne, id⟩

theorem absentGroup_lnk (g : Nat) (s : State) :
    (absentGroup g s).lnk = { (setGroup g 0 s).lnk with absent := insertNat g (setGroup g 0 s).lnk.absent } := by
  unfold absentGroup
  exact (raiseOn_only _ _ _ _ _).keeps .lnk rfl

theorem absentGroup_stays {g h : Nat} (hne : h ≠ g) (s : State) : GroupStays h s (absentGroup g s) := by
  obtain ⟨hf, hg, ha⟩ := setGroup_stays hne 0 s
  unfold GroupStays
  rw [absentGroup_lnk]
  exact ⟨hf, hg, fun hin => mem_insertNat.mpr (.inr (ha hin))⟩

theorem absentGroup_absent {g : Nat} {s : State} (h : (unitCluster s.params lanesK g).isSome = true) :
    Store.get (absentGroup g s).lnk.group 0 g = 0 ∧ g ∈ (absentGroup g s).lnk.absent := by
  rw [absentGroup_lnk]
  exact ⟨group_setGroup h 0, mem_insertNat.mpr (.inl rfl)⟩

theorem absentGroup_keepsRaised (g : Nat) (s : State) : KeepsRaised s (absentGroup g s) :=
  ((((setGroup_only g 0 s).mono rfl).via (modLnk_only _ _) rfl : Only [.live, .secs, .trail, .lnk] s _).keepsRaised rfl).trans
    (raiseOn_keepsRaised _ _ _ _ _)

theorem absentGroup_among (g : Nat) (s : State) : RaisedAmong Src.LNK_ABSENT g s (absentGroup g s) :=
  ((raiseOn_raised _ _ _ _ _).after (((setGroup_only g 0 s).mono rfl).via (modLnk_only _ _) rfl : Only [.live, .secs, .trail, .lnk] s _)
    rfl rfl).among

theorem unplannedGroup_stays {g h : Nat} (hne : h ≠ g) (s : State) : GroupStays h s (unplannedGroup g s) := by
  have hend : (unplannedGroup g s).lnk.found = (setGroup g 1 s).lnk.found ∧ (unplannedGroup g s).lnk.group = (setGroup g 1 s).lnk.group ∧
      (unplannedGroup g s).lnk.absent = (setGroup g 1 s).lnk.absent := by
    unfold unplannedGroup
    dsimp only
    rw [(raiseOn_only _ _ _ _ _).keeps .lnk rfl]
    exact ⟨rfl, rfl, rfl⟩
  obtain ⟨hfound, hgroup, habsent⟩ := hend
  obtain ⟨hf, hg, ha⟩ := setGroup_stays hne 1 s
  unfold GroupStays
  rw [hfound, hgroup, habsent]
  exact ⟨hf, hg, ha⟩

theorem reportedGroup_stays {g h : Nat} (hne : h ≠ g) (cls : Nat) (s : State) : GroupStays h s (reportedGroup g cls s) := by
  unfold reportedGroup
  split
  · exact setGroup_stays hne 0 s
  · split
    · exact setGroup_stays hne 2 s
    · exact unplannedGroup_stays hne s

theorem reportedGroup_planned {s : State} {g : Nat} (hcls : clsOn s (plannedCls s g) = true) (hplan : planned s g = true) :
    reportedGroup g (plannedCls s g) s = setGroup g 2 s := by
  unfold reportedGroup
  rw [if_neg (by rw [hcls]; exact Bool.false_ne_true), if_pos (by rw [hplan, beq_self_eq_true]; rfl)]

/-! ### The result -/

/-- A lane group's outcome at the result. -/
def judgeGroup (timeout : Bool) (g : Nat) (s : State) : State :=
  match s.lnk.found.find g with
  | some cls => reportedGroup g cls s
  | none => if stillAbsent s g then when timeout (absentGroup g) s else setGroup g 0 s

theorem linkExpiry_result {s : State} (h : s.lnk.disc = 1) : linkExpiry s = takeResult true s := if_pos h

theorem linkExpiry_late {s : State} (h : s.lnk.disc ≠ 1) : linkExpiry s = modLnk (fun l => { l with disc := 3 })
    (forEach (laneGroups s) (fun g s => when (stillAbsent s g) (absentGroup g) s) s) := if_neg h

theorem judgeGroup_only (timeout : Bool) (g : Nat) (s : State) : Only [.live, .secs, .trail, .flt, .lnk] s (judgeGroup timeout g s) := by
  unfold judgeGroup
  split
  · exact reportedGroup_only _ _ _
  · exact .ite ((Only.refl _ s).when _ _ fun u => absentGroup_only g u) ((setGroup_only _ _ _).mono rfl)

theorem judgeGroup_stays {g h : Nat} (hne : h ≠ g) (timeout : Bool) (s : State) : GroupStays h s (judgeGroup timeout g s) := by
  unfold judgeGroup
  split
  · exact reportedGroup_stays hne _ s
  · split
    · cases timeout with
      | false => exact .refl h s
      | true => exact absentGroup_stays hne s
    · exact setGroup_stays hne 0 s

theorem judgeGroup_found {s : State} {g : Nat} (h : s.lnk.found.find g = some (plannedCls s g)) (hcls : clsOn s (plannedCls s g) = true)
    (hplan : planned s g = true) (timeout : Bool) : judgeGroup timeout g s = setGroup g 2 s := by
  unfold judgeGroup
  rw [h]
  exact reportedGroup_planned hcls hplan

theorem judgeGroup_missing {s : State} {g : Nat} (h : s.lnk.found.find g = none) (habs : stillAbsent s g = false) (timeout : Bool) :
    judgeGroup timeout g s = setGroup g 0 s := by
  unfold judgeGroup
  rw [h]
  exact if_neg (by rw [habs]; exact Bool.false_ne_true)

theorem stillAbsent_found {s : State} {g : Nat} (h : stillAbsent s g = true) : s.lnk.found.find g = none := by
  unfold stillAbsent at h
  simp only [Bool.and_eq_true, Option.isNone_iff_eq_none] at h
  exact h.2

theorem judgeGroup_absent {s : State} {g : Nat} (h : stillAbsent s g = true) : judgeGroup true g s = absentGroup g s := by
  unfold judgeGroup
  rw [stillAbsent_found h]
  exact if_pos h

/-- What a result so far leaves for a group to be judged by: the configuration, its reports and the build. -/
def Judgeable (s u : State) : Prop := Only [.live, .secs, .trail, .flt, .lnk] s u ∧ u.lnk.found = s.lnk.found

theorem Judgeable.refl (s : State) : Judgeable s s := ⟨.refl _ s, rfl⟩

theorem Judgeable.same {s u : State} (h : Judgeable s u) (g : Nat) : u.lnk.found.find g = s.lnk.found.find g ∧ plannedCls u g = plannedCls s g ∧
    (∀ c, clsOn u c = clsOn s c) ∧ planned u g = planned s g ∧ stillAbsent u g = stillAbsent s g ∧ u.params = s.params ∧ now u = now s := by
  obtain ⟨ho, hf⟩ := h
  have hp : plannedCls u g = plannedCls s g := ho.cfgF_eq rfl rfl _ _ _
  have hc : ∀ c, clsOn u c = clsOn s c := fun c => ho.cfgB_eq rfl rfl _ _
  have hpl : planned u g = planned s g := ho.cfgB_eq rfl rfl _ _
  refine ⟨by rw [hf], hp, hc, hpl, ?_, ho.keeps .params rfl, ho.now_eq rfl⟩
  unfold stillAbsent
  rw [hpl, hp, hc, hf]

/-- Every group of the result is judged once. -/
theorem result_once {op : Nat → State → State} {s : State} {g : Nat} {Q : State → Prop} (hin : g ∈ laneGroups s)
    (honly : ∀ e u, Only [.live, .secs, .trail, .flt, .lnk] u (op e u)) (hfound : ∀ e u, e ≠ g → (op e u).lnk.found = u.lnk.found)
    (hat : ∀ u, Judgeable s u → Q (op g u)) (hafter : ∀ e u, e ≠ g → Q u → Q (op e u)) : Q (forEach (laneGroups s) op s) :=
  forEach_once (P := Judgeable s) (fun e u he hu => by
    obtain ⟨ho, hf⟩ := hu
    exact ⟨ho.trans (honly e u), (hfound e u he).trans hf⟩) hat hafter (List.nodup_range.filter _) hin (Judgeable.refl s)

theorem laneGroups_placed {s u : State} {g : Nat} (hin : g ∈ laneGroups s) (h : u.params = s.params) :
    (unitCluster u.params lanesK g).isSome = true := by
  rw [h]
  exact (List.mem_filter.mp hin).2

end Sys2Proof.Machine
end

section
/-! SUPPORT. What a discard, a trip and a START leave of the start-up sequence; the sequence's own commands. -/

namespace Sys2Proof.Machine

/-! ### The sequence through a discard, a trip and a START -/

/-- From `s` to `t` the sequence keeps what no discard and no stop changes, and its state outside CHECK and the shut-down. -/
structure BootGoes (s t : State) : Prop where
  lockAt : t.boot.lockAt = s.boot.lockAt
  forced : t.boot.forced = s.boot.forced
  slots : t.boot.slots = s.boot.slots
  shutOff : s.boot.shutOn = false → t.boot.shutOn = false
  state : s.boot.state ≠ .check → s.boot.state ≠ .stopping → t.boot.state = s.boot.state

theorem BootGoes.refl (s : State) : BootGoes s s := ⟨rfl, rfl, rfl, id, fun _ _ => rfl⟩

theorem BootGoes.trans {s t u : State} (h : BootGoes s t) (k : BootGoes t u) : BootGoes s u :=
  ⟨k.lockAt.trans h.lockAt, k.forced.trans h.forced, k.slots.trans h.slots, fun hs => k.shutOff (h.shutOff hs), fun hc hs =>
    have hst := h.state hc hs
    (k.state (by rw [hst]; exact hc) (by rw [hst]; exact hs)).trans hst⟩

theorem Only.bootGoes {l : List Part} {s t : State} (h : Only l s t) (hb : l.contains .boot = false) : BootGoes s t := by
  have hboot : t.boot = s.boot := h.keeps .boot hb
  refine ⟨?_, ?_, ?_, ?_, ?_⟩ <;> rw [hboot]
  · exact id
  · exact fun _ _ => rfl

theorem BootGoes.when {f : State → State} (h : ∀ s, BootGoes s (f s)) (b : Bool) (s : State) : BootGoes s (when b f s) := by
  cases b with
  | false => exact .refl s
  | true => exact h s

theorem BootGoes.forEach {f : Nat → State → State} (h : ∀ n s, BootGoes s (f n s)) (l : List Nat) (s : State) :
    BootGoes s (forEach l f s) := by
  induction l generalizing s with
  | nil => exact .refl s
  | cons n l ih =>
    rw [forEach_cons]
    exact (h n s).trans (ih _)

theorem stopCheck_bootGoes (s : State) : BootGoes s (stopCheck s) := by
  unfold stopCheck
  cases hgo : s.boot.state == .stopping && (upto 4).all (fun d => (stage s d).state == .off || (stage s d).state == .tripped) &&
      s.cal.queue.isEmpty && s.cal.redo.isNone && s.cal.prog.isNone && s.cal.erase.isNone with
  | false => exact .refl s
  | true =>
    have hst : s.boot.state = .stopping := by
      simp only [Bool.and_eq_true, beq_iff_eq] at hgo
      exact hgo.1.1.1.1.1
    exact ⟨rfl, rfl, rfl, fun _ => rfl, fun _ hs => absurd hst hs⟩

theorem dropStart_bootGoes (s : State) : BootGoes s (dropStart s) := by
  unfold dropStart
  cases hgo : s.boot.state == .check with
  | false => exact .refl s
  | true => exact ⟨rfl, rfl, rfl, id, fun hc _ => absurd (beq_iff_eq.mp hgo) hc⟩

theorem calDiscard_bootGoes (s : State) : BootGoes s (calDiscard s) := by
  unfold calDiscard
  dsimp only
  refine BootGoes.trans (Only.bootGoes (l := [.sparing, .cal]) ?_ rfl) (stopCheck_bootGoes _)
  exact (((modCal_only _ s).mono rfl).via (oweWear_only _ _) rfl).when _ _ fun u => (stcmdStat_only _ u).mono rfl

theorem discard_bootGoes (s : State) : BootGoes s (discard s) := by
  have hmark : BootGoes s (dropStart (bump (fltO Reg.FLT_DISCARDS) (s.setFlt { s.flt with discAt := some (now s) }))) :=
    (((State.setFlt_only s _).bootGoes rfl).trans ((bump_only _ _).bootGoes rfl)).trans (dropStart_bootGoes _)
  have hquad : ∀ q u, BootGoes u (flushWindow true q (dropUrgent q (ringDiscard q u))) := fun q u =>
    (((ringDiscard_only q u).bootGoes rfl).trans ((dropUrgent_only q _).bootGoes rfl)).trans ((flushWindow_only true q _).bootGoes rfl)
  have htail : ∀ l u, BootGoes u (calDiscard (blanketDiscard (discardMig (discardInstall l u)))) := fun l u =>
    ((((discardInstall_only l u).bootGoes rfl).trans ((discardMig_only _).bootGoes rfl)).trans ((blanketDiscard_only _).bootGoes rfl)).trans
      (calDiscard_bootGoes _)
  unfold discard
  split
  · exact .refl s
  · exact ((hmark.trans (((discardWrites_only _).bootGoes rfl).trans ((modTally_only _ _).bootGoes rfl))).trans
      (BootGoes.forEach hquad _ _)).trans (htail _ _)

theorem tripDomain_bootGoes (d : Nat) (s : State) : BootGoes s (tripDomain d s) := by
  by_cases h : (stage s d).state = .tripped
  · rw [tripDomain_tripped h]
    exact .refl s
  · rw [tripDomain_eq h]
    have htail : ∀ ran u, BootGoes u (tripTail d ran u) := fun ran u =>
      ((BootGoes.when (fun v => (leaveRun_only d v).bootGoes rfl) _ u).trans
        (BootGoes.when (fun v => BootGoes.forEach (fun q w => (flushWindow_only true q w).bootGoes rfl) _ v) _ _)).trans (stopCheck_bootGoes _)
    exact (((compEnded_only d s).bootGoes rfl).trans (BootGoes.forEach (fun sc u => (sectorDiscard_only sc u).bootGoes rfl) _ _)).trans (htail _ _)

theorem protTrip_bootGoes (src bit d : Nat) (s : State) : BootGoes s (protTrip src bit d s) :=
  (((raiseOn_only _ _ _ _ s).bootGoes rfl).trans (tripDomain_bootGoes d _)).trans (discard_bootGoes _)

theorem startDomain_bootGoes (d : Nat) (s : State) : BootGoes s (startDomain d s) := by
  unfold startDomain
  split
  · exact .refl s
  · exact ((((modStage_only _ _ s).bootGoes rfl).trans (BootGoes.forEach (fun _ u => (modCh_only _ _ u).bootGoes rfl) _ _)).trans
      (BootGoes.when (fun u => (raiseOn_only _ _ _ _ u).bootGoes rfl) _ _)).trans (BootGoes.when (fun u => protTrip_bootGoes _ _ _ u) _ _)

theorem startSlot_bootGoes (x : Nat) (s : State) : BootGoes s (startSlot x s) := by
  have hbegin : BootGoes s (beginRecovery x s) := ((modRecov_only _ _ s).bootGoes rfl).trans (startDomain_bootGoes _ _)
  unfold startSlot
  split
  · exact .refl s
  · split
    · exact startDomain_bootGoes x s
    · split
      · exact .refl s
      · exact hbegin
    · exact .refl s

/-! ### Slots (R540) -/

/-- A slot's START, and the tick of the next slot. -/
def slotTaken (x : Nat) (rest : List Nat) (s : State) : State :=
  startSlot x (modBoot (fun b => { b with
    slots := rest, slotAt := b.slotAt + usTicks (10 * cfgF s (genO Reg.GEN_STARTSEQ) 23 16) }) s)

theorem runSlots_cons {s : State} {x : Nat} {rest : List Nat} (h : s.boot.slots = x :: rest) (n : Nat) :
    runSlots (n + 1) s = if s.boot.slotAt ≤ now s then runSlots n (slotTaken x rest s) else s := by
  rw [runSlots, h]
  rfl

theorem runSlots_nil {s : State} (h : s.boot.slots = []) (n : Nat) : runSlots n s = s := by
  cases n with
  | zero => rfl
  | succ n => rw [runSlots, h]

theorem slotTaken_power {s : State} (h : s.boot.state = .power) (x : Nat) (rest : List Nat) :
    (slotTaken x rest s).boot.state = .power ∧ (slotTaken x rest s).boot.slots = rest := by
  have hgoes := startSlot_bootGoes x (modBoot (fun b => { b with
    slots := rest, slotAt := b.slotAt + usTicks (10 * cfgF s (genO Reg.GEN_STARTSEQ) 23 16) }) s)
  have hst : (modBoot (fun b => { b with
    slots := rest, slotAt := b.slotAt + usTicks (10 * cfgF s (genO Reg.GEN_STARTSEQ) 23 16) }) s).boot.state = .power := h
  exact ⟨(hgoes.state (by rw [hst]; decide) (by rw [hst]; decide)).trans hst, hgoes.slots⟩

theorem runSlots_power (n : Nat) {s : State} (h : s.boot.state = .power) :
    (runSlots n s).boot.state = .power ∧ ∃ l, s.boot.slots = l ++ (runSlots n s).boot.slots := by
  induction n generalizing s with
  | zero => exact ⟨h, [], rfl⟩
  | succ n ih =>
    cases hs : s.boot.slots with
    | nil =>
      rw [runSlots_nil hs]
      exact ⟨h, [], hs.symm⟩
    | cons x rest =>
      rw [runSlots_cons hs]
      split
      · obtain ⟨hst, hsl⟩ := slotTaken_power h x rest
        obtain ⟨hp, l, hl⟩ := ih hst
        rw [hsl] at hl
        exact ⟨hp, x :: l, congrArg (x :: ·) hl⟩
      · exact ⟨h, [], hs.symm⟩

theorem bootUp_state {s : State} (h : s.boot.state = .power) : (bootUp s).boot.state = .power ∨ (bootUp s).boot.state = .up := by
  unfold bootUp
  cases s.boot.state == .power && allRun s with
  | false => exact .inl h
  | true => exact .inr rfl

theorem enterPower_state (s : State) : (enterPower s).boot.state = .power ∨ (enterPower s).boot.state = .up :=
  bootUp_state (runSlots_power 4 rfl).1

/-! ### The commands of `GEN_BOOTCMD` -/

theorem bootCommand_safe (s : State) : bootCommand 1 s =
    if s.boot.state = .await && s.regs.frozen.isNone then safeProfile s else refuse 0x00 s := rfl

theorem bootCommand_shutdown (s : State) : bootCommand 2 s =
    if s.boot.state = .await || s.boot.state = .sense || s.boot.state = .power || s.boot.state = .up then shutDown s else refuse 0x00 s := rfl

theorem bootCommand_restart (s : State) : bootCommand 3 s = if s.boot.state = .stopped then enterPower s else refuse 0x00 s := rfl

theorem warmWord_fields (key : Byte) : Word.field (BitVec.ofNat 32 (4 + 256 * key.toNat)) 2 0 = 4 ∧
    Word.field (BitVec.ofNat 32 (4 + 256 * key.toNat)) 15 8 = key.toNat := by
  revert key
  decide

theorem bootCommand_warm (key : Byte) (s : State) : bootCommand (BitVec.ofNat 32 (4 + 256 * key.toNat)) s =
    if key.toNat = 0x5A then warmReset s else refuse 0x00 s := by
  obtain ⟨hcmd, hkey⟩ := warmWord_fields key
  unfold bootCommand
  dsimp only
  rw [hcmd, hkey] <;> rfl

theorem safeProfile_boot (s : State) : (safeProfile s).boot.state = .sense ∧ (safeProfile s).boot.safe = true := ⟨rfl, rfl⟩

/-! ### The shut-down command (R545) -/

/-- The shut-down begins. -/
def stopping (s : State) : State := modBoot (fun b => { b with state := .stopping, slots := [], shutAt := now s, shutOn := true }) s

/-- What a shut-down withdraws. -/
def withdrawnAll (s : State) : State :=
  let s2 := abandonMig (abandonCover .wait s)
  let s3 := forEach (upto (quads s2)) (fun q => flushWindow false q) s2
  forEach (upto (sectors s3)) (fun sc s =>
    let x := sec s sc
    when (!x.reqs.isEmpty || !x.granted.isEmpty || !x.retained.isEmpty) (beginSwitchOff sc) s) s3

theorem shutDown_eq (s : State) : shutDown s =
    stopCheck (queueWear (modLnk (fun l => { l with disc := 0, group := [], offAt := [] }) (withdrawnAll (stopping s)))) := rfl

theorem withdrawnAll_only (s : State) : Only [.live, .ports, .secs, .trail, .flt, .rings, .blk, .plan, .seat] s (withdrawnAll s) :=
  (((((abandonCover_only _ s).mono rfl : Only [.live, .ports, .secs, .trail, .flt, .rings, .blk, .plan, .seat] s _).via
    (abandonMig_only _) rfl).forEach _ _ fun q u => (flushWindow_only false q u).mono rfl).forEach _ _ fun sc u =>
      (Only.refl _ u).when _ _ fun v => (beginSwitchOff_only sc v).mono rfl)

theorem shutDown_effect (s : State) : ((shutDown s).boot.state = .stopping ∨ (shutDown s).boot.state = .stopped) ∧
    (shutDown s).boot.slots = [] ∧ (shutDown s).boot.shutAt = now s ∧ (shutDown s).lnk.group = [] ∧ (shutDown s).lnk.disc = 0 := by
  have hwear := queueWear_only (modLnk (fun l => { l with disc := 0, group := [], offAt := [] }) (withdrawnAll (stopping s)))
  have hboot : (queueWear (modLnk (fun l => { l with disc := 0, group := [], offAt := [] }) (withdrawnAll (stopping s)))).boot =
      (stopping s).boot := by
    rw [hwear.keeps .boot rfl]
    exact (withdrawnAll_only (stopping s)).keeps .boot rfl
  have hlnk : (shutDown s).lnk = { (withdrawnAll (stopping s)).lnk with disc := 0, group := [], offAt := [] } := by
    rw [shutDown_eq, (stopCheck_only _).keeps .lnk rfl, hwear.keeps .lnk rfl]
    rfl
  have hgoes := stopCheck_bootGoes (queueWear (modLnk (fun l => { l with disc := 0, group := [], offAt := [] }) (withdrawnAll (stopping s))))
  rw [hlnk, shutDown_eq]
  refine ⟨?_, hgoes.slots.trans (by rw [hboot]; rfl), ?_, rfl, rfl⟩
  · unfold stopCheck when
    split
    · exact .inr rfl
    · exact .inl (by rw [hboot]; rfl)
  · unfold stopCheck when
    split
    · exact (congrArg Boot.shutAt hboot).trans rfl
    · exact (congrArg Boot.shutAt hboot).trans rfl

/-! ### The limit of a shut-down (R547) -/

/-- At the limit what is left is tripped. -/
def leftTripped (s : State) : State :=
  forEach (upto 4) (fun d s => when ((stage s d).state != .off) (tripDomain d) s) (modBoot (fun b => { b with forced := true, shutOn := false }) s)

theorem leftTripped_stage {d : Nat} (hd : d < 4) (s : State) :
    (stage (leftTripped s) d).state = .off ∨ (stage (leftTripped s) d).state = .tripped := by
  refine forEach_once (op := fun d s => when ((stage s d).state != .off) (tripDomain d) s) (P := fun _ => True)
    (Q := fun u => (stage u d).state = .off ∨ (stage u d).state = .tripped) (fun _ _ _ _ => trivial) (fun u _ => ?_) (fun e u he hq => ?_)
    List.nodup_range (List.mem_range.mpr hd) trivial
  · cases hoff : (stage u d).state != .off with
    | false => exact .inl (show (stage u d).state = .off by simpa using hoff)
    | true => exact .inr (tripDomain_stages d u).1
  · cases (stage u e).state != .off with
    | false => exact hq
    | true =>
      show (stage (tripDomain e u) d).state = .off ∨ (stage (tripDomain e u) d).state = .tripped
      rw [(tripDomain_stages e u).2 d (Ne.symm he)]
      exact hq

theorem leftTripped_boot (s : State) : (stopCheck (leftTripped s)).boot.forced = true ∧ (stopCheck (leftTripped s)).boot.shutOn = false := by
  have hgoes : BootGoes (modBoot (fun b => { b with forced := true, shutOn := false }) s) (stopCheck (leftTripped s)) :=
    (BootGoes.forEach (fun d u => BootGoes.when (tripDomain_bootGoes d) _ u) _ _).trans (stopCheck_bootGoes _)
  exact ⟨hgoes.forced, hgoes.shutOff rfl⟩

end Sys2Proof.Machine
end

section
/-! SUPPORT. What a start loads, and the check of its set. -/

namespace Sys2Proof.Machine

/-! ### What a load leaves (R534) -/

/-- A host's frozen set and the records of the store. -/
def loadKept (s : State) : Option Frozen × StoreState × List Record := (s.regs.frozen, s.cal.state, s.cal.recs)

theorem Only.keepsLoad {l : List Part} {s t : State} (h : Only l s t) (hr : l.contains .regs = false) (hc : l.contains .cal = false) :
    Keeps loadKept s t := by
  have hregs : { t.regs with shadow := s.regs.shadow, active := s.regs.active, live := s.regs.live } = s.regs := h.keeps .regs hr
  have hfrozen : t.regs.frozen = s.regs.frozen := (congrArg Regs.frozen hregs :)
  have hcal : t.cal = s.cal := h.keeps .cal hc
  unfold Keeps loadKept
  rw [hfrozen, hcal]

theorem storeBoth_keepsLoad (off : Nat) (w : Word) (s : State) : Keeps loadKept s (storeBoth off w s) := by
  unfold storeBoth
  exact Keeps.trans (p := loadKept) (by rfl) (Keeps.when (fun u => (setField_only _ _ _ _ u).keepsLoad rfl rfl) _ _)

theorem writeShadow_keepsLoad (off : Nat) (w : Word) (s : State) : Keeps loadKept s (writeShadow off w s) := by
  unfold writeShadow
  exact Keeps.trans (p := loadKept) (by rfl) (Keeps.when (fun u => (setField_only _ _ _ _ u).keepsLoad rfl rfl) _ _)

theorem loadTrims_keepsLoad (q : Nat) (p : Payload) (s : State) : Keeps loadKept s (loadTrims q p s) := by
  unfold loadTrims
  split
  · exact Keeps.foldl (fun u e => .ite (storeBoth_keepsLoad _ _ u) (.refl u)) _ _
  · exact .refl s

theorem loadWearAll_keepsLoad (p : Payload) (s : State) : Keeps loadKept s (loadWearAll p s) := by
  unfold loadWearAll
  split
  · next pow chans _ _ _ =>
    have hclus : Keeps loadKept s (forEach (upto (4 * sectors s)) (fun g s => modClu g (fun c => { c with rotAt := c.rotAt + pow }) s) s) :=
      Keeps.forEach (fun g u => (modClu_only g _ u).keepsLoad rfl rfl) _ _
    have hcal : ∀ u, Keeps loadKept u (modCal (fun c => { c with powered := c.powered + pow, saved := c.powered + pow }) u) := fun u => rfl
    exact ((hclus.trans (hcal _)).trans (Keeps.foldl (fun u e => .ite ((modCh_only _ _ u).keepsLoad rfl rfl) (.refl u)) chans.zipIdx _)).trans
      ((State.setSparing_only _ _).keepsLoad rfl rfl)
  · exact .refl s

theorem loadOne_keepsLoad {f : Payload → State → State} (h : ∀ p s, Keeps loadKept s (f p s)) (typ key : Nat) (s : State) :
    Keeps loadKept s (loadOne f typ key s) := by
  unfold loadOne
  split
  · exact h _ _
  · exact .refl s

/-- What a cold start alone loads. -/
def coldLoads (s : State) : State :=
  let a := forEach (upto (quads s)) (fun q => loadOne (loadTrims q) 3 q) (loadOne loadRetire 5 0 s)
  let b := forEach (upto (quads s)) (fun q => loadOne (loadWear q) 4 q) (loadOne loadWearAll 4 4 a)
  loadOne loadPlan 6 0 b

/-- The plan stands ready once the default plan is loaded. -/
def planReady (s : State) : State := modPlan (fun p => { p with ready := true }) (if s.boot.cold then coldLoads s else s)

theorem loadRecords_eq (s : State) : loadRecords s = nextInstall (forEach (upto 9) (fun u => loadOne (loadModel u) 7 u) (planReady s)) := rfl

theorem modelLoads_only (s : State) : Only [.live, .tally, .mem] s (nextInstall (forEach (upto 9) (fun u => loadOne (loadModel u) 7 u) s)) :=
  ((Only.refl _ s).forEach _ _ fun u v => loadOne_only _ _ _ v rfl fun p w => (loadModel_only u p w).mono rfl).via (nextInstall_only _) rfl

theorem coldLoads_keepsLoad (s : State) : Keeps loadKept s (coldLoads s) := by
  have hretire : Keeps loadKept s (loadOne loadRetire 5 0 s) :=
    loadOne_keepsLoad (fun p u => (loadRetire_only p u).keepsLoad rfl rfl) _ _ _
  have htrims : ∀ u, Keeps loadKept u (forEach (upto (quads s)) (fun q => loadOne (loadTrims q) 3 q) u) := fun u =>
    Keeps.forEach (fun q v => loadOne_keepsLoad (loadTrims_keepsLoad q) _ _ v) _ u
  have hwearAll : ∀ u, Keeps loadKept u (loadOne loadWearAll 4 4 u) := fun u => loadOne_keepsLoad loadWearAll_keepsLoad _ _ u
  have hwear : ∀ n u, Keeps loadKept u (forEach (upto n) (fun q => loadOne (loadWear q) 4 q) u) := fun n u =>
    Keeps.forEach (fun q v => loadOne_keepsLoad (fun p w => (loadWear_only q p w).keepsLoad rfl rfl) _ _ v) _ u
  have hplan : ∀ u, Keeps loadKept u (loadOne loadPlan 6 0 u) := fun u =>
    loadOne_keepsLoad (fun p w => (loadPlan_only p w).keepsLoad rfl rfl) _ _ u
  exact (((hretire.trans (htrims _)).trans (hwearAll _)).trans (hwear _ _)).trans (hplan _)

theorem loadRecords_keepsLoad (s : State) : Keeps loadKept s (loadRecords s) := by
  rw [loadRecords_eq]
  exact (Keeps.trans (.ite (coldLoads_keepsLoad s) (.refl s)) ((modPlan_only _ _).keepsLoad rfl rfl)).trans
    ((modelLoads_only _).keepsLoad rfl rfl)

theorem loadRecords_ready (s : State) : (loadRecords s).plan.ready = true := by
  rw [loadRecords_eq, (modelLoads_only _).keeps .plan rfl]
  rfl

theorem Keeps.winner_eq {s t : State} (h : Keeps loadKept s t) (typ key : Nat) : winner t typ key = winner s typ key := by
  have hrecs : t.cal.recs = s.cal.recs := congrArg (fun v => v.2.2) h
  unfold winner
  rw [hrecs]

/-! ### The check of the start set (R535, R536) -/

/-- CHECK is entered. -/
def checking (s : State) : State := modBoot (fun b => { b with state := .check }) s

theorem checkStart_absent {s : State} (h : s.cal.state = .absent) : checkStart s = startRefused 1 0 0x0101 (checking s) := if_pos h

theorem checkStart_unset {s : State} (h : s.cal.state ≠ .absent) (hw : winner s 1 0 = none) :
    checkStart s = startRefused 2 0 0x0102 (checking s) := by
  have hnone : winner (checking s) 1 0 = none := hw
  unfold checkStart
  dsimp only
  rw [show modBoot (fun b => { b with state := .check }) s = checking s from rfl, if_neg (show (checking s).cal.state ≠ .absent from h), hnone]

theorem startRefused_effect (cause page det : Nat) (s : State) : (startRefused cause page det s).boot.state = .await ∧
    (startRefused cause page det s).boot.cause = cause ∧ RaisedAmong Src.CFG_START_BAD det s (startRefused cause page det s) := by
  unfold startRefused
  rw [(raiseOn_only _ _ _ _ _).keeps .boot rfl]
  exact ⟨rfl, rfl, ((raiseOn_raised _ _ _ _ _).after (modBoot_only _ s) (by rfl) (by rfl)).among⟩

/-- A start with a set is checked, to apply in the next tick, or is refused. -/
theorem checkStart_set {s : State} (h : s.cal.state ≠ .absent) (hw : (winner s 1 0).isSome = true) :
    ((checkStart s).boot.state = .check ∧ (∃ f, (checkStart s).regs.startSet = some f ∧ f.due = now s + 1) ∧
        (checkStart s).regs.frozen = s.regs.frozen) ∨
      ∃ cause page det u, 3 ≤ cause ∧ cause ≤ 5 ∧ Only [.shadow, .live, .regs, .flt, .boot] s u ∧
        checkStart s = startRefused cause page det u := by
  obtain ⟨config, hconfig⟩ := Option.isSome_iff_exists.mp hw
  have hwin : winner (checking s) 1 0 = some config := hconfig
  have h0 : Only [.shadow, .live, .regs, .flt, .boot] s (checking s) := (modBoot_only _ _).mono rfl
  unfold checkStart
  dsimp only
  rw [show modBoot (fun b => { b with state := .check }) s = checking s from rfl, if_neg (show (checking s).cal.state ≠ .absent from h), hwin]
  dsimp only
  generalize listOf (winner (checking s) 2 0) = p
  generalize listOf (some config) = p2
  obtain ⟨stg, stgOk⟩ := p
  obtain ⟨cfgL, cfgOk⟩ := p2
  dsimp only
  have hwrites : Only [.shadow, .live, .regs] (checking s) (modRegs (fun r => { r with sealWord := config.sealCrc })
      (((stg ++ cfgL).filter (fun e => isShadowWord (checking s).params e.1)).foldl
        (fun u e => writeShadow e.1 (storedBits u.params e.1 e.2) u) (checking s))) :=
    ((Only.refl _ _).foldl _ _ fun _ _ => writeShadow_only _ _ _).via
      (modRegs_only _ _ (by intro _; rfl) (by intro _; rfl) (by intro _; rfl)) rfl
  have hview : Keeps loadKept (checking s) (modRegs (fun r => { r with sealWord := config.sealCrc })
      (((stg ++ cfgL).filter (fun e => isShadowWord (checking s).params e.1)).foldl
        (fun u e => writeShadow e.1 (storedBits u.params e.1 e.2) u) (checking s))) :=
    (Keeps.foldl (fun _ _ => writeShadow_keepsLoad _ _ _) _ _).trans (by rfl)
  generalize modRegs (fun r => { r with sealWord := config.sealCrc })
      (((stg ++ cfgL).filter (fun e => isShadowWord (checking s).params e.1)).foldl
        (fun u e => writeShadow e.1 (storedBits u.params e.1 e.2) u) (checking s)) = s1 at hwrites hview ⊢
  have h1 : Only [.shadow, .live, .regs, .flt, .boot] s s1 := h0.via hwrites rfl
  split
  · refine .inr ⟨3, 0, 0x0103, _, Nat.le_refl _, by omega, ?_, rfl⟩
    exact h1.foldl _ _ fun _ _ => (reloadWord_only _ _).mono rfl
  · split
    · refine .inr ⟨5, _, _, _, by omega, Nat.le_refl _, ?_, rfl⟩
      exact h1.foldl _ _ fun _ _ => (reloadWord_only _ _).mono rfl
    · split
      · refine .inr ⟨4, _, _, _, by omega, by omega, ?_, rfl⟩
        exact (h1.via (parityRefused_only _ _) rfl).foldl _ _ fun _ _ => (reloadWord_only _ _).mono rfl
      · refine .inl ⟨?_, ⟨_, rfl, rfl⟩, congrArg Prod.fst hview⟩
        exact (congrArg Boot.state (hwrites.keeps .boot rfl)).trans rfl

theorem exec_bootLoadDone {s : State} (hawake : awake s = true) (hload : s.boot.state = .load)
    (hcal : s.cal.state = .absent ∨ s.cal.state = .ready) : exec .bootLoadDone s = .next (checkStart (loadRecords s)) :=
  act_runs hawake (by rcases hcal with h | h <;> rw [hload, h] <;> rfl)

theorem checkStart_plan (s : State) : (checkStart (loadRecords s)).plan.ready = true := by
  rw [(checkStart_only _).keeps .plan rfl]
  exact loadRecords_ready s

/-- A refusal is registered in the tick of the load. -/
theorem refused_among {s u : State} {l : List Part} (h : Only l s u) (ht : l.contains .time = false) (cause page det : Nat) :
    RaisedAmong Src.CFG_START_BAD det s (startRefused cause page det u) := by
  have hr := (startRefused_effect cause page det u).2.2
  unfold RaisedAmong at hr ⊢
  rwa [h.now_eq ht, h.tick_eq ht] at hr

end Sys2Proof.Machine
end

section
/-! SUPPORT. The warm reset (R531). -/

namespace Sys2Proof.Machine

/-! ### What it takes out of service -/

/-- The words and units at a warm reset, before the rings and the engines are emptied. -/
def warmStopped (s : State) : State :=
  jobsWarm (warmUnits (warmRegs (ringWithdraw 6 (forEach (upto 7) ownerReset (forEach (upto 4) tripDomain (discard s))))))

/-- The rings, engines, grants, quadrants and arbitrations emptied. -/
def warmEmptied (s2 : State) : State :=
  let keep := fun (q : Nat) =>
    let x := ring s2 q
    ({ ring0 q with counts := x.counts, opened := x.opened, broken := x.broken, current := x.current, voidWr := x.voidWr, iso := x.iso } : Ring)
  let s3 := ((((s2.setRings ((upto (quads s2)).foldl (fun m q => Store.set m (ring0 q) q (keep q)) [])).setEngs []).setInrush []).setQuads []).setXchks []
  s3.setRecov ((upto 4).foldl (fun m d => Store.set m recov0 d { recov0 with src := (recov s3 d).src, count := (recov s3 d).count }) [])

/-- No registration is left, and no chip-off. -/
def faultsCleared (s : State) : State := modFlt (fun f => { f with regq := [], chipOff := false, chipRef := false, chipFrom := 0 }) s

/-- A self-test ends without an outcome, the flags of the pages stay, and the converters' roles are owed. -/
def warmClosed (before s : State) : State :=
  let s6 := when s.sparing.selfTest.isSome (fun s =>
    setLive (calO Reg.CAL_CMDSTAT) 0 (modSparing (fun x => { x with selfTest := none }) s)) s
  keepFlt before ((s6.setAdcOwed (rolesOut s6)).setLate [])

theorem warmDrop_eq (s : State) : warmDrop s = warmClosed s (faultsCleared (warmEmptied (warmStopped s))) := by
  unfold warmDrop warmStopped
  dsimp only
  generalize jobsWarm (warmUnits (warmRegs (ringWithdraw 6 (forEach (upto 7) ownerReset (forEach (upto 4) tripDomain (discard s)))))) = u
  unfold faultsCleared warmEmptied
  dsimp only
  unfold warmClosed
  dsimp only

theorem faultsCleared_only (s : State) : Only [.flt] s (faultsCleared s) := modFlt_only _ _

theorem faultsCleared_flt (s : State) : (faultsCleared s).flt.regq = [] ∧ (faultsCleared s).flt.chipOff = false := ⟨rfl, rfl⟩

theorem warmEmptied_only (s : State) : Only [.rings, .eng, .inrush, .quads, .xchks, .recov] s (warmEmptied s) :=
  ((((((State.setRings_only s _).mono rfl : Only [.rings, .eng, .inrush, .quads, .xchks, .recov] s _).via (State.setEngs_only _ _) rfl).via
    (State.setInrush_only _ _) rfl).via (State.setQuads_only _ _) rfl).via (State.setXchks_only _ _) rfl).via (State.setRecov_only _ _) rfl

theorem warmClosed_only (before s : State) : Only [.live, .sparing, .adcOwed, .late] s (warmClosed before s) :=
  ((((Only.refl [.live, .sparing, .adcOwed, .late] s).when _ _ fun u => (((modSparing_only _ u).mono rfl).via (setLive_only _ _ _) rfl :
    Only [.live, .sparing, .adcOwed, .late] u _)).via (State.setAdcOwed_only _ _) rfl).via (State.setLate_only _ _) rfl).via (keepFlt_only _ _) rfl

theorem warmStopped_bootGoes (s : State) : BootGoes s (warmStopped s) :=
  ((((((discard_bootGoes s).trans (BootGoes.forEach tripDomain_bootGoes _ _)).trans
    (BootGoes.forEach (fun r u => (ownerReset_only r u).bootGoes rfl) _ _)).trans ((ringWithdraw_only _ _).bootGoes rfl)).trans
    ((warmRegs_only _).bootGoes rfl)).trans ((warmUnits_only _).bootGoes rfl)).trans ((jobsWarm_only _).bootGoes rfl)

theorem warmDrop_lockAt (s : State) : (warmDrop s).boot.lockAt = s.boot.lockAt := by
  rw [warmDrop_eq, (warmClosed_only _ _).keeps .boot rfl]
  rw [(faultsCleared_only _).keeps .boot rfl, (warmEmptied_only _).keeps .boot rfl]
  exact (warmStopped_bootGoes s).lockAt

theorem warmDrop_flt (s : State) : (warmDrop s).flt.regq = [] ∧ (warmDrop s).flt.chipOff = false := by
  rw [warmDrop_eq, (warmClosed_only _ _).keeps .flt rfl]
  exact faultsCleared_flt _

/-- The writes in hand: pending, frozen and the start set. -/
def setsView (s : State) : List Nat × Option Frozen × Option Frozen := (s.regs.pend, s.regs.frozen, s.regs.startSet)

theorem Only.keepsSets {l : List Part} {s t : State} (h : Only l s t) (hr : l.contains .regs = false) : Keeps setsView s t := by
  have hregs : { t.regs with shadow := s.regs.shadow, active := s.regs.active, live := s.regs.live } = s.regs := h.keeps .regs hr
  exact (congrArg (fun r : Regs => (r.pend, r.frozen, r.startSet)) hregs :)

theorem warmDrop_sets (s : State) : setsView (warmDrop s) = ([], none, none) := by
  have hwarm : ∀ u, setsView (warmRegs u) = ([], none, none) := fun _ => rfl
  have hregs : ∀ u, setsView (jobsWarm (warmUnits (warmRegs u))) = ([], none, none) := fun u =>
    Eq.trans (((warmUnits_only (warmRegs u)).keepsSets rfl).trans ((jobsWarm_only _).keepsSets rfl)) (hwarm u)
  rw [warmDrop_eq]
  unfold warmStopped
  exact Eq.trans ((((warmEmptied_only _).keepsSets rfl).trans ((faultsCleared_only _).keepsSets rfl)).trans
    ((warmClosed_only s _).keepsSets rfl)) (hregs _)

theorem jobSlot_jobsWarm {j : Nat} (hj : j < 16) (s : State) : jobSlot (jobsWarm s) j =
    if (jobSlot s j).state = .active then { jobSlot s j with state := .ended, part := true, ended := now s } else jobSlot s j := by
  refine (jobSlot_forEach_each (f := fun t _ x => if x.state = .active then { x with state := .ended, part := true, ended := t } else x)
    (fun j s => jobsWarm_only_now j s) (fun j s => ?_) (fun j s k hk => ?_) List.nodup_range s j).trans (if_pos (List.mem_range.mpr hj))
  · by_cases hact : (jobSlot s j).state = .active
    · simp only [hact, if_true, jobSlot_setJob_same]
    · simp only [hact, if_false]
  · dsimp only
    split
    · exact jobSlot_setJob_other hk _ _
    · rfl

theorem warmDrop_ending {s : State} {j : Nat} (hj : j < 16) (h : (jobSlot s j).state = .ending) : (jobSlot (warmDrop s) j).state = .ending := by
  have hpre : Only [.eng, .shadow, .active, .live, .regs, .ports, .dbg, .cells, .clus, .secs, .inrush, .trail, .flt, .rings, .sparing, .tally,
      .stages, .chans, .adcs, .quads, .blk, .plan, .seat, .lnk, .boot, .cal] s
      (warmUnits (warmRegs (ringWithdraw 6 (forEach (upto 7) ownerReset (forEach (upto 4) tripDomain (discard s)))))) :=
    ((((((discard_only s).mono rfl : Only [.eng, .shadow, .active, .live, .regs, .ports, .dbg, .cells, .clus, .secs, .inrush, .trail, .flt, .rings,
      .sparing, .tally, .stages, .chans, .adcs, .quads, .blk, .plan, .seat, .lnk, .boot, .cal] s _).forEach _ _ fun d u =>
        (tripDomain_only d u).mono rfl).forEach _ _ fun r u => (ownerReset_only r u).mono rfl).via (ringWithdraw_only _ _) rfl).via
      (warmRegs_only _) rfl).via (warmUnits_only _) rfl
  have hpost : Only [.rings, .eng, .inrush, .quads, .xchks, .recov, .flt, .live, .sparing, .adcOwed, .late] (warmStopped s) (warmDrop s) := by
    rw [warmDrop_eq]
    exact (((warmEmptied_only _).mono rfl : Only [.rings, .eng, .inrush, .quads, .xchks, .recov, .flt, .live, .sparing, .adcOwed, .late] _ _).via
      (faultsCleared_only _) rfl).via (warmClosed_only _ _) rfl
  rw [hpost.jobSlot_eq rfl]
  unfold warmStopped
  rw [jobSlot_jobsWarm hj, hpre.jobSlot_eq rfl, if_neg (by rw [h]; decide)]
  exact h

/-! ### The domains of a warm reset -/

theorem stage_forEach_setStage {d n : Nat} (hd : d < n) {f : Nat → State → Stage} (hf : ∀ e u, (f e u).state = .tripped) (s : State) :
    (stage (forEach (upto n) (fun d s => setStage d (f d s) s) s) d).state = .tripped := by
  refine forEach_once (op := fun d s => setStage d (f d s) s) (P := fun _ => True) (Q := fun u => (stage u d).state = .tripped)
    (fun _ _ _ _ => trivial) (fun u _ => ?_) (fun e u he hq => ?_) List.nodup_range (List.mem_range.mpr hd) trivial
  · rw [stage_setStage_same]
    exact hf d u
  · rw [stage_setStage_other (Ne.symm he)]
    exact hq

theorem warmUnits_stage {d : Nat} (hd : d < 4) (s : State) : (stage (warmUnits s) d).state = .tripped := by
  have hpost : ∀ u : State, Only [.chans, .adcs] u (forEach (upto 12) (fun n s => if adcOut s n then toFailed n (adc s n).cause s
      else setAdc n { adc0 (quads s) n with calAt := now s } s)
      (forEach (u.chans.map (·.1)) (fun n s => modCh n (fun c => { stgCh0 with failed := c.failed, stress := c.stress, time := c.time }) s) u)) := fun u =>
    (((Only.refl _ u).forEach _ _ fun n v => (modCh_only n _ v).mono rfl).forEach _ _ fun n v =>
      .ite ((toFailed_only n _ v).mono rfl) ((setAdc_only n _ v).mono rfl))
  unfold warmUnits
  dsimp only
  rw [(hpost _).stage_eq rfl]
  exact stage_forEach_setStage hd (fun _ _ => by rfl) _

theorem warmDrop_stage {d : Nat} (hd : d < 4) (s : State) : (stage (warmDrop s) d).state = .tripped := by
  have hpost : ∀ u, Only [.rings, .eng, .inrush, .quads, .xchks, .recov, .flt, .live, .sparing, .adcOwed, .late, .jobs] u
      (warmClosed s (faultsCleared (warmEmptied (jobsWarm u)))) := fun u =>
    ((((jobsWarm_only u).mono rfl : Only [.rings, .eng, .inrush, .quads, .xchks, .recov, .flt, .live, .sparing, .adcOwed, .late, .jobs] u _).via
      (warmEmptied_only _) rfl).via (faultsCleared_only _) rfl).via (warmClosed_only _ _) rfl
  rw [warmDrop_eq]
  unfold warmStopped
  rw [(hpost _).stage_eq rfl]
  exact warmUnits_stage hd _

/-! ### What it starts again -/

/-- The mechanisms begin anew, before the bridge. -/
def warmFresh (s7 : State) : State :=
  let s8 := s7.setTherm { therm0 with dFail := s7.therm.dFail, tFail := s7.therm.tFail, cyc := s7.therm.cyc, peaked := s7.therm.peaked }
  let s9 := (s8.setCap { capLoop0 with acc := s8.cap.acc, grp := s8.cap.grp, subst := s8.cap.subst }).setBlk { blanket0 with acc := s8.blk.acc }
  let s10 := (modPlan (fun p => { p with kept := false, prevT := [], prevB := [], reverted := false }) (endGrace s9)).setSeat
    { seat0 with mig := { mig0 with seq := s9.seat.mig.seq }, recNow := s9.seat.recNow, recs := s9.seat.recs, tag := s9.seat.tag,
                 scrubN := s9.seat.scrubN, scrubOk := s9.seat.scrubOk, wearAt := s9.seat.wearAt, pend := s9.seat.pend, answers := s9.seat.answers }
  let s11 := forEach (upto 4) (fun d => setField (talO (Reg.TAL_VERD d)) 3 0 0)
    (setLive (talO Reg.TAL_SETSTAT) 0 (setLive (thmO Reg.THM_STVFACT) (resetAt s10.params (thmO Reg.THM_STVFACT)) (s10.setLnk links0)))
  forEach (upto 9) (fun u => setLive (talO (Reg.TAL_SETID u)) 0) s11

/-- The sequence begins again in LOAD, and nothing more comes in this tick. -/
def warmLoading (s12 s : State) : State :=
  let s13 := s.setPorts { s12.ports with sel := (cfg s12 (hostO Reg.HOST_SECCFG)).bit 0, out := [] }
  bump (genO Reg.GEN_WRESETS) (s13.setBoot { boot0 with cold := false, lockAt := s13.boot.lockAt, resetAt := some (now s13) })

theorem warmBegin_eq (s : State) : warmBegin s = enterLoad (forEach (upto (sectors (warmLoading (warmFresh s) (startBridge (warmFresh s)))))
    placeEngine (warmLoading (warmFresh s) (startBridge (warmFresh s)))) := rfl

theorem warmFresh_only (s : State) : Only [.therm, .cap, .blk, .plan, .seat, .lnk, .live] s (warmFresh s) :=
  (((((((((((State.setTherm_only s _).mono rfl : Only [.therm, .cap, .blk, .plan, .seat, .lnk, .live] s _).via (State.setCap_only _ _) rfl).via
    (State.setBlk_only _ _) rfl).via (endGrace_only _) rfl).via (modPlan_only _ _) rfl).via (State.setSeat_only _ _) rfl).via
    (State.setLnk_only _ _) rfl).via (setLive_only _ _ _) rfl).via (setLive_only _ _ _) rfl).forEach _ _ fun _ u =>
      (setField_only _ _ _ _ u).mono rfl).forEach _ _ fun _ u => (setLive_only _ _ u).mono rfl

/-- A bridge that starts registers nothing but holdover, where the forwarded reference was in use. -/
theorem startBridge_flt (s : State) : (startBridge s).flt.chipOff = s.flt.chipOff ∧
    ((startBridge s).flt.regq = s.flt.regq ∨ (s.tb.sel = 2 ∧ ∃ x, x.src = Src.TB_HOLDOVER ∧ (startBridge s).flt.regq = s.flt.regq ++ [x])) := by
  have hquiet : ∀ {t : State}, t.flt = s.flt → t.flt.chipOff = s.flt.chipOff ∧
      (t.flt.regq = s.flt.regq ∨ (s.tb.sel = 2 ∧ ∃ x, x.src = Src.TB_HOLDOVER ∧ t.flt.regq = s.flt.regq ++ [x])) := fun h => by
    rw [h]
    exact ⟨rfl, .inl rfl⟩
  have hrun : ∀ b u, (when b (fun s => calRestart (s.setTb { s.tb with running := true })) u).flt = u.flt := fun b u => by
    cases b with
    | false => rfl
    | true => exact (calRestart_only (u.setTb { u.tb with running := true })).keeps .flt rfl
  have hswitch : ∀ b u, (when b (switchRef .bridge) u).flt = u.flt := fun b u => by
    cases b with
    | false => rfl
    | true => exact (switchRef_only .bridge u).keeps .flt rfl
  unfold startBridge
  dsimp only
  split
  · exact hquiet ((hswitch _ _).trans rfl)
  · unfold ownRef
    split
    · next hsel =>
      split
      · refine hquiet ((hrun _ _).trans ?_)
        exact (switchRef_only _ _).keeps .flt rfl
      · rw [hrun]
        exact ⟨rfl, .inr ⟨hsel, _, rfl, rfl⟩⟩
    · exact hquiet (hrun _ _)

theorem warmTail_only (s12 s : State) : Only [.ports, .live, .boot, .secs, .sparing, .cal] s
    (enterLoad (forEach (upto (sectors (warmLoading s12 s))) placeEngine (warmLoading s12 s))) :=
  ((((((State.setPorts_only s _).mono rfl : Only [.ports, .live, .boot, .secs, .sparing, .cal] s _).via (State.setBoot_only _ _) rfl).via
    (bump_only _ _) rfl).forEach _ _ fun sc u => (placeEngine_only sc u).mono rfl).via (enterLoad_only _) rfl)

theorem enterLoad_boot (s : State) : (enterLoad s).boot = { s.boot with state := .load } := (discover_only _).keeps .boot rfl

theorem warmBegin_boot (s : State) : (warmBegin s).boot = { boot0 with
    state := .load, cold := false, lockAt := s.boot.lockAt, resetAt := some (now s) } := by
  have hfresh := warmFresh_only s
  have hbridge := startBridge_only (warmFresh s)
  have hplaced : (forEach (upto (sectors (warmLoading (warmFresh s) (startBridge (warmFresh s))))) placeEngine
      (warmLoading (warmFresh s) (startBridge (warmFresh s)))).boot = (warmLoading (warmFresh s) (startBridge (warmFresh s))).boot :=
    ((Only.refl [.secs] _).forEach _ _ fun sc u => placeEngine_only sc u).keeps .boot rfl
  rw [warmBegin_eq, enterLoad_boot, hplaced]
  show ({ boot0 with state := .load, cold := false, lockAt := (startBridge (warmFresh s)).boot.lockAt,
                     resetAt := some (now (startBridge (warmFresh s))) } : Boot) = _
  rw [hbridge.keeps .boot rfl, hfresh.keeps .boot rfl, hbridge.now_eq rfl, hfresh.now_eq rfl]

theorem warmBegin_flt (s : State) : (warmBegin s).flt.chipOff = s.flt.chipOff ∧
    ((warmBegin s).flt.regq = s.flt.regq ∨ (s.tb.sel = 2 ∧ ∃ x, x.src = Src.TB_HOLDOVER ∧ (warmBegin s).flt.regq = s.flt.regq ++ [x])) := by
  have hfresh := warmFresh_only s
  have htb : { (warmFresh s).tb with tick := s.tb.tick, elapsed := s.tb.elapsed, heldFab := s.tb.heldFab, heldI3c := s.tb.heldI3c } = s.tb :=
    hfresh.keeps .tb rfl
  have hsel : (warmFresh s).tb.sel = s.tb.sel := (congrArg TimeBase.sel htb :)
  have h := startBridge_flt (warmFresh s)
  rw [hfresh.keeps .flt rfl, hsel] at h
  rw [warmBegin_eq, (warmTail_only _ _).keeps .flt rfl]
  exact h

end Sys2Proof.Machine
end

section
/-! SUPPORT. Start-up, shut-down, warm reset and link lane groups, as stated. -/

namespace Sys2Proof.Machine

/-! ### The warm reset whole -/

theorem warmReset_boot (s : State) : (warmReset s).boot = { boot0 with
    state := .load, cold := false, lockAt := s.boot.lockAt, resetAt := some (now s) } := by
  have hinst := clearInstalled_only (warmDrop s)
  unfold warmReset
  rw [warmBegin_boot, hinst.keeps .boot rfl, warmDrop_lockAt, hinst.now_eq rfl, (warmDrop_only s).now_eq rfl]

theorem warmReset_asleep (s : State) : awake (warmReset s) = false := by
  have hnow : now (warmReset s) = now s := (warmReset_only s).now_eq rfl
  unfold awake
  rw [warmReset_boot, show (warmReset s).tb.elapsed = now s from hnow]
  simp

theorem keepsSel {l : List Part} {s t : State} (h : Only l s t) (htb : l.contains .tb = false) : t.tb.sel = s.tb.sel := by
  have hkept : { t.tb with tick := s.tb.tick, elapsed := s.tb.elapsed, heldFab := s.tb.heldFab, heldI3c := s.tb.heldI3c } = s.tb := h.keeps .tb htb
  exact (congrArg TimeBase.sel hkept :)

theorem warmReset_flt (s : State) : (warmReset s).flt.chipOff = false ∧ ∀ x, x ∈ (warmReset s).flt.regq → x.src = Src.TB_HOLDOVER ∧ s.tb.sel = 2 := by
  have hinst := clearInstalled_only (warmDrop s)
  obtain ⟨hregq, hchip⟩ := warmDrop_flt s
  have hsel : (clearInstalled (warmDrop s)).tb.sel = s.tb.sel :=
    (keepsSel hinst rfl).trans (keepsSel (warmDrop_only s) rfl)
  obtain ⟨hoff, hq⟩ := warmBegin_flt (clearInstalled (warmDrop s))
  rw [hinst.keeps .flt rfl] at hoff hq
  refine ⟨hoff.trans hchip, fun x hx => ?_⟩
  rw [hregq, hsel] at hq
  change x ∈ (warmBegin (clearInstalled (warmDrop s))).flt.regq at hx
  rcases hq with hnone | ⟨h2, y, hy, hone⟩
  · rw [hnone] at hx
    cases hx
  · rw [hone, List.nil_append, List.mem_singleton] at hx
    exact ⟨hx ▸ hy, h2⟩

/-- After the words and units are taken out of service neither the writes, the jobs nor the domains change. -/
theorem warmReset_after (s : State) : Only [.tb, .bridge, .live, .ports, .secs, .flt, .sparing, .adcs, .therm, .cap, .blk, .plan, .seat, .lnk,
    .boot, .cal, .tally, .mem] (warmDrop s) (warmReset s) :=
  ((clearInstalled_only _).mono rfl : Only [.tb, .bridge, .live, .ports, .secs, .flt, .sparing, .adcs, .therm, .cap, .blk, .plan, .seat, .lnk,
    .boot, .cal, .tally, .mem] (warmDrop s) _).via (warmBegin_only _) rfl

theorem warmReset_sets (s : State) : (warmReset s).regs.pend = [] ∧ (warmReset s).regs.frozen = none ∧ (warmReset s).regs.startSet = none := by
  have h : setsView (warmReset s) = ([], none, none) := Eq.trans ((warmReset_after s).keepsSets rfl) (warmDrop_sets s)
  obtain ⟨hp, hrest⟩ := Prod.mk.inj h
  obtain ⟨hf, hs⟩ := Prod.mk.inj hrest
  exact ⟨hp, hf, hs⟩

/-- A block that is not awake has no event but its supply's. -/
theorem exec_asleep {c : Instr} {t : State} (h : awake t = false) (hcold : c ≠ .coldStart) (hloss : c ≠ .powerLoss) : exec c t = .next t := by
  obtain ⟨ok, u, hact⟩ := exec_oneEvent c t hcold hloss
  rw [hact]
  exact act_idle (.inl h)

/-! ### The start-up half -/

/-- The command's answer leaves the sequence as the command made it. -/
theorem respond_boot (a : Access) (x : Response) (s : State) : (respond a x s).boot = s.boot := (respond_only a x s).keeps .boot rfl

/-- A refusal after the load is registered in the tick of the load. -/
theorem loadRefused_among {s u : State} {l : List Part} (h : Only l (loadRecords s) u) (ht : l.contains .time = false) (cause page det : Nat) :
    RaisedAmong Src.CFG_START_BAD det s (startRefused cause page det u) := by
  have hr := refused_among h ht cause page det
  have hload := loadRecords_only s
  unfold RaisedAmong at hr ⊢
  rwa [hload.now_eq rfl, hload.tick_eq rfl] at hr

theorem Keeps.loadKept_parts {s t : State} (h : Keeps loadKept s t) : t.regs.frozen = s.regs.frozen ∧ t.cal.state = s.cal.state := by
  obtain ⟨hfrozen, hrest⟩ := Prod.mk.inj (show (t.regs.frozen, t.cal.state, t.cal.recs) = (s.regs.frozen, s.cal.state, s.cal.recs) from h)
  exact ⟨hfrozen, (Prod.mk.inj hrest).1⟩

theorem loadRecords_calState (s : State) : (loadRecords s).cal.state = s.cal.state := (loadRecords_keepsLoad s).loadKept_parts.2

theorem loadRecords_winner (s : State) (typ key : Nat) : winner (loadRecords s) typ key = winner s typ key :=
  (loadRecords_keepsLoad s).winner_eq typ key

/-- A refused start waits for the host with its cause. -/
theorem startRefused_loaded {s u : State} {l : List Part} (h : Only l (loadRecords s) u) (ht : l.contains .time = false)
    {t : State} {cause page det : Nat} (heq : t = startRefused cause page det u) :
    t.boot.state = .await ∧ t.boot.cause = cause ∧ RaisedAmong Src.CFG_START_BAD det s t := by
  subst heq
  obtain ⟨hst, hcause, _⟩ := startRefused_effect cause page det u
  exact ⟨hst, hcause, loadRefused_among h ht cause page det⟩

theorem loadDone_start {s : State} (hawake : awake s = true) (hload : s.boot.state = .load) :
    (s.cal.state = .absent → ∃ t, exec .bootLoadDone s = .next t ∧ t.boot.state = .await ∧ t.boot.cause = 1 ∧ t.plan.ready = true ∧
      RaisedAmong Src.CFG_START_BAD 0x0101 s t) ∧
    (s.cal.state = .ready → winner s 1 0 = none → ∃ t, exec .bootLoadDone s = .next t ∧ t.boot.state = .await ∧ t.boot.cause = 2 ∧
      RaisedAmong Src.CFG_START_BAD 0x0102 s t) ∧
    (s.cal.state = .ready → (winner s 1 0).isSome = true → ∃ t, exec .bootLoadDone s = .next t ∧ t.plan.ready = true ∧
      (t.boot.state = .check ∧ (∃ f, t.regs.startSet = some f ∧ f.due = now s + 1) ∧ t.regs.frozen = s.regs.frozen ∨
        t.boot.state = .await ∧ 3 ≤ t.boot.cause ∧ t.boot.cause ≤ 5 ∧ ∃ det, RaisedAmong Src.CFG_START_BAD det s t)) := by
  have hchecking : Only [.boot] (loadRecords s) (checking (loadRecords s)) := modBoot_only _ _
  have hplan := checkStart_plan s
  refine ⟨fun habs => ?_, fun hready hnone => ?_, fun hready hset => ?_⟩
  · have heq := checkStart_absent ((loadRecords_calState s).trans habs)
    obtain ⟨hst, hcause, hraised⟩ := startRefused_loaded hchecking rfl heq
    exact ⟨_, exec_bootLoadDone hawake hload (.inl habs), hst, hcause, hplan, hraised⟩
  · have heq := checkStart_unset (s := loadRecords s) (by rw [loadRecords_calState, hready]; decide) ((loadRecords_winner s 1 0).trans hnone)
    obtain ⟨hst, hcause, hraised⟩ := startRefused_loaded hchecking rfl heq
    exact ⟨_, exec_bootLoadDone hawake hload (.inr hready), hst, hcause, hraised⟩
  · refine ⟨_, exec_bootLoadDone hawake hload (.inr hready), hplan, ?_⟩
    rcases checkStart_set (s := loadRecords s) (by rw [loadRecords_calState, hready]; decide) (by rw [loadRecords_winner]; exact hset) with
      ⟨hst, ⟨f, hf, hdue⟩, hfrozen⟩ | ⟨cause, page, det, u, h3, h5, hu, heq⟩
    · rw [(loadRecords_only s).now_eq rfl] at hdue
      exact .inl ⟨hst, ⟨f, hf, hdue⟩, hfrozen.trans (loadRecords_keepsLoad s).loadKept_parts.1⟩
    · obtain ⟨hst, hcause, hraised⟩ := startRefused_loaded hu rfl heq
      exact .inr ⟨hst, hcause.symm ▸ h3, hcause.symm ▸ h5, det, hraised⟩

/-- A refused command of `GEN_BOOTCMD`. -/
theorem bootRefused {s : State} (a : Access) :
    Only [.live, .ports] s (respond a (.ok 0) (refuse 0x00 s)) ∧
      (live (respond a (.ok 0) (refuse 0x00 s)) (genO PAGE_STAT)).field 15 8 = Nat.min ((live s (genO PAGE_STAT)).field 15 8 + 1) 255 :=
  ⟨((refuse_only _ s).mono rfl : Only [.live, .ports] s _).via (respond_only _ _ _) rfl, field_refuse_respond _ _ _ _⟩

theorem warmReset_whole {s : State} {a : Access} (hawake : awake s = true) (hreach : reaches s a = true) (hsec : secure s a = true) :
    ∃ t, exec (.genBootcmdWarmReset a 0x5A) s = .next t ∧ t.boot.state = .load ∧ t.boot.cold = false ∧ t.boot.lockAt = s.boot.lockAt ∧
      t.regs.pend = [] ∧ t.regs.frozen = none ∧ t.regs.startSet = none ∧ t.flt.chipOff = false ∧ awake t = false ∧
      (∀ x, x ∈ t.flt.regq → x.src = Src.TB_HOLDOVER ∧ s.tb.sel = 2) ∧
      (∀ j, j < 16 → (jobSlot s j).state = .ending → (jobSlot t j).state = .ending) ∧
      (∀ c, awake t = false → c ≠ .coldStart → c ≠ .powerLoss → exec c t = .next t) ∧
      (∀ d, d < 4 → (stage t d).state = .tripped) ∧ t.tb.tick = s.tb.tick := by
  have hr := respond_only a (.ok 0) (warmReset s)
  have hsets : setsView (respond a (.ok 0) (warmReset s)) = setsView (warmReset s) := hr.keepsSets rfl
  obtain ⟨hpend, hfrozen, hstart⟩ := warmReset_sets s
  obtain ⟨hchip, hregq⟩ := warmReset_flt s
  have hafter := warmReset_after s
  have hasleep : awake (respond a (.ok 0) (warmReset s)) = false := by
    have hnow : (respond a (.ok 0) (warmReset s)).tb.elapsed = (warmReset s).tb.elapsed := hr.now_eq rfl
    have hpow : (respond a (.ok 0) (warmReset s)).powered = (warmReset s).powered := hr.keeps .powered rfl
    have h := warmReset_asleep s
    unfold awake at h ⊢
    rw [respond_boot, hnow, hpow]
    exact h
  refine ⟨_, secureCmd_ok hawake hreach hsec _, ?_⟩
  rw [bootCommand_warm, if_pos (by decide)]
  refine ⟨?_, ?_, ?_, (congrArg Prod.fst hsets).trans hpend, (congrArg (fun v => v.2.1) hsets).trans hfrozen,
    (congrArg (fun v => v.2.2) hsets).trans hstart, ?_, hasleep, ?_, fun j hj hend => ?_, fun c _ hcold hloss => exec_asleep hasleep hcold hloss,
    fun d hd => ?_, ?_⟩
  · rw [respond_boot, warmReset_boot]
  · rw [respond_boot, warmReset_boot]
  · rw [respond_boot, warmReset_boot]
  · rw [hr.keeps .flt rfl]
    exact hchip
  · rw [hr.keeps .flt rfl]
    exact hregq
  · rw [hr.jobSlot_eq rfl, hafter.jobSlot_eq rfl]
    exact warmDrop_ending hj hend
  · rw [hr.stage_eq rfl, hafter.stage_eq rfl]
    exact warmDrop_stage hd s
  · exact (hr.tick_eq rfl).trans ((warmReset_only s).tick_eq rfl)

theorem bootCommands_act {s : State} {a : Access} (hawake : awake s = true) (hreach : reaches s a = true) (hsec : secure s a = true) :
    (s.boot.state = .await → s.regs.frozen = none → ∃ t, exec (.genBootcmdSafeProfile a) s = .next t ∧ t.boot.state = .sense ∧
      t.boot.safe = true) ∧
    ((s.boot.state ≠ .await ∨ s.regs.frozen.isSome = true) → ∃ t, exec (.genBootcmdSafeProfile a) s = .next t ∧ Only [.live, .ports] s t ∧
      (live t (genO PAGE_STAT)).field 15 8 = Nat.min ((live s (genO PAGE_STAT)).field 15 8 + 1) 255) ∧
    ((s.boot.state = .await ∨ s.boot.state = .sense ∨ s.boot.state = .power ∨ s.boot.state = .up) →
      ∃ t, exec (.genBootcmdShutdown a) s = .next t ∧
      (t.boot.state = .stopping ∨ t.boot.state = .stopped) ∧ t.boot.slots = [] ∧ t.boot.shutAt = now s ∧ t.lnk.group = [] ∧ t.lnk.disc = 0) ∧
    (s.boot.state ≠ .await → s.boot.state ≠ .sense → s.boot.state ≠ .power → s.boot.state ≠ .up →
      ∃ t, exec (.genBootcmdShutdown a) s = .next t ∧ Only [.live, .ports] s t) ∧
    (s.boot.state = .stopped → ∃ t, exec (.genBootcmdRestart a) s = .next t ∧ (t.boot.state = .power ∨ t.boot.state = .up)) ∧
    (s.boot.state ≠ .stopped → ∃ t, exec (.genBootcmdRestart a) s = .next t ∧ Only [.live, .ports] s t ∧
      (live t (genO PAGE_STAT)).field 15 8 = Nat.min ((live s (genO PAGE_STAT)).field 15 8 + 1) 255) := by
  refine ⟨fun hst hf => ⟨_, secureCmd_ok hawake hreach hsec _, ?_⟩, fun h => ⟨_, secureCmd_ok hawake hreach hsec _, ?_⟩,
    fun h => ⟨_, secureCmd_ok hawake hreach hsec _, ?_⟩, fun h1 h2 h3 h4 => ⟨_, secureCmd_ok hawake hreach hsec _, ?_⟩,
    fun h => ⟨_, secureCmd_ok hawake hreach hsec _, ?_⟩, fun h => ⟨_, secureCmd_ok hawake hreach hsec _, ?_⟩⟩
  · rw [bootCommand_safe, if_pos (by rw [hst, hf]; rfl), respond_boot]
    exact safeProfile_boot s
  · rw [bootCommand_safe, if_neg (by rcases h with h | h <;> simp [h, Option.isSome_iff_ne_none.mp])]
    exact bootRefused a
  · rw [bootCommand_shutdown, if_pos (by rcases h with h | h | h | h <;> simp [h]), respond_boot, (respond_only _ _ _).keeps .lnk rfl]
    exact shutDown_effect s
  · rw [bootCommand_shutdown, if_neg (by simp [h1, h2, h3, h4])]
    exact (bootRefused a).1
  · rw [bootCommand_restart, if_pos h, respond_boot]
    exact enterPower_state s
  · rw [bootCommand_restart, if_neg h]
    exact bootRefused a

/-- The start-up, shut-down and reset half of O58. -/
theorem bootCommands_hold :
  (∀ s : State, awake s = true → s.boot.state = .sense → s.therm.valid = true → thmShutdown s = false →
    (∀ n, n < 12 → 4 ≤ (adc s n).role ∨ (adc s n).state = .rail) →
    ∃ t, exec .bootSenseDone s = .next t ∧ (t.boot.state = .power ∨ t.boot.state = .up)) ∧
  (∀ (s : State) (x : Nat) (rest : List Nat), awake s = true → s.boot.state = .power → s.boot.slots = x :: rest → s.boot.slotAt ≤ now s →
    ∃ t, exec .bootSlotStart s = .next t ∧ t.boot.state = .power ∧ ∃ l, rest = l ++ t.boot.slots) ∧
  (∀ (s : State) (d : Nat), awake s = true → d < 4 → s.boot.state = .stopping → (stage s d).state = .run → allOff s d = true →
    nextStopped s d = true →
    ∃ t, exec (.shutdownDomainStop d) s = .next t ∧ (stage t d).state = .stop ∧ (∀ e, e ≠ d → stage t e = stage s e)) ∧
  (∀ s : State, awake s = true → s.boot.state = .stopping → s.boot.shutOn = true →
    s.boot.shutAt + msTicks (cfgF s (genO Reg.GEN_SHUTTMO) 9 0) ≤ now s →
    exec .shutdownTimeout s = .next (expire .shutdown s) ∧ (timeOver .shutdown s).boot.forced = true ∧ (timeOver .shutdown s).boot.shutOn = false ∧
      ∀ d, d < 4 → (stage (timeOver .shutdown s) d).state = .off ∨ (stage (timeOver .shutdown s) d).state = .tripped) := by
  refine ⟨fun s hawake hst hvalid hsh hrail => ?_, fun s x rest hawake hst hslots hat => ?_, fun s d hawake hd hst hrun hoff hnext => ?_,
    fun s hawake hst hon htime => ?_⟩
  · have hall : (upto 12).all (fun n => decide (4 ≤ (adc s n).role) || (adc s n).state == .rail) = true :=
      List.all_eq_true.mpr fun n hn => by
        rw [Bool.or_eq_true, decide_eq_true_eq, beq_iff_eq]
        exact hrail n (List.mem_range.mp hn)
    exact ⟨_, act_runs hawake (by rw [hst, hvalid, hsh, hall]; rfl), enterPower_state s⟩
  · obtain ⟨hpow, hleft⟩ := slotTaken_power hst x rest
    obtain ⟨hp, l, hl⟩ := runSlots_power 3 hpow
    refine ⟨_, act_runs hawake (by rw [hst, hslots, decide_eq_true hat]; rfl), ?_⟩
    rw [runSlots_cons hslots, if_pos hat]
    exact ⟨hp, l, hleft.symm.trans hl⟩
  · obtain ⟨hstop, _, _, hrest⟩ := stgStop_stage hrun hoff
    exact ⟨_, act_runs hawake (by rw [decide_eq_true hd, hst, hrun, hoff, hnext]; rfl), hstop, hrest⟩
  · have hdue : shutDue s = true := by
      unfold shutDue
      rw [hst, hon, decide_eq_true htime]
      rfl
    have hover : timeOver .shutdown s = stopCheck (leftTripped s) := by
      show shutOver s = _
      unfold shutOver
      rw [hdue, when_true]
      rfl
    obtain ⟨hforced, hoff⟩ := leftTripped_boot s
    rw [hover]
    refine ⟨act_runs hawake hdue, hforced, hoff, fun d hd => ?_⟩
    rw [(stopCheck_only _).stage_eq rfl]
    exact leftTripped_stage hd s

/-! ### The links' half -/

theorem linkTake_runs {s : State} {w : Word} {on : Bool} {g : Nat} (hg : Word.field w 3 0 = g) (hon : Word.bit w 9 = on) (hoff : Word.bit w 8 = !on)
    (hdisc : 2 ≤ s.lnk.disc) (hcls : clsOn s (judgedCls s g) = true) (hshut : (on && shutting s) = false) :
    linkTake w s = setGroup g (if on then 2 else 0) s := by
  unfold linkTake
  dsimp only
  rw [hg, hon, hoff, hcls, hshut, decide_eq_false (by omega : ¬ s.lnk.disc < 2)]
  cases on <;> rfl

theorem linkTake_idle {s : State} {w : Word} {g : Nat} (hg : Word.field w 3 0 = g) (h : s.lnk.disc < 2 ∨ clsOn s (judgedCls s g) = false) :
    linkTake w s = s := by
  unfold linkTake
  dsimp only
  rw [hg]
  refine if_pos ?_
  rcases h with h | h
  · rw [decide_eq_true h]
    simp
  · rw [h]
    simp

theorem linkRequest_waits {s : State} (h : s.lnk.disc = 1 ∨ s.lnk.disc = 2) (w : Word) :
    linkRequest w s = modLnk (fun l => { l with reqs := l.reqs ++ [w] }) s := if_pos (by rcases h with h | h <;> simp [h])

theorem linkRequest_acts {s : State} (h1 : s.lnk.disc ≠ 1) (h2 : s.lnk.disc ≠ 2) (w : Word) : linkRequest w s = linkTake w s :=
  if_neg (by simp [h1, h2])

theorem discOver_due {s : State} (hdisc : s.lnk.disc = 1 ∨ s.lnk.disc = 2)
    (htime : s.lnk.from0 + msTicks (cfgF s (lnkO Reg.LNK_CFG) 17 8) ≤ now s) : discDue s = true ∧ timeOver .discovery s = linkExpiry s := by
  have hdue : discDue s = true := by
    unfold discDue
    rw [decide_eq_true htime]
    rcases hdisc with h | h <;> rw [h] <;> rfl
  refine ⟨hdue, ?_⟩
  show discOver s = _
  unfold discOver
  rw [hdue, when_true]

theorem linkReport_present {s : State} (h : s.lnk.disc = 1) {g : BitVec 4} (hg : (unitCluster s.params lanesK g.toNat).isSome = true) (c : BitVec 2) :
    linkReport (BitVec.ofNat 32 (g.toNat + 16 * c.toNat + 0x100)) s = modLnk (fun l => { l with found := l.found.put g.toNat c.toNat }) s := by
  obtain ⟨hfg, hfc, h8, h9⟩ := reportWord_fields g c
  unfold linkReport
  dsimp only
  rw [hfg, hfc, h8, h9, hg, if_pos h, when_false]
  exact when_true _ _

theorem linkReport_done {s : State} (h : s.lnk.disc = 1) : linkReport 0x200 s = takeResult false s := by
  unfold linkReport
  dsimp only
  rw [if_pos h, show Word.bit 0x200 9 = true by decide, show Word.bit 0x200 8 = false by decide, Bool.false_and, when_false, when_true]

theorem takeResult_lnk (timeout : Bool) (s : State) : (takeResult timeout s).lnk.disc = (if timeout then 3 else 2) ∧
    (takeResult timeout s).lnk.timeout = timeout ∧
    (takeResult timeout s).lnk.group = (forEach (laneGroups s) (judgeGroup timeout) s).lnk.group ∧
    (takeResult timeout s).lnk.absent = (forEach (laneGroups s) (judgeGroup timeout) s).lnk.absent ∧
    (takeResult timeout s).lnk.found = (forEach (laneGroups s) (judgeGroup timeout) s).lnk.found := ⟨rfl, rfl, rfl, rfl, rfl⟩

theorem judgeGroup_foundKept (timeout : Bool) (g : Nat) (s : State) : (judgeGroup timeout g s).lnk.found = s.lnk.found :=
  (judgeGroup_stays (Nat.succ_ne_self g) timeout s).1

/-- A group's state after the result, from its own judgement. -/
theorem result_group {s : State} {g v : Nat} {timeout : Bool} (hin : g ∈ laneGroups s)
    (hat : ∀ u, Judgeable s u → Store.get (judgeGroup timeout g u).lnk.group 0 g = v) :
    Store.get (takeResult timeout s).lnk.group 0 g = v := by
  rw [(takeResult_lnk timeout s).2.2.1]
  exact result_once (Q := fun u => Store.get u.lnk.group 0 g = v) hin (fun e u => judgeGroup_only timeout e u)
    (fun e u _ => judgeGroup_foundKept timeout e u) hat
    (fun e u he hq => (judgeGroup_stays (Ne.symm he) timeout u).2.1.trans hq)

theorem result_absent {s : State} {g : Nat} (hin : g ∈ laneGroups s) (habs : stillAbsent s g = true) :
    Store.get (takeResult true s).lnk.group 0 g = 0 ∧ g ∈ (takeResult true s).lnk.absent := by
  obtain ⟨_, _, hgroup, habsent, _⟩ := takeResult_lnk true s
  rw [hgroup, habsent]
  refine result_once (Q := fun u => Store.get u.lnk.group 0 g = 0 ∧ g ∈ u.lnk.absent) hin (fun e u => judgeGroup_only true e u)
    (fun e u _ => judgeGroup_foundKept true e u) (fun u hu => ?_) (fun e u he hq => ?_)
  · obtain ⟨_, _, _, _, hsame, hpar, _⟩ := hu.same g
    rw [judgeGroup_absent (hsame.trans habs)]
    exact absentGroup_absent (laneGroups_placed hin hpar)
  · obtain ⟨_, hg, ha⟩ := judgeGroup_stays (Ne.symm he) true u
    exact ⟨hg.trans hq.1, ha hq.2⟩

theorem expiry_among {s : State} {g : Nat} (hin : g ∈ laneGroups s) (habs : stillAbsent s g = true) :
    RaisedAmong Src.LNK_ABSENT g s (forEach (laneGroups s) (fun g s => when (stillAbsent s g) (absentGroup g) s) s) := by
  have hop : ∀ b e u, Only [.live, .secs, .trail, .flt, .lnk] u (when b (absentGroup e) u) := fun b e u =>
    (Only.refl _ u).when _ _ fun v => absentGroup_only e v
  have hfound : ∀ b e u, (when b (absentGroup e) u).lnk.found = u.lnk.found := fun b e u => by
    cases b with
    | false => rfl
    | true => exact (absentGroup_stays (Nat.succ_ne_self e) u).1
  refine result_once (op := fun g s => when (stillAbsent s g) (absentGroup g) s) (Q := fun u => RaisedAmong Src.LNK_ABSENT g s u) hin
    (fun e u => hop _ e u) (fun e u _ => hfound _ e u) (fun u hu => ?_)
    (fun e u _ hq => hq.kept (KeepsRaised.when (absentGroup_keepsRaised e) _ u))
  obtain ⟨_, _, _, _, hsame, _, _⟩ := hu.same g
  have hr := absentGroup_among g u
  rw [hsame, habs, when_true]
  unfold RaisedAmong at hr ⊢
  rwa [hu.1.now_eq rfl, hu.1.tick_eq rfl] at hr

theorem linkStep_only {s : State} {w : Word} (hawake : awake s = true) (hp : s.pending = []) (hreqs : s.lnk.reqs = [w]) (hlate : s.late = [])
    (howed : s.adcOwed = []) (hseen : s.regs.seen = []) (hfetch : s.ports.target.fetch = none) (hdata : s.ports.target.data = none)
    (hsync : syncMissed (estP / 2) s = false) (hstart : ∀ d, (stage (linkTake w (s.setLnk { s.lnk with reqs := [] })) d).startDue = none) :
    ∃ t, step s = .next t ∧ Only [.time, .bridge, .ports, .seat] (linkTake w (s.setLnk { s.lnk with reqs := [] })) t := by
  have hlreq : lateRequests s = linkTake w (s.setLnk { s.lnk with reqs := [] }) := by
    unfold lateRequests
    rw [hreqs]
    rfl
  have howed' : (linkTake w (s.setLnk { s.lnk with reqs := [] })).adcOwed = [] := by
    rw [(linkTake_only _ _).keeps .adcOwed rfl]
    exact howed
  have hend : endTick (i3cData (i3cFetch s)) = linkTake w (s.setLnk { s.lnk with reqs := [] }) := by
    rw [i3cFetch_none hfetch, i3cData_none hdata, endTick_unseen hseen]
    unfold settle
    rw [missedSync_none hsync, endTimes_none hlate, hlreq, serveOwed_none howed']
  exact ⟨_, step_ticks hp, tickPasses_only_of_endTick hawake hend hstart⟩

/-- Settles O58. -/
theorem bootAndLinks : Obligations.BootAndLinks := by
  obtain ⟨hsense, hslot, hstop, htmo⟩ := bootCommands_hold
  refine ⟨⟨fun s hawake hload => loadDone_start hawake hload, fun s a hawake hreach hsec => ?_, hsense, hslot, hstop, htmo⟩,
    fun s a g c hawake hreach hdisc hg => ?_, fun s a hawake hreach hdisc => ?_, fun s hawake htime => ⟨fun hdisc => ?_, fun hdisc => ?_⟩,
    fun s g t0 hawake hat hle hg => ?_, fun s a g hawake hreach => ⟨fun hdisc => ⟨?_, ?_⟩, fun h1 h2 => ⟨?_, ?_⟩⟩,
    fun s w hawake hp hreqs hlate howed hseen hfetch hdata hsync hstart =>
      linkStep_only hawake hp hreqs hlate howed hseen hfetch hdata hsync hstart,
    fun s g hg => ⟨fun hdisc hcls => ⟨fun hsh => ?_, ?_⟩, fun h => ⟨linkTake_idle (onWord_fields g).1 h, linkTake_idle (offWord_fields g).1 h⟩⟩⟩
  · obtain ⟨h1, h2, h3, h4, h5, h6⟩ := bootCommands_act hawake hreach hsec
    refine ⟨h1, h2, h3, h4, h5, h6, warmReset_whole hawake hreach hsec, fun key hkey => ⟨_, secureCmd_ok hawake hreach hsec _, ?_⟩⟩
    rw [bootCommand_warm, if_neg (show ¬ key.toNat = 90 from fun heq => hkey (BitVec.eq_of_toNat_eq heq))]
    exact (bootRefused a).1
  · refine ⟨_, act_runs hawake hreach, ?_⟩
    unfold hostCmd
    rw [linkReport_present hdisc hg c, (respond_only _ _ _).keeps .lnk rfl]
    exact ⟨rfl, ((modLnk_only _ s).mono rfl : Only [.lnk, .ports] s _).via (respond_only _ _ _) rfl⟩
  · obtain ⟨hd, ht, _, _, hf⟩ := takeResult_lnk false s
    refine ⟨_, act_runs hawake hreach, ?_⟩
    unfold hostCmd
    rw [linkReport_done hdisc, (respond_only _ _ _).keeps .lnk rfl]
    have hkept : (forEach (laneGroups s) (judgeGroup false) s).lnk.found = s.lnk.found :=
      Keeps.forEach (p := fun u : State => u.lnk.found) (fun g u => judgeGroup_foundKept false g u) _ s
    refine ⟨hd, ht, hf.trans hkept, fun g hin hfound hcls hplan => result_group hin fun u hu => ?_, fun g hin hnone habs => result_group hin fun u hu => ?_⟩
    · obtain ⟨hfu, hpu, hcu, hplu, _, hpar, _⟩ := hu.same g
      rw [judgeGroup_found (by rw [hfu, hpu]; exact hfound) (by rw [hpu, hcu]; exact hcls) (hplu.trans hplan)]
      exact group_setGroup (laneGroups_placed hin hpar) 2
    · obtain ⟨hfu, _, _, _, hau, hpar, _⟩ := hu.same g
      rw [judgeGroup_missing (hfu.trans hnone) (hau.trans habs)]
      exact group_setGroup (laneGroups_placed hin hpar) 0
  · obtain ⟨hdue, hover⟩ := discOver_due (.inl hdisc) htime
    obtain ⟨hd, ht, _⟩ := takeResult_lnk true s
    rw [hover, linkExpiry_result hdisc]
    exact ⟨act_runs hawake hdue, hd, ht, fun g hin habs => result_absent hin habs⟩
  · obtain ⟨hdue, hover⟩ := discOver_due (.inr hdisc) htime
    rw [hover, linkExpiry_late (by rw [hdisc]; decide)]
    exact ⟨act_runs hawake hdue, rfl, fun g hin habs => (expiry_among hin habs).before (modLnk_only _ _) rfl⟩
  · have hexec : exec (.lnkUnplannedOff g) s = .next (setGroup g 0 s) := by
      show execLnkUnplannedOff g s = _
      unfold execLnkUnplannedOff
      rw [hat]
      exact act_runs hawake (decide_eq_true hle)
    refine ⟨_, hexec, ?_⟩
    refine ⟨group_setGroup hg 0, ?_, fun h hne => (setGroup_stays hne 0 s).2.1⟩
    rw [setGroup_lnk hg]
    exact Store.find_del_same _ _
  · refine ⟨_, act_runs hawake hreach, ?_⟩
    unfold hostCmd
    rw [linkRequest_waits hdisc, (respond_only _ _ _).keeps .lnk rfl]
    exact ⟨rfl, ((modLnk_only _ s).mono rfl : Only [.lnk, .ports] s _).via (respond_only _ _ _) rfl⟩
  · refine ⟨_, act_runs hawake hreach, ?_⟩
    unfold hostCmd
    rw [linkRequest_waits hdisc, (respond_only _ _ _).keeps .lnk rfl]
    exact ⟨rfl, ((modLnk_only _ s).mono rfl : Only [.lnk, .ports] s _).via (respond_only _ _ _) rfl⟩
  · refine (act_runs hawake hreach).trans ?_
    unfold hostCmd
    rw [linkRequest_acts h1 h2]
  · refine (act_runs hawake hreach).trans ?_
    unfold hostCmd
    rw [linkRequest_acts h1 h2]
  · obtain ⟨hfg, h9, h8⟩ := onWord_fields g
    rw [linkTake_runs (on := true) hfg h9 h8 hdisc hcls (by rw [hsh]; rfl)]
    exact ⟨group_setGroup hg 2, fun h hne => (setGroup_stays hne 2 s).2.1⟩
  · obtain ⟨hfg, h9, h8⟩ := offWord_fields g
    rw [linkTake_runs (on := false) hfg h9 h8 hdisc hcls rfl]
    exact ⟨group_setGroup hg 0, fun h hne => (setGroup_stays hne 0 s).2.1⟩

end Sys2Proof.Machine
end

section
/-! SUPPORT. The calibration store: discovery, the scan and the winner among records. -/

namespace Sys2Proof.Machine

/-! ### An idle or a busy store -/

theorem modCal_cal (f : CalStore → CalStore) (s : State) : (modCal f s).cal = f s.cal := rfl

theorem stopCheck_cal (s : State) : (stopCheck s).cal = s.cal := (stopCheck_only s).keeps .cal rfl

/-- A store that programs or erases begins nothing else. -/
theorem calRun_busy {s : State} (h : s.cal.prog.isSome = true ∨ s.cal.erase.isSome = true) (n : Nat) : calRun n s = s := by
  cases n with
  | zero => rfl
  | succ n =>
    unfold calRun
    exact if_pos (by rcases h with h | h <;> simp [h])

theorem calGo_busy {s : State} (h : s.cal.prog.isSome = true ∨ s.cal.erase.isSome = true) : calGo s = s := by
  unfold calGo
  rw [calRun_busy h, calRun_busy h]

/-- A store that owes nothing begins nothing. -/
theorem calRun_idle {s : State} (hredo : s.cal.redo = none) (hdrain : s.cal.drain = []) (hqueue : s.cal.queue = []) (n : Nat) : calRun n s = s := by
  cases n with
  | zero => rfl
  | succ n =>
    unfold calRun
    dsimp only
    rw [hredo, hdrain, hqueue]
    exact ite_self s

theorem calGo_idle {s : State} (hredo : s.cal.redo = none) (hdrain : s.cal.drain = []) (hqueue : s.cal.queue = []) : calGo s = s := by
  unfold calGo
  rw [calRun_idle hredo hdrain hqueue, calRun_idle hredo hdrain hqueue]

/-! ### Loops over a list -/

theorem foldl_fixed {α : Type} {f : State → α → State} {s : State} {l : List α} (h : ∀ x, x ∈ l → f s x = s) : l.foldl f s = s := by
  induction l with
  | nil => rfl
  | cons x l ih =>
    rw [List.foldl_cons, h x List.mem_cons_self]
    exact ih fun y hy => h y (List.mem_cons_of_mem x hy)

/-- What one turn of a loop brings about, and no turn undoes, holds after the loop. -/
theorem foldl_reaches {α : Type} {f : State → α → State} {P : State → Prop} (hkept : ∀ s y, P s → P (f s y)) {x : α} (hat : ∀ s, P (f s x)) {l : List α}
    (hx : x ∈ l) (s : State) : P (l.foldl f s) := by
  have hstays : ∀ (l : List α) s, P s → P (l.foldl f s) := fun l => by
    induction l with
    | nil => exact fun s hs => hs
    | cons y l ih => exact fun s hs => ih _ (hkept s y hs)
  induction l generalizing s with
  | nil => cases hx
  | cons y l ih =>
    rcases List.mem_cons.mp hx with rfl | hx
    · exact hstays l _ (hat s)
    · exact ih hx _

/-! ### Discovery (R504, R505) -/

theorem resetWait_ends {s : State} (hawake : awake s = true) (hst : s.cal.state = .discover) (hstep : s.cal.step = 0)
    (htime : s.cal.from0 + usTicks 100 ≤ now s) :
    ∃ t, exec .flashResetWaitEnd s = .next t ∧ t.cal = { s.cal with step := 1 } ∧ Only [.cal] s t :=
  ⟨_, act_runs hawake (by rw [hst, hstep, decide_eq_true htime]; rfl), rfl, modCal_only _ s⟩

theorem noPart_effect (src : Nat) (s : State) : (noPart src s).cal.state = .absent ∧ (noPart src s).cal.recs = [] ∧ Raised src 0 s (noPart src s) := by
  unfold noPart
  rw [(raiseOn_only _ _ _ _ _).keeps .cal rfl]
  exact ⟨rfl, rfl, (raiseOn_raised _ _ _ _ _).after (modCal_only _ s) rfl rfl⟩

theorem jedec_answers {s : State} (hawake : awake s = true) (hst : s.cal.state = .discover) (hstep : s.cal.step = 1) (id : BitVec 24) :
    (id ≠ 0 → id ≠ 0xFFFFFF → ∃ t, exec (.flashJedecId id) s = .next t ∧ t.cal = { s.cal with step := 2 } ∧
      live t (calO Reg.CAL_JEDECID) = id.setWidth 32 ∧ Only [.cal, .live] s t) ∧
    ((id = 0 ∨ id = 0xFFFFFF) → s.cal.tries ≠ 2 → ∃ t, exec (.flashJedecId id) s = .next t ∧
      t.cal = { s.cal with tries := s.cal.tries + 1 } ∧ Only [.cal] s t) ∧
    ((id = 0 ∨ id = 0xFFFFFF) → s.cal.tries = 2 → ∃ t, exec (.flashJedecId id) s = .next t ∧ t.cal.state = .absent ∧
      t.cal.recs = [] ∧ Raised Src.CAL_FLASH_ABSENT 0 s t) := by
  have hexec : exec (.flashJedecId id) s = .next (jedec id s) := act_runs hawake (by rw [hst, hstep]; rfl)
  have hnone : (id = 0 ∨ id = 0xFFFFFF) → (decide (id = 0) || decide (id = 0xFFFFFF)) = true := fun h => by
    rcases h with h | h <;> simp [h]
  rw [hexec]
  unfold jedec
  refine ⟨fun h0 h1 => ⟨_, rfl, ?_⟩, fun h htries => ⟨_, rfl, ?_⟩, fun h htries => ⟨_, rfl, ?_⟩⟩
  · rw [if_neg (by rw [decide_eq_false h0, decide_eq_false h1]; decide)]
    exact ⟨rfl, live_setLive_same _ _ _, ((modCal_only _ s).mono rfl : Only [.cal, .live] s _).via (setLive_only _ _ _) rfl⟩
  · rw [if_pos (hnone h), if_neg htries]
    exact ⟨rfl, modCal_only _ s⟩
  · rw [if_pos (hnone h), if_pos htries]
    exact noPart_effect _ s

theorem sfdpDensity_range {x : SfdpInfo} {n : Nat} (h : sfdpDensity x = some n) : 6 ≤ n ∧ n ≤ 10 := by
  unfold sfdpDensity at h
  have hmem : n ∈ ([6, 7, 8, 9, 10] : List Nat) := List.mem_of_find?_eq_some h
  simp only [List.mem_cons, List.not_mem_nil, or_false] at hmem
  omega

theorem sfdpUsable_not {x : SfdpInfo} (h : x.signature ≠ 0x50444653 ∨ x.major ≠ 1 ∨ sfdpErases x = false ∨ sfdpDensity x = none) :
    ¬ sfdpUsable x = true := fun hus => by
  simp only [sfdpUsable, Bool.and_eq_true, beq_iff_eq] at hus
  obtain ⟨⟨⟨hsig, hmajor⟩, hdens⟩, herases⟩ := hus
  rcases h with h | h | h | h
  · exact h hsig
  · exact h hmajor
  · rw [h] at herases
    cases herases
  · rw [h] at hdens
    cases hdens

theorem sfdp_answers {s : State} (hawake : awake s = true) (hst : s.cal.state = .discover) (hstep : s.cal.step = 2) (x : SfdpInfo) :
    (∀ n : Nat, x.signature = 0x50444653 → x.major = 1 → sfdpErases x = true → sfdpDensity x = some n →
      6 ≤ n ∧ n ≤ 10 ∧ ∃ t, exec (.flashSfdpRead x) s = .next t ∧
      t.cal = { s.cal with state := .scan, density := n, quad := sfdpQuad x, drive := sfdpDrive x } ∧ Only [.cal] s t) ∧
    ((x.signature ≠ 0x50444653 ∨ x.major ≠ 1 ∨ sfdpErases x = false ∨ sfdpDensity x = none) →
      ∃ t, exec (.flashSfdpRead x) s = .next t ∧ t.cal.state = .absent ∧ Raised Src.CAL_SFDP_BAD 0 s t) := by
  have hok : (s.cal.state == .discover && s.cal.step == 2) = true := by rw [hst, hstep]; rfl
  refine ⟨fun n hsig hmajor herases hdens => ?_, fun hbad => ?_⟩
  · obtain ⟨h6, h10⟩ := sfdpDensity_range hdens
    refine ⟨h6, h10, _, act_runs hawake hok, ?_⟩
    rw [if_pos (show sfdpUsable x = true by simp [sfdpUsable, hsig, hmajor, herases, hdens]), hdens]
    exact ⟨rfl, modCal_only _ s⟩
  · refine ⟨_, act_runs hawake hok, ?_⟩
    rw [if_neg (sfdpUsable_not hbad)]
    obtain ⟨habs, _, hraised⟩ := noPart_effect Src.CAL_SFDP_BAD s
    exact ⟨habs, hraised⟩

/-! ### The winner among records (R511) -/

/-- A record counts for a type and key. -/
def recordCounts (typ key : Nat) (r : Record) : Prop := recordGood r = true ∧ r.typ = typ ∧ r.key = key

/-- What the search of the winner knows after the records `l`. -/
def WinsAmong (l : List Record) (typ key : Nat) (w : Option Record) : Prop :=
  (∀ r, r ∈ l → recordCounts typ key r → ∃ x, w = some x ∧ r.seq ≤ x.seq) ∧ ∀ x, w = some x → x ∈ l ∧ recordCounts typ key x

/-- One record of the search. -/
def winnerStep (typ key : Nat) (w : Option Record) (r : Record) : Option Record :=
  if recordGood r && r.typ == typ && r.key == key && (match w with
    | some x => decide (x.seq < r.seq)
    | none => true) then some r else w

theorem winnerRaw_eq (l : List Record) (typ key : Nat) : winnerRaw l typ key = l.foldl (winnerStep typ key) none := by
  rfl

theorem winnerStep_skips {typ key : Nat} {r : Record} (h : ¬ recordCounts typ key r) (w : Option Record) : winnerStep typ key w r = w := by
  unfold winnerStep
  refine if_neg fun hc => h ?_
  simp only [Bool.and_eq_true, beq_iff_eq] at hc
  exact ⟨hc.1.1.1, hc.1.1.2, hc.1.2⟩

theorem winnerStep_first {typ key : Nat} {r : Record} (h : recordCounts typ key r) : winnerStep typ key none r = some r := by
  obtain ⟨hgood, htyp, hkey⟩ := h
  simp [winnerStep, hgood, htyp, hkey]

theorem winnerStep_next {typ key : Nat} {r : Record} (h : recordCounts typ key r) (x : Record) :
    winnerStep typ key (some x) r = if x.seq < r.seq then some r else some x := by
  obtain ⟨hgood, htyp, hkey⟩ := h
  simp [winnerStep, hgood, htyp, hkey]

theorem WinsAmong.step {l : List Record} {typ key : Nat} {w : Option Record} (h : WinsAmong l typ key w) (r : Record) :
    WinsAmong (l ++ [r]) typ key (winnerStep typ key w r) := by
  obtain ⟨hmost, hone⟩ := h
  have hone' : ∀ x, w = some x → x ∈ l ++ [r] ∧ recordCounts typ key x := fun x hx =>
    ⟨List.mem_append_left _ (hone x hx).1, (hone x hx).2⟩
  have hself : recordCounts typ key r → ∀ x, some r = some x → x ∈ l ++ [r] ∧ recordCounts typ key x := fun hr x hx => by
    cases hx
    exact ⟨List.mem_append_right _ (List.mem_singleton_self r), hr⟩
  by_cases hr : recordCounts typ key r
  · cases hw : w with
    | none =>
      rw [winnerStep_first hr]
      refine ⟨fun y hy hc => ⟨r, rfl, ?_⟩, hself hr⟩
      rcases List.mem_append.mp hy with hy | hy
      · obtain ⟨x, hx, _⟩ := hmost y hy hc
        rw [hw] at hx
        cases hx
      · rw [List.mem_singleton.mp hy]
    | some x =>
      rw [winnerStep_next hr]
      have hx : ∀ y, y ∈ l → recordCounts typ key y → y.seq ≤ x.seq := fun y hy hc => by
        obtain ⟨z, hz, hle⟩ := hmost y hy hc
        rw [hw] at hz
        cases hz
        exact hle
      by_cases hlt : x.seq < r.seq
      · rw [if_pos hlt]
        refine ⟨fun y hy hc => ⟨r, rfl, ?_⟩, hself hr⟩
        rcases List.mem_append.mp hy with hy | hy
        · exact (hx y hy hc).trans hlt.le
        · rw [List.mem_singleton.mp hy]
      · rw [if_neg hlt]
        refine ⟨fun y hy hc => ⟨x, rfl, ?_⟩, fun y hy => hone' y (hw.trans hy)⟩
        rcases List.mem_append.mp hy with hy | hy
        · exact hx y hy hc
        · rw [List.mem_singleton.mp hy]
          omega
  · rw [winnerStep_skips hr]
    refine ⟨fun y hy hc => ?_, hone'⟩
    rcases List.mem_append.mp hy with hy | hy
    · exact hmost y hy hc
    · exact absurd (List.mem_singleton.mp hy ▸ hc) hr

theorem winnerRaw_wins (l : List Record) (typ key : Nat) : WinsAmong l typ key (winnerRaw l typ key) := by
  rw [winnerRaw_eq]
  induction l using List.reverseRecOn with
  | nil => exact ⟨fun r hr => by simp at hr, fun x hx => by simp at hx⟩
  | append_singleton l r ih =>
    rw [List.foldl_append]
    exact ih.step r

theorem winnerRaw_spec {l : List Record} {typ key : Nat} {w : Record} (h : winnerRaw l typ key = some w) :
    w ∈ l ∧ recordGood w = true ∧ w.typ = typ ∧ w.key = key ∧
      ∀ r, r ∈ l → recordGood r = true → r.typ = typ → r.key = key → r.seq ≤ w.seq := by
  obtain ⟨hmost, hone⟩ := winnerRaw_wins l typ key
  obtain ⟨hmem, hgood, htyp, hkey⟩ := hone w h
  refine ⟨hmem, hgood, htyp, hkey, fun r hr hg ht hk => ?_⟩
  obtain ⟨x, hx, hle⟩ := hmost r hr ⟨hg, ht, hk⟩
  rw [h] at hx
  cases hx
  exact hle

theorem winnerRaw_none {l : List Record} {typ : Nat} (h : ∀ r, r ∈ l → r.typ ≠ typ) (key : Nat) : winnerRaw l typ key = none := by
  refine Option.eq_none_iff_forall_ne_some.mpr fun w hw => ?_
  obtain ⟨hmem, _, htyp, _⟩ := winnerRaw_spec hw
  exact h w hmem htyp

end Sys2Proof.Machine
end

section
/-! SUPPORT. The scan of the flash part, stage by stage (R514, R515). -/

namespace Sys2Proof.Machine

/-! ### The stages of a scan -/

/-- The store as a scan begins to fill it: the listed sectors retired, no record known. -/
def scanFresh (listed : List Nat) (s : State) : State :=
  modCal (fun c => { c with
    secs := listed.foldl (fun m i => if i < flashCount s then Store.put m i { flash0 with retired := true } else m) []
    recs := [], active := none, ptr := 0, seq := (c.redo.map (fun x => x.2.seq + 1)).getD 1, openSeq := 0 }) s

/-- A sector that the scan reads: of the part, and not listed as retired. -/
def scanned (n : Nat) (listed : List Nat) (i : Nat) : Bool := decide (i < n) && !listed.contains i

/-- What a sector's header gives the store. -/
def scanHead (x : SectorInfo) (s : State) : State :=
  modCal (fun c => { c with openSeq := Nat.max c.openSeq x.openSeq })
    (setFlash x.index { head := x.head, erases := x.erases, openSeq := x.openSeq, erased := x.erased, dirty := x.erased && x.nextFree != 0,
                        retired := false } s)

def scanHeads (n : Nat) (listed : List Nat) (infos : List SectorInfo) (s : State) : State :=
  infos.foldl (fun s x => when (scanned n listed x.index) (scanHead x) s) s

/-- The journal goes on in the sector that was opened last. -/
def scanPlace (active : Option Nat) (ptr : Nat) (s : State) : State := modCal (fun c => { c with active := active, ptr := ptr }) s

/-- The records, those of retirement first. -/
def scanOrder (reads : List RecordRead) : List RecordRead :=
  (reads.filter (fun r => r.record.typ == 5)) ++ reads.filter (fun r => r.record.typ != 5)

def scanLog (n : Nat) (listed : List Nat) (reads : List RecordRead) (s : State) : State :=
  (scanOrder reads).foldl (fun s r => when (scanned n listed r.record.sector) (scanRecord r) s) s

/-- The types for which a winner is found. -/
def foundTypes (s : State) : Nat := packBits ((upto 8).map (fun t => (upto 9).any (fun k => (winner s (t + 1) k).isSome)))

def scanReady (s : State) : State := modCal (fun c => { c with state := .ready, found := foundTypes s }) s

def scanJudge (reads : List RecordRead) (s : State) : State :=
  reads.foldl (fun s x => when ((winners s).contains x.record) (judgeRead x.corr x.record) s) s

theorem scanDone_stages (hs : List SectorHeader) (l : List SectorImage) (s : State) :
    ∃ listed active ptr, scanDone hs l s = calGo (scanJudge (l.flatMap sectorRecords) (scanReady (scanLog (flashCount s) listed (l.flatMap sectorRecords)
      (scanPlace active ptr (scanHeads (flashCount s) listed (hs.map (sectorInfo l)) (scanFresh listed s)))))) ∧
      (s.boot.cold = true → winnerRaw ((l.flatMap sectorRecords).map (·.record)) 5 0 = none → listed = []) := by
  refine ⟨_, _, _, rfl, fun hcold hnone => ?_⟩
  rw [hcold, hnone]
  rfl

/-! ### What the stages leave of the store -/

/-- What no stage of a scan changes unless a record is to be copied: what the store owes, and its powered time. -/
def scanKept (s : State) : List CalReq × Option (CalReq × Record) × List (Nat × Bool) × Option Program × Nat :=
  (s.cal.queue, s.cal.redo, s.cal.drain, s.cal.prog, s.cal.powered)

theorem Only.keepsScan {l : List Part} {s t : State} (h : Only l s t) (hc : l.contains .cal = false) : Keeps scanKept s t := by
  have hcal : t.cal = s.cal := h.keeps .cal hc
  unfold Keeps scanKept
  rw [hcal]

theorem Keeps.scanKept_parts {s t : State} (h : Keeps scanKept s t) : t.cal.queue = s.cal.queue ∧ t.cal.redo = s.cal.redo ∧
    t.cal.drain = s.cal.drain ∧ t.cal.prog = s.cal.prog ∧ t.cal.powered = s.cal.powered := by
  unfold Keeps scanKept at h
  simpa only [Prod.mk.injEq] using h

theorem scanHeads_kept (n : Nat) (listed : List Nat) (infos : List SectorInfo) (s : State) : Keeps scanKept s (scanHeads n listed infos s) :=
  Keeps.foldl (fun _ x => Keeps.when (fun u => (show Keeps scanKept u (scanHead x u) from rfl)) _ _) infos s

theorem scanRecord_kept (x : RecordRead) (s : State) : Keeps scanKept s (scanRecord x s) := by
  unfold scanRecord
  exact .ite rfl (.ite (Keeps.trans (show Keeps scanKept s _ from rfl) ((bumpBy_only _ _ _).keepsScan rfl))
    (Keeps.trans (show Keeps scanKept s _ from rfl) ((badRecord_only _ _).keepsScan rfl)))

theorem scanLog_kept (n : Nat) (listed : List Nat) (reads : List RecordRead) (s : State) : Keeps scanKept s (scanLog n listed reads s) :=
  Keeps.foldl (fun _ x => Keeps.when (fun u => scanRecord_kept x u) _ _) (scanOrder reads) s

/-- The records and the `SEQ` that comes next. -/
def logged (s : State) : List Record × Nat := (s.cal.recs, s.cal.seq)

theorem scanHeads_logged (n : Nat) (listed : List Nat) (infos : List SectorInfo) (s : State) : Keeps logged s (scanHeads n listed infos s) :=
  Keeps.foldl (fun _ x => Keeps.when (fun u => (show Keeps logged u (scanHead x u) from rfl)) _ _) infos s

theorem scanHeads_only (n : Nat) (listed : List Nat) (infos : List SectorInfo) (s : State) : Only [.cal] s (scanHeads n listed infos s) :=
  (Only.refl _ s).foldl _ _ fun _ _ => (Only.refl _ _).when _ _ fun u =>
    ((setFlash_only _ _ u).mono rfl : Only [.cal] u _).via (modCal_only _ _) rfl

/-- A scan knows a good record, and one that is older than a good one; the next `SEQ` lies beyond each. -/
theorem scanRecord_logs (x : RecordRead) (s : State) :
    ((scanRecord x s).cal.recs = s.cal.recs ++ [x.record] ∨ recordGood x.record = false ∧ (scanRecord x s).cal.recs = s.cal.recs) ∧
    (scanRecord x s).cal.seq = Nat.max s.cal.seq (x.record.seq + 1) := by
  have hbump : ∀ u, (bumpBy (calO Reg.CAL_ECCFIX) x.fixed u).cal = u.cal := fun u => (bumpBy_only _ _ u).keeps .cal rfl
  have hbad : ∀ u, (badRecord x.record.sector u).cal = u.cal := fun u => (badRecord_only _ u).keeps .cal rfl
  unfold scanRecord
  dsimp only
  split
  · exact ⟨.inl rfl, rfl⟩
  · split
    · rw [hbump]
      exact ⟨.inl rfl, rfl⟩
    · next hgood =>
      rw [hbad]
      exact ⟨.inr ⟨Bool.not_eq_true _ ▸ hgood, rfl⟩, rfl⟩

/-- A record is among those known, and the next `SEQ` lies beyond its. -/
def Logged (r : Record) (s : State) : Prop := r ∈ s.cal.recs ∧ r.seq < s.cal.seq

theorem scanRecord_keepsLogged {r : Record} (b : Bool) (x : RecordRead) (s : State) (h : Logged r s) : Logged r (when b (scanRecord x) s) := by
  cases b with
  | false => exact h
  | true =>
    obtain ⟨hrecs, hseq⟩ := scanRecord_logs x s
    obtain ⟨hmem, hlt⟩ := h
    rw [when_true]
    unfold Logged
    rw [hseq]
    refine ⟨?_, lt_of_lt_of_le hlt (Nat.le_max_left _ _)⟩
    rcases hrecs with hrecs | ⟨_, hrecs⟩ <;> rw [hrecs]
    · exact List.mem_append_left _ hmem
    · exact hmem

/-- A scan knows every good record of the sectors that it reads. -/
theorem scanLog_logged {n : Nat} {listed : List Nat} {reads : List RecordRead} {x : RecordRead} (hx : x ∈ reads)
    (hgood : recordGood x.record = true) (hok : scanned n listed x.record.sector = true) (s : State) : Logged x.record (scanLog n listed reads s) := by
  have hin : x ∈ scanOrder reads := by
    unfold scanOrder
    rw [List.mem_append, List.mem_filter, List.mem_filter]
    by_cases h5 : x.record.typ = 5
    · exact .inl ⟨hx, beq_iff_eq.mpr h5⟩
    · exact .inr ⟨hx, bne_iff_ne.mpr h5⟩
  refine foldl_reaches (P := Logged x.record) (fun u y hu => scanRecord_keepsLogged _ y u hu) (fun u => ?_) hin s
  obtain ⟨hrecs, hseq⟩ := scanRecord_logs x u
  have hrecs' : (scanRecord x u).cal.recs = u.cal.recs ++ [x.record] := hrecs.resolve_right fun h => by
    rw [hgood] at h
    exact absurd h.1 (by decide)
  rw [hok, when_true]
  unfold Logged
  rw [hrecs', hseq]
  exact ⟨List.mem_append_right _ (List.mem_singleton_self _), lt_of_lt_of_le (Nat.lt_succ_self _) (Nat.le_max_right _ _)⟩

/-! ### The judgement of what is read (R521) -/

/-- A read of a record that is neither worn nor old asks for nothing. -/
theorem judgeRead_sound {corr : Nat} {r : Record} {s : State} (hcorr : corr < cfgF s (calO Reg.CAL_REFRESH) 19 16)
    (hage : s.cal.powered < r.written + cfgF s (calO Reg.CAL_REFRESH) 9 0 * 86400) : judgeRead corr r s = s := by
  have hworn : decide ((cfg s (calO Reg.CAL_REFRESH)).field 19 16 ≤ corr) = false := decide_eq_false (Nat.not_le.mpr hcorr)
  have hold : decide (r.written + (cfg s (calO Reg.CAL_REFRESH)).field 9 0 * 86400 ≤ s.cal.powered) = false := decide_eq_false (Nat.not_le.mpr hage)
  unfold judgeRead
  dsimp only
  rw [hworn, hold]
  rfl

theorem cfgF_eq {l : List Part} {s t : State} (h : Only l s t) (hp : l.contains .params = false) (ha : l.contains .active = false)
    (off hi lo : Nat) : cfgF t off hi lo = cfgF s off hi lo := by
  unfold cfgF
  rw [h.cfg_eq hp ha off]

/-! ### What a scan leaves -/

/-- The scan's state before it judges what it has read. -/
theorem scan_before {s : State} (listed : List Nat) (active : Option Nat) (ptr : Nat) (infos : List SectorInfo) (reads : List RecordRead) :
    Keeps scanKept s (scanReady (scanLog (flashCount s) listed reads (scanPlace active ptr (scanHeads (flashCount s) listed infos (scanFresh listed s))))) :=
  ((Keeps.trans (show Keeps scanKept s (scanFresh listed s) from rfl) (scanHeads_kept _ _ _ _)).trans
    (show Keeps scanKept _ (scanPlace active ptr _) from rfl)).trans
    ((scanLog_kept _ _ _ _).trans (show Keeps scanKept _ (scanReady _) from rfl))

theorem scanLog_only (n : Nat) (listed : List Nat) (reads : List RecordRead) (s : State) : Only [.live, .flt, .cal] s (scanLog n listed reads s) :=
  (Only.refl _ s).foldl _ _ fun _ x => (Only.refl _ _).when _ _ fun u => scanRecord_only x u

theorem scan_before_only {s : State} (listed : List Nat) (active : Option Nat) (ptr : Nat) (infos : List SectorInfo) (reads : List RecordRead) :
    Only [.live, .flt, .cal] s (scanReady (scanLog (flashCount s) listed reads (scanPlace active ptr (scanHeads (flashCount s) listed infos
      (scanFresh listed s))))) :=
  (((((modCal_only _ s).mono rfl : Only [.live, .flt, .cal] s (scanFresh listed s)).via (scanHeads_only _ _ _ _) rfl).via (modCal_only _ _) rfl).via
    (scanLog_only _ _ _ _) rfl).via (modCal_only _ _) rfl

theorem scan_empty {s : State} (hawake : awake s = true) (hst : s.cal.state = .scan) (hqueue : s.cal.queue = []) (hredo : s.cal.redo = none)
    (hdrain : s.cal.drain = []) (hs : List SectorHeader) {l : List SectorImage} (hl : l.flatMap sectorRecords = []) :
    ∃ t, exec (.flashScanDone hs l) s = .next t ∧ t.cal.state = .ready ∧ t.cal.recs = [] ∧ t.cal.found = 0 ∧ t.cal.seq = 1 ∧ t.flt = s.flt := by
  obtain ⟨listed, active, ptr, heq, _⟩ := scanDone_stages hs l s
  have hkept := scan_before (s := s) listed active ptr (hs.map (sectorInfo l)) []
  have hlogged := scanHeads_logged (flashCount s) listed (hs.map (sectorInfo l)) (scanFresh listed s)
  have honly := scanHeads_only (flashCount s) listed (hs.map (sectorInfo l)) (scanFresh listed s)
  rw [hl] at heq
  generalize scanHeads (flashCount s) listed (hs.map (sectorInfo l)) (scanFresh listed s) = u at heq hkept hlogged honly
  obtain ⟨hq, hr, hd, _⟩ := hkept.scanKept_parts
  have hgo : scanDone hs l s = scanReady (scanPlace active ptr u) := heq.trans (calGo_idle (hr.trans hredo) (hd.trans hdrain) (hq.trans hqueue))
  obtain ⟨hrecs, hseq⟩ := Prod.mk.inj (show (u.cal.recs, u.cal.seq) = ([], (s.cal.redo.map (fun x => x.2.seq + 1)).getD 1) from hlogged)
  rw [hredo] at hseq
  refine ⟨_, act_runs hawake (by rw [hst]; rfl), ?_⟩
  rw [hgo]
  refine ⟨rfl, hrecs, ?_, hseq, honly.keeps .flt rfl⟩
  have hnone : ∀ typ key, winner (scanPlace active ptr u) typ key = none := fun typ key => by
    unfold winner
    rw [show (scanPlace active ptr u).cal.recs = [] from hrecs]
    rfl
  show foundTypes (scanPlace active ptr u) = 0
  unfold foundTypes
  simp only [hnone]
  decide

theorem scan_full {s : State} (hawake : awake s = true) (hst : s.cal.state = .scan) (hqueue : s.cal.queue = []) (hredo : s.cal.redo = none)
    (hdrain : s.cal.drain = []) (hcold : s.boot.cold = true) (hs : List SectorHeader) {l : List SectorImage}
    (hl : ∀ y, y ∈ l.flatMap sectorRecords → y.record.typ ≠ 5 ∧ y.corr < cfgF s (calO Reg.CAL_REFRESH) 19 16 ∧
      s.cal.powered < y.record.written + cfgF s (calO Reg.CAL_REFRESH) 9 0 * 86400) :
    ∃ t, exec (.flashScanDone hs l) s = .next t ∧ t.cal.state = .ready ∧ t.cal.queue = [] ∧ t.cal.prog = s.cal.prog ∧
      ∀ x, x ∈ l.flatMap sectorRecords → recordGood x.record = true → x.record.sector < flashCount s →
        x.record ∈ t.cal.recs ∧ x.record.seq < t.cal.seq := by
  obtain ⟨listed, active, ptr, heq, hlisted⟩ := scanDone_stages hs l s
  have hnone : winnerRaw ((l.flatMap sectorRecords).map (·.record)) 5 0 = none := winnerRaw_none (fun r hr => by
    obtain ⟨y, hy, rfl⟩ := List.mem_map.mp hr
    exact (hl y hy).1) 0
  rw [hlisted hcold hnone] at heq
  generalize l.flatMap sectorRecords = reads at heq hl ⊢
  have hkept := scan_before (s := s) [] active ptr (hs.map (sectorInfo l)) reads
  have honly := scan_before_only (s := s) [] active ptr (hs.map (sectorInfo l)) reads
  have hlog : ∀ x, x ∈ reads → recordGood x.record = true → x.record.sector < flashCount s → Logged x.record (scanLog (flashCount s) [] reads
      (scanPlace active ptr (scanHeads (flashCount s) [] (hs.map (sectorInfo l)) (scanFresh [] s)))) := fun x hx hgood hlt =>
    scanLog_logged hx hgood (by simp [scanned, hlt]) _
  generalize scanLog (flashCount s) [] reads (scanPlace active ptr (scanHeads (flashCount s) [] (hs.map (sectorInfo l)) (scanFresh [] s))) = u
    at heq hkept honly hlog
  obtain ⟨hq, hr, hd, hp, hpow⟩ := hkept.scanKept_parts
  have hjudge : scanJudge reads (scanReady u) = scanReady u := foldl_fixed fun x hx => by
    obtain ⟨_, hcorr, hage⟩ := hl x hx
    have hid : judgeRead x.corr x.record (scanReady u) = scanReady u := judgeRead_sound (by rw [cfgF_eq honly rfl rfl]; exact hcorr)
      (by rw [cfgF_eq honly rfl rfl, hpow]; exact hage)
    unfold Machine.when
    rw [hid]
    exact ite_self _
  rw [hjudge, calGo_idle (hr.trans hredo) (hd.trans hdrain) (hq.trans hqueue)] at heq
  refine ⟨_, act_runs hawake (by rw [hst]; rfl), ?_⟩
  rw [heq]
  exact ⟨rfl, hq.trans hqueue, hp, fun x hx hgood hlt => hlog x hx hgood hlt⟩

end Sys2Proof.Machine
end

section
/-! SUPPORT. The calibration store at work: programs, erases, reclaims and their limits (R507, R517 to R525). -/

namespace Sys2Proof.Machine

/-! ### What the store registers stays registered -/

theorem openFor_keepsRaised {write : State → State} (h : ∀ u, KeepsRaised u (write u)) (i : Nat) (s : State) :
    KeepsRaised s (openFor i s write) := by
  unfold openFor
  exact .ite ((modCal_only _ s).keepsRaised rfl) (((openSector_only i s).keepsRaised rfl).trans (h _))

theorem markRetired_keepsRaised (i : Nat) (s : State) : KeepsRaised s (markRetired i s) := by
  unfold markRetired
  exact (((setFlash_only i _ s).keepsRaised rfl).trans ((modCal_only _ _).keepsRaised rfl)).trans (raiseOn_keepsRaised _ _ _ _ _)

theorem storeFull_keepsRaised (s : State) : KeepsRaised s (storeFull s) := by
  unfold storeFull
  exact (((((modCal_only _ s).keepsRaised rfl).trans ((bumpBy_only _ _ _).keepsRaised rfl)).trans
    (KeepsRaised.when (fun u => (stcmdStat_only 3 u).keepsRaised rfl) _ _)).trans (raiseOn_keepsRaised _ _ _ _ _)).trans
    (KeepsRaised.foldl (fun u i => markRetired_keepsRaised i u) _ _)

theorem makeRoom_keepsRaised {write : State → State} (h : ∀ u, KeepsRaised u (write u)) (len : Nat) (s : State) :
    KeepsRaised s (makeRoom len s write) := by
  have hcal : ∀ f, KeepsRaised s (modCal f s) := fun f => (modCal_only f s).keepsRaised rfl
  unfold makeRoom
  refine .ite (h s) ?_
  split
  · exact openFor_keepsRaised h _ s
  · dsimp only
    split
    · exact .ite (hcal _) (hcal _)
    · exact storeFull_keepsRaised s

theorem retireSector_keepsRaised (i : Nat) (s : State) : KeepsRaised s (retireSector i s) := by
  have hmark : KeepsRaised s (modCal (fun c => { c with recs := c.recs.filter (fun r => r.sector != i) }) (markRetired i s)) :=
    (markRetired_keepsRaised i s).trans ((modCal_only _ _).keepsRaised rfl)
  unfold retireSector
  exact .ite hmark (.ite (hmark.trans ((modCal_only _ _).keepsRaised rfl))
    ((hmark.trans ((bump_only _ _).keepsRaised rfl)).trans ((modCal_only _ _).keepsRaised rfl)))

theorem calRun_keepsRaised (n : Nat) (s : State) : KeepsRaised s (calRun n s) := by
  have hprog : ∀ req r (f : CalStore → CalStore) u, KeepsRaised u (programAt req r (modCal f u)) := fun req r f u =>
    ((modCal_only f u).keepsRaised rfl).trans ((programAt_only req r _).keepsRaised rfl)
  induction n generalizing s with
  | zero => exact .refl s
  | succ n ih =>
    unfold calRun
    dsimp only
    refine .ite (.refl s) ?_
    split
    · exact makeRoom_keepsRaised (fun u => hprog _ _ _ u) _ s
    · split
      · split
        · exact makeRoom_keepsRaised (fun u => ((modCal_only _ u).keepsRaised rfl).trans ((programAt_only _ _ _).keepsRaised rfl)) _ s
        · exact .ite ((((modCal_only _ s).keepsRaised rfl).trans (retireSector_keepsRaised _ _)).trans (ih _)) ((modCal_only _ s).keepsRaised rfl)
      · split
        · exact .refl s
        · exact makeRoom_keepsRaised (fun u => hprog _ _ _ u) _ s

theorem calGo_keepsRaised (s : State) : KeepsRaised s (calGo s) := (calRun_keepsRaised 8 s).trans (calRun_keepsRaised 8 _)

theorem programFailed_keepsRaised (p : Program) (s : State) : KeepsRaised s (programFailed p s) := by
  unfold programFailed
  dsimp only
  refine .ite (((modCal_only _ s).keepsRaised rfl).trans ((modCal_only _ _).keepsRaised rfl)) (KeepsRaised.trans ?_ (calGo_keepsRaised _))
  split
  · exact ((modCal_only _ s).keepsRaised rfl).trans (openFor_keepsRaised (fun u => .refl u) _ _)
  · exact (modCal_only _ s).keepsRaised rfl

theorem eraseFailed_keepsRaised (i : Nat) (s : State) : KeepsRaised s (eraseFailed i s) := by
  have hretired : ∀ f, KeepsRaised s (retireSector i (modCal f s)) := fun f =>
    ((modCal_only f s).keepsRaised rfl).trans (retireSector_keepsRaised i _)
  unfold eraseFailed
  exact .ite ((hretired _).trans ((modCal_only _ _).keepsRaised rfl)) ((hretired _).trans (calGo_keepsRaised _))

/-! ### The store that programs a record -/

theorem openable_eq {s t : State} (hsecs : t.cal.secs = s.cal.secs) (hdens : t.cal.density = s.cal.density) : openable t = openable s := by
  unfold openable erasedSecs inService flashCount flashSec
  rw [hsecs, hdens]

/-- A write that comes while a record is programmed waits in the queue. -/
theorem calPush_waits {r : CalReq} {s : State} (hst : s.cal.state = .ready) (hprog : s.cal.prog.isSome = true) (hlen : s.cal.queue.length < 16)
    (hnew : (r.payload.isNone && !r.copy && s.cal.queue.any (fun x => x.typ == r.typ && x.key == r.key && x.payload.isNone && !x.copy)) = false) :
    calPush r s = modCal (fun c => { c with queue := c.queue ++ [r], capture := c.capture || r.capt }) s := by
  unfold calPush
  dsimp only
  rw [hst, hnew, if_neg (by decide), if_neg (by decide), if_neg (by decide), if_neg (by omega)]
  exact calGo_busy (.inl hprog)

theorem owed_queued {s : State} {typ key : Nat} (hawake : awake s = true) (howed : (typ, key) ∈ s.cal.owed) (hst : s.cal.state = .ready)
    (hprog : s.cal.prog.isSome = true) (hlen : s.cal.queue.length < 16) (hnew : ∀ x, x ∈ s.cal.queue → x.typ ≠ typ ∨ x.key ≠ key) :
    ∃ t, exec (.calWriteRequest typ key) s = .next t ∧ (typ, key) ∉ t.cal.owed ∧
      t.cal.queue = s.cal.queue ++ [⟨typ, key, false, none, 0, false, false⟩] ∧ Only [.cal] s t := by
  have hother : s.cal.queue.any (fun x => x.typ == typ && x.key == key && x.payload.isNone && !x.copy) = false :=
    List.any_eq_false.mpr fun x hx => by
      rcases hnew x hx with h | h <;> simp [h]
  refine ⟨_, act_runs hawake (List.contains_iff_mem.mpr howed), ?_⟩
  unfold blockWrite
  rw [calPush_waits (s := modCal (fun c => { c with owed := c.owed.filter (· != (typ, key)) }) s) hst hprog hlen
    (by rw [Bool.and_eq_false_iff]; exact .inr hother)]
  refine ⟨fun h => ?_, rfl, ((modCal_only _ s).mono rfl : Only [.cal] s _).via (modCal_only _ _) rfl⟩
  have hne := (List.mem_filter.mp (show (typ, key) ∈ s.cal.owed.filter (· != (typ, key)) from h)).2
  simp at hne

theorem exec_programDone {s : State} {p : Program} (hawake : awake s = true) (hprog : s.cal.prog = some p) :
    exec (.flashProgramDone .failed) s = .next (stopCheck (programFailed p s)) ∧
    ∀ m, exec (.flashProgramDone (.readBack m)) s = .next (stopCheck (if m == recordImage p.record then programDone p s else programFailed p s)) := by
  refine ⟨?_, fun m => ?_⟩
  · show execFlashProgramDone .failed s = _
    unfold execFlashProgramDone
    rw [hprog]
    exact act_runs hawake rfl
  · show execFlashProgramDone (.readBack m) s = _
    unfold execFlashProgramDone
    rw [hprog]
    exact act_runs hawake rfl

/-- Blocks that do not read back as the record's are answered as the part's error. -/
theorem readBack_other (s : State) (r : Record) {m : List (List Byte)} (h : m ≠ recordImage r) :
    exec (.flashProgramDone (.readBack m)) s = exec (.flashProgramDone .failed) s ∨ s.cal.prog.map (·.record) ≠ some r := by
  show execFlashProgramDone (.readBack m) s = execFlashProgramDone .failed s ∨ _
  unfold execFlashProgramDone
  cases hprog : s.cal.prog with
  | none => exact .inl rfl
  | some p =>
    by_cases hr : p.record = r
    · refine .inl ?_
      dsimp only
      rw [hr, beq_false_of_ne h]
      rfl
    · exact .inr fun heq => hr (Option.some.inj heq)

theorem page_done {s : State} {p : Program} (hawake : awake s = true) (hprog : s.cal.prog = some p)
    (hpage : p.page + 1 < pageCount s.cal.drive.page p.record) : ∃ t, exec (.flashProgramDone .page) s = .next t ∧
      t.cal = { s.cal with prog := some { p with page := p.page + 1, from0 := now s } } ∧ Only [.cal] s t := by
  refine ⟨_, ?_, ?_, modCal_only (fun c => { c with prog := some { p with page := p.page + 1, from0 := now s } }) s⟩
  · show execFlashProgramDone .page s = _
    unfold execFlashProgramDone
    rw [hprog]
    exact act_runs hawake (decide_eq_true hpage)
  · rfl

/-- The store after a record's programming, before it goes on. -/
def recordTaken (p : Program) (s : State) : State :=
  modCal (fun c => { c with
    prog := none, recs := c.recs ++ [p.record], ptr := p.record.block + recBlocks p.record.len
    capture := c.capture && (!p.req.capt || c.queue.any (fun r => r.capt)) }) s

/-- A written record is counted, and a store command's last one completes it. -/
def recordCounted (p : Program) (s : State) : State :=
  when p.req.last (stcmdStat 2) (when p.req.copy (bump (calO Reg.CAL_REWRITES)) (bump (calO Reg.CAL_WRITES) s))

theorem recordCounted_cal (p : Program) (s : State) : (recordCounted p s).cal = { s.cal with cmdStat := if p.req.last then 2 else s.cal.cmdStat } := by
  have hcounted : (when p.req.copy (bump (calO Reg.CAL_REWRITES)) (bump (calO Reg.CAL_WRITES) s)).cal = s.cal :=
    (((bump_only _ s).mono rfl : Only [.live] s _).via ((Only.refl [.live] _).when _ _ fun u => bump_only _ u) rfl).keeps .cal rfl
  unfold recordCounted
  cases p.req.last with
  | false => exact hcounted
  | true =>
    rw [when_true]
    unfold stcmdStat
    rw [modCal_cal, hcounted]
    rfl

theorem recordCounted_live (p : Program) (s : State) : live (recordCounted p s) = live (when p.req.copy (bump (calO Reg.CAL_REWRITES)) (bump (calO Reg.CAL_WRITES) s)) := by
  unfold recordCounted
  cases p.req.last with
  | false => rfl
  | true => rfl

theorem recordCounted_counts (p : Program) (s : State) :
    (p.req.copy = false → (live (recordCounted p s) (calO Reg.CAL_WRITES)).toNat = Nat.min ((live s (calO Reg.CAL_WRITES)).toNat + 1) 0xFFFFFFFF) ∧
    (p.req.copy = true → (live (recordCounted p s) (calO Reg.CAL_REWRITES)).toNat = Nat.min ((live s (calO Reg.CAL_REWRITES)).toNat + 1) 0xFFFFFFFF) := by
  rw [recordCounted_live]
  refine ⟨fun h => ?_, fun h => ?_⟩
  · rw [h, when_false]
    exact bump_toNat _ _
  · rw [h, when_true, bump_toNat, live_bump_other (by decide)]

/-- A store that owes nothing is idle after a record that was programmed. -/
theorem programDone_idle {s : State} {p : Program} (hst : s.cal.state = .ready) (hqueue : s.cal.queue = []) (hdrain : s.cal.drain = [])
    (hredo : s.cal.redo = none) : programDone p s = recordCounted p (recordTaken p s) := by
  have hcal := recordCounted_cal p (recordTaken p s)
  have hgo : calGo (recordCounted p (recordTaken p s)) = recordCounted p (recordTaken p s) := calGo_idle
    (by rw [hcal]; exact hredo) (by rw [hcal]; exact hdrain) (by rw [hcal]; exact hqueue)
  unfold programDone
  dsimp only
  change (if (recordCounted p (recordTaken p s)).cal.state = .discover then _ else if _ then recordCounted p (recordTaken p s)
    else calGo (recordCounted p (recordTaken p s))) = _
  rw [if_neg (by rw [hcal]; simp [recordTaken, modCal, hst]), hgo]
  exact ite_self _

theorem readBack_good {s : State} {p : Program} (hawake : awake s = true) (hprog : s.cal.prog = some p) (hst : s.cal.state = .ready)
    (hqueue : s.cal.queue = []) (hdrain : s.cal.drain = []) (hredo : s.cal.redo = none) :
    ∃ t, exec (.flashProgramDone (.readBack (recordImage p.record))) s = .next t ∧ t.cal.prog = none ∧ t.cal.recs = s.cal.recs ++ [p.record] ∧
      t.cal.ptr = p.record.block + recBlocks p.record.len ∧ (p.req.last = true → t.cal.cmdStat = 2) ∧
      (p.req.copy = false → (live t (calO Reg.CAL_WRITES)).toNat = Nat.min ((live s (calO Reg.CAL_WRITES)).toNat + 1) 0xFFFFFFFF) ∧
      (p.req.copy = true → (live t (calO Reg.CAL_REWRITES)).toNat = Nat.min ((live s (calO Reg.CAL_REWRITES)).toNat + 1) 0xFFFFFFFF) := by
  refine ⟨_, (exec_programDone hawake hprog).2 _, ?_⟩
  rw [if_pos (beq_self_eq_true _), programDone_idle hst hqueue hdrain hredo, stopCheck_cal, recordCounted_cal,
    (stopCheck_only _).live_eq rfl rfl, (stopCheck_only _).live_eq rfl rfl]
  exact ⟨rfl, rfl, rfl, fun hlast => if_pos hlast, recordCounted_counts p (recordTaken p s)⟩

/-! ### A program that fails -/

/-- A failed program gives up its sector, and its record is to be written again. -/
def programLost (p : Program) (s : State) : State :=
  modCal (fun c => { c with
    prog := none, active := none, redo := some (p.req, p.record), drain := c.drain ++ [(p.record.sector, true)] }) s

theorem programFailed_opens {s : State} {p : Program} {i : Nat} (hst : s.cal.state = .ready) (hopen : openable s = some i) :
    programFailed p s = calGo (openFor i (programLost p s) (fun s => s)) := by
  have hlost : openable (programLost p s) = some i := (openable_eq rfl rfl).trans hopen
  unfold programFailed
  rw [if_neg (by rw [hst]; decide)]
  change calGo (match openable (programLost p s) with
    | some i => openFor i (programLost p s) (fun s => s)
    | none => programLost p s) = _
  rw [hlost]

theorem failed_dirty {s : State} {p : Program} {i : Nat} (hawake : awake s = true) (hprog : s.cal.prog = some p) (hst : s.cal.state = .ready)
    (hopen : openable s = some i) (hdirty : (flashSec s i).dirty = true) :
    ∃ t, exec (.flashProgramDone .failed) s = .next t ∧ t.cal.erase = some (i, now s) ∧ t.cal.redo = some (p.req, p.record) := by
  refine ⟨_, (exec_programDone hawake hprog).1, ?_⟩
  have hfor : openFor i (programLost p s) (fun s => s) = modCal (fun c => { c with erase := some (i, now s) }) (programLost p s) := if_pos hdirty
  rw [programFailed_opens hst hopen, hfor, calGo_busy (.inr rfl), stopCheck_cal]
  exact ⟨rfl, rfl⟩

/-- The record that is to be written again goes to the beginning of the sector just opened. -/
theorem calGo_rewrites {s : State} {req : CalReq} {r : Record} {i : Nat} (hst : s.cal.state = .ready) (hprog : s.cal.prog = none) (herase : s.cal.erase = none)
    (hredo : s.cal.redo = some (req, r)) (hactive : s.cal.active = some i) (hptr : s.cal.ptr = 0) (hfits : recBlocks r.len ≤ 124) :
    calGo s = programAt req r (modCal (fun c => { c with redo := none }) s) := by
  have hroom : roomFor s r.len = true := by
    unfold roomFor
    rw [hactive, hptr, Nat.zero_add, decide_eq_true hfits]
    rfl
  have hrun : calRun 8 s = programAt req r (modCal (fun c => { c with redo := none }) s) := by
    unfold calRun
    dsimp only
    rw [hst, hprog, herase, hredo]
    unfold makeRoom
    exact (if_neg (by decide)).trans (if_pos hroom)
  unfold calGo
  rw [hrun]
  exact calRun_busy (.inl rfl) 8

theorem failed_clean {s : State} {p : Program} {i : Nat} (hawake : awake s = true) (hprog : s.cal.prog = some p) (hst : s.cal.state = .ready)
    (hopen : openable s = some i) (hclean : (flashSec s i).dirty = false) (hfits : recBlocks p.record.len ≤ 124) (herase : s.cal.erase = none) :
    ∃ t, exec (.flashProgramDone .failed) s = .next t ∧
      t.cal.active = some i ∧ t.cal.redo = none ∧ (p.record.sector, true) ∈ t.cal.drain ∧
      ∃ p', t.cal.prog = some p' ∧ p'.req = p.req ∧ p'.record = { p.record with sector := i, block := 0 } := by
  refine ⟨_, (exec_programDone hawake hprog).1, ?_⟩
  have hfor : openFor i (programLost p s) (fun s => s) = openSector i (programLost p s) :=
    if_neg (show ¬ (flashSec s i).dirty = true by rw [hclean]; decide)
  rw [programFailed_opens hst hopen, hfor, calGo_rewrites (s := openSector i (programLost p s)) hst rfl herase rfl rfl rfl hfits, stopCheck_cal]
  exact ⟨rfl, rfl, List.mem_append_right _ (List.mem_singleton_self _), _, rfl, rfl, rfl⟩

/-- In a discovery the record waits until the part is read again. -/
theorem failed_rediscovered {s : State} {p : Program} (hawake : awake s = true) (hprog : s.cal.prog = some p) (hst : s.cal.state = .discover) :
    ∃ t, exec (.flashProgramDone .failed) s = .next t ∧ t.cal.prog = none ∧ t.cal.step = 0 ∧ t.cal.redo = some (p.req, p.record) ∧
      t.cal.drain = s.cal.drain ++ [(p.record.sector, true)] ∧ t.cal.secs = s.cal.secs ∧ Only [.cal] s t := by
  have hfailed : programFailed p s = modCal (fun c => { c with step := 0, from0 := now s }) (programLost p s) := if_pos hst
  have hstop : stopCheck (programFailed p s) = programFailed p s := by
    rw [hfailed]
    unfold stopCheck
    rw [show (modCal (fun c => { c with step := 0, from0 := now s }) (programLost p s)).cal.redo.isNone = false from rfl, Bool.and_false]
    rfl
  refine ⟨_, (exec_programDone hawake hprog).1, ?_⟩
  rw [hstop, hfailed]
  exact ⟨rfl, rfl, rfl, rfl, rfl, ((modCal_only _ s).mono rfl : Only [.cal] s _).via (modCal_only _ _) rfl⟩

/-! ### Erases and reclaims (R507, R520, R523) -/

theorem exec_eraseDone {s : State} {i t0 : Nat} (hawake : awake s = true) (herase : s.cal.erase = some (i, t0)) (ok : Bool) :
    exec (.flashEraseDone ok) s = .next (stopCheck (if ok then eraseDone i s else eraseFailed i s)) := by
  show execFlashEraseDone ok s = _
  unfold execFlashEraseDone
  rw [herase]
  exact act_runs hawake rfl

theorem flashSec_setFlash (i : Nat) (f : FlashSec) (s : State) : flashSec (setFlash i f s) i = f := Store.get_set_same _ _ _ _

theorem flashSec_stopCheck (i : Nat) (s : State) : flashSec (stopCheck s) i = flashSec s i := by
  unfold flashSec
  rw [stopCheck_cal]

/-- A sector that was erased, with its header formed. -/
def sectorErased (i : Nat) (s : State) : State :=
  setFlash i { flashSec s i with
    erases := (flashSec s i).erases + 1, openSeq := 0, erased := true, dirty := false, head := headBytes ((flashSec s i).erases + 1) 0 }
    (modCal (fun c => { c with
      erase := none, drain := c.drain.filter (fun x => x.1 != i), recs := c.recs.filter (fun r => r.sector != i) }) s)

theorem erase_done {s : State} {i t0 : Nat} (hawake : awake s = true) (herase : s.cal.erase = some (i, t0)) (hst : s.cal.state = .ready)
    (hqueue : s.cal.queue = []) (hredo : s.cal.redo = none) (hdrain : s.cal.drain = [(i, false)]) :
    ∃ t, exec (.flashEraseDone true) s = .next t ∧ t.cal.erase = none ∧ t.cal.drain = [] ∧
      flashSec t i = { flashSec s i with erases := (flashSec s i).erases + 1, openSeq := 0, erased := true, dirty := false,
                                         head := headBytes ((flashSec s i).erases + 1) 0 } ∧
      t.cal.recs = s.cal.recs.filter (fun r => r.sector != i) ∧ t.flt = s.flt := by
  have hleft : (sectorErased i s).cal.drain = [] := by
    show s.cal.drain.filter (fun x => x.1 != i) = []
    rw [hdrain]
    simp
  have hdone : eraseDone i s = sectorErased i s := by
    unfold eraseDone
    refine (if_neg (show ¬ s.cal.state = .discover by rw [hst]; decide)).trans ?_
    exact calGo_idle (s := sectorErased i s) hredo hleft hqueue
  refine ⟨_, exec_eraseDone hawake herase true, ?_⟩
  rw [if_pos rfl, hdone, flashSec_stopCheck, stopCheck_cal, (stopCheck_only _).keeps .flt rfl]
  exact ⟨rfl, hleft, flashSec_setFlash i _ _, rfl, rfl⟩

/-- A sector that leaves service is marked, and its mark is registered. -/
theorem retireSector_effect (i : Nat) (s : State) : (flashSec (retireSector i s) i).retired = true ∧ (retireSector i s).cal.erase = s.cal.erase ∧
    (retireSector i s).cal.state = s.cal.state ∧ Raised Src.CAL_SECTOR_RETIRED i s (retireSector i s) := by
  have hcal : (markRetired i s).cal = { (setFlash i { flashSec s i with retired := true } s).cal with
      active := if s.cal.active = some i then none else s.cal.active } := by
    unfold markRetired
    rw [(raiseOn_only _ _ _ _ _).keeps .cal rfl]
    rfl
  have hraised : Raised Src.CAL_SECTOR_RETIRED i s (markRetired i s) := (raiseOn_raised _ _ _ _ _).after
    (((setFlash_only _ _ s).mono rfl : Only [.cal] s _).via (modCal_only _ _) rfl) rfl rfl
  have hsec : (Store.get (markRetired i s).cal.secs flash0 i).retired = true := by
    rw [hcal]
    exact congrArg FlashSec.retired (flashSec_setFlash i { flashSec s i with retired := true } s)
  have herase : (markRetired i s).cal.erase = s.cal.erase := by rw [hcal]; rfl
  have hst : (markRetired i s).cal.state = s.cal.state := by rw [hcal]; rfl
  unfold retireSector flashSec
  dsimp only
  split
  · exact ⟨hsec, herase, hst, hraised.before (modCal_only _ _) rfl⟩
  · split
    · exact ⟨hsec, herase, hst, hraised.before (((modCal_only _ _).mono rfl : Only [.cal] (markRetired i s) _).via (modCal_only _ _) rfl) rfl⟩
    · have honly : Only [.live, .cal] (markRetired i s) (bump (calO Reg.CAL_QFULL) (modCal (fun c => { c with recs := c.recs.filter (fun r => r.sector != i) }) (markRetired i s))) :=
        ((modCal_only _ _).mono rfl : Only [.live, .cal] (markRetired i s) _).via (bump_only _ _) rfl
      have hbump : ∀ u, (bump (calO Reg.CAL_QFULL) u).cal = u.cal := fun u => (bump_only _ u).keeps .cal rfl
      rw [modCal_cal, hbump]
      exact ⟨hsec, herase, hst, hraised.before (honly.via (modCal_only _ _) rfl) rfl⟩

theorem erase_failed {s : State} {i t0 : Nat} (hawake : awake s = true) (herase : s.cal.erase = some (i, t0)) (hst : s.cal.state = .discover) :
    ∃ t, exec (.flashEraseDone false) s = .next t ∧ t.cal.erase = none ∧ (flashSec t i).retired = true ∧
      Raised Src.CAL_SECTOR_RETIRED i s t := by
  obtain ⟨hret, hnone, hstate, hraised⟩ := retireSector_effect i (modCal (fun c => { c with erase := none, drain := c.drain.filter (fun x => x.1 != i) }) s)
  have hafter := hraised.after (modCal_only _ s) rfl rfl
  refine ⟨_, exec_eraseDone hawake herase false, ?_⟩
  rw [if_neg (by decide)]
  unfold eraseFailed
  dsimp only
  generalize retireSector i (modCal (fun c => { c with erase := none, drain := c.drain.filter (fun x => x.1 != i) }) s) = u at *
  rw [if_pos (hstate.trans hst)]
  unfold flashSec at hret ⊢
  rw [stopCheck_cal]
  exact ⟨hnone, hret, (hafter.before (modCal_only _ _) rfl).before (stopCheck_only _) rfl⟩

/-! ### The limit of an operation (R525) -/

theorem program_timeout {s : State} {p : Program} (hawake : awake s = true) (hprog : s.cal.prog = some p)
    (htime : p.from0 + usTicks (cfgF s (calO Reg.CAL_FTMO) 15 0) ≤ now s) :
    exec .calOpTimeout s = .next (expire .storeOp s) ∧ RaisedAmong Src.CAL_OP_TIMEOUT p.record.sector s (timeOver .storeOp s) := by
  have hdue : opDue s = true := by
    unfold opDue
    rw [hprog]
    exact decide_eq_true htime
  refine ⟨act_runs hawake hdue, ?_⟩
  show RaisedAmong _ _ s (opOver s)
  unfold opOver
  rw [if_pos hdue, hprog]
  exact ((raiseOn_raised _ _ _ _ s).among.kept (programFailed_keepsRaised p _)).before (stopCheck_only _) rfl

theorem erase_timeout {s : State} {i t0 : Nat} (hawake : awake s = true) (herase : s.cal.erase = some (i, t0)) (hprog : s.cal.prog = none)
    (htime : t0 + msTicks (cfgF s (calO Reg.CAL_FTMO) 31 16) ≤ now s) :
    exec .calOpTimeout s = .next (expire .storeOp s) ∧ RaisedAmong Src.CAL_OP_TIMEOUT i s (timeOver .storeOp s) := by
  have hdue : opDue s = true := by
    unfold opDue
    rw [hprog, herase]
    exact decide_eq_true htime
  refine ⟨act_runs hawake hdue, ?_⟩
  show RaisedAmong _ _ s (opOver s)
  unfold opOver
  rw [if_pos hdue, hprog, herase]
  exact ((raiseOn_raised _ _ _ _ s).among.kept (eraseFailed_keepsRaised i _)).before (stopCheck_only _) rfl

theorem reclaim_begins {s : State} {i : Nat} (hawake : awake s = true) (hpick : reclaimPick s = some i) (hst : s.cal.state = .ready)
    (hprog : s.cal.prog = none) (herase : s.cal.erase = none) (hdrain : s.cal.drain = []) (hredo : s.cal.redo = none) (hnone : winnersIn s i = []) :
    ∃ t, exec .calReclaim s = .next t ∧ t.cal = { s.cal with drain := [(i, false)], erase := some (i, now s) } ∧ Only [.cal] s t := by
  have hrun : calRun 8 (modCal (fun c => { c with drain := [(i, false)] }) s) =
      modCal (fun c => { c with erase := some (i, now s) }) (modCal (fun c => { c with drain := [(i, false)] }) s) := by
    unfold calRun
    dsimp only
    rw [modCal_cal]
    dsimp only
    rw [hst, hprog, herase, hredo]
    dsimp only
    rw [show winnersIn (modCal (fun c => { c with drain := [(i, false)] }) s) i = [] from hnone]
    rfl
  have hgo : calGo (modCal (fun c => { c with drain := [(i, false)] }) s) =
      modCal (fun c => { c with erase := some (i, now s) }) (modCal (fun c => { c with drain := [(i, false)] }) s) := by
    unfold calGo
    rw [hrun]
    exact calRun_busy (.inr rfl) 8
  refine ⟨_, ?_, ?_, ((modCal_only (fun c => { c with drain := [(i, false)] }) s).mono rfl : Only [.cal] s _).via
    (modCal_only (fun c => { c with erase := some (i, now s) }) _) rfl⟩
  · show execCalReclaim s = _
    unfold execCalReclaim
    rw [hpick]
    refine (act_runs hawake (by rw [hst, hprog, herase, hdrain, hredo]; rfl)).trans ?_
    rw [hgo]
  · rfl

end Sys2Proof.Machine
end

section
/-! SUPPORT. The scrub, the store commands, and the calibration store as stated. -/

namespace Sys2Proof.Machine

/-! ### The scrub (R522) -/

theorem refresh_frame (r : Record) (s : State) : KeepsFrame s (refresh r s) := by
  unfold refresh
  exact .ite (.refl s) (calPush_frame _ s)

theorem judgeRead_frame (corr : Nat) (r : Record) (s : State) : KeepsFrame s (judgeRead corr r s) := by
  unfold judgeRead
  exact (Keeps.when (fun u => (raise_only _ _ u).keepsFrame rfl) _ s).trans (Keeps.when (fun u => refresh_frame r u) _ _)

/-- A scrub of sectors that the surroundings do not supply judges every winner's age. -/
theorem scrub_unread (s : State) : scrub [] s =
    (winners s).foldl (fun s w => judgeRead 0 w s) (modCal (fun c => { c with scrubAt := c.powered }) s) := rfl

theorem scrub_frame (s : State) : KeepsFrame (modCal (fun c => { c with scrubAt := c.powered }) s) (scrub [] s) := by
  rw [scrub_unread]
  exact Keeps.foldl (fun u w => judgeRead_frame 0 w u) _ _

theorem exec_scrubDue {s : State} (hawake : awake s = true) (hst : s.cal.state = .ready ∨ s.cal.state = .full)
    (htime : s.cal.scrubAt + cfgF s (calO Reg.CAL_JCFG) 15 8 * 3600 ≤ s.cal.powered) : exec (.calScrubDue []) s = .next (scrub [] s) :=
  act_runs hawake (by rcases hst with h | h <;> rw [h, decide_eq_true htime] <;> rfl)

theorem cfgF_modCal (f : CalStore → CalStore) (s : State) (off hi lo : Nat) : cfgF (modCal f s) off hi lo = cfgF s off hi lo :=
  cfgF_eq (modCal_only f s) rfl rfl off hi lo

theorem scrub_young {s : State} (hworn : 0 < cfgF s (calO Reg.CAL_REFRESH) 19 16)
    (hyoung : ∀ w, w ∈ winners s → s.cal.powered < w.written + cfgF s (calO Reg.CAL_REFRESH) 9 0 * 86400) :
    scrub [] s = modCal (fun c => { c with scrubAt := c.powered }) s := by
  rw [scrub_unread]
  exact foldl_fixed fun w hw => judgeRead_sound (by rw [cfgF_modCal]; exact hworn) (by rw [cfgF_modCal]; exact hyoung w hw)

/-- A winner too old is copied, where no write of it waits. -/
theorem judgeRead_old {w : Record} {s : State} (hworn : 0 < cfgF s (calO Reg.CAL_REFRESH) 19 16)
    (hold : w.written + cfgF s (calO Reg.CAL_REFRESH) 9 0 * 86400 ≤ s.cal.powered) (hst : s.cal.state = .ready) (hprog : s.cal.prog.isSome = true)
    (hqueue : s.cal.queue = []) : (judgeRead 0 w s).cal.queue = [⟨w.typ, w.key, true, none, 0, false, false⟩] := by
  have hno : decide ((cfg s (calO Reg.CAL_REFRESH)).field 19 16 ≤ 0) = false := decide_eq_false (Nat.not_le.mpr hworn)
  have hyes : decide (w.written + (cfg s (calO Reg.CAL_REFRESH)).field 9 0 * 86400 ≤ s.cal.powered) = true := decide_eq_true hold
  unfold judgeRead
  dsimp only
  rw [hno, hyes, when_false, Bool.or_true, when_true]
  unfold refresh
  rw [if_neg (by rw [hqueue]; exact Bool.false_ne_true), calPush_waits hst hprog (by rw [hqueue]; decide) (by rw [hqueue]; rfl), modCal_cal]
  dsimp only
  rw [hqueue]
  rfl

theorem scrub_due {s : State} (hawake : awake s = true) (hst : s.cal.state = .ready ∨ s.cal.state = .full)
    (htime : s.cal.scrubAt + cfgF s (calO Reg.CAL_JCFG) 15 8 * 3600 ≤ s.cal.powered) (hworn : 0 < cfgF s (calO Reg.CAL_REFRESH) 19 16) :
    ((∀ w, w ∈ winners s → s.cal.powered < w.written + cfgF s (calO Reg.CAL_REFRESH) 9 0 * 86400) →
      ∃ t, exec (.calScrubDue []) s = .next t ∧ t.cal = { s.cal with scrubAt := s.cal.powered } ∧ Only [.cal] s t) ∧
    (∀ w, winners s = [w] → w.written + cfgF s (calO Reg.CAL_REFRESH) 9 0 * 86400 ≤ s.cal.powered → s.cal.state = .ready →
      s.cal.prog.isSome = true → s.cal.queue = [] →
      ∃ t, exec (.calScrubDue []) s = .next t ∧ t.cal.queue = [⟨w.typ, w.key, true, none, 0, false, false⟩]) := by
  have hexec := exec_scrubDue hawake hst htime
  refine ⟨fun hyoung => ⟨_, hexec, ?_⟩, fun w hwin hold hready hprog hqueue => ⟨_, hexec, ?_⟩⟩
  · rw [scrub_young hworn hyoung]
    exact ⟨rfl, modCal_only _ s⟩
  · rw [scrub_unread, hwin]
    exact judgeRead_old (s := modCal (fun c => { c with scrubAt := c.powered }) s) (by rw [cfgF_modCal]; exact hworn)
      (by rw [cfgF_modCal]; exact hold) hready hprog hqueue

/-! ### Store commands (R513, R528) -/

theorem saveWord_fields (key : BitVec 4) : Word.field (BitVec.ofNat 32 (1 + 16 * (0 : BitVec 3).toNat + 256 * key.toNat)) 3 0 = 1 ∧
    Word.field (BitVec.ofNat 32 (1 + 16 * (0 : BitVec 3).toNat + 256 * key.toNat)) 6 4 = 0 := by
  revert key
  decide

theorem tombstoneWord_fields (typ key : BitVec 4) : Word.field (BitVec.ofNat 32 (3 + 256 * key.toNat + 65536 * typ.toNat)) 3 0 = 3 ∧
    Word.field (BitVec.ofNat 32 (3 + 256 * key.toNat + 65536 * typ.toNat)) 19 16 = typ.toNat ∧
    Word.field (BitVec.ofNat 32 (3 + 256 * key.toNat + 65536 * typ.toNat)) 11 8 = key.toNat := by
  revert typ key
  decide

theorem stCommand_save (key : BitVec 4) (s : State) : ∃ k, stCommand (BitVec.ofNat 32 (1 + 16 * (0 : BitVec 3).toNat + 256 * key.toNat)) [] s =
    saveCmd 0 k s := by
  obtain ⟨hop, hscope⟩ := saveWord_fields key
  unfold stCommand
  dsimp only
  rw [hop, hscope]
  exact ⟨_, if_pos rfl⟩

theorem stCommand_tombstone (typ key : BitVec 4) (s : State) : stCommand (BitVec.ofNat 32 (3 + 256 * key.toNat + 65536 * typ.toNat)) [] s =
    tombstoneCmd typ.toNat key.toNat s := by
  obtain ⟨hop, htyp, hkey⟩ := tombstoneWord_fields typ key
  unfold stCommand
  dsimp only
  rw [hop, htyp, hkey]
  rfl

theorem stCommand_scrub {s : State} (hst : s.cal.state = .ready) : stCommand 2 [] s = stcmdStat 0 (scrub [] (beginStcmd 2 s)) := by
  unfold stCommand
  dsimp only
  rw [show Word.field 2 3 0 = 2 by decide]
  exact (if_neg (by decide)).trans ((if_pos rfl).trans (if_pos (by rw [hst]; rfl)))

/-- What the last store command leaves of the queue: as many writes, none of them its own. -/
theorem beginStcmd_cal (op : Nat) (s : State) : (beginStcmd op s).cal.state = s.cal.state ∧ (beginStcmd op s).cal.prog.isSome = s.cal.prog.isSome ∧
    (beginStcmd op s).cal.queue.length = s.cal.queue.length ∧ (beginStcmd op s).cal.capture = s.cal.capture ∧ (beginStcmd op s).cal.cmdOp = op :=
  ⟨rfl, Option.isSome_map .., List.length_map .., rfl, rfl⟩

/-- A store command's write waits behind a program in progress, as the last one's. -/
theorem command_queued {r : CalReq} {op : Nat} {s : State} (hst : s.cal.state = .ready) (hprog : s.cal.prog.isSome = true)
    (hlen : s.cal.queue.length < 16) (hpay : r.payload.isSome = true) :
    (calPush r (stcmdStat 1 (beginStcmd op s))).cal.cmdStat = 1 ∧ (calPush r (stcmdStat 1 (beginStcmd op s))).cal.cmdOp = op ∧
      (calPush r (stcmdStat 1 (beginStcmd op s))).cal.capture = (s.cal.capture || r.capt) ∧
      (calPush r (stcmdStat 1 (beginStcmd op s))).cal.queue.getLast? = some r := by
  obtain ⟨hstate, hbusy, hlength, _, _⟩ := beginStcmd_cal op s
  rw [calPush_waits (s := stcmdStat 1 (beginStcmd op s)) (hstate.trans hst) (hbusy.trans hprog) (lt_of_eq_of_lt hlength hlen)
    (by rw [show r.payload.isNone = false by rw [← Option.not_isSome, hpay]; rfl]; rfl)]
  exact ⟨rfl, rfl, rfl, List.getLast?_concat⟩

/-- A refused store command. -/
def storeRefused (op : Nat) (s : State) : State := stcmdStat 3 (refuse 0x06 (beginStcmd op s))

theorem storeRefused_effect (a : Access) (op : Nat) (s : State) : (respond a (.ok 0) (storeRefused op s)).cal.cmdStat = 3 ∧
    (respond a (.ok 0) (storeRefused op s)).cal.queue.length = s.cal.queue.length ∧
    (live (respond a (.ok 0) (storeRefused op s)) (calO PAGE_STAT)).field 15 8 = Nat.min ((live s (calO PAGE_STAT)).field 15 8 + 1) 255 := by
  have hcal : (respond a (.ok 0) (storeRefused op s)).cal = { (beginStcmd op s).cal with cmdStat := 3 } := by
    rw [(respond_only _ _ _).keeps .cal rfl]
    unfold storeRefused stcmdStat
    rw [modCal_cal, (refuse_only _ _).keeps .cal rfl]
  rw [hcal, live_respond]
  refine ⟨rfl, (beginStcmd_cal op s).2.2.1, ?_⟩
  exact field_refuse 0x06 (beginStcmd op s)

theorem respond_cal (a : Access) (x : Response) (s : State) : (respond a x s).cal = s.cal := (respond_only a x s).keeps .cal rfl

section
variable {s : State} {a : Access} (hawake : awake s = true) (hreach : reaches s a = true) (hsec : secure s a = true) (hst : s.cal.state = .ready)

include hawake hreach hsec hst in
theorem save_answers (hprog : s.cal.prog.isSome = true) (hlen : s.cal.queue.length < 16) (key : BitVec 4) :
    (s.cal.capture = false → ∃ t, exec (.calStcmdSave a 0 key) s = .next t ∧ t.cal.cmdStat = 1 ∧ t.cal.cmdOp = 1 ∧ t.cal.capture = true ∧
      t.cal.queue.getLast? = some ⟨1, 0, false, some (.sealed (savedList s false)), listSeal (savedList s false), true, true⟩) ∧
    (s.cal.capture = true → ∃ t, exec (.calStcmdSave a 0 key) s = .next t ∧ t.cal.cmdStat = 3 ∧ t.cal.queue.length = s.cal.queue.length ∧
      (live t (calO PAGE_STAT)).field 15 8 = Nat.min ((live s (calO PAGE_STAT)).field 15 8 + 1) 255) := by
  obtain ⟨k, hcommand⟩ := stCommand_save key s
  refine ⟨fun hcapt => ⟨_, secureCmd_ok hawake hreach hsec _, ?_⟩, fun hcapt => ⟨_, secureCmd_ok hawake hreach hsec _, ?_⟩⟩
  · have hsave : saveCmd 0 k s = calPush ⟨1, 0, false, some (.sealed (savedList s false)), listSeal (savedList s false), true, true⟩
        (stcmdStat 1 (beginStcmd 1 s)) :=
      (if_neg (show ¬ s.cal.capture = true by rw [hcapt]; decide)).trans rfl
    rw [hcommand, hsave, respond_cal]
    obtain ⟨hstat, hop, hcap, hlast⟩ := command_queued (op := 1) hst hprog hlen
      (r := ⟨1, 0, false, some (.sealed (savedList s false)), listSeal (savedList s false), true, true⟩) rfl
    exact ⟨hstat, hop, hcap.trans (Bool.or_true _), hlast⟩
  · have hsave : saveCmd 0 k s = storeRefused 1 s := if_pos (show s.cal.capture = true from hcapt)
    rw [hcommand, hsave]
    exact storeRefused_effect a 1 s

include hawake hreach hsec hst in
theorem scrub_answers : ∃ t, exec (.calStcmdScrub a []) s = .next t ∧ t.cal.cmdStat = 0 ∧ t.cal.cmdOp = 2 ∧ t.cal.scrubAt = s.cal.powered := by
  refine ⟨_, secureCmd_ok hawake hreach hsec _, ?_⟩
  have hframe : frameOf (scrub [] (beginStcmd 2 s)).cal = frameOf (modCal (fun c => { c with scrubAt := c.powered }) (beginStcmd 2 s)).cal :=
    scrub_frame (beginStcmd 2 s)
  rw [stCommand_scrub hst, respond_cal]
  generalize scrub [] (beginStcmd 2 s) = u at hframe
  simp only [frameOf, Prod.mk.injEq] at hframe
  obtain ⟨_, _, hop, _, hscrub, _⟩ := hframe
  exact ⟨rfl, hop, hscrub⟩

include hawake hreach hsec hst in
theorem tombstone_answers (hprog : s.cal.prog.isSome = true) (hlen : s.cal.queue.length < 16) (typ key : BitVec 4) :
    (payloadFits .empty typ.toNat key.toNat = true → ∃ t, exec (.calStcmdTombstone a typ key) s = .next t ∧ t.cal.cmdStat = 1 ∧
      t.cal.queue.getLast? = some ⟨typ.toNat, key.toNat, false, some .empty, 0, false, true⟩) ∧
    (payloadFits .empty typ.toNat key.toNat = false → ∃ t, exec (.calStcmdTombstone a typ key) s = .next t ∧ t.cal.cmdStat = 3 ∧
      t.cal.queue.length = s.cal.queue.length) := by
  refine ⟨fun hfits => ⟨_, secureCmd_ok hawake hreach hsec _, ?_⟩, fun hfits => ⟨_, secureCmd_ok hawake hreach hsec _, ?_⟩⟩
  · have htomb : tombstoneCmd typ.toNat key.toNat s = calPush ⟨typ.toNat, key.toNat, false, some .empty, 0, false, true⟩
        (stcmdStat 1 (beginStcmd 3 s)) := if_pos hfits
    rw [stCommand_tombstone, htomb, respond_cal]
    obtain ⟨hstat, _, _, hlast⟩ := command_queued (op := 3) hst hprog hlen (r := ⟨typ.toNat, key.toNat, false, some .empty, 0, false, true⟩) rfl
    exact ⟨hstat, hlast⟩
  · have htomb : tombstoneCmd typ.toNat key.toNat s = storeRefused 3 s :=
      if_neg (show ¬ payloadFits .empty typ.toNat key.toNat = true by rw [hfits]; decide)
    rw [stCommand_tombstone, htomb]
    obtain ⟨hstat, hqueue, _⟩ := storeRefused_effect a 3 s
    exact ⟨hstat, hqueue⟩

end

theorem discovery_ops {s : State} (hst : s.cal.state = .discover) : flashDiv s = 125 ∧ (s.cal.step = 0 → flashOps s = [flashOp 0x66, flashOp 0x99]) ∧
    (s.cal.step = 1 → flashOps s = [flashOp 0x9F]) ∧ (s.cal.step = 2 → flashOps s = [{ flashOp 0x5A with addr := some 0, dummies := 8 }]) := by
  unfold flashOps
  dsimp only
  rw [hst]
  dsimp only
  refine ⟨if_pos hst, fun h => ?_, fun h => ?_, fun h => ?_⟩ <;> rw [h] <;> rfl

/-- Settles O57. -/
theorem storeCommands : Obligations.StoreCommands := by
  refine ⟨⟨fun s hst => discovery_ops hst, fun s hst => if_neg hst, fun s hawake hst hstep htime => resetWait_ends hawake hst hstep htime,
      fun s id hawake hst hstep => jedec_answers hawake hst hstep id, fun s x hawake hst hstep => sfdp_answers hawake hst hstep x,
      fun s hs l hawake hst hqueue hredo hdrain hl => scan_empty hawake hst hqueue hredo hdrain hs hl,
      fun s hs l hawake hst hqueue hredo hdrain hcold hl => scan_full hawake hst hqueue hredo hdrain hcold hs hl,
      fun l typ key w hw => winnerRaw_spec hw⟩,
    fun s typ key hawake howed hst hprog hlen hnew => owed_queued hawake howed hst hprog hlen hnew,
    fun s r m hm => readBack_other s r hm, fun s p hawake hprog hpage => page_done hawake hprog hpage, fun s p hawake hprog hst => ⟨?_, ?_, ?_, ?_⟩,
    fun s p hawake hprog hst => failed_rediscovered hawake hprog hst, fun s i t0 hawake herase hprog => ⟨?_, ?_, ?_⟩,
    fun s i hawake hpick hst hprog herase hdrain hredo hnone => reclaim_begins hawake hpick hst hprog herase hdrain hredo hnone,
    fun s hawake hst htime hworn => scrub_due hawake hst htime hworn, fun s a key typ hawake hreach hsec hst hprog hlen => ?_⟩
  · exact fun hqueue hdrain hredo _ => readBack_good hawake hprog hst hqueue hdrain hredo
  · exact fun i hopen hdirty _ => failed_dirty hawake hprog hst hopen hdirty
  · exact fun i hopen hclean hfits herase => failed_clean hawake hprog hst hopen hclean hfits herase
  · exact fun htime => program_timeout hawake hprog htime
  · exact fun hst hqueue hredo hdrain => erase_done hawake herase hst hqueue hredo hdrain
  · exact fun hst => erase_failed hawake herase hst
  · exact fun htime => erase_timeout hawake herase hprog htime
  · obtain ⟨hfree, htaken⟩ := save_answers hawake hreach hsec hst hprog hlen key
    obtain ⟨hfits, hbad⟩ := tombstone_answers hawake hreach hsec hst hprog hlen typ key
    exact ⟨hfree, htaken, scrub_answers hawake hreach hsec hst, hfits, hbad⟩

end Sys2Proof.Machine
end
